-- ==== Sys2Proof/Word.lean ====
section
/-! DEFINITION. The words of the module (36-bit data words, 64-bit times), the sparse map every table of the state is held in,
and the shape of a register field and of a register heading (spec/00_scope.md, Registers and data words). -/

namespace Sys2Proof

/-- A 36-bit data word (R6). -/
abbrev Word36 := BitVec 36

/-- A table held sparsely: (index, value) pairs, indexes strictly rising, no pair holding the table's default value. -/
abbrev SMap (α : Type) := List (Nat × α)

/-- Access codes of Table GLB-2 (R9). -/
inductive Acc where
  | ro | rw | w1c | w1s | wo | rs
  deriving DecidableEq, Repr

/-- One named field of a register: its own number, the bit position and width in the register, its access code, whether it is
RT-locked (R26), its reset value, and the reset values of the instances that differ. -/
structure Fld where
  id : Nat
  lo : Nat
  width : Nat
  acc : Acc
  lock : Bool
  reset : Nat
  ovr : List (Nat × Nat)
  deriving DecidableEq, Repr

/-- The world attribute that stands in a register heading (R91 to R94). -/
inductive WorldCls where
  /-- readable by both worlds -/
  | both
  /-- secure -/
  | secure
  /-- secure for writing, readable by both -/
  | secureW
  /-- non-secure -/
  | nonsec
  /-- private to the core of its index -/
  | priv
  /-- world of block instance `base + mul * n`, n the first index (Table SEC-2) -/
  | attr (base mul : Nat)
  /-- world of lock k, k the second index -/
  | lockPage
  /-- world of event source s -/
  | source
  /-- world of event channel c -/
  | channel
  /-- world of the consumer of task input t -/
  | consumer
  /-- world and owner of the channel named in the written value -/
  | named
  deriving DecidableEq, Repr

/-- One register heading: W0 offset of instance 0, the (count, stride) of each index, whether it is a 64-bit data slot, its
world, whether any write returns it to its reset value (a counter), and its fields. -/
structure Reg where
  base : Nat
  dims : List (Nat × Nat)
  wide : Bool
  world : WorldCls
  counter : Bool
  flds : List Fld
  deriving DecidableEq, Repr

/-- Who makes an access (Table SEC-1). -/
inductive Master where
  | loader | s0 | s1 | pointing | core (k : Fin 6) | host | dataPath
  deriving DecidableEq, Repr

end Sys2Proof
end

