-- ==== Sys2Proof/Machine/Store.lean ====
section
/-! DEFINITION. Reading and writing the sparse maps of the state, and the small integer helpers every chapter uses. -/

namespace Sys2Proof.Machine

/-- The value of index `i`; `d` where nothing is listed. -/
def sget {α : Type} (d : α) : SMap α → Nat → α
  | [], _ => d
  | (k, v) :: m, i => if i = k then v else sget d m i

/-- Insert or replace the entry of index `i`, keeping the indexes rising. -/
def sput {α : Type} (i : Nat) (v : α) : SMap α → SMap α
  | [] => [(i, v)]
  | (k, w) :: m => if i < k then (i, v) :: (k, w) :: m else if i = k then (i, v) :: m else (k, w) :: sput i v m

/-- Remove the entry of index `i`. -/
def sdel {α : Type} (i : Nat) : SMap α → SMap α
  | [] => []
  | (k, w) :: m => if i = k then sdel i m else (k, w) :: sdel i m

/-- Write index `i`: the default value is never listed. -/
def sset {α : Type} [DecidableEq α] (d : α) (m : SMap α) (i : Nat) (v : α) : SMap α :=
  if v = d then sdel i m else sput i v m

/-- Indexes strictly rising from above `lo`. -/
def srisingFrom {α : Type} : Nat → SMap α → Bool
  | _, [] => true
  | lo, (k, _) :: m => decide (lo < k) && srisingFrom k m

/-- Indexes strictly rising. -/
def srising {α : Type} : SMap α → Bool
  | [] => true
  | (k, _) :: m => srisingFrom k m

/-- The canonical form: indexes strictly rising, no default value listed. -/
def swf {α : Type} [DecidableEq α] (d : α) (m : SMap α) : Bool :=
  srising m && m.all fun p => decide (p.2 ≠ d)

/-- The field's reset value in instance `i` (R11). -/
def fldReset (f : Fld) (i : Nat) : Nat :=
  match f.ovr with
  | [] => f.reset
  | o => sget f.reset o i

/-- Where instance `i` of a field stands in `State.regs`. -/
def fldKey (f : Fld) (i : Nat) : Nat := f.id * 0x400000 + i % 0x400000

/-- 1 for true. -/
def b2n (b : Bool) : Nat := if b then 1 else 0

/-- Bits [hi:lo] of `x`. -/
def bits (x hi lo : Nat) : Nat := x / 2 ^ lo % 2 ^ (hi + 1 - lo)

/-- Bit `k` of `x`. -/
def bit (x k : Nat) : Bool := x / 2 ^ k % 2 == 1

/-- The value of a `w`-bit two's complement field. -/
def sgn (w x : Nat) : Int :=
  let y := x % 2 ^ w
  if y < 2 ^ (w - 1) then (y : Int) else (y : Int) - (2 ^ w : Nat)

/-- wrap(x, w) of the listings: x mod 2^w. -/
def wrapI (x : Int) (w : Nat) : Nat := (x % ((2 ^ w : Nat) : Int)).toNat

/-- The listing narrow of R12: round half to even while dropping `drop` bits, then saturate to `w` signed bits; the flag. -/
def narrow (x : Int) (drop w : Nat) : Int × Bool :=
  let p : Int := ((2 ^ drop : Nat) : Int)
  let q0 := x / p
  let r := x - q0 * p
  let half : Int := ((2 ^ (drop - 1) : Nat) : Int)
  let q := if drop > 0 ∧ (r > half ∨ (r = half ∧ q0 % 2 = 1)) then q0 + 1 else q0
  let hi : Int := ((2 ^ (w - 1) : Nat) : Int) - 1
  let lo : Int := -((2 ^ (w - 1) : Nat) : Int)
  if q > hi then (hi, true) else if q < lo then (lo, true) else (q, false)

/-- Round half to even of the quotient `x / n`, n > 0 (used by the listings that divide by other than a power of two). -/
def divEven (x : Int) (n : Nat) : Int :=
  let q := x / (n : Int)
  let r := 2 * (x - q * (n : Int))
  if r > (n : Int) ∨ (r = (n : Int) ∧ q % 2 = 1) then q + 1 else q

/-- Is serial number `a` earlier than `b`, as RFC 1982 compares `w`-bit numbers? -/
def serialBefore (w a b : Nat) : Bool :=
  let d := (b + 2 ^ w - a % 2 ^ w) % 2 ^ w
  decide (1 ≤ d ∧ d < 2 ^ (w - 1))

/-- gen_later(a, b) of R45. -/
def genLater (a b : Nat) : Bool := serialBefore 16 b a

/-- Does the bit set `m` (bit k set: code k) hold code `k`? The lowest of the set, if any. -/
def lowestOf : List Nat → Option Nat
  | [] => none
  | a :: l => match lowestOf l with
    | none => some a
    | some b => some (min a b)

end Sys2Proof.Machine
end

