-- ==== Sys2Proof/Machine/Types.lean ====
section
/-! DEFINITION. The shapes of the state that is not registers: harvest entries and points, records, tone slots, plays, frames,
Chisel waits and the like. Plain data, each with the rule that gives it. -/

namespace Sys2Proof.Machine

/-- A set of taint bits, each with its cause: bit number ↦ BLOCK × 4096 + INSTANCE of Table GLB-39 (R31, R481). -/
abbrev Taint := SMap Nat

/-- An entry of a harvested value queue (R18 to R20): tag, 36-bit value, the tick on which it became visible. -/
structure HEntry where
  tag : Nat
  value : Nat
  vis : Nat
  deriving DecidableEq, Repr

/-- What the present cycle has seen so far: the model's own bookkeeping for the rules that say what happens when two things fall on one
cycle. W1C bits hardware set, by field key (R10); W1S bits software set, with the value before plus one (R10); world attributes written, with their values at the start of
the cycle plus one (R92); the MASTER code of the violation captured (R92); channels with a refused real-time firing (R337);
event-harvest points whose channel fired, with the latch before it plus one (R346); mailbox ends whose RXSTAT or RX was read (R351). -/
structure Cycle where
  hwSet : SMap Nat := []
  swSet : SMap Nat := []
  world : SMap Nat := []
  viol : Option Nat := none
  refused : List Nat := []
  evh : SMap Nat := []
  rxRead : List Nat := []
  deriving DecidableEq, Repr

/-- A declared harvest point (R49, R50): queue, position, kind (0 parameter, 1 event-harvest bit), slack, channel, default. -/
structure HPoint where
  queue : Nat
  pos : Nat
  kind : Nat
  slack : Nat
  chan : Nat
  dflt : Nat
  cut : Nat := 0
  deriving DecidableEq, Repr

/-- An accepted real-time firing on its way to its consumers (R25, R341). -/
structure Firing where
  ch : Nat
  tick : Nat
  deriving DecidableEq, Repr

/-- A result record (R244): the epoch of its stamp and its six words. -/
structure Rec where
  epoch : Nat
  words : List Nat
  deriving DecidableEq, Repr

/-- A result block (R377): its records, FLAGS and DROPPED of its header. -/
structure Block where
  recs : List Rec
  flags : Nat
  dropped : Nat
  deriving DecidableEq, Repr

/-- A result queue (R376, R377): records waiting, the open block and the tick of its first record, the closed blocks not yet written,
records dropped since the last block. -/
structure RQueue where
  waiting : List Rec := []
  openBlk : List Rec := []
  openedAt : Nat := 0
  closed : List Block := []
  dropped : Nat := 0
  at_ : Nat := 0
  cnt : Nat := 0
  deriving DecidableEq, Repr

/-- A service arbiter beyond its registers (R368 to R374): the cycle of the next decision, OWED, AGE and BACKOFF, the draw register, who
was granted the coming beat (a lottery requester, or 16 for a reserved owner), the locked sequence and its beats, a seed to load. `on` says that HBM
is trained; `wait` holds the waiting sources of the pools (pool, source), oldest first, `served` the source of the pool beat granted (R367). -/
structure Arb where
  on : Bool := false
  wait : List (Nat × Nat) := []
  served : Option Nat := none
  cycle : Nat := 0
  owed : List (Nat × Nat) := []
  age : List Nat := []
  backoff : List Nat := []
  lfsr : Nat := 1
  grant : Option Nat := none
  resGrant : Nat × Nat := (0, 0)
  lockOwner : Option Nat := none
  lockBeats : Nat := 0
  seed : Option Nat := none
  deriving DecidableEq, Repr

/-- A bulk packet (R411, Table LAN-1). -/
structure Pkt where
  vc : Nat
  kind : Nat
  dest : Nat
  addr : Nat
  data : List Nat
  src : Nat
  tag : Nat
  deriving DecidableEq, Repr

/-- A reserved-payload sum at the receiver (R410): interval, CRC so far, whether it may be compared, publication time of its first frame. -/
structure RxSum where
  interval : Nat
  crc : Nat
  ok : Bool
  first : Option Nat
  deriving DecidableEq, Repr

/-- A system lane beyond its registers. When it entered HUNT and whether it has been in UP since (R397). Transmitter: the tick of FC 0, the next TRAIN index, the line bits of this tick, control frames
waiting (a STATUS index, or a payload), bulk packets waiting and the frames of the one in progress, credits, the sums of its intervals
(R391 to R410). Receiver: its copy of the partner's FC and the offset of the partner's time from it, A at INDEX 1 of the TRAIN block in progress, the frames sent that an
internal loopback has yet to receive, that block and the one before, header history, A values, release buffer, outcomes due for publication, bulk frames, frames owed, sums (R394 to R413).
The PRBS checker (R417). -/
structure Lan where
  enAt : Nat := 0
  huntAt : Nat := 0
  wasUp : Bool := false
  idx : Nat := 0
  line : List Bool := []
  ctl : List (Bool × Nat) := []
  bulk : List Pkt := []
  frames : List (Bool × Nat) := []
  cr0 : Nat := 64
  cr1 : Nat := 64
  txSum : List (Nat × Nat) := []
  fwd : Option (Nat × Option Nat) := none
  gapTo : Nat := 0
  pfc : Option Nat := none
  stOff : Nat := 0
  aAt : Int := 0
  sent : List (List Bool) := []
  cur : List Nat := []
  prev : List Nat := []
  ack : Bool := false
  ackSent : Bool := false
  ackGot : Bool := false
  as_ : List Int := []
  tries : Nat := 0
  hdrs : List Bool := []
  rel : List (Nat × Option Nat) := []
  due : List (Nat × Nat × Nat) := []
  rx : Option (Nat × List Nat) := none
  pkts : List (Nat × List Nat × Nat) := []
  owe0 : Nat := 0
  owe1 : Nat := 0
  oweAt : Nat := 0
  rxSum : List RxSum := []
  toks : List Nat := []
  prbs : List Bool := []
  prbsErr : List Bool := []
  prbsBits : Nat := 0
  deriving DecidableEq, Repr

/-- The bulk descriptor in progress (R414): its fields, the beats answered, whether every request has been sent and when. -/
structure BqCur where
  op : Nat
  dest : Nat
  beats : Nat
  local_ : Nat
  remote : Nat
  answered : Nat
  sentAt : Nat
  deriving DecidableEq, Repr

/-- A host command with its arguments (R386). -/
structure HostCmd where
  op : Nat
  seq : Nat
  args : List Nat
  deriving DecidableEq, Repr

/-- An MSI-X table entry (R383): address and data the host wrote, its mask bit, its pending bit, messages sent. -/
structure Msix where
  addr : Nat := 0
  data : Nat := 0
  masked : Bool := true
  pend : Bool := false
  sent : Nat := 0
  deriving DecidableEq, Repr

/-- The clock block beyond its registers: the last SYNC pulse, its rising tick plus one, the tick it is sampled low again and its classification
tick (R105); when the relock attempt began (R117); |ERR| was above the drift limit (R114); when CLK_PHASE last moved, plus one (R99); the
recent ticks on which a clock alarm was active (R116, R328). Times are in 2.5 ns since power-on, ticks are local. -/
structure ClkSt where
  syncC : Nat := 0
  syncLow : Nat := 0
  syncK : Nat := 0
  relockAt : Nat := 0
  drift : Bool := false
  phaseAt : Nat := 0
  alarms : List Nat := []
  deriving DecidableEq, Repr

/-- A skew run in progress (R111): MODE 1, the pass, the sum and count of its mean, the taps still to move, when the 1 µs after the last tap
is over. -/
structure Skew where
  align : Bool := false
  pass : Nat := 0
  sum : Int := 0
  cnt : Nat := 0
  moves : Int := 0
  due : Nat := 0
  deriving DecidableEq, Repr

/-- What a Chisel waits for (R132 to R134). -/
inductive ChsWait where
  | none
  /-- until tick `r` -/
  | until_ (r : Nat)
  /-- WAITT: input, destination, issue tick, timeout tick -/
  | edge (tin dest t tmo : Nat)
  /-- LBAR: barrier, timeout tick -/
  | bar (b tmo : Nat)
  deriving DecidableEq, Repr

/-- A BRD whose deadline has not come (R137). -/
structure Brd where
  d : Nat
  lo : Nat
  two : Bool
  value : Nat
  sense : Bool
  target : Nat
  pc : Nat
  deriving DecidableEq, Repr

/-- The sequencing state of a Chisel: next address, reference tick, minimum Δt, wait, pending BRD, instructions left to abandon. -/
structure Chs where
  next : Nat := 0
  ref : Nat := 0
  minDt : Nat := 0
  wait : ChsWait := .none
  brd : Option Brd := none
  deriving DecidableEq, Repr

/-- A binding of a tone slot (R185): frame, amplitude (16 raw bits), phase, Pauli term. -/
structure Bind where
  frame : Nat := 0
  amp : Nat := 0
  pp : Nat := 0
  z : Bool := false
  deriving DecidableEq, Repr

/-- A TABLE on its way to a sequencer: entry, binding, PC (R140, R158). -/
structure TabReq where
  entry : Nat
  bind : Bind
  pc : Nat
  at_ : Nat
  deriving DecidableEq, Repr

/-- The action a decision point has chosen (R155). -/
inductive TabAct where
  | none
  /-- return to program control -/
  | leave
  /-- a run under a re-point request -/
  | repoint (r : TabReq)
  /-- a run of a jump target -/
  | jump (e : Nat)
  /-- the entry again -/
  | again
  /-- a run of NEXT -/
  | next
  deriving DecidableEq, Repr

/-- A segment in progress on a slot (R139, R154): start tick, granules, source and start granule (or channel), the marker mask and
width fired at its start, whether it is of table mode, the Pauli record of a PT PLAY. -/
structure Seg where
  s : Nat
  len : Nat
  stream : Bool
  start : Nat
  bind : Bind
  table : Bool
  pauli : Option Nat
  markers : Nat
  mkWidth : Nat
  pc : Nat
  deriving DecidableEq, Repr

/-- A granule of a slot's envelope stream (R181): first envelope tick, 16 envelope words, amplitude. -/
structure Gran where
  s : Nat
  words : List Nat
  amp : Nat
  deriving DecidableEq, Repr

/-- A tone slot with its sequencer (R139, R140, R154 to R162). -/
structure Slot where
  busyTo : Nat := 0
  segs : List Seg := []
  occE : Nat := 0
  req : TabReq := ⟨0, {}, 0, 0⟩
  hand : Option TabReq := none
  repoint : Option TabReq := none
  latchTo : Nat := 0
  act : TabAct := .none
  gapsSeen : List Nat := []
  grans : List Gran := []
  binds : List (Int × Bind) := []
  cutAt : Nat := 0
  done : Bool := false
  deriving DecidableEq, Repr

/-- A frame context (R171): F, PHI, T0. -/
structure Frm where
  f : Nat := 0
  phi : Nat := 0
  t0 : Nat := 0
  deriving DecidableEq, Repr

/-- A frame operation from its effect tick on (R142, R143, R177). -/
inductive FrmFn where
  | shift (a : Nat)
  | set (f phi t0 : Nat)
  | reset (t0 : Nat)
  deriving DecidableEq, Repr

/-- A frame operation on frame `key` with its effect tick. -/
structure FrmOp where
  key : Nat
  at_ : Nat
  fn : FrmFn
  deriving DecidableEq, Repr

/-- A granule in a stream partition (R165): its index, words, and the tick it became visible on. -/
structure StmGran where
  idx : Nat
  words : List Nat
  vis : Nat
  deriving DecidableEq, Repr

/-- A gap window declaration (R53). -/
structure Gap where
  start : Nat
  length : Nat
  cls : Nat
  every : Nat
  first : Nat
  count : Nat
  deriving DecidableEq, Repr

/-- A fast line beyond its registers: the gain-stage samples of the last ticks with their saturation flags (newest first), the DAC
codes on their way to the connector (connector tick, 32 codes), the codes at the loopback tap and at the connector on this tick,
the mute (R193, R194), the governor's Fg of the last ticks and its energy sums (R214, R215). -/
structure Line where
  ws : List (List Int × Nat) := []
  out : List (Nat × List Int × Nat) := []
  tap : List Int := []
  pin : List Int := []
  live : Bool := false
  muteFrom : Nat := 0
  passFrom : Nat := 0
  settleEnd : Nat := 0
  fgs : List Nat := []
  fgTick : Nat := 0
  energy : Nat := 0
  sub : List Nat := []
  ms : List Nat := []
  dms : List Nat := []
  due : Nat := 0
  overs : Nat := 0
  under : Bool := false
  deriving DecidableEq, Repr

/-- A bias output beyond its registers (R200, R208, R209): the target as it stood before this tick's BIAS, the code at the ladder
and the codes on their way to it, the phase of a re-cast move, the end of a zero hold, its series switch, the effective step when a switch
phase began (R87). -/
structure Bias where
  prev : Nat := 0
  prevTick : Nat := 0
  ladder : Nat := 0
  later : List (Nat × Nat) := []
  move : Nat := 0
  holdEnd : Nat := 0
  closed : Bool := false
  step : Nat := 0
  deriving DecidableEq, Repr

/-- A demodulator window (R235): opening tick, length in decimated samples, ordering Chisel and PC, its shot taint, issue tick,
shot counter, the start of the window in schedule time; the state and taint to publish once its result is formed. -/
structure Win where
  o : Nat
  len : Nat
  chisel : Nat
  pc : Nat
  taint : Taint
  issued : Nat
  shot : Nat
  t0 : Nat
  opened : Bool := false
  result : Option (Nat × Taint) := none
  flags : Nat := 0
  deriving DecidableEq, Repr

/-- The Patina deltas that apply from connector tick `from_` on (R226). -/
structure Pat where
  from_ : Nat
  off : List Int
  gain : List Int
  deriving DecidableEq, Repr

/-- The correction values of an input as they applied to the samples before connector tick `upto` (R224, R225): OFF_BASE and GAIN_BASE of the
slices, the coefficients, OFF, and the settling in progress. -/
structure Corr where
  upto : Nat
  off : List Nat
  gain : List Nat
  fir : List Nat
  dead : Bool
  settleFrom : Nat
  settleEnd : Nat
  deriving DecidableEq, Repr

/-- Patina of an input beyond its registers: samples since the restart, computed deltas, applied deltas (newest first), the CONV
tick plus one, the settling in progress, earlier correction values (newest first). -/
structure Patina where
  count : Nat := 0
  off : List Int := []
  gain : List Int := []
  hist : List Pat := []
  convAt : Nat := 0
  settleFrom : Nat := 0
  settleEnd : Nat := 0
  lastAt : Nat := 0
  base : List Corr := []
  deriving DecidableEq, Repr

/-- A parity round in progress (R296): its number, the local and schedule time of E, the shot, the check values, the neighbourhood
inputs, unpublished inputs, its taint without CLOCK; detection events and decoder indexes once formed. -/
structure Round where
  num : Nat
  e : Nat
  stamp : Nat
  shot : Nat
  vals : List Bool
  bits_ : List (List Bool)
  unpub : Nat
  taint : Taint
  first : Bool := false
  events : List Bool := []
  idx : List Nat := []
  formed : Bool := false
  deriving DecidableEq, Repr

/-- Where a Caliper write goes (Table CLP-3). -/
inductive CTarget where
  | x (k : Nat)
  | p (k : Nat)
  | m (k : Nat)
  | mem (a : Nat)
  /-- the accumulator as STA sees it -/
  | acc (k : Nat)
  deriving DecidableEq, Repr

/-- A Caliper write that instructions issued on cycle `at_` or later see; whether HINC made it. -/
structure CWrite where
  at_ : Nat
  to_ : CTarget
  value : Nat
  hinc : Bool := false
  deriving DecidableEq, Repr

/-- A word in a deposit queue (R268, R269): channel, value, taint, address where the channel gives it, whether it fires the channel's
event input. -/
structure DepWord where
  at_ : Nat
  ch : Nat
  value : Nat
  taint : Taint
  addr : Option Nat
  w : Nat
  last : Bool
  deriving DecidableEq, Repr

/-- A loop of a Caliper (R260): first address of the body, END, iterations left. -/
structure CLoop where
  start : Nat
  end_ : Nat
  count : Nat
  deriving DecidableEq, Repr

/-- A Caliper beyond its registers: sequencing (R252, R256 to R261), writes on their way, accumulators, deposit queue (R269), events
on their way (R271), PUB values of the shot (R276), the restore of its data memory (R253). Cycles are local: 2 × tick + half. -/
structure Clp where
  next : Nat := 0
  cyc : Nat := 0
  delay : Nat := 0
  dTo : Option Nat := none
  dRet : Bool := false
  rep : Nat := 0
  repPc : Bool := false
  loops : List CLoop := []
  susp : Nat := 0
  pend : List CWrite := []
  acc : List Nat := []
  accV : List Nat := []
  depQ : List DepWord := []
  depCyc : Nat := 0
  depAt : Nat := 0
  depAddr : Nat := 0
  drop : Nat := 0
  evDue : List (Nat × Nat) := []
  waitRem : Option (Nat × Nat) := none
  waitPc : Nat := 0
  pubs : List (Nat × Nat × Bool × Taint) := []
  waitAt : Nat := 0
  wake : Nat := 0
  restoring : Bool := false
  deriving DecidableEq, Repr

/-- What one tick was for a capture unit (R308, R310): the tick, its schedule time and shot counter, whether a shot starts on it, the
tap codes (SRC 2) or the decision word (SRC 3), the taint a sample of the tick carries beyond OVR, UNCONV and CLOCK, whether a clock alarm was
active. -/
structure CapTick where
  tick : Nat
  now : Nat
  shot : Nat
  start : Bool
  vals : List Int
  taint : Taint
  clk : Bool
  deriving DecidableEq, Repr

/-- A capture record in progress (R315, R319): its header fields, first and last kept sample, first and last word, capture tick of the
first sample, end tick, slot. -/
structure CapRec where
  slot : Option Nat
  x : Nat
  shot : Nat
  mask : Nat
  h4 : Nat
  tinf : Bool
  number : Nat
  dead : Nat
  rej : Nat
  qf : Nat
  ql : Nat
  wf : Nat
  wl : Nat
  t0 : Nat
  endT : Nat
  taint : Taint
  deriving DecidableEq, Repr

/-- A block or a header in a capture queue (R318): HBM address of each word, the words, the slot counter a header carries. -/
structure CapOut where
  hdr : Bool
  words : List (Nat × Nat)
  ws : Nat
  deriving DecidableEq, Repr

/-- The last block of a record that has ended, whose last word waits for its second sample (R315, R318): slot, word, words so far. -/
structure CapTail where
  slot : Nat
  w : Nat
  words : List (Nat × Nat)
  deriving DecidableEq, Repr

/-- A capture unit beyond its registers (R311 to R321). -/
structure Cap where
  hist : List CapTick := []
  armT : Nat := 0
  kept : Nat := 0
  ru : Nat := 0
  rd : Nat := 0
  slot : Option Nat := none
  rec_ : Option CapRec := none
  prevEnd : Option Nat := none
  rej : Nat := 0
  lost : Nat := 0
  ws : Nat := 0
  half : Int := 0
  lastW : Nat := 0
  blk : List (Nat × Nat) := []
  out : List CapOut := []
  sent : List CapOut := []
  drops : List Nat := []
  taints : List (Nat × Taint) := []
  clocks : List Nat := []
  nextQ : Nat := 0
  tail : Option CapTail := none
  holdAt : Nat := 0
  deriving DecidableEq, Repr

/-- A stamped edge of a timing input (R326): input, local tick e, fine field. -/
structure Edge where
  tin : Nat
  e : Nat
  fine : Nat
  deriving DecidableEq, Repr

/-- An interval engine (R331): 0 idle, 1 armed, 2 measuring; arm tick, start tick and position, stamp of the start, intervals. -/
structure Ivl where
  st : Nat := 0
  arm : Nat := 0
  e0 : Nat := 0
  pos0 : Nat := 0
  stamp : Nat := 0
  ivs : List Nat := []
  startHi : Nat := 0
  intHi : List Nat := []
  deriving DecidableEq, Repr

/-- A frequency engine (R332): 0 idle, 1 gate open, 2 computing; the gate, edges so far, the sums over the used edges, results. -/
structure Frq where
  st : Nat := 0
  g0 : Nat := 0
  g : Nat := 0
  n : Nat := 0
  used : Nat := 0
  s0 : Nat := 0
  sm : Nat := 0
  st_ : Nat := 0
  smm : Nat := 0
  smt : Nat := 0
  stt : Nat := 0
  start : Nat := 0
  startHi : Nat := 0
  period : Nat := 0
  freq : Nat := 0
  deriving DecidableEq, Repr

/-- A mailbox entry (R348): word, sender, the sender's reset epoch at the write. -/
structure MbxEnt where
  word : Nat
  sender : Nat
  epoch : Nat
  deriving DecidableEq, Repr

/-- An event-harvest entry the harvest agent has written (R346): the tick it becomes visible on, its queue, tag and value. -/
structure EvhEnt where
  vis : Nat
  queue : Nat
  tag : Nat
  value : Nat
  deriving DecidableEq, Repr

/-- A marker operation on its way to the pin (R145, R160): marker, pin tick, action 0 to 3, pulse width, whether it is a MARK. -/
structure MkOp where
  m : Nat
  at_ : Nat
  act : Nat
  width : Nat
  mark : Bool
  deriving DecidableEq, Repr

/-- A conversion in progress of the monitor ADC (R437, R440): its user (1 sequence, 2 injected, 3 Pointing), the entry or instance it is for,
its channel, the time it ends. -/
structure MonConv where
  user : Nat
  idx : Nat
  chan : Nat
  due : Nat
  deriving DecidableEq, Repr

/-- An entry of the monitor ADC at work (R437 to R439): its number, the time it started, conversions done, their sum. -/
structure MonJob where
  idx : Nat
  start : Nat
  n : Nat := 0
  sum : Int := 0
  deriving DecidableEq, Repr

/-- The monitor ADC beyond its registers: the conversion in progress, the entry of the pass that runs, the start of the next pass plus
one, injected entries at work, PLAY starts that wait for DELAY (R438 to R440). -/
structure Mon where
  cur : Option MonConv := none
  seq : Option MonJob := none
  nextPass : Nat := 0
  inj : List MonJob := []
  deriving DecidableEq, Repr

/-- One instance of a Pointing run (R425, R426): stage (0 waiting, 1 measuring, 2 accepted and waiting to commit, 3 committing, 4 accepted,
5 failed), attempt, the first measurement of the attempt, the deltas to commit, the resource switched, when the measurement began, conversions
left, points done (BIAS_TRIM), the causes at its start, the next step of the commit; barred until the occurrence ends (R424, R429). -/
structure PInst where
  n : Nat
  stage : Nat := 0
  try_ : Nat := 1
  m1 : Option (List Int) := none
  d : List Int := []
  act : Bool := false
  t0 : Nat := 0
  conv : Nat := 0
  pts : Nat := 0
  snap : Nat := 0
  step : Nat := 0
  barred : Bool := false
  deriving DecidableEq, Repr

/-- A Pointing run (R431, R432): mode, item, whether the host started it, when TIMEOUT passes, whether channel 37 was read, whether TIMEOUT
passed, the code that ends it early, its instances. -/
structure Pnt where
  mode : Nat
  item : Nat
  host : Bool
  deadline : Nat
  refOk : Bool
  timed : Bool := false
  endCode : Option Nat := none
  insts : List PInst
  deriving DecidableEq, Repr

/-- What S0 saves of the governor of a line in STANDBY (R447). -/
structure GovSave where
  energy : Nat
  sub : List Nat
  ms : List Nat
  dms : List Nat
  tgt : Nat
  fg : Nat
  tripped : Bool
  deriving DecidableEq, Repr

/-- A boot operation in progress (R84 to R86, R362): its code in BOOT_STATUS.OP, what it writes (0 an image, 1 firmware), whether a host command
waits for it, the code it will end with (none: the write has begun in `slot` with SEQ `seq`), the GENERATION of a refused image, for a
re-cast its candidate slot and whether its verify phase has passed, and whether a diode left the window of R80 while a write was in progress. -/
structure BootOp where
  op : Nat
  what : Nat := 0
  host : Bool := false
  code : Nat := 0
  slot : Nat := 0
  seq : Nat := 0
  gen : Nat := 0
  verified : Bool := false
  hot : Bool := false
  deriving DecidableEq, Repr

/-- Pointing (R418 to R435). -/
structure PntSt where
  /-- the run in progress (R431) -/
  run : Option Pnt := none
  /-- user deltas, 16-bit, by item, zone, SUB and instance (R420, R434) -/
  delta : SMap Nat := []
  /-- applied deltas, 16-bit, of items that no register shows (Table PNT-1) -/
  trim : SMap Nat := []
  /-- the last switching of the SYNC receiver: from and to, each plus one (R113) -/
  syncOff : Nat × Nat := (0, 0)
  /-- a SYNC pulse arrived while the receiver was switched (R424) -/
  syncHit : Bool := false
  /-- the receiver is to return as soon as R113 lets it switch -/
  syncDue : Bool := false
  /-- bias outputs whose series switches close once the DAC has settled for 20 µs: when, plus one (R423) -/
  closing : SMap Nat := []
  deriving DecidableEq, Repr

/-- Power states and supplies (R443 to R454). -/
structure PwrSt where
  /-- the request that waits: 1 HOLD, 2 RUN, 3 STANDBY (R445 to R447) -/
  req : Nat := 0
  /-- the tick a request is visible on the real-time side (R18) -/
  reqAt : Nat := 0
  /-- the host command that waits for it: 1 SET_RUNSTATE, 2 SET_POWER -/
  host : Nat := 0
  /-- governor state saved in STANDBY (R447) -/
  govSave : SMap (Option GovSave) := []
  /-- a supply fault is in progress (R451) -/
  fault : Bool := false
  /-- when the bias series switches open, plus one (R71, Table THM-1) -/
  openAt : Nat := 0
  /-- the main rails are dropping since then, plus one (R450) -/
  dropAt : Nat := 0
  /-- when the rail that rises was enabled (R449) -/
  railAt : Nat := 0
  /-- a rail failed: the loader is held in RESET (R449) -/
  railHeld : Bool := false
  /-- RESET_N is low (R71) -/
  resetLow : Bool := false
  /-- the first tick of RUN (R124) -/
  runE : Nat := 0
  /-- the 48 V input and the standby rail as last measured, in mV (R446, R451, R466) -/
  mv48 : Nat := 48000
  mv33 : Nat := 3300
  /-- every diode sensor reads within 0 to 90 °C, as last evaluated (R80) -/
  cool : Bool := true
  deriving DecidableEq, Repr

/-- Casting (R70 to R96). -/
structure BootSt where
  /-- the reset cause for CAST_START: 1 power-on, 2 RESET_N, 3 recovery cast; 0 on leaving STANDBY (R448, Table BOOT-5) -/
  cause : Nat := 1
  /-- when the cast or switch phase began (BOOT_CAST_TIME) -/
  castT0 : Nat := 0
  /-- when CONNECT was entered, plus one; 0 once the outputs are connected (R82) -/
  connAt : Nat := 0
  /-- image slots still to try, highest SEQ first; the first is the candidate (R78) -/
  cand : List Nat := []
  /-- the code that refused the last candidate (R78) -/
  last : Nat := 0
  /-- the boot operation in progress (R85) -/
  op : Option BootOp := none
  /-- GENERATION of the image whose tables are loaded (R47, R403) -/
  gen : Nat := 0
  /-- SHA-384 of the running image (R46) -/
  runHash : Nat := 0
  /-- an image is running (R46) -/
  hasRun : Bool := false
  /-- USER_KEY of the running image: X, then Y (R48) -/
  userKey : Nat := 0
  /-- ROLLBACK_PERMIT of the running image (R46) -/
  rollback : Bool := false
  /-- public keys of the OTP key slots 1 to 3 (R96) -/
  otpKeys : SMap Nat := []
  /-- the OTP operation in progress: OP and slot (R96) -/
  otpOp : Option (Nat × Nat) := none
  /-- the firmware slot that runs (R448) -/
  fw : Option Nat := none
  /-- the address each Plinth core last started at (R362) -/
  entry : SMap Nat := []
  deriving DecidableEq, Repr

/-- The I²C responder (R466, R467). -/
structure I2cSt where
  /-- the pointer P -/
  ptr : Nat := 0
  /-- copies of hub registers, words 0x04 to 0x09 -/
  copy : List Nat := []
  /-- when the standby rail was applied (Table GLB-33) -/
  t0 : Nat := 0
  deriving DecidableEq, Repr

end Sys2Proof.Machine
end

