-- ==== Sys2Proof/Syntax.lean ====
section
/-! DEFINITION. The commands of the block: one constructor per row of spec/opcode_table.json, with the operands the row needs. A
command that is one thing happening at a tick names the instance it happens to; one that comes from outside carries what comes. -/

namespace Sys2Proof

open Sys2Proof.Machine

/-- The commands, in the order of spec/opcode_table.json. -/
inductive Instr where
  /-- POWER_ON_RESET: Power is applied; every die is reset, fast outputs are muted and bias outputs are disconnected until CONNECT (R70). -/
  | powerOnReset
  /-- RESET_N_LOW: A low level on RESET_N of 1 µs or more resets the module, mutes fast outputs, steps bias outputs to park and enters RESET (R71). -/
  | resetNLow
  /-- SWITCH_OPEN_DELAY: 10 µs after RESET_N went low on a cast module, every bias series switch opens (R71). -/
  | switchOpenDelay
  /-- RESET_RELEASE: RESET_N is high and the standby rail is good, so the loader leaves RESET for RAILS (R73). -/
  | resetRelease
  /-- RAILS_UP: Each main rail, in order, is good after its enable; once all are good the loader enters FIRMWARE (R449). -/
  | railsUp
  /-- RAIL_TIMEOUT: A rail is not good within 2 ms of its enable; RAIL_FAULT sets, the rails already raised drop and the loader is held in RESET (R449). -/
  | railTimeout
  /-- FIRMWARE_VERIFY: The boot ROM selects and verifies a firmware slot, starts the cores and trains HBM, then enters SELECT, or enters NO_IMAGE with code 0x25 (R362). -/
  | firmwareVerify (fallback : Bool)
  /-- SLOT_SELECT: The loader reads the image slot headers, classifies each slot and orders the candidates, or enters NO_IMAGE (R78). -/
  | slotSelect
  /-- IMAGE_VERIFY: The header and directory checks and the secure signature check of the candidate are completed; the loader enters LOAD or moves to the next candidate (R81). -/
  | imageVerify
  /-- IMAGE_LOAD: The secure and non-secure sections are loaded, the non-secure signature and content checks run, and INIT records are applied (R81). -/
  | imageLoad
  /-- CONNECT: Each bias output is set to its park span and code, settles, connects and latches its park code; then the module enters CAST and RUN (R82). -/
  | connect
  /-- BOOT_STAGE_IMAGE: BOOT_CMD.OP 1 starts staging: the image is copied from HBM, fully checked and, if accepted, journaled into the non-running image slot (R84). -/
  | bootStageImage (m : Master)
  /-- STAGE_COMPLETE: A staging operation ends with STAGE_DONE or STAGE_REFUSED, LAST_CODE and BOOT_OP_DONE (R84). -/
  | stageComplete (io : Fin 4)
  /-- BOOT_RECAST: BOOT_CMD.OP 2 starts the verify phase of a re-cast of the highest VALID image slot (R86). -/
  | bootRecast (m : Master)
  /-- RECAST_VERIFY_DONE: The verify phase ends; on failure the re-cast ends with its code, otherwise it waits for the switch time (R86). -/
  | recastVerifyDone
  /-- SWITCH_START: On the first shot start at or after the switch time the module enters SWITCH and HOLD, mutes, parks and reloads the candidate (R87). -/
  | switchStart (mismatch : Bool)
  /-- SWITCH_DONE: When every bias output has arrived at its new park code the module enters CAST and the new schedule starts (R87). -/
  | switchDone
  /-- BOOT_STAGE_FIRMWARE: BOOT_CMD.OP 3 writes a staged firmware image into the other firmware slot (R362). -/
  | bootStageFirmware (m : Master)
  /-- BOOT_FLUSH_LOG: BOOT_CMD.OP 4 writes pending boot log entries to the boot log slot pair by a journaled write (R89). -/
  | bootFlushLog (m : Master)
  /-- OTP_PROGRAM: SEC_OTP_CTRL.GO with OP 1 programs an EMPTY key slot from SEC_OTP_BUF (R96). -/
  | otpProgram (m : Master) (k : Fin 4)
  /-- OTP_REVOKE: SEC_OTP_CTRL.GO with OP 2 revokes a VALID key slot unless it is the last VALID one (R96). -/
  | otpRevoke (m : Master) (k : Fin 4)
  /-- OTP_DONE: An OTP operation completes and SEC_OTP_STATUS reports its code (R96). -/
  | otpDone
  /-- REGISTER_WRITE: A write to a register with no row of its own acts under its access codes, leaving RT-locked fields unchanged in RUN (R26). -/
  | registerWrite (m : Master) (w4 : Bool) (off : BitVec 26) (size : Fin 4) (v : BitVec 64)
  /-- COUNTER_CLEAR: Any write to a clearing counter register clears it (R37). -/
  | counterClear (m : Master) (off : BitVec 26) (v : BitVec 32)
  /-- LATCHED_PAIR_READ: A read of the low register of a latched pair returns it and latches the high part for the following read (R5). -/
  | latchedPairRead (m : Master) (w4 : Bool) (off : BitVec 26) (size : Fin 4)
  /-- TAINT_STICKY_WRITE: A write of GLB_TAINT_STICKY clears W1C bits and, when all set bits are cleared, re-arms the first-taint capture (R37). -/
  | taintStickyWrite (m : Master) (v : BitVec 32)
  /-- CONTRACT_STICKY_WRITE: A write of GLB_CONTRACT_STICKY clears W1C bits and, when all set bits are cleared, empties the contract log (R67). -/
  | contractStickyWrite (m : Master) (v : BitVec 32)
  /-- QUEUE_ENTRY_VISIBLE: A service-side write to a harvested value queue becomes visible on the real-time side 2 to 3 ticks after it completes (R18). -/
  | queueEntryVisible (q : Fin 192) (tag : BitVec 16) (value : BitVec 36)
  /-- EVENT_DELIVERY: An event raised by a real-time source on tick T reaches its real-time consumers at the start of tick T + 3 (R25). -/
  | eventDelivery (ch : Fin 512)
  /-- PLL_LOCK: The real-time PLL locks to REF_IN and schedule time starts counting from zero (R97). -/
  | pllLock
  /-- XTAL_FAIL: XTAL_IN fails in operation; the service plane stops and ALERT_N goes low while the real-time plane continues (R98). -/
  | xtalFail
  /-- REF_LOSS: No REF_IN edge for 40 ns is detected and the PLL enters holdover (R116). -/
  | refLoss
  /-- REF_GATE: A gate of 1,048,576 service-clock cycles ends and the REF_IN count is compared with its range, raising REF_RANGE if outside (R116). -/
  | refGate (count : BitVec 17)
  /-- PLL_UNLOCK: The PLL leaves its lock window outside holdover; outputs mute and park and the module enters HOLD with TIME_LOST (R116). -/
  | pllUnlock
  /-- EPOCH: Schedule time bits [39:0] become zero by counting and the global event EPOCH fires (R102). -/
  | epoch
  /-- SYNC_CLASSIFY: A SYNC pulse is classified by width on its classification tick; a valid pulse gets its logical tick, checks and phase update (R105). -/
  | syncClassify (c : BitVec 64) (fine : Fin 2048) (width : BitVec 8)
  /-- SYNC_MISSING: No valid pulse for an expected tick E has been classified by E + P/2 and SYNC_MISSING becomes active (R116). -/
  | syncMissing
  /-- SYNC_MASTER_PULSE: In master mode the module emits a plain or marked SYNC pulse at each tick whose schedule time is a multiple of P (R107). -/
  | syncMasterPulse
  /-- MARK_NEXT: A write of CLK_SYNC_CTRL.MARK_NEXT makes the next master pulse marked (R107). -/
  | markNext (m : Master) (v : BitVec 32)
  /-- TIME_ARM: A write of CLK_TIME_CTRL.ARM arms a time-base load on the next marked SYNC (R109). -/
  | timeArm (m : Master)
  /-- CLK_PHASE_WRITE: A write of CLK_PHASE starts moving the real-time clock family toward the written tap value (R99). -/
  | clkPhaseWrite (m : Master) (v : BitVec 32)
  /-- PHASE_TAP_STEP: Every 1 µs the clock family moves one tap toward the CLK_PHASE target (R99). -/
  | phaseTapStep
  /-- SKEW_RUN: CLK_SKEW_CTRL.GO starts a skew run that measures, and in MODE 1 aligns, the tick phase to SYNC (R111). -/
  | skewRun (m : Master) (v : BitVec 32)
  /-- SKEW_TAP_STEP: During a skew pass TAPS moves one tap per 1 µs, setting TIME_LOST if it wraps (R111). -/
  | skewTapStep
  /-- RELOCK: CLK_CTRL.RELOCK starts a relock attempt that tests REF_IN and tries to lock the PLL (R117). -/
  | relock (m : Master) (v : BitVec 32)
  /-- RELOCK_DONE: The relock attempt ends with lock, clearing the alarms, or without it, setting RELOCK_FAIL (R117). -/
  | relockDone (locked : Bool)
  /-- SCHEDULE_START: After entry to RUN the first shot starts under the SCHED start mode, or the schedule becomes MISSED (R124). -/
  | scheduleStart
  /-- SHOT_START: On each shot start tick every enabled engine abandons the old shot, saves and clears shot taint, clears registers and restarts at ENTRY (R126). -/
  | shotStart
  /-- SCHEDULE_DONE: At the start tick of shot SHOT_COUNT the schedule enters DONE and every Chisel enters OFF (R125). -/
  | scheduleDone
  /-- END: END ends the Chisel program for the shot (R122). -/
  | end_ (n : Fin 128) (dt : BitVec 12) (a : BitVec 19) (b : BitVec 36)
  /-- NOP: NOP issues and does nothing (R129). -/
  | nop (n : Fin 128) (dt : BitVec 12) (a : BitVec 19) (b : BitVec 36)
  /-- WAIT: WAIT starts a relative wait ending at t + max(N, 1) (R132). -/
  | wait (n : Fin 128) (dt : BitVec 12) (a : BitVec 19) (b : BitVec 36)
  /-- WAITA: WAITA waits until tick S + T of the shot, or one tick if already past (R132). -/
  | waita (n : Fin 128) (dt : BitVec 12) (a : BitVec 19) (b : BitVec 36)
  /-- WAIT_END: A WAIT or WAITA reaches its end tick R and the next instruction is counted from it (R132). -/
  | waitEnd (n : Fin 128)
  /-- WAITT: WAITT waits for a qualified timing-input edge or a timeout (R133). -/
  | waitt (n : Fin 128) (dt : BitVec 12) (a : BitVec 19) (b : BitVec 36)
  /-- WAITT_END: A WAITT ends on an edge seen at e + 3 or on its timeout, writing G[DEST] (R133). -/
  | waittEnd (n : Fin 128)
  /-- LBAR: LBAR makes the Chisel arrive at a lane barrier and wait for its completion (R134). -/
  | lbar (n : Fin 128) (dt : BitVec 12) (a : BitVec 19) (b : BitVec 36)
  /-- BARRIER_ARRIVAL: The hub sees a participant's arrival 2 ticks after its LBAR and checks local completion (R134). -/
  | barrierArrival (n : Fin 128)
  /-- BARRIER_COMPLETE: A barrier is locally complete and has its remote tokens; waiting participants end at c + 2 (R134). -/
  | barrierComplete (b : Fin 16)
  /-- BARRIER_TIMEOUT: An LBAR reaches t + TIMEOUT before completion and ends with BAR_TIMEOUT (R134). -/
  | barrierTimeout (n : Fin 128)
  /-- JMP: JMP transfers control to TARGET (R136). -/
  | jmp (n : Fin 128) (dt : BitVec 12) (a : BitVec 19) (b : BitVec 36)
  /-- BRD: BRD branches on decision-window bits sampled at its deadline (R137). -/
  | brd (n : Fin 128) (dt : BitVec 12) (a : BitVec 19) (b : BitVec 36)
  /-- BRD_DEADLINE: At the deadline tick the decision bits are sampled and check 3 tests that they are published (R137). -/
  | brdDeadline (n : Fin 128)
  /-- BRG: BRG branches on a comparison of G registers (R136). -/
  | brg (n : Fin 128) (dt : BitVec 12) (a : BitVec 19) (b : BitVec 36)
  /-- LOOP: LOOP decrements a non-zero K counter and branches, or falls through (R136). -/
  | loop_ (n : Fin 128) (dt : BitVec 12) (a : BitVec 19) (b : BitVec 36)
  /-- SETK: SETK loads a loop counter (R136). -/
  | setk (n : Fin 128) (dt : BitVec 12) (a : BitVec 19) (b : BitVec 36)
  /-- ALU: ALU performs the integer function of Table CHS-8 on G registers (R121). -/
  | alu (n : Fin 128) (dt : BitVec 12) (a : BitVec 19) (b : BitVec 36)
  /-- HARVEST: HARVEST takes a harvest point from the Chisel's queue into G[DEST] (R146). -/
  | harvest (n : Fin 128) (dt : BitVec 12) (a : BitVec 19) (b : BitVec 36)
  /-- EMIT: EMIT raises a local event source and/or writes a result-tag record (R147). -/
  | emit (n : Fin 128) (dt : BitVec 12) (a : BitVec 19) (b : BitVec 36)
  /-- PLAY: PLAY plays one segment-table entry on a tone slot with its frame, amplitude and phase (R139). -/
  | play (n : Fin 128) (dt : BitVec 12) (a : BitVec 19) (b : BitVec 36)
  /-- TABLE: TABLE hands a tone slot to table mode, re-points it, or requests its stop (R140). -/
  | table_ (n : Fin 128) (dt : BitVec 12) (a : BitVec 19) (b : BitVec 36)
  /-- BIAS: BIAS sets the target code of a bias output, clamped to the secure magnitude limit (R141). -/
  | bias (n : Fin 128) (dt : BitVec 12) (a : BitVec 19) (b : BitVec 36)
  /-- MARK: MARK sets, clears, pulses or inverts a marker output (R145). -/
  | mark (n : Fin 128) (dt : BitVec 12) (a : BitVec 19) (b : BitVec 36)
  /-- MARKER_PULSE_END: A marker pulse of WIDTH ticks ends and the marker goes low (R145). -/
  | markerPulseEnd (m : Fin 64)
  /-- WINDOW: WINDOW orders a demodulator window on an input and tone (R144). -/
  | window (n : Fin 128) (dt : BitVec 12) (a : BitVec 19) (b : BitVec 36)
  /-- SHIFT: SHIFT adds a virtual-Z phase to a frame (R142). -/
  | shift (n : Fin 128) (dt : BitVec 12) (a : BitVec 19) (b : BitVec 36)
  /-- SETF: SETF sets a frame's frequency, phase and t0 at the next granule boundary (R142). -/
  | setf (n : Fin 128) (dt : BitVec 12) (a : BitVec 19) (b : BitVec 36)
  /-- SETFR: SETFR sets a frame's frequency and phase from G registers at the next granule boundary (R142). -/
  | setfr (n : Fin 128) (dt : BitVec 12) (a : BitVec 19) (b : BitVec 36)
  /-- FRESET: FRESET resets a frame's phase and t0 at the next granule boundary (R142). -/
  | freset (n : Fin 128) (dt : BitVec 12) (a : BitVec 19) (b : BitVec 36)
  /-- CHS_MEM_DATA_ACCESS: An access of CHS_MEM_DATA reads or writes program or envelope memory at ADDR, with optional auto-increment (R129). -/
  | chsMemDataAccess (m : Master) (n : Fin 128) (write : Bool) (v : BitVec 64)
  /-- TABLE_HANDOVER: On the hand-over tick the slot enters table mode and the first occurrence starts (R140). -/
  | tableHandover (n : Fin 128) (k : Fin 8)
  /-- OCCURRENCE_START: A table-mode occurrence starts: its entry is tested, markers pulse and its envelope enters synthesis (R154). -/
  | occurrenceStart (n : Fin 128) (k : Fin 8)
  /-- TABLE_DECISION_POINT: On tick e − 8 of an occurrence the sequencer chooses the action applied at its end (R155). -/
  | tableDecisionPoint (n : Fin 128) (k : Fin 8)
  /-- STM_WR_WRITE: A write of STM_WR advances the host write index, or is dropped with OVERFILL (R164). -/
  | stmWrWrite (m : Master) (r : Fin 512) (v : BitVec 32)
  /-- STREAM_FETCH: The prefetch engine fetches the next ring granule into the channel's buffer partition (R165). -/
  | streamFetch (c : Fin 512) (ecc : Fin 3)
  /-- GRANULE_VISIBLE: A fetched granule becomes visible in the stream buffer, or is discarded if behind CONS (R165). -/
  | granuleVisible (c : Fin 512)
  /-- STREAM_HARVEST: At the harvest tick of a streamed granule its samples play if present, and CONS advances (R166). -/
  | streamHarvest (n : Fin 128) (k : Fin 8)
  /-- STREAM_RESTART: STM_CTRL.RESTART resets the channel's indices and empties its partition (R170). -/
  | streamRestart (m : Master) (r : Fin 512) (v : BitVec 32)
  /-- STM_BUF_WRITE: A write of STM_BUF empties the partition and sets STM_RD back to STM_CONS (R170). -/
  | stmBufWrite (m : Master) (r : Fin 512) (v : BitVec 32)
  /-- TON_FRM_INDEX_WRITE: A write of TON_FRM_INDEX copies that frame's live context into the data registers (R172). -/
  | tonFrmIndexWrite (m : Master) (c : Fin 128) (v : BitVec 32)
  /-- TON_FRM_COMMIT: TON_FRM_CTRL.COMMIT stores the data registers into the initial and live contexts of the frame (R172). -/
  | tonFrmCommit (m : Master) (c : Fin 128)
  /-- PATH_WRITE: A write of LIN_CFG.PATH changes the output path and mutes the line for 50 µs of settling (R191). -/
  | pathWrite (m : Master) (n : Fin 256) (v : BitVec 32)
  /-- PATH_SETTLE_END: 50 µs after a PATH write the PATH_SETTLE mute cause ends (R191). -/
  | pathSettleEnd (n : Fin 256)
  /-- LINE_UNMUTE: On the first tick with no mute cause the line returns to LIVE with 36 ticks of zero output (R194). -/
  | lineUnmute (n : Fin 256)
  /-- BIAS_UPDATE: On each update tick every bias output moves toward its target or holds its park code (R200). -/
  | biasUpdate
  /-- QUIESCE_FALL: A falling edge of QUIESCE_N mutes fast outputs and parks bias outputs asynchronously and from tick q (R205). -/
  | quiesceFall
  /-- QUIESCE_RISE: A rising edge of QUIESCE_N releases the park on tick r; outputs resume from the next update tick (R206). -/
  | quiesceRise
  /-- SPAN_HOLD_END: The 2 µs zero hold of a span change ends and the output glides to its new park code (R208). -/
  | spanHoldEnd (n : Fin 256)
  /-- GOVERNOR_BOUNDARY: On each subblock boundary the governor completes the subblock and forms its three window sums (R214). -/
  | governorBoundary (n : Fin 256)
  /-- GOVERNOR_ACTION: On tick b + 8 the governor's decision acts: clip target change or trip (R215). -/
  | governorAction (n : Fin 256)
  /-- GOV_RELEASE: A secure write of GOV_CTRL.RELEASE in HOLD releases a trip (R219). -/
  | govRelease (m : Master) (n : Fin 256) (v : BitVec 32)
  /-- INPUT_SETTLE_END: 100 µs after a ZONE or OFF change the input delivers samples again (R223). -/
  | inputSettleEnd (n : Fin 64)
  /-- PATINA_UPDATE: On each Patina update tick new offset and gain deltas are computed from the last interval (R226). -/
  | patinaUpdate (n : Fin 64) (hs : List (List (BitVec 12 × Nat))) (ovr : Bool)
  /-- OVERRANGE: An overranged sample marks neighbours, is counted, and the first one sets OVR and fires OVERRANGE (R233). -/
  | overrange (n : Fin 64) (mask : BitVec 16)
  /-- WINDOW_OPEN: The ordered window opens on tick t + 6, or is dropped if still open (R235). -/
  | windowOpen (n : Fin 64) (k : Fin 16)
  /-- WINDOW_RESULT: On e + 8 the integration is narrowed, discriminated and the result record enters the result queue (R235). -/
  | windowResult (n : Fin 64) (k : Fin 16) (codes : List (BitVec 12))
  /-- DEMOD_PUBLISH: On e + 14 the window's state bits are published in the decision network (R243). -/
  | demodPublish (n : Fin 64) (k : Fin 16)
  /-- KMEM_DATA_ACCESS: An access of INP_KMEM_DATA reads or writes a kernel weight, with optional auto-increment (R237). -/
  | kmemDataAccess (m : Master) (n : Fin 64) (write : Bool) (v : BitVec 64)
  /-- HALT: HALT ends the scheduled Caliper program for the shot or puts a service Caliper to sleep (R274). -/
  | halt (n : Fin 64) (w : BitVec 30)
  /-- CLP_NOP: Caliper NOP issues and does nothing (R256). -/
  | clpNop (n : Fin 64) (w : BitVec 30)
  /-- BR: BR branches on an X register after two delay slots (R258). -/
  | br (n : Fin 64) (w : BitVec 30)
  /-- RETE: RETE returns from an event handler to ELR after its delay slots (R273). -/
  | rete (n : Fin 64) (w : BitVec 30)
  /-- REPEAT: REPEAT issues the next instruction COUNT times on consecutive cycles (R259). -/
  | repeat (n : Fin 64) (w : BitVec 30)
  /-- CLP_LOOP: Caliper LOOP pushes a zero-overhead loop of COUNT iterations (R260). -/
  | clpLoop (n : Fin 64) (w : BitVec 30)
  /-- WAITC: WAITC delays the next issue to a given cycle (R261). -/
  | waitc (n : Fin 64) (w : BitVec 30)
  /-- WAITC_END: A WAITC reaches its cycle and the next instruction issues (R261). -/
  | waitcEnd (n : Fin 64)
  /-- EVM: EVM sets, ORs or clears the event mask (R271). -/
  | evm (n : Fin 64) (w : BitVec 30)
  /-- CMAC: CMAC accumulates a complex product of two memory operands (R263). -/
  | cmac (n : Fin 64) (w : BitVec 30)
  /-- CMACX: CMACX accumulates a complex product of memory and an X register (R263). -/
  | cmacx (n : Fin 64) (w : BitVec 30)
  /-- RMAC: RMAC accumulates a real product of two memory operands (R263). -/
  | rmac (n : Fin 64) (w : BitVec 30)
  /-- RMACX: RMACX accumulates a real product of memory and an X register (R263). -/
  | rmacx (n : Fin 64) (w : BitVec 30)
  /-- LDA: LDA loads accumulators from a memory word with a shift (R264). -/
  | lda (n : Fin 64) (w : BitVec 30)
  /-- STA: STA narrows accumulators into memory or an X register (R264). -/
  | sta (n : Fin 64) (w : BitVec 30)
  /-- ACC: ACC performs an accumulator-to-accumulator function (R265). -/
  | acc (n : Fin 64) (w : BitVec 30)
  /-- LDST: LDST performs one or two loads or stores between X registers and data memory (R257). -/
  | ldst (n : Fin 64) (w : BitVec 30)
  /-- CLP_ALU: Caliper ALU performs an integer function on X registers (R266). -/
  | clpAlu (n : Fin 64) (w : BitVec 30)
  /-- MOVI: MOVI loads an 18-bit immediate into an X register (R267). -/
  | movi (n : Fin 64) (w : BitVec 30)
  /-- SETA: SETA sets a pointer or modifier register (R262). -/
  | seta (n : Fin 64) (w : BitVec 30)
  /-- HINC: HINC increments a histogram bin in data memory (R266). -/
  | hinc (n : Fin 64) (w : BitVec 30)
  /-- RDS: RDS reads a special value into an X register (R267). -/
  | rds (n : Fin 64) (w : BitVec 30)
  /-- CLP_HARVEST: Caliper HARVEST takes a harvest point from queue 128 + n (R275). -/
  | clpHarvest (n : Fin 64) (w : BitVec 30)
  /-- PUB: PUB writes Caliper decision bits for their declared publication ticks (R276). -/
  | pub (n : Fin 64) (w : BitVec 30)
  /-- REC: REC writes a Caliper output record to the result queue (R278). -/
  | rec_ (n : Fin 64) (w : BitVec 30)
  /-- CLP_EMIT: Caliper EMIT fires its event source (R278). -/
  | clpEmit (n : Fin 64) (w : BitVec 30)
  /-- CALIPER_EVENT_ENTRY: A pending enabled event input is taken at an instruction boundary and its handler starts (R272). -/
  | caliperEventEntry (n : Fin 64)
  /-- CALIPER_WAKE: A sleeping service Caliper wakes when an enabled event input becomes pending (R274). -/
  | caliperWake (n : Fin 64)
  /-- DEPOSIT_WRITE: Words from the die's demodulators or inputs are written into a deposit ring, or dropped when the queue is full (R269). -/
  | depositWrite (n : Fin 64) (c : Fin 4) (codes : List (BitVec 12))
  /-- CALIPER_PUBLISH: On its declared tick a Caliper bit is published with its last ready value, or as 0 with LATE (R276). -/
  | caliperPublish (n : Fin 64) (b : Fin 4)
  /-- CALIPER_RESTORE_DONE: The copy of the initial image into a scheduled Caliper's data memory ends (R253). -/
  | caliperRestoreDone (n : Fin 64)
  /-- CLP_MEM_DATA_ACCESS: An access of CLP_MEM_DATA reads or writes program or data memory at ADDR (R253). -/
  | clpMemDataAccess (m : Master) (n : Fin 64) (write : Bool) (v : BitVec 64)
  /-- LANE_PUBLISH: On x + 56 a received decision word is published with its payload, or its default with LANE or LATE (R294). -/
  | lanePublish (l : Fin 24)
  /-- ROUND_EVALUATE: On tick E a parity round samples its input bits and taints (R296). -/
  | roundEvaluate (r : Fin 16)
  /-- ROUND_CHECKS: On E + 4 checks and detection events are formed and their parity bits published (R297). -/
  | roundChecks (r : Fin 16)
  /-- ROUND_APPLY: On E + 14 decoder outputs update Pauli-frame records and the round and export records are written (R301). -/
  | roundApply (r : Fin 16)
  /-- DEC_MEM_DATA_READ: A read of DEC_MEM_DATA returns a declaration or binding, with optional auto-increment (R286). -/
  | decMemDataRead (m : Master)
  /-- PFU_MEM_DATA_READ: A read of PFU_MEM_DATA returns a PARTAB word, with optional auto-increment (R305). -/
  | pfuMemDataRead (m : Master)
  /-- PFU_REC_DATA_READ: A read of PFU_REC_DATA returns a Pauli-frame record, with optional auto-increment (R303). -/
  | pfuRecDataRead (m : Master)
  /-- CAPTURE_EVALUATE: On hub tick X + 24 a capture unit evaluates the samples of capture time X against its conditions and state (R310). -/
  | captureEvaluate (u : Fin 16) (codes : List (BitVec 12))
  /-- CAPTURE_RECORD_END: A capture record reaches its end tick and the unit enters DEAD (R315). -/
  | captureRecordEnd (u : Fin 16)
  /-- CAPTURE_REARM: On the re-arm tick the unit enters FILLING again (R317). -/
  | captureRearm (u : Fin 16)
  /-- CAPTURE_BLOCK_WRITE: A capture data block or header leaves through the capture queue, or is dropped with GAP or loss (R318). -/
  | captureBlockWrite (u : Fin 16)
  /-- CAPTURE_HEADER_WRITTEN: A record's header reaches HBM and ACQ_WR advances (R316). -/
  | captureHeaderWritten (u : Fin 16)
  /-- ACQ_RD_WRITE: A write of ACQ_RD releases capture slots, or is dropped if out of range (R316). -/
  | acqRdWrite (m : Master) (u : Fin 16) (v : BitVec 32)
  /-- TIN_EDGE: A qualified timing-input edge is stamped, pushed into the FIFO and raises the EDGE event (R326). -/
  | tinEdge (tin : Fin 32) (b : Fin 512) (rising : Bool)
  /-- TIN_STAMP_POP: A read of TIN_STAMP_0 pops the oldest stamp and latches its second word (R328). -/
  | tinStampPop (m : Master) (tin : Fin 32)
  /-- TDC_CALIBRATE: TDC_CAL_CTRL.GO starts an interpolator calibration run (R330). -/
  | tdcCalibrate (m : Master) (v : BitVec 32)
  /-- TDC_CAL_DONE: A calibration run ends, updating the bin table or setting FAIL (R329). -/
  | tdcCalDone (hits : List Nat)
  /-- TDC_BIN_DATA_READ: A read of TDC_BIN_DATA returns a bin position and hit count, with optional auto-increment (R329). -/
  | tdcBinDataRead (m : Master)
  /-- INTERVAL_GO: TDC_MCTRL.GO arms an interval engine (R331). -/
  | intervalGo (m : Master) (e : Fin 8) (v : BitVec 32)
  /-- INTERVAL_TIMEOUT: At e_start + TIMEOUT with fewer stops the measurement completes with TIMEOUT (R331). -/
  | intervalTimeout (m : Fin 8)
  /-- FREQ_GO: TDC_FCTRL.GO opens a frequency gate (R332). -/
  | freqGo (m : Master) (e : Fin 4) (v : BitVec 32)
  /-- FREQ_GATE_END: A frequency gate of G ticks ends and computation starts (R332). -/
  | freqGateEnd (f : Fin 4)
  /-- FREQ_RESULT: The least-squares period and frequency are ready and DONE or FAULT sets (R332). -/
  | freqResult (f : Fin 4)
  /-- EVENT_FIRE: A bound source fires its channel, subject to the loop guard (R337). -/
  | eventFire (src : Fin 1536)
  /-- SOFTWARE_FIRE: A write of EVF_FIRE fires a channel as a service firing, subject to owner and world (R338). -/
  | softwareFire (m : Master) (c : Fin 512)
  /-- TASK_ACTIVATION: An arrival at a task input, synchronised to its consumer, sets PENDING or merges with OVERRUN (R343). -/
  | taskActivation (t : Fin 1024)
  /-- EVH_CUT: At S_s + CUT the harvest agent writes an event-harvest entry from the point's latch (R346). -/
  | evhCut (p : BitVec 16)
  /-- MBX_TX_WRITE: A write of MBX_TX pushes a word toward the partner, overwriting the newest entry when full (R350). -/
  | mbxTxWrite (m : Master) (k : Fin 32) (b : Bool) (v : BitVec 64)
  /-- MBX_RX_POP: A read of MBX_RX pops the oldest entry and latches its metadata (R350). -/
  | mbxRxPop (m : Master) (k : Fin 32) (b : Bool)
  /-- MBX_DOORBELL: A write of MBX_DB rings the partner, fires its ATTN source and starts the timer (R351). -/
  | mbxDoorbell (m : Master) (k : Fin 32) (b : Bool)
  /-- MBX_TIMEOUT: A ring not accepted within MBX_TIMEOUT sets TIMEOUT and fires the ringer's ATTN (R352). -/
  | mbxTimeout (m : Fin 32) (b : Bool)
  /-- PARTY_RESET: A party reset increments its epoch and discards unread entries toward it with FLUSH (R353). -/
  | partyReset (p : BitVec 8)
  /-- MBX_CFG_WRITE: A write of MBX_CFG sets the mailbox ends and empties both queues (R348). -/
  | mbxCfgWrite (m : Master) (k : Fin 32) (v : BitVec 32)
  /-- LOCK_ACQUIRE: A read of LCK_ACQ through page r acquires a free lock or returns its owner (R357). -/
  | lockAcquire (m : Master) (r : Fin 63) (k : Fin 64)
  /-- LOCK_RELEASE: A write through the owner's page releases the lock; others set FOREIGN (R358). -/
  | lockRelease (m : Master) (r : Fin 63) (k : Fin 64) (v : BitVec 32)
  /-- LOCK_FORCE_RELEASE: A write through page 0 releases the lock whatever its owner and counts it (R358). -/
  | lockForceRelease (m : Master) (k : Fin 64) (v : BitVec 32)
  /-- CORE_RESET: A secure write of GLB_PLN_CTRL.RESET resets a Plinth core once (R363). -/
  | coreReset (m : Master) (k : Fin 8)
  /-- WATCHDOG_EXPIRY: A core's watchdog is not serviced within 10 ms and S0 resets it (R363). -/
  | watchdogExpiry (k : Fin 8)
  /-- ARBITER_CYCLE: Each arbiter cycle grants a locked owner, an owed reserved beat or a lottery winner (R368). -/
  | arbiterCycle (t : Fin 2) (q : BitVec 16) (res : List (Fin 3 × Fin 512)) (lock : BitVec 16) (keep : Bool)
  /-- HLOCK_OPEN: A write of GLB_PLN_HLOCK.OPEN makes the core's next HBM access open a locked sequence, or ends one (R372). -/
  | hlockOpen (m : Master) (k : Fin 8) (v : BitVec 32)
  /-- SLOT_TABLE_COMMIT: SVA_CTRL.COMMIT makes the shadow slot table active at the next wrap (R374). -/
  | slotTableCommit (m : Master) (t : Fin 2)
  /-- RESULT_BLOCK_CLOSE: A result block closes when full, on an epoch change, or on leaving RUN (R377). -/
  | resultBlockClose (q : Fin 25)
  /-- RESULT_FLUSH_TIMEOUT: HST_RES_FLUSH microseconds after a block's first record the block closes (R377). -/
  | resultFlushTimeout (q : Fin 25)
  /-- RESULT_BLOCK_WRITE: A closed block is written to its ring in HBM and HST_RES_WR advances (R378). -/
  | resultBlockWrite (q : Fin 25)
  /-- RESULT_RING_RELEASE: A write of HST_RES_RD releases result blocks, or is dropped if out of range (R378). -/
  | resultRingRelease (m : Master) (q : Fin 25) (v : BitVec 32)
  /-- W2_ACCESS: A host read or posted write through W2 reaches HBM through the lottery (R381). -/
  | w2Access (write : Bool) (off : BitVec 32) (n : BitVec 13) (data : List (BitVec 8)) (ecc : Fin 3)
  /-- STREAM_APERTURE_WRITE: A W4 aperture write stores bytes into a stream ring relative to STM_WR (R382). -/
  | streamApertureWrite (r : Fin 512) (o : Fin 16384) (data : List (BitVec 8))
  /-- MSIX_UNMASK: Unmasking an MSI-X entry with its pending bit set sends the message (R383). -/
  | msixUnmask (v : Fin 128)
  /-- LINK_UP: The PCIe link trains up and HOST_LINK fires (R380). -/
  | linkUp (speed : Fin 3) (width : Fin 3)
  /-- LINK_DOWN: Link down, hot reset, FLR or PERST_N low closes the session and increments the host epoch (R384). -/
  | linkDown (flr : Bool)
  /-- HOST_COMMAND_FRAME: A doorbell on mailbox 0 delivers a command frame, which S0 parses or answers BAD_FRAME (R386). -/
  | hostCommandFrame
  /-- HELLO: HELLO negotiates the host protocol version and opens a session (R388). -/
  | hello (seq : BitVec 8) (args : List (BitVec 36))
  /-- GET_STATUS: GET_STATUS returns boot status, load level and class-B queue state (R387). -/
  | getStatus (seq : BitVec 8) (args : List (BitVec 36))
  /-- SET_RUNSTATE: SET_RUNSTATE requests HOLD or RUN (R444). -/
  | setRunstate (seq : BitVec 8) (args : List (BitVec 36))
  /-- STAGE_IMAGE: The host command STAGE_IMAGE makes S0 start staging an image from HBM (R84). -/
  | stageImage (seq : BitVec 8) (args : List (BitVec 36))
  /-- RECAST: The host command RECAST makes S0 start a re-cast with a switch time (R86). -/
  | recast (seq : BitVec 8) (args : List (BitVec 36))
  /-- STAGE_FIRMWARE: The host command STAGE_FIRMWARE writes firmware into its other slot (R362). -/
  | stageFirmware (seq : BitVec 8) (args : List (BitVec 36))
  /-- RECOVERY_CAST: RECOVERY_CAST answers, then resets the module internally into RESET (R74). -/
  | recoveryCast (seq : BitVec 8) (args : List (BitVec 36))
  /-- TELEMETRY: TELEMETRY returns words of the latest telemetry record (R387). -/
  | telemetry (seq : BitVec 8) (args : List (BitVec 36))
  /-- CAL_COMMIT: CAL_COMMIT journals every non-zero user delta into the user calibration slot pair (R434). -/
  | calCommit (seq : BitVec 8) (args : List (BitVec 36))
  /-- POINTING_RUN: The host command POINTING_RUN starts a Pointing run (R431). -/
  | pointingRun (seq : BitVec 8) (args : List (BitVec 36))
  /-- SET_POWER: SET_POWER requests STANDBY or leaving STANDBY (R444). -/
  | setPower (seq : BitVec 8) (args : List (BitVec 36))
  /-- LOAD_NCODE: LOAD_NCODE verifies and loads user code for N2–N5 and restarts them (R362). -/
  | loadNcode (seq : BitVec 8) (args : List (BitVec 36))
  /-- CLASS_B_START: The next queued class-B command starts when the previous one completes (R387). -/
  | classBStart
  /-- LOAD_LEVEL_CHANGE: The Plinth load level rises with the age of pending work or falls after 1 ms below half its threshold (R389). -/
  | loadLevelChange (age : BitVec 32) (fall : Bool)
  /-- LANE_ENABLE: Setting or clearing LAN_CTRL.ENABLE moves the lane between OFF and HUNT (R397). -/
  | laneEnable (m : Master) (l : Fin 24) (on : Bool)
  /-- LANE_RETRAIN: LAN_CTRL.RETRAIN returns the lane to HUNT (R397). -/
  | laneRetrain (m : Master) (l : Fin 24)
  /-- LANE_TEST_MODE: LAN_CTRL.MODE 1 puts the lane in PRBS31 TEST; MODE 2 loops it internally (R417). -/
  | laneTestMode (m : Master) (l : Fin 24) (mode : Fin 4)
  /-- LANE_FRAME_TRANSMIT: On each tick a lane builds and sends one line frame from its transmit entry (R391). -/
  | laneFrameTransmit (l : Fin 24)
  /-- LANE_FRAME_RECEIVE: A received line frame is destuffed, checked for form and routed by type (R394). -/
  | laneFrameReceive (l : Fin 24) (line : BitVec 68)
  /-- LANE_LOCK: 64 consecutive valid headers give frame lock and the lane enters EXCHANGE (R396). -/
  | laneLock (l : Fin 24)
  /-- TRAIN_TIMEOUT: A lane not UP within 100 ms of HUNT sets TRAIN_FAIL (R397). -/
  | trainTimeout (l : Fin 24)
  /-- RESERVED_RELEASE: On x + 52 a reserved frame leaves the release buffer, or is late (R401). -/
  | reservedRelease (l : Fin 24)
  /-- STATUS_BLOCK_SEND: A STATUS block is sent at least every 65,536 ticks and after a change of generation, tag or time (R404). -/
  | statusBlockSend (l : Fin 24)
  /-- SUM_SEND: After an interval ends the transmitter sends a SUM frame with its reserved-payload CRC (R410). -/
  | sumSend (l : Fin 24)
  /-- BULK_PACKET_RECEIVE: A bulk packet is assembled, checked and routed or executed at its destination (R411). -/
  | bulkPacketReceive (l : Fin 24)
  /-- CREDIT_RETURN: A CREDIT frame is sent when 16 frames are owed or 256 ticks after the oldest (R413). -/
  | creditReturn (l : Fin 24)
  /-- BULK_DESCRIPTOR: The lane bulk engine executes the next WRITE or READ descriptor (R414). -/
  | bulkDescriptor
  /-- BULK_TIMEOUT: An answer still missing after LAN_BQ_TIMEOUT completes the descriptor with TIMEOUT (R414). -/
  | bulkTimeout
  /-- POINTING_GO: A secure write of PNT_CTRL.GO starts a Pointing run (R431). -/
  | pointingGo (m : Master) (v : BitVec 30)
  /-- POINTING_ABORT: PNT_CTRL.ABORT ends the run with code 0x35 (R433). -/
  | pointingAbort (m : Master)
  /-- POINTING_OCCURRENCE: In a gap occurrence with the resource idle Pointing starts an action on an instance (R422). -/
  | pointingOccurrence (k : Fin 256)
  /-- POINTING_MEASUREMENT: A measurement completes and the instance is accepted, failed or measured again (R425). -/
  | pointingMeasurement (k : Fin 256) (ms : List (BitVec 16))
  /-- COMMIT_STEP: A committed stepped item moves its applied value one step every 40 ticks (R426). -/
  | commitStep (k : Fin 256)
  /-- POINTING_TIMEOUT: TIMEOUT milliseconds after the run started, unfinished instances end with TIMEOUT (R432). -/
  | pointingTimeout
  /-- PNT_LOG_CLEAR: A secure write of PNT_LOG_FILL empties the Pointing log (R430). -/
  | pntLogClear (m : Master) (v : BitVec 32)
  /-- PNT_TRIM_DATA_READ: A read of PNT_TRIM_DATA returns a delta and factory value, with optional auto-increment (R420). -/
  | pntTrimDataRead (m : Master)
  /-- MON_SEQ_ENABLE: A write of MON_SEQ_CTRL.ENABLE starts the monitor sequence (R438). -/
  | monSeqEnable (m : Master) (v : BitVec 32)
  /-- MON_PASS_START: Every PERIOD microseconds a monitor sequence pass starts, or merges with SEQ_OVERRUN (R438). -/
  | monPassStart
  /-- MON_INJECT_START: An injected entry starts on a task activation or DELAY ticks after its PLAY (R439). -/
  | monInjectStart (j : Fin 8)
  /-- MON_CONVERSION_DONE: A monitor conversion completes and the converter is assigned to the next waiting work (R437). -/
  | monConversionDone (value : BitVec 16)
  /-- HOLD_REQUEST: PWR_REQ 1 requests HOLD (R445). -/
  | holdRequest (m : Master)
  /-- HOLD_ENTRY: On tick h the module enters HOLD: Chisels off, lines mute, slots freed, windows closed, bias parks (R445). -/
  | holdEntry
  /-- RUN_REQUEST: PWR_REQ 2 requests RUN, tested against the refusal conditions (R446). -/
  | runRequest (m : Master)
  /-- RUN_ENTRY: On tick E the module enters RUN and the schedule, frames and parity unit are set up (R446). -/
  | runEntry
  /-- STANDBY_REQUEST: PWR_REQ 3 takes the module through HOLD, parking and rail drop into STANDBY (R447). -/
  | standbyRequest (m : Master)
  /-- STANDBY_ENTRY: When bias glides end the governor state is saved, rails drop and the PLL stops (R447). -/
  | standbyEntry
  /-- STANDBY_EXIT: PWR_REQ 4 makes the loader enter RAILS and cast as from cold (R448). -/
  | standbyExit (m : Master)
  /-- THERMAL_EVALUATE: Every 10 µs each die's warning comparator is evaluated, setting or clearing warnings (R452). -/
  | thermalEvaluate (temps : List (BitVec 16))
  /-- THERMAL_SHUTDOWN: A shutdown comparator trips and the shutdown sequence latches THERM_N and drops the rails (R452). -/
  | thermalShutdown (dies : BitVec 29)
  /-- RAILS_DOWN: The main rails finish dropping in reverse order and the module enters OFF (R450). -/
  | railsDown
  /-- SUPPLY_FAULT: The 48 V input leaves 38–58 V for 5 µs or a rail leaves its window; the shutdown sequence runs (R451). -/
  | supplyFault (mv : BitVec 16) (railOut : Bool)
  /-- SUPPLY_RETURN: The 48 V input stays within 40–56 V for 100 ms and the module casts from RAILS (R451). -/
  | supplyReturn (mv : BitVec 16)
  /-- THERMAL_LATCH_CLEAR: Both supplies fall below their thresholds together and the thermal latch clears (R453). -/
  | thermalLatchClear (mv48 : BitVec 16) (mv33 : BitVec 16)
  /-- I2C_POINTER_WRITE: An I²C write sets the responder pointer (R466). -/
  | i2cPointerWrite (data : List (BitVec 8))
  /-- I2C_READ: An I²C read returns the latched 32-bit word at the pointer and increments it (R466). -/
  | i2cRead
  /-- I2C_REFRESH: Every 1 ms the responder refreshes its copies of hub registers (R467). -/
  | i2cRefresh (mv48 : BitVec 16) (mv33 : BitVec 16)
  /-- RXSTAT_READ: A read of MBX_RXSTAT by the partner's end accepts a pending ring, clearing DB_PEND and stopping the doorbell timer (R351). -/
  | rxstatRead (m : Master) (k : Fin 32) (b : Bool)
  /-- PRBS_CHECKER: In TEST the checker compares each received PRBS31 bit, sets PRBS_SYNC after loading 31 bits, counts errors, and drops sync and reloads when 64 of 256 bits are in error (R417). -/
  | prbsChecker (l : Fin 24) (rx : List Bool)
  /-- FREQ_GATE_OPEN: A frequency engine with ARM 2 opens its gate on the next tick whose schedule time is a multiple of the SYNC period P (R332). -/
  | freqGateOpen (f : Fin 4)
  deriving DecidableEq, Repr

end Sys2Proof
end

