-- ==== Sys2Proof/Decode.lean ====
section
/-! DEFINITION. The commands that a word spells. No row of spec/opcode_table.json gives bits: the block is commanded by accesses and events, not by
encoded words, and the decoder answers none on every word. -/

namespace Sys2Proof

/-- The command a word of the opcode table spells; the table gives no row any bits. -/
def decodeTableWord (_nbits _w : Nat) : Option Instr := none

end Sys2Proof
end

