-- ==== Sys2Proof/Machine/Crypto.lean ====
section
/-! DEFINITION. SHA-384 and ECDSA over P-384, as the image and the firmware are signed (02_armature_contract.md R48,
14_service_plane_and_host.md R362), and the CRC-32C of a slot (03 Table BOOT-3). The manual names FIPS 180-4 and FIPS 186-5 for the
two algorithms; their constants are those of the standards (log 23). A byte string is a list of numbers below 256. -/

namespace Sys2Proof.Machine

/-! ### SHA-384 -/

/-- The largest `x` below 2^`k` more than `x` with `x`^`e` at most `v`, bit by bit from bit `k` − 1. -/
def rootFrom (e v : Nat) : Nat → Nat → Nat
  | 0, x => x
  | k + 1, x => rootFrom e v k (if (x + 2 ^ k) ^ e ≤ v then x + 2 ^ k else x)

/-- The first 80 primes. -/
def primes80 : List Nat := (List.range 410).filter fun n => decide (2 ≤ n) && (List.range 21).all fun d => decide (d < 2 ∨ n ≤ d) || n % d != 0

/-- The 64-bit constants of SHA-512: fractional parts of the cube roots of the first 80 primes. -/
def shaK : List Nat := primes80.map fun p => rootFrom 3 (p * 2 ^ 192) 68 0 % 2 ^ 64

/-- The initial value of SHA-384: fractional parts of the square roots of the ninth to sixteenth primes. -/
def shaInit : List Nat := ((primes80.drop 8).take 8).map fun p => rootFrom 2 (p * 2 ^ 128) 68 0 % 2 ^ 64

/-- Rotate a 64-bit word right. -/
def rotr (n x : Nat) : Nat := x / 2 ^ n + x * 2 ^ (64 - n) % 2 ^ 64

/-- Three-way exclusive or. -/
def xor3 (a b c : Nat) : Nat := Nat.xor a (Nat.xor b c)

/-- The message schedule, newest word first, from the 16 words of a block; `k` words are left. -/
def shaSchedule : Nat → List Nat → List Nat
  | 0, w => w
  | k + 1, w =>
    let a := w.getD 14 0
    let b := w.getD 1 0
    let s0 := xor3 (rotr 1 a) (rotr 8 a) (a / 2 ^ 7)
    let s1 := xor3 (rotr 19 b) (rotr 61 b) (b / 2 ^ 6)
    shaSchedule k (((w.getD 15 0 + s0 + w.getD 6 0 + s1) % 2 ^ 64) :: w)

/-- One round. -/
def shaRound (h : List Nat) (kw : Nat × Nat) : List Nat :=
  match h with
  | [a, b, c, d, e, f, g, hh] =>
    let t1 := hh + xor3 (rotr 14 e) (rotr 18 e) (rotr 41 e) + Nat.xor (Nat.land e f) (Nat.land (2 ^ 64 - 1 - e) g) + kw.1 + kw.2
    let t2 := xor3 (rotr 28 a) (rotr 34 a) (rotr 39 a) + xor3 (Nat.land a b) (Nat.land a c) (Nat.land b c)
    [(t1 + t2) % 2 ^ 64, a, b, c, (d + t1) % 2 ^ 64, e, f, g]
  | h => h

/-- The big-endian number of a byte string. -/
def bigEndian (l : List Nat) : Nat := l.foldl (fun v b => v * 256 + b % 256) 0

/-- The hash value after the blocks of a padded message; `n` blocks are left. -/
def shaBlocks : Nat → List Nat → List Nat → List Nat
  | 0, _, h => h
  | n + 1, m, h =>
    let w := (List.range 16).map fun i => bigEndian ((m.drop (8 * i)).take 8)
    let ws := (shaSchedule 64 w.reverse).reverse
    let h' := (shaK.zip ws).foldl shaRound h
    shaBlocks n (m.drop 128) ((h.zip h').map fun p => (p.1 + p.2) % 2 ^ 64)

/-- SHA-384 of a byte string, as a number (FIPS 180-4). -/
def sha384 (m : List Nat) : Nat :=
  let pad := (239 - m.length % 128) % 128
  let p := m ++ [0x80] ++ List.replicate pad 0 ++ (List.range 16).map fun i => 8 * m.length / 256 ^ (15 - i) % 256
  ((shaBlocks (p.length / 128) p shaInit).take 6).foldl (fun v w => v * 2 ^ 64 + w) 0

/-! ### ECDSA over P-384 -/

/-- The prime of the field. -/
def p384 : Nat := 2 ^ 384 - 2 ^ 128 - 2 ^ 96 + 2 ^ 32 - 1

/-- The order of the base point. -/
def n384 : Nat := 0xFFFFFFFFFFFFFFFFFFFFFFFFFFFFFFFFFFFFFFFFFFFFFFFFC7634D81F4372DDF581A0DB248B0A77AECEC196ACCC52973

/-- The coefficient b of the curve; a is −3. -/
def b384 : Nat := 0xB3312FA7E23EE7E4988E056BE3F82D19181D9C6EFE8141120314088F5013875AC656398D8A2ED19D2A85C8EDD3EC2AEF

/-- The base point. -/
def g384 : Nat × Nat :=
  (0xAA87CA22BE8B05378EB1C71EF320AD746E1D3B628BA79B9859F741E082542A385502F25DBF55296C3A545E3872760AB7,
   0x3617DE4A96262C6F5D9E98BF9292DC29F8F41DBD289A147CE9DA3113B5F0B8C00A60B1CE1D7E819D7A431D7C90EA0E5F)

/-- `b` to the power `e` modulo `m`, over `k` bits of `e`. -/
def powMod (m : Nat) : Nat → Nat → Nat → Nat → Nat
  | 0, _, _, r => r
  | k + 1, b, e, r => powMod m k (b * b % m) (e / 2) (if e % 2 = 1 then r * b % m else r)

/-- The inverse modulo a prime. -/
def invMod (m x : Nat) : Nat := powMod m 384 (x % m) (m - 2) 1

/-- Is the point on the curve? -/
def onCurve (q : Nat × Nat) : Bool :=
  decide (q.1 < p384 ∧ q.2 < p384) && q.2 * q.2 % p384 == (q.1 * q.1 * q.1 + (p384 - 3) * q.1 + b384) % p384

/-- The sum of two points; `none` is the point at infinity. -/
def ecAdd : Option (Nat × Nat) → Option (Nat × Nat) → Option (Nat × Nat)
  | none, q => q
  | p, none => p
  | some (x1, y1), some (x2, y2) =>
    if x1 = x2 ∧ (y1 + y2) % p384 = 0 then none
    else
      let l := if x1 = x2 then (3 * x1 * x1 + p384 - 3) * invMod p384 (2 * y1) % p384 else (y2 + p384 - y1) * invMod p384 (x2 + p384 - x1) % p384
      let x3 := (l * l + 2 * p384 - x1 - x2) % p384
      some (x3, (l * (x1 + p384 - x3) + p384 - y1) % p384)

/-- `u` times a point, over `k` bits of `u`. -/
def ecMul : Nat → Nat → Option (Nat × Nat) → Option (Nat × Nat) → Option (Nat × Nat)
  | 0, _, _, r => r
  | k + 1, u, q, r => ecMul k (u / 2) (ecAdd q q) (if u % 2 = 1 then ecAdd r q else r)

/-- Does the signature (r, s) of `hash` verify under the public key X, Y (FIPS 186-5)? -/
def ecdsaOk (key hash r s : Nat) : Bool :=
  let q := (key / 2 ^ 384 % 2 ^ 384, key % 2 ^ 384)
  if !(decide (1 ≤ r ∧ r < n384 ∧ 1 ≤ s ∧ s < n384) && onCurve q) then false
  else
    let w := invMod n384 s
    match ecAdd (ecMul 384 (hash * w % n384) (some g384) none) (ecMul 384 (r * w % n384) (some q) none) with
    | none => false
    | some p => p.1 % n384 == r

/-! ### CRC-32C -/

/-- One bit of the reflected CRC-32C. -/
def crcStep : Nat → Nat → Nat
  | 0, c => c
  | k + 1, c => crcStep k (if c % 2 = 1 then Nat.xor (c / 2) 0x82F63B78 else c / 2)

/-- CRC-32C (Castagnoli) of a byte string. -/
def crc32c (l : List Nat) : Nat := Nat.xor (l.foldl (fun c b => crcStep 8 (Nat.xor c (b % 256))) 0xFFFFFFFF) 0xFFFFFFFF

end Sys2Proof.Machine
end

