-- ==== Sys2Proof/Config.lean ====
section
/-! DEFINITION. The values the manual leaves open: free values, with no body, so that no statement can rest on one
(notes/assumptions/1.md). -/

namespace Sys2Proof.Config

/-- The n-th free value a run takes. `State.fresh` counts them; nothing fixes what it is. -/
opaque freeValue : Nat → BitVec 64

/-- The factory key in OTP key slot 0: X, then Y (R96). The manual does not print it. -/
opaque factoryKey : BitVec 768

end Sys2Proof.Config
end

