-- ==== Sys2Proof/Machine/Regs.lean ====
section
/-! DEFINITION. Every register of W0 as the register headings of spec/00 to spec/17 give it: one `Fld` per named field (its bit
position, width, access code of Table GLB-2, RT-lock of R26 and reset value) and one `Reg` per heading (its W0 offset,
strides, world attribute). Each field is stored on its own in `State.regs` under the number the `Fld` carries. "Per module"
values are DESIGN CHOICE, notes/assumptions/3.md. -/

namespace Sys2Proof.Machine

/-- The centre taps (k = 3) of the slice filters INP_FIR, at the nominal 0x4000 (DESIGN CHOICE, log 3). -/
def firCentre (n : Nat) : List (Nat × Nat) := (List.range (n * 8)).map fun j => (j * 7 + 3, 0x4000)

/-- TICKETS at reset, Table SVA-1, for both arbiters. -/
def svaTickets : List (Nat × Nat) :=
  (List.range 2).flatMap fun s => ([64, 32, 16, 16, 16, 16, 16, 16, 64, 0, 32, 16, 16, 16, 32, 0].zipIdx).map fun p => (s * 16 + p.2, p.1)

namespace R


-- 00_scope.md
def GLB_IDENT_PART : Fld := ⟨0, 16, 16, .ro, false, 29270, []⟩
def GLB_IDENT_FAMILY : Fld := ⟨1, 8, 8, .ro, false, 1, []⟩
def GLB_IDENT_VENDOR : Fld := ⟨2, 0, 8, .ro, false, 215, []⟩
def GLB_REV_ASSY : Fld := ⟨3, 24, 8, .ro, false, 65, []⟩
def GLB_REV_HUB_STEP : Fld := ⟨4, 18, 6, .ro, false, 8, []⟩
def GLB_REV_LINE_STEP : Fld := ⟨5, 12, 6, .ro, false, 1, []⟩
def GLB_REV_INPUT_STEP : Fld := ⟨6, 6, 6, .ro, false, 1, []⟩
def GLB_REV_BIAS_STEP : Fld := ⟨7, 0, 6, .ro, false, 0, []⟩
def GLB_IFVER_CONTRACT_MAJOR : Fld := ⟨8, 24, 8, .ro, false, 3, []⟩
def GLB_IFVER_CONTRACT_MINOR : Fld := ⟨9, 16, 8, .ro, false, 2, []⟩
def GLB_IFVER_LANE_MAJOR : Fld := ⟨10, 12, 4, .ro, false, 2, []⟩
def GLB_IFVER_LANE_MINOR : Fld := ⟨11, 8, 4, .ro, false, 1, []⟩
def GLB_IFVER_HOST_MAJOR : Fld := ⟨12, 4, 4, .ro, false, 1, []⟩
def GLB_IFVER_HOST_MINOR : Fld := ⟨13, 0, 4, .ro, false, 4, []⟩
def GLB_SERIAL_LO_SERIAL_LO : Fld := ⟨14, 0, 32, .ro, false, 0, []⟩
def GLB_SERIAL_HI_SERIAL_HI : Fld := ⟨15, 0, 16, .ro, false, 0, []⟩

-- 01_two_planes.md
def GLB_TAINT_STICKY_TAINT : Fld := ⟨16, 0, 8, .w1c, false, 0, []⟩
def GLB_TAINT_FIRST_LO_TICK_LO : Fld := ⟨17, 0, 32, .ro, false, 0, []⟩
def GLB_TAINT_FIRST_HI_TICK_HI : Fld := ⟨18, 0, 32, .ro, false, 0, []⟩
def GLB_TAINT_FIRST_SRC_VALID : Fld := ⟨19, 31, 1, .ro, false, 0, []⟩
def GLB_TAINT_FIRST_SRC_INSTANCE : Fld := ⟨20, 16, 12, .ro, false, 0, []⟩
def GLB_TAINT_FIRST_SRC_BLOCK : Fld := ⟨21, 8, 8, .ro, false, 0, []⟩
def GLB_TAINT_FIRST_SRC_BIT : Fld := ⟨22, 0, 3, .ro, false, 0, []⟩
def GLB_HARVEST_LATE_CNT_COUNT : Fld := ⟨23, 0, 32, .rw, false, 0, []⟩
def GLB_HARVEST_THIN_CNT_COUNT : Fld := ⟨24, 0, 32, .rw, false, 0, []⟩
def GLB_HARVEST_DISCARD_CNT_COUNT : Fld := ⟨25, 0, 32, .rw, false, 0, []⟩
def GLB_RESULT_DROP_CNT_COUNT : Fld := ⟨26, 0, 32, .rw, false, 0, []⟩

-- 02_armature_contract.md
def GLB_CONTRACT_STICKY_CLP_CODES : Fld := ⟨27, 16, 8, .w1c, false, 0, []⟩
def GLB_CONTRACT_STICKY_CHS_CODES : Fld := ⟨28, 1, 7, .w1c, false, 0, []⟩
def GLB_CONTRACT_CNT_COUNT : Fld := ⟨29, 0, 32, .rw, false, 0, []⟩
def GLB_CONTRACT_FILL_ENTRIES : Fld := ⟨30, 0, 5, .ro, false, 0, []⟩
def GLB_ARMATURE_ID_MAJOR : Fld := ⟨31, 24, 8, .ro, false, 0, []⟩
def GLB_ARMATURE_ID_MINOR : Fld := ⟨32, 16, 8, .ro, false, 0, []⟩
def GLB_ARMATURE_ID_GENERATION : Fld := ⟨33, 0, 16, .ro, false, 0, []⟩
def GLB_FEATURES_KNOWN_KNOWN : Fld := ⟨34, 0, 2, .ro, false, 3, []⟩

-- 01_two_planes.md
def GLB_HARVEST_FULL_CNT_COUNT : Fld := ⟨35, 0, 32, .rw, false, 0, []⟩

-- 02_armature_contract.md
def GLB_CONTRACT_LOG_TLO_TICK_LO : Fld := ⟨36, 0, 32, .ro, false, 0, []⟩
def GLB_CONTRACT_LOG_THI_TICK_HI : Fld := ⟨37, 0, 32, .ro, false, 0, []⟩
def GLB_CONTRACT_LOG_SRC_VALID : Fld := ⟨38, 31, 1, .ro, false, 0, []⟩
def GLB_CONTRACT_LOG_SRC_INSTANCE : Fld := ⟨39, 16, 12, .ro, false, 0, []⟩
def GLB_CONTRACT_LOG_SRC_BLOCK : Fld := ⟨40, 8, 8, .ro, false, 0, []⟩
def GLB_CONTRACT_LOG_SRC_CODE : Fld := ⟨41, 0, 5, .ro, false, 0, []⟩
def GLB_CONTRACT_LOG_PC_PC : Fld := ⟨42, 0, 16, .ro, false, 0, []⟩

-- 05_chisel_programs.md
def GLB_SCHED_CFG_START_MODE : Fld := ⟨43, 16, 2, .ro, false, 0, []⟩
def GLB_SCHED_CFG_ALIGN : Fld := ⟨44, 0, 12, .ro, false, 0, []⟩
def GLB_SCHED_LEN_TICKS : Fld := ⟨45, 0, 32, .ro, false, 0, []⟩
def GLB_SCHED_COUNT_LO_COUNT_LO : Fld := ⟨46, 0, 32, .ro, false, 0, []⟩
def GLB_SCHED_COUNT_HI_COUNT_HI : Fld := ⟨47, 0, 16, .ro, false, 0, []⟩
def GLB_SCHED_START_LO_TIME_LO : Fld := ⟨48, 0, 32, .rw, true, 0, []⟩
def GLB_SCHED_START_HI_TIME_HI : Fld := ⟨49, 0, 32, .rw, true, 0, []⟩
def GLB_SCHED_STATUS_MISSED : Fld := ⟨50, 3, 1, .w1c, false, 0, []⟩
def GLB_SCHED_STATUS_STATE : Fld := ⟨51, 0, 3, .ro, false, 0, []⟩
def GLB_SCHED_BEGIN_LO_TIME_LO : Fld := ⟨52, 0, 32, .ro, false, 0, []⟩
def GLB_SCHED_BEGIN_HI_TIME_HI : Fld := ⟨53, 0, 32, .ro, false, 0, []⟩
def GLB_BAR_COMPLETE : Fld := ⟨54, 31, 1, .ro, false, 0, []⟩
def GLB_BAR_LOCAL : Fld := ⟨55, 30, 1, .ro, false, 0, []⟩
def GLB_BAR_TOKENS : Fld := ⟨56, 8, 5, .ro, false, 0, []⟩
def GLB_BAR_REMOTE : Fld := ⟨57, 0, 5, .rw, true, 0, []⟩

-- 14_service_plane_and_host.md
def GLB_PLN_STATUS_STATE : Fld := ⟨58, 29, 3, .ro, false, 1, []⟩
def GLB_PLN_STATUS_WDOG_EN : Fld := ⟨59, 0, 1, .ro, false, 0, []⟩
def GLB_PLN_CTRL_WDOG_EN : Fld := ⟨60, 16, 8, .rs, false, 0, []⟩
def GLB_PLN_CTRL_HOLD : Fld := ⟨61, 8, 8, .rs, false, 240, []⟩
def GLB_PLN_CTRL_RESET : Fld := ⟨62, 0, 8, .wo, false, 0, []⟩
def GLB_PLN_LOAD_LEVEL : Fld := ⟨63, 30, 2, .ro, false, 0, []⟩
def GLB_PLN_LOAD_AGE : Fld := ⟨64, 0, 20, .ro, false, 0, []⟩
def GLB_PLN_HLOCK_EXPIRED : Fld := ⟨65, 31, 1, .w1c, false, 0, []⟩
def GLB_PLN_HLOCK_NEST : Fld := ⟨66, 30, 1, .w1c, false, 0, []⟩
def GLB_PLN_HLOCK_ACTIVE : Fld := ⟨67, 29, 1, .ro, false, 0, []⟩
def GLB_PLN_HLOCK_OPEN : Fld := ⟨68, 0, 1, .rw, false, 0, []⟩

-- 03_casting_and_worlds.md
def BOOT_STATUS_LAST_CODE : Fld := ⟨69, 16, 8, .ro, false, 0, []⟩
def BOOT_STATUS_CMD_REJECT : Fld := ⟨70, 14, 1, .ro, false, 0, []⟩
def BOOT_STATUS_LOG_PENDING : Fld := ⟨71, 13, 1, .ro, false, 0, []⟩
def BOOT_STATUS_OP : Fld := ⟨72, 9, 4, .ro, false, 0, []⟩
def BOOT_STATUS_SLOT_B : Fld := ⟨73, 7, 2, .ro, false, 0, []⟩
def BOOT_STATUS_SLOT_A : Fld := ⟨74, 5, 2, .ro, false, 0, []⟩
def BOOT_STATUS_ACTIVE_SLOT : Fld := ⟨75, 4, 1, .ro, false, 0, []⟩
def BOOT_STATUS_STATE : Fld := ⟨76, 0, 4, .ro, false, 0, []⟩
def BOOT_CMD_OP : Fld := ⟨77, 0, 4, .wo, false, 0, []⟩
def BOOT_STAGE_ADDR_LO_ADDR : Fld := ⟨78, 12, 20, .rw, false, 0, []⟩
def BOOT_STAGE_ADDR_HI_ADDR : Fld := ⟨79, 0, 4, .rw, false, 0, []⟩
def BOOT_STAGE_LEN_UNITS : Fld := ⟨80, 0, 17, .rw, false, 0, []⟩
def BOOT_SWITCH_LO_TIME_LO : Fld := ⟨81, 0, 32, .rw, false, 0, []⟩
def BOOT_SWITCH_HI_TIME_HI : Fld := ⟨82, 0, 32, .rw, false, 0, []⟩
def BOOT_SEQ_A_SEQ : Fld := ⟨83, 0, 32, .ro, false, 0, []⟩
def BOOT_SEQ_B_SEQ : Fld := ⟨84, 0, 32, .ro, false, 0, []⟩
def BOOT_GEN_AB_GEN_B : Fld := ⟨85, 16, 16, .ro, false, 0, []⟩
def BOOT_GEN_AB_GEN_A : Fld := ⟨86, 0, 16, .ro, false, 0, []⟩
def BOOT_COUNT_COUNT : Fld := ⟨87, 0, 32, .ro, false, 0, []⟩
def BOOT_CAST_TIME_MICROSECONDS : Fld := ⟨88, 0, 32, .ro, false, 0, []⟩
def BOOT_LOG_FILL_NEXT : Fld := ⟨89, 16, 9, .ro, false, 0, []⟩
def BOOT_LOG_FILL_ENTRIES : Fld := ⟨90, 0, 10, .ro, false, 0, []⟩
def BOOT_LOG_W0_WORD : Fld := ⟨91, 0, 32, .ro, false, 0, []⟩
def BOOT_LOG_W1_WORD : Fld := ⟨92, 0, 32, .ro, false, 0, []⟩
def BOOT_LOG_W2_WORD : Fld := ⟨93, 0, 32, .ro, false, 0, []⟩
def BOOT_LOG_W3_WORD : Fld := ⟨94, 0, 32, .ro, false, 0, []⟩
def SEC_WORLD_SECURE : Fld := ⟨95, 0, 1, .rs, false, 1, [(648, 0)]⟩
def SEC_HBM_RGN_ENABLE : Fld := ⟨96, 31, 1, .rs, false, 0, [(15, 1)]⟩
def SEC_HBM_RGN_SECURE : Fld := ⟨97, 30, 1, .rs, false, 0, []⟩
def SEC_HBM_RGN_STAGING : Fld := ⟨98, 29, 1, .rs, false, 0, [(15, 1)]⟩
def SEC_HBM_RGN_BASE : Fld := ⟨99, 0, 16, .rs, false, 0, []⟩
def SEC_HBM_LIM_LIMIT : Fld := ⟨100, 0, 16, .rs, false, 0, [(15, 512)]⟩
def SEC_VIOL_CNT_COUNT : Fld := ⟨101, 0, 32, .rs, false, 0, []⟩
def SEC_VIOL_SRC_VALID : Fld := ⟨102, 31, 1, .ro, false, 0, []⟩
def SEC_VIOL_SRC_WRITE : Fld := ⟨103, 30, 1, .ro, false, 0, []⟩
def SEC_VIOL_SRC_INSTANCE : Fld := ⟨104, 16, 12, .ro, false, 0, []⟩
def SEC_VIOL_SRC_MASTER : Fld := ⟨105, 8, 8, .ro, false, 0, []⟩
def SEC_VIOL_SRC_KIND : Fld := ⟨106, 0, 2, .ro, false, 0, []⟩
def SEC_VIOL_ADDR_LO_ADDR : Fld := ⟨107, 0, 32, .ro, false, 0, []⟩
def SEC_VIOL_ADDR_HI_ADDR : Fld := ⟨108, 0, 4, .ro, false, 0, []⟩
def SEC_KEY_STATE_ACTIVE : Fld := ⟨109, 8, 2, .ro, false, 0, []⟩
def SEC_KEY_STATE_STATE : Fld := ⟨110, 0, 8, .ro, false, 1, []⟩
def SEC_OTP_CTRL_GO : Fld := ⟨111, 31, 1, .wo, false, 0, []⟩
def SEC_OTP_CTRL_SLOT : Fld := ⟨112, 2, 2, .rw, false, 0, []⟩
def SEC_OTP_CTRL_OP : Fld := ⟨113, 0, 2, .rw, false, 0, []⟩
def SEC_OTP_STATUS_BUSY : Fld := ⟨114, 8, 1, .ro, false, 0, []⟩
def SEC_OTP_STATUS_CODE : Fld := ⟨115, 0, 8, .ro, false, 0, []⟩
def SEC_OTP_BUF_KEY : Fld := ⟨116, 0, 32, .rw, false, 0, []⟩

-- 04_time_base_and_sync.md
def CLK_STATUS_RELOCK_BUSY : Fld := ⟨117, 15, 1, .ro, false, 0, []⟩
def CLK_STATUS_PLL_LOCK : Fld := ⟨118, 14, 1, .ro, false, 0, []⟩
def CLK_STATUS_HOLDOVER : Fld := ⟨119, 13, 1, .ro, false, 0, []⟩
def CLK_STATUS_SKEW_FAIL : Fld := ⟨120, 12, 1, .ro, false, 0, []⟩
def CLK_STATUS_SKEW_DONE : Fld := ⟨121, 11, 1, .ro, false, 0, []⟩
def CLK_STATUS_SKEW_BUSY : Fld := ⟨122, 10, 1, .ro, false, 0, []⟩
def CLK_STATUS_TIME_PENDING : Fld := ⟨123, 9, 1, .ro, false, 0, []⟩
def CLK_STATUS_TIME_VALID : Fld := ⟨124, 8, 1, .ro, false, 0, []⟩
def CLK_STATUS_SYNC_SLIP : Fld := ⟨125, 4, 1, .ro, false, 0, []⟩
def CLK_STATUS_SYNC_MISSING : Fld := ⟨126, 3, 1, .ro, false, 0, []⟩
def CLK_STATUS_PLL_UNLOCK : Fld := ⟨127, 2, 1, .ro, false, 0, []⟩
def CLK_STATUS_REF_RANGE : Fld := ⟨128, 1, 1, .ro, false, 0, []⟩
def CLK_STATUS_REF_LOSS : Fld := ⟨129, 0, 1, .ro, false, 0, []⟩
def CLK_ALARM_RELOCK_FAIL : Fld := ⟨130, 10, 1, .w1c, false, 0, []⟩
def CLK_ALARM_LOAD_CANCELLED : Fld := ⟨131, 9, 1, .w1c, false, 0, []⟩
def CLK_ALARM_LOAD_BAD : Fld := ⟨132, 8, 1, .w1c, false, 0, []⟩
def CLK_ALARM_TIME_LOST : Fld := ⟨133, 7, 1, .w1c, false, 0, []⟩
def CLK_ALARM_SYNC_DRIFT : Fld := ⟨134, 6, 1, .w1c, false, 0, []⟩
def CLK_ALARM_SYNC_FORM : Fld := ⟨135, 5, 1, .w1c, false, 0, []⟩
def CLK_ALARM_ALARMS : Fld := ⟨136, 0, 5, .w1c, false, 0, []⟩
def CLK_CTRL_REF_OUT_EN : Fld := ⟨137, 1, 1, .rw, false, 0, []⟩
def CLK_CTRL_RELOCK : Fld := ⟨138, 0, 1, .wo, true, 0, []⟩
def CLK_SYNC_CTRL_MARK_NEXT : Fld := ⟨139, 16, 1, .w1s, false, 0, []⟩
def CLK_SYNC_CTRL_OUT_MODE : Fld := ⟨140, 14, 2, .rw, true, 0, []⟩
def CLK_SYNC_CTRL_CHECK : Fld := ⟨141, 12, 1, .rw, true, 0, []⟩
def CLK_SYNC_CTRL_PERIOD : Fld := ⟨142, 0, 12, .rw, true, 10, []⟩
def CLK_SYNC_COMP_TAPS : Fld := ⟨143, 0, 20, .rw, true, 0, []⟩
def CLK_SYNC_PATH_TAPS : Fld := ⟨144, 0, 11, .rs, false, 0, []⟩
def CLK_SYNC_OUT_DLY_MASTER : Fld := ⟨145, 16, 16, .ro, false, 0, []⟩
def CLK_SYNC_OUT_DLY_REPEAT : Fld := ⟨146, 0, 16, .ro, false, 0, []⟩
def CLK_PHASE_TAPS : Fld := ⟨147, 0, 11, .rw, true, 0, []⟩
def CLK_SKEW_CTRL_GO : Fld := ⟨148, 31, 1, .wo, true, 0, []⟩
def CLK_SKEW_CTRL_MODE : Fld := ⟨149, 8, 1, .rw, false, 0, []⟩
def CLK_SKEW_CTRL_AVG_LOG2 : Fld := ⟨150, 0, 4, .rw, false, 8, []⟩
def CLK_SYNC_PHASE_ERR : Fld := ⟨151, 16, 16, .ro, false, 0, []⟩
def CLK_SYNC_PHASE_LAST : Fld := ⟨152, 0, 11, .ro, false, 0, []⟩
def CLK_DRIFT_LIMIT_TAPS : Fld := ⟨153, 0, 8, .rw, false, 8, []⟩
def CLK_TIME_SET_LO_TIME_LO : Fld := ⟨154, 0, 32, .rw, true, 0, []⟩
def CLK_TIME_SET_HI_TIME_HI : Fld := ⟨155, 0, 32, .rw, true, 0, []⟩
def CLK_TIME_CTRL_ARM : Fld := ⟨156, 0, 1, .w1s, true, 0, []⟩
def CLK_NOW_LO_TIME_LO : Fld := ⟨157, 0, 32, .ro, false, 0, []⟩
def CLK_NOW_HI_EPOCH : Fld := ⟨158, 8, 24, .ro, false, 0, []⟩
def CLK_NOW_HI_TIME_HI : Fld := ⟨159, 0, 8, .ro, false, 0, []⟩
def CLK_SHOT_COUNT : Fld := ⟨160, 0, 32, .ro, false, 0, []⟩
def CLK_SHOT_EPOCH_EPOCH : Fld := ⟨161, 0, 16, .ro, false, 0, []⟩
def CLK_SYNC_CNT_COUNT : Fld := ⟨162, 0, 32, .rw, false, 0, []⟩
def CLK_SYNC_FORM_CNT_COUNT : Fld := ⟨163, 0, 32, .rw, false, 0, []⟩
def CLK_REF_COUNT_COUNT : Fld := ⟨164, 0, 17, .ro, false, 0, []⟩

-- 13_event_fabric_and_mailboxes.md
def EVF_STATUS_OWNER_REFUSED : Fld := ⟨165, 2, 1, .w1c, false, 0, []⟩
def EVF_STATUS_OVERRUN : Fld := ⟨166, 1, 1, .w1c, false, 0, []⟩
def EVF_STATUS_REFUSED : Fld := ⟨167, 0, 1, .w1c, false, 0, []⟩
def EVF_FIRE_CH : Fld := ⟨168, 0, 9, .wo, false, 0, []⟩
def EVF_EVH_INDEX_POINT : Fld := ⟨169, 0, 16, .rw, false, 0, []⟩
def EVF_EVH_CUT_CUT : Fld := ⟨170, 0, 32, .rw, true, 0, []⟩
def EVF_SRC_EN : Fld := ⟨171, 31, 1, .rw, true, 0, []⟩
def EVF_SRC_CH : Fld := ⟨172, 0, 9, .rw, true, 0, []⟩
def EVF_CH_SECURE : Fld := ⟨173, 31, 1, .rs, false, 1, []⟩
def EVF_CH_OWNER : Fld := ⟨174, 0, 8, .rs, false, 255, []⟩
def EVF_CHST_REFUSED : Fld := ⟨175, 31, 1, .w1c, false, 0, []⟩
def EVF_CHST_REFUSE_CNT : Fld := ⟨176, 0, 16, .ro, false, 0, []⟩
def EVF_TASK_DIRECT_EN : Fld := ⟨177, 31, 1, .rw, false, 0, []⟩
def EVF_TASK_MUX_EN : Fld := ⟨178, 30, 1, .rw, false, 0, []⟩
def EVF_TASK_WAKE : Fld := ⟨179, 29, 1, .rw, false, 0, []⟩
def EVF_TASK_MUX_CH : Fld := ⟨180, 0, 9, .rw, false, 0, []⟩
def EVF_TASKST_PENDING : Fld := ⟨181, 31, 1, .w1c, false, 0, []⟩
def EVF_TASKST_OVERRUN : Fld := ⟨182, 30, 1, .w1c, false, 0, []⟩
def EVF_TASKST_COALESCE : Fld := ⟨183, 0, 16, .ro, false, 0, []⟩
def MBX_TX_WORD : Fld := ⟨184, 0, 36, .wo, false, 0, []⟩
def MBX_RX_WORD : Fld := ⟨185, 0, 36, .ro, false, 0, []⟩
def MBX_DB_RING : Fld := ⟨186, 0, 1, .wo, false, 0, []⟩
def MBX_TXSTAT_TIMEOUT : Fld := ⟨187, 31, 1, .w1c, false, 0, []⟩
def MBX_TXSTAT_COLLIDE : Fld := ⟨188, 30, 1, .w1c, false, 0, []⟩
def MBX_TXSTAT_FLUSH : Fld := ⟨189, 29, 1, .w1c, false, 0, []⟩
def MBX_TXSTAT_DB_PEND : Fld := ⟨190, 28, 1, .ro, false, 0, []⟩
def MBX_TXSTAT_FLUSHED : Fld := ⟨191, 16, 8, .ro, false, 0, []⟩
def MBX_TXSTAT_FILL : Fld := ⟨192, 0, 4, .ro, false, 0, []⟩
def MBX_RXSTAT_DB : Fld := ⟨193, 31, 1, .w1c, false, 0, []⟩
def MBX_RXSTAT_COLLIDE : Fld := ⟨194, 30, 1, .w1c, false, 0, []⟩
def MBX_RXSTAT_FILL : Fld := ⟨195, 0, 4, .ro, false, 0, []⟩
def MBX_RXMETA_VALID : Fld := ⟨196, 31, 1, .ro, false, 0, []⟩
def MBX_RXMETA_ORPHAN : Fld := ⟨197, 30, 1, .ro, false, 0, []⟩
def MBX_RXMETA_EPOCH : Fld := ⟨198, 8, 16, .ro, false, 0, []⟩
def MBX_RXMETA_SENDER : Fld := ⟨199, 0, 8, .ro, false, 0, []⟩
def MBX_CFG_CFG_ERR : Fld := ⟨200, 31, 1, .ro, false, 0, []⟩
def MBX_CFG_END_B : Fld := ⟨201, 8, 8, .rw, false, 255, [(0, 1)]⟩
def MBX_CFG_END_A : Fld := ⟨202, 0, 8, .rw, false, 255, [(0, 32)]⟩
def MBX_TIMEOUT_MICROSECONDS : Fld := ⟨203, 0, 16, .rw, false, 100, []⟩
def MBX_COLLIDE_CNT_COUNT : Fld := ⟨204, 0, 32, .rw, false, 0, []⟩
def MBX_EPOCH_EPOCH : Fld := ⟨205, 0, 16, .ro, false, 0, []⟩
def LCK_STATE_HELD : Fld := ⟨206, 31, 1, .ro, false, 0, []⟩
def LCK_STATE_OWNER : Fld := ⟨207, 0, 6, .ro, false, 0, []⟩
def LCK_ACQ_OWNER : Fld := ⟨208, 0, 6, .rw, false, 0, []⟩
def LCK_STATUS_FOREIGN : Fld := ⟨209, 0, 1, .w1c, false, 0, []⟩
def LCK_FORCE_CNT_COUNT : Fld := ⟨210, 0, 32, .rw, false, 0, []⟩

-- 14_service_plane_and_host.md
def SVA_CTRL_COMMIT : Fld := ⟨211, 31, 1, .wo, false, 0, []⟩
def SVA_CTRL_PENDING : Fld := ⟨212, 1, 1, .ro, false, 0, []⟩
def SVA_CTRL_CMT_REJECT : Fld := ⟨213, 0, 1, .w1c, false, 0, []⟩
def SVA_OWED_MAX : Fld := ⟨214, 16, 7, .ro, false, 0, []⟩
def SVA_OWED_NOW : Fld := ⟨215, 0, 7, .ro, false, 0, []⟩
def SVA_SEED_SEED : Fld := ⟨216, 0, 32, .rw, false, 1, []⟩
def SVA_LFSR_LFSR : Fld := ⟨217, 0, 32, .ro, false, 1, []⟩
def SVA_VOID_CNT_COUNT : Fld := ⟨218, 0, 32, .rw, false, 0, []⟩
def SVA_SKIP_CNT_COUNT : Fld := ⟨219, 0, 32, .rw, false, 0, []⟩
def SVA_NEST_CNT_COUNT : Fld := ⟨220, 0, 32, .rw, false, 0, []⟩
def SVA_EXPIRE_CNT_COUNT : Fld := ⟨221, 0, 32, .rw, false, 0, []⟩
def SVA_ECC_COR_CNT_COUNT : Fld := ⟨222, 0, 32, .rw, false, 0, []⟩
def SVA_ECC_UNC_CNT_COUNT : Fld := ⟨223, 0, 32, .rw, false, 0, []⟩
def SVA_REQ_LOSSES : Fld := ⟨224, 12, 4, .ro, false, 0, []⟩
def SVA_REQ_TICKETS : Fld := ⟨225, 0, 8, .rw, false, 0, svaTickets⟩
def SVA_SLOT_ENTRY : Fld := ⟨226, 0, 16, .rw, false, 0, []⟩
def SVA_ACT_ENTRY : Fld := ⟨227, 0, 16, .ro, false, 0, []⟩
def HST_LINK_UP : Fld := ⟨228, 31, 1, .ro, false, 0, []⟩
def HST_LINK_SPEED : Fld := ⟨229, 16, 4, .ro, false, 0, []⟩
def HST_LINK_WIDTH : Fld := ⟨230, 0, 5, .ro, false, 0, []⟩
def HST_W2_BASE_LO_ADDR : Fld := ⟨231, 21, 11, .rw, false, 0, []⟩
def HST_W2_BASE_HI_ADDR : Fld := ⟨232, 0, 4, .rw, false, 0, []⟩
def HST_AERR_CNT_COUNT : Fld := ⟨233, 0, 32, .rw, false, 0, []⟩
def HST_AERR_SRC_VALID : Fld := ⟨234, 31, 1, .ro, false, 0, []⟩
def HST_AERR_SRC_WRITE : Fld := ⟨235, 30, 1, .ro, false, 0, []⟩
def HST_AERR_SRC_MASTER : Fld := ⟨236, 8, 8, .ro, false, 0, []⟩
def HST_AERR_SRC_KIND : Fld := ⟨237, 0, 3, .ro, false, 0, []⟩
def HST_AERR_ADDR_ADDR : Fld := ⟨238, 0, 32, .ro, false, 0, []⟩
def HST_SESSION_OPEN : Fld := ⟨239, 31, 1, .ro, false, 0, []⟩
def HST_SESSION_RECOVERY : Fld := ⟨240, 8, 1, .ro, false, 0, []⟩
def HST_SESSION_MAJOR : Fld := ⟨241, 4, 4, .ro, false, 0, []⟩
def HST_SESSION_MINOR : Fld := ⟨242, 0, 4, .ro, false, 0, []⟩
def HST_RES_FLUSH_MICROSECONDS : Fld := ⟨243, 0, 10, .rw, false, 200, []⟩
def HST_RES_BASE_LO_ADDR : Fld := ⟨244, 12, 20, .rw, false, 0, []⟩
def HST_RES_BASE_HI_ADDR : Fld := ⟨245, 0, 4, .rw, false, 0, []⟩
def HST_RES_SIZE_ENABLE : Fld := ⟨246, 31, 1, .rw, false, 0, []⟩
def HST_RES_SIZE_BLOCKS_LOG2 : Fld := ⟨247, 0, 5, .rw, false, 4, []⟩
def HST_RES_WR_INDEX : Fld := ⟨248, 0, 32, .ro, false, 0, []⟩
def HST_RES_RD_INDEX : Fld := ⟨249, 0, 32, .rw, false, 0, []⟩
def HST_RES_STAT_FULL : Fld := ⟨250, 31, 1, .w1c, false, 0, []⟩
def HST_RES_STAT_WAITING : Fld := ⟨251, 0, 3, .ro, false, 0, []⟩

-- 15_system_lanes.md
def LAN_CTRL_ENABLE : Fld := ⟨252, 31, 1, .rw, true, 0, []⟩
def LAN_CTRL_RETRAIN : Fld := ⟨253, 30, 1, .wo, false, 0, []⟩
def LAN_CTRL_MODE : Fld := ⟨254, 28, 2, .rw, true, 0, []⟩
def LAN_STATUS_STATE : Fld := ⟨255, 29, 3, .ro, false, 0, []⟩
def LAN_STATUS_RES_EN : Fld := ⟨256, 28, 1, .ro, false, 0, []⟩
def LAN_STATUS_LOCK : Fld := ⟨257, 27, 1, .ro, false, 0, []⟩
def LAN_STATUS_LAT_RANGE : Fld := ⟨258, 26, 1, .ro, false, 0, []⟩
def LAN_STATUS_MISMATCH : Fld := ⟨259, 25, 1, .ro, false, 0, []⟩
def LAN_STATUS_PRBS_SYNC : Fld := ⟨260, 24, 1, .ro, false, 0, []⟩
def LAN_STATUS_REV_MAJOR : Fld := ⟨261, 20, 4, .ro, false, 0, []⟩
def LAN_STATUS_REV_MINOR : Fld := ⟨262, 16, 4, .ro, false, 0, []⟩
def LAN_STATUS_SUM_ERR : Fld := ⟨263, 5, 1, .w1c, false, 0, []⟩
def LAN_STATUS_TRAIN_FAIL : Fld := ⟨264, 4, 1, .w1c, false, 0, []⟩
def LAN_STATUS_CRC_ERR : Fld := ⟨265, 3, 1, .w1c, false, 0, []⟩
def LAN_STATUS_RES_LATE : Fld := ⟨266, 2, 1, .w1c, false, 0, []⟩
def LAN_STATUS_RES_LOST : Fld := ⟨267, 1, 1, .w1c, false, 0, []⟩
def LAN_STATUS_LOCK_LOST : Fld := ⟨268, 0, 1, .w1c, false, 0, []⟩
def LAN_LATENCY_DEPTH : Fld := ⟨269, 16, 8, .ro, false, 0, []⟩
def LAN_LATENCY_A : Fld := ⟨270, 0, 16, .ro, false, 0, []⟩
def LAN_PARTNER_TAG_TAG : Fld := ⟨271, 0, 32, .ro, false, 0, []⟩
def LAN_PARTNER_GEN_L : Fld := ⟨272, 16, 13, .ro, false, 0, []⟩
def LAN_PARTNER_GEN_GEN : Fld := ⟨273, 0, 16, .ro, false, 0, []⟩
def LAN_PARTNER_POS_TIME_VALID : Fld := ⟨274, 31, 1, .ro, false, 0, []⟩
def LAN_PARTNER_POS_LANE : Fld := ⟨275, 12, 5, .ro, false, 0, []⟩
def LAN_PARTNER_POS_COORD : Fld := ⟨276, 0, 12, .ro, false, 0, []⟩
def LAN_RES_LOST_CNT_COUNT : Fld := ⟨277, 0, 32, .rw, false, 0, []⟩
def LAN_RES_LATE_CNT_COUNT : Fld := ⟨278, 0, 32, .rw, false, 0, []⟩
def LAN_HDR_ERR_CNT_COUNT : Fld := ⟨279, 0, 32, .rw, false, 0, []⟩
def LAN_BULK_CRC_CNT_COUNT : Fld := ⟨280, 0, 32, .rw, false, 0, []⟩
def LAN_PRBS_ERR_CNT_COUNT : Fld := ⟨281, 0, 32, .rw, false, 0, []⟩
def LAN_PRBS_BITS_LO_BITS_LO : Fld := ⟨282, 0, 32, .ro, false, 0, []⟩
def LAN_PRBS_BITS_HI_BITS_HI : Fld := ⟨283, 0, 32, .ro, false, 0, []⟩
def LAN_SUM_ERR_CNT_COUNT : Fld := ⟨284, 0, 32, .rw, false, 0, []⟩
def LAN_RX_TAP_FACTORY : Fld := ⟨285, 16, 8, .ro, false, 0, []⟩
def LAN_RX_TAP_TAP : Fld := ⟨286, 0, 8, .rs, true, 0, []⟩
def LAN_SUM_TICK_TICK_LO : Fld := ⟨287, 0, 32, .ro, false, 0, []⟩
def LAN_COORD_SZ_M1 : Fld := ⟨288, 20, 4, .rw, false, 0, []⟩
def LAN_COORD_SY_M1 : Fld := ⟨289, 16, 4, .rw, false, 0, []⟩
def LAN_COORD_SX_M1 : Fld := ⟨290, 12, 4, .rw, false, 0, []⟩
def LAN_COORD_POS : Fld := ⟨291, 0, 12, .rw, false, 0, []⟩
def LAN_BQ_BASE_LO_ADDR : Fld := ⟨292, 12, 20, .rw, false, 0, []⟩
def LAN_BQ_BASE_HI_ADDR : Fld := ⟨293, 0, 4, .rw, false, 0, []⟩
def LAN_BQ_SIZE_ENABLE : Fld := ⟨294, 31, 1, .rw, false, 0, []⟩
def LAN_BQ_SIZE_LOG2 : Fld := ⟨295, 0, 4, .rw, false, 0, []⟩
def LAN_BQ_WR_INDEX : Fld := ⟨296, 0, 32, .rw, false, 0, []⟩
def LAN_BQ_RD_INDEX : Fld := ⟨297, 0, 32, .ro, false, 0, []⟩
def LAN_BQ_TIMEOUT_MICROSECONDS : Fld := ⟨298, 0, 16, .rw, false, 1000, []⟩

-- 16_pointing_calibration_and_monitoring.md
def PNT_CTRL_GO : Fld := ⟨299, 31, 1, .wo, false, 0, []⟩
def PNT_CTRL_ABORT : Fld := ⟨300, 30, 1, .wo, false, 0, []⟩
def PNT_CTRL_MODE : Fld := ⟨301, 28, 2, .rw, false, 0, []⟩
def PNT_CTRL_ITEM : Fld := ⟨302, 24, 4, .rw, false, 0, []⟩
def PNT_CTRL_COUNT : Fld := ⟨303, 12, 12, .rw, false, 0, []⟩
def PNT_CTRL_FIRST : Fld := ⟨304, 0, 12, .rw, false, 0, []⟩
def PNT_TIMEOUT_MS : Fld := ⟨305, 0, 20, .rw, false, 1000, []⟩
def PNT_STATUS_STATE : Fld := ⟨306, 29, 3, .ro, false, 0, []⟩
def PNT_STATUS_CLAMPED : Fld := ⟨307, 28, 1, .w1c, false, 0, []⟩
def PNT_STATUS_CODE : Fld := ⟨308, 16, 8, .ro, false, 0, []⟩
def PNT_STATUS_ITEM : Fld := ⟨309, 12, 4, .ro, false, 0, []⟩
def PNT_COUNT_FAILED : Fld := ⟨310, 12, 12, .ro, false, 0, []⟩
def PNT_COUNT_ACCEPTED : Fld := ⟨311, 0, 12, .ro, false, 0, []⟩
def PNT_FAIL_VALID : Fld := ⟨312, 31, 1, .ro, false, 0, []⟩
def PNT_FAIL_REASON : Fld := ⟨313, 24, 4, .ro, false, 0, []⟩
def PNT_FAIL_INSTANCE : Fld := ⟨314, 0, 12, .ro, false, 0, []⟩
def PNT_TRIM_INDEX_AUTOINC : Fld := ⟨315, 31, 1, .rw, false, 0, []⟩
def PNT_TRIM_INDEX_SUB : Fld := ⟨316, 24, 7, .rw, false, 0, []⟩
def PNT_TRIM_INDEX_ITEM : Fld := ⟨317, 20, 4, .rw, false, 0, []⟩
def PNT_TRIM_INDEX_ZONE : Fld := ⟨318, 18, 2, .rw, false, 0, []⟩
def PNT_TRIM_INDEX_INSTANCE : Fld := ⟨319, 0, 12, .rw, false, 0, []⟩
def PNT_TRIM_DATA_DELTA : Fld := ⟨320, 16, 16, .ro, false, 0, []⟩
def PNT_TRIM_DATA_FACTORY : Fld := ⟨321, 0, 16, .ro, false, 0, []⟩
def PNT_LOG_FILL_NEXT : Fld := ⟨322, 16, 6, .ro, false, 0, []⟩
def PNT_LOG_FILL_ENTRIES : Fld := ⟨323, 0, 7, .ro, false, 0, []⟩
def PNT_LOG_TLO_WORD : Fld := ⟨324, 0, 32, .ro, false, 0, []⟩
def PNT_LOG_THI_WORD : Fld := ⟨325, 0, 32, .ro, false, 0, []⟩
def PNT_LOG_ID_WORD : Fld := ⟨326, 0, 32, .ro, false, 0, []⟩
def PNT_LOG_VAL_WORD : Fld := ⟨327, 0, 32, .ro, false, 0, []⟩
def MON_SEQ_CTRL_ENABLE : Fld := ⟨328, 31, 1, .rw, false, 0, []⟩
def MON_SEQ_CTRL_ONCE : Fld := ⟨329, 30, 1, .rw, false, 0, []⟩
def MON_SEQ_CTRL_LAST : Fld := ⟨330, 24, 6, .rw, false, 0, []⟩
def MON_SEQ_CTRL_PERIOD : Fld := ⟨331, 0, 20, .rw, false, 1000, []⟩
def MON_STATUS_BUSY : Fld := ⟨332, 31, 1, .ro, false, 0, []⟩
def MON_STATUS_USER : Fld := ⟨333, 29, 2, .ro, false, 0, []⟩
def MON_STATUS_INJ_OVERRUN : Fld := ⟨334, 17, 1, .w1c, false, 0, []⟩
def MON_STATUS_SEQ_OVERRUN : Fld := ⟨335, 16, 1, .w1c, false, 0, []⟩
def MON_STATUS_PASSES : Fld := ⟨336, 0, 16, .ro, false, 0, []⟩
def MON_ENT_LIMIT_EN : Fld := ⟨337, 31, 1, .rw, false, 0, []⟩
def MON_ENT_AVG_LOG2 : Fld := ⟨338, 24, 4, .rw, false, 0, []⟩
def MON_ENT_CHANNEL : Fld := ⟨339, 0, 10, .rw, false, 0, []⟩
def MON_LIM_HI : Fld := ⟨340, 16, 16, .rw, false, 32767, []⟩
def MON_LIM_LO : Fld := ⟨341, 0, 16, .rw, false, 32768, []⟩
def MON_RES_VALID : Fld := ⟨342, 31, 1, .ro, false, 0, []⟩
def MON_RES_OUT : Fld := ⟨343, 30, 1, .w1c, false, 0, []⟩
def MON_RES_PASS : Fld := ⟨344, 16, 8, .ro, false, 0, []⟩
def MON_RES_VALUE : Fld := ⟨345, 0, 16, .ro, false, 0, []⟩
def MON_INJ_CTRL_SRC : Fld := ⟨346, 30, 2, .rw, false, 0, []⟩
def MON_INJ_CTRL_AVG_LOG2 : Fld := ⟨347, 24, 4, .rw, false, 0, []⟩
def MON_INJ_CTRL_CHANNEL : Fld := ⟨348, 0, 10, .rw, false, 0, []⟩
def MON_INJ_PULSE_CHISEL : Fld := ⟨349, 16, 7, .rw, false, 0, []⟩
def MON_INJ_PULSE_PC : Fld := ⟨350, 0, 15, .rw, false, 0, []⟩
def MON_INJ_DELAY_DELAY : Fld := ⟨351, 0, 16, .rw, false, 0, []⟩
def MON_INJ_RES_VALID : Fld := ⟨352, 31, 1, .ro, false, 0, []⟩
def MON_INJ_RES_OVERRUN : Fld := ⟨353, 30, 1, .w1c, false, 0, []⟩
def MON_INJ_RES_LATE : Fld := ⟨354, 16, 12, .ro, false, 0, []⟩
def MON_INJ_RES_VALUE : Fld := ⟨355, 0, 16, .ro, false, 0, []⟩

-- 17_thermal_power_and_service_life.md
def THM_STATUS_SHUTDOWN : Fld := ⟨356, 31, 1, .ro, false, 0, []⟩
def THM_STATUS_WARN : Fld := ⟨357, 30, 1, .ro, false, 0, []⟩
def THM_STATUS_WARN_SEEN : Fld := ⟨358, 29, 1, .w1c, false, 0, []⟩
def THM_STATUS_WARN_DIE : Fld := ⟨359, 0, 5, .ro, false, 0, []⟩
def THM_WARN_DIE_DIES : Fld := ⟨360, 0, 29, .ro, false, 0, []⟩
def THM_CAUSE_VALID : Fld := ⟨361, 31, 1, .ro, false, 0, []⟩
def THM_CAUSE_DIE : Fld := ⟨362, 0, 5, .ro, false, 0, []⟩
def THM_WARN_THRESH_DEGREES : Fld := ⟨363, 0, 8, .rs, false, 100, []⟩
def PWR_STATE_BUSY : Fld := ⟨364, 31, 1, .ro, false, 0, []⟩
def PWR_STATE_LAST_CODE : Fld := ⟨365, 16, 8, .ro, false, 0, []⟩
def PWR_STATE_STATE : Fld := ⟨366, 0, 3, .ro, false, 4, []⟩
def PWR_REQ_REQ : Fld := ⟨367, 0, 3, .wo, false, 0, []⟩
def PWR_STATUS_SUPPLY_FAULT : Fld := ⟨368, 31, 1, .w1c, false, 0, []⟩
def PWR_STATUS_RAIL_FAULT : Fld := ⟨369, 30, 1, .w1c, false, 0, []⟩
def PWR_STATUS_RAIL : Fld := ⟨370, 24, 3, .ro, false, 0, []⟩
def PWR_STATUS_RAILS_GOOD : Fld := ⟨371, 0, 7, .ro, false, 0, []⟩

-- 11_decisions_and_pauli_frames.md
def DEC_STATUS_UNPUB_TX : Fld := ⟨372, 2, 1, .w1c, false, 0, []⟩
def DEC_STATUS_LANE_DEFAULT : Fld := ⟨373, 1, 1, .w1c, false, 0, []⟩
def DEC_STATUS_LANE_LATE : Fld := ⟨374, 0, 1, .w1c, false, 0, []⟩
def DEC_UNPUB_TX_CNT_COUNT : Fld := ⟨375, 0, 32, .rw, false, 0, []⟩
def DEC_LANE_CNT_COUNT : Fld := ⟨376, 0, 32, .rw, false, 0, []⟩
def DEC_LATE_CNT_COUNT : Fld := ⟨377, 0, 32, .rw, false, 0, []⟩
def DEC_WORD_LO_BITS : Fld := ⟨378, 0, 32, .ro, false, 0, []⟩
def DEC_WORD_HI_BITS : Fld := ⟨379, 0, 32, .ro, false, 0, []⟩
def DEC_WORD_TAINT_TAINT : Fld := ⟨380, 0, 8, .ro, false, 0, []⟩
def DEC_MEM_CTRL_SEL : Fld := ⟨381, 30, 2, .rw, false, 0, []⟩
def DEC_MEM_CTRL_AUTOINC : Fld := ⟨382, 29, 1, .rw, false, 0, []⟩
def DEC_MEM_CTRL_ADDR : Fld := ⟨383, 0, 13, .rw, false, 0, []⟩
def DEC_MEM_DATA_DATA : Fld := ⟨384, 0, 32, .ro, false, 0, []⟩
def PFU_CTRL_SHOT_RESET : Fld := ⟨385, 0, 1, .ro, false, 0, []⟩
def PFU_STATUS_ESC : Fld := ⟨386, 2, 1, .w1c, false, 0, []⟩
def PFU_STATUS_UNPUB : Fld := ⟨387, 1, 1, .w1c, false, 0, []⟩
def PFU_STATUS_FIRST : Fld := ⟨388, 0, 1, .ro, false, 1, []⟩
def PFU_ROUND_ROUND : Fld := ⟨389, 0, 32, .ro, false, 0, []⟩
def PFU_UNPUB_CNT_COUNT : Fld := ⟨390, 0, 32, .rw, false, 0, []⟩
def PFU_ESC_CNT_COUNT : Fld := ⟨391, 0, 32, .rw, false, 0, []⟩
def PFU_PENDING_COUNT : Fld := ⟨392, 0, 17, .ro, false, 0, []⟩
def PFU_REC_INDEX_AUTOINC : Fld := ⟨393, 31, 1, .rw, false, 0, []⟩
def PFU_REC_INDEX_INDEX : Fld := ⟨394, 0, 16, .rw, false, 0, []⟩
def PFU_REC_DATA_TAINT : Fld := ⟨395, 16, 8, .ro, false, 0, []⟩
def PFU_REC_DATA_GEN : Fld := ⟨396, 8, 6, .ro, false, 0, []⟩
def PFU_REC_DATA_PEND : Fld := ⟨397, 2, 1, .ro, false, 0, []⟩
def PFU_REC_DATA_Z : Fld := ⟨398, 1, 1, .ro, false, 0, []⟩
def PFU_REC_DATA_X : Fld := ⟨399, 0, 1, .ro, false, 0, []⟩
def PFU_MEM_CTRL_SEL : Fld := ⟨400, 29, 3, .rw, false, 0, []⟩
def PFU_MEM_CTRL_AUTOINC : Fld := ⟨401, 28, 1, .rw, false, 0, []⟩
def PFU_MEM_CTRL_ADDR : Fld := ⟨402, 0, 20, .rw, false, 0, []⟩
def PFU_MEM_DATA_DATA : Fld := ⟨403, 0, 32, .ro, false, 0, []⟩

-- 12_capture_and_timing_inputs.md
def ACQ_CTRL_ENABLE : Fld := ⟨404, 31, 1, .rw, true, 0, []⟩
def ACQ_CTRL_REARM : Fld := ⟨405, 28, 2, .rw, true, 0, []⟩
def ACQ_CTRL_SRC : Fld := ⟨406, 26, 2, .rw, true, 0, []⟩
def ACQ_CTRL_DECIM : Fld := ⟨407, 23, 3, .rw, true, 0, []⟩
def ACQ_CTRL_ARM_CH : Fld := ⟨408, 12, 9, .rw, true, 0, []⟩
def ACQ_CTRL_SEL : Fld := ⟨409, 0, 11, .rw, true, 0, []⟩
def ACQ_PRE_PRE : Fld := ⟨410, 0, 21, .rw, true, 0, []⟩
def ACQ_POST_POST_M1 : Fld := ⟨411, 0, 22, .rw, true, 0, []⟩
def ACQ_HOLDOFF_TICKS : Fld := ⟨412, 0, 24, .rw, true, 0, []⟩
def ACQ_RING_LO_ADDR : Fld := ⟨413, 12, 20, .rw, true, 0, []⟩
def ACQ_RING_HI_ADDR : Fld := ⟨414, 0, 4, .rw, true, 0, []⟩
def ACQ_SLOTS_SLOT_LOG2 : Fld := ⟨415, 24, 5, .rw, true, 12, []⟩
def ACQ_SLOTS_NSLOT : Fld := ⟨416, 0, 16, .rw, true, 0, []⟩
def ACQ_RD_INDEX : Fld := ⟨417, 0, 32, .rw, false, 0, []⟩
def ACQ_WR_INDEX : Fld := ⟨418, 0, 32, .ro, false, 0, []⟩
def ACQ_STATUS_STATE : Fld := ⟨419, 29, 3, .ro, false, 0, []⟩
def ACQ_STATUS_CFG_ERR : Fld := ⟨420, 3, 1, .ro, false, 0, []⟩
def ACQ_STATUS_REJ : Fld := ⟨421, 2, 1, .w1c, false, 0, []⟩
def ACQ_STATUS_LOST : Fld := ⟨422, 1, 1, .w1c, false, 0, []⟩
def ACQ_STATUS_GAP : Fld := ⟨423, 0, 1, .w1c, false, 0, []⟩
def ACQ_REC_CNT_COUNT : Fld := ⟨424, 0, 32, .ro, false, 0, []⟩
def ACQ_REJ_FILL_CNT_COUNT : Fld := ⟨425, 0, 32, .rw, false, 0, []⟩
def ACQ_REJ_BUSY_CNT_COUNT : Fld := ⟨426, 0, 32, .rw, false, 0, []⟩
def ACQ_LOST_CNT_COUNT : Fld := ⟨427, 0, 32, .rw, false, 0, []⟩
def ACQ_GAP_CNT_COUNT : Fld := ⟨428, 0, 32, .rw, false, 0, []⟩
def ACQ_REJ_FIRST_VALID : Fld := ⟨429, 31, 1, .ro, false, 0, []⟩
def ACQ_REJ_FIRST_REASON : Fld := ⟨430, 28, 2, .ro, false, 0, []⟩
def ACQ_REJ_FIRST_SUB : Fld := ⟨431, 0, 5, .ro, false, 0, []⟩
def ACQ_REJ_TLO_TICK_LO : Fld := ⟨432, 0, 32, .ro, false, 0, []⟩
def ACQ_REJ_THI_TICK_HI : Fld := ⟨433, 0, 32, .ro, false, 0, []⟩
def ACQ_COND_KIND : Fld := ⟨434, 29, 3, .rw, true, 0, []⟩
def ACQ_COND_SLOPE : Fld := ⟨435, 27, 2, .rw, true, 0, []⟩
def ACQ_COND_COMP : Fld := ⟨436, 26, 1, .rw, true, 0, []⟩
def ACQ_COND_VALUE : Fld := ⟨437, 25, 1, .rw, true, 0, []⟩
def ACQ_COND_SEL : Fld := ⟨438, 0, 11, .rw, true, 0, []⟩
def ACQ_ARG_ARG : Fld := ⟨439, 0, 32, .rw, true, 0, []⟩
def TIN_CFG_SLOPE : Fld := ⟨440, 28, 2, .rw, true, 0, []⟩
def TIN_CFG_HYST : Fld := ⟨441, 26, 2, .rw, true, 0, []⟩
def TIN_CFG_TERM : Fld := ⟨442, 24, 1, .rw, true, 1, []⟩
def TIN_CFG_THRESH : Fld := ⟨443, 0, 12, .rw, true, 1365, []⟩
def TIN_DELAY_FACTORY : Fld := ⟨444, 16, 16, .ro, false, 0, []⟩
def TIN_DELAY_USER : Fld := ⟨445, 0, 16, .rw, true, 0, []⟩
def TIN_STATUS_LEVEL : Fld := ⟨446, 31, 1, .ro, false, 0, []⟩
def TIN_STATUS_FILL : Fld := ⟨447, 16, 11, .ro, false, 0, []⟩
def TIN_STATUS_MISS : Fld := ⟨448, 1, 1, .w1c, false, 0, []⟩
def TIN_STATUS_OVERFLOW : Fld := ⟨449, 0, 1, .w1c, false, 0, []⟩
def TIN_EDGE_CNT_COUNT : Fld := ⟨450, 0, 32, .rw, false, 0, []⟩
def TIN_MISS_CNT_COUNT : Fld := ⟨451, 0, 32, .rw, false, 0, []⟩
def TIN_STAMP_WORD : Fld := ⟨452, 0, 36, .ro, false, 0, []⟩
def TDC_MCTRL_GO : Fld := ⟨453, 31, 1, .wo, false, 0, []⟩
def TDC_MCTRL_ARM : Fld := ⟨454, 28, 2, .rw, false, 0, []⟩
def TDC_MCTRL_NSTOP : Fld := ⟨455, 24, 4, .rw, false, 1, []⟩
def TDC_MCTRL_STOP : Fld := ⟨456, 16, 5, .rw, false, 0, []⟩
def TDC_MCTRL_START : Fld := ⟨457, 8, 5, .rw, false, 0, []⟩
def TDC_MTIMEOUT_TICKS : Fld := ⟨458, 0, 32, .rw, false, 400000, []⟩
def TDC_MCH_CH : Fld := ⟨459, 0, 9, .rw, false, 0, []⟩
def TDC_MSTATUS_BUSY : Fld := ⟨460, 31, 1, .ro, false, 0, []⟩
def TDC_MSTATUS_DONE : Fld := ⟨461, 30, 1, .w1c, false, 0, []⟩
def TDC_MSTATUS_TIMEOUT : Fld := ⟨462, 29, 1, .ro, false, 0, []⟩
def TDC_MSTATUS_OVERRUN : Fld := ⟨463, 28, 1, .w1c, false, 0, []⟩
def TDC_MSTATUS_CFG_ERR : Fld := ⟨464, 27, 1, .ro, false, 0, []⟩
def TDC_MSTATUS_COUNT : Fld := ⟨465, 0, 4, .ro, false, 0, []⟩
def TDC_MSTART_LO_STAMP_LO : Fld := ⟨466, 0, 32, .ro, false, 0, []⟩
def TDC_MSTART_HI_STAMP_HI : Fld := ⟨467, 0, 17, .ro, false, 0, []⟩
def TDC_MINT_LO_INT_LO : Fld := ⟨468, 0, 32, .ro, false, 0, []⟩
def TDC_MINT_HI_INT_HI : Fld := ⟨469, 0, 16, .ro, false, 0, []⟩
def TDC_FCTRL_GO : Fld := ⟨470, 31, 1, .wo, false, 0, []⟩
def TDC_FCTRL_ARM : Fld := ⟨471, 28, 2, .rw, false, 0, []⟩
def TDC_FCTRL_PRESCALE : Fld := ⟨472, 24, 4, .rw, false, 0, []⟩
def TDC_FCTRL_TIN : Fld := ⟨473, 16, 5, .rw, false, 0, []⟩
def TDC_FCTRL_CH : Fld := ⟨474, 0, 9, .rw, false, 0, []⟩
def TDC_FGATE_TICKS : Fld := ⟨475, 0, 32, .rw, false, 400000, []⟩
def TDC_FSTATUS_BUSY : Fld := ⟨476, 31, 1, .ro, false, 0, []⟩
def TDC_FSTATUS_DONE : Fld := ⟨477, 30, 1, .w1c, false, 0, []⟩
def TDC_FSTATUS_FAULT : Fld := ⟨478, 29, 1, .ro, false, 0, []⟩
def TDC_FSTATUS_TRUNC : Fld := ⟨479, 28, 1, .ro, false, 0, []⟩
def TDC_FSTATUS_CFG_ERR : Fld := ⟨480, 27, 1, .ro, false, 0, []⟩
def TDC_FSTATUS_N : Fld := ⟨481, 0, 21, .ro, false, 0, []⟩
def TDC_FSTART_LO_VALUE : Fld := ⟨482, 0, 32, .ro, false, 0, []⟩
def TDC_FSTART_HI_VALUE : Fld := ⟨483, 0, 32, .ro, false, 0, []⟩
def TDC_FPER_LO_VALUE : Fld := ⟨484, 0, 32, .ro, false, 0, []⟩
def TDC_FPER_HI_VALUE : Fld := ⟨485, 0, 32, .ro, false, 0, []⟩
def TDC_FFREQ_LO_VALUE : Fld := ⟨486, 0, 32, .ro, false, 0, []⟩
def TDC_FFREQ_HI_VALUE : Fld := ⟨487, 0, 32, .ro, false, 0, []⟩
def TDC_FRESID_VALUE : Fld := ⟨488, 0, 32, .ro, false, 0, []⟩
def TDC_CAL_CTRL_GO : Fld := ⟨489, 31, 1, .wo, true, 0, []⟩
def TDC_CAL_CTRL_SEL : Fld := ⟨490, 0, 6, .rw, false, 0, []⟩
def TDC_CAL_STATUS_BUSY : Fld := ⟨491, 31, 1, .ro, false, 0, []⟩
def TDC_CAL_STATUS_DONE : Fld := ⟨492, 30, 1, .w1c, false, 0, []⟩
def TDC_CAL_STATUS_FAIL : Fld := ⟨493, 29, 1, .w1c, false, 0, []⟩
def TDC_CAL_STATUS_FAIL_SEL : Fld := ⟨494, 0, 6, .ro, false, 0, []⟩
def TDC_BIN_INDEX_AUTOINC : Fld := ⟨495, 31, 1, .rw, false, 0, []⟩
def TDC_BIN_INDEX_SEL : Fld := ⟨496, 9, 6, .rw, false, 0, []⟩
def TDC_BIN_INDEX_BIN : Fld := ⟨497, 0, 9, .rw, false, 0, []⟩
def TDC_BIN_DATA_POS : Fld := ⟨498, 21, 11, .ro, false, 0, []⟩
def TDC_BIN_DATA_HITS : Fld := ⟨499, 0, 21, .ro, false, 0, []⟩
def MKO_CTRL_PIN : Fld := ⟨500, 31, 1, .ro, false, 0, []⟩
def MKO_CTRL_LEVEL : Fld := ⟨501, 30, 1, .ro, false, 0, []⟩
def MKO_CTRL_CLAMP : Fld := ⟨502, 29, 1, .ro, false, 0, []⟩
def MKO_CTRL_INVERT : Fld := ⟨503, 8, 1, .rw, true, 0, []⟩
def MKO_CTRL_NONE : Fld := ⟨504, 7, 1, .rw, true, 1, []⟩
def MKO_CTRL_OWNER : Fld := ⟨505, 0, 7, .rw, true, 0, []⟩
def MKO_DELAY_FACTORY : Fld := ⟨506, 16, 11, .ro, false, 0, []⟩
def MKO_DELAY_USER : Fld := ⟨507, 0, 11, .rw, true, 0, []⟩

-- 05_chisel_programs.md
def CHS_CTRL_ENTRY : Fld := ⟨508, 16, 15, .rw, true, 0, []⟩
def CHS_CTRL_ENABLE : Fld := ⟨509, 0, 1, .rw, true, 0, []⟩
def CHS_STATUS_STATE : Fld := ⟨510, 29, 3, .ro, false, 0, []⟩
def CHS_STATUS_BAR_TIMEOUT : Fld := ⟨511, 27, 1, .w1c, false, 0, []⟩
def CHS_STATUS_WAITT_TIMEOUT : Fld := ⟨512, 26, 1, .w1c, false, 0, []⟩
def CHS_STATUS_CUT : Fld := ⟨513, 25, 1, .w1c, false, 0, []⟩
def CHS_STATUS_SHOT_TAINT : Fld := ⟨514, 16, 8, .ro, false, 0, []⟩
def CHS_STATUS_PC : Fld := ⟨515, 0, 15, .ro, false, 0, []⟩
def CHS_PREV_TAINT_TAINT : Fld := ⟨516, 0, 8, .ro, false, 0, []⟩
def CHS_PREV_SHOT_COUNT : Fld := ⟨517, 0, 32, .ro, false, 0, []⟩
def CHS_CUT_CNT_COUNT : Fld := ⟨518, 0, 32, .rw, false, 0, []⟩
def CHS_TIMEOUT_CNT_COUNT : Fld := ⟨519, 0, 32, .rw, false, 0, []⟩
def CHS_BAR_EN_EN : Fld := ⟨520, 0, 16, .rw, true, 0, []⟩
def CHS_MEM_CTRL_SEL : Fld := ⟨521, 30, 2, .rw, false, 0, []⟩
def CHS_MEM_CTRL_AUTOINC : Fld := ⟨522, 29, 1, .rw, false, 0, []⟩
def CHS_MEM_CTRL_ADDR : Fld := ⟨523, 0, 18, .rw, false, 0, []⟩
def CHS_MEM_DATA_DATA : Fld := ⟨524, 0, 36, .rw, true, 0, []⟩
def CHS_G_VALUE : Fld := ⟨525, 0, 36, .ro, false, 0, []⟩
def CHS_K_VALUE : Fld := ⟨526, 0, 24, .ro, false, 0, []⟩

-- 06_segment_tables_and_streaming.md
def SEG_SLOT_MODE : Fld := ⟨527, 30, 2, .ro, false, 0, []⟩
def SEG_SLOT_LATCH : Fld := ⟨528, 29, 1, .ro, false, 0, []⟩
def SEG_SLOT_STOP_PEND : Fld := ⟨529, 28, 1, .ro, false, 0, []⟩
def SEG_SLOT_REPOINT_PEND : Fld := ⟨530, 27, 1, .ro, false, 0, []⟩
def SEG_SLOT_ENTRY : Fld := ⟨531, 16, 10, .ro, false, 0, []⟩
def SEG_SLOT_REMAIN : Fld := ⟨532, 0, 16, .ro, false, 0, []⟩
def SEG_JUMP_CNT_COUNT : Fld := ⟨533, 0, 32, .rw, false, 0, []⟩
def SEG_MERGE_CNT_COUNT : Fld := ⟨534, 0, 32, .rw, false, 0, []⟩
def STM_CTRL_RESTART : Fld := ⟨536, 31, 1, .wo, true, 0, []⟩
def STM_CTRL_ENABLE : Fld := ⟨537, 0, 1, .rw, true, 0, []⟩
def STM_BUF_SIZE : Fld := ⟨538, 16, 11, .rw, true, 0, []⟩
def STM_BUF_BASE : Fld := ⟨539, 0, 10, .rw, true, 0, []⟩
def STM_RING_LO_ADDR : Fld := ⟨540, 12, 20, .rw, true, 0, []⟩
def STM_RING_HI_ADDR : Fld := ⟨541, 0, 4, .rw, true, 0, []⟩
def STM_RING_SIZE_RING_LOG2 : Fld := ⟨542, 0, 5, .rw, true, 6, []⟩
def STM_WR_INDEX : Fld := ⟨543, 0, 32, .rw, false, 0, []⟩
def STM_RD_INDEX : Fld := ⟨544, 0, 32, .ro, false, 0, []⟩
def STM_CONS_INDEX : Fld := ⟨545, 0, 32, .ro, false, 0, []⟩
def STM_STATUS_CFG_ERR : Fld := ⟨546, 2, 1, .ro, false, 0, []⟩
def STM_STATUS_OVERFILL : Fld := ⟨547, 1, 1, .w1c, false, 0, []⟩
def STM_STATUS_UNDERRUN : Fld := ⟨548, 0, 1, .w1c, false, 0, []⟩
def STM_UR_INDEX_INDEX : Fld := ⟨549, 0, 32, .ro, false, 0, []⟩
def STM_UR_TICK_LO_TICK_LO : Fld := ⟨550, 0, 32, .ro, false, 0, []⟩
def STM_UR_TICK_HI_TICK_HI : Fld := ⟨551, 0, 32, .ro, false, 0, []⟩
def STM_UR_CNT_COUNT : Fld := ⟨552, 0, 32, .rw, false, 0, []⟩
def STM_DISCARD_CNT_COUNT : Fld := ⟨553, 0, 32, .rw, false, 0, []⟩
def STM_MIN_SLACK_TICKS : Fld := ⟨554, 0, 16, .rw, false, 65535, []⟩
def SEG_ENT_BYTES : Fld := ⟨535, 0, 32, .rw, true, 0, []⟩

-- 07_frames_and_line_synthesis.md
def LIN_CFG_MUTE : Fld := ⟨555, 4, 1, .rw, true, 0, []⟩
def LIN_CFG_ISINC : Fld := ⟨556, 3, 1, .rw, true, 1, []⟩
def LIN_CFG_MODE : Fld := ⟨557, 1, 1, .rw, true, 0, []⟩
def LIN_CFG_PATH : Fld := ⟨558, 0, 1, .rw, true, 0, []⟩
def LIN_GAIN_GAIN : Fld := ⟨559, 0, 16, .rw, true, 16384, []⟩
def LIN_SKEW_FACTORY : Fld := ⟨560, 16, 8, .ro, false, 0, []⟩
def LIN_SKEW_USER : Fld := ⟨561, 0, 8, .rw, true, 0, []⟩
def LIN_FSC_FACTORY : Fld := ⟨562, 16, 10, .ro, false, 512, []⟩
def LIN_FSC_CODE : Fld := ⟨563, 0, 10, .rs, false, 512, []⟩
def LIN_STATUS_LIVE : Fld := ⟨564, 31, 1, .ro, false, 0, []⟩
def LIN_STATUS_PATH_SETTLE : Fld := ⟨565, 30, 1, .ro, false, 0, []⟩
def LIN_STATUS_SKEW_CLAMP : Fld := ⟨566, 29, 1, .ro, false, 0, []⟩
def LIN_STATUS_CFG_FIX : Fld := ⟨567, 28, 1, .ro, false, 0, []⟩
def LIN_STATUS_MUTE_CAUSE : Fld := ⟨568, 16, 7, .ro, false, 1, []⟩
def LIN_STATUS_SAT : Fld := ⟨569, 0, 5, .w1c, false, 0, []⟩
def LIN_SAT_CNT_COUNT : Fld := ⟨570, 0, 32, .rw, false, 0, []⟩
def TON_SLOT_BUSY : Fld := ⟨571, 31, 1, .ro, false, 0, []⟩
def TON_SLOT_MODE : Fld := ⟨572, 29, 2, .ro, false, 0, []⟩
def TON_SLOT_PT : Fld := ⟨573, 28, 1, .ro, false, 0, []⟩
def TON_SLOT_FRAME : Fld := ⟨574, 16, 11, .ro, false, 0, []⟩
def TON_SLOT_AMP : Fld := ⟨575, 0, 16, .ro, false, 0, []⟩
def TON_FRM_INDEX_AUTOINC : Fld := ⟨576, 31, 1, .rw, false, 0, []⟩
def TON_FRM_INDEX_INDEX : Fld := ⟨577, 0, 11, .rw, false, 0, []⟩
def TON_FRM_CTRL_COMMIT : Fld := ⟨578, 31, 1, .wo, true, 0, []⟩
def TON_FRM_FREQ_LO_F_LO : Fld := ⟨579, 0, 32, .rw, false, 0, []⟩
def TON_FRM_FREQ_HI_F_HI : Fld := ⟨580, 0, 16, .rw, false, 0, []⟩
def TON_FRM_PHASE_PHI : Fld := ⟨581, 0, 32, .rw, false, 0, []⟩
def TON_FRM_T0_LO_T0_LO : Fld := ⟨582, 0, 32, .rw, false, 0, []⟩
def TON_FRM_T0_HI_T0_HI : Fld := ⟨583, 0, 32, .rw, false, 0, []⟩

-- 08_bias_outputs_and_load_governor.md
def BIA_TARGET_CODE : Fld := ⟨584, 0, 20, .ro, false, 0, []⟩
def BIA_CODE_SPAN : Fld := ⟨585, 20, 3, .ro, false, 0, []⟩
def BIA_CODE_CODE : Fld := ⟨586, 0, 20, .ro, false, 0, []⟩
def BIA_GLIDE_STEP : Fld := ⟨587, 0, 20, .rw, true, 0, []⟩
def BIA_PARK_SPAN : Fld := ⟨588, 20, 3, .rs, true, 0, []⟩
def BIA_PARK_CODE : Fld := ⟨589, 0, 20, .rs, true, 0, []⟩
def BIA_PARK_LATCH_SPAN : Fld := ⟨590, 20, 3, .ro, false, 0, []⟩
def BIA_PARK_LATCH_CODE : Fld := ⟨591, 0, 20, .ro, false, 0, []⟩
def BIA_STATUS_STATE : Fld := ⟨592, 30, 2, .ro, false, 0, []⟩
def BIA_STATUS_CAUSE : Fld := ⟨593, 16, 8, .ro, false, 0, []⟩
def BIA_STATUS_GLIDING : Fld := ⟨594, 1, 1, .ro, false, 0, []⟩
def BIA_STATUS_CLAMP : Fld := ⟨595, 0, 1, .w1c, false, 0, []⟩
def GOV_CTRL_RELEASE : Fld := ⟨596, 31, 1, .rs, true, 0, []⟩
def GOV_CTRL_ACTION : Fld := ⟨597, 0, 1, .rs, true, 0, []⟩
def GOV_STATUS_TRIPPED : Fld := ⟨598, 31, 1, .ro, false, 0, []⟩
def GOV_STATUS_CLIPPING : Fld := ⟨599, 30, 1, .ro, false, 0, []⟩
def GOV_STATUS_OVER : Fld := ⟨600, 26, 3, .w1c, false, 0, []⟩
def GOV_STATUS_TRIP_SEEN : Fld := ⟨601, 25, 1, .w1c, false, 0, []⟩
def GOV_STATUS_CLIP_SEEN : Fld := ⟨602, 24, 1, .w1c, false, 0, []⟩
def GOV_STATUS_FG : Fld := ⟨603, 0, 17, .ro, false, 65536, []⟩
def GOV_TGT_TGT : Fld := ⟨604, 0, 17, .ro, false, 65536, []⟩
def GOV_LIM_LO_LIM_LO : Fld := ⟨605, 0, 32, .rs, true, 4294967295, []⟩
def GOV_LIM_HI_LIM_HI : Fld := ⟨606, 0, 32, .rs, true, 4294967295, []⟩
def GOV_BIAS_MAG_MAG : Fld := ⟨607, 0, 20, .rs, true, 524288, []⟩
def GOV_GLIDE_MAX_GMAX : Fld := ⟨608, 0, 20, .rs, true, 1048575, []⟩
def GOV_SUM_LO_SUM_LO : Fld := ⟨609, 0, 32, .ro, false, 0, []⟩
def GOV_SUM_HI_SUM_HI : Fld := ⟨610, 0, 32, .ro, false, 0, []⟩
def GOV_OVER_CNT_COUNT : Fld := ⟨611, 0, 32, .rs, false, 0, []⟩

-- 09_readout_inputs.md
def INP_CFG_PATINA_LOG : Fld := ⟨612, 4, 1, .rw, true, 0, []⟩
def INP_CFG_PATINA_HOLD : Fld := ⟨613, 3, 1, .rw, true, 0, []⟩
def INP_CFG_OFF : Fld := ⟨614, 2, 1, .rw, true, 0, []⟩
def INP_CFG_ZONE : Fld := ⟨615, 0, 2, .rw, true, 0, []⟩
def INP_STATUS_CONV : Fld := ⟨616, 31, 1, .ro, false, 0, []⟩
def INP_STATUS_SETTLE : Fld := ⟨617, 30, 1, .ro, false, 0, []⟩
def INP_STATUS_SAT_COR : Fld := ⟨618, 5, 1, .w1c, false, 0, []⟩
def INP_STATUS_SKEW_DRIFT : Fld := ⟨619, 4, 1, .w1c, false, 0, []⟩
def INP_STATUS_PATINA_SKIP : Fld := ⟨620, 3, 1, .w1c, false, 0, []⟩
def INP_STATUS_PATINA_LIMIT : Fld := ⟨621, 2, 1, .w1c, false, 0, []⟩
def INP_STATUS_OVR_NEIGH : Fld := ⟨622, 1, 1, .w1c, false, 0, []⟩
def INP_STATUS_OVR : Fld := ⟨623, 0, 1, .w1c, false, 0, []⟩
def INP_CONV_LO_TICK_LO : Fld := ⟨624, 0, 32, .ro, false, 0, []⟩
def INP_CONV_HI_TICK_HI : Fld := ⟨625, 0, 32, .ro, false, 0, []⟩
def INP_OVR_CNT_COUNT : Fld := ⟨626, 0, 32, .rw, false, 0, []⟩
def INP_OVR_FIRST_LO_TICK_LO : Fld := ⟨627, 0, 32, .ro, false, 0, []⟩
def INP_OVR_FIRST_HI_TICK_HI : Fld := ⟨628, 0, 32, .ro, false, 0, []⟩
def INP_SKEW_LIMIT_TAPS : Fld := ⟨629, 0, 8, .rw, false, 1, []⟩
def INP_KMEM_CTRL_AUTOINC : Fld := ⟨630, 31, 1, .rw, false, 0, []⟩
def INP_KMEM_CTRL_TONE : Fld := ⟨631, 16, 4, .rw, false, 0, []⟩
def INP_KMEM_CTRL_ADDR : Fld := ⟨632, 0, 12, .rw, false, 0, []⟩
def INP_KMEM_DATA_WEIGHT : Fld := ⟨633, 0, 36, .rw, true, 0, []⟩
def INP_SLC_OFF_DELTA : Fld := ⟨634, 16, 9, .ro, false, 0, []⟩
def INP_SLC_OFF_BASE : Fld := ⟨635, 0, 16, .rs, true, 0, []⟩
def INP_SLC_GAIN_DELTA : Fld := ⟨636, 16, 9, .ro, false, 0, []⟩
def INP_SLC_GAIN_BASE : Fld := ⟨637, 0, 16, .rs, true, 16384, []⟩
def INP_SLC_SKEW_ESTIMATE : Fld := ⟨638, 16, 12, .ro, false, 0, []⟩
def INP_SLC_SKEW_TAPS : Fld := ⟨639, 0, 8, .rs, true, 0, []⟩
def INP_FIR_H : Fld := ⟨640, 0, 18, .rs, true, 0, (firCentre 64)⟩
def DMD_FREQ_LO_F_LO : Fld := ⟨641, 0, 32, .rw, true, 0, []⟩
def DMD_FREQ_HI_F_HI : Fld := ⟨642, 0, 16, .rw, true, 0, []⟩
def DMD_PHASE_PHI : Fld := ⟨643, 0, 32, .rw, true, 0, []⟩
def DMD_CFG_PUB : Fld := ⟨644, 4, 2, .rw, true, 2, []⟩
def DMD_CFG_MODE : Fld := ⟨645, 0, 3, .rw, true, 0, []⟩
def DMD_AX_VALUE : Fld := ⟨646, 0, 18, .rw, true, 0, []⟩
def DMD_T_VALUE : Fld := ⟨647, 0, 36, .rw, true, 0, []⟩
def DMD_STATUS_OPEN : Fld := ⟨648, 31, 1, .ro, false, 0, []⟩
def DMD_STATUS_SAT_PROJ : Fld := ⟨649, 2, 1, .w1c, false, 0, []⟩
def DMD_STATUS_SAT_INT : Fld := ⟨650, 1, 1, .w1c, false, 0, []⟩
def DMD_STATUS_SAT_DEC : Fld := ⟨651, 0, 1, .w1c, false, 0, []⟩
def DMD_WIN_CNT_COUNT : Fld := ⟨652, 0, 32, .rw, false, 0, []⟩
def DMD_LAST_VALUE : Fld := ⟨653, 0, 36, .ro, false, 0, []⟩

-- 10_caliper_engines.md
def CLP_CTRL_ENTRY : Fld := ⟨654, 16, 14, .rw, true, 0, []⟩
def CLP_CTRL_MODE : Fld := ⟨655, 0, 2, .rw, true, 0, []⟩
def CLP_STATUS_STATE : Fld := ⟨656, 29, 3, .ro, false, 0, []⟩
def CLP_STATUS_HANDLER : Fld := ⟨657, 28, 1, .ro, false, 0, []⟩
def CLP_STATUS_CUT : Fld := ⟨658, 27, 1, .w1c, false, 0, []⟩
def CLP_STATUS_SVC_FAULT : Fld := ⟨659, 26, 1, .w1c, false, 0, []⟩
def CLP_STATUS_SAT : Fld := ⟨660, 25, 1, .w1c, false, 0, []⟩
def CLP_STATUS_AOVF : Fld := ⟨661, 24, 1, .w1c, false, 0, []⟩
def CLP_STATUS_SHOT_TAINT : Fld := ⟨662, 16, 8, .ro, false, 0, []⟩
def CLP_STATUS_PC : Fld := ⟨663, 0, 14, .ro, false, 0, []⟩
def CLP_PREV_TAINT_TAINT : Fld := ⟨664, 0, 8, .ro, false, 0, []⟩
def CLP_PREV_SHOT_COUNT : Fld := ⟨665, 0, 32, .ro, false, 0, []⟩
def CLP_EVT_EPEND : Fld := ⟨666, 16, 16, .ro, false, 0, []⟩
def CLP_EVT_EMASK : Fld := ⟨667, 0, 16, .rw, true, 0, []⟩
def CLP_ELR_ELR : Fld := ⟨668, 0, 14, .ro, false, 0, []⟩
def CLP_DEP_KIND : Fld := ⟨669, 30, 2, .rw, true, 0, []⟩
def CLP_DEP_SIZE_LOG2 : Fld := ⟨670, 26, 4, .rw, true, 0, []⟩
def CLP_DEP_PHASE : Fld := ⟨671, 24, 2, .rw, true, 0, []⟩
def CLP_DEP_SRC : Fld := ⟨672, 16, 8, .rw, true, 0, []⟩
def CLP_DEP_BASE : Fld := ⟨673, 0, 16, .rw, true, 0, []⟩
def CLP_DEP_W_W : Fld := ⟨674, 0, 16, .ro, false, 0, []⟩
def CLP_EVEC_ADDR : Fld := ⟨675, 0, 14, .rw, true, 0, []⟩
def CLP_MEM_CTRL_SEL : Fld := ⟨676, 30, 2, .rw, false, 0, []⟩
def CLP_MEM_CTRL_AUTOINC : Fld := ⟨677, 29, 1, .rw, false, 0, []⟩
def CLP_MEM_CTRL_ADDR : Fld := ⟨678, 0, 16, .rw, false, 0, []⟩
def CLP_MEM_DATA_DATA : Fld := ⟨679, 0, 36, .rw, true, 0, []⟩
def CLP_X_VALUE : Fld := ⟨680, 0, 36, .ro, false, 0, []⟩
def CLP_A_VALUE : Fld := ⟨681, 0, 32, .ro, false, 0, []⟩
def CLP_P_VALUE : Fld := ⟨682, 0, 16, .ro, false, 0, []⟩
def CLP_M_VALUE : Fld := ⟨683, 0, 36, .ro, false, 0, []⟩
def CLP_CUT_CNT_COUNT : Fld := ⟨684, 0, 32, .rw, false, 0, []⟩
def CLP_LATE_CNT_COUNT : Fld := ⟨685, 0, 32, .rw, false, 0, []⟩
def CLP_EV_MERGE_CNT_COUNT : Fld := ⟨686, 0, 32, .rw, false, 0, []⟩
def CLP_EV_IGNORE_CNT_COUNT : Fld := ⟨687, 0, 32, .rw, false, 0, []⟩

end R

open R

/-- The GLB registers. -/
def regsGLB : List Reg :=
  [ ⟨0x0, [], false, .both, false, [GLB_IDENT_PART, GLB_IDENT_FAMILY, GLB_IDENT_VENDOR]⟩,
    ⟨0x4, [], false, .both, false, [GLB_REV_ASSY, GLB_REV_HUB_STEP, GLB_REV_LINE_STEP, GLB_REV_INPUT_STEP, GLB_REV_BIAS_STEP]⟩,
    ⟨0x8, [], false, .both, false, [GLB_IFVER_CONTRACT_MAJOR, GLB_IFVER_CONTRACT_MINOR, GLB_IFVER_LANE_MAJOR, GLB_IFVER_LANE_MINOR, GLB_IFVER_HOST_MAJOR, GLB_IFVER_HOST_MINOR]⟩,
    ⟨0xC, [], false, .both, false, [GLB_SERIAL_LO_SERIAL_LO]⟩,
    ⟨0x10, [], false, .both, false, [GLB_SERIAL_HI_SERIAL_HI]⟩,
    ⟨0x20, [], false, .both, false, [GLB_TAINT_STICKY_TAINT]⟩,
    ⟨0x24, [], false, .both, false, [GLB_TAINT_FIRST_LO_TICK_LO]⟩,
    ⟨0x28, [], false, .both, false, [GLB_TAINT_FIRST_HI_TICK_HI]⟩,
    ⟨0x2C, [], false, .both, false, [GLB_TAINT_FIRST_SRC_VALID, GLB_TAINT_FIRST_SRC_INSTANCE, GLB_TAINT_FIRST_SRC_BLOCK, GLB_TAINT_FIRST_SRC_BIT]⟩,
    ⟨0x30, [], false, .both, true, [GLB_HARVEST_LATE_CNT_COUNT]⟩,
    ⟨0x34, [], false, .both, true, [GLB_HARVEST_THIN_CNT_COUNT]⟩,
    ⟨0x38, [], false, .both, true, [GLB_HARVEST_DISCARD_CNT_COUNT]⟩,
    ⟨0x3C, [], false, .both, true, [GLB_RESULT_DROP_CNT_COUNT]⟩,
    ⟨0x40, [], false, .both, false, [GLB_CONTRACT_STICKY_CLP_CODES, GLB_CONTRACT_STICKY_CHS_CODES]⟩,
    ⟨0x44, [], false, .both, true, [GLB_CONTRACT_CNT_COUNT]⟩,
    ⟨0x48, [], false, .both, false, [GLB_CONTRACT_FILL_ENTRIES]⟩,
    ⟨0x4C, [], false, .both, false, [GLB_ARMATURE_ID_MAJOR, GLB_ARMATURE_ID_MINOR, GLB_ARMATURE_ID_GENERATION]⟩,
    ⟨0x50, [], false, .both, false, [GLB_FEATURES_KNOWN_KNOWN]⟩,
    ⟨0x54, [], false, .both, true, [GLB_HARVEST_FULL_CNT_COUNT]⟩,
    ⟨0x100, [(16, 0x10)], false, .both, false, [GLB_CONTRACT_LOG_TLO_TICK_LO]⟩,
    ⟨0x104, [(16, 0x10)], false, .both, false, [GLB_CONTRACT_LOG_THI_TICK_HI]⟩,
    ⟨0x108, [(16, 0x10)], false, .both, false, [GLB_CONTRACT_LOG_SRC_VALID, GLB_CONTRACT_LOG_SRC_INSTANCE, GLB_CONTRACT_LOG_SRC_BLOCK, GLB_CONTRACT_LOG_SRC_CODE]⟩,
    ⟨0x10C, [(16, 0x10)], false, .both, false, [GLB_CONTRACT_LOG_PC_PC]⟩,
    ⟨0x400, [], false, .both, false, [GLB_SCHED_CFG_START_MODE, GLB_SCHED_CFG_ALIGN]⟩,
    ⟨0x404, [], false, .both, false, [GLB_SCHED_LEN_TICKS]⟩,
    ⟨0x408, [], false, .both, false, [GLB_SCHED_COUNT_LO_COUNT_LO]⟩,
    ⟨0x40C, [], false, .both, false, [GLB_SCHED_COUNT_HI_COUNT_HI]⟩,
    ⟨0x410, [], false, .both, false, [GLB_SCHED_START_LO_TIME_LO]⟩,
    ⟨0x414, [], false, .both, false, [GLB_SCHED_START_HI_TIME_HI]⟩,
    ⟨0x418, [], false, .both, false, [GLB_SCHED_STATUS_MISSED, GLB_SCHED_STATUS_STATE]⟩,
    ⟨0x41C, [], false, .both, false, [GLB_SCHED_BEGIN_LO_TIME_LO]⟩,
    ⟨0x420, [], false, .both, false, [GLB_SCHED_BEGIN_HI_TIME_HI]⟩,
    ⟨0x480, [(16, 0x4)], false, .both, false, [GLB_BAR_COMPLETE, GLB_BAR_LOCAL, GLB_BAR_TOKENS, GLB_BAR_REMOTE]⟩,
    ⟨0x600, [(8, 0x4)], false, .both, false, [GLB_PLN_STATUS_STATE, GLB_PLN_STATUS_WDOG_EN]⟩,
    ⟨0x620, [], false, .secureW, false, [GLB_PLN_CTRL_WDOG_EN, GLB_PLN_CTRL_HOLD, GLB_PLN_CTRL_RESET]⟩,
    ⟨0x624, [], false, .both, false, [GLB_PLN_LOAD_LEVEL, GLB_PLN_LOAD_AGE]⟩,
    ⟨0x640, [(8, 0x4)], false, .priv, false, [GLB_PLN_HLOCK_EXPIRED, GLB_PLN_HLOCK_NEST, GLB_PLN_HLOCK_ACTIVE, GLB_PLN_HLOCK_OPEN]⟩ ]

/-- The BOOT registers. -/
def regsBOOT : List Reg :=
  [ ⟨0x100000, [], false, .both, false, [BOOT_STATUS_LAST_CODE, BOOT_STATUS_CMD_REJECT, BOOT_STATUS_LOG_PENDING, BOOT_STATUS_OP, BOOT_STATUS_SLOT_B, BOOT_STATUS_SLOT_A, BOOT_STATUS_ACTIVE_SLOT, BOOT_STATUS_STATE]⟩,
    ⟨0x100004, [], false, .secure, false, [BOOT_CMD_OP]⟩,
    ⟨0x100008, [], false, .secure, false, [BOOT_STAGE_ADDR_LO_ADDR]⟩,
    ⟨0x10000C, [], false, .secure, false, [BOOT_STAGE_ADDR_HI_ADDR]⟩,
    ⟨0x100010, [], false, .secure, false, [BOOT_STAGE_LEN_UNITS]⟩,
    ⟨0x100014, [], false, .secure, false, [BOOT_SWITCH_LO_TIME_LO]⟩,
    ⟨0x100018, [], false, .secure, false, [BOOT_SWITCH_HI_TIME_HI]⟩,
    ⟨0x10001C, [], false, .both, false, [BOOT_SEQ_A_SEQ]⟩,
    ⟨0x100020, [], false, .both, false, [BOOT_SEQ_B_SEQ]⟩,
    ⟨0x100024, [], false, .both, false, [BOOT_GEN_AB_GEN_B, BOOT_GEN_AB_GEN_A]⟩,
    ⟨0x100028, [], false, .both, false, [BOOT_COUNT_COUNT]⟩,
    ⟨0x10002C, [], false, .both, false, [BOOT_CAST_TIME_MICROSECONDS]⟩,
    ⟨0x100030, [], false, .both, false, [BOOT_LOG_FILL_NEXT, BOOT_LOG_FILL_ENTRIES]⟩,
    ⟨0x102000, [(512, 0x10)], false, .both, false, [BOOT_LOG_W0_WORD]⟩,
    ⟨0x102004, [(512, 0x10)], false, .both, false, [BOOT_LOG_W1_WORD]⟩,
    ⟨0x102008, [(512, 0x10)], false, .both, false, [BOOT_LOG_W2_WORD]⟩,
    ⟨0x10200C, [(512, 0x10)], false, .both, false, [BOOT_LOG_W3_WORD]⟩ ]

/-- The SEC registers. -/
def regsSEC : List Reg :=
  [ ⟨0x108000, [(768, 0x4)], false, .secureW, false, [SEC_WORLD_SECURE]⟩,
    ⟨0x109000, [(16, 0x8)], false, .secureW, false, [SEC_HBM_RGN_ENABLE, SEC_HBM_RGN_SECURE, SEC_HBM_RGN_STAGING, SEC_HBM_RGN_BASE]⟩,
    ⟨0x109004, [(16, 0x8)], false, .secureW, false, [SEC_HBM_LIM_LIMIT]⟩,
    ⟨0x109100, [], false, .both, true, [SEC_VIOL_CNT_COUNT]⟩,
    ⟨0x109104, [], false, .both, false, [SEC_VIOL_SRC_VALID, SEC_VIOL_SRC_WRITE, SEC_VIOL_SRC_INSTANCE, SEC_VIOL_SRC_MASTER, SEC_VIOL_SRC_KIND]⟩,
    ⟨0x109108, [], false, .both, false, [SEC_VIOL_ADDR_LO_ADDR]⟩,
    ⟨0x10910C, [], false, .both, false, [SEC_VIOL_ADDR_HI_ADDR]⟩,
    ⟨0x109110, [], false, .both, false, [SEC_KEY_STATE_ACTIVE, SEC_KEY_STATE_STATE]⟩,
    ⟨0x109114, [], false, .secure, false, [SEC_OTP_CTRL_GO, SEC_OTP_CTRL_SLOT, SEC_OTP_CTRL_OP]⟩,
    ⟨0x109118, [], false, .secure, false, [SEC_OTP_STATUS_BUSY, SEC_OTP_STATUS_CODE]⟩,
    ⟨0x109140, [(24, 0x4)], false, .secure, false, [SEC_OTP_BUF_KEY]⟩ ]

/-- The CLK registers. -/
def regsCLK : List Reg :=
  [ ⟨0x200000, [], false, (.attr 749 0), false, [CLK_STATUS_RELOCK_BUSY, CLK_STATUS_PLL_LOCK, CLK_STATUS_HOLDOVER, CLK_STATUS_SKEW_FAIL, CLK_STATUS_SKEW_DONE, CLK_STATUS_SKEW_BUSY, CLK_STATUS_TIME_PENDING, CLK_STATUS_TIME_VALID, CLK_STATUS_SYNC_SLIP, CLK_STATUS_SYNC_MISSING, CLK_STATUS_PLL_UNLOCK, CLK_STATUS_REF_RANGE, CLK_STATUS_REF_LOSS]⟩,
    ⟨0x200004, [], false, (.attr 749 0), false, [CLK_ALARM_RELOCK_FAIL, CLK_ALARM_LOAD_CANCELLED, CLK_ALARM_LOAD_BAD, CLK_ALARM_TIME_LOST, CLK_ALARM_SYNC_DRIFT, CLK_ALARM_SYNC_FORM, CLK_ALARM_ALARMS]⟩,
    ⟨0x200008, [], false, (.attr 749 0), false, [CLK_CTRL_REF_OUT_EN, CLK_CTRL_RELOCK]⟩,
    ⟨0x20000C, [], false, (.attr 749 0), false, [CLK_SYNC_CTRL_MARK_NEXT, CLK_SYNC_CTRL_OUT_MODE, CLK_SYNC_CTRL_CHECK, CLK_SYNC_CTRL_PERIOD]⟩,
    ⟨0x200010, [], false, (.attr 749 0), false, [CLK_SYNC_COMP_TAPS]⟩,
    ⟨0x200014, [], false, .secureW, false, [CLK_SYNC_PATH_TAPS]⟩,
    ⟨0x200018, [], false, .both, false, [CLK_SYNC_OUT_DLY_MASTER, CLK_SYNC_OUT_DLY_REPEAT]⟩,
    ⟨0x20001C, [], false, (.attr 749 0), false, [CLK_PHASE_TAPS]⟩,
    ⟨0x200020, [], false, (.attr 749 0), false, [CLK_SKEW_CTRL_GO, CLK_SKEW_CTRL_MODE, CLK_SKEW_CTRL_AVG_LOG2]⟩,
    ⟨0x200024, [], false, (.attr 749 0), false, [CLK_SYNC_PHASE_ERR, CLK_SYNC_PHASE_LAST]⟩,
    ⟨0x200028, [], false, (.attr 749 0), false, [CLK_DRIFT_LIMIT_TAPS]⟩,
    ⟨0x20002C, [], false, (.attr 749 0), false, [CLK_TIME_SET_LO_TIME_LO]⟩,
    ⟨0x200030, [], false, (.attr 749 0), false, [CLK_TIME_SET_HI_TIME_HI]⟩,
    ⟨0x200034, [], false, (.attr 749 0), false, [CLK_TIME_CTRL_ARM]⟩,
    ⟨0x200038, [], false, .both, false, [CLK_NOW_LO_TIME_LO]⟩,
    ⟨0x20003C, [], false, .both, false, [CLK_NOW_HI_EPOCH, CLK_NOW_HI_TIME_HI]⟩,
    ⟨0x200040, [], false, .both, false, [CLK_SHOT_COUNT]⟩,
    ⟨0x200044, [], false, .both, false, [CLK_SHOT_EPOCH_EPOCH]⟩,
    ⟨0x200048, [], false, (.attr 749 0), true, [CLK_SYNC_CNT_COUNT]⟩,
    ⟨0x20004C, [], false, (.attr 749 0), true, [CLK_SYNC_FORM_CNT_COUNT]⟩,
    ⟨0x200050, [], false, .both, false, [CLK_REF_COUNT_COUNT]⟩ ]

/-- The EVF registers. -/
def regsEVF : List Reg :=
  [ ⟨0x400000, [], false, .both, false, [EVF_STATUS_OWNER_REFUSED, EVF_STATUS_OVERRUN, EVF_STATUS_REFUSED]⟩,
    ⟨0x400010, [], false, .named, false, [EVF_FIRE_CH]⟩,
    ⟨0x400020, [], false, .both, false, [EVF_EVH_INDEX_POINT]⟩,
    ⟨0x400024, [], false, .both, false, [EVF_EVH_CUT_CUT]⟩,
    ⟨0x401000, [(1536, 0x4)], false, .source, false, [EVF_SRC_EN, EVF_SRC_CH]⟩,
    ⟨0x404000, [(512, 0x8)], false, .secureW, false, [EVF_CH_SECURE, EVF_CH_OWNER]⟩,
    ⟨0x404004, [(512, 0x8)], false, .channel, false, [EVF_CHST_REFUSED, EVF_CHST_REFUSE_CNT]⟩,
    ⟨0x408000, [(1024, 0x8)], false, .consumer, false, [EVF_TASK_DIRECT_EN, EVF_TASK_MUX_EN, EVF_TASK_WAKE, EVF_TASK_MUX_CH]⟩,
    ⟨0x408004, [(1024, 0x8)], false, .consumer, false, [EVF_TASKST_PENDING, EVF_TASKST_OVERRUN, EVF_TASKST_COALESCE]⟩ ]

/-- The MBX registers. -/
def regsMBX : List Reg :=
  [ ⟨0x500000, [(32, 0x100), (2, 0x40)], true, (.attr 648 1), false, [MBX_TX_WORD]⟩,
    ⟨0x500008, [(32, 0x100), (2, 0x40)], true, (.attr 648 1), false, [MBX_RX_WORD]⟩,
    ⟨0x500010, [(32, 0x100), (2, 0x40)], false, (.attr 648 1), false, [MBX_DB_RING]⟩,
    ⟨0x500014, [(32, 0x100), (2, 0x40)], false, (.attr 648 1), false, [MBX_TXSTAT_TIMEOUT, MBX_TXSTAT_COLLIDE, MBX_TXSTAT_FLUSH, MBX_TXSTAT_DB_PEND, MBX_TXSTAT_FLUSHED, MBX_TXSTAT_FILL]⟩,
    ⟨0x500018, [(32, 0x100), (2, 0x40)], false, (.attr 648 1), false, [MBX_RXSTAT_DB, MBX_RXSTAT_COLLIDE, MBX_RXSTAT_FILL]⟩,
    ⟨0x50001C, [(32, 0x100), (2, 0x40)], false, (.attr 648 1), false, [MBX_RXMETA_VALID, MBX_RXMETA_ORPHAN, MBX_RXMETA_EPOCH, MBX_RXMETA_SENDER]⟩,
    ⟨0x500080, [(32, 0x100)], false, (.attr 648 1), false, [MBX_CFG_CFG_ERR, MBX_CFG_END_B, MBX_CFG_END_A]⟩,
    ⟨0x500084, [(32, 0x100)], false, (.attr 648 1), false, [MBX_TIMEOUT_MICROSECONDS]⟩,
    ⟨0x500088, [(32, 0x100)], false, (.attr 648 1), true, [MBX_COLLIDE_CNT_COUNT]⟩,
    ⟨0x502000, [(256, 0x4)], false, .both, false, [MBX_EPOCH_EPOCH]⟩ ]

/-- The LCK registers. -/
def regsLCK : List Reg :=
  [ ⟨0x580000, [(64, 0x4)], false, (.attr 680 1), false, [LCK_STATE_HELD, LCK_STATE_OWNER]⟩,
    ⟨0x580100, [(63, 0x100), (64, 0x4)], false, .lockPage, false, [LCK_ACQ_OWNER]⟩,
    ⟨0x584000, [], false, .both, false, [LCK_STATUS_FOREIGN]⟩,
    ⟨0x584004, [], false, .both, true, [LCK_FORCE_CNT_COUNT]⟩ ]

/-- The SVA registers. -/
def regsSVA : List Reg :=
  [ ⟨0x600000, [(2, 0x10000)], false, (.attr 747 1), false, [SVA_CTRL_COMMIT, SVA_CTRL_PENDING, SVA_CTRL_CMT_REJECT]⟩,
    ⟨0x600004, [(2, 0x10000)], false, (.attr 747 1), false, [SVA_OWED_MAX, SVA_OWED_NOW]⟩,
    ⟨0x600008, [(2, 0x10000)], false, (.attr 747 1), false, [SVA_SEED_SEED]⟩,
    ⟨0x60000C, [(2, 0x10000)], false, (.attr 747 1), false, [SVA_LFSR_LFSR]⟩,
    ⟨0x600010, [(2, 0x10000)], false, (.attr 747 1), true, [SVA_VOID_CNT_COUNT]⟩,
    ⟨0x600014, [(2, 0x10000)], false, (.attr 747 1), true, [SVA_SKIP_CNT_COUNT]⟩,
    ⟨0x600018, [(2, 0x10000)], false, (.attr 747 1), true, [SVA_NEST_CNT_COUNT]⟩,
    ⟨0x60001C, [(2, 0x10000)], false, (.attr 747 1), true, [SVA_EXPIRE_CNT_COUNT]⟩,
    ⟨0x600020, [(2, 0x10000)], false, (.attr 747 1), true, [SVA_ECC_COR_CNT_COUNT]⟩,
    ⟨0x600024, [(2, 0x10000)], false, (.attr 747 1), true, [SVA_ECC_UNC_CNT_COUNT]⟩,
    ⟨0x600100, [(2, 0x10000), (16, 0x4)], false, (.attr 747 1), false, [SVA_REQ_LOSSES, SVA_REQ_TICKETS]⟩,
    ⟨0x600400, [(2, 0x10000), (256, 0x4)], false, (.attr 747 1), false, [SVA_SLOT_ENTRY]⟩,
    ⟨0x600800, [(2, 0x10000), (256, 0x4)], false, (.attr 747 1), false, [SVA_ACT_ENTRY]⟩ ]

/-- The HST registers. -/
def regsHST : List Reg :=
  [ ⟨0x700000, [], false, .nonsec, false, [HST_LINK_UP, HST_LINK_SPEED, HST_LINK_WIDTH]⟩,
    ⟨0x700008, [], false, .nonsec, false, [HST_W2_BASE_LO_ADDR]⟩,
    ⟨0x70000C, [], false, .nonsec, false, [HST_W2_BASE_HI_ADDR]⟩,
    ⟨0x700010, [], false, .nonsec, true, [HST_AERR_CNT_COUNT]⟩,
    ⟨0x700014, [], false, .nonsec, false, [HST_AERR_SRC_VALID, HST_AERR_SRC_WRITE, HST_AERR_SRC_MASTER, HST_AERR_SRC_KIND]⟩,
    ⟨0x700018, [], false, .nonsec, false, [HST_AERR_ADDR_ADDR]⟩,
    ⟨0x700020, [], false, .nonsec, false, [HST_SESSION_OPEN, HST_SESSION_RECOVERY, HST_SESSION_MAJOR, HST_SESSION_MINOR]⟩,
    ⟨0x700040, [], false, .nonsec, false, [HST_RES_FLUSH_MICROSECONDS]⟩,
    ⟨0x701000, [(25, 0x20)], false, .nonsec, false, [HST_RES_BASE_LO_ADDR]⟩,
    ⟨0x701004, [(25, 0x20)], false, .nonsec, false, [HST_RES_BASE_HI_ADDR]⟩,
    ⟨0x701008, [(25, 0x20)], false, .nonsec, false, [HST_RES_SIZE_ENABLE, HST_RES_SIZE_BLOCKS_LOG2]⟩,
    ⟨0x70100C, [(25, 0x20)], false, .nonsec, false, [HST_RES_WR_INDEX]⟩,
    ⟨0x701010, [(25, 0x20)], false, .nonsec, false, [HST_RES_RD_INDEX]⟩,
    ⟨0x701014, [(25, 0x20)], false, .nonsec, false, [HST_RES_STAT_FULL, HST_RES_STAT_WAITING]⟩ ]

/-- The LAN registers. -/
def regsLAN : List Reg :=
  [ ⟨0x800000, [(24, 0x400)], false, (.attr 624 1), false, [LAN_CTRL_ENABLE, LAN_CTRL_RETRAIN, LAN_CTRL_MODE]⟩,
    ⟨0x800004, [(24, 0x400)], false, (.attr 624 1), false, [LAN_STATUS_STATE, LAN_STATUS_RES_EN, LAN_STATUS_LOCK, LAN_STATUS_LAT_RANGE, LAN_STATUS_MISMATCH, LAN_STATUS_PRBS_SYNC, LAN_STATUS_REV_MAJOR, LAN_STATUS_REV_MINOR, LAN_STATUS_SUM_ERR, LAN_STATUS_TRAIN_FAIL, LAN_STATUS_CRC_ERR, LAN_STATUS_RES_LATE, LAN_STATUS_RES_LOST, LAN_STATUS_LOCK_LOST]⟩,
    ⟨0x800008, [(24, 0x400)], false, (.attr 624 1), false, [LAN_LATENCY_DEPTH, LAN_LATENCY_A]⟩,
    ⟨0x80000C, [(24, 0x400)], false, (.attr 624 1), false, [LAN_PARTNER_TAG_TAG]⟩,
    ⟨0x800010, [(24, 0x400)], false, (.attr 624 1), false, [LAN_PARTNER_GEN_L, LAN_PARTNER_GEN_GEN]⟩,
    ⟨0x800014, [(24, 0x400)], false, (.attr 624 1), false, [LAN_PARTNER_POS_TIME_VALID, LAN_PARTNER_POS_LANE, LAN_PARTNER_POS_COORD]⟩,
    ⟨0x800020, [(24, 0x400)], false, (.attr 624 1), true, [LAN_RES_LOST_CNT_COUNT]⟩,
    ⟨0x800024, [(24, 0x400)], false, (.attr 624 1), true, [LAN_RES_LATE_CNT_COUNT]⟩,
    ⟨0x800028, [(24, 0x400)], false, (.attr 624 1), true, [LAN_HDR_ERR_CNT_COUNT]⟩,
    ⟨0x80002C, [(24, 0x400)], false, (.attr 624 1), true, [LAN_BULK_CRC_CNT_COUNT]⟩,
    ⟨0x800030, [(24, 0x400)], false, (.attr 624 1), true, [LAN_PRBS_ERR_CNT_COUNT]⟩,
    ⟨0x800034, [(24, 0x400)], false, (.attr 624 1), false, [LAN_PRBS_BITS_LO_BITS_LO]⟩,
    ⟨0x800038, [(24, 0x400)], false, (.attr 624 1), false, [LAN_PRBS_BITS_HI_BITS_HI]⟩,
    ⟨0x80003C, [(24, 0x400)], false, (.attr 624 1), true, [LAN_SUM_ERR_CNT_COUNT]⟩,
    ⟨0x800040, [(24, 0x400)], false, .secureW, false, [LAN_RX_TAP_FACTORY, LAN_RX_TAP_TAP]⟩,
    ⟨0x800044, [(24, 0x400)], false, (.attr 624 1), false, [LAN_SUM_TICK_TICK_LO]⟩,
    ⟨0x808000, [], false, (.attr 624 0), false, [LAN_COORD_SZ_M1, LAN_COORD_SY_M1, LAN_COORD_SX_M1, LAN_COORD_POS]⟩,
    ⟨0x808010, [], false, (.attr 624 0), false, [LAN_BQ_BASE_LO_ADDR]⟩,
    ⟨0x808014, [], false, (.attr 624 0), false, [LAN_BQ_BASE_HI_ADDR]⟩,
    ⟨0x808018, [], false, (.attr 624 0), false, [LAN_BQ_SIZE_ENABLE, LAN_BQ_SIZE_LOG2]⟩,
    ⟨0x80801C, [], false, (.attr 624 0), false, [LAN_BQ_WR_INDEX]⟩,
    ⟨0x808020, [], false, (.attr 624 0), false, [LAN_BQ_RD_INDEX]⟩,
    ⟨0x808024, [], false, (.attr 624 0), false, [LAN_BQ_TIMEOUT_MICROSECONDS]⟩ ]

/-- The PNT registers. -/
def regsPNT : List Reg :=
  [ ⟨0x900000, [], false, .secure, false, [PNT_CTRL_GO, PNT_CTRL_ABORT, PNT_CTRL_MODE, PNT_CTRL_ITEM, PNT_CTRL_COUNT, PNT_CTRL_FIRST]⟩,
    ⟨0x900004, [], false, .secure, false, [PNT_TIMEOUT_MS]⟩,
    ⟨0x900008, [], false, .both, false, [PNT_STATUS_STATE, PNT_STATUS_CLAMPED, PNT_STATUS_CODE, PNT_STATUS_ITEM]⟩,
    ⟨0x90000C, [], false, .both, false, [PNT_COUNT_FAILED, PNT_COUNT_ACCEPTED]⟩,
    ⟨0x900010, [], false, .both, false, [PNT_FAIL_VALID, PNT_FAIL_REASON, PNT_FAIL_INSTANCE]⟩,
    ⟨0x900020, [], false, .both, false, [PNT_TRIM_INDEX_AUTOINC, PNT_TRIM_INDEX_SUB, PNT_TRIM_INDEX_ITEM, PNT_TRIM_INDEX_ZONE, PNT_TRIM_INDEX_INSTANCE]⟩,
    ⟨0x900024, [], false, .both, false, [PNT_TRIM_DATA_DELTA, PNT_TRIM_DATA_FACTORY]⟩,
    ⟨0x900030, [], false, .both, false, [PNT_LOG_FILL_NEXT, PNT_LOG_FILL_ENTRIES]⟩,
    ⟨0x900100, [(64, 0x10)], false, .both, false, [PNT_LOG_TLO_WORD]⟩,
    ⟨0x900104, [(64, 0x10)], false, .both, false, [PNT_LOG_THI_WORD]⟩,
    ⟨0x900108, [(64, 0x10)], false, .both, false, [PNT_LOG_ID_WORD]⟩,
    ⟨0x90010C, [(64, 0x10)], false, .both, false, [PNT_LOG_VAL_WORD]⟩ ]

/-- The MON registers. -/
def regsMON : List Reg :=
  [ ⟨0x901000, [], false, (.attr 746 0), false, [MON_SEQ_CTRL_ENABLE, MON_SEQ_CTRL_ONCE, MON_SEQ_CTRL_LAST, MON_SEQ_CTRL_PERIOD]⟩,
    ⟨0x901004, [], false, (.attr 746 0), false, [MON_STATUS_BUSY, MON_STATUS_USER, MON_STATUS_INJ_OVERRUN, MON_STATUS_SEQ_OVERRUN, MON_STATUS_PASSES]⟩,
    ⟨0x901100, [(64, 0x8)], false, (.attr 746 0), false, [MON_ENT_LIMIT_EN, MON_ENT_AVG_LOG2, MON_ENT_CHANNEL]⟩,
    ⟨0x901104, [(64, 0x8)], false, (.attr 746 0), false, [MON_LIM_HI, MON_LIM_LO]⟩,
    ⟨0x901400, [(64, 0x4)], false, (.attr 746 0), false, [MON_RES_VALID, MON_RES_OUT, MON_RES_PASS, MON_RES_VALUE]⟩,
    ⟨0x901800, [(8, 0x10)], false, (.attr 746 0), false, [MON_INJ_CTRL_SRC, MON_INJ_CTRL_AVG_LOG2, MON_INJ_CTRL_CHANNEL]⟩,
    ⟨0x901804, [(8, 0x10)], false, (.attr 746 0), false, [MON_INJ_PULSE_CHISEL, MON_INJ_PULSE_PC]⟩,
    ⟨0x901808, [(8, 0x10)], false, (.attr 746 0), false, [MON_INJ_DELAY_DELAY]⟩,
    ⟨0x90180C, [(8, 0x10)], false, (.attr 746 0), false, [MON_INJ_RES_VALID, MON_INJ_RES_OVERRUN, MON_INJ_RES_LATE, MON_INJ_RES_VALUE]⟩ ]

/-- The THM registers. -/
def regsTHM : List Reg :=
  [ ⟨0x902000, [], false, .both, false, [THM_STATUS_SHUTDOWN, THM_STATUS_WARN, THM_STATUS_WARN_SEEN, THM_STATUS_WARN_DIE]⟩,
    ⟨0x902004, [], false, .both, false, [THM_WARN_DIE_DIES]⟩,
    ⟨0x902008, [], false, .both, false, [THM_CAUSE_VALID, THM_CAUSE_DIE]⟩,
    ⟨0x90200C, [], false, .secureW, false, [THM_WARN_THRESH_DEGREES]⟩ ]

/-- The PWR registers. -/
def regsPWR : List Reg :=
  [ ⟨0x903000, [], false, .both, false, [PWR_STATE_BUSY, PWR_STATE_LAST_CODE, PWR_STATE_STATE]⟩,
    ⟨0x903004, [], false, .secure, false, [PWR_REQ_REQ]⟩,
    ⟨0x903008, [], false, .both, false, [PWR_STATUS_SUPPLY_FAULT, PWR_STATUS_RAIL_FAULT, PWR_STATUS_RAIL, PWR_STATUS_RAILS_GOOD]⟩ ]

/-- The DEC registers. -/
def regsDEC : List Reg :=
  [ ⟨0xA00000, [], false, (.attr 744 0), false, [DEC_STATUS_UNPUB_TX, DEC_STATUS_LANE_DEFAULT, DEC_STATUS_LANE_LATE]⟩,
    ⟨0xA00004, [], false, (.attr 744 0), true, [DEC_UNPUB_TX_CNT_COUNT]⟩,
    ⟨0xA00008, [], false, (.attr 744 0), true, [DEC_LANE_CNT_COUNT]⟩,
    ⟨0xA0000C, [], false, (.attr 744 0), true, [DEC_LATE_CNT_COUNT]⟩,
    ⟨0xA00100, [(32, 0x10)], false, (.attr 744 0), false, [DEC_WORD_LO_BITS]⟩,
    ⟨0xA00104, [(32, 0x10)], false, (.attr 744 0), false, [DEC_WORD_HI_BITS]⟩,
    ⟨0xA00108, [(32, 0x10)], false, (.attr 744 0), false, [DEC_WORD_TAINT_TAINT]⟩,
    ⟨0xA00400, [], false, (.attr 744 0), false, [DEC_MEM_CTRL_SEL, DEC_MEM_CTRL_AUTOINC, DEC_MEM_CTRL_ADDR]⟩,
    ⟨0xA00408, [], false, (.attr 744 0), false, [DEC_MEM_DATA_DATA]⟩ ]

/-- The PFU registers. -/
def regsPFU : List Reg :=
  [ ⟨0xA08000, [], false, (.attr 745 0), false, [PFU_CTRL_SHOT_RESET]⟩,
    ⟨0xA08004, [], false, (.attr 745 0), false, [PFU_STATUS_ESC, PFU_STATUS_UNPUB, PFU_STATUS_FIRST]⟩,
    ⟨0xA08008, [], false, (.attr 745 0), false, [PFU_ROUND_ROUND]⟩,
    ⟨0xA0800C, [], false, (.attr 745 0), true, [PFU_UNPUB_CNT_COUNT]⟩,
    ⟨0xA08010, [], false, (.attr 745 0), true, [PFU_ESC_CNT_COUNT]⟩,
    ⟨0xA08014, [], false, (.attr 745 0), false, [PFU_PENDING_COUNT]⟩,
    ⟨0xA08018, [], false, (.attr 745 0), false, [PFU_REC_INDEX_AUTOINC, PFU_REC_INDEX_INDEX]⟩,
    ⟨0xA0801C, [], false, (.attr 745 0), false, [PFU_REC_DATA_TAINT, PFU_REC_DATA_GEN, PFU_REC_DATA_PEND, PFU_REC_DATA_Z, PFU_REC_DATA_X]⟩,
    ⟨0xA08020, [], false, (.attr 745 0), false, [PFU_MEM_CTRL_SEL, PFU_MEM_CTRL_AUTOINC, PFU_MEM_CTRL_ADDR]⟩,
    ⟨0xA08024, [], false, (.attr 745 0), false, [PFU_MEM_DATA_DATA]⟩ ]

/-- The ACQ registers. -/
def regsACQ : List Reg :=
  [ ⟨0xB00000, [(16, 0x100)], false, (.attr 512 1), false, [ACQ_CTRL_ENABLE, ACQ_CTRL_REARM, ACQ_CTRL_SRC, ACQ_CTRL_DECIM, ACQ_CTRL_ARM_CH, ACQ_CTRL_SEL]⟩,
    ⟨0xB00004, [(16, 0x100)], false, (.attr 512 1), false, [ACQ_PRE_PRE]⟩,
    ⟨0xB00008, [(16, 0x100)], false, (.attr 512 1), false, [ACQ_POST_POST_M1]⟩,
    ⟨0xB0000C, [(16, 0x100)], false, (.attr 512 1), false, [ACQ_HOLDOFF_TICKS]⟩,
    ⟨0xB00010, [(16, 0x100)], false, (.attr 512 1), false, [ACQ_RING_LO_ADDR]⟩,
    ⟨0xB00014, [(16, 0x100)], false, (.attr 512 1), false, [ACQ_RING_HI_ADDR]⟩,
    ⟨0xB00018, [(16, 0x100)], false, (.attr 512 1), false, [ACQ_SLOTS_SLOT_LOG2, ACQ_SLOTS_NSLOT]⟩,
    ⟨0xB0001C, [(16, 0x100)], false, (.attr 512 1), false, [ACQ_RD_INDEX]⟩,
    ⟨0xB00020, [(16, 0x100)], false, (.attr 512 1), false, [ACQ_WR_INDEX]⟩,
    ⟨0xB00024, [(16, 0x100)], false, (.attr 512 1), false, [ACQ_STATUS_STATE, ACQ_STATUS_CFG_ERR, ACQ_STATUS_REJ, ACQ_STATUS_LOST, ACQ_STATUS_GAP]⟩,
    ⟨0xB00028, [(16, 0x100)], false, (.attr 512 1), false, [ACQ_REC_CNT_COUNT]⟩,
    ⟨0xB0002C, [(16, 0x100)], false, (.attr 512 1), true, [ACQ_REJ_FILL_CNT_COUNT]⟩,
    ⟨0xB00030, [(16, 0x100)], false, (.attr 512 1), true, [ACQ_REJ_BUSY_CNT_COUNT]⟩,
    ⟨0xB00034, [(16, 0x100)], false, (.attr 512 1), true, [ACQ_LOST_CNT_COUNT]⟩,
    ⟨0xB00038, [(16, 0x100)], false, (.attr 512 1), true, [ACQ_GAP_CNT_COUNT]⟩,
    ⟨0xB0003C, [(16, 0x100)], false, (.attr 512 1), false, [ACQ_REJ_FIRST_VALID, ACQ_REJ_FIRST_REASON, ACQ_REJ_FIRST_SUB]⟩,
    ⟨0xB00040, [(16, 0x100)], false, (.attr 512 1), false, [ACQ_REJ_TLO_TICK_LO]⟩,
    ⟨0xB00044, [(16, 0x100)], false, (.attr 512 1), false, [ACQ_REJ_THI_TICK_HI]⟩,
    ⟨0xB00080, [(16, 0x100), (8, 0x8)], false, (.attr 512 1), false, [ACQ_COND_KIND, ACQ_COND_SLOPE, ACQ_COND_COMP, ACQ_COND_VALUE, ACQ_COND_SEL]⟩,
    ⟨0xB00084, [(16, 0x100), (8, 0x8)], false, (.attr 512 1), false, [ACQ_ARG_ARG]⟩ ]

/-- The TIN registers. -/
def regsTIN : List Reg :=
  [ ⟨0xB10000, [(32, 0x40)], false, (.attr 528 1), false, [TIN_CFG_SLOPE, TIN_CFG_HYST, TIN_CFG_TERM, TIN_CFG_THRESH]⟩,
    ⟨0xB10004, [(32, 0x40)], false, (.attr 528 1), false, [TIN_DELAY_FACTORY, TIN_DELAY_USER]⟩,
    ⟨0xB10008, [(32, 0x40)], false, (.attr 528 1), false, [TIN_STATUS_LEVEL, TIN_STATUS_FILL, TIN_STATUS_MISS, TIN_STATUS_OVERFLOW]⟩,
    ⟨0xB1000C, [(32, 0x40)], false, (.attr 528 1), true, [TIN_EDGE_CNT_COUNT]⟩,
    ⟨0xB10010, [(32, 0x40)], false, (.attr 528 1), true, [TIN_MISS_CNT_COUNT]⟩,
    ⟨0xB10018, [(32, 0x40), (2, 0x8)], true, (.attr 528 1), false, [TIN_STAMP_WORD]⟩ ]

/-- The TDC registers. -/
def regsTDC : List Reg :=
  [ ⟨0xB20000, [(8, 0x100)], false, (.attr 528 1), false, [TDC_MCTRL_GO, TDC_MCTRL_ARM, TDC_MCTRL_NSTOP, TDC_MCTRL_STOP, TDC_MCTRL_START]⟩,
    ⟨0xB20004, [(8, 0x100)], false, (.attr 528 1), false, [TDC_MTIMEOUT_TICKS]⟩,
    ⟨0xB20008, [(8, 0x100)], false, (.attr 528 1), false, [TDC_MCH_CH]⟩,
    ⟨0xB2000C, [(8, 0x100)], false, (.attr 528 1), false, [TDC_MSTATUS_BUSY, TDC_MSTATUS_DONE, TDC_MSTATUS_TIMEOUT, TDC_MSTATUS_OVERRUN, TDC_MSTATUS_CFG_ERR, TDC_MSTATUS_COUNT]⟩,
    ⟨0xB20010, [(8, 0x100)], false, (.attr 528 1), false, [TDC_MSTART_LO_STAMP_LO]⟩,
    ⟨0xB20014, [(8, 0x100)], false, (.attr 528 1), false, [TDC_MSTART_HI_STAMP_HI]⟩,
    ⟨0xB20020, [(8, 0x100), (15, 0x8)], false, (.attr 528 1), false, [TDC_MINT_LO_INT_LO]⟩,
    ⟨0xB20024, [(8, 0x100), (15, 0x8)], false, (.attr 528 1), false, [TDC_MINT_HI_INT_HI]⟩,
    ⟨0xB30000, [(4, 0x40)], false, (.attr 536 1), false, [TDC_FCTRL_GO, TDC_FCTRL_ARM, TDC_FCTRL_PRESCALE, TDC_FCTRL_TIN, TDC_FCTRL_CH]⟩,
    ⟨0xB30004, [(4, 0x40)], false, (.attr 536 1), false, [TDC_FGATE_TICKS]⟩,
    ⟨0xB30008, [(4, 0x40)], false, (.attr 536 1), false, [TDC_FSTATUS_BUSY, TDC_FSTATUS_DONE, TDC_FSTATUS_FAULT, TDC_FSTATUS_TRUNC, TDC_FSTATUS_CFG_ERR, TDC_FSTATUS_N]⟩,
    ⟨0xB3000C, [(4, 0x40)], false, (.attr 536 1), false, [TDC_FSTART_LO_VALUE]⟩,
    ⟨0xB30010, [(4, 0x40)], false, (.attr 536 1), false, [TDC_FSTART_HI_VALUE]⟩,
    ⟨0xB30014, [(4, 0x40)], false, (.attr 536 1), false, [TDC_FPER_LO_VALUE]⟩,
    ⟨0xB30018, [(4, 0x40)], false, (.attr 536 1), false, [TDC_FPER_HI_VALUE]⟩,
    ⟨0xB3001C, [(4, 0x40)], false, (.attr 536 1), false, [TDC_FFREQ_LO_VALUE]⟩,
    ⟨0xB30020, [(4, 0x40)], false, (.attr 536 1), false, [TDC_FFREQ_HI_VALUE]⟩,
    ⟨0xB30024, [(4, 0x40)], false, (.attr 536 1), false, [TDC_FRESID_VALUE]⟩,
    ⟨0xB38000, [], false, (.attr 749 0), false, [TDC_CAL_CTRL_GO, TDC_CAL_CTRL_SEL]⟩,
    ⟨0xB38004, [], false, (.attr 749 0), false, [TDC_CAL_STATUS_BUSY, TDC_CAL_STATUS_DONE, TDC_CAL_STATUS_FAIL, TDC_CAL_STATUS_FAIL_SEL]⟩,
    ⟨0xB38008, [], false, (.attr 749 0), false, [TDC_BIN_INDEX_AUTOINC, TDC_BIN_INDEX_SEL, TDC_BIN_INDEX_BIN]⟩,
    ⟨0xB3800C, [], false, (.attr 749 0), false, [TDC_BIN_DATA_POS, TDC_BIN_DATA_HITS]⟩ ]

/-- The MKO registers. -/
def regsMKO : List Reg :=
  [ ⟨0xB40000, [(64, 0x8)], false, (.attr 560 1), false, [MKO_CTRL_PIN, MKO_CTRL_LEVEL, MKO_CTRL_CLAMP, MKO_CTRL_INVERT, MKO_CTRL_NONE, MKO_CTRL_OWNER]⟩,
    ⟨0xB40004, [(64, 0x8)], false, (.attr 560 1), false, [MKO_DELAY_FACTORY, MKO_DELAY_USER]⟩ ]

/-- The CHS registers. -/
def regsCHS : List Reg :=
  [ ⟨0x1000000, [(128, 0x20000)], false, (.attr 0 1), false, [CHS_CTRL_ENTRY, CHS_CTRL_ENABLE]⟩,
    ⟨0x1000004, [(128, 0x20000)], false, (.attr 0 1), false, [CHS_STATUS_STATE, CHS_STATUS_BAR_TIMEOUT, CHS_STATUS_WAITT_TIMEOUT, CHS_STATUS_CUT, CHS_STATUS_SHOT_TAINT, CHS_STATUS_PC]⟩,
    ⟨0x1000008, [(128, 0x20000)], false, (.attr 0 1), false, [CHS_PREV_TAINT_TAINT]⟩,
    ⟨0x100000C, [(128, 0x20000)], false, (.attr 0 1), false, [CHS_PREV_SHOT_COUNT]⟩,
    ⟨0x1000010, [(128, 0x20000)], false, (.attr 0 1), true, [CHS_CUT_CNT_COUNT]⟩,
    ⟨0x1000014, [(128, 0x20000)], false, (.attr 0 1), true, [CHS_TIMEOUT_CNT_COUNT]⟩,
    ⟨0x1000018, [(128, 0x20000)], false, (.attr 0 1), false, [CHS_BAR_EN_EN]⟩,
    ⟨0x1000020, [(128, 0x20000)], false, (.attr 0 1), false, [CHS_MEM_CTRL_SEL, CHS_MEM_CTRL_AUTOINC, CHS_MEM_CTRL_ADDR]⟩,
    ⟨0x1000028, [(128, 0x20000)], true, (.attr 0 1), false, [CHS_MEM_DATA_DATA]⟩,
    ⟨0x1000100, [(128, 0x20000), (16, 0x8)], true, (.attr 0 1), false, [CHS_G_VALUE]⟩,
    ⟨0x1000180, [(128, 0x20000), (4, 0x4)], false, (.attr 0 1), false, [CHS_K_VALUE]⟩ ]

/-- The SEG registers. -/
def regsSEG : List Reg :=
  [ ⟨0x1000800, [(128, 0x20000), (8, 0x4)], false, (.attr 0 1), false, [SEG_SLOT_MODE, SEG_SLOT_LATCH, SEG_SLOT_STOP_PEND, SEG_SLOT_REPOINT_PEND, SEG_SLOT_ENTRY, SEG_SLOT_REMAIN]⟩,
    ⟨0x1000820, [(128, 0x20000)], false, (.attr 0 1), true, [SEG_JUMP_CNT_COUNT]⟩,
    ⟨0x1000824, [(128, 0x20000)], false, (.attr 0 1), true, [SEG_MERGE_CNT_COUNT]⟩,
    ⟨0x1008000, [(128, 0x20000), (1024, 0x20), (8, 0x4)], false, (.attr 0 1), false, [SEG_ENT_BYTES]⟩ ]

/-- The STM registers. -/
def regsSTM : List Reg :=
  [ ⟨0x1001000, [(128, 0x20000), (4, 0x40)], false, (.attr 0 1), false, [STM_CTRL_RESTART, STM_CTRL_ENABLE]⟩,
    ⟨0x1001004, [(128, 0x20000), (4, 0x40)], false, (.attr 0 1), false, [STM_BUF_SIZE, STM_BUF_BASE]⟩,
    ⟨0x1001008, [(128, 0x20000), (4, 0x40)], false, (.attr 0 1), false, [STM_RING_LO_ADDR]⟩,
    ⟨0x100100C, [(128, 0x20000), (4, 0x40)], false, (.attr 0 1), false, [STM_RING_HI_ADDR]⟩,
    ⟨0x1001010, [(128, 0x20000), (4, 0x40)], false, (.attr 0 1), false, [STM_RING_SIZE_RING_LOG2]⟩,
    ⟨0x1001014, [(128, 0x20000), (4, 0x40)], false, (.attr 0 1), false, [STM_WR_INDEX]⟩,
    ⟨0x1001018, [(128, 0x20000), (4, 0x40)], false, (.attr 0 1), false, [STM_RD_INDEX]⟩,
    ⟨0x100101C, [(128, 0x20000), (4, 0x40)], false, (.attr 0 1), false, [STM_CONS_INDEX]⟩,
    ⟨0x1001020, [(128, 0x20000), (4, 0x40)], false, (.attr 0 1), false, [STM_STATUS_CFG_ERR, STM_STATUS_OVERFILL, STM_STATUS_UNDERRUN]⟩,
    ⟨0x1001024, [(128, 0x20000), (4, 0x40)], false, (.attr 0 1), false, [STM_UR_INDEX_INDEX]⟩,
    ⟨0x1001028, [(128, 0x20000), (4, 0x40)], false, (.attr 0 1), false, [STM_UR_TICK_LO_TICK_LO]⟩,
    ⟨0x100102C, [(128, 0x20000), (4, 0x40)], false, (.attr 0 1), false, [STM_UR_TICK_HI_TICK_HI]⟩,
    ⟨0x1001030, [(128, 0x20000), (4, 0x40)], false, (.attr 0 1), true, [STM_UR_CNT_COUNT]⟩,
    ⟨0x1001034, [(128, 0x20000), (4, 0x40)], false, (.attr 0 1), true, [STM_DISCARD_CNT_COUNT]⟩,
    ⟨0x1001038, [(128, 0x20000), (4, 0x40)], false, (.attr 0 1), true, [STM_MIN_SLACK_TICKS]⟩ ]

/-- The LIN registers. -/
def regsLIN : List Reg :=
  [ ⟨0x2000000, [(256, 0x4000)], false, (.attr 128 1), false, [LIN_CFG_MUTE, LIN_CFG_ISINC, LIN_CFG_MODE, LIN_CFG_PATH]⟩,
    ⟨0x2000004, [(256, 0x4000)], false, (.attr 128 1), false, [LIN_GAIN_GAIN]⟩,
    ⟨0x2000008, [(256, 0x4000)], false, (.attr 128 1), false, [LIN_SKEW_FACTORY, LIN_SKEW_USER]⟩,
    ⟨0x200000C, [(256, 0x4000)], false, .secureW, false, [LIN_FSC_FACTORY, LIN_FSC_CODE]⟩,
    ⟨0x2000010, [(256, 0x4000)], false, (.attr 128 1), false, [LIN_STATUS_LIVE, LIN_STATUS_PATH_SETTLE, LIN_STATUS_SKEW_CLAMP, LIN_STATUS_CFG_FIX, LIN_STATUS_MUTE_CAUSE, LIN_STATUS_SAT]⟩,
    ⟨0x2000014, [(256, 0x4000)], false, (.attr 128 1), true, [LIN_SAT_CNT_COUNT]⟩ ]

/-- The TON registers. -/
def regsTON : List Reg :=
  [ ⟨0x2000040, [(256, 0x4000), (4, 0x4)], false, (.attr 128 1), false, [TON_SLOT_BUSY, TON_SLOT_MODE, TON_SLOT_PT, TON_SLOT_FRAME, TON_SLOT_AMP]⟩,
    ⟨0x2000100, [(128, 0x8000)], false, (.attr 128 2), false, [TON_FRM_INDEX_AUTOINC, TON_FRM_INDEX_INDEX]⟩,
    ⟨0x2000104, [(128, 0x8000)], false, (.attr 128 2), false, [TON_FRM_CTRL_COMMIT]⟩,
    ⟨0x2000108, [(128, 0x8000)], false, (.attr 128 2), false, [TON_FRM_FREQ_LO_F_LO]⟩,
    ⟨0x200010C, [(128, 0x8000)], false, (.attr 128 2), false, [TON_FRM_FREQ_HI_F_HI]⟩,
    ⟨0x2000110, [(128, 0x8000)], false, (.attr 128 2), false, [TON_FRM_PHASE_PHI]⟩,
    ⟨0x2000114, [(128, 0x8000)], false, (.attr 128 2), false, [TON_FRM_T0_LO_T0_LO]⟩,
    ⟨0x2000118, [(128, 0x8000)], false, (.attr 128 2), false, [TON_FRM_T0_HI_T0_HI]⟩ ]

/-- The BIA registers. -/
def regsBIA : List Reg :=
  [ ⟨0x2000400, [(256, 0x4000)], false, (.attr 128 1), false, [BIA_TARGET_CODE]⟩,
    ⟨0x2000404, [(256, 0x4000)], false, (.attr 128 1), false, [BIA_CODE_SPAN, BIA_CODE_CODE]⟩,
    ⟨0x2000408, [(256, 0x4000)], false, (.attr 128 1), false, [BIA_GLIDE_STEP]⟩,
    ⟨0x200040C, [(256, 0x4000)], false, .secureW, false, [BIA_PARK_SPAN, BIA_PARK_CODE]⟩,
    ⟨0x2000410, [(256, 0x4000)], false, (.attr 128 1), false, [BIA_PARK_LATCH_SPAN, BIA_PARK_LATCH_CODE]⟩,
    ⟨0x2000414, [(256, 0x4000)], false, (.attr 128 1), false, [BIA_STATUS_STATE, BIA_STATUS_CAUSE, BIA_STATUS_GLIDING, BIA_STATUS_CLAMP]⟩ ]

/-- The GOV registers. -/
def regsGOV : List Reg :=
  [ ⟨0x2000440, [(256, 0x4000)], false, .secureW, false, [GOV_CTRL_RELEASE, GOV_CTRL_ACTION]⟩,
    ⟨0x2000444, [(256, 0x4000)], false, .secureW, false, [GOV_STATUS_TRIPPED, GOV_STATUS_CLIPPING, GOV_STATUS_OVER, GOV_STATUS_TRIP_SEEN, GOV_STATUS_CLIP_SEEN, GOV_STATUS_FG]⟩,
    ⟨0x2000448, [(256, 0x4000)], false, .secureW, false, [GOV_TGT_TGT]⟩,
    ⟨0x2000450, [(256, 0x4000), (3, 0x8)], false, .secureW, false, [GOV_LIM_LO_LIM_LO]⟩,
    ⟨0x2000454, [(256, 0x4000), (3, 0x8)], false, .secureW, false, [GOV_LIM_HI_LIM_HI]⟩,
    ⟨0x2000468, [(256, 0x4000)], false, .secureW, false, [GOV_BIAS_MAG_MAG]⟩,
    ⟨0x200046C, [(256, 0x4000)], false, .secureW, false, [GOV_GLIDE_MAX_GMAX]⟩,
    ⟨0x2000470, [(256, 0x4000), (3, 0x8)], false, .secureW, false, [GOV_SUM_LO_SUM_LO]⟩,
    ⟨0x2000474, [(256, 0x4000), (3, 0x8)], false, .secureW, false, [GOV_SUM_HI_SUM_HI]⟩,
    ⟨0x2000488, [(256, 0x4000)], false, .secureW, true, [GOV_OVER_CNT_COUNT]⟩ ]

/-- The INP registers. -/
def regsINP : List Reg :=
  [ ⟨0x2800000, [(64, 0x10000)], false, (.attr 384 1), false, [INP_CFG_PATINA_LOG, INP_CFG_PATINA_HOLD, INP_CFG_OFF, INP_CFG_ZONE]⟩,
    ⟨0x2800004, [(64, 0x10000)], false, (.attr 384 1), false, [INP_STATUS_CONV, INP_STATUS_SETTLE, INP_STATUS_SAT_COR, INP_STATUS_SKEW_DRIFT, INP_STATUS_PATINA_SKIP, INP_STATUS_PATINA_LIMIT, INP_STATUS_OVR_NEIGH, INP_STATUS_OVR]⟩,
    ⟨0x2800008, [(64, 0x10000)], false, (.attr 384 1), false, [INP_CONV_LO_TICK_LO]⟩,
    ⟨0x280000C, [(64, 0x10000)], false, (.attr 384 1), false, [INP_CONV_HI_TICK_HI]⟩,
    ⟨0x2800010, [(64, 0x10000)], false, (.attr 384 1), true, [INP_OVR_CNT_COUNT]⟩,
    ⟨0x2800014, [(64, 0x10000)], false, (.attr 384 1), false, [INP_OVR_FIRST_LO_TICK_LO]⟩,
    ⟨0x2800018, [(64, 0x10000)], false, (.attr 384 1), false, [INP_OVR_FIRST_HI_TICK_HI]⟩,
    ⟨0x280001C, [(64, 0x10000)], false, (.attr 384 1), false, [INP_SKEW_LIMIT_TAPS]⟩,
    ⟨0x2800020, [(64, 0x10000)], false, (.attr 384 1), false, [INP_KMEM_CTRL_AUTOINC, INP_KMEM_CTRL_TONE, INP_KMEM_CTRL_ADDR]⟩,
    ⟨0x2800028, [(64, 0x10000)], true, (.attr 384 1), false, [INP_KMEM_DATA_WEIGHT]⟩,
    ⟨0x2800040, [(64, 0x10000), (8, 0x10)], false, .secureW, false, [INP_SLC_OFF_DELTA, INP_SLC_OFF_BASE]⟩,
    ⟨0x2800044, [(64, 0x10000), (8, 0x10)], false, .secureW, false, [INP_SLC_GAIN_DELTA, INP_SLC_GAIN_BASE]⟩,
    ⟨0x2800048, [(64, 0x10000), (8, 0x10)], false, .secureW, false, [INP_SLC_SKEW_ESTIMATE, INP_SLC_SKEW_TAPS]⟩,
    ⟨0x2800100, [(64, 0x10000), (8, 0x20), (7, 0x4)], false, .secureW, false, [INP_FIR_H]⟩ ]

/-- The DMD registers. -/
def regsDMD : List Reg :=
  [ ⟨0x2801000, [(64, 0x10000), (16, 0x80)], false, (.attr 384 1), false, [DMD_FREQ_LO_F_LO]⟩,
    ⟨0x2801004, [(64, 0x10000), (16, 0x80)], false, (.attr 384 1), false, [DMD_FREQ_HI_F_HI]⟩,
    ⟨0x2801008, [(64, 0x10000), (16, 0x80)], false, (.attr 384 1), false, [DMD_PHASE_PHI]⟩,
    ⟨0x280100C, [(64, 0x10000), (16, 0x80)], false, (.attr 384 1), false, [DMD_CFG_PUB, DMD_CFG_MODE]⟩,
    ⟨0x2801010, [(64, 0x10000), (16, 0x80), (2, 0x8), (2, 0x4)], false, (.attr 384 1), false, [DMD_AX_VALUE]⟩,
    ⟨0x2801020, [(64, 0x10000), (16, 0x80), (3, 0x8)], true, (.attr 384 1), false, [DMD_T_VALUE]⟩,
    ⟨0x2801038, [(64, 0x10000), (16, 0x80)], false, (.attr 384 1), false, [DMD_STATUS_OPEN, DMD_STATUS_SAT_PROJ, DMD_STATUS_SAT_INT, DMD_STATUS_SAT_DEC]⟩,
    ⟨0x280103C, [(64, 0x10000), (16, 0x80)], false, (.attr 384 1), true, [DMD_WIN_CNT_COUNT]⟩,
    ⟨0x2801040, [(64, 0x10000), (16, 0x80), (2, 0x8)], true, (.attr 384 1), false, [DMD_LAST_VALUE]⟩ ]

/-- The CLP registers. -/
def regsCLP : List Reg :=
  [ ⟨0x3000000, [(64, 0x40000)], false, (.attr 448 1), false, [CLP_CTRL_ENTRY, CLP_CTRL_MODE]⟩,
    ⟨0x3000004, [(64, 0x40000)], false, (.attr 448 1), false, [CLP_STATUS_STATE, CLP_STATUS_HANDLER, CLP_STATUS_CUT, CLP_STATUS_SVC_FAULT, CLP_STATUS_SAT, CLP_STATUS_AOVF, CLP_STATUS_SHOT_TAINT, CLP_STATUS_PC]⟩,
    ⟨0x3000008, [(64, 0x40000)], false, (.attr 448 1), false, [CLP_PREV_TAINT_TAINT]⟩,
    ⟨0x300000C, [(64, 0x40000)], false, (.attr 448 1), false, [CLP_PREV_SHOT_COUNT]⟩,
    ⟨0x3000010, [(64, 0x40000)], false, (.attr 448 1), false, [CLP_EVT_EPEND, CLP_EVT_EMASK]⟩,
    ⟨0x3000014, [(64, 0x40000)], false, (.attr 448 1), false, [CLP_ELR_ELR]⟩,
    ⟨0x3000020, [(64, 0x40000), (4, 0x4)], false, (.attr 448 1), false, [CLP_DEP_KIND, CLP_DEP_SIZE_LOG2, CLP_DEP_PHASE, CLP_DEP_SRC, CLP_DEP_BASE]⟩,
    ⟨0x3000030, [(64, 0x40000), (4, 0x4)], false, (.attr 448 1), false, [CLP_DEP_W_W]⟩,
    ⟨0x3000040, [(64, 0x40000), (16, 0x4)], false, (.attr 448 1), false, [CLP_EVEC_ADDR]⟩,
    ⟨0x3000080, [(64, 0x40000)], false, (.attr 448 1), false, [CLP_MEM_CTRL_SEL, CLP_MEM_CTRL_AUTOINC, CLP_MEM_CTRL_ADDR]⟩,
    ⟨0x3000088, [(64, 0x40000)], true, (.attr 448 1), false, [CLP_MEM_DATA_DATA]⟩,
    ⟨0x3000100, [(64, 0x40000), (16, 0x8)], true, (.attr 448 1), false, [CLP_X_VALUE]⟩,
    ⟨0x3000180, [(64, 0x40000), (4, 0x10), (3, 0x4)], false, (.attr 448 1), false, [CLP_A_VALUE]⟩,
    ⟨0x30001C0, [(64, 0x40000), (8, 0x4)], false, (.attr 448 1), false, [CLP_P_VALUE]⟩,
    ⟨0x3000200, [(64, 0x40000), (8, 0x8)], true, (.attr 448 1), false, [CLP_M_VALUE]⟩,
    ⟨0x3000240, [(64, 0x40000)], false, (.attr 448 1), true, [CLP_CUT_CNT_COUNT]⟩,
    ⟨0x3000244, [(64, 0x40000)], false, (.attr 448 1), true, [CLP_LATE_CNT_COUNT]⟩,
    ⟨0x3000248, [(64, 0x40000)], false, (.attr 448 1), true, [CLP_EV_MERGE_CNT_COUNT]⟩,
    ⟨0x300024C, [(64, 0x40000)], false, (.attr 448 1), true, [CLP_EV_IGNORE_CNT_COUNT]⟩ ]

/-- The whole of W0 (R478). -/
def allRegs : List Reg :=
  regsGLB ++ regsBOOT ++ regsSEC ++ regsCLK ++ regsEVF ++ regsMBX ++
  regsLCK ++ regsSVA ++ regsHST ++ regsLAN ++ regsPNT ++ regsMON ++
  regsTHM ++ regsPWR ++ regsDEC ++ regsPFU ++ regsACQ ++ regsTIN ++
  regsTDC ++ regsMKO ++ regsCHS ++ regsSEG ++ regsSTM ++ regsLIN ++
  regsTON ++ regsBIA ++ regsGOV ++ regsINP ++ regsDMD ++ regsCLP

end Sys2Proof.Machine
end

