-- ==== Sys2Proof/Machine/State.lean ====
section
/-! DEFINITION. The state of the block, its faults and refusals, and reset. Every register field lives in `regs`, sparsely, under
the number its `Fld` carries (Sys2Proof/Machine/Regs.lean); the rest is what the manual gives the block beside its registers.
INVENTORY.md names the rule of each field. -/

namespace Sys2Proof.Machine

/-- No command of this block stops in a fault: the manual answers every access and every event with an effect. The one
constructor stands for none of them. -/
inductive Fault where
  /-- Raised by nothing. Safe. -/
  | none
  deriving DecidableEq, Repr

/-- What a step may refuse. -/
inductive Refusal where
  /-- Raised by the arm of exec of a command that has no meaning yet. Safe. -/
  | notModelled (mnemonic : String)
  deriving DecidableEq, Repr

/-- The state. -/
structure State where
  /-- the commands that are waiting, first in, first out -/
  pending : List Instr
  /-- every register field that does not hold its reset value: key `fldKey`, value -/
  regs : SMap Nat
  /-- the value the last read returned to its reader -/
  readData : Nat
  /-- the last host read completed with the EP bit set (R366) -/
  readPoison : Bool
  /-- schedule time (R100) -/
  now : Nat
  /-- local ticks since reset -/
  tick : Nat
  /-- free values used so far: the model's own field -/
  fresh : Nat
  /-- XTAL_IN has failed and the service plane is stopped (R98) -/
  xtalFail : Bool
  /-- schedule time bits [39:0] became zero by counting on this tick (R102) -/
  epochDue : Bool
  /-- the local tick ARM becomes visible on (R18, R109) -/
  armVis : Nat
  /-- the applied clock phase (R99) -/
  phaseNow : Nat
  /-- the residuals of the last 16 valid pulses (R110) -/
  syncErrs : List Int
  /-- consecutive good pulses (R116) -/
  slipRun : Nat
  /-- the last expected tick seen, plus one (R116) -/
  lastGoodL : Nat
  /-- a skew run (R111) -/
  skew : Skew
  /-- the last pulse the master sent, and whether it was marked (R107) -/
  syncOut : Option (Nat × Bool)
  /-- the last local tick on which a clock alarm was active, plus one (R118) -/
  alarmLast : Nat
  /-- the tick of the first-taint capture (R481) -/
  taintTick : Nat
  /-- shot taints with their causes (R32) -/
  shotT : SMap Taint
  /-- harvested value queues (R18) -/
  harvest : SMap (List HEntry)
  /-- the tag of the next harvest point of each queue (R20) -/
  hNext : SMap Nat
  /-- position of the last point harvested in this shot, plus one (R51) -/
  hLast : SMap Nat
  /-- points declared on each queue, N_q (R50) -/
  nq : SMap Nat
  /-- the declared harvest points (R49) -/
  points : SMap (Option HPoint)
  /-- event-harvest latches (R346) -/
  evhLatch : SMap Bool
  /-- arrivals at task inputs, not yet activations (R342) -/
  arrivals : SMap (List Nat)
  /-- the last accepted firing of a channel, plus one (R340) -/
  chAny : SMap Nat
  /-- the last accepted real-time firing of a channel, plus one (R340) -/
  chRt : SMap Nat
  /-- accepted real-time firings on their way (R25) -/
  deliver : List Firing
  /-- result queues (R376) -/
  rq : SMap RQueue
  /-- time since power-on, in 2.5 ns: the steps in which nothing was commanded -/
  clock : Nat
  /-- the time RESET_N went high (R90) -/
  bootT0 : Nat
  /-- boot log entries not yet in flash (R90) -/
  bootUnwritten : Nat
  /-- gap windows (R53) -/
  gaps : List Gap
  /-- marker operations on their way (R145) -/
  mkOps : List MkOp
  /-- the end tick of the pulse of each marker (R145) -/
  mkEnd : SMap Nat
  /-- the start tick of the present shot (R103) -/
  shotStart : Nat
  /-- bindings of decision windows: Chisel × 64 + K to bit + 1 (R286) -/
  dmap : SMap Nat
  /-- declarations: bit to FIRST_PUB + 1 (R286) -/
  decDecl : SMap Nat
  /-- published values (R284) -/
  decVal : SMap Bool
  /-- published in the current shot (R284) -/
  decPub : SMap Bool
  /-- word taints (R285) -/
  decTaint : SMap Taint
  /-- PARTAB as loaded (R305) -/
  pfuMem : SMap Nat
  /-- SLOTS, CHECKS, NBHDS, PUBS, TABLE_ENTRIES (Table PFU-2) -/
  pfuCnt : List Nat
  /-- previous values: 0 none, 1 zero, 2 one (R297) -/
  pfuPrev : SMap Nat
  /-- Pauli-frame records (R303) -/
  pfuRec : SMap Nat
  /-- the next round number (R296) -/
  pfuNext : Nat
  /-- rounds in progress, by slot (R296) -/
  rounds : SMap (Option Round)
  /-- HBM: bytes that are not zero -/
  hbm : List Host.Cell
  /-- Chisel program memories: Chisel × 65536 + word address (R119) -/
  chsProg : SMap Nat
  /-- Chisel envelope memories: Chisel × 262144 + word address (R119) -/
  chsEnv : SMap Nat
  /-- Chisel sequencing (R120) -/
  chisels : SMap Chs
  /-- barrier arrivals on their way: barrier, Chisel, tick (R134) -/
  barArr : List (Nat × Nat × Nat)
  /-- participants seen in this shot, by barrier (R134) -/
  barSeen : SMap (List Nat)
  /-- stamped edges of timing inputs of the last ticks (R133, R326) -/
  tinSeen : List Edge
  /-- PLAYs of the last ticks: Chisel, PC, start tick (R445) -/
  playSeen : List (Nat × Nat × Nat)
  /-- tone slots (R139, R154) -/
  slots : SMap Slot
  /-- granules fetched, not yet visible, by stream ring (R165) -/
  stmFetch : SMap (List StmGran)
  /-- granules in the partitions (R165) -/
  stmBuf : SMap (List StmGran)
  /-- initial frame contexts: Chisel × 2048 + frame (R172) -/
  frmInit : SMap Frm
  /-- live frame contexts (R172) -/
  frmLive : SMap Frm
  /-- frame operations of the last ticks (R177) -/
  frmOps : List FrmOp
  /-- fast lines (R180 to R196, R213) -/
  lines : SMap Line
  /-- bias outputs (R200) -/
  biases : SMap Bias
  /-- QUIESCE_N is low (R205) -/
  quiesce : Bool
  /-- the release tick of QUIESCE_N, plus one (R206) -/
  quiesceEnd : Nat
  /-- Patina of each input (R226) -/
  patinas : SMap Patina
  /-- correction sets of the zones not selected, value + 1 (R483) -/
  zoneSets : SMap Nat
  /-- overranged samples of the last ticks: input, sample time (R232) -/
  ovrs : List (Nat × Nat)
  /-- demodulator windows (R235) -/
  windows : SMap (List Win)
  /-- kernel memories: demodulator × 4096 + weight (R237) -/
  kmem : SMap Nat
  /-- Calipers (R252) -/
  calipers : SMap Clp
  /-- Caliper program memories: Caliper × 16384 + address (Table CLP-1) -/
  clpProg : SMap Nat
  /-- Caliper data memories: Caliper × 65536 + address (Table CLP-1) -/
  clpMem : SMap Nat
  /-- the initial images of the data memories (R253) -/
  clpInit : SMap Nat
  /-- initial event masks (R281) -/
  clpEmask : SMap Nat
  /-- W of each deposit channel at the end of the previous tick (Table CLP-7) -/
  depWPrev : SMap Nat
  /-- mailbox queues, by the end that reads them: 2 × mailbox + end (R348) -/
  mbxQ : SMap (List MbxEnt)
  /-- the time of the ring that is pending, in 2.5 ns, plus one, by the ringing end (R351) -/
  mbxRing : SMap Nat
  /-- the last activation of a task input, plus one (R344) -/
  taskLast : SMap Nat
  /-- event-harvest entries on their way to the real-time side (R346) -/
  evhSent : List EvhEnt
  /-- accepted real-time firings of the last ticks (R313, R317) -/
  fired : List Firing
  /-- decision bits published on the last ticks: tick, bit, value, taint of the word (R313, R320) -/
  pubSeen : List (Nat × Nat × Bool × Taint)
  /-- capture units (R311) -/
  caps : SMap Cap
  /-- stamp FIFOs of the timing inputs (R328) -/
  tinFifo : SMap (List (Nat × Nat))
  /-- the last stamped edge of each timing input, e + 1 (R327) -/
  tinLast : SMap Nat
  /-- interpolator tables that are not nominal: interpolator × 512 + bin to pos + 1 (R329) -/
  tdcPos : SMap Nat
  /-- hit counts of the last calibration run (R329) -/
  tdcHits : SMap Nat
  /-- the interpolator under calibration, plus one, and whether the run goes on to the next (R330) -/
  tdcCal : Nat × Bool
  /-- interval engines (R331) -/
  ivls : SMap Ivl
  /-- service arbiters by stack (R368) -/
  arbs : SMap Arb
  /-- the class-A host command that is outstanding (R387) -/
  hostA : Option HostCmd
  /-- the class-B host command that is running (R387) -/
  hostB : Option HostCmd
  /-- class-B host commands that wait (R387) -/
  hostBQ : List HostCmd
  /-- MSI-X table (R383) -/
  msix : SMap Msix
  /-- system lanes (R390) -/
  lans : SMap Lan
  /-- transmit entries: lane × 4096 + position (Table GLB-22) -/
  lanTx : SMap Nat
  /-- receive entries, bytes 0 to 3 (Table GLB-22) -/
  lanRx : SMap Nat
  /-- DEFAULT of the receive entries (Table GLB-22) -/
  lanDef : SMap Nat
  /-- LENGTH of each lane's LANSLOT record (R57) -/
  lanLen : SMap Nat
  /-- the bulk descriptor in progress (R414) -/
  bqCur : Option BqCur
  /-- the tick of the last TIME_LOADED, plus one (R404) -/
  timeLoadedAt : Nat
  /-- SYSTEM_TAG of the running image (R42) -/
  systemTag : Nat
  /-- frequency engines (R332) -/
  frqs : SMap Frq
  /-- the monitor ADC (R436 to R441) -/
  mon : Mon
  /-- Pointing (R418 to R435) -/
  pnt : PntSt
  /-- power states and supplies (R443 to R454) -/
  pwr : PwrSt
  /-- casting (R70 to R96) -/
  boot : BootSt
  /-- attached memory: bytes that are not erased, as value + 1 (R76, Table BOOT-2) -/
  flash : SMap Nat
  /-- SRAM of the Plinth, by core address (Table GLB-25) -/
  sram : SMap Nat
  /-- the I²C responder (R466, R467) -/
  i2c : I2cSt
  /-- the clock block beyond its registers (R99, R105, R114, R116, R117) -/
  clk : ClkSt
  /-- what the present cycle has seen: the model's own field (R10, R92, R337, R346) -/
  cyc : Cycle
  deriving DecidableEq, Repr

/-- The block right after reset: every register field at its reset value, every table empty, nothing waiting. -/
def State.reset : State :=
  { pending := [], regs := [], readData := 0, readPoison := false, now := 0, tick := 0, fresh := 0, xtalFail := false, epochDue := false, armVis := 0
    phaseNow := 0, syncErrs := [], slipRun := 0, lastGoodL := 0, skew := {}, syncOut := none, alarmLast := 0, taintTick := 0
    shotT := [], harvest := [], hNext := [], hLast := [], nq := [], points := [], evhLatch := [], arrivals := [], chAny := []
    chRt := [], deliver := [], rq := [], clock := 0, bootT0 := 0, bootUnwritten := 0, gaps := [], mkOps := [], mkEnd := [], shotStart := 0
    dmap := [], decDecl := [], decVal := [], decPub := [], decTaint := [], pfuMem := [], pfuCnt := [], pfuPrev := [], pfuRec := []
    pfuNext := 0, rounds := [], hbm := [], chsProg := [], chsEnv := [], chisels := [], barArr := [], barSeen := [], tinSeen := []
    playSeen := [], slots := [], stmFetch := [], stmBuf := [], frmInit := [], frmLive := [], frmOps := [], lines := []
    biases := [], quiesce := false, quiesceEnd := 0, patinas := [], zoneSets := [], ovrs := [], windows := [], kmem := [], calipers := [], clpProg := [], clpMem := [], clpInit := [], clpEmask := [], depWPrev := [], mbxQ := [], mbxRing := [], taskLast := [], evhSent := []
    fired := [], pubSeen := [], caps := [], tinFifo := [], tinLast := [], tdcPos := [], tdcHits := [], tdcCal := (0, false), ivls := [], arbs := [], hostA := none, hostB := none, hostBQ := [], msix := [], lans := [], lanTx := [], lanRx := [], lanDef := [], lanLen := [], bqCur := none
    timeLoadedAt := 0, systemTag := 0, frqs := [], mon := {}, pnt := {}, pwr := {}, boot := {}, flash := [], sram := [], i2c := {}, clk := {}, cyc := {} }

end Sys2Proof.Machine
end

