-- ==== Sys2Proof/Machine/Ops.lean ====
section
/-! DEFINITION. The operations every chapter shares: register fields, free values, event firing (13_event_fabric_and_mailboxes.md),
result records and result queues (09, 14), the boot log. -/

namespace Sys2Proof.Machine

/-- Instance `i` of a register field. -/
def State.get (s : State) (f : Fld) (i : Nat := 0) : Nat := sget (fldReset f i) s.regs (fldKey f i)

/-- Note the W1C bits `m` of the field under `key` as set by hardware on this cycle (R10). -/
def Cycle.note (c : Cycle) (f : Fld) (key m : Nat) : Cycle :=
  if f.acc = .w1c ∧ m ≠ 0 then { c with hwSet := sput key (sget 0 c.hwSet key ||| m) c.hwSet } else c

/-- Write instance `i` of a field, as software does; the value is cut to the field's width. -/
def State.put (s : State) (f : Fld) (v : Nat) (i : Nat := 0) : State :=
  { s with regs := sset (fldReset f i) s.regs (fldKey f i) (v % 2 ^ f.width) }

/-- Write instance `i` of a field, as hardware does; the value is cut to the field's width. The bits of a W1C field that it sets are noted. -/
def State.set (s : State) (f : Fld) (v : Nat) (i : Nat := 0) : State :=
  { s.put f v i with
    cyc := s.cyc.note f (fldKey f i) (if f.width = 1 then v % 2 else (s.get f i ^^^ v % 2 ^ f.width) &&& v) }

/-- Did the cycle leave bits of this W1C field that a write of 1 does not clear (R10)? -/
def State.heldBits (s : State) (f : Fld) (i : Nat) : Nat := s.get f i &&& sget 0 s.cyc.hwSet (fldKey f i)

/-- Hardware clears a W1S bit, unless software set it on this cycle (R10). -/
def State.hwClear (s : State) (f : Fld) (i : Nat := 0) : State := if sget 0 s.cyc.swSet (fldKey f i) = 0 then s.put f 0 i else s

/-- A W1S bit as it stood before software set it on this cycle. -/
def State.wasFlag (s : State) (f : Fld) (i : Nat := 0) : Bool :=
  match sget 0 s.cyc.swSet (fldKey f i) with
  | 0 => s.get f i != 0
  | v + 1 => v != 0

/-- A world attribute as it stood at the start of the cycle (R92). -/
def State.atStart (s : State) (f : Fld) (i : Nat) : Nat :=
  match sget 0 s.cyc.world (fldKey f i) with
  | 0 => s.get f i
  | v + 1 => v

/-- A field that holds a single bit, as a truth value. -/
def State.flag (s : State) (f : Fld) (i : Nat := 0) : Bool := s.get f i != 0

/-- Count, saturating at the field's largest value (R37). -/
def State.inc (s : State) (f : Fld) (i : Nat := 0) (by_ : Nat := 1) : State :=
  s.set f (min (s.get f i + by_) (2 ^ f.width - 1)) i

/-- Return a field to its reset value. -/
def State.clr (s : State) (f : Fld) (i : Nat := 0) : State := s.set f (fldReset f i) i

/-- Set bits of a field. -/
def State.orf (s : State) (f : Fld) (m : Nat) (i : Nat := 0) : State :=
  { s.put f (s.get f i ||| m) i with cyc := s.cyc.note f (fldKey f i) (m % 2 ^ f.width) }

/-- The instances of a field that do not hold its reset value. -/
def State.listed (s : State) (f : Fld) : List Nat :=
  s.regs.filterMap fun p => if p.1 / 0x400000 = f.id then some (p.1 % 0x400000) else none

/-- The next free value, and the state that has used it. -/
def State.free (s : State) : Nat × State := ((Config.freeValue s.fresh).toNat, { s with fresh := s.fresh + 1 })

/-- Do something for each element of a list, left to right. -/
def forAll {α : Type} (l : List α) (s : State) (f : State → α → State) : State := l.foldl f s

/-- `if` on states. -/
def State.when (s : State) (c : Bool) (f : State → State) : State := if c then f s else s

/-- The RUN power state (Table PWR-1). -/
def inRun (s : State) : Bool := s.get R.PWR_STATE_STATE == 1

/-- The HOLD power state. -/
def inHold (s : State) : Bool := s.get R.PWR_STATE_STATE == 2

/-- RUN or HOLD. -/
def inRunHold (s : State) : Bool := inRun s || inHold s

/-- Do ticks elapse: the real-time PLL is locked, in holdover, or has left its lock window, after which mutes and parks still fall on
ticks (R97, R104, R116, R193)? -/
def ticking (s : State) : Bool := s.flag R.CLK_STATUS_PLL_LOCK || s.flag R.CLK_STATUS_PLL_UNLOCK

/-- Every main rail is in its good window (PWR_STATUS). -/
def railsGood (s : State) : Bool := s.get R.PWR_STATUS_RAILS_GOOD == 127

/-- Is every block powered and out of reset (Table PWR-1)? In CASTING from FIRMWARE on (Table BOOT-1). -/
def mainPowered (s : State) : Bool :=
  inRunHold s || (s.get R.PWR_STATE_STATE == 4 && railsGood s && decide (2 ≤ s.get R.BOOT_STATUS_STATE))

/-- Has Pointing switched the connector of line `n` to its internal termination (R423)? -/
def pntHasLine (s : State) (n : Nat) : Bool :=
  s.pnt.run.any fun p => decide (p.item ≤ 2) && p.insts.any fun i => i.n == n && i.act

/-! ### Firing events -/

/-- The class of an event source (Table EVF-1): real-time or service. -/
def rtSource (s : State) (src : Nat) : Bool :=
  if src < 512 then decide (src % 4 < 2)
  else if src < 768 then src % 4 == 0 || src % 4 == 3
  else if src < 896 then src % 2 == 0 && s.get R.CLP_CTRL_MODE ((src - 768) / 2) == 1
  else if src < 960 then decide (src % 4 < 3)
  else if src < 1024 then src % 2 == 0
  else src == 1483

/-- The consumer of a task input is powered (R345). -/
def consumerPowered (s : State) (t : Nat) : Bool :=
  mainPowered s || decide (512 ≤ t ∧ t < 544) || decide (768 ≤ t ∧ t < 904)

/-- One arrival at task input `t` (R342). A Caliper in MODE 1 takes real-time firings only, on tick T + 3; others are ignored and counted
(R271). -/
def arriveAt (rt : Bool) (s : State) (t : Nat) : State :=
  if t < 512 ∧ s.get R.CLP_CTRL_MODE (t / 8) = 1 then (if rt then s else s.inc R.CLP_EV_IGNORE_CNT_COUNT (t / 8))
  else if consumerPowered s t then { s with arrivals := sset [] s.arrivals t (sget [] s.arrivals t ++ [s.clock]) } else s

/-- The event-harvest latches of the points of channel `c` set; what they were before the first firing of this cycle is kept (R346). -/
def evhSet (s : State) (c : Nat) : State :=
  let ps := (s.points.filter fun p => p.2.any fun h => h.kind == 1 && h.chan == c).map (·.1)
  { s with
    evhLatch := ps.foldl (fun m p => sset false m p true) s.evhLatch
    cyc := { s.cyc with evh := ps.foldl (fun m p => if sget 0 m p = 0 then sput p (b2n (sget false s.evhLatch p) + 1) m else m) s.cyc.evh } }

/-- The consequences of an accepted firing: real-time consumers (R341), event-harvest latches (R346), task inputs (R342). -/
def acceptFiring (s : State) (c : Nat) (rt : Bool) : State :=
  let s := { s with chAny := sset 0 s.chAny c (s.clock + 1) }
  let s := if rt then { s with chRt := sset 0 s.chRt c (s.clock + 1), deliver := s.deliver ++ [⟨c, s.tick⟩], fired := s.fired ++ [⟨c, s.tick⟩] } else s
  let s := evhSet s c
  let direct := [c, c + 512].filter fun t => s.flag R.EVF_TASK_DIRECT_EN t
  let muxed := (s.listed R.EVF_TASK_MUX_EN).filter fun t => s.flag R.EVF_TASK_MUX_EN t && s.get R.EVF_TASK_MUX_CH t == c
  forAll (direct ++ muxed) s (arriveAt rt)

/-- A refused firing is counted and reaches no consumer (R340). -/
def refuseFiring (s : State) (c : Nat) : State :=
  ((s.set R.EVF_CHST_REFUSED 1 c).inc R.EVF_CHST_REFUSE_CNT c).set R.EVF_STATUS_REFUSED 1

/-- One firing of channel `c`, under the loop guard of R340, its intervals in 2.5 ns. The real-time firings of one tick are one firing (R337),
accepted or refused once. Service firings 3 or 4 steps of 2.5 ns after the last accepted one fall in or beside the band the manual leaves
open: a free value decides. -/
def guardFiring (s : State) (c : Nat) (rt : Bool) : State :=
  if rt then
    let l := sget 0 s.chRt c
    if l = s.clock + 1 then s
    else if l ≠ 0 ∧ s.clock + 1 ≤ l + 3 then
      if s.cyc.refused.contains c then s
      else refuseFiring { s with cyc := { s.cyc with refused := c :: s.cyc.refused } } c
    else acceptFiring s c true
  else
    let l := sget 0 s.chAny c
    if l = 0 ∨ l + 5 ≤ s.clock + 1 then acceptFiring s c false
    else if s.clock + 1 ≤ l + 2 then refuseFiring s c
    else
      let (v, s) := s.free
      if v % 2 = 0 then refuseFiring s c else acceptFiring s c false

/-- A source fires the channel it is bound to, if any (R337), without the notice of R347. -/
def fireBound (s : State) (src : Nat) : State :=
  if s.flag R.EVF_SRC_EN src then guardFiring s (s.get R.EVF_SRC_CH src) (rtSource s src) else s

/-- After an operation of the fabric: global event 13, EVF_NOTICE, when a bit of EVF_STATUS went from 0 to 1 (R347). -/
def evfNotice (before s : State) : State :=
  let up (f : Fld) : Bool := !before.flag f && s.flag f
  s.when (up R.EVF_STATUS_REFUSED || up R.EVF_STATUS_OVERRUN || up R.EVF_STATUS_OWNER_REFUSED) fun s => fireBound s 1485

/-- A source raises an event (R337, R340, R347). -/
def fire (s : State) (src : Nat) : State := evfNotice s (fireBound s src)

/-- A software fire of channel `c` (R338). -/
def fireChannel (s : State) (c : Nat) : State := evfNotice s (guardFiring s c false)

/-- Global event `g` of Table EVF-3. -/
def globalEvent (s : State) (g : Nat) : State := fire s (1472 + g)

/-! ### Result records and queues -/

/-- A result record under R244: six 36-bit words. -/
def mkRec (typ source chisel flags taint stamp shot w3 w4 w5 : Nat) : Rec :=
  { epoch := stamp / 2 ^ 40 % 2 ^ 24
    words := [typ % 16 * 2 ^ 32 + source % 1024 * 2 ^ 22 + chisel % 128 * 2 ^ 15 + flags % 128 * 2 ^ 8 + taint % 256,
      stamp % 2 ^ 36, stamp / 2 ^ 36 % 16 * 2 ^ 32 + shot % 2 ^ 32, w3 % 2 ^ 36, w4 % 2 ^ 36, w5 % 2 ^ 36] }

/-- Move waiting records into the open block while they share its epoch and it holds fewer than 82 (R377). -/
def fillOpen : List Rec → List Rec → List Rec × List Rec
  | [], o => ([], o)
  | r :: w, o =>
    if o.length < 82 ∧ (o.head?.map (·.epoch) = some r.epoch ∨ o = []) then fillOpen w (o ++ [r]) else (r :: w, o)

/-- Records enter the open block as they can, while the block buffer of 4 has room (R376 to R378). -/
def fillBlock (q : RQueue) (at_ : Nat) : RQueue :=
  if q.closed.length < 4 then
    let (w, o) := fillOpen q.waiting q.openBlk
    { q with waiting := w, openBlk := o, openedAt := if q.openBlk = [] then at_ else q.openedAt }
  else q

/-- Is result ring `q` without room: not enabled, or full (R378)? -/
def ringFull (s : State) (q : Nat) : Bool :=
  !s.flag R.HST_RES_SIZE_ENABLE q ||
  decide (2 ^ min (max (s.get R.HST_RES_SIZE_BLOCKS_LOG2 q) 4) 20 ≤ (s.get R.HST_RES_WR_INDEX q + 2 ^ 32 - s.get R.HST_RES_RD_INDEX q) % 2 ^ 32)

/-- Where a record stands among those of one die and one tick: demodulator records by SOURCE, then Patina records by input (R249). -/
def recOrder (r : Rec) : Nat :=
  let w := r.words.headD 0
  let source := w / 2 ^ 22 % 1024
  match w / 2 ^ 32 with
  | 1 => source + 1
  | 3 => 2000 + source
  | _ => 0

/-- A record goes before the records of its tick that stand after it in the order of R249; others keep the order in which they come. -/
def recInsert (r : Rec) : List Rec → List Rec
  | [] => [r]
  | x :: l => if recOrder r ≠ 0 ∧ recOrder r < recOrder x ∧ x.epoch = r.epoch then r :: x :: l else x :: recInsert r l

/-- A record takes its place behind the records of earlier ticks; `at_` and `cnt` tell how many of those not yet in a closed block came on
this tick. -/
def recPlace (q : RQueue) (tick : Nat) (r : Rec) : RQueue :=
  let cnt := if q.at_ = tick then min q.cnt (q.openBlk.length + q.waiting.length) else 0
  let all := q.openBlk ++ q.waiting
  let l := all.take (all.length - cnt) ++ recInsert r (all.drop (all.length - cnt))
  { q with openBlk := l.take q.openBlk.length, waiting := l.drop q.openBlk.length, at_ := tick, cnt := cnt + 1 }

/-- A record enters result queue `q`; a full queue drops it, counted (R24, R249, R376, R378). -/
def pushRec (s : State) (q : Nat) (r : Rec) : State :=
  let z := sget {} s.rq q
  if z.waiting.length < 2048 then
    { s with rq := sset {} s.rq q (fillBlock (recPlace z s.tick r) s.clock) }
  else
    let s : State := { s with rq := sset {} s.rq q { z with dropped := min (z.dropped + 1) 0xFFFFFFFF } }
    let s := s.when (ringFull s q) fun s => s.set R.HST_RES_STAT_FULL 1 q
    globalEvent (s.inc R.GLB_RESULT_DROP_CNT_COUNT) 12

/-! ### The boot log -/

/-- Append a boot log entry (R89, R90): a ring of 512 in hub SRAM. -/
def bootLog (s : State) (kind code slot data : Nat) : State :=
  let e := s.get R.BOOT_LOG_FILL_NEXT
  let s := s.set R.BOOT_LOG_W0_WORD (s.get R.BOOT_COUNT_COUNT) e
  let s := s.set R.BOOT_LOG_W1_WORD ((s.clock - s.bootT0) / 400) e
  let s := s.set R.BOOT_LOG_W2_WORD (kind % 256 + code % 256 * 256 + slot % 256 * 65536) e
  let s := s.set R.BOOT_LOG_W3_WORD data e
  let s := s.set R.BOOT_LOG_FILL_NEXT ((e + 1) % 512)
  let s := s.set R.BOOT_LOG_FILL_ENTRIES (min (s.get R.BOOT_LOG_FILL_ENTRIES + 1) 512)
  { s with bootUnwritten := min (s.bootUnwritten + 1) 512 }

end Sys2Proof.Machine
end

