-- ==== Sys2Proof/Machine/Flash.lean ====
section
/-! DEFINITION. Attached memory: slots, their headers and states, journaled writes, and the boot log slots
(03_casting_and_worlds.md R77 to R80, R89). -/

namespace Sys2Proof.Machine

/-- A byte of attached memory; an erased byte reads 0xFF. -/
def flashByte (s : State) (a : Nat) : Nat :=
  match sget 0 s.flash a with
  | 0 => 0xFF
  | v => v - 1

/-- `n` bytes at `o` of an accessor, little-endian. -/
def leOf (g : Nat → Nat) (o : Nat) : Nat → Nat
  | 0 => 0
  | n + 1 => g o % 256 + 256 * leOf g (o + 1) n

/-- `n` bytes at `o` of an accessor. -/
def bytesOf (g : Nat → Nat) (o n : Nat) : List Nat := (List.range n).map fun i => g (o + i) % 256

/-- The bytes of a number, little-endian. -/
def leBytes (n v : Nat) : List Nat := (List.range n).map fun i => v / 256 ^ i % 256

/-- The base of the slot with a SLOT code (Table BOOT-2). -/
def slotBase : Nat → Nat
  | 0 => 0
  | 1 => 0x20000000
  | 2 => 0x42000000
  | 3 => 0x42100000
  | 4 => 0x42200000
  | 5 => 0x42240000
  | 6 => 0x40000000
  | _ => 0x41000000

/-- Its size. -/
def slotSize (k : Nat) : Nat := if k < 2 then 0x20000000 else if k < 4 then 0x100000 else if k < 6 then 0x40000 else 0x1000000

/-- KIND of its header (Table BOOT-3). -/
def slotKind (k : Nat) : Nat := if k < 2 then 1 else if k < 4 then 3 else if k < 6 then 4 else 2

/-- A field of a slot header. -/
def slotField (s : State) (k off n : Nat) : Nat := leOf (flashByte s) (slotBase k + off) n

/-- SEQ of a slot. -/
def slotSeq (s : State) (k : Nat) : Nat := slotField s k 4 4

/-- LENGTH of a slot's content. -/
def slotLen (s : State) (k : Nat) : Nat := slotField s k 8 8

/-- A byte of the content of a slot. -/
def slotByte (s : State) (k i : Nat) : Nat := flashByte s (slotBase k + 0x1000 + i)

/-- The content of a slot passes its CRC; a LENGTH past the slot cannot. -/
def slotCrcOk (s : State) (k : Nat) : Bool :=
  decide (slotLen s k + 0x1000 ≤ slotSize k) && crc32c (bytesOf (slotByte s k) 0 (slotLen s k)) == slotField s k 0x10 4

/-- The state of a slot (R78), in the codes of BOOT_STATUS.SLOT_B: 0 EMPTY, 1 VALID, 2 INTERRUPTED, 3 CORRUPT. A BEGIN that is neither valid nor
erased is CORRUPT. -/
def slotState (s : State) (k : Nat) : Nat :=
  let b := slotField s k 0 4
  if b = 0xFFFFFFFF then 0
  else if b ≠ 0x4C4E524A then 3
  else if slotField s k 0x3C 4 ≠ 0x54494D43 then 2
  else if slotField s k 0x14 1 = slotKind k ∧ slotCrcOk s k then 1
  else 3

/-- The candidates of the pair whose A slot is `k`: its VALID slots, highest SEQ first, A before B (R78). -/
def slotCands (s : State) (k : Nat) : List Nat :=
  let v := [k, k + 1].filter fun j => slotState s j == 1
  if slotSeq s k < slotSeq s (k + 1) then v.reverse else v

/-- The slot that a journaled write to a pair takes (R79, step 1). -/
def slotTarget (s : State) (k : Nat) : Nat :=
  match k with
  | 0 =>
    if s.boot.hasRun then 1 - s.get R.BOOT_STATUS_ACTIVE_SLOT
    else if slotState s 0 ≠ 1 then 0
    else if slotState s 1 ≠ 1 then 1
    else ((slotCands s 0).getD 1 1)
  | _ => match slotCands s k with
    | [] => k
    | j :: _ => if j = k then k + 1 else k

/-- SEQ of the next write to a pair (R79, step 3). -/
def slotNext (s : State) (k : Nat) : Nat :=
  match slotCands s k with
  | [] => 1
  | j :: _ => slotSeq s j + 1

/-- Erase the 4 KiB sectors that `n` bytes at `a` need; `a` is the start of a sector. -/
def flashErase (s : State) (a n : Nat) : State :=
  let e := a + (n + 4095) / 4096 * 4096
  { s with flash := s.flash.filter fun p => decide (p.1 < a ∨ e ≤ p.1) }

/-- Program one byte. -/
def flashPut (s : State) (a v : Nat) : State := { s with flash := sset 0 s.flash a (if v % 256 = 0xFF then 0 else v % 256 + 1) }

/-- Program consecutive bytes. -/
def flashProgram (s : State) (a : Nat) (l : List Nat) : State := forAll l.zipIdx s fun s p => flashPut s (a + p.2) p.1

/-- Steps 2 to 4 of a journaled write: the slot is erased, its header programmed but for COMMIT, and its content. -/
def slotBegin (s : State) (k seq : Nat) (content : List Nat) : State :=
  let s := flashErase s (slotBase k) (0x1000 + content.length)
  let h := leBytes 4 0x4C4E524A ++ leBytes 4 seq ++ leBytes 8 content.length ++ leBytes 4 (crc32c content) ++ [slotKind k] ++ List.replicate 39 0
  flashProgram (flashProgram s (slotBase k) h) (slotBase k + 0x1000) content

/-- Step 6: COMMIT. -/
def slotCommit (s : State) (k : Nat) : State := flashProgram s (slotBase k + 0x3C) (leBytes 4 0x54494D43)

/-- The slot is marked CORRUPT (R88): its KIND is programmed to zero, which no slot has. -/
def slotSpoil (s : State) (k : Nat) : State := flashPut s (slotBase k + 0x14) 0

/-- Every diode sensor reads within 0 to 90 °C, as last evaluated (R80). -/
def flashCool (s : State) : Bool := s.pwr.cool

/-- The slots of a pair that the loader discards when it reads them, and their log entries (R78). -/
def slotDiscards (s : State) (k : Nat) : State :=
  forAll [k, k + 1] s fun s j =>
    if slotState s j = 2 then bootLog s 4 0 j (slotSeq s j) else if slotState s j = 3 then bootLog s 5 0 j (slotSeq s j) else s

/-! ### The boot log slots -/

/-- The ring of the boot log, oldest entry first. -/
def logBytes (s : State) : List Nat :=
  let n := s.get R.BOOT_LOG_FILL_ENTRIES
  (List.range n).flatMap fun k =>
    let e := (s.get R.BOOT_LOG_FILL_NEXT + 512 - n + k) % 512
    [R.BOOT_LOG_W0_WORD, R.BOOT_LOG_W1_WORD, R.BOOT_LOG_W2_WORD, R.BOOT_LOG_W3_WORD].flatMap fun f => leBytes 4 (s.get f e)

/-- The journaled write of the boot log (R89): refused outside the window of R80, or when SEQ is exhausted, it stays pending. -/
def logWrite (s : State) : State :=
  let seq := slotNext s 4
  if !flashCool s ∨ 0xFFFFFFFF ≤ seq then s.set R.BOOT_STATUS_LOG_PENDING 1
  else
    let k := slotTarget s 4
    let s := slotCommit (slotBegin s k seq (logBytes s)) k
    { s.set R.BOOT_STATUS_LOG_PENDING 0 with bootUnwritten := 0 }

/-- The boot log of the highest VALID log slot is read into its ring, and BOOT_COUNT restored from its newest entry (R78, R90, BOOT_COUNT). -/
def logRestore (s : State) : State :=
  match slotCands s 4 with
  | [] => s
  | j :: _ =>
    let n := min (slotLen s j / 16) 512
    let s := forAll (List.range n) s fun s e =>
      let w (i : Nat) : Nat := leOf (slotByte s j) (16 * e + 4 * i) 4
      (((s.set R.BOOT_LOG_W0_WORD (w 0) e).set R.BOOT_LOG_W1_WORD (w 1) e).set R.BOOT_LOG_W2_WORD (w 2) e).set R.BOOT_LOG_W3_WORD (w 3) e
    let s := s.when (n != 0) fun s => s.set R.BOOT_COUNT_COUNT (s.get R.BOOT_LOG_W0_WORD (n - 1))
    (s.set R.BOOT_LOG_FILL_ENTRIES n).set R.BOOT_LOG_FILL_NEXT (n % 512)

end Sys2Proof.Machine
end

