-- ==== Sys2Proof/Machine/Flags.lean ====
section
/-! DEFINITION. Taint bits and their first capture (01_two_planes.md, R31 to R37, R481), shot taint, and the contract checks'
log (02_armature_contract.md, R64, R65, R67). -/

namespace Sys2Proof.Machine

/-- The taint bits of Table GLB-10. -/
def tUNDERRUN : Nat := 0
def tLATE : Nat := 1
def tLANE : Nat := 2
def tOVR : Nat := 3
def tGOV : Nat := 4
def tCONTRACT : Nat := 5
def tUNCONV : Nat := 6
def tCLOCK : Nat := 7

/-- A taint of one bit with its cause: BLOCK and INSTANCE of Table GLB-39. -/
def taintOf (b blk inst : Nat) : Taint := [(b, blk * 4096 + inst)]

/-- The eight taint bits of a taint, as they stand in records and registers. -/
def taintMask (t : Taint) : Nat := t.foldl (fun m p => m ||| 2 ^ p.1) 0

/-- The OR of two taints; of two causes of one bit the lower code stays (R481). -/
def taintOr (a b : Taint) : Taint :=
  b.foldl (fun m p => match m.find? (fun q => q.1 == p.1) with
    | some q => sput p.1 (min q.2 p.2) m
    | none => sput p.1 p.2 m) a

/-- A taint bit is set in some item of the module: GLB_TAINT_STICKY, the global event TAINT_RAISED, and the first-taint
capture with the order of several causes on one tick (R37, R481). -/
def noteTaintBit (s : State) (p : Nat × Nat) : State :=
  let old := s.get R.GLB_TAINT_STICKY_TAINT
  if bit old p.1 then
    -- a cause of the same bit on the capturing tick may name a lower code
    if s.flag R.GLB_TAINT_FIRST_SRC_VALID ∧ s.taintTick = s.tick ∧ s.get R.GLB_TAINT_FIRST_SRC_BIT = p.1 ∧
        p.2 < s.get R.GLB_TAINT_FIRST_SRC_BLOCK * 4096 + s.get R.GLB_TAINT_FIRST_SRC_INSTANCE then
      (s.set R.GLB_TAINT_FIRST_SRC_BLOCK (p.2 / 4096)).set R.GLB_TAINT_FIRST_SRC_INSTANCE p.2
    else s
  else
    let s1 := s.orf R.GLB_TAINT_STICKY_TAINT (2 ^ p.1)
    let capture := !s.flag R.GLB_TAINT_FIRST_SRC_VALID ||
      (decide (s.taintTick = s.tick) && decide (p.1 < s.get R.GLB_TAINT_FIRST_SRC_BIT))
    let s2 := s1.when capture fun s =>
      let s := (s.set R.GLB_TAINT_FIRST_LO_TICK_LO s.now).set R.GLB_TAINT_FIRST_HI_TICK_HI (s.now / 2 ^ 32)
      let s := (s.set R.GLB_TAINT_FIRST_SRC_VALID 1).set R.GLB_TAINT_FIRST_SRC_BIT p.1
      let s := (s.set R.GLB_TAINT_FIRST_SRC_BLOCK (p.2 / 4096)).set R.GLB_TAINT_FIRST_SRC_INSTANCE p.2
      { s with taintTick := s.tick }
    globalEvent s2 0

/-- Every bit of a taint is noted. -/
def noteTaint (s : State) (t : Taint) : State := forAll t s noteTaintBit

/-- The shot taint of an engine: Chisel n is engine n, Caliper n engine 128 + n (R32). -/
def shotTaint (s : State) (eng : Nat) : Taint := sget [] s.shotT eng

/-- Write an engine's shot taint, and the SHOT_TAINT field that shows it. -/
def setShotTaint (s : State) (eng : Nat) (t : Taint) : State :=
  let s := { s with shotT := sset [] s.shotT eng t }
  if eng < 128 then s.set R.CHS_STATUS_SHOT_TAINT (taintMask t) eng else s.set R.CLP_STATUS_SHOT_TAINT (taintMask t) (eng - 128)

/-- A taint enters an engine's shot taint; the bits that were not in it are noted on this tick (R32, R481). -/
def addShotTaint (s : State) (eng : Nat) (t : Taint) : State :=
  let old := shotTaint s eng
  noteTaint (setShotTaint s eng (taintOr old t)) (t.filter fun p => !bit (taintMask old) p.1)

/-- The alarms of Table CLK-3 are active now (R116, R118). -/
def alarmActive (s : State) : Bool :=
  s.flag R.CLK_STATUS_REF_LOSS || s.flag R.CLK_STATUS_REF_RANGE || s.flag R.CLK_STATUS_PLL_UNLOCK ||
  s.flag R.CLK_STATUS_SYNC_MISSING || s.flag R.CLK_STATUS_SYNC_SLIP

/-- CLOCK for an item produced over the ticks from local tick `a` to now (Table GLB-10, R118). An alarm counts for the ticks from its detection
up to, not including, its clearing tick (R116). -/
def clockTaint (s : State) (a : Nat) : Taint :=
  if alarmActive s || decide (s.alarmLast ≠ 0 ∧ a < s.alarmLast) then taintOf tCLOCK 9 0 else []

/-- CLOCK when an alarm was active on tick `e`, this tick or an earlier one (R328). -/
def clockTaintAt (s : State) (e : Nat) : Taint :=
  if (if s.tick ≤ e then alarmActive s else s.clk.alarms.contains e) then taintOf tCLOCK 9 0 else []

/-! ### The contract log -/

/-- The log entries held: tick, code, BLOCK, INSTANCE, PC. -/
def contractEntries (s : State) : List (Nat × Nat × Nat × Nat × Nat) :=
  (List.range (s.get R.GLB_CONTRACT_FILL_ENTRIES)).map fun k =>
    (s.get R.GLB_CONTRACT_LOG_TLO_TICK_LO k + s.get R.GLB_CONTRACT_LOG_THI_TICK_HI k * 2 ^ 32,
     s.get R.GLB_CONTRACT_LOG_SRC_CODE k, s.get R.GLB_CONTRACT_LOG_SRC_BLOCK k, s.get R.GLB_CONTRACT_LOG_SRC_INSTANCE k,
     s.get R.GLB_CONTRACT_LOG_PC_PC k)

/-- Does entry `a` stand before `b`? Entries of one tick are ordered by code, BLOCK, INSTANCE (R67). -/
def contractBefore (a b : Nat × Nat × Nat × Nat × Nat) : Bool :=
  a.1 == b.1 && (decide (a.2.1 < b.2.1) || (a.2.1 == b.2.1 &&
    (decide (a.2.2.1 < b.2.2.1) || (a.2.2.1 == b.2.2.1 && decide (a.2.2.2.1 < b.2.2.2.1)))))

/-- Insert an entry behind those of earlier ticks and in its order among those of its own tick. -/
def contractInsert (e : Nat × Nat × Nat × Nat × Nat) : List (Nat × Nat × Nat × Nat × Nat) → List (Nat × Nat × Nat × Nat × Nat)
  | [] => [e]
  | x :: l => if contractBefore e x then e :: x :: l else x :: contractInsert e l

/-- Write entry `k` of the contract log. -/
def contractWrite (s : State) (p : (Nat × Nat × Nat × Nat × Nat) × Nat) : State :=
  let (e, k) := p
  let s := (s.set R.GLB_CONTRACT_LOG_TLO_TICK_LO e.1 k).set R.GLB_CONTRACT_LOG_THI_TICK_HI (e.1 / 2 ^ 32) k
  let s := (s.set R.GLB_CONTRACT_LOG_SRC_VALID 1 k).set R.GLB_CONTRACT_LOG_SRC_CODE e.2.1 k
  let s := (s.set R.GLB_CONTRACT_LOG_SRC_BLOCK e.2.2.1 k).set R.GLB_CONTRACT_LOG_SRC_INSTANCE e.2.2.2.1 k
  s.set R.GLB_CONTRACT_LOG_PC_PC e.2.2.2.2 k

/-- Enter a violation into the log: the first 16 are held, and every one is counted (R65, R67). -/
def contractLog (s : State) (code blk inst pc : Nat) : State :=
  let es := (contractInsert (s.now, code, blk, inst, pc % 0x10000) (contractEntries s)).take 16
  let s := forAll es.zipIdx s contractWrite
  (s.set R.GLB_CONTRACT_FILL_ENTRIES es.length).inc R.GLB_CONTRACT_CNT_COUNT

/-- A Chisel's failed checks on issue (R64, R65): every failing code in STICKY, one log entry with the lowest, CONTRACT in the
shot taint, Chisel local source 3. -/
def chiselViolation (s : State) (n : Nat) (codes : List Nat) (pc : Nat) : State :=
  match lowestOf codes with
  | none => s
  | some c =>
    let s := s.orf R.GLB_CONTRACT_STICKY_CHS_CODES (codes.foldl (fun m k => m ||| 2 ^ (k - 1)) 0)
    let s := contractLog s c 1 n pc
    fire (addShotTaint s n (taintOf tCONTRACT 1 n)) (4 * n + 3)

/-- A Caliper's failed checks, codes 0x10 to 0x17 (R64, R280). -/
def caliperViolation (s : State) (n : Nat) (codes : List Nat) (pc : Nat) : State :=
  match lowestOf codes with
  | none => s
  | some c =>
    let s := s.orf R.GLB_CONTRACT_STICKY_CLP_CODES (codes.foldl (fun m k => m ||| 2 ^ (k - 16)) 0)
    let s := contractLog s c 2 n pc
    fire (addShotTaint s (128 + n) (taintOf tCONTRACT 2 n)) (768 + 2 * n + 1)

end Sys2Proof.Machine
end

