-- ==== Sys2Proof/Machine/Harvest.lean ====
section
/-! DEFINITION. Harvested value queues: entries becoming visible, harvest points, discards, flushes
(01_two_planes.md R18 to R23, R482; 02_armature_contract.md R49 to R52). -/

namespace Sys2Proof.Machine

/-- The tag of the point at position `p` of queue `q` in the present shot: wrap(s × N_q + p, 16) (R50). -/
def harvestTag (s : State) (q p : Nat) : Nat := (s.get R.CLK_SHOT_COUNT * sget 0 s.nq q + p) % 65536

/-- Count `k` discarded entries (R20). -/
def countDiscards (s : State) (k : Nat) : State := s.inc R.GLB_HARVEST_DISCARD_CNT_COUNT 0 k

/-- The next harvest point of queue `q` moves to the one with tag `t`; held entries now behind it are discarded (R20). -/
def harvestMove (s : State) (q t : Nat) : State :=
  let l := sget [] s.harvest q
  let keep := l.filter fun e => !serialBefore 16 e.tag t
  countDiscards { s with harvest := sset [] s.harvest q keep, hNext := sset 0 s.hNext q t } (l.length - keep.length)

/-- An entry becomes visible on queue `q` on this tick: discarded when the queue declares no point or its tag is early, dropped
when 64 entries are held, else held (R20, R482). A tag more than 16,384 ahead may go either way (R52): a free value decides. -/
def harvestVisible (s : State) (q tag value : Nat) : State :=
  let l := sget [] s.harvest q
  let next := sget 0 s.hNext q
  let ahead := (tag + 65536 - next % 65536) % 65536
  let hold (s : State) : State := { s with harvest := sset [] s.harvest q (l ++ [⟨tag, value, s.tick⟩]) }
  if sget 0 s.nq q = 0 then countDiscards s 1
  else if 64 ≤ l.length then s.inc R.GLB_HARVEST_FULL_CNT_COUNT
  else if 16384 < ahead ∧ ahead ≤ 32768 then
    let (v, s) := s.free
    if v % 2 = 0 then countDiscards s 1 else hold s
  else if serialBefore 16 tag next then countDiscards s 1
  else hold s

/-- Queue `q`, the engine it serves and the cause of a substitution on it (R49, Table GLB-39). -/
def harvestEngine (q : Nat) : Nat × Taint := (q, if q < 128 then taintOf tLATE 1 q else taintOf tLATE 2 (q - 128))

/-- HARVEST of a declared point in order, on this tick: the value used, and the state after it (R19, R20, R21, R23). A missing
entry gives the default and LATE; an entry with less slack than declared is counted; the next point moves past this one. -/
def harvestTake (s : State) (p : HPoint) : Nat × State :=
  let q := p.queue
  let tag := harvestTag s q p.pos
  let l := sget [] s.harvest q
  let s := { s with hLast := sset 0 s.hLast q (p.pos + 1) }
  match l.find? (fun e => e.tag == tag) with
  | some e =>
    let s := { s with harvest := sset [] s.harvest q (l.eraseP fun x => x.tag == tag) }
    let s := s.when (decide (s.tick - e.vis < p.slack)) fun s => s.inc R.GLB_HARVEST_THIN_CNT_COUNT
    (if p.kind = 1 then e.value % 2 else e.value, harvestMove s q ((tag + 1) % 65536))
  | none =>
    let s := s.inc R.GLB_HARVEST_LATE_CNT_COUNT
    let s := addShotTaint s (harvestEngine q).1 (harvestEngine q).2
    (if p.kind = 1 then 0 else p.dflt, harvestMove s q ((tag + 1) % 65536))

/-- Is the point out of order on its queue in this shot (check 5, check 0x14; R51)? -/
def harvestOutOfOrder (s : State) (p : HPoint) : Bool := decide (p.pos + 1 ≤ sget 0 s.hLast p.queue)

/-- On a shot start every queue's next point is position 0 of the new shot (R20). `q` runs over the declared queues. -/
def harvestShotStart (s : State) : State :=
  forAll (s.nq.map (·.1)) { s with hLast := [] } fun s q => harvestMove s q (harvestTag s q 0)

/-- Every queue is emptied, uncounted (R22), and the tags start again from shot 0 (R50). -/
def harvestFlush (s : State) : State := { s with harvest := [], hNext := [], hLast := [] }

/-- QUEUE_ENTRY_VISIBLE: the entry a producer wrote 2 to 3 ticks ago becomes visible on this tick (R18). -/
def execQueueEntryVisible (q : Fin 192) (tag : BitVec 16) (value : Word36) (s : State) : Host.Outcome State Fault Refusal :=
  .next (harvestVisible s q.val tag.toNat value.toNat)

end Sys2Proof.Machine
end

