-- ==== Sys2Proof/Machine/Access.lean ====
section
/-! DEFINITION. Accesses to W0: finding the register, worlds (03_casting_and_worlds.md R91 to R95), widths (00_scope.md R5, R7),
RT-locked fields (01_two_planes.md R26), access codes (R8, R9), and the access-error log (14_service_plane_and_host.md R385). -/

namespace Sys2Proof.Machine

/-- MASTER codes of Table SEC-1. -/
def masterCode : Master → Nat
  | .loader => 0
  | .s0 => 1
  | .s1 => 2
  | .pointing => 3
  | .core k => 0x10 + k.val
  | .host => 0x20
  | .dataPath => 0x30

/-- The secure masters of Table SEC-1. -/
def masterSecure : Master → Bool
  | .loader | .s0 | .s1 | .pointing => true
  | _ => false

/-- The indexes an offset has in nested (count, stride) dimensions, and what is left over. -/
def dimIndex : List (Nat × Nat) → Nat → Option (List Nat × Nat)
  | [], r => some ([], r)
  | (c, st) :: ds, r =>
    if r / st < c then (dimIndex ds (r % st)).map fun p => (r / st :: p.1, p.2) else none

/-- The instance number of a list of indexes, the first outermost. -/
def flatIndex : List (Nat × Nat) → List Nat → Nat → Nat
  | (c, _) :: ds, i :: is, acc => flatIndex ds is (acc * c + i)
  | _, _, acc => acc

/-- The register of heading `r` that holds W0 offset `off`: its indexes and the byte within it. -/
def regHolds (r : Reg) (off : Nat) : Option (List Nat × Nat) :=
  if off < r.base then none
  else match dimIndex r.dims (off - r.base) with
    | some (is, b) => if b < (if r.wide then 8 else 4) then some (is, b) else none
    | none => none

/-- Find the register that holds an offset (R478). -/
def regAt (off : Nat) : List Reg → Option (Reg × List Nat × Nat)
  | [] => none
  | r :: rs => match regHolds r off with
    | some (is, b) => some (r, is, b)
    | none => regAt off rs

/-- The world index of the block instance a source belongs to (Table EVF-1, Table SEC-2); global and TDC sources have none. -/
def sourceWorld (src : Nat) : Option Nat :=
  if src < 512 then some (src / 4)
  else if src < 768 then some (384 + (src - 512) / 4)
  else if src < 896 then some (448 + (src - 768) / 2)
  else if src < 960 then some (512 + (src - 896) / 4)
  else if src < 1024 then some (528 + (src - 960) / 2)
  else if src < 1056 then none
  else if src < 1152 then some (624 + (src - 1056) / 4)
  else if src < 1216 then some (648 + (src - 1152) / 2)
  else if src < 1472 then some (128 + (src - 1216))
  else none

/-- Is block instance `i` secure (R93), as its attribute stood at the start of the cycle (R92)? -/
def instSecure (s : State) (i : Nat) : Bool := s.atStart R.SEC_WORLD_SECURE i != 0

/-- Is event channel `c` secure (R339), as its world stood at the start of the cycle (R92)? -/
def channelSecure (s : State) (c : Nat) : Bool := s.atStart R.EVF_CH_SECURE c != 0

/-- Is the consumer of task input `t` secure (Table EVF-2)? -/
def consumerSecure (s : State) (t : Nat) : Bool :=
  if t < 512 then instSecure s (448 + t / 8)
  else if t < 576 then true
  else if t < 896 then false
  else if t < 904 then instSecure s 746
  else false

/-- The world index captured for a violation at a register; 0 where it has none. -/
def worldIndex (w : WorldCls) (is : List Nat) : Nat :=
  match w with
  | .attr b m => b + m * is.headD 0
  | .lockPage => 680 + (is.drop 1).headD 0
  | .source => (sourceWorld (is.headD 0)).getD 0
  | .consumer => if is.headD 0 < 512 then 448 + is.headD 0 / 8 else if 896 ≤ is.headD 0 ∧ is.headD 0 < 904 then 746 else 0
  | _ => 0

/-- Does a register's world forbid a non-secure master the access (R91, R93, R94, RS of Table GLB-2)? -/
def worldForbids (s : State) (r : Reg) (is : List Nat) (write : Bool) : Bool :=
  match r.world with
  | .both => write && r.flds.any (fun f => f.acc == .rs)
  | .secure => true
  | .secureW => write
  | .nonsec | .priv | .named => false
  | .attr b m => instSecure s (b + m * is.headD 0) || (write && r.flds.any fun f => f.acc == .rs)
  | .lockPage => instSecure s (680 + (is.drop 1).headD 0)
  | .source => match sourceWorld (is.headD 0) with
    | some i => instSecure s i
    | none => false
  | .channel => channelSecure s (is.headD 0)
  | .consumer => consumerSecure s (is.headD 0)

/-- A world violation: counted, the first captured, global event WORLD_VIOLATION (R91). Of two on one cycle the lower MASTER code is
captured (R92). -/
def worldViolation (s : State) (m : Master) (write : Bool) (kind inst addr : Nat) : State :=
  let s1 := s.inc R.SEC_VIOL_CNT_COUNT
  let s2 := s1.when (!s.flag R.SEC_VIOL_SRC_VALID || s.cyc.viol.any fun c => decide (masterCode m < c)) fun s =>
    let s := { s with cyc := { s.cyc with viol := some (masterCode m) } }
    let s := (s.set R.SEC_VIOL_SRC_VALID 1).set R.SEC_VIOL_SRC_WRITE (b2n write)
    let s := (s.set R.SEC_VIOL_SRC_INSTANCE inst).set R.SEC_VIOL_SRC_MASTER (masterCode m)
    let s := s.set R.SEC_VIOL_SRC_KIND kind
    (s.set R.SEC_VIOL_ADDR_LO_ADDR addr).set R.SEC_VIOL_ADDR_HI_ADDR (addr / 2 ^ 32)
  globalEvent s2 1

/-- The access-error log (R385, Table HST-5). -/
def accessError (s : State) (m : Master) (write : Bool) (kind addr : Nat) : State :=
  let s1 := s.inc R.HST_AERR_CNT_COUNT
  s1.when (!s.flag R.HST_AERR_SRC_VALID) fun s =>
    let s := (s.set R.HST_AERR_SRC_VALID 1).set R.HST_AERR_SRC_WRITE (b2n write)
    let s := (s.set R.HST_AERR_SRC_MASTER (masterCode m)).set R.HST_AERR_SRC_KIND kind
    s.set R.HST_AERR_ADDR_ADDR addr

/-- What the checks of an access decide (R479: a forbidden access is a world violation only). -/
inductive Verdict where
  | pass
  | deny (s : State)
  deriving DecidableEq, Repr

/-- The world and width checks of an access to a register found at byte `b` of heading `r` (R5, R7, R91, R479). Private
registers answer zero and drop writes to every master but their core. A read of one aligned half of a data slot is right. -/
def accessCheck (s : State) (m : Master) (r : Reg) (is : List Nat) (b width off : Nat) (write : Bool) : Verdict :=
  if !masterSecure m && worldForbids s r is write then .deny (worldViolation s m write 0 (worldIndex r.world is) off)
  else if r.world = .priv ∧ masterCode m ≠ (match is.headD 0 with | 0 => 1 | 1 => 2 | k => 0x10 + (k - 2)) then .deny s
  else if r.wide then
    if b = 0 ∧ width = 64 then .pass
    else if !write ∧ width = 32 ∧ b % 4 = 0 then .pass
    else .deny (accessError s m write 2 off)
  else if b = 0 ∧ width = 32 then .pass
  else .deny (accessError s m write 3 off)

/-- Is the field RT-locked in this instance? Bindings of service sources are not; every field of the task inputs of Calipers is
(13_event_fabric_and_mailboxes.md, EVF registers). -/
def fieldLocked (s : State) (f : Fld) (i : Nat) : Bool :=
  if f.id = R.EVF_SRC_EN.id ∨ f.id = R.EVF_SRC_CH.id then rtSource s i
  else if f.id = R.EVF_TASK_DIRECT_EN.id ∨ f.id = R.EVF_TASK_MUX_EN.id ∨ f.id = R.EVF_TASK_WAKE.id ∨ f.id = R.EVF_TASK_MUX_CH.id then decide (i < 512)
  else if f.id = R.CLP_EVT_EMASK.id then s.get R.CLP_CTRL_MODE i == 1
  else if f.id = R.CLP_MEM_DATA_DATA.id then s.get R.CLP_MEM_CTRL_SEL i == 0 || s.get R.CLP_CTRL_MODE i == 1
  else f.lock

/-- Does R26 hold this master off RT-locked fields now? The casting loader and Pointing's own path are not held off. -/
def rtHeld (s : State) (m : Master) : Bool :=
  inRun s && (match m with | .loader | .pointing => false | _ => true)

/-- The bits of a written value that are field `f`. -/
def fldBits (f : Fld) (v : Nat) : Nat := v / 2 ^ f.lo % 2 ^ f.width

/-- Word 0 of a segment-table entry, which shows INDEX and the Chisel number and ignores writes (SEG_ENT). -/
def segPlace (f : Fld) (i : Nat) : Bool := f.id == R.SEG_ENT_BYTES.id && i % 8 == 0

/-- Would a write have acted on this field (R26)? -/
def wouldAct (s : State) (f : Fld) (i v : Nat) : Bool :=
  if segPlace f i then false else match f.acc with
  | .rw | .rs => fldBits f v != s.get f i
  | .wo | .w1s => fldBits f v != 0
  | _ => false

/-- The fields that give a world: block instances, event channels, region descriptors (R92). -/
def worldField (f : Fld) : Bool :=
  decide (R.SEC_WORLD_SECURE.id ≤ f.id ∧ f.id ≤ R.SEC_HBM_LIM_LIMIT.id) || f.id == R.EVF_CH_SECURE.id

/-- The value of a world attribute at the start of the cycle is kept when it is written (R92). -/
def noteWorld (s : State) (f : Fld) (i : Nat) : State :=
  if worldField f && sget 0 s.cyc.world (fldKey f i) == 0 then
    { s with cyc := { s.cyc with world := sput (fldKey f i) (s.get f i + 1) s.cyc.world } }
  else s

/-- A write acts on one field by its access code (Table GLB-2); a W1C bit that hardware set on this cycle stays set (R10). A written 0 that the field's meaning takes as 1 is stored so,
and bits [1:0] of GLB_SCHED_START_LO are stored as zero. -/
def fieldWrite (s : State) (f : Fld) (i v : Nat) : State :=
  let x := fldBits f v
  if segPlace f i then s else match f.acc with
  | .ro | .wo => s
  | .rw | .rs =>
    let x := if (f.id = R.CLK_SYNC_CTRL_PERIOD.id ∨ f.id = R.GOV_GLIDE_MAX_GMAX.id) ∧ x = 0 then 1 else x
    let x := if f.id = R.GLB_SCHED_START_LO_TIME_LO.id then x - x % 4 else x
    (noteWorld s f i).put f x i
  | .w1c => s.put f ((s.get f i &&& (2 ^ f.width - 1 - x)) ||| s.heldBits f i) i
  | .w1s =>
    if x = 0 then s
    else { s.put f (s.get f i ||| x) i with
           cyc := { s.cyc with swSet := if sget 0 s.cyc.swSet (fldKey f i) = 0 then sput (fldKey f i) (s.get f i + 1) s.cyc.swSet else s.cyc.swSet } }

/-- The value with the bits of the fields held by R26 taken out: what the side effects of the write see. -/
def heldOut (s : State) (m : Master) (r : Reg) (i v : Nat) : Nat :=
  r.flds.foldl (fun v f => if rtHeld s m && fieldLocked s f i then v - fldBits f v * 2 ^ f.lo else v) v

/-- The write proper: RT-locked fields keep their values in RUN and the write is logged if it would have acted on one; every
other field acts (R26). Any write returns a counter to its reset value (R37; STM_MIN_SLACK to 0xFFFF). A locked data slot is dropped whole. -/
def regStore (s : State) (m : Master) (r : Reg) (i off v : Nat) : State :=
  let held := r.flds.filter fun f => rtHeld s m && fieldLocked s f i
  let s := s.when (held.any fun f => r.wide || wouldAct s f i v) fun s => accessError s m true 1 off
  if r.counter then forAll r.flds s fun s f => s.clr f i
  else forAll (r.flds.filter fun f => !(rtHeld s m && fieldLocked s f i)) s fun s f => fieldWrite s f i v

/-- What a field shows. -/
def fldShow (s : State) (f : Fld) (i : Nat) : Nat := if segPlace f i then i / 8 % 1024 * 65536 + i / 8192 else s.get f i

/-- The present value of a register: its fields in their places; WO fields read 0 (R8, R9). -/
def regValue (s : State) (r : Reg) (i : Nat) : Nat :=
  r.flds.foldl (fun v f => if f.acc = .wo then v else v + fldShow s f i * 2 ^ f.lo) 0

/-- The half of a data slot a read returns (R7). -/
def readPart (v b width : Nat) : Nat := if width = 64 then v else v / 2 ^ (8 * b) % 2 ^ 32

end Sys2Proof.Machine
end

