-- ==== Sys2Proof/Machine/Clock.lean ====
section
/-! DEFINITION. Time base, SYNC, skew calibration, clock alarms (04_time_base_and_sync.md). -/

namespace Sys2Proof.Machine

/-- P = CLK_SYNC_CTRL.PERIOD × 4,000 ticks (R106); a PERIOD of 0 is taken as 1. -/
def syncPeriod (s : State) : Nat := max (s.get R.CLK_SYNC_CTRL_PERIOD) 1 * 4000

/-- The sticky copy of alarm `k`, and CLOCK_ALARM on its 0 to 1 transition (R347). -/
def stickyAlarm (s : State) (k : Nat) : State :=
  if bit (s.get R.CLK_ALARM_ALARMS) k then s else globalEvent (s.orf R.CLK_ALARM_ALARMS (2 ^ k)) 6

/-- CLK_STATUS [4:0], the alarm that is active (Table CLK-3). -/
def alarmFld (k : Nat) : Fld :=
  match k with
  | 0 => R.CLK_STATUS_REF_LOSS
  | 1 => R.CLK_STATUS_REF_RANGE
  | 2 => R.CLK_STATUS_PLL_UNLOCK
  | 3 => R.CLK_STATUS_SYNC_MISSING
  | _ => R.CLK_STATUS_SYNC_SLIP

/-- Alarm `k` becomes active on this tick (R116). -/
def raiseAlarm (s : State) (k : Nat) : State :=
  if s.flag (alarmFld k) then s else stickyAlarm (s.set (alarmFld k) 1) k

/-- Set a bit of CLK_ALARM [10:5]; CLOCK_NOTICE on its 0 to 1 transition (R347). -/
def clockNotice (s : State) (f : Fld) : State := if s.flag f then s else globalEvent (s.set f 1) 7

/-- Schedule time no longer agrees with the last load (R111, R116, R117). -/
def loseTime (s : State) : State := (clockNotice s R.CLK_ALARM_TIME_LOST).set R.CLK_STATUS_TIME_VALID 0

/-- The real-time PLL is off: the CLK registers take their reset values and schedule time is not kept (R104). CLK_SYNC_PATH and
CLK_SYNC_OUT_DLY are per-module values and return to them. -/
def clockReset (s : State) : State :=
  { s with regs := s.regs.filter fun p => decide (p.1 / 0x400000 < R.CLK_STATUS_RELOCK_BUSY.id ∨ R.CLK_REF_COUNT_COUNT.id < p.1 / 0x400000)
           syncErrs := [], slipRun := 0, lastGoodL := 0, skew := {}, phaseNow := 0, armVis := 0, now := 0, epochDue := false, clk := {} }

/-- PLL_LOCK: the PLL locks to REF_IN and schedule time counts from zero (R97, R104). The PLL is off in RESET and STANDBY, and
after PLL_UNLOCK it locks again only by a relock (R116). -/
def execPllLock (s : State) : Host.Outcome State Fault Refusal :=
  .next (if s.flag R.CLK_STATUS_PLL_LOCK || s.flag R.CLK_STATUS_PLL_UNLOCK || s.get R.BOOT_STATUS_STATE == 0 || s.get R.BOOT_STATUS_STATE == 10 then s
    else { s.set R.CLK_STATUS_PLL_LOCK 1 with now := 0, syncErrs := [] })

/-- XTAL_FAIL: the service plane stops and ALERT_N goes low; the real-time plane continues (R98, R16). -/
def execXtalFail (s : State) : Host.Outcome State Fault Refusal := .next { s with xtalFail := true }

/-- The PLL enters holdover (Table CLK-3); an unlocked PLL has no frequency to hold. -/
def enterHoldover (s : State) : State := s.when (s.flag R.CLK_STATUS_PLL_LOCK) fun s => s.set R.CLK_STATUS_HOLDOVER 1

/-- REF_LOSS: no REF_IN edge for 40 ns (R116). -/
def execRefLoss (s : State) : Host.Outcome State Fault Refusal := .next (enterHoldover (raiseAlarm s 0))

/-- REF_GATE: a gate of 1,048,576 service-clock cycles counted `count` cycles of REF_IN (R116, Table CLK-3). -/
def execRefGate (count : BitVec 17) (s : State) : Host.Outcome State Fault Refusal :=
  let s := s.set R.CLK_REF_COUNT_COUNT count.toNat
  .next (if count.toNat < 87381 - 13 ∨ 87381 + 13 < count.toNat then enterHoldover (raiseAlarm s 1) else s)

/-- EPOCH: schedule time bits [39:0] became zero by counting (R102). -/
def execEpoch (s : State) : Host.Outcome State Fault Refusal :=
  .next (if s.epochDue then globalEvent { s with epochDue := false } 3 else s)

/-! ### The SYNC pulse -/

/-- The position table of a nominal interpolator: what R329 computes from 2,048 hits in every bin. -/
def nominalPos (b : Nat) : Nat := (narrow (4096 * b + 2048) 12 11).1.toNat

/-- pos[b] of interpolator `i` (R329). -/
def tdcPosAt (s : State) (i b : Nat) : Nat :=
  match sget 0 s.tdcPos (i * 512 + b) with
  | 0 => nominalPos b
  | p + 1 => p

/-- The interpolator is switched to its oscillator (R329, R330). -/
def calibrating (s : State) (i : Nat) : Bool := s.tdcCal.1 == i + 1

/-- The edge position the SYNC interpolator gives for an edge that a nominal table places at `fine` taps: its bin, mapped through the
calibrated table of interpolator 32, whose positions count as 4 taps per unit (R107, R330). -/
def syncFine (s : State) (fine : Nat) : Nat :=
  min (fine + 4 * tdcPosAt s 32 (fine / 4) - 4 * nominalPos (fine / 4)) 2047

/-- The residual and the logical tick of a pulse, the listing sync_tick of R107. -/
def syncTick (s : State) (c : Int) (fine : Nat) : Int × Int :=
  let a := c * 2048 + fine - s.get R.CLK_SYNC_PATH_TAPS
  let x := a - s.get R.CLK_SYNC_COMP_TAPS
  let l := (x + 1024) / 2048
  (l, x - 2048 * l)

/-- The kinds of Table CLK-2. -/
inductive SyncKind where
  | malformed | plain | marked
  deriving DecidableEq, Repr

/-- Table CLK-2. -/
def syncKind (width : Nat) : SyncKind :=
  if 2 ≤ width ∧ width ≤ 6 then .plain else if 12 ≤ width ∧ width ≤ 20 then .marked else .malformed

/-- Sixteen times the mean of `n` residuals, rounded half to even (R110). -/
def meanErr (sum : Int) (n : Nat) : Int := if n = 0 then 0 else divEven (16 * sum) n

/-- CLK_SYNC_PHASE.ERR as a signed number. -/
def errNow (s : State) : Int := sgn 16 (s.get R.CLK_SYNC_PHASE_ERR)

/-- CLK_SYNC_PHASE after a valid pulse (R110). -/
def syncPhase (s : State) (fine : Nat) (err : Int) : State :=
  let es := (err :: s.syncErrs).take 16
  let s := { s with syncErrs := es }
  (s.set R.CLK_SYNC_PHASE_LAST fine).set R.CLK_SYNC_PHASE_ERR (wrapI (meanErr (es.foldl (· + ·) 0) es.length) 16)

/-- The checks of a valid pulse whose L has schedule time `l`; with CHECK 1: SYNC_MISSING and SYNC_SLIP (R115, R116). DESIGN CHOICE (log 46): an
alarm that is active when CHECK is written 0 stays active, and the pulses that come then clear nothing. -/
def syncCheck (s : State) (l : Int) : State :=
  let good := decide (l % (syncPeriod s : Int) = 0)
  let s := if good then { s with lastGoodL := wrapI l 64 + 1 } else s
  if s.flag R.CLK_SYNC_CTRL_CHECK then
    if good then
      let s := { s.set R.CLK_STATUS_SYNC_MISSING 0 with slipRun := s.slipRun + 1 }
      s.when (decide (4 ≤ s.slipRun)) fun s => s.set R.CLK_STATUS_SYNC_SLIP 0
    else raiseAlarm { s with slipRun := 0 } 4
  else s

/-- |ERR| is above the drift limit and is watched (R114). -/
def driftOver (s : State) : Bool :=
  s.flag R.CLK_SYNC_CTRL_CHECK && decide (16 * s.get R.CLK_DRIFT_LIMIT_TAPS < (errNow s).natAbs)

/-- The drift watch: SYNC_DRIFT when |ERR| first exceeds the limit (R114). -/
def driftCheck (s : State) : State :=
  let o := driftOver s
  let first := o && !s.clk.drift
  ({ s with clk := { s.clk with drift := o } } : State).when first fun s => clockNotice s R.CLK_ALARM_SYNC_DRIFT

/-- The value of CLK_TIME_SET. -/
def timeSet (s : State) : Nat := s.get R.CLK_TIME_SET_LO_TIME_LO + s.get R.CLK_TIME_SET_HI_TIME_HI * 2 ^ 32

/-- ARM is visible on the real-time side (R18, R109). -/
def armVisible (s : State) : Bool := s.flag R.CLK_TIME_CTRL_ARM && decide (s.armVis ≤ s.tick)

/-- The load made or refused on the classification tick of a marked pulse with logical SYNC tick `l` (R109). -/
def timeLoad (s : State) (l : Int) : State :=
  let s0 := (s.hwClear R.CLK_TIME_CTRL_ARM).set R.CLK_STATUS_TIME_PENDING 0
  if timeSet s % syncPeriod s ≠ 0 then clockNotice s0 R.CLK_ALARM_LOAD_BAD
  else globalEvent { s0.set R.CLK_STATUS_TIME_VALID 1 with
      now := wrapI (timeSet s + (s.tick - l)) 64, epochDue := false, timeLoadedAt := s.tick + 1 } 4

/-- The mean of a skew pass is complete: the run ends, or moves the taps (R111). -/
def skewMean (s : State) (e : Int) : State :=
  let s := s.set R.CLK_SYNC_PHASE_ERR (wrapI e 16)
  let fin (s : State) (ok : Bool) : State :=
    { (s.set R.CLK_STATUS_SKEW_BUSY 0).set (if ok then R.CLK_STATUS_SKEW_DONE else R.CLK_STATUS_SKEW_FAIL) 1 with skew := {} }
  if !s.skew.align || decide (-16 ≤ e ∧ e ≤ 16) then fin s true
  else { s with skew := { s.skew with moves := (narrow e 4 12).1, sum := 0, cnt := 0, due := s.clock } }

/-- A valid pulse of an expected L, of schedule time `l`, enters the mean of a running skew pass, which begins once the 1 µs after the last tap is
over (R111). DESIGN CHOICE (log 46): the expected ticks are the multiples of P with CHECK 0 too. -/
def skewPulse (s : State) (l err : Int) : State :=
  if s.flag R.CLK_STATUS_SKEW_BUSY ∧ s.skew.moves = 0 ∧ s.skew.due ≤ s.clock ∧ l % (syncPeriod s : Int) = 0 then
    let k := { s.skew with sum := s.skew.sum + err, cnt := s.skew.cnt + 1 }
    let need := 2 ^ (min (max (s.get R.CLK_SKEW_CTRL_AVG_LOG2) 4) 10)
    let s := { s with skew := k }
    if need ≤ k.cnt then skewMean s (meanErr k.sum k.cnt) else s
  else s

/-- A malformed pulse (R105). -/
def syncMalformed (s : State) : State := clockNotice (s.inc R.CLK_SYNC_FORM_CNT_COUNT) R.CLK_ALARM_SYNC_FORM

/-- A plain or marked pulse with its position (R107, R109 to R111, R114 to R116). -/
def syncValid (s : State) (c fine : Nat) (marked : Bool) : State :=
  let (l, err) := syncTick s c fine
  let load := marked && armVisible s
  let s := syncPhase (s.inc R.CLK_SYNC_CNT_COUNT) fine err
  let s := if load then timeLoad s l else s
  let sched : Int := s.now + (l - s.tick)
  driftCheck (skewPulse (driftCheck (syncCheck s sched)) sched err)

/-- The tick on which a pulse that rises on tick `r` and stays high for `width` ticks is classified (R105). -/
def syncClassTick (r width : Nat) : Nat := r + min width 22 + 2

/-- A pulse that rose on tick `r` is classified now; a rising edge before the previous pulse was classified is counted as malformed, and one
with no low sample before it is none (R105). -/
def syncPulse (s : State) (r fine width : Nat) : State :=
  if s.clk.syncC ≠ 0 ∧ r < s.clk.syncK then syncMalformed s
  else if s.clk.syncC ≠ 0 ∧ r ≤ s.clk.syncLow then s
  else
    let s : State := { s with clk := { s.clk with syncC := r + 1, syncLow := r + width, syncK := s.tick } }
    match syncKind width with
    | .malformed => syncMalformed s
    | k => syncValid s r (syncFine s fine) (decide (k = .marked))

/-- SYNC_CLASSIFY: the classification tick of a pulse that reached the interpolator on local tick `c`, `fine` taps into it, and stayed high for
`width` ticks, 22 or more for one that is still high then; on any other tick nothing is classified. While Pointing has the receiver (R113), or
the interpolator is under calibration (R330), a pulse is not received. -/
def execSyncClassify (c : BitVec 64) (fine : Fin 2048) (width : BitVec 8) (s : State) : Host.Outcome State Fault Refusal :=
  let arrived := c.toNat + 1
  .next (if s.tick ≠ syncClassTick c.toNat width.toNat ∨ calibrating s 32 then s
    else if s.pnt.syncOff.1 ≠ 0 ∧ s.pnt.syncOff.1 ≤ arrived ∧ (s.pnt.syncOff.2 = 0 ∨ arrived < s.pnt.syncOff.2) then
      { s with pnt := { s.pnt with syncHit := true } }
    else syncPulse s c.toNat fine.val width.toNat)

/-- SYNC_MISSING: on tick E + P/2 no valid pulse for the expected tick E has been classified (R116). -/
def execSyncMissing (s : State) : Host.Outcome State Fault Refusal :=
  let p := syncPeriod s
  let e := s.now - p / 2
  .next (if s.flag R.CLK_SYNC_CTRL_CHECK ∧ ticking s ∧ p / 2 ≤ s.now ∧ e % p = 0 ∧ s.lastGoodL ≠ e + 1 then raiseAlarm s 3 else s)

/-- SYNC_MASTER_PULSE: in OUT_MODE 2 a pulse goes out at each tick whose schedule time is a multiple of P, marked if MARK_NEXT
was set; MARK_NEXT then clears (R107). -/
def execSyncMasterPulse (s : State) : Host.Outcome State Fault Refusal :=
  .next (if s.get R.CLK_SYNC_CTRL_OUT_MODE = 2 ∧ ticking s ∧ s.now % syncPeriod s = 0 then
    { s.hwClear R.CLK_SYNC_CTRL_MARK_NEXT with syncOut := some (s.now, s.wasFlag R.CLK_SYNC_CTRL_MARK_NEXT) }
  else s)

/-! ### Arming a load, moving the phase, skew runs, relocking -/

/-- CLK_TIME_CTRL.ARM was written 1: it becomes visible 2 or 3 ticks later, which of them a free value says (R18, R109). -/
def timeArmed (before s : State) : State :=
  if !before.flag R.CLK_TIME_CTRL_ARM && s.flag R.CLK_TIME_CTRL_ARM then
    let (v, s) := s.free
    { s with armVis := s.tick + 2 + v % 2 }
  else s

/-- Entry to RUN with ARM pending (R109). -/
def cancelLoad (s : State) : State :=
  if s.flag R.CLK_TIME_CTRL_ARM then
    clockNotice ((s.hwClear R.CLK_TIME_CTRL_ARM).set R.CLK_STATUS_TIME_PENDING 0) R.CLK_ALARM_LOAD_CANCELLED
  else s

/-- PHASE_TAP_STEP: the clock family moves one tap toward CLK_PHASE.TAPS, at most once per 1 µs (R99). -/
def execPhaseTapStep (s : State) : Host.Outcome State Fault Refusal :=
  let t := s.get R.CLK_PHASE_TAPS
  .next (if s.phaseNow = t ∨ (s.clk.phaseAt ≠ 0 ∧ s.clock + 1 < s.clk.phaseAt + 400) then s
    else { s with phaseNow := if s.phaseNow < t then s.phaseNow + 1 else s.phaseNow - 1, clk := { s.clk with phaseAt := s.clock + 1 } })

/-- CLK_SKEW_CTRL.GO was written 1 (R111). DESIGN CHOICE (log 46): a GO while a run is in progress is ignored, and a new run clears SKEW_DONE and
SKEW_FAIL at its start. -/
def skewGo (s : State) : State :=
  if s.get R.CLK_SYNC_CTRL_OUT_MODE = 2 then s.set R.CLK_STATUS_SKEW_FAIL 1
  else if s.flag R.CLK_STATUS_SKEW_BUSY then s
  else
    let s := ((s.set R.CLK_STATUS_SKEW_BUSY 1).set R.CLK_STATUS_SKEW_DONE 0).set R.CLK_STATUS_SKEW_FAIL 0
    { s with skew := { align := s.flag R.CLK_SKEW_CTRL_MODE, pass := 1, sum := 0, cnt := 0, moves := 0 } }

/-- The run ends with SKEW_FAIL: the 1 µs after the last tap of the eighth pass is over (R111). -/
def skewTick (s : State) : State :=
  if s.flag R.CLK_STATUS_SKEW_BUSY ∧ 8 < s.skew.pass ∧ s.skew.due ≤ s.clock then
    { (s.set R.CLK_STATUS_SKEW_FAIL 1).set R.CLK_STATUS_SKEW_BUSY 0 with skew := {} }
  else s

/-- CLK_CTRL.RELOCK was written 1: an attempt begins, unless one is in progress (R117). -/
def relockGo (s : State) : State :=
  if s.flag R.CLK_STATUS_RELOCK_BUSY then s
  else { s.set R.CLK_STATUS_RELOCK_BUSY 1 with clk := { s.clk with relockAt := s.clock } }

end Sys2Proof.Machine
end

