-- ==== Sys2Proof/Machine/Hbm.lean ====
section
/-! DEFINITION. HBM: its bytes, its region descriptors (03_casting_and_worlds.md R95), world checks of its accesses (R91, R94). -/

namespace Sys2Proof.Machine

/-- Bytes of HBM: at or above this address there is no memory (R364). -/
def hbmSize : Nat := 48000000000

/-- Bytes of one stack (R364). -/
def hbmStack : Nat := 24000000000

/-- One byte of HBM; a byte nothing has written reads as 0 (DESIGN CHOICE, log 12). -/
def hbmByte (s : State) (a : Nat) : BitVec 8 := sget 0 s.hbm a

/-- Write one byte of HBM; there is no memory past its end. -/
def hbmPut (s : State) (a : Nat) (b : BitVec 8) : State := if a < hbmSize then { s with hbm := sset 0 s.hbm a b } else s

/-- `n` bytes from address `a`, little-endian. -/
def hbmRead (s : State) (a n : Nat) : Nat :=
  (List.range n).foldl (fun v i => v + (hbmByte s (a + i)).toNat * 256 ^ i) 0

/-- Write `n` bytes of `v` at address `a`, little-endian. -/
def hbmWrite (s : State) (a n v : Nat) : State :=
  forAll (List.range n) s fun s i => hbmPut s (a + i) (BitVec.ofNat 8 (v / 256 ^ i))

/-- Write consecutive 64-bit slots. -/
def hbmWriteSlots (s : State) (a : Nat) (l : List Nat) : State :=
  forAll l.zipIdx s fun s p => hbmWrite s (a + 8 * p.2) 8 p.1

/-- The descriptor that gives 2 MiB unit `u` its world: the lowest-numbered enabled one that covers it (R95), as they stood at the
start of the cycle (R92). -/
def hbmRegion (s : State) (u : Nat) : Option Nat :=
  (List.range 16).find? fun d => s.atStart R.SEC_HBM_RGN_ENABLE d != 0 && decide (s.atStart R.SEC_HBM_RGN_BASE d ≤ u ∧ u < s.atStart R.SEC_HBM_LIM_LIMIT d)

/-- Is unit `u` secure? An address no descriptor covers is (R95). -/
def hbmUnitSecure (s : State) (u : Nat) : Bool :=
  match hbmRegion s u with
  | some d => s.atStart R.SEC_HBM_RGN_SECURE d != 0
  | none => true

/-- Is unit `u` of staging addresses (R95)? -/
def hbmUnitStaging (s : State) (u : Nat) : Bool :=
  match hbmRegion s u with
  | some d => s.atStart R.SEC_HBM_RGN_SECURE d == 0 && s.atStart R.SEC_HBM_RGN_STAGING d != 0
  | none => false

/-- The 2 MiB units a span of bytes touches. -/
def hbmUnits (a n : Nat) : List Nat := (List.range ((a + n - 1) / 0x200000 - a / 0x200000 + 1)).map (· + a / 0x200000)

/-- The span lies in HBM and holds no secure address. -/
def hbmNonSecure (s : State) (a n : Nat) : Bool := decide (a + n ≤ hbmSize) && (hbmUnits a n).all fun u => !hbmUnitSecure s u

/-- The span lies in HBM and is of staging addresses only. -/
def hbmStaging (s : State) (a n : Nat) : Bool := decide (a + n ≤ hbmSize) && (hbmUnits a n).all fun u => hbmUnitStaging s u

/-- The world of a master forbids it a span of HBM (R91, R95). -/
def hbmForbidden (s : State) (secure : Bool) (a n : Nat) : Bool := !secure && (hbmUnits a n).any fun u => hbmUnitSecure s u

/-- The checks of an access by a master of the given world: one past the end of HBM finds no memory and is logged as HBM_ABSENT (R364), a
forbidden one is a world violation (R91); either reads zero or is dropped. `kind` is that of SEC_VIOL_SRC. -/
def hbmGate (s : State) (m : Master) (secure write : Bool) (kind a n : Nat) : Bool × State :=
  if hbmSize < a + n then (false, accessError s m write 5 (a / 16))
  else if hbmForbidden s secure a n then (false, worldViolation s m write kind 0 a)
  else (true, s)

/-- A block data path writes one 64-bit slot. -/
def dataWrite (s : State) (secure : Bool) (a v : Nat) : State :=
  match hbmGate s .dataPath secure true 2 a 8 with
  | (true, s) => hbmWrite s a 8 v
  | (false, s) => s

/-- A block data path delivers consecutive slots that hold `n` records: where their destination is forbidden the records are dropped at the arbiter,
and each counts (R94). -/
def dataDeliver (s : State) (secure : Bool) (a : Nat) (l : List Nat) (n : Nat) : State :=
  if hbmSize < a + 8 * l.length then accessError s .dataPath true 5 (a / 16)
  else if hbmForbidden s secure a (8 * l.length) then forAll (List.range n) s fun s _ => worldViolation s .dataPath true 2 0 a
  else hbmWriteSlots s a l

/-- A block data path delivers one beat, words with their addresses: it is dropped and counted as one access where a word of it is forbidden (R94). -/
def dataBeat (s : State) (secure : Bool) (l : List (Nat × Nat)) : State :=
  match l.find? fun p => hbmForbidden s secure p.1 8 with
  | some p => worldViolation s .dataPath true 2 0 p.1
  | none => forAll l s fun s p => dataWrite s secure p.1 p.2

/-- A block data path reads `n` bytes. -/
def dataRead (s : State) (secure : Bool) (a n : Nat) : Nat × State :=
  match hbmGate s .dataPath secure false 2 a n with
  | (true, s) => (hbmRead s a n, s)
  | (false, s) => (0, s)

/-- ECC errors of a beat are counted at its stack (R366). -/
def eccCount (s : State) (a ecc : Nat) : State :=
  let t := if a < hbmStack then 0 else 1
  match ecc with
  | 1 => s.inc R.SVA_ECC_COR_CNT_COUNT t
  | 2 => s.inc R.SVA_ECC_UNC_CNT_COUNT t
  | _ => s

end Sys2Proof.Machine
end

