-- ==== Sys2Proof/Machine/Markers.lean ====
section
/-! DEFINITION. Gap windows (02_armature_contract.md R53, R55) and marker outputs (05_chisel_programs.md R145,
06_segment_tables_and_streaming.md R160, 12_capture_and_timing_inputs.md R333, R334). -/

namespace Sys2Proof.Machine

/-- Ticks since the shot start tick. -/
def shotTick (s : State) : Nat := s.tick - s.shotStart

/-- The schedule is RUNNING (Table CHS-3). -/
def running (s : State) : Bool := s.get R.GLB_SCHED_STATUS_STATE == 2

/-- The gap record in whose window instance `inst` of class `cls` is inside on this tick, if any (R53). -/
def inGap (s : State) (cls inst : Nat) : Option Nat :=
  if running s then
    (s.gaps.zipIdx.find? fun p => p.1.cls == cls && decide (p.1.first ≤ inst ∧ inst < p.1.first + p.1.count) &&
      s.get R.CLK_SHOT_COUNT % 2 ^ p.1.every == 0 && decide (p.1.start ≤ shotTick s ∧ shotTick s < p.1.start + p.1.length)).map (·.2)
  else none

/-- The first granule boundary at or after this tick, as a local tick (schedule time divisible by 4). -/
def granuleTick (s : State) : Nat := s.tick + (4 - s.now % 4) % 4

/-! ### Markers -/

/-- Does Chisel `n` own marker `m` (R333)? -/
def ownsMarker (s : State) (n m : Nat) : Bool := !s.flag R.MKO_CTRL_NONE m && s.get R.MKO_CTRL_OWNER m == n

/-- The logical level of marker `m`, and the pin as level XOR INVERT (R333). -/
def setLevel (s : State) (m : Nat) (b : Bool) : State :=
  (s.set R.MKO_CTRL_LEVEL (b2n b) m).set R.MKO_CTRL_PIN (b2n (b != s.flag R.MKO_CTRL_INVERT m)) m

/-- The pulse width in ticks: 0 means 4,096 (R145, Table SEG-1). -/
def pulseWidth (w : Nat) : Nat := if w % 4096 = 0 then 4096 else w % 4096

/-- One marker operation takes over the marker from its effect tick; a pulse in progress loses its end (R145, R160). DESIGN CHOICE (log 46): on
the very tick on which a pulse would end, a MARK acts first, on the level that is still high, and the end of the pulse is cancelled. -/
def applyMark (s : State) (o : MkOp) : State :=
  let s := { s with mkEnd := sset 0 s.mkEnd o.m 0 }
  match o.act with
  | 0 => setLevel s o.m false
  | 1 => setLevel s o.m true
  | 2 => { setLevel s o.m true with mkEnd := sset 0 s.mkEnd o.m (s.tick + pulseWidth o.width) }
  | _ => setLevel s o.m (!s.flag R.MKO_CTRL_LEVEL o.m)

/-- The marker operations due on this tick; of one effect tick a MARK is applied last (R160). Outside RUN the level stays 0, but
for what was set before the first tick of HOLD + 36 (R333). -/
def marksDue (s : State) : State :=
  let due := s.mkOps.filter fun o => o.at_ == s.tick
  let s := { s with mkOps := s.mkOps.filter fun o => o.at_ != s.tick }
  forAll (due.filter (fun o => !o.mark) ++ due.filter (·.mark)) s applyMark

/-- Order a marker operation for the pin tick 36 ticks after tick `t` (R131, R160). -/
def orderMark (s : State) (m t act width : Nat) (mark : Bool) : State :=
  { s with mkOps := s.mkOps ++ [⟨m, t + 36, act, width, mark⟩] }

/-- MARKER_PULSE_END: the pulse of marker `m` has lasted its width and the marker goes low (R145). -/
def execMarkerPulseEnd (m : Fin 64) (s : State) : Host.Outcome State Fault Refusal :=
  .next (if sget 0 s.mkEnd m.val = s.tick ∧ s.tick ≠ 0 then { setLevel s m.val false with mkEnd := sset 0 s.mkEnd m.val 0 } else s)

/-- The first tick of HOLD: every marker is set low for pin tick HOLD + 36 and its pulse is cancelled (R333). -/
def markersHold (s : State) : State :=
  { s with mkOps := (s.mkOps.filter fun o => decide (o.at_ < s.tick + 36)) ++ (List.range 64).map fun m => ⟨m, s.tick + 36, 0, 0, true⟩
           mkEnd := s.mkEnd.filter fun p => decide (p.2 < s.tick + 36) }

/-- Entry to RUN: every level is 0 (R333). -/
def markersRun (s : State) : State := forAll (List.range 64) { s with mkOps := [], mkEnd := [] } fun s m => setLevel s m false

/-- MKO_DELAY or a marker's delay fields were written: CLAMP shows FACTORY + USER outside 0 to 2,047 (R334); the pin follows
INVERT (R333). -/
def markerWritten (s : State) (m : Nat) : State :=
  let d : Int := s.get R.MKO_DELAY_FACTORY m + sgn 11 (s.get R.MKO_DELAY_USER m)
  setLevel (s.set R.MKO_CTRL_CLAMP (b2n (decide (d < 0 ∨ 2047 < d))) m) m (s.flag R.MKO_CTRL_LEVEL m)

end Sys2Proof.Machine
end

