-- ==== Sys2Proof/Machine/Segments.lean ====
section
/-! DEFINITION. Segment tables, table-mode sequencers and stream channels (06_segment_tables_and_streaming.md). Tone slot
`n * 8 + 4 * LINE + SLOT` is key `z` below; it is SEG_SLOT of the Chisel and TON_SLOT of the line alike. -/

namespace Sys2Proof.Machine

/-! ### The decision window (05, Registers of the program; 11, R288) -/

/-- The decision bit bound to bit `k` of Chisel `n`'s window; a bit above 63, which only SEG_ENT can name, is bound to none (DESIGN CHOICE,
log 33). -/
def windowBit (s : State) (n k : Nat) : Option Nat :=
  if 63 < k then none else
  match sget 0 s.dmap (n * 64 + k) with
  | 0 => none
  | b + 1 => some b

/-- P[k]: the bound bit is published in the current shot. -/
def windowPub (s : State) (n k : Nat) : Bool :=
  match windowBit s n k with
  | some b => sget false s.decPub b
  | none => false

/-- D[k]: its published value. -/
def windowVal (s : State) (n k : Nat) : Bool :=
  match windowBit s n k with
  | some b => sget false s.decVal b
  | none => false

/-- The taint of the decision word that holds the bound bit (R285). -/
def windowTaint (s : State) (n k : Nat) : Taint :=
  match windowBit s n k with
  | some b => sget [] s.decTaint (b / 64)
  | none => []

/-! ### Segment-table entries -/

/-- Word `w` of entry `e` of Chisel `n`, w = 1 to 7 (SEG_ENT; word 0 shows INDEX and the Chisel number). -/
def segWord (s : State) (n e w : Nat) : Nat := s.get R.SEG_ENT_BYTES (n * 8192 + e % 1024 * 8 + w)

/-- START of Table SEG-1. -/
def segStart (s : State) (n e : Nat) : Nat := segWord s n e 1
/-- LENGTH of Table SEG-1. -/
def segLen (s : State) (n e : Nat) : Nat := segWord s n e 2 % 0x10000
/-- REPEAT of Table SEG-1. -/
def segRepeat (s : State) (n e : Nat) : Nat := segWord s n e 2 / 0x10000
/-- NEXT of Table SEG-1. -/
def segNext (s : State) (n e : Nat) : Nat := segWord s n e 3 % 1024
/-- JUMP_TARGET of Table SEG-1. -/
def segJump (s : State) (n e : Nat) : Nat := segWord s n e 3 / 0x10000 % 1024
/-- COND KIND of Table SEG-1. DESIGN CHOICE (log 33): kind 3, which no load check sees in an entry written through SEG_ENT, is no condition. -/
def segKind (s : State) (n e : Nat) : Nat := bits (segWord s n e 4) 15 14
/-- COND VALUE of Table SEG-1. -/
def segValue (s : State) (n e : Nat) : Bool := bit (segWord s n e 4) 10
/-- COND SEL of Table SEG-1. -/
def segSel (s : State) (n e : Nat) : Nat := segWord s n e 4 % 1024
/-- FLAGS SOURCE of Table SEG-1: stream. -/
def segStream (s : State) (n e : Nat) : Bool := bit (segWord s n e 4) 16
/-- FLAGS END of Table SEG-1. -/
def segEnd (s : State) (n e : Nat) : Bool := bit (segWord s n e 4) 17
/-- FLAGS MK_EVERY of Table SEG-1. -/
def segMkEvery (s : State) (n e : Nat) : Bool := bit (segWord s n e 4) 18
/-- MK_WIDTH of Table SEG-1. -/
def segMkWidth (s : State) (n e : Nat) : Nat := segWord s n e 5 % 4096
/-- MARKERS of Table SEG-1. -/
def segMarkers (s : State) (n e : Nat) : Nat := segWord s n e 6 + segWord s n e 7 * 2 ^ 32

/-- Does the entry fail check 4: it is all zero, or of envelope source and reaches past the end of envelope memory (R130, R151, R153)? -/
def segBad (s : State) (n e : Nat) : Bool :=
  ([1, 2, 3, 4, 5, 6, 7].all fun w => segWord s n e w == 0) || (!segStream s n e && decide (16384 < segStart s n e + segLen s n e))

/-- The decision point of the occurrence in progress: 8 ticks before its end, but not before its start, which only a LENGTH below the range of
Table SEG-1, written through SEG_ENT, could ask for (R155; DESIGN CHOICE, log 33). -/
def decisionTick (s : State) (n e occE : Nat) : Nat := max (occE - 8) (occE - 4 * segLen s n e)

/-- An entry as a segment that starts on tick `t`. -/
def segOf (s : State) (n e t : Nat) (b : Bind) (table : Bool) (pauli : Option Nat) (pc : Nat) : Seg :=
  { s := t, len := segLen s n e, stream := segStream s n e, start := segStart s n e, bind := b, table := table, pauli := pauli
    markers := segMarkers s n e, mkWidth := segMkWidth s n e, pc := pc }

/-! ### Slots -/

/-- Tone slot `z`. -/
def slot (s : State) (z : Nat) : Slot := sget {} s.slots z

/-- Write tone slot `z`. -/
def setSlot (s : State) (z : Nat) (x : Slot) : State := { s with slots := sset {} s.slots z x }

/-- Is the slot busy for check 2: occupied by a PLAY, or in table mode (R139)? -/
def slotBusy (s : State) (z : Nat) : Bool := decide (s.tick < (slot s z).busyTo) || s.get R.SEG_SLOT_MODE z == 2

/-- MODE of SEG_SLOT and its mirror in TON_SLOT; BUSY follows (Table SEG-2). -/
def setMode (s : State) (z m : Nat) : State :=
  let s := (s.set R.SEG_SLOT_MODE m z).set R.TON_SLOT_MODE m z
  s.set R.TON_SLOT_BUSY (b2n (slotBusy s z)) z

/-- The binding takes effect two ticks before the start when no earlier segment covers those ticks, else at the start (R185). -/
def bindAt (x : Slot) (t : Nat) (b : Bind) : Slot :=
  let early := !(x.segs.any fun g => decide (g.s < t ∧ t < g.s + 4 * g.len + 2))
  { x with binds := x.binds ++ [(if early then (t : Int) * 32 - 64 else (t : Int) * 32, b)] }

/-- The registers that show the bound values (TON_SLOT). -/
def showBind (s : State) (z : Nat) (b : Bind) : State :=
  ((s.set R.TON_SLOT_PT (b2n b.z) z).set R.TON_SLOT_FRAME b.frame z).set R.TON_SLOT_AMP b.amp z

/-- The markers of a mask that the Chisel owns pulse from tick `t` (R160). -/
def fireMarkers (s : State) (n t mask width : Nat) : State :=
  forAll ((List.range 64).filter fun m => bit mask m && ownsMarker s n m) s fun s m => orderMark s m t 2 width false

/-- The slot is under program control again (R155, R158, R161): latch and requests clear. -/
def slotReturn (s : State) (z : Nat) : State :=
  let x := slot s z
  let s := setSlot s z { x with busyTo := 0, occE := 0, hand := none, repoint := none, latchTo := 0, act := .none, gapsSeen := [], done := false }
  let s := ((s.set R.SEG_SLOT_LATCH 0 z).set R.SEG_SLOT_STOP_PEND 0 z).set R.SEG_SLOT_REPOINT_PEND 0 z
  setMode ((s.set R.SEG_SLOT_ENTRY 0 z).set R.SEG_SLOT_REMAIN 0 z) z 0

/-- An occurrence of `entry` starts on this tick under request `q`: its entry is tested, its envelope enters the slot's stream and
its markers pulse (R154, R160). -/
def occStart (s : State) (z : Nat) (q : TabReq) (entry remain : Nat) (first : Bool) : State :=
  let n := z / 8
  if segBad s n entry then chiselViolation (slotReturn s z) n [4] q.pc
  else
    let g := segOf s n entry s.tick q.bind true none q.pc
    let x := slot s z
    let x := bindAt x s.tick q.bind
    let s := setSlot s z { x with segs := x.segs ++ [g], req := q, occE := s.tick + 4 * g.len, act := .none, busyTo := 0 }
    let s := setMode ((s.set R.SEG_SLOT_ENTRY entry z).set R.SEG_SLOT_REMAIN remain z) z 2
    let s := showBind s z q.bind
    s.when (first || segMkEvery s n entry) fun s => fireMarkers s n s.tick g.markers g.mkWidth

/-- The first occurrence of a run of `entry` (R153). -/
def runStart (s : State) (z : Nat) (q : TabReq) (entry : Nat) : State :=
  occStart s z q entry (segRepeat s (z / 8) entry - 1) true

/-- TABLE_HANDOVER: the first granule boundary from g on that no PLAY occupies; the first occurrence starts (R140, R154). -/
def execTableHandover (n : Fin 128) (k : Fin 8) (s : State) : Host.Outcome State Fault Refusal :=
  let z := n.val * 8 + k.val
  let x := slot s z
  .next (match x.hand with
    | some q =>
      if s.get R.SEG_SLOT_MODE z = 1 ∧ s.now % 4 = 0 ∧ q.at_ ≤ s.tick ∧ x.busyTo ≤ s.tick then
        runStart (setSlot (s.set R.SEG_SLOT_LATCH 0 z) z { x with hand := none }) z q q.entry
      else s
    | none => s)

/-- TABLE_DECISION_POINT: on d = e − 8 the action applied at e is chosen (R155, R157). DESIGN CHOICE (log 33): STOP_PEND, REPOINT_PEND or LATCH
clears on d, when the case it decides is taken; a latch that meets a re-point stays set. -/
def execTableDecisionPoint (n : Fin 128) (k : Fin 8) (s : State) : Host.Outcome State Fault Refusal :=
  let z := n.val * 8 + k.val
  let x := slot s z
  let e := s.get R.SEG_SLOT_ENTRY z
  if s.get R.SEG_SLOT_MODE z = 2 ∧ s.tick = decisionTick s n.val e x.occE ∧ x.act = .none then
    let two := segKind s n.val e == 2 && windowPub s n.val (segSel s n.val e)
    let s := s.when two fun s => addShotTaint s n.val (windowTaint s n.val (segSel s n.val e))
    let holds := two && (windowVal s n.val (segSel s n.val e) == segValue s n.val e)
    .next (if s.flag R.SEG_SLOT_STOP_PEND z then setSlot (s.set R.SEG_SLOT_STOP_PEND 0 z) z { x with act := .leave }
    else match x.repoint with
      | some q => setSlot (s.set R.SEG_SLOT_REPOINT_PEND 0 z) z { x with act := .repoint q, repoint := none }
      | none =>
        if s.flag R.SEG_SLOT_LATCH z then setSlot (s.set R.SEG_SLOT_LATCH 0 z) z { x with act := .jump x.latchTo }
        else if holds then setSlot s z { x with act := .jump (segJump s n.val e) }
        else if segRepeat s n.val e = 0 ∨ 0 < s.get R.SEG_SLOT_REMAIN z then setSlot s z { x with act := .again }
        else if segEnd s n.val e then setSlot s z { x with act := .leave }
        else setSlot s z { x with act := .next })
  else .next s

/-- OCCURRENCE_START: on the end tick e of the occurrence in progress the chosen action applies (R154, R155). -/
def execOccurrenceStart (n : Fin 128) (k : Fin 8) (s : State) : Host.Outcome State Fault Refusal :=
  let z := n.val * 8 + k.val
  let x := slot s z
  if s.get R.SEG_SLOT_MODE z = 2 ∧ s.tick = x.occE then
    let e := s.get R.SEG_SLOT_ENTRY z
    .next (if x.done then slotReturn s z else match x.act with
      | .none => s
      | .leave => slotReturn s z
      | .repoint q => runStart s z q q.entry
      | .jump t => runStart (s.inc R.SEG_JUMP_CNT_COUNT n.val) z x.req t
      | .again => occStart s z x.req e (s.get R.SEG_SLOT_REMAIN z - 1) false
      | .next => runStart s z x.req (segNext s n.val e))
  else .next s

/-- A firing of channel `c` reaches the sequencers on this tick (R156). -/
def latchFiring (c : Nat) (s : State) (z : Nat) : State :=
  let x := slot s z
  let n := z / 8
  let e := s.get R.SEG_SLOT_ENTRY z
  if s.get R.SEG_SLOT_MODE z = 2 ∧ s.tick < x.occE ∧ segKind s n e = 1 ∧ segSel s n e = c then
    if s.flag R.SEG_SLOT_LATCH z then s.inc R.SEG_MERGE_CNT_COUNT n
    else setSlot (s.set R.SEG_SLOT_LATCH 1 z) z { x with latchTo := segJump s n e }
  else s

/-- The schedule enters DONE: hand-overs are cancelled, and slots in table mode return at the end of their occurrence (R161). -/
def slotsDone (s : State) : State :=
  forAll (s.slots.map (·.1)) s fun s z =>
    match s.get R.SEG_SLOT_MODE z with
    | 1 => setMode (setSlot s z { slot s z with hand := none }) z 0
    | 2 => setSlot s z { slot s z with done := true }
    | _ => s

/-- The first tick of HOLD: every slot is free and what it played has ended (R161). -/
def slotsHold (s : State) : State :=
  forAll (s.slots.map (·.1)) s fun s z =>
    let x := slot s z
    let cut (g : Seg) : Seg := { g with len := min g.len ((s.tick - g.s + 3) / 4) }
    let s := slotReturn s z
    let y := slot s z
    setMode (setSlot s z { y with segs := (x.segs.filter fun g => decide (g.s < s.tick)).map cut, cutAt := s.tick }) z 0

/-! ### Stream channels -/

/-- Ring size in granules, as a power of two: values below 6 are taken as 6, above 24 as 24 (STM_RING_SIZE). -/
def ringLog2 (s : State) (c : Nat) : Nat := min (max (s.get R.STM_RING_SIZE_RING_LOG2 c) 6) 24

/-- The HBM address of ring granule `k` of stream ring `c` (R163). -/
def ringAddr (s : State) (c k : Nat) : Nat :=
  s.get R.STM_RING_LO_ADDR c * 4096 + s.get R.STM_RING_HI_ADDR c * 2 ^ 32 + k % 2 ^ ringLog2 s c * 128

/-- Serial comparison of 32-bit granule indices (R164). -/
def idxBefore (a b : Nat) : Bool := serialBefore 32 a b

/-- May the fetch of channel `c` read its ring: the channel is secure, or no unit of the ring is (R94, R167)? -/
def stmReadable (s : State) (c : Nat) : Bool :=
  instSecure s (c / 4) || (hbmUnits (ringAddr s c 0) (2 ^ ringLog2 s c * 128)).all fun u => !hbmUnitSecure s u

/-- Does channel `c` hold data: enabled, partition neither empty nor in error, its ring readable (R167)? -/
def stmLive (s : State) (c : Nat) : Bool :=
  s.flag R.STM_CTRL_ENABLE c && s.get R.STM_BUF_SIZE c != 0 && !s.flag R.STM_STATUS_CFG_ERR c && stmReadable s c

/-- CFG_ERR of the four channels of Chisel `n` (R169). -/
def stmCheck (s : State) (n : Nat) : State :=
  forAll [0, 1, 2, 3] s fun s j =>
    let c := 4 * n + j
    let size := s.get R.STM_BUF_SIZE c
    let base := s.get R.STM_BUF_BASE c
    let lap := (List.range j).any fun i =>
      let d := 4 * n + i
      s.flag R.STM_CTRL_ENABLE c && s.flag R.STM_CTRL_ENABLE d && size != 0 && s.get R.STM_BUF_SIZE d != 0 &&
        decide (base < s.get R.STM_BUF_BASE d + s.get R.STM_BUF_SIZE d ∧ s.get R.STM_BUF_BASE d < base + size)
    s.set R.STM_STATUS_CFG_ERR (b2n ((size != 0 && decide (size < 16 ∨ 1024 < size)) || decide (1024 < base + size) || lap)) c

/-- A granule is stored in the buffer slot of its index modulo SIZE, where it replaces what stands there, fetched or visible (R165). -/
def stmStore (s : State) (c : Nat) (g : StmGran) : State :=
  let keep (x : StmGran) : Bool := x.idx % s.get R.STM_BUF_SIZE c != g.idx % s.get R.STM_BUF_SIZE c
  { s with
    stmFetch := sset [] s.stmFetch c ((sget [] s.stmFetch c).filter keep ++ [g])
    stmBuf := sset [] s.stmBuf c ((sget [] s.stmBuf c).filter keep) }

/-- The oldest granule on its way to channel `c` becomes visible, stored on 2.5 ns step `at_`, or is discarded behind CONS (R165). -/
def stmShow (s : State) (c : Nat) : State :=
  match sget [] s.stmFetch c with
  | [] => s
  | g :: rest =>
    let s := { s with stmFetch := sset [] s.stmFetch c rest }
    if idxBefore g.idx (s.get R.STM_CONS_INDEX c) then s.inc R.STM_DISCARD_CNT_COUNT c
    else { s with stmBuf := sset [] s.stmBuf c (sget [] s.stmBuf c ++ [{ g with vis := s.clock }]) }

/-- Was the oldest granule on its way stored at least `k` steps of 2.5 ns ago? -/
def stmAged (s : State) (c k : Nat) : Bool := ((sget [] s.stmFetch c).head?).any fun g => decide (g.vis + k ≤ s.clock)

/-- At the start of a tick, granules stored 3 ticks ago are visible (R18). -/
def stmVisible (s : State) : State :=
  forAll (s.stmFetch.map (·.1)) s fun s c => forAll (sget [] s.stmFetch c) s fun s _ => if stmAged s c 3 then stmShow s c else s

/-- A channel that holds no data empties (R167). -/
def stmDrop (s : State) (c : Nat) : State := { s with stmFetch := sset [] s.stmFetch c [], stmBuf := sset [] s.stmBuf c [] }

/-- Every channel that holds no data any more, because worlds or regions changed, empties (R167). -/
def stmSweep (s : State) : State :=
  forAll ((s.stmFetch.map (·.1) ++ s.stmBuf.map (·.1)).filter fun c => !stmLive s c) s stmDrop

/-- The partitions of Chisel `n` after a write of STM_CTRL or STM_BUF (R167, R169). -/
def stmConfig (s : State) (n : Nat) : State :=
  let s := stmCheck s n
  forAll [0, 1, 2, 3] s fun s j => if stmLive s (4 * n + j) then s else stmDrop s (4 * n + j)

/-- The reset of a channel's indices; its partition empties (R170). -/
def stmReset (s : State) (c : Nat) : State :=
  stmDrop (((s.set R.STM_WR_INDEX 0 c).set R.STM_RD_INDEX 0 c).set R.STM_CONS_INDEX 0 c) c

/-- Every channel is reset, on casting and on leaving RUN (R170). -/
def stmResetAll (s : State) : State := forAll (List.range 512) s stmReset

/-- A write of STM_WR that places it before STM_RD, or more than a ring after it, is dropped (R164). -/
def stmWrite (s : State) (c v : Nat) : State :=
  if (v + 2 ^ 32 - s.get R.STM_RD_INDEX c) % 2 ^ 32 ≤ 2 ^ ringLog2 s c then s.set R.STM_WR_INDEX v c
  else s.set R.STM_STATUS_OVERFILL 1 c

/-- A write of STM_BUF empties the partition and sets STM_RD back to STM_CONS (R170). -/
def stmRewind (s : State) (c : Nat) : State := stmConfig (stmDrop (s.set R.STM_RD_INDEX (s.get R.STM_CONS_INDEX c) c) c) (c / 4)

/-- STREAM_FETCH: the prefetch engine of stream ring `c` takes one granule (R165); of a channel that R167 lets fetch nothing it does nothing, the
skip to CONS included (DESIGN CHOICE, log 33). `ecc` is 1 for a corrected and 2 for an uncorrectable
error of the beat: the latter stores nothing for the granule (R366). -/
def execStreamFetch (c : Fin 512) (ecc : Fin 3) (s : State) : Host.Outcome State Fault Refusal :=
  let cons := s.get R.STM_CONS_INDEX c.val
  let rd := s.get R.STM_RD_INDEX c.val
  if !stmLive s c.val || !mainPowered s || s.xtalFail then .next s else
  let s := s.when (idxBefore rd cons) fun s =>
    (s.inc R.STM_DISCARD_CNT_COUNT c.val ((cons + 2 ^ 32 - rd) % 2 ^ 32)).set R.STM_RD_INDEX cons c.val
  let rd := s.get R.STM_RD_INDEX c.val
  .next (if idxBefore rd (s.get R.STM_WR_INDEX c.val) ∧ (rd + 2 ^ 32 - cons) % 2 ^ 32 < s.get R.STM_BUF_SIZE c.val then
    let (v, s) := dataRead s (instSecure s (c.val / 4)) (ringAddr s c.val rd) 128
    let g : StmGran := ⟨rd, (List.range 16).map fun j => v / 2 ^ (64 * j) % 2 ^ 36, s.clock⟩
    let s := eccCount s (ringAddr s c.val rd) ecc.val
    let s := if ecc.val = 2 then s else stmStore s c.val g
    s.set R.STM_RD_INDEX ((rd + 1) % 2 ^ 32) c.val
  else s)

/-- GRANULE_VISIBLE: the oldest granule stored for ring `c` becomes visible 2 ticks after its write, or is discarded behind CONS (R165); where the
command does not come it is visible after 3 (R18, `stmVisible`). -/
def execGranuleVisible (c : Fin 512) (s : State) : Host.Outcome State Fault Refusal :=
  .next (if stmAged s c.val 2 then stmShow s c.val else s)

/-- Append a granule to a slot's envelope stream (R181). -/
def addGran (s : State) (z : Nat) (words : List Nat) (amp : Nat) : State :=
  let x := slot s z
  setSlot s z { x with grans := x.grans ++ [⟨s.tick, words, amp⟩] }

/-- The first table-mode granule of a slot inside a window of CLASS 0 (R162); `w` names the window. -/
def gapGranule (s : State) (z w pc : Nat) : State :=
  let x := slot s z
  let key := s.get R.CLK_SHOT_COUNT * 4096 + w
  if x.gapsSeen.contains key then s
  else chiselViolation (setSlot s z { x with gapsSeen := (key :: x.gapsSeen).take 8 }) (z / 8) [6] pc

/-- The line of slot `z`. -/
def slotLine (z : Nat) : Nat := z / 4

/-- An under-run of ring `c` on this tick (R167). -/
def underrun (s : State) (c k : Nat) : State :=
  let s := addShotTaint s (c / 4) (taintOf tUNDERRUN 1 (c / 4))
  let s := (s.inc R.STM_UR_CNT_COUNT c).inc R.GLB_HARVEST_LATE_CNT_COUNT
  if s.flag R.STM_STATUS_UNDERRUN c then s
  else
    let s := (s.set R.STM_STATUS_UNDERRUN 1 c).set R.STM_UR_INDEX_INDEX k c
    globalEvent ((s.set R.STM_UR_TICK_LO_TICK_LO s.now c).set R.STM_UR_TICK_HI_TICK_HI (s.now / 2 ^ 32) c) 10

/-- The segment whose granule falls on this tick, if the slot has one and the granule is not yet taken. -/
def granDue (s : State) (z : Nat) (stream : Bool) : Option Seg :=
  let x := slot s z
  if x.grans.any fun g => g.s == s.tick then none
  else x.segs.find? fun g => g.stream == stream && decide (g.s ≤ s.tick ∧ s.tick < g.s + 4 * g.len ∧ (s.tick - g.s) % 4 = 0)

/-- The streamed granule of slot `z` that is due on this tick: the channel's next granule plays, or zeros (R162, R165 to R168). A channel that
holds no data has none (R167). -/
def harvestSlot (s : State) (z : Nat) : State :=
  match granDue s z true with
  | none => s
  | some g =>
    let c := 4 * (z / 8) + g.start % 4
    let cons := s.get R.STM_CONS_INDEX c
    let buf := sget [] s.stmBuf c
    let there := if stmLive s c then buf.find? fun x => x.idx == cons else none
    let s := { s with stmBuf := sset [] s.stmBuf c (buf.filter fun x => x.idx != cons) }
    let s := s.set R.STM_CONS_INDEX ((cons + 1) % 2 ^ 32) c
    match (if g.table then inGap s 0 (slotLine z) else none), there with
    | some w, _ => addGran (gapGranule s z w g.pc) z (List.replicate 16 0) g.bind.amp
    | none, some x =>
      let s := s.set R.STM_MIN_SLACK_TICKS (min (s.get R.STM_MIN_SLACK_TICKS c) (s.clock - x.vis)) c
      addGran s z x.words g.bind.amp
    | none, none => addGran (underrun s c cons) z (List.replicate 16 0) g.bind.amp

/-- STREAM_HARVEST: the harvest tick of a streamed granule on slot `k`; slots of the Chisel with lower indexes that harvest on this tick take
theirs first (R166). -/
def execStreamHarvest (n : Fin 128) (k : Fin 8) (s : State) : Host.Outcome State Fault Refusal :=
  .next (forAll (List.range (k.val + 1)) s fun s j => harvestSlot s (n.val * 8 + j))

/-- A granule of an envelope-source segment falls on this tick (R154, R162, R180). -/
def envGranule (s : State) (z : Nat) : State :=
  match granDue s z false with
  | none => s
  | some g =>
    let k := (s.tick - g.s) / 4 + g.start
    match (if g.table then inGap s 0 (slotLine z) else none) with
    | some w => addGran (gapGranule s z w g.pc) z (List.replicate 16 0) g.bind.amp
    | none => addGran s z ((List.range 16).map fun j => sget 0 s.chsEnv (z / 8 * 262144 + k * 16 + j)) g.bind.amp

end Sys2Proof.Machine
end

