-- ==== Sys2Proof/Machine/Synth.lean ====
section
/-! DEFINITION. Frames, the digital chain of a line, mute, the frame port (07_frames_and_line_synthesis.md). -/

namespace Sys2Proof.Machine

/-! ### Frames -/

/-- A frame operation acts on a context (R142, R177). -/
def frmApply (c : Frm) : FrmFn → Frm
  | .shift a => { c with phi := (c.phi + a) % 2 ^ 32 }
  | .set f phi t0 => ⟨f, phi, t0⟩
  | .reset t0 => { c with phi := 0, t0 := t0 }

/-- The live context of frame `key` as it stands for synthesis tick `t` (R172, R177). -/
def frmAt (s : State) (key t : Nat) : Frm :=
  s.frmOps.foldl (fun c o => if o.key = key ∧ o.at_ ≤ t then frmApply c o.fn else c) (sget {} s.frmLive key)

/-- Operations older than the synthesis that reads them become part of the live context. -/
def frmSettle (s : State) : State :=
  let old := s.frmOps.filter fun o => decide (o.at_ + 4 < s.tick)
  let live := old.foldl (fun m o => sset {} m o.key (frmApply (sget {} m o.key) o.fn)) s.frmLive
  { s with frmLive := live, frmOps := s.frmOps.filter fun o => !decide (o.at_ + 4 < s.tick) }

/-- A frame operation on frame `key` from tick `t`; one issued before an earlier operation's boundary applies after it (R143). -/
def frmOp (s : State) (key t : Nat) (fn : FrmFn) : State :=
  let t' := (s.frmOps.filter (fun o => o.key == key)).foldl (fun m o => max m o.at_) t
  { s with frmOps := s.frmOps ++ [⟨key, t', fn⟩] }

/-- Entry to RUN: every live context is set from its initial context (R172). -/
def framesRun (s : State) : State := { s with frmLive := s.frmInit, frmOps := [] }

/-! ### The oscillator (R176, R178) -/

/-- The listing osc_phase: the 24-bit phase. -/
def oscPhase (fr : Frm) (t pp : Nat) (z : Bool) : Nat :=
  let d := (t + 2 ^ 64 - fr.t0 % 2 ^ 64) % 2 ^ 64
  ((fr.phi + pp) * 2 ^ 16 + b2n z * 2 ^ 47 + fr.f * d) % 2 ^ 48 / 2 ^ 24

/-- 2^64 π, rounded. -/
def piScaled : Nat := 57952155664616982739

/-- cos of `x` in units of 2^-64 (0 to π/4), from the Taylor series: the sum of `k` terms, the term `t` first. -/
def cosSeries (x2 : Nat) : Nat → Nat → Int → Int
  | 0, _, _ => 0
  | k + 1, i, t => t + cosSeries x2 k (i + 2) (-(t * (x2 : Int) / (2 ^ 64 * ((i + 1) * (i + 2)) : Nat)))

/-- cos(2π a / 2^24) in units of 2^-64, for a up to 2^21 (an eighth of a turn). -/
def cosOct (a : Nat) : Int :=
  let x := piScaled * a / 2 ^ 23
  cosSeries (x * x / 2 ^ 64) 14 0 (2 ^ 64 : Nat)

/-- sin(2π a / 2^24) in units of 2^-64, for a up to 2^21. -/
def sinOct (a : Nat) : Int :=
  let x := piScaled * a / 2 ^ 23
  cosSeries (x * x / 2 ^ 64) 14 1 x

/-- cos(2π θ / 2^24) in units of 2^-64, θ of 24 bits, by reduction to the first eighth of a turn. -/
def cosTurn (theta : Nat) : Int :=
  let q := theta % 2 ^ 22
  let c := if q ≤ 2 ^ 21 then cosOct q else sinOct (2 ^ 22 - q)
  let sn := if q ≤ 2 ^ 21 then sinOct q else cosOct (2 ^ 22 - q)
  match theta / 2 ^ 22 % 4 with
  | 0 => c
  | 1 => -sn
  | 2 => -c
  | _ => sn

/-- The nearest integer to 2^17 times a value in units of 2^-64 (R178; a tie cannot occur). -/
def nearest17 (v : Int) : Int := (v + (2 ^ 46 : Nat)) / (2 ^ 47 : Nat)

/-- The oscillator's c of R178. -/
def oscC (theta : Nat) : Int := nearest17 (cosTurn theta)

/-- The oscillator's s of R178: sin is cos a quarter turn earlier. -/
def oscS (theta : Nat) : Int := nearest17 (cosTurn ((theta + 3 * 2 ^ 22) % 2 ^ 24))

/-! ### The digital chain -/

/-- The value a table of values from index `lo` on holds at `i`; 0 outside. -/
def tabGet (lo : Int) (l : List Int) (i : Int) : Int := if i < lo then 0 else l.getD (i - lo).toNat 0

/-- The values of `f` at `lo` to `lo + n − 1`. -/
def tab (lo : Int) (n : Nat) (f : Int → Int) : List Int := (List.range n).map fun (k : Nat) => f (lo + (k : Int))

/-- One output of hb_up (R183): passed unchanged at even indexes, else filtered; the flag. -/
def hbUp (c : List Int) (x : Int → Int) (i : Int) : Int × Bool :=
  let n := i / 2
  if i % 2 = 0 then (x n, false)
  else narrow ((c.zipIdx.map fun p => p.1 * (x (n - (p.2 : Int)) + x (n + 1 + (p.2 : Int)))).foldl (· + ·) 0) 16 18

/-- Table LIN-1. -/
def hb1 : List Int := [39773, -9994, 4417, -1992, 793, -229]
/-- Table LIN-1. -/
def hb2 : List Int := [38400, -7000, 1368]
/-- Table LIN-1. -/
def hb3 : List Int := [36864, -4096]

/-- The granule that covers envelope index `i` of a slot, if any (R181); what HOLD ended covers nothing (R161). -/
def granAt (x : Slot) (i : Int) : Option Gran :=
  x.grans.reverse.find? fun g => decide ((g.s : Int) * 4 ≤ i ∧ i < (g.s : Int) * 4 + 16) &&
    (x.cutAt == 0 || decide (i < (x.cutAt : Int) * 4) || decide (x.cutAt ≤ g.s))

/-- The scaled component of envelope index `i`: I in bits [35:18], Q in bits [17:0] (R180, R182). -/
def envAt (x : Slot) (q : Bool) (i : Int) : Int × Bool :=
  match granAt x i with
  | none => (0, false)
  | some g =>
    let w := g.words.getD (i - (g.s : Int) * 4).toNat 0
    narrow (sgn 18 (if q then w else w / 2 ^ 18) * sgn 16 g.amp) 15 18

/-- The interpolated component over synthesis tick `t`: 32 values, and the flags SAT_AMP (bit 0) and SAT_INTERP (bit 1) of the
tick's own samples (R182, R183). -/
def interp (x : Slot) (q : Bool) (t : Nat) : List Int × Nat :=
  let e : Int := (t : Int) * 4
  let x0 := tabGet (e - 7) (tab (e - 7) 19 fun i => (envAt x q i).1)
  let y1 := tabGet (2 * e - 3) (tab (2 * e - 3) 15 fun i => (hbUp hb1 x0 i).1)
  let y2 := tabGet (4 * e - 1) (tab (4 * e - 1) 19 fun i => (hbUp hb2 y1 i).1)
  let amp := (List.range 4).any fun k => (envAt x q (e + (k : Int))).2
  let f1 := (List.range 8).any fun k => (hbUp hb1 x0 (2 * e + (k : Int))).2
  let f2 := (List.range 16).any fun k => (hbUp hb2 y1 (4 * e + (k : Int))).2
  let y3 := (List.range 32).map fun (k : Nat) => hbUp hb3 y2 (8 * e + (k : Int))
  (y3.map (·.1), b2n amp + 2 * b2n (f1 || f2 || y3.any (·.2)))

/-- The binding in effect at local sample time `t` (R185). -/
def bindFor (x : Slot) (t : Int) : Bind := ((x.binds.filter fun p => decide (p.1 ≤ t)).getLast?.map (·.2)).getD {}

/-- The 32 samples of slot `z` at synthesis tick `t`, schedule time `tn`, and its saturation flags (R176, R184). -/
def slotSamples (s : State) (z t tn : Nat) : List Int × Nat :=
  let x := slot s z
  let (i, fi) := interp x false t
  let (q, fq) := interp x true t
  let ys := (List.range 32).map fun (j : Nat) =>
    let b := bindFor x ((t : Int) * 32 + (j : Int))
    let th := oscPhase (frmAt s (z / 8 * 2048 + b.frame) t) (tn * 32 + j) b.pp b.z
    narrow (i.getD j 0 * oscC th - q.getD j 0 * oscS th) 17 18
  (ys.map (·.1), (fi ||| fq) ||| 4 * b2n (ys.any (·.2)))

/-- Line `n` beyond its registers. -/
def line (s : State) (n : Nat) : Line := sget {} s.lines n

/-- Write line `n`. -/
def setLine (s : State) (n : Nat) (l : Line) : State := { s with lines := sset {} s.lines n l }

/-- The gain stage of line `n` at synthesis tick `t` (R186): the four slots summed exactly, then GAIN and Fg. -/
def gainStage (s : State) (n t tn fg : Nat) : List Int × Nat :=
  let ss := (List.range 4).map fun k =>
    if (slot s (n * 4 + k)).grans = [] then (List.replicate 32 0, 0) else slotSamples s (n * 4 + k) t tn
  let ws := (List.range 32).map fun (j : Nat) =>
    narrow ((ss.map fun p => p.1.getD j 0).foldl (· + ·) 0 * (s.get R.LIN_GAIN_GAIN n : Int) * (fg : Int)) 30 20
  (ws.map (·.1), (ss.foldl (fun f p => f ||| p.2) 0) ||| 8 * b2n (ws.any (·.2)))

/-- LIN_CFG.MODE as the line takes it: mix-mode on the baseband path is NRZ (R191). -/
def lineMix (s : State) (n : Nat) : Bool := s.flag R.LIN_CFG_MODE n && !s.flag R.LIN_CFG_PATH n

/-- Table LIN-2. -/
def isincSet (mix : Bool) : List Int := if mix then [3600, 300, -60, 20, -6] else [4636, -350, 100, -30, 10]

/-- The DAC codes of the middle of three ticks of gain-stage samples (R187). -/
def dacCodes (s : State) (n : Nat) (before now after : List Int) : List (Int × Bool) :=
  let w := tabGet 0 (before ++ now ++ after)
  (List.range 32).map fun (j : Nat) =>
    let c : Int := 32 + (j : Int)
    if s.flag R.LIN_CFG_ISINC n then
      let h := isincSet (lineMix s n)
      narrow (([-4, -3, -2, -1, 0, 1, 2, 3, 4].map fun (k : Int) => h.getD k.natAbs 0 * w (c + k)).foldl (· + ·) 0) 16 14
    else narrow (w c) 4 14

/-- 32 zero samples. -/
def zeros32 : List Int := List.replicate 32 0

/-- Is the sample of connector tick `c` forced to code 0 (R193, R194)? -/
def forced (l : Line) (c : Nat) : Bool := decide (c < l.passFrom) || (!l.live && decide (l.muteFrom + 12 ≤ c))

/-- Forget granules, bindings and segments that no later synthesis reads. -/
def slotSettle (s : State) (z : Nat) : State :=
  let x := slot s z
  let old := x.binds.filter fun p => decide (p.1 ≤ (s.tick : Int) * 32 - 256)
  let x := { x with grans := x.grans.filter fun g => decide (s.tick < g.s + 12)
                    segs := x.segs.filter fun g => decide (s.tick < g.s + 4 * g.len + 12) }
  setSlot s z (if x.grans = [] ∧ x.segs = [] then { x with binds := x.binds.drop (x.binds.length - 1) }
    else { x with binds := x.binds.drop (old.length - 1) })

/-- The digital chain of line `n` at the end of this tick: the gain stage of synthesis tick now − 2, the DAC codes of now − 3 on
their way to connector tick now + 33 (R175, R195). -/
def lineChain (s : State) (n : Nat) : State :=
  let l := line s n
  let active := (List.range 4).any fun k => (slot s (n * 4 + k)).grans != []
  if !active ∧ l.ws = [] then s
  else
    let w := if active then gainStage s n (s.tick - 2) ((s.now + 2 ^ 64 - 2) % 2 ^ 64) (l.fgs.getD 2 (s.get R.GOV_STATUS_FG n)) else (zeros32, 0)
    let w1 := l.ws.getD 0 (zeros32, 0)
    let w2 := l.ws.getD 1 (zeros32, 0)
    let cs := dacCodes s n w2.1 w1.1 w.1
    let sat := w1.2 ||| 16 * b2n (cs.any (·.2))
    let codes := cs.map (·.1)
    let ws := if active ∨ w1.1 ≠ zeros32 ∨ w2.1 ≠ zeros32 then [w, w1] else []
    setLine s n { l with ws := ws, out := if codes = zeros32 ∧ sat = 0 then l.out else l.out ++ [(s.tick + 33, codes, sat)] }

/-- The samples of this connector tick reach the core and the connector; the governor counts what the core delivers (R189, R213). -/
def lineOut (s : State) (n : Nat) : State :=
  let l := line s n
  let (tap, sat) := ((l.out.find? fun p => p.1 == s.tick).map (·.2)).getD ([], 0)
  let s := s.when (sat != 0) fun s => (s.orf R.LIN_STATUS_SAT sat n).inc R.LIN_SAT_CNT_COUNT n
  let pin := if forced l s.tick then [] else tap
  setLine s n { l with out := l.out.filter (fun p => decide (s.tick < p.1)), tap := tap, pin := pin
                       energy := l.energy + pin.foldl (fun e c => e + c.natAbs * c.natAbs) 0 }

/-- The start tick of a PLAY: its Pauli term is read, its binding takes effect, its markers pulse (R139, R160, R185). -/
def playStart (s : State) (z : Nat) (g : Seg) : State :=
  let b : Bind := { g.bind with z := match g.pauli with
    | some r => bit (sget 0 s.pfuRec r) 1
    | none => false }
  let x := slot s z
  let s := showBind (setSlot s z (bindAt x s.tick b)) z b
  fireMarkers s (z / 8) s.tick g.markers g.mkWidth

/-- What a slot does at the end of a tick: PLAYs that start on it, envelope granules that fall on it. -/
def slotTickEnd (s : State) (z : Nat) : State :=
  let s := forAll ((slot s z).segs.filter fun g => !g.table && g.s == s.tick) s fun s g => playStart s z g
  slotSettle (envGranule s z) z

/-- Where the PLAY that occupies a slot has ended, BUSY falls (R139). -/
def slotTickStart (s : State) (z : Nat) : State := s.set R.TON_SLOT_BUSY (b2n (slotBusy s z)) z

/-! ### Mute (R191, R193, R194) -/

/-- A mute cause becomes active with `m` = this tick as its sampled tick (R193). -/
def muteOn (s : State) (n k : Nat) : State :=
  let s := s.orf R.LIN_STATUS_MUTE_CAUSE (2 ^ k) n
  let l := line s n
  if s.flag R.LIN_STATUS_LIVE n then setLine (s.set R.LIN_STATUS_LIVE 0 n) n { l with live := false, muteFrom := s.tick } else s

/-- A mute cause ends. -/
def muteOff (s : State) (n k : Nat) : State :=
  s.set R.LIN_STATUS_MUTE_CAUSE (s.get R.LIN_STATUS_MUTE_CAUSE n &&& (0x7F - 2 ^ k)) n

/-- Every line of the module. -/
def allLines : List Nat := List.range 256

/-- A cause on every line. -/
def muteAll (s : State) (k : Nat) : State := forAll allLines s fun s n => muteOn s n k

/-- A cause ends on every line. -/
def unmuteAll (s : State) (k : Nat) : State := forAll allLines s fun s n => muteOff s n k

/-- LINE_UNMUTE: the first tick u on which no cause is active; samples from connector tick u + 36 pass (R194). -/
def execLineUnmute (n : Fin 256) (s : State) : Host.Outcome State Fault Refusal :=
  .next (if s.get R.LIN_STATUS_MUTE_CAUSE n.val = 0 ∧ !s.flag R.LIN_STATUS_LIVE n.val ∧ !pntHasLine s n.val then
    setLine (s.set R.LIN_STATUS_LIVE 1 n.val) n.val { line s n.val with live := true, passFrom := s.tick + 36 }
  else s)

/-- PATH_SETTLE_END: 50 µs after a write of PATH its mute cause ends (R191). -/
def execPathSettleEnd (n : Fin 256) (s : State) : Host.Outcome State Fault Refusal :=
  let l := line s n.val
  .next (if s.flag R.LIN_STATUS_PATH_SETTLE n.val ∧ l.settleEnd ≤ s.tick then
    muteOff (setLine (s.set R.LIN_STATUS_PATH_SETTLE 0 n.val) n.val { l with settleEnd := 0 }) n.val 6
  else s)

/-- LIN_CFG was written: CFG_FIX, the software mute cause, and the settling of a change of PATH (R191, R193). -/
def linCfgWritten (before s : State) (n : Nat) : State :=
  let s := s.when (s.flag R.LIN_CFG_MODE n && s.flag R.LIN_CFG_PATH n) fun s => s.set R.LIN_STATUS_CFG_FIX 1 n
  let s := s.when (!(s.flag R.LIN_CFG_MODE n && s.flag R.LIN_CFG_PATH n)) fun s => s.set R.LIN_STATUS_CFG_FIX 0 n
  let s := if s.flag R.LIN_CFG_MUTE n then muteOn s n 1 else muteOff s n 1
  if before.flag R.LIN_CFG_PATH n != s.flag R.LIN_CFG_PATH n then
    let s := muteOn (s.set R.LIN_STATUS_PATH_SETTLE 1 n) n 6
    setLine s n { line s n with settleEnd := s.tick + 20000 }
  else s

/-- SKEW_CLAMP shows FACTORY + USER outside 0 to 255 (R196). -/
def linSkewWritten (s : State) (n : Nat) : State :=
  let d : Int := s.get R.LIN_SKEW_FACTORY n + sgn 8 (s.get R.LIN_SKEW_USER n)
  s.set R.LIN_STATUS_SKEW_CLAMP (b2n (decide (d < 0 ∨ 255 < d))) n

/-! ### The frame port of Chisel `n` (TON_FRM registers) -/

/-- The live context of frame INDEX is copied into the data registers. -/
def frmCopy (s : State) (n : Nat) : State :=
  let c := frmAt s (n * 2048 + s.get R.TON_FRM_INDEX_INDEX n) s.tick
  let s := (s.set R.TON_FRM_FREQ_LO_F_LO c.f n).set R.TON_FRM_FREQ_HI_F_HI (c.f / 2 ^ 32) n
  let s := s.set R.TON_FRM_PHASE_PHI c.phi n
  (s.set R.TON_FRM_T0_LO_T0_LO c.t0 n).set R.TON_FRM_T0_HI_T0_HI (c.t0 / 2 ^ 32) n

/-- COMMIT stores the data registers into both contexts of frame INDEX; with AUTOINC the next frame is copied in. -/
def frmCommit (s : State) (n : Nat) : State :=
  let key := n * 2048 + s.get R.TON_FRM_INDEX_INDEX n
  let c : Frm := ⟨s.get R.TON_FRM_FREQ_LO_F_LO n + s.get R.TON_FRM_FREQ_HI_F_HI n * 2 ^ 32, s.get R.TON_FRM_PHASE_PHI n,
    s.get R.TON_FRM_T0_LO_T0_LO n + s.get R.TON_FRM_T0_HI_T0_HI n * 2 ^ 32⟩
  let s := { s with frmInit := sset {} s.frmInit key c, frmLive := sset {} s.frmLive key c, frmOps := s.frmOps.filter fun o => o.key != key }
  if s.flag R.TON_FRM_INDEX_AUTOINC n then frmCopy (s.set R.TON_FRM_INDEX_INDEX (s.get R.TON_FRM_INDEX_INDEX n + 1) n) n else s

end Sys2Proof.Machine
end

