-- ==== Sys2Proof/Machine/Bias.lean ====
section
/-! DEFINITION. Bias outputs, park causes and the load governor (08_bias_outputs_and_load_governor.md). -/

namespace Sys2Proof.Machine

/-- Bias output `n` beyond its registers. -/
def bias (s : State) (n : Nat) : Bias := sget {} s.biases n

/-- Write bias output `n`. -/
def setBias (s : State) (n : Nat) (b : Bias) : State := { s with biases := sset {} s.biases n b }

/-- A 20-bit code as a signed value (R198). -/
def codeVal (c : Nat) : Int := sgn 20 c

/-- GLIDING: the present code differs from the target in TRACKING. -/
def biasGliding (s : State) (n : Nat) : State :=
  s.set R.BIA_STATUS_GLIDING (b2n (s.get R.BIA_STATUS_STATE n == 2 && s.get R.BIA_CODE_CODE n != s.get R.BIA_TARGET_CODE n)) n

/-- Write the target; the update of this tick still sees the one before (R200). -/
def biasTarget (s : State) (n code : Nat) : State :=
  let b := bias s n
  let s := if b.prevTick = s.tick + 1 then s else setBias s n { b with prev := s.get R.BIA_TARGET_CODE n, prevTick := s.tick + 1 }
  biasGliding (s.set R.BIA_TARGET_CODE code n) n

/-- The present code changes now; the ladder takes it `d` ticks later, and no code that was to come at that tick or after it (R200, R207, Table
BIA-2). -/
def biasCode (s : State) (n code d : Nat) : State :=
  let b := bias s n
  let s := s.set R.BIA_CODE_CODE code n
  biasGliding (setBias s n (if d = 0 then { b with ladder := code, later := [] } else { b with later := (b.later.filter fun q => decide (q.1 < s.tick + d)) ++ [(s.tick + d, code)] })) n

/-- The codes due at the ladders on this tick. -/
def biasLadders (s : State) : State :=
  { s with biases := s.biases.filterMap fun p =>
      let due := p.2.later.filter fun q => decide (q.1 ≤ s.tick)
      let b : Bias := { p.2 with later := p.2.later.filter (fun q => decide (s.tick < q.1)), ladder := (due.getLast?.map (·.2)).getD p.2.ladder }
      if b = {} then none else some (p.1, b) }

/-- The governor event source of line `n` (Table EVF-1). -/
def govSource (n : Nat) : Nat := 1216 + n

/-- GOV enters the shot taint of the Chisel that owns line `n` (R217). -/
def govTaint (s : State) (n : Nat) : State := addShotTaint s (n / 2) (taintOf tGOV 5 n)

/-- A BIAS on line `n`: the target after the clamp of R203. -/
def biasOrder (s : State) (n code : Nat) : State :=
  let k := codeVal code
  let mag : Int := s.get R.GOV_BIAS_MAG_MAG n
  if k > mag ∨ k < -mag then
    let s := biasTarget s n (wrapI (if k > mag then mag else -mag) 20)
    let s := govTaint s n
    if s.flag R.BIA_STATUS_CLAMP n then s else fire (s.set R.BIA_STATUS_CLAMP 1 n) (govSource n)
  else biasTarget s n code

/-- The effective step of R201. -/
def biasStep (s : State) (n : Nat) : Nat :=
  let g := s.get R.GOV_GLIDE_MAX_GMAX n
  let st := s.get R.BIA_GLIDE_STEP n
  if st = 0 ∨ g < st then g else st

/-- One step of the glide of R200. -/
def glide (cur tgt st : Int) : Int := if tgt > cur then min (cur + st) tgt else if tgt < cur then max (cur - st) tgt else cur

/-- Where the re-cast move of output `n` leads from its old park code: by zero when the span changes (R208). -/
def biasMoveKind (s : State) (n : Nat) : Nat := if s.get R.BIA_PARK_SPAN n = s.get R.BIA_CODE_SPAN n then 3 else 1

/-- Output `n` has arrived at the park code of the new image: it latches code and span (R208). -/
def biasArrive (s : State) (n : Nat) : State :=
  let s := (s.set R.BIA_PARK_LATCH_CODE (s.get R.BIA_PARK_CODE n) n).set R.BIA_PARK_LATCH_SPAN (s.get R.BIA_PARK_SPAN n) n
  biasTarget (setBias s n { bias s n with move := 0 }) n (s.get R.BIA_PARK_CODE n)

/-- The update of output `n` on an update tick (R200, R208). MOVE of a re-cast: 4 to the old park code at the old image's effective step (R87), 1
to zero, 2 held at zero, 3 to the new park code. Outside the SWITCH state the output stays at the old park code (R88). -/
def biasUpdate (s : State) (n : Nat) : State :=
  let b := bias s n
  if s.get R.BIA_STATUS_STATE n = 2 ∧ s.quiesceEnd ≠ s.tick + 1 then
    let tgt := match b.move with
      | 0 => if b.prevTick = s.tick + 1 then b.prev else s.get R.BIA_TARGET_CODE n
      | 1 => 0
      | 4 => s.get R.BIA_PARK_LATCH_CODE n
      | _ => s.get R.BIA_PARK_CODE n
    let cur := s.get R.BIA_CODE_CODE n
    let new := wrapI (glide (codeVal cur) (codeVal tgt) (if b.move = 4 then b.step else biasStep s n)) 20
    let s := if new = cur then s else biasCode s n new 20
    if b.move = 1 ∧ new = 0 then
      let s := (s.set R.BIA_CODE_SPAN (s.get R.BIA_PARK_SPAN n) n).set R.BIA_STATUS_STATE 3 n
      biasGliding (setBias s n { bias s n with move := 2, holdEnd := s.tick + 800 }) n
    else if b.move = 4 ∧ new = tgt then
      setBias s n { bias s n with move := if s.get R.BOOT_STATUS_STATE = 9 then biasMoveKind s n else 0 }
    else if b.move = 3 ∧ new = tgt then biasArrive s n
    else s
  else s

/-- BIAS_UPDATE: the ticks whose schedule time is a multiple of 400 (R200). -/
def execBiasUpdate (s : State) : Host.Outcome State Fault Refusal :=
  .next (if ticking s ∧ s.now % 400 = 0 then forAll allLines s biasUpdate else s)

/-- The state of output `n` when no park cause remains: TRACKING, and a re-cast move starts again, from the latched park code even where the hold of
its switch back had not ended (Table BIA-3, R209). -/
def biasFree (s : State) (n : Nat) : State :=
  if s.get R.BIA_STATUS_CAUSE n = 0 ∧ s.get R.BIA_STATUS_STATE n = 1 then
    let s := if (bias s n).holdEnd = 0 then s
      else biasCode (setBias s n { bias s n with holdEnd := 0 }) n (s.get R.BIA_PARK_LATCH_CODE n) 0
    let b := bias s n
    let s := if b.move = 0 then s
      else setBias s n { b with move := if s.get R.BOOT_STATUS_STATE = 9 then biasMoveKind s n else 0 }
    biasGliding (s.set R.BIA_STATUS_STATE 2 n) n
  else s

/-- Park cause `k` of Table BIA-2 starts on output `n`; the ladder has the park code `d` ticks later (R204, R207, R209). -/
def parkOn (s : State) (n k d : Nat) : State :=
  let s := s.orf R.BIA_STATUS_CAUSE (2 ^ k) n
  if s.get R.BIA_STATUS_STATE n = 2 ∨ s.get R.BIA_STATUS_STATE n = 3 then
    let s := s.set R.BIA_STATUS_STATE 1 n
    let lspan := s.get R.BIA_PARK_LATCH_SPAN n
    if s.get R.BIA_CODE_SPAN n ≠ lspan then
      let s := biasCode (s.set R.BIA_CODE_SPAN lspan n) n 0 d
      setBias s n { bias s n with holdEnd := s.tick + 800 }
    else biasCode (setBias s n { bias s n with holdEnd := 0 }) n (s.get R.BIA_PARK_LATCH_CODE n) d
  else s

/-- Park cause `k` ends on output `n`. -/
def parkOff (s : State) (n k : Nat) : State :=
  biasFree (s.set R.BIA_STATUS_CAUSE (s.get R.BIA_STATUS_CAUSE n &&& (0xFF - 2 ^ k)) n) n

/-- SPAN_HOLD_END: the zero hold of a span change ends (R208), or that of the switch back before a park (R209). -/
def execSpanHoldEnd (n : Fin 256) (s : State) : Host.Outcome State Fault Refusal :=
  let b := bias s n.val
  .next (if s.get R.BIA_STATUS_STATE n.val = 3 ∧ b.holdEnd ≤ s.tick then
    biasGliding (setBias (s.set R.BIA_STATUS_STATE 2 n.val) n.val { b with move := 3, holdEnd := 0 }) n.val
  else if s.get R.BIA_STATUS_STATE n.val = 1 ∧ b.holdEnd ≠ 0 then
    biasCode (setBias s n.val { b with holdEnd := 0 }) n.val (s.get R.BIA_PARK_LATCH_CODE n.val) 0
  else s)

/-- The first tick of HOLD: each target becomes the latched park code (R202). -/
def biasHold (s : State) : State := forAll allLines s fun s n => biasTarget s n (s.get R.BIA_PARK_LATCH_CODE n)

/-- The series switches open and the outputs stand disconnected (R71, R210). -/
def biasOpen (s : State) : State :=
  forAll allLines s fun s n => biasGliding (setBias (s.set R.BIA_STATUS_STATE 0 n) n { bias s n with closed := false, move := 0, holdEnd := 0 }) n

/-- QUIESCE_FALL: a falling edge of QUIESCE_N, sampled to this tick q (R193, R204, R205). -/
def execQuiesceFall (s : State) : Host.Outcome State Fault Refusal :=
  let s := { s with quiesce := true, quiesceEnd := 0 }
  .next (forAll allLines (muteAll s 3) fun s n => parkOn s n 0 0)

/-- QUIESCE_RISE: a rising edge of QUIESCE_N, sampled to this tick r; the cause counts in the updates through r (R206). -/
def execQuiesceRise (s : State) : Host.Outcome State Fault Refusal :=
  .next (if s.quiesce then
    forAll allLines (unmuteAll { s with quiesce := false, quiesceEnd := s.tick + 1 } 3) fun s n => parkOff s n 0
  else s)

/-! ### The load governor -/

/-- Window sum `k` of line `l`, 64 bits (R214). -/
def govSum (l : Line) (k : Nat) : Nat :=
  (match k with | 0 => l.sub | 1 => l.ms | _ => l.dms).foldl (· + ·) 0 % 2 ^ 64

/-- Limit `k` of line `n`. -/
def govLim (s : State) (n k : Nat) : Nat := s.get R.GOV_LIM_LO_LIM_LO (3 * n + k) + s.get R.GOV_LIM_HI_LIM_HI (3 * n + k) * 2 ^ 32

/-- GOVERNOR_BOUNDARY: line `n` completes its subblock and forms its window sums; the comparison acts 8 ticks later (R214, R215). -/
def execGovernorBoundary (n : Fin 256) (s : State) : Host.Outcome State Fault Refusal :=
  if ticking s ∧ s.now % 4000 = 0 ∧ mainPowered s then
    let l := line s n.val
    let sub := (l.energy :: l.sub).take 100
    let ms := if s.now % 400000 = 0 then (sub.foldl (· + ·) 0 :: l.ms).take 100 else l.ms
    let dms := if s.now % 40000000 = 0 then (ms.foldl (· + ·) 0 :: l.dms).take 100 else l.dms
    let l := { l with energy := 0, sub := sub, ms := ms, dms := dms }
    let ovr := [0, 1, 2].foldl (fun m k => if govSum l k > govLim s n.val k then m ||| 2 ^ k else m) 0
    let under := [0, 1, 2].all fun k => decide (govSum l k ≤ govLim s n.val k - govLim s n.val k / 8)
    .next (setLine s n.val { l with due := s.tick + 8, overs := ovr, under := under })
  else .next s

/-- Fg moves toward TGT by at most 64 (R215). -/
def fgStep (fg tgt : Nat) : Nat := if fg > tgt then max (fg - 64) tgt else min (fg + 64) tgt

/-- Write Fg; the history the synthesis reads takes it as this tick's. -/
def setFg (s : State) (n fg : Nat) : State :=
  let l := line s n
  let old := s.get R.GOV_STATUS_FG n
  let h := if l.fgTick = s.tick + 1 then fg :: l.fgs.drop 1 else (fg :: (if l.fgs = [] then [old, old] else l.fgs)).take 3
  let s := (s.set R.GOV_STATUS_FG fg n).set R.GOV_STATUS_CLIPPING (b2n (decide (fg < 65536))) n
  setLine s n { l with fgs := if h.all (· == 65536) then [] else h, fgTick := if h.all (· == 65536) then 0 else s.tick + 1 }

/-- The start of a tick for line `n`: the ramp of Fg, and GOV while Fg is reduced or the line is tripped (R215, R217). -/
def govTick (s : State) (n : Nat) : State :=
  let s := setFg s n (fgStep (s.get R.GOV_STATUS_FG n) (s.get R.GOV_TGT_TGT n))
  s.when (decide (s.get R.GOV_STATUS_FG n < 65536) || s.flag R.GOV_STATUS_TRIPPED n) fun s => govTaint s n

/-- The lines whose governor acts on every tick. -/
def govBusy (s : State) : List Nat :=
  (s.listed R.GOV_STATUS_FG ++ s.listed R.GOV_TGT_TGT ++ s.listed R.GOV_STATUS_TRIPPED ++
    (s.lines.filter fun p => p.2.fgs != []).map (·.1)).eraseDups

/-- Set a sticky governor bit; the line's governor event on its 0 to 1 transition (R217). -/
def govSeen (s : State) (n : Nat) (f : Fld) : State := if s.flag f n then s else fire (s.set f 1 n) (govSource n)

/-- A trip (R216). -/
def govTrip (s : State) (n : Nat) : State :=
  if s.flag R.GOV_STATUS_TRIPPED n then s
  else
    let s := govSeen (s.set R.GOV_STATUS_TRIPPED 1 n) n R.GOV_STATUS_TRIP_SEEN
    govTaint (parkOn (muteOn s n 2) n 4 4) n

/-- A clip decision: TGT moves, and Fg from this tick on (R215). -/
def govClip (s : State) (n : Nat) (ovr under : Bool) : State :=
  let t := s.get R.GOV_TGT_TGT n
  let t' := if ovr then t - 8192 else if under then min (t + 2048) 65536 else t
  let s := s.set R.GOV_TGT_TGT t' n
  let s := s.when (decide (t = 65536 ∧ t' < 65536)) fun s => govSeen s n R.GOV_STATUS_CLIP_SEEN
  let l := line s n
  let fg := s.get R.GOV_STATUS_FG n
  let fg0 := if l.fgTick = s.tick + 1 then l.fgs.getD 1 fg else fg
  let s := setFg s n (fgStep fg0 t')
  s.when (decide (s.get R.GOV_STATUS_FG n < 65536)) fun s => govTaint s n

/-- GOVERNOR_ACTION: on tick b + 8 the decision of the boundary acts (R215, R216). -/
def execGovernorAction (n : Fin 256) (s : State) : Host.Outcome State Fault Refusal :=
  let l := line s n.val
  if l.due = s.tick ∧ l.due ≠ 0 then
    let s := setLine s n.val { l with due := 0, overs := 0, under := false }
    let s := s.when (l.overs != 0) fun s => (s.orf R.GOV_STATUS_OVER l.overs n.val).inc R.GOV_OVER_CNT_COUNT n.val
    .next (if s.flag R.GOV_CTRL_ACTION n.val then (if l.overs ≠ 0 then govTrip s n.val else s)
      else govClip s n.val (l.overs != 0) l.under)
  else .next s

/-- A secure write of GOV_CTRL.RELEASE in HOLD releases the trip of line `n` (R219). -/
def govRelease (s : State) (n : Nat) : State :=
  if inHold s ∧ s.flag R.GOV_STATUS_TRIPPED n then parkOff (muteOff (s.set R.GOV_STATUS_TRIPPED 0 n) n 2) n 4 else s

end Sys2Proof.Machine
end

