-- ==== Sys2Proof/Machine/Decide.lean ====
section
/-! DEFINITION. The decision network and the parity and Pauli-frame unit (11_decisions_and_pauli_frames.md). -/

namespace Sys2Proof.Machine

/-! ### Publications -/

/-- Decision bit `b` is published with value `v` and taint `t` on this tick; CLOCK enters the word while an alarm is active (R284,
R285, R118). -/
def decPublish (s : State) (b : Nat) (v : Bool) (t : Taint) : State :=
  let t := if alarmActive s then taintOr t (taintOf tCLOCK 9 0) else t
  let w := b / 64
  let old := sget [] s.decTaint w
  let s := { s with decVal := sset false s.decVal b v, decPub := sset false s.decPub b true
                    decTaint := sset [] s.decTaint w (taintOr old t)
                    pubSeen := s.pubSeen ++ [(s.tick, b, v, taintOr old t)] }
  noteTaint s (t.filter fun p => !bit (taintMask old) p.1)

/-- A whole word is published (R284, R294). -/
def decPublishWord (s : State) (w payload : Nat) (t : Taint) : State :=
  let s := noteTaint s t
  forAll (List.range 64) s fun s i => decPublish s (64 * w + i) (bit payload i) t

/-- A shot start clears the published flags and the word taints (R126, R285). -/
def decShotStart (s : State) : State := { s with decPub := [], decTaint := [] }

/-- DEMOD_PUBLISH is in Inputs; the decision word as published so far, bits not published as 0 (R293). -/
def decPayload (s : State) (w : Nat) : Nat :=
  (List.range 64).foldl (fun p i => if sget false s.decPub (64 * w + i) && sget false s.decVal (64 * w + i) then p + 2 ^ i else p) 0

/-- FIRST_PUB of a declared bit (R286). -/
def decDeclared (s : State) (b : Nat) : Option Nat :=
  match sget 0 s.decDecl b with
  | 0 => none
  | t + 1 => some t

/-- The payload of a transmit entry of KIND 0, and the counts of its declared bits that are not published (R293). -/
def decTransmit (s : State) (w : Nat) : Nat × State :=
  let k := ((List.range 64).filter fun i => !sget false s.decPub (64 * w + i) && (decDeclared s (64 * w + i)).isSome).length
  (decPayload s w, s.when (decide (0 < k)) fun s => (s.inc R.DEC_UNPUB_TX_CNT_COUNT 0 k).set R.DEC_STATUS_UNPUB_TX 1)

/-! ### Parity rounds -/

/-- Word `a` of array `sel` of PARTAB (PFU_MEM_CTRL). -/
def pfuWord (s : State) (sel a : Nat) : Nat := sget 0 s.pfuMem (sel * 2 ^ 20 + a)

/-- Half-word `h` of array `sel`. -/
def pfuHalf (s : State) (sel h : Nat) : Nat := pfuWord s sel (h / 2) / 65536 ^ (h % 2) % 65536

/-- E of slot `r` (Table PFU-3). -/
def slotE (s : State) (r : Nat) : Nat := pfuWord s 0 (4 * r)

/-- The checks of slot `r`. -/
def slotChecks (s : State) (r : Nat) : List Nat :=
  (List.range (pfuWord s 0 (4 * r + 1) / 65536)).map (· + pfuWord s 0 (4 * r + 1) % 65536)

/-- The neighbourhoods of slot `r`. -/
def slotNbhds (s : State) (r : Nat) : List Nat :=
  (List.range (pfuWord s 0 (4 * r + 2) / 65536)).map (· + pfuWord s 0 (4 * r + 2) % 65536)

/-- The decision bits that check `c` reads. -/
def checkInputs (s : State) (c : Nat) : List Nat :=
  ((List.range 8).map fun i => pfuHalf s 1 (8 * c + i)).filterMap fun x => if bit x 15 then some (x % 2048) else none

/-- The inputs of neighbourhood `g` (Table PFU-4). -/
def nbhdInputs (s : State) (g : Nat) : List Nat := (List.range (pfuWord s 2 (16 * g) % 256)).map fun i => pfuHalf s 2 (32 * g + 4 + i)

/-- Target `t` of neighbourhood `g`: valid, Z, X, record. -/
def nbhdTarget (s : State) (g t : Nat) : Bool × Bool × Bool × Nat :=
  let x := pfuWord s 2 (16 * g + 8 + t)
  (bit x 31, bit x 17, bit x 16, x % 65536)

/-- A published bit, or 0 where it is not published in the current shot (R300). -/
def decRead (s : State) (b : Nat) : Bool := sget false s.decPub b && sget false s.decVal b

/-- A round is in progress in slot `r`. -/
def round? (s : State) (r : Nat) : Option Round := sget none s.rounds r

/-- ROUND_EVALUATE: on tick S + E of slot `r` the inputs are sampled with the taints of their words (R296, R297, R300, R304). -/
def execRoundEvaluate (r : Fin 16) (s : State) : Host.Outcome State Fault Refusal :=
  if running s ∧ r.val < s.pfuCnt.headD 0 ∧ shotTick s = slotE s r.val then
    let cs := slotChecks s r.val
    let gs := slotNbhds s r.val
    let ins := cs.flatMap (checkInputs s) ++
      gs.flatMap fun g => (nbhdInputs s g).filterMap fun x => if bit x 15 then some (x % 2048) else none
    let unpub := (ins.filter fun b => !sget false s.decPub b).length
    let taint := ins.foldl (fun t b => taintOr t (sget [] s.decTaint (b / 64))) []
    let taint := if unpub = 0 then taint else taintOr taint (taintOf tCONTRACT 7 r.val)
    let rd : Round := { num := s.pfuNext, e := s.tick, stamp := s.now, shot := s.get R.CLK_SHOT_COUNT
                        vals := cs.map fun c => (checkInputs s c).foldl (fun v b => v != decRead s b) false
                        bits_ := gs.map fun g => (nbhdInputs s g).map fun x => bit x 15 && decRead s (x % 2048)
                        unpub := unpub, taint := taint }
    let s := { s with rounds := sset none s.rounds r.val (some rd), pfuNext := (s.pfuNext + 1) % 2 ^ 32 }
    let s := noteTaint s (if alarmActive s then taintOr taint (taintOf tCLOCK 9 0) else taint)
    let s := (s.set R.PFU_ROUND_ROUND rd.num).set R.PFU_STATUS_FIRST 0
    let s := s.when (decide (0 < unpub)) fun s => (s.inc R.PFU_UNPUB_CNT_COUNT 0 unpub).set R.PFU_STATUS_UNPUB 1
    .next s
  else .next s

/-- The publication entries of PARTAB. -/
def pfuPubs (s : State) : List Nat := (List.range (s.pfuCnt.getD 3 0)).map fun p => pfuWord s 3 p

/-- ROUND_CHECKS: on E + 4 checks and detection events are formed, previous values replaced, parity bits of SRC 0 and 1 published,
and the decoder indexes formed (R297, R299, R301, R304). -/
def execRoundChecks (r : Fin 16) (s : State) : Host.Outcome State Fault Refusal :=
  match round? s r.val with
  | none => .next s
  | some rd =>
    if s.tick ≠ rd.e + 4 ∨ rd.formed then .next s else
    let cs := slotChecks s r.val
    let prev (c : Nat) : Nat := sget 0 s.pfuPrev c
    let events := (cs.zip rd.vals).map fun p => p.2 != (prev p.1 == 2)
    let first := cs.any fun c => prev c == 0
    let ev (c : Nat) : Bool := (cs.zip events).any fun p => p.1 == c && p.2
    let idx := ((slotNbhds s r.val).zip rd.bits_).map fun p =>
      (((nbhdInputs s p.1).zip p.2).zipIdx).foldl (fun n q =>
        if (if bit q.1.1 15 then q.1.2 else ev (q.1.1 % 2048)) then n + 2 ^ q.2 else n) 0
    let s := { s with pfuPrev := (cs.zip rd.vals).foldl (fun m p => sset 0 m p.1 (1 + b2n p.2)) s.pfuPrev
                      rounds := sset none s.rounds r.val (some { rd with events := events, first := first, idx := idx, formed := true }) }
    let t := taintOr rd.taint (clockTaint s rd.e)
    .next (forAll (pfuPubs s) s fun s x =>
      match (cs.zip (rd.vals.zip events)).find? fun p => p.1 == bits x 26 16 with
      | some p => if bits x 14 12 = 0 then decPublish s (1280 + x % 512) p.2.1 t
                  else if bits x 14 12 = 1 then decPublish s (1280 + x % 512) p.2.2 t else s
      | none => s)

/-- The decoder entry that neighbourhood `g` reads at index `i`. -/
def nbhdEntry (s : State) (g i : Nat) : Nat := pfuHalf s 4 (pfuWord s 2 (16 * g + 1) + i)

/-- Does neighbourhood `g` with entry `x` act on target `t`: valid, and flipped? -/
def nbhdFlips (s : State) (g x t : Nat) : Bool := (nbhdTarget s g t).1 && bit x t && !bit x 15

/-- What a round does to one record: flips of X and Z, sets and clears of PEND. -/
structure RecAct where
  x : Bool := false
  z : Bool := false
  pend : Bool := false
  clear : Bool := false
  deriving DecidableEq, Repr

/-- The actions of one neighbourhood, by XOR and OR into those of the others (R302). -/
def nbhdActs (s : State) (m : SMap (Option RecAct)) (g x : Nat) : SMap (Option RecAct) :=
  (List.range 8).foldl (fun m t =>
    let (valid, tz, tx, rec_) := nbhdTarget s g t
    let a := (sget none m rec_).getD {}
    if !valid then m
    else if bit x 15 then sset none m rec_ (some { a with pend := true })
    else
      let a := if bit x t then { a with x := a.x != tx, z := a.z != tz } else a
      let a := if bit x 14 then { a with clear := true } else a
      if bit x t || bit x 14 then sset none m rec_ (some a) else m) m

/-- Pauli-frame record `r` after a round's actions (R302, R303). -/
def recAfter (old num taint : Nat) (a : RecAct) : Nat :=
  let x := (old % 2 + b2n a.x) % 2
  let z := (old / 2 % 2 + b2n a.z) % 2
  let p := if a.pend then 1 else if a.clear then 0 else old / 4 % 2
  x + 2 * z + 4 * p + num % 64 * 256 + taint % 256 * 65536

/-- Count of records with PEND set. -/
def pfuPending (s : State) : State := s.set R.PFU_PENDING_COUNT (s.pfuRec.filter fun p => bit p.2 2).length

/-- ROUND_APPLY: on E + 14 the decoder outputs update the records, bits of SRC 2 and 3 are published, and the round record and the
export records enter the hub result queue (R301 to R304, R307). -/
def execRoundApply (r : Fin 16) (s : State) : Host.Outcome State Fault Refusal :=
  match round? s r.val with
  | none => .next s
  | some rd =>
    if s.tick ≠ rd.e + 14 ∨ !rd.formed then .next s else
    let s := { s with rounds := sset none s.rounds r.val none }
    let t := taintOr rd.taint (clockTaint s rd.e)
    let acts := ((slotNbhds s r.val).zip rd.idx).map fun p => (p.1, p.2, nbhdEntry s p.1 p.2)
    let m := acts.foldl (fun m a => nbhdActs s m a.1 a.2.2) []
    let s := { s with pfuRec := m.foldl (fun q p => sset 0 q p.1 (recAfter (sget 0 q p.1) rd.num (taintMask t) (p.2.getD {}))) s.pfuRec }
    let s := pfuPending s
    let esc := acts.filter fun a => bit a.2.2 15
    let flips := m.foldl (fun n p => n + b2n (p.2.getD {}).x + b2n (p.2.getD {}).z) 0
    let s := s.when (esc != []) fun s => (s.inc R.PFU_ESC_CNT_COUNT 0 esc.length).set R.PFU_STATUS_ESC 1
    let s := forAll (pfuPubs s) s fun s x =>
      match acts.find? fun a => a.1 == bits x 26 16 with
      | some a => if bits x 14 12 = 2 then decPublish s (1280 + x % 512) (nbhdFlips s a.1 a.2.2 (bits x 29 27)) t
                  else if bits x 14 12 = 3 then decPublish s (1280 + x % 512) (bit a.2.2 15) t else s
      | none => s
    let s := noteTaint s t
    let w0f := b2n rd.first + 2 * b2n (decide (0 < rd.unpub)) + 4 * b2n (esc != [])
    let w4 := esc.length * 2 ^ 24 + min flips 4095 * 2 ^ 12 + (rd.events.filter id).length
    let s := pushRec s 24 (mkRec 5 r.val 0 w0f (taintMask t) rd.stamp rd.shot rd.num w4 (min rd.unpub 4095))
    let s := forAll esc s fun s a =>
      let pended := (List.range 8).foldl (fun n k => if (nbhdTarget s a.1 k).1 then n + 2 ^ k else n) 0
      pushRec s 24 (mkRec 6 a.1 0 0 (taintMask t) rd.stamp rd.shot (rd.num % 2 ^ 24 * 4096 + a.2.1) (pended * 1) 0)
    .next (s.when (esc != []) fun s => globalEvent s 11)

/-- The unit resets on each entry to RUN (R298). -/
def pfuReset (s : State) : State :=
  ({ s with pfuPrev := [], pfuRec := [], pfuNext := 0, rounds := [] }.set R.PFU_STATUS_FIRST 1).set R.PFU_PENDING_COUNT 0
    |>.set R.PFU_ROUND_ROUND 0

/-- With SHOT_RESET a shot start clears the previous values and the records (R298). -/
def pfuShotStart (s : State) : State :=
  if s.flag R.PFU_CTRL_SHOT_RESET then ({ s with pfuPrev := [], pfuRec := [] }.set R.PFU_STATUS_FIRST 1).set R.PFU_PENDING_COUNT 0 else s

/-! ### The read ports -/

/-- DEC_MEM_DATA_READ: a declaration or a binding (DEC_MEM_CTRL, DEC_MEM_DATA). -/
def decMemRead (s : State) : Nat × State :=
  let a := s.get R.DEC_MEM_CTRL_ADDR
  let v := match s.get R.DEC_MEM_CTRL_SEL with
    | 0 => if a < 2048 then (match decDeclared s a with | some t => t | none => 0xFFFFFFFF) else 0
    | 1 => match sget 0 s.dmap a with
      | 0 => 0
      | b + 1 => 2 ^ 31 + b
    | _ => 0
  (v, s.when (s.flag R.DEC_MEM_CTRL_AUTOINC) fun s => s.set R.DEC_MEM_CTRL_ADDR (a + 1))

/-- PFU_MEM_DATA_READ: a PARTAB word (PFU_MEM_CTRL, PFU_MEM_DATA). -/
def pfuMemRead (s : State) : Nat × State :=
  let a := s.get R.PFU_MEM_CTRL_ADDR
  let sel := s.get R.PFU_MEM_CTRL_SEL
  (if sel < 5 then pfuWord s sel a else 0, s.when (s.flag R.PFU_MEM_CTRL_AUTOINC) fun s => s.set R.PFU_MEM_CTRL_ADDR (a + 1))

/-- PFU_REC_DATA_READ: a Pauli-frame record (PFU_REC_INDEX, PFU_REC_DATA). -/
def pfuRecRead (s : State) : Nat × State :=
  let a := s.get R.PFU_REC_INDEX_INDEX
  (sget 0 s.pfuRec a, s.when (s.flag R.PFU_REC_INDEX_AUTOINC) fun s => s.set R.PFU_REC_INDEX_INDEX (a + 1))

end Sys2Proof.Machine
end

