-- ==== Sys2Proof/Machine/Inputs.lean ====
section
/-! DEFINITION. Read-out inputs, Patina, demodulators, result-tag and demodulator records (09_readout_inputs.md). Raw converter
codes come from outside: the commands that need them carry them (log 15). -/

namespace Sys2Proof.Machine

/-- Patina of input `n`. -/
def patina (s : State) (n : Nat) : Patina := sget {} s.patinas n

/-- Write Patina of input `n`. -/
def setPatina (s : State) (n : Nat) (p : Patina) : State := { s with patinas := sset {} s.patinas n p }

/-- The result queue of an input die (Table HST-1). -/
def inputQueue (n : Nat) : Nat := 16 + n / 8

/-- ZONE as the input takes it: 3 is taken as 0 (Table INP-1). -/
def zoneOf (z : Nat) : Nat := if z = 3 then 0 else z

/-! ### Correction sets (R483) -/

/-- The fields of one zone's set: 8 OFF, 8 GAIN, 8 TAPS, 56 FIR coefficients, as (item, field, instance). -/
def zoneFields (n : Nat) : List (Nat × Fld × Nat) :=
  (List.range 8).map (fun q => (q, R.INP_SLC_OFF_BASE, 8 * n + q)) ++ (List.range 8).map (fun q => (8 + q, R.INP_SLC_GAIN_BASE, 8 * n + q)) ++
  (List.range 8).map (fun q => (16 + q, R.INP_SLC_SKEW_TAPS, 8 * n + q)) ++ (List.range 56).map (fun j => (24 + j, R.INP_FIR_H, 56 * n + j))

/-- Where item `i` of the set of zone `z` of input `n` is kept. -/
def zoneKey (n z i : Nat) : Nat := (n * 3 + z) * 128 + i

/-- A change of ZONE: the sets stay, and the registers show the new zone's set (R483). -/
def zoneSwap (s : State) (n zOld zNew : Nat) : State :=
  let s := { s with zoneSets := (zoneFields n).foldl (fun m p => sset 0 m (zoneKey n zOld p.1) (s.get p.2.1 p.2.2 + 1)) s.zoneSets }
  forAll (zoneFields n) s fun s p =>
    match sget 0 s.zoneSets (zoneKey n zNew p.1) with
    | 0 => s.clr p.2.1 p.2.2
    | v + 1 => s.set p.2.1 v p.2.2

/-! ### Corrected samples (R224) -/

/-- The deltas that apply to a sample of connector tick `c`, newest first in the history (R226). -/
def patAt (s : State) (n c : Nat) : Pat := ((patina s n).hist.find? fun p => decide (p.from_ ≤ c)).getD ⟨0, [], []⟩

/-- The correction values that applied to a sample of connector tick `c`, where they are no longer the present ones (R225). -/
def corrPast (s : State) (n c : Nat) : Option Corr := ((patina s n).base.filter fun r => decide (c < r.upto)).getLast?

/-- The present correction values of input `n`, for samples before this tick. -/
def corrNow (s : State) (n : Nat) : Corr :=
  { upto := s.tick
    off := (List.range 8).map fun q => s.get R.INP_SLC_OFF_BASE (8 * n + q)
    gain := (List.range 8).map fun q => s.get R.INP_SLC_GAIN_BASE (8 * n + q)
    fir := (List.range 56).map fun j => s.get R.INP_FIR_H (56 * n + j)
    dead := s.flag R.INP_CFG_OFF n
    settleFrom := (patina s n).settleFrom
    settleEnd := (patina s n).settleEnd }

/-- The correction values of input `n` changed on this tick: what stood in `before` stays with the samples before it (R224, R225, R236). A value
applies to the samples whose connector tick is the tick of its write or later, as R226 says of deltas. -/
def corrNote (before s : State) (n : Nat) : State :=
  let r := corrNow before n
  if r = corrNow s n ∨ s.tick = 0 then s
  else
    let p := patina s n
    if p.base.any fun b => b.upto == s.tick then s
    else setPatina s n { p with base := r :: p.base.filter fun b => decide (s.tick ≤ b.upto + 70000) }

/-- OFF of slice `q` for a sample of connector tick `c`. -/
def offAt (s : State) (n q c : Nat) : Int :=
  sgn 16 (match corrPast s n c with
    | some r => r.off.getD q 0
    | none => s.get R.INP_SLC_OFF_BASE (8 * n + q)) + (patAt s n c).off.getD q 0

/-- GAIN of slice `q` for a sample of connector tick `c`. -/
def gainAt (s : State) (n q c : Nat) : Int :=
  ((match corrPast s n c with
    | some r => r.gain.getD q 0
    | none => s.get R.INP_SLC_GAIN_BASE (8 * n + q) : Nat) : Int) + (patAt s n c).gain.getD q 0

/-- Coefficient `j` of input `n` for a sample of connector tick `c`. -/
def firAt (s : State) (n j c : Nat) : Int :=
  sgn 18 (match corrPast s n c with
    | some r => r.fir.getD j 0
    | none => s.get R.INP_FIR_H (56 * n + j))

/-- Was a sample of connector tick `c` taken while the input is off or settling (R223, R236)? -/
def noInput (s : State) (n c : Nat) : Bool :=
  match corrPast s n c with
  | some r => r.dead || decide (r.settleFrom ≤ c ∧ c < r.settleEnd)
  | none => s.flag R.INP_CFG_OFF n || decide ((patina s n).settleFrom ≤ c ∧ c < (patina s n).settleEnd)

/-- The corrected sample of input sample time `u` (local ticks × 16), from the raw codes `x`; zero while the input is off or
settling (R224, R236). -/
def corrected (s : State) (n : Nat) (x : Int → Int) (u : Nat) : Int × Bool :=
  let q := u % 8
  if noInput s n (u / 16) then (0, false)
  else
    let v := ([-3, -2, -1, 0, 1, 2, 3] : List Int).foldl (fun v k =>
      let p := ((u : Int) + k).toNat
      v + firAt s n (7 * q + (k + 3).toNat) (u / 16) * (x p * 16 - offAt s n (p % 8) (p / 16))) 0
    narrow (v * gainAt s n q (u / 16)) 28 16

/-- The raw codes of an operand that starts at sample time `u0`. -/
def codesFrom (u0 : Int) (l : List (BitVec 12)) (u : Int) : Int := if u < u0 then 0 else (l.getD (u - u0).toNat 0).toInt

/-! ### Demodulation (R234, R237, R240) -/

/-- Schedule time of local tick `c`, at or near this tick. -/
def schedAt (s : State) (c : Nat) : Nat := (s.now + 2 ^ 64 + c - s.tick) % 2 ^ 64

/-- The frequency word of demodulator `d`. -/
def dmdF (s : State) (d : Nat) : Nat := s.get R.DMD_FREQ_LO_F_LO d + s.get R.DMD_FREQ_HI_F_HI d * 2 ^ 32

/-- The 24-bit phase of a sample (R234). -/
def dmdPhase (f phi u : Nat) : Nat := (phi * 2 ^ 16 + f * (u % 2 ^ 64)) % 2 ^ 48 / 2 ^ 24

/-- The decimated sample formed from the 32 corrected samples of connector ticks `c` and `c + 1`: I, Q, the flag SAT_DEC, and
whether any of them saturated in correction. -/
def decimated (s : State) (d : Nat) (x : Int → Int) (c : Nat) : Int × Int × Bool × Bool :=
  let n := d / 16
  let ys := (List.range 32).map fun j =>
    let y := corrected s n x (16 * c + j)
    let th := dmdPhase (dmdF s d) (s.get R.DMD_PHASE_PHI d) (schedAt s c * 16 + j)
    (y.1 * oscC th, y.1 * oscS th, y.2)
  let i := narrow (ys.foldl (fun a y => a + y.1) 0) 19 18
  let q := narrow (ys.foldl (fun a y => a - y.2.1) 0) 19 18
  (i.1, q.1, i.2 || q.2, ys.any fun y => y.2.2)

/-- Weight `j` of demodulator `d`: I and Q (R237). -/
def weight (s : State) (d j : Nat) : Int × Int := let w := sget 0 s.kmem (d * 4096 + j); (sgn 18 (w / 2 ^ 18), sgn 18 w)

/-- The integration of R237: the two narrowed results and SAT_INT. -/
def integrate (s : State) (d : Nat) (ds : List (Int × Int)) : Int × Int × Bool :=
  let a := ds.zipIdx.foldl (fun (a : Int × Int) p =>
    let w := weight s d p.2
    (a.1 + p.1.1 * w.1 - p.1.2 * w.2, a.2 + p.1.1 * w.2 + p.1.2 * w.1)) (0, 0)
  let i := narrow a.1 12 36
  let q := narrow a.2 12 36
  (i.1, q.1, i.2 || q.2)

/-- Axis component (axis, c) of demodulator `d`. -/
def axisOf (s : State) (d a c : Nat) : Int := sgn 18 (s.get R.DMD_AX_VALUE (4 * d + 2 * a + c))

/-- Threshold `j` of demodulator `d`. -/
def threshold (s : State) (d j : Nat) : Int := sgn 36 (s.get R.DMD_T_VALUE (3 * d + j))

/-- The discriminator (R240, Table DMD-3): the state, MARGIN and SAT_PROJ. -/
def discriminate (s : State) (d : Nat) (i q : Int) : Nat × Bool × Bool :=
  let p0 := narrow (i * axisOf s d 0 0 + q * axisOf s d 0 1) 17 36
  let p1 := narrow (i * axisOf s d 1 0 + q * axisOf s d 1 1) 17 36
  let t (j : Nat) := threshold s d j
  let margin := decide ((p0.1 - t 0).natAbs < t 2)
  let sat := p0.2 || p1.2
  match s.get R.DMD_CFG_MODE d with
  | 1 => (b2n (decide (p0.1 ≥ t 0)), margin, sat)
  | 2 => (b2n (decide (p0.1 ≥ t 0)) + b2n (decide (p0.1 ≥ t 1)) + b2n (decide (p0.1 ≥ t 2)), false, sat)
  | 3 => (b2n (decide (p0.1 ≥ t 0)) + 2 * b2n (decide (p1.1 ≥ t 1)), false, sat)
  | 4 => (if p1.1 ≥ t 1 then 2 else b2n (decide (p0.1 ≥ t 0)), margin, sat)
  | _ => (0, false, sat)

/-! ### Windows -/

/-- The windows of demodulator `d`. -/
def wins (s : State) (d : Nat) : List Win := sget [] s.windows d

/-- Write the windows of demodulator `d`. -/
def setWins (s : State) (d : Nat) (l : List Win) : State := { s with windows := sset [] s.windows d l }

/-- The window end e (R235). -/
def winEnd (w : Win) : Nat := w.o + 2 * w.len - 1

/-- A window that Chisel `n` finds ordered on this tick by a higher-numbered Chisel: that one's command is delivered after its own (R144). -/
def winLater (s : State) (n : Nat) (w : Win) : Bool := w.issued == s.tick && decide (n < w.chisel)

/-- Check 7: the window on this demodulator is still open at the open tick (Table GLB-21). -/
def winOverlap (s : State) (n d : Nat) : Bool := (wins s d).any fun w => decide (s.tick + 6 ≤ winEnd w) && !winLater s n w

/-- The WINDOWs of higher-numbered Chisels on this tick find the demodulator's window open, and are dropped under check 7 (R144). -/
def winDisplace (s : State) (n d : Nat) : State :=
  let late := (wins s d).filter (winLater s n)
  forAll late (setWins s d ((wins s d).filter fun w => !winLater s n w)) fun s w => chiselViolation s w.chisel [7] w.pc

/-- A WINDOW issued by Chisel `n` at `pc` (R144, R235). -/
def orderWindow (s : State) (n d len pc : Nat) : State :=
  let s := winDisplace s n d
  setWins s d (wins s d ++ [{ o := s.tick + 6, len := if len = 0 then 4096 else len, chisel := n, pc := pc, taint := shotTaint s n
                              issued := s.tick, shot := s.get R.CLK_SHOT_COUNT, t0 := schedAt s (s.tick + 6) }])

/-- OPEN of DMD_STATUS, and windows whose publication tick has passed leave. -/
def winTick (s : State) (d : Nat) : State :=
  let l := (wins s d).filter fun w => decide (s.tick ≤ winEnd w + 14)
  (setWins s d l).set R.DMD_STATUS_OPEN (b2n (l.any fun w => w.opened && decide (w.o ≤ s.tick ∧ s.tick ≤ winEnd w))) d

/-- WINDOW_OPEN: the ordered window opens on tick t + 6 (R235). -/
def execWindowOpen (n : Fin 64) (k : Fin 16) (s : State) : Host.Outcome State Fault Refusal :=
  let d := 16 * n.val + k.val
  .next (if (wins s d).any fun w => w.o == s.tick then
    (setWins s d ((wins s d).map fun w => if w.o = s.tick then { w with opened := true } else w)).set R.DMD_STATUS_OPEN 1 d
  else s)

/-- The first tick of HOLD: windows still open end there, with no record, publication or count (R243). -/
def winHold (s : State) : State :=
  forAll (s.windows.map (·.1)) s fun s d => (setWins s d ((wins s d).filter fun w => decide (winEnd w < s.tick))).set R.DMD_STATUS_OPEN 0 d

/-- An overranged sample within the span, or its self marks (R232, R233). -/
def ovrSelf (s : State) (n lo hi : Nat) : Bool := s.ovrs.any fun p => p.1 == n && decide (p.2 ≤ hi ∧ lo ≤ p.2 + 20)

/-- A neighbour mark of another input of the die within the span (R232, R233). -/
def ovrNeigh (s : State) (n lo hi : Nat) : Bool := s.ovrs.any fun p => p.1 != n && p.1 / 8 == n / 8 && decide (p.2 ≤ hi ∧ lo ≤ p.2 + 77)

/-- A sample of connector tick `c` or later is before the CONV tick of its input (R227). -/
def unconv (s : State) (n c : Nat) : Bool := (patina s n).convAt == 0 || decide (c + 1 < (patina s n).convAt)

/-- OVR and UNCONV over a span of samples from `lo` to `hi`, with the cause they name (R233, R227, Table GLB-39). -/
def spanTaint (s : State) (n lo hi blk inst : Nat) : Taint :=
  taintOr (if ovrSelf s n lo hi || ovrNeigh s n lo hi then taintOf tOVR blk inst else [])
    (if unconv s n (lo / 16) then taintOf tUNCONV blk inst else [])

/-- SAT flags of DMD_STATUS set on the completion tick; input source 3 for the first after a clear (R245). -/
def dmdSat (s : State) (d : Nat) (dec int proj : Bool) : State :=
  let set1 (s : State) (f : Fld) (b : Bool) : State := if b then s.set f 1 d else s
  let before := s.flag R.DMD_STATUS_SAT_DEC d || s.flag R.DMD_STATUS_SAT_INT d || s.flag R.DMD_STATUS_SAT_PROJ d
  let s := set1 (set1 (set1 s R.DMD_STATUS_SAT_DEC dec) R.DMD_STATUS_SAT_INT int) R.DMD_STATUS_SAT_PROJ proj
  s.when ((dec || int || proj) && !before) fun s => fire s (512 + 4 * (d / 16) + 3)

/-- SAT_COR of INP_STATUS (R224). -/
def satCor (s : State) (n : Nat) (b : Bool) : State := s.when b fun s => s.set R.INP_STATUS_SAT_COR 1 n

/-- WINDOW_RESULT: on e + 8 the integration is narrowed and discriminated, and the record enters the result queue of the die. `codes`
are the raw codes from sample time 16 (o − 14) − 3 on (R234 to R240, R245, R246). -/
def execWindowResult (n : Fin 64) (k : Fin 16) (codes : List (BitVec 12)) (s : State) : Host.Outcome State Fault Refusal :=
  let d := 16 * n.val + k.val
  match (wins s d).find? fun w => winEnd w + 8 == s.tick && w.result.isNone with
  | none => .next s
  | some w =>
    let c := w.o - 14
    let x := codesFrom ((c : Int) * 16 - 3) codes
    let ds := (List.range w.len).map fun j => decimated s d x (c + 2 * j)
    let r := integrate s d (ds.map fun p => (p.1, p.2.1))
    let st := discriminate s d r.1 r.2.1
    let dec := ds.any fun p => p.2.2.1
    let lo := 16 * c - 3
    let hi := 16 * (c + 2 * w.len) + 2
    let fl := b2n (ovrSelf s n.val lo hi) + 2 * b2n (ovrNeigh s n.val lo hi) + 4 * b2n dec + 8 * b2n r.2.2 + 16 * b2n st.2.2 +
      32 * b2n st.2.1 + 64 * b2n (noInput s n.val c)
    let t := taintOr (taintOr w.taint (spanTaint s n.val lo hi 4 d)) (clockTaint s w.issued)
    let s := satCor s n.val (ds.any fun p => p.2.2.2)
    let s := dmdSat s d dec r.2.2 st.2.2
    let s := (s.inc R.DMD_WIN_CNT_COUNT d).set R.DMD_LAST_VALUE (wrapI r.1 36) (2 * d)
    let s := s.set R.DMD_LAST_VALUE (wrapI r.2.1 36) (2 * d + 1)
    let s := setWins s d ((wins s d).map fun v => if v = w then { w with result := some (st.1, t), flags := fl } else v)
    let s := noteTaint s t
    let w5 := w.pc % 2 ^ 15 * 2 ^ 20 + w.len % 4096 * 16 + st.1
    .next (pushRec s (inputQueue n.val) (mkRec 1 d w.chisel fl (taintMask t) ((w.t0 + 2 ^ 64 - 14) % 2 ^ 64) w.shot (wrapI r.1 36) (wrapI r.2.1 36) w5))

/-- DEMOD_PUBLISH: on e + 14 the state bits are published under PUB (R242, R243). -/
def execDemodPublish (n : Fin 64) (k : Fin 16) (s : State) : Host.Outcome State Fault Refusal :=
  let d := 16 * n.val + k.val
  match (wins s d).find? fun w => winEnd w + 14 == s.tick with
  | none => .next s
  | some w =>
    match w.result with
    | none => .next s
    | some (st, t) =>
      .next (match s.get R.DMD_CFG_PUB d with
        | 0 => decPublish s d (bit st 0) t
        | 1 => decPublish (decPublish s (d / 2 * 2) (bit st 0) t) (d / 2 * 2 + 1) (bit st 1) t
        | _ => s)

/-- The result-tag record of an EMIT by Chisel `n` (R247). -/
def tagRecord (s : State) (n pc g tag : Nat) : State :=
  let t := taintOr (shotTaint s n) (clockTaint s s.tick)
  pushRec (noteTaint s t) (n / 8) (mkRec 2 n n 0 (taintMask t) s.now (s.get R.CLK_SHOT_COUNT) g (tag % 2 ^ 16) (pc % 2 ^ 15 * 2 ^ 20))

/-! ### Overrange (R231 to R233) -/

/-- The first overranged sample since a clear sets OVR, captures its connector tick `c`, and fires input event source 0 (R233). -/
def ovrFirst (s : State) (n c : Nat) : State :=
  if s.flag R.INP_STATUS_OVR n then s
  else
    let t := schedAt s c
    let s := (s.set R.INP_STATUS_OVR 1 n).set R.INP_OVR_FIRST_LO_TICK_LO t n
    fire (s.set R.INP_OVR_FIRST_HI_TICK_HI (t / 2 ^ 32) n) (512 + 4 * n)

/-- INP_STATUS was written: an overranged sample of this demodulator-time tick is taken by the capture that a clear of OVR arms again (R233). -/
def inpStatusWritten (s : State) (n : Nat) : State :=
  if s.ovrs.any fun p => p.1 == n && p.2 / 16 + 14 == s.tick then ovrFirst s n (s.tick - 14) else s

/-- OVERRANGE: on tick c + 14 the overranged samples of connector tick c of input `n` are known; bit j of `mask` is position j. -/
def execOverrange (n : Fin 64) (mask : BitVec 16) (s : State) : Host.Outcome State Fault Refusal :=
  if mask = 0 ∨ s.flag R.INP_CFG_OFF n.val ∨ s.tick < 14 then .next s else
  let c := s.tick - 14
  let new := ((List.range 16).filter fun j => mask.getLsbD j).map fun j => (n.val, 16 * c + j)
  let s := { s with ovrs := (s.ovrs.filter fun (p : Nat × Nat) => decide (16 * s.tick < p.2 + 16 * 10000)) ++ new }
  let s := s.inc R.INP_OVR_CNT_COUNT n.val
  let s := forAll ((List.range 8).filter fun i => 8 * (n.val / 8) + i != n.val) s fun s i => s.set R.INP_STATUS_OVR_NEIGH 1 (8 * (n.val / 8) + i)
  .next (ovrFirst s n.val c)

/-! ### Patina (R226 to R230) -/

/-- The largest magnitude `m` a value may have (R226). -/
def clampTo (m x : Int) : Int := max (-m) (min m x)

/-- Set a W1C bit 2, 3 or 4 of INP_STATUS; input source 2 on its 0 to 1 transition. -/
def patinaBit (s : State) (n : Nat) (f : Fld) : State := if s.flag f n then s else fire (s.set f 1 n) (512 + 4 * n + 2)

/-- The DELTA fields show the applied deltas. -/
def showDeltas (s : State) (n : Nat) (off gain : List Int) : State :=
  forAll (List.range 8) s fun s q =>
    (s.set R.INP_SLC_OFF_DELTA (wrapI (off.getD q 0) 9) (8 * n + q)).set R.INP_SLC_GAIN_DELTA (wrapI (gain.getD q 0) 9) (8 * n + q)

/-- Patina of every input where the count of samples starts on local tick `t` (R227, R230). -/
def patinasFrom (t : Nat) : SMap Patina := if t = 0 then [] else (List.range 64).map fun n => (n, { lastAt := t })

/-- Patina restarts: deltas zero, count zero, CONV clear (R230). -/
def patinaRestart (s : State) (n : Nat) : State :=
  let p := patina s n
  showDeltas (setPatina (s.set R.INP_STATUS_CONV 0 n) n
    { p with count := 0, off := [], gain := [], convAt := 0, lastAt := s.tick, hist := if p.hist = [] then [] else (⟨s.tick, [], []⟩ :: p.hist).take 3 }) n [] []

/-- Sum over a histogram of raw codes. -/
def histSum (h : List (BitVec 12 × Nat)) (f : Int → Int) : Int := h.foldl (fun a p => a + f p.1.toInt * (p.2 : Int)) 0

/-- Four 9-bit signed fields of a Patina update record (R248). -/
def fields9 (l : List Int) (i : Nat) : Nat := (List.range 4).foldl (fun w r => w + wrapI (l.getD (4 * i + r) 0) 9 * 2 ^ (9 * r)) 0

/-- The two records of an update (R248). -/
def patinaRecords (s : State) (n : Nat) (off gain : List Int) : State :=
  let rec_ (p : Nat) (l : List Int) : Rec := mkRec 3 n 0 p 0 s.now (s.get R.CLK_SHOT_COUNT) (fields9 l 0) (fields9 l 1) 0
  pushRec (pushRec s (inputQueue n) (rec_ 0 off)) (inputQueue n) (rec_ 1 gain)

/-- Insert a number into a rising list, once. -/
def insertUp (x : Nat) : List Nat → List Nat
  | [] => [x]
  | y :: l => if x < y then x :: y :: l else if x = y then y :: l else y :: insertUp x l

/-- The first ticks of the stretches of the interval just ended over which one set of base values and deltas applied (R226): one stretch, unless a
write or a commit fell in the interval. -/
def patinaParts (s : State) (n : Nat) : List Nat :=
  let p := patina s n
  let cuts := (p.base.map (·.upto) ++ p.hist.map (·.from_)).filter fun t => decide (p.lastAt < t ∧ t < s.tick)
  cuts.foldl (fun l t => insertUp t l) [p.lastAt]

/-- The histograms of slice `q` in an operand that holds eight for each stretch, in order, each with the first tick of its stretch. -/
def patinaHists (s : State) (n : Nat) (hs : List (List (BitVec 12 × Nat))) (q : Nat) : List (Nat × List (BitVec 12 × Nat)) :=
  (patinaParts s n).zipIdx.map fun p => (p.1, hs.getD (8 * p.2 + q) [])

/-- The sample count of a slice. -/
def histCount (hs : List (Nat × List (BitVec 12 × Nat))) : Nat := hs.foldl (fun a h => h.2.foldl (fun a p => a + p.2) a) 0

/-- The mean of a value over the samples of the interval: the value itself where it did not change. DESIGN CHOICE (log 46): R226 writes one
OFF[q] and one GAIN[q] where a write fell in the interval. -/
def patinaMean (hs : List (Nat × List (BitVec 12 × Nat))) (f : Nat → Int) : Int :=
  match hs with
  | [h] => f h.1
  | _ =>
    if histCount hs = 0 then f ((hs.getLast?.map (·.1)).getD 0)
    else divEven (hs.foldl (fun a h => a + h.2.foldl (fun a p => a + f h.1 * (p.2 : Int)) 0) 0) (histCount hs)

/-- A[q] of R226: each sample against the OFF that applied to it. -/
def patinaAbs (s : State) (n : Nat) (hs : List (List (BitVec 12 × Nat))) (q : Nat) : Int :=
  (patinaHists s n hs q).foldl (fun a h => a + histSum h.2 fun x => ((x * 16 - offAt s n q h.1).natAbs : Int)) 0

/-- The new deltas of the listing of R226, and whether the gain part was skipped. -/
def patinaDeltas (s : State) (n : Nat) (hs : List (List (BitVec 12 × Nat))) : List Int × List Int × Bool :=
  let p := patina s n
  let dOff := (List.range 8).map fun q =>
    let h := patinaHists s n hs q
    let m := (narrow (h.foldl (fun a h => a + histSum h.2 fun x => x * 16) 0) 17 20).1
    clampTo 255 (p.off.getD q 0 + (narrow (m - patinaMean h (offAt s n q)) 4 12).1)
  let a := (List.range 8).map (patinaAbs s n hs)
  let abar := (narrow (a.foldl (· + ·) 0) 3 40).1
  let enough := decide (abar ≥ 64 * (2 ^ 17 : Nat))
  let dGain := if enough then (List.range 8).map fun q =>
      let aq := a.getD q 0
      let e := patinaMean (patinaHists s n hs q) (gainAt s n q) * (abar - aq)
      clampTo 255 (p.gain.getD q 0 + (if aq = 0 then 0 else divEven e (16 * aq).toNat))
    else p.gain
  (dOff, dGain, !enough)

/-- A slice whose mean magnitude is 0 gives a quotient the listing does not state: its gain delta is a free value. -/
def patinaFree (s : State) (n : Nat) (hs : List (List (BitVec 12 × Nat))) (gain : List Int) : List Int × State :=
  (List.range 8).foldl (fun (p : List Int × State) q =>
    if patinaAbs s n hs q = 0 then
      let (v, s) := p.2.free
      (p.1 ++ [((v % 511 : Nat) : Int) - 255], s)
    else (p.1 ++ [gain.getD q 0], p.2)) ([], s)

/-- Has a delta reached its limit (R226)? -/
def patinaAtLimit (l : List Int) : Bool := l.any fun x => x.natAbs == 255

/-- The skew estimates of R226: a service-plane reading whose arithmetic the manual does not give; free values. -/
def patinaSkew (s : State) (n : Nat) : State :=
  let s := forAll (List.range 8) s fun s q => let (v, s) := s.free; s.set R.INP_SLC_SKEW_ESTIMATE v (8 * n + q)
  let lim : Int := (s.get R.INP_SKEW_LIMIT_TAPS n : Int) * 16
  s.when ((List.range 8).any fun q => decide (((sgn 12 (s.get R.INP_SLC_SKEW_ESTIMATE (8 * n + q))).natAbs : Int) > lim)) fun s =>
    patinaBit s n R.INP_STATUS_SKEW_DRIFT

/-- PATINA_UPDATE: an update tick of input `n` (schedule time a multiple of 65,536). `hs` is the histogram of the raw codes of each
slice since the last update (eight for each stretch of `patinaParts`), `ovr` whether an overranged sample was among them (R226 to R229, R248). -/
def execPatinaUpdate (n : Fin 64) (hs : List (List (BitVec 12 × Nat))) (ovr : Bool) (s : State) : Host.Outcome State Fault Refusal :=
  if !(mainPowered s) ∨ s.flag R.INP_CFG_OFF n.val ∨ s.flag R.INP_CFG_PATINA_HOLD n.val ∨ s.now % 65536 ≠ 0 then .next s else
  let n := n.val
  let p := patina s n
  let count := p.count + 16 * (s.tick - p.lastAt)
  let before := (patAt s n s.tick).off ++ (patAt s n s.tick).gain
  let d := patinaDeltas s n hs
  let (gain, s) := if ovr ∨ d.2.2 then (p.gain, s) else patinaFree s n hs d.2.1
  let off := if ovr then p.off else d.1
  let s := s.when (ovr || d.2.2) fun s => patinaBit s n R.INP_STATUS_PATINA_SKIP
  let s := s.when (!ovr && (patinaAtLimit off || (!d.2.2 && patinaAtLimit gain))) fun s => patinaBit s n R.INP_STATUS_PATINA_LIMIT
  let conv := s.flag R.INP_STATUS_CONV n || decide (2 ^ 20 ≤ count)
  let newConv := conv && !s.flag R.INP_STATUS_CONV n
  let s := setPatina s n { p with count := count, off := off, gain := gain, lastAt := s.tick
                                  convAt := if newConv then s.tick + 1 else p.convAt
                                  hist := if conv then (⟨s.tick, off, gain⟩ :: p.hist).take 3 else p.hist }
  let s := s.when newConv fun s =>
    let s := (s.set R.INP_STATUS_CONV 1 n).set R.INP_CONV_LO_TICK_LO s.now n
    fire (s.set R.INP_CONV_HI_TICK_HI (s.now / 2 ^ 32) n) (512 + 4 * n + 1)
  let s := s.when conv fun s => showDeltas s n off gain
  let s := patinaSkew s n
  let pad (l : List Int) : List Int := (List.range 8).map fun q => l.getD q 0
  let changed := conv && decide (pad (before.take 8) ++ pad (before.drop 8) ≠ pad off ++ pad gain)
  .next (s.when (s.flag R.INP_CFG_PATINA_LOG n && changed) fun s => patinaRecords s n off gain)

/-! ### Zone and power changes -/

/-- INP_CFG was written: a change of ZONE or OFF settles for 100 µs, and Patina restarts (R223, R230, R483). -/
def inpCfgWritten (before s : State) (n : Nat) : State :=
  let z0 := zoneOf (before.get R.INP_CFG_ZONE n)
  let z1 := zoneOf (s.get R.INP_CFG_ZONE n)
  let zone := before.get R.INP_CFG_ZONE n != s.get R.INP_CFG_ZONE n
  let off := before.flag R.INP_CFG_OFF n != s.flag R.INP_CFG_OFF n
  let s := s.when (z0 != z1) fun s => zoneSwap s n z0 z1
  let s := s.when (zone || off) fun s =>
    setPatina (s.set R.INP_STATUS_SETTLE 1 n) n { patina s n with settleFrom := s.tick, settleEnd := s.tick + 40000 }
  let s := corrNote before s n
  s.when (zone || (before.flag R.INP_CFG_OFF n && !s.flag R.INP_CFG_OFF n)) fun s => patinaRestart s n

/-- INPUT_SETTLE_END: 100 µs after the change the input delivers samples again (R223). -/
def execInputSettleEnd (n : Fin 64) (s : State) : Host.Outcome State Fault Refusal :=
  .next (if s.flag R.INP_STATUS_SETTLE n.val ∧ (patina s n.val).settleEnd ≤ s.tick then s.set R.INP_STATUS_SETTLE 0 n.val else s)

/-! ### The kernel port -/

/-- The kernel weight an access of INP_KMEM_DATA of input `n` names. -/
def kmemKey (s : State) (n : Nat) : Nat := (16 * n + s.get R.INP_KMEM_CTRL_TONE n) * 4096 + s.get R.INP_KMEM_CTRL_ADDR n

/-- The address after an access. -/
def kmemNext (s : State) (n : Nat) : State :=
  s.when (s.flag R.INP_KMEM_CTRL_AUTOINC n) fun s => s.set R.INP_KMEM_CTRL_ADDR (s.get R.INP_KMEM_CTRL_ADDR n + 1) n

/-- A read of INP_KMEM_DATA. -/
def kmemRead (s : State) (n : Nat) : Nat × State := (sget 0 s.kmem (kmemKey s n), kmemNext s n)

/-- A write of INP_KMEM_DATA. -/
def kmemWrite (s : State) (n v : Nat) : State := kmemNext { s with kmem := sset 0 s.kmem (kmemKey s n) (v % 2 ^ 36) } n

end Sys2Proof.Machine
end

