-- ==== Sys2Proof/Machine/Capture.lean ====
section
/-! DEFINITION. Capture units (12_capture_and_timing_inputs.md R308 to R324). A unit evaluates the samples of capture time X on tick
X + 24; raw converter codes come with the command that evaluates them (log 15). -/

namespace Sys2Proof.Machine

/-- Unit `u`. -/
def cap (s : State) (u : Nat) : Cap := sget {} s.caps u

/-- Write unit `u`. -/
def setCap (s : State) (u : Nat) (c : Cap) : State := { s with caps := sset {} s.caps u c }

/-- Change unit `u`. -/
def updCap (s : State) (u : Nat) (f : Cap → Cap) : State := setCap s u (f (cap s u))

/-- Capture event source `k` of unit `u`: 0 TRIGGER, 1 DONE, 2 REJECT, 3 LOST. -/
def capFire (s : State) (u k : Nat) : State := fire s (896 + 4 * u + k)

/-- Codes of Table ACQ-2. -/
def capIdle : Nat := 0
def capFilling : Nat := 1
def capArmed : Nat := 2
def capRecording : Nat := 3
def capDead : Nat := 4
def capStopped : Nat := 5

/-- ACQ_STATUS.STATE. -/
def capState (s : State) (u : Nat) : Nat := s.get R.ACQ_STATUS_STATE u

/-- PRE and POST of unit `u`. -/
def capPre (s : State) (u : Nat) : Nat := s.get R.ACQ_PRE_PRE u
def capPost (s : State) (u : Nat) : Nat := s.get R.ACQ_POST_POST_M1 u + 1

/-- AREA (R315). -/
def capArea (s : State) (u : Nat) : Nat :=
  let n := capPre s u + capPost s u
  match s.get R.ACQ_CTRL_SRC u with
  | 1 => n
  | 3 => 2 * n
  | _ => (n + 2) / 2

/-- The source is packed two samples to a word (Table ACQ-1). -/
def capPairs (s : State) (u : Nat) : Bool := s.get R.ACQ_CTRL_SRC u == 0 || s.get R.ACQ_CTRL_SRC u == 2

/-- HBM address of slot `w` of the ring (R316). -/
def capSlotAddr (s : State) (u w : Nat) : Nat :=
  s.get R.ACQ_RING_LO_ADDR u * 2 ^ 12 + s.get R.ACQ_RING_HI_ADDR u * 2 ^ 32 + w % max (s.get R.ACQ_SLOTS_NSLOT u) 1 * 2 ^ s.get R.ACQ_SLOTS_SLOT_LOG2 u

/-- Is condition `k`'s SEL in range for its KIND (Table ACQ-3)? -/
def condSelOk (kind sel : Nat) : Bool :=
  match kind with
  | 1 => decide (sel < 32)
  | 3 => true
  | 4 => decide (sel < 512)
  | 6 | 7 => false
  | _ => true

/-- The configuration errors of R322. -/
def capCfgErr (s : State) (u : Nat) : Bool :=
  let src := s.get R.ACQ_CTRL_SRC u
  let sel := s.get R.ACQ_CTRL_SEL u
  let log2 := s.get R.ACQ_SLOTS_SLOT_LOG2 u
  decide (([64, 1024, 256, 32] : List Nat).getD src 0 ≤ sel) || ((src == 1 || src == 3) && s.get R.ACQ_CTRL_DECIM u != 0) ||
  decide (5 < s.get R.ACQ_CTRL_DECIM u) ||
  ((List.range 8).any fun k =>
    let kind := s.get R.ACQ_COND_KIND (8 * u + k)
    (kind == 2 && src == 3) || !condSelOk kind (s.get R.ACQ_COND_SEL (8 * u + k))) ||
  decide (4194304 < capPre s u + capPost s u) || decide (log2 < 12 ∨ 30 < log2) || decide (2 ^ log2 < capArea s u * 8 + 128) ||
  s.get R.ACQ_SLOTS_NSLOT u == 0

/-- Unit `u` takes part in the run: enabled, with no configuration error. -/
def capOn (s : State) (u : Nat) : Bool := s.flag R.ACQ_CTRL_ENABLE u && !s.flag R.ACQ_STATUS_CFG_ERR u

/-- Entry to RUN (R311, R314, R316, R322): counters of the run return to 0 and the configuration is checked. -/
def capRun (s : State) : State :=
  forAll (List.range 16) s fun s u =>
    let s := ((s.set R.ACQ_RD_INDEX 0 u).set R.ACQ_WR_INDEX 0 u).set R.ACQ_REC_CNT_COUNT 0 u
    let s := s.set R.ACQ_STATUS_CFG_ERR (b2n (s.flag R.ACQ_CTRL_ENABLE u && capCfgErr s u)) u
    updCap (s.set R.ACQ_STATUS_STATE capIdle u) u fun c => { out := c.out, sent := c.sent }

/-- The first tick of HOLD: capture time HOLD is the first on which the unit is IDLE (R321, R310). -/
def capHold (s : State) : State :=
  forAll (List.range 16) s fun s u => s.when (capOn s u) fun s => updCap s u fun c => { c with holdAt := s.tick + 1 }

/-- What this tick was for unit `u`, kept for its evaluation 24 ticks on (R308, R310, R320). -/
def capTickEnd (s : State) (u : Nat) : State :=
  if !capOn s u || !mainPowered s then s else
  let sel := s.get R.ACQ_CTRL_SEL u
  let (vals, t) : List Int × Taint := match s.get R.ACQ_CTRL_SRC u with
    | 2 => ((line s sel).tap, shotTaint s (sel / 2))
    | 3 => ([(decPayload s sel : Int)], sget [] s.decTaint sel)
    | _ => ([], [])
  let k : CapTick := ⟨s.tick, s.now, s.get R.CLK_SHOT_COUNT, running s && s.shotStart == s.tick, vals, t, alarmActive s⟩
  updCap s u fun c => { c with hist := c.hist.filter (fun h => decide (s.tick ≤ h.tick + 30)) ++ [k] }

/-! ### Conditions (R312 to R314) -/

/-- Does the KIND 5 condition name schedule time `x`: S + ARG of some shot of the run? -/
def shotTickMet (s : State) (x arg : Nat) : Bool :=
  let begin_ := s.get R.GLB_SCHED_BEGIN_LO_TIME_LO + s.get R.GLB_SCHED_BEGIN_HI_TIME_HI * 2 ^ 32
  let len := s.get R.GLB_SCHED_LEN_TICKS
  let count := s.get R.GLB_SCHED_COUNT_LO_COUNT_LO + s.get R.GLB_SCHED_COUNT_HI_COUNT_HI * 2 ^ 32
  decide (begin_ + arg ≤ x) && len != 0 && (x - begin_ - arg) % max len 1 == 0 &&
    (count == 0 || decide ((x - begin_ - arg) / max len 1 < count)) && decide (2 ≤ s.get R.GLB_SCHED_STATUS_STATE)

/-- Is condition `k`, of a kind with tick resolution, met for local tick `t`, schedule time `x`? -/
def tickCond (s : State) (u k t x : Nat) : Bool :=
  let sel := s.get R.ACQ_COND_SEL (8 * u + k)
  match s.get R.ACQ_COND_KIND (8 * u + k) with
  | 1 => s.tinSeen.any fun e => e.tin == sel && e.e == t
  | 3 => s.pubSeen.any fun p => p.1 == t && p.2.1 == sel && p.2.2.1 == s.flag R.ACQ_COND_VALUE (8 * u + k)
  | 4 => s.fired.any fun f => f.ch == sel && f.tick == t
  | 5 => shotTickMet s x (s.get R.ACQ_ARG_ARG (8 * u + k))
  | _ => false

/-- The conditions met for the `n` ticks from local tick `t`, schedule time `x`, as a mask. -/
def tickMask (s : State) (u t x n : Nat) : Nat :=
  (List.range 8).foldl (fun m k => if (List.range n).any fun i => tickCond s u k (t + i) (x + i) then m + 2 ^ k else m) 0

/-- One KIND 2 condition on a kept sample (R314): met, ru, rd. -/
def levelCond (slope : Nat) (level hyst v : Int) (ru rd : Bool) : Bool × Bool × Bool :=
  let up := bit slope 0 && ru && decide (v ≥ level)
  let dn := bit slope 1 && rd && decide (v ≤ level)
  (up || dn, (ru && !up) || decide (v < level - hyst), (rd && !dn) || decide (v > level + hyst))

/-- Every KIND 2 condition of unit `u` on a kept sample with values `v`, `w` (COMP 1 takes `w`): the mask, ru, rd. -/
def levelMask (s : State) (u : Nat) (v w : Int) (ru rd : Nat) : Nat × Nat × Nat :=
  (List.range 8).foldl (fun (a : Nat × Nat × Nat) k =>
    let i := 8 * u + k
    if s.get R.ACQ_COND_KIND i = 2 then
      let arg := s.get R.ACQ_ARG_ARG i
      let comp := s.flag R.ACQ_COND_COMP i && s.get R.ACQ_CTRL_SRC u == 1
      let r := levelCond (s.get R.ACQ_COND_SLOPE i) (sgn 18 arg) (bits arg 31 18) (if comp then w else v) (bit ru k) (bit rd k)
      (a.1 + 2 ^ k * b2n r.1, a.2.1 + 2 ^ k * b2n r.2.1, a.2.2 + 2 ^ k * b2n r.2.2)
    else a) (0, 0, 0)

/-! ### The capture queue (R318) -/

/-- Capture words in the queue. -/
def capQueued (c : Cap) : Nat := c.out.foldl (fun n o => if o.hdr then n else n + o.words.length) 0

/-- A data block found the capture queue full (R318). -/
def capDrop (s : State) (u : Nat) : State := capFire ((s.inc R.ACQ_GAP_CNT_COUNT u).set R.ACQ_STATUS_GAP 1 u) u 3

/-- The block being filled leaves for the capture queue; one that finds the queue full is dropped (R318). -/
def capFlush (s : State) (u : Nat) : State :=
  let c := cap s u
  if c.blk = [] then s
  else if capQueued c + 16 ≤ 4096 then setCap s u { c with out := c.out ++ [⟨false, c.blk, 0⟩], blk := [] }
  else
    capDrop (setCap s u { c with blk := [], drops := c.drops ++ [c.lastW] }) u

/-- The place of word `w` in slot `slot`: data offset w mod AREA behind the 128-byte header (R315, R316). -/
def capPlace (s : State) (u slot w : Nat) : Nat := capSlotAddr s u slot + 128 + 8 * (w % max (capArea s u) 1)

/-- Word `w` goes to its place in slot `slot`. -/
def capWord (s : State) (u slot w v : Nat) : State :=
  let s := updCap s u fun c => { c with blk := c.blk ++ [(capPlace s u slot w, v)], lastW := w }
  if 16 ≤ (cap s u).blk.length then capFlush s u else s

/-- The last block of a record stands before its header, the last one in the queue. -/
def capBefore (o : CapOut) : List CapOut → List CapOut
  | [] => [o]
  | h :: l => if h.hdr && l.all fun x => !x.hdr then o :: h :: l else h :: capBefore o l

/-- The last header in the queue counts a dropped block: FLAGS.GAP and H11 (R318, Table ACQ-4). -/
def capGapped : List CapOut → List CapOut
  | [] => []
  | h :: l =>
    if h.hdr && l.all fun x => !x.hdr then
      { h with words := h.words.zipIdx.map fun p => (p.1.1, if p.2 = 0 then p.1.2 ||| 2 ^ 8 else if p.2 = 11 then p.1.2 + 1 else p.1.2) } :: l
    else h :: capGapped l

/-- The last block of a record leaves, with its last word where `v` has it; dropped, it still counts in the header, which has waited (R318). -/
def capTailEnd (s : State) (u : Nat) (v : Option Nat) : State :=
  let c := cap s u
  match c.tail with
  | none => s
  | some t =>
    let ws := t.words ++ (v.map fun v => (capPlace s u t.slot t.w, v)).toList
    if ws = [] then setCap s u { c with tail := none }
    else if capQueued c + 16 ≤ 4096 then setCap s u { c with tail := none, out := capBefore ⟨false, ws, 0⟩ c.out }
    else capDrop (setCap s u { c with tail := none, out := capGapped c.out }) u

/-- A record is lost (R316). -/
def capLose (s : State) (u : Nat) : State :=
  let s := updCap s u fun c => { c with lost := c.lost + 1 }
  capFire ((s.inc R.ACQ_LOST_CNT_COUNT u).set R.ACQ_STATUS_LOST 1 u) u 3

/-- The slot given to a record on its arm tick, if one is free (R316). -/
def capGiveSlot (s : State) (u : Nat) : Option Nat :=
  if ((cap s u).ws + 2 ^ 32 - s.get R.ACQ_RD_INDEX u) % 2 ^ 32 < s.get R.ACQ_SLOTS_NSLOT u then some (cap s u).ws else none

/-- The unit arms with arm tick `a` (R311, R316, R317). -/
def capArm (s : State) (u a : Nat) : State :=
  let slot := capGiveSlot s u
  updCap (s.set R.ACQ_STATUS_STATE capFilling u) u fun c => { c with armT := a, kept := 0, slot := slot, drops := [], blk := [] }

/-! ### Triggers (R311, R315, R319) -/

/-- A trigger is rejected (R311). -/
def capReject (s : State) (u reason x sub : Nat) : State :=
  let s := updCap s u fun c => { c with rej := c.rej + 1 }
  let s := if reason = 1 then s.inc R.ACQ_REJ_FILL_CNT_COUNT u else s.inc R.ACQ_REJ_BUSY_CNT_COUNT u
  if s.flag R.ACQ_STATUS_REJ u then s
  else
    let s := (s.set R.ACQ_STATUS_REJ 1 u).set R.ACQ_REJ_FIRST_VALID 1 u
    let s := (s.set R.ACQ_REJ_FIRST_REASON reason u).set R.ACQ_REJ_FIRST_SUB sub u
    capFire ((s.set R.ACQ_REJ_TLO_TICK_LO x u).set R.ACQ_REJ_THI_TICK_HI (x / 2 ^ 32) u) u 2

/-- The capture time of kept sample `q`, in schedule ticks (R309). -/
def capSpanStart (s : State) (u q : Nat) : Nat :=
  let d := 2 ^ s.get R.ACQ_CTRL_DECIM u
  match s.get R.ACQ_CTRL_SRC u with
  | 0 => q * d / 16
  | 1 => 2 * q
  | 2 => q * d / 32
  | _ => q

/-- The span end of kept sample `q`, in schedule ticks (R309). -/
def capSpanEnd (s : State) (u q : Nat) : Nat :=
  let d := 2 ^ s.get R.ACQ_CTRL_DECIM u
  match s.get R.ACQ_CTRL_SRC u with
  | 0 => q * d / 16 + 1
  | 1 => 2 * q + 2
  | 2 => q * d / 32 + 1
  | _ => q + 1

/-- First and last word of the samples `qf` to `ql` (Table ACQ-1). -/
def capWords (s : State) (u qf ql : Nat) : Nat × Nat :=
  match s.get R.ACQ_CTRL_SRC u with
  | 1 => (qf, ql)
  | 3 => (2 * qf, 2 * ql + 1)
  | _ => (qf / 2, ql / 2)

/-- H4 of a trigger: SUB, and the edge of the lowest-numbered KIND 1 condition in the mask (Table ACQ-4). -/
def capH4 (s : State) (u mask sub t : Nat) : Nat × Bool :=
  match (List.range 8).find? fun k => bit mask k && s.get R.ACQ_COND_KIND (8 * u + k) == 1 with
  | none => (sub, false)
  | some k =>
    match s.tinSeen.find? fun e => e.tin == s.get R.ACQ_COND_SEL (8 * u + k) && decide (t ≤ e.e ∧ e.e ≤ t + 1) with
    | none => (sub, false)
    | some e => (sub + e.fine * 2 ^ 5 + e.tin * 2 ^ 14 + (e.e - t) * 2 ^ 19, true)

/-- The taints of the words that carry the bits of the KIND 3 conditions in the mask, on the trigger ticks (R320). -/
def capCondTaint (s : State) (u mask t n : Nat) : Taint :=
  (List.range 8).foldl (fun a k =>
    if bit mask k && s.get R.ACQ_COND_KIND (8 * u + k) == 3 then
      s.pubSeen.foldl (fun a p =>
        if decide (t ≤ p.1 ∧ p.1 < t + n) && p.2.1 / 64 == s.get R.ACQ_COND_SEL (8 * u + k) / 64 then taintOr a p.2.2.2 else a) a
    else a) []

/-- A trigger is accepted on kept sample `q` of tick `h` (R311, R315, R319). -/
def capAccept (s : State) (u : Nat) (h : CapTick) (mask sub q n : Nat) : State :=
  let c := cap s u
  let pre := capPre s u
  let ql := q + capPost s u - 1
  let (wf, wl) := capWords s u (q - pre) ql
  let (h4, tinf) := capH4 s u mask sub h.tick
  let r : CapRec := { slot := c.slot, x := h.now, shot := h.shot, mask := mask, h4 := h4, tinf := tinf
                      number := s.get R.ACQ_REC_CNT_COUNT u, dead := match c.prevEnd with | some e => c.armT - e | none => 0
                      rej := c.rej, qf := q - pre, ql := ql, wf := wf, wl := wl, t0 := h.tick + capSpanStart s u (q - pre) - h.now, endT := h.tick + capSpanEnd s u ql - h.now
                      taint := capCondTaint s u mask h.tick n }
  let s := updCap (s.inc R.ACQ_REC_CNT_COUNT u) u fun c => { c with rec_ := some r, rej := 0 }
  let s := s.set R.ACQ_STATUS_STATE capRecording u
  let s := s.when c.slot.isNone fun s => capLose s u
  capFire s u 0

/-- One kept sample (R308, R311 to R315): position, index, value, second value, the mask of tick conditions it covers. -/
structure CapSample where
  sub : Nat
  q : Nat
  v : Int
  w : Int
  mask : Nat
  deriving DecidableEq, Repr

/-- The words the sample completes, while the unit writes sample data, up to the last one of a record; a word of two samples needs both
(Table ACQ-1, R315). -/
def capStore (s : State) (u : Nat) (h : CapTick) (x : CapSample) : State :=
  let c := cap s u
  let st := capState s u
  let active := st == capFilling || st == capArmed || st == capRecording
  let put (s : State) (w v : Nat) : State :=
    match (if active && c.rec_.all fun r => decide (w ≤ r.wl) then c.slot else none) with
    | some k => capWord s u k w v
    | none => s
  match s.get R.ACQ_CTRL_SRC u with
  | 1 => put s x.q (wrapI x.v 18 * 2 ^ 18 + wrapI x.w 18)
  | 3 =>
    let p := x.v.toNat
    let s := put s (2 * x.q) (p % 2 ^ 36)
    put s (2 * x.q + 1) (p / 2 ^ 36 % 2 ^ 28 + taintMask h.taint % 256 * 2 ^ 28)
  | _ =>
    if x.q % 2 = 0 then updCap s u fun c => { c with half := x.v }
    else
      let v := wrapI c.half 18 * 2 ^ 18 + wrapI x.v 18
      put (if c.tail.any fun t => t.w == x.q / 2 then capTailEnd s u (some v) else s) (x.q / 2) v

/-- One kept sample through the unit. -/
def capSample (u n : Nat) (h : CapTick) (s : State) (x : CapSample) : State :=
  let c := cap s u
  let (lm, ru, rd) := levelMask s u x.v x.w c.ru c.rd
  let mask := x.mask ||| lm
  let s := setCap s u { c with ru := ru, rd := rd }
  let s := s.when (capState s u == capFilling && decide (capPre s u ≤ c.kept)) fun s => s.set R.ACQ_STATUS_STATE capArmed u
  let s := capStore s u h x
  let s := if mask = 0 then s else match capState s u with
    | 1 => capReject s u 1 h.now x.sub
    | 2 => capAccept s u h mask x.sub x.q n
    | 3 => capReject s u 2 h.now x.sub
    | 4 => capReject s u 3 h.now x.sub
    | _ => s
  updCap s u fun c => { c with kept := min (c.kept + 1) 2097152, nextQ := x.q + 1 }

/-- The kept samples of capture tick `h` (Table ACQ-1), from the raw codes of the operand where the source is a converter. -/
def capSamples (s : State) (u : Nat) (h : CapTick) (codes : List (BitVec 12)) : List CapSample :=
  let sel := s.get R.ACQ_CTRL_SEL u
  let d := 2 ^ s.get R.ACQ_CTRL_DECIM u
  let x := codesFrom ((h.tick : Int) * 16 - 3) codes
  let many (per : Nat) (v : Nat → Int) : List CapSample :=
    (List.range per).filterMap fun j =>
      let r := per * h.now + j
      if r % d = 0 then some ⟨j, r / d, v j, 0, if j = 0 then tickMask s u h.tick h.now 1 else 0⟩ else none
  match s.get R.ACQ_CTRL_SRC u with
  | 0 => many 16 fun j => (corrected s (sel % 64) x (16 * h.tick + j)).1
  | 1 =>
    if h.now % 2 = 0 then
      let y := decimated s (sel % 1024) x h.tick
      [⟨0, h.now / 2, y.1, y.2.1, tickMask s u h.tick h.now 2⟩]
    else []
  | 2 => many 32 fun j => h.vals.getD j 0
  | _ => [⟨0, h.now, h.vals.getD 0 0, 0, tickMask s u h.tick h.now 1⟩]

/-- The taint that kept sample `x` of tick `h` gives a record (R320). -/
def capSampleTaint (s : State) (u : Nat) (h : CapTick) (x : CapSample) : Taint :=
  let sel := s.get R.ACQ_CTRL_SEL u
  match s.get R.ACQ_CTRL_SRC u with
  | 0 => spanTaint s (sel % 64) (16 * h.tick + x.sub) (16 * h.tick + x.sub) 0x0A u
  | 1 => spanTaint s (sel / 16 % 64) (16 * h.tick - 3) (16 * h.tick + 34) 0x0A u
  | _ => h.taint

/-- What the kept samples `xs` of tick `h` and a clock alarm on it give the records that hold them, for as long as one may (R320). -/
def capTaints (s : State) (u : Nat) (h : CapTick) (xs : List CapSample) : State :=
  let q := ((xs.getLast?).map (·.q)).getD 0
  let n := capPre s u + capPost s u
  let ts := (xs.map fun x => (x.q, capSampleTaint s u h x)).filter fun p => !p.2.isEmpty
  updCap s u fun c => { c with
    taints := c.taints.filter (fun p => decide (q ≤ p.1 + n)) ++ ts
    clocks := c.clocks.filter (fun k => decide (h.tick ≤ k + 2 * n + 64)) ++ (if h.clk then [h.tick] else []) }

/-- Did a sample of tick `h` saturate in correction (R224)? -/
def capSat (s : State) (u : Nat) (h : CapTick) (codes : List (BitVec 12)) : Bool :=
  let sel := s.get R.ACQ_CTRL_SEL u
  let x := codesFrom ((h.tick : Int) * 16 - 3) codes
  match s.get R.ACQ_CTRL_SRC u with
  | 0 => (List.range 16).any fun j => (corrected s (sel % 64) x (16 * h.tick + j)).2
  | 1 => h.now % 2 == 0 && (decimated s (sel % 1024) x h.tick).2.2.2
  | _ => false

/-! ### Record ends -/

/-- The header of a record, H0 to H15 (Table ACQ-4). -/
def capHeader (s : State) (u : Nat) (r : CapRec) (cut : Bool) (nw : Nat) (t : Taint) : List Nat :=
  let c := cap s u
  let gap := (c.drops.filter fun w => decide (r.wf ≤ w ∧ w < r.wf + nw)).length
  let prim := ((List.range 8).find? fun k => bit r.mask k).getD 0
  let fl := b2n (decide (0 < gap)) + 2 * b2n (decide (0 < c.lost)) + 4 * b2n r.tinf + 8 * b2n cut
  [s.get R.ACQ_CTRL_SRC u * 2 ^ 32 + u * 2 ^ 28 + r.mask * 2 ^ 20 + prim * 2 ^ 17 + fl * 2 ^ 8 + taintMask t, r.x % 2 ^ 36,
   r.x / 2 ^ 36 % 16 * 2 ^ 32 + r.shot % 2 ^ 32, r.x / 2 ^ 40, r.h4, r.number % 2 ^ 32, min r.dead (2 ^ 36 - 1), 0,
   r.wf % max (capArea s u) 1, nw, c.lost % 2 ^ 32, gap, capPre s u, capPost s u, r.rej % 2 ^ 32, 0]

/-- The record's taint: what its samples gave, the condition bits, and CLOCK from the capture time of its first sample to the end tick `e` (R320). -/
def capTaint (s : State) (u : Nat) (r : CapRec) (e : Nat) : Taint :=
  let c := cap s u
  let t := c.taints.foldl (fun a p => if r.qf ≤ p.1 ∧ p.1 ≤ r.ql then taintOr a p.2 else a) r.taint
  let clk := (c.clocks.any fun k => decide (r.t0 ≤ k ∧ k ≤ e)) || c.hist.any fun h => h.clk && decide (r.t0 ≤ h.tick ∧ h.tick ≤ e)
  if clk then taintOr t (taintOf tCLOCK 9 0) else t

/-- Does the record end before the second sample of its last word (Table ACQ-1)? -/
def capLate (s : State) (u : Nat) (r : CapRec) : Bool := capPairs s u && r.ql % 2 == 0 && decide ((cap s u).nextQ < r.ql + 2)

/-- A record ends on capture tick `e` with `nw` words: the rest of its data and its header leave (R315 to R318). -/
def capEnd (s : State) (u : Nat) (r : CapRec) (cut : Bool) (nw e : Nat) : State :=
  let late := !cut && capLate s u r
  let s := if late then s else capFlush s u
  let t := capTaint s u r e
  let s := noteTaint s t
  let s := updCap s u fun c => { c with rec_ := none, prevEnd := some e }
  match r.slot with
  | none => s
  | some k =>
    let c := cap s u
    if 16 ≤ (c.out.filter (·.hdr)).length + c.sent.length then capFlush (capLose (s.inc R.GLB_RESULT_DROP_CNT_COUNT) u) u
    else
      let ws := (c.ws + 1) % 2 ^ 32
      let hs := (capHeader s u r cut nw t).zipIdx.map fun p => (capSlotAddr s u k + 8 * p.2, p.1)
      setCap s u { c with out := c.out ++ [⟨true, hs, ws⟩], ws := ws, lost := 0, blk := []
                          tail := if late then some ⟨k, r.wl, c.blk⟩ else none }

/-- CAPTURE_RECORD_END: 24 ticks after the end tick the unit enters DEAD, or STOPPED with REARM 3 (R315, R317). -/
def execCaptureRecordEnd (u : Fin 16) (s : State) : Host.Outcome State Fault Refusal :=
  .next (match (cap s u.val).rec_ with
    | none => s
    | some r =>
      if r.endT + 24 = s.tick ∧ capState s u.val = capRecording then
        let s := capEnd s u.val r false (r.wl - r.wf + 1) r.endT
        let s := s.set R.ACQ_STATUS_STATE (if s.get R.ACQ_CTRL_REARM u.val = 3 then capStopped else capDead) u.val
        capFire s u.val 1
      else s)

/-- Is capture tick `x` the re-arm tick A′ of a DEAD unit (R317)? -/
def capRearmAt (s : State) (u x : Nat) : Bool :=
  let c := cap s u
  match c.prevEnd with
  | none => false
  | some e =>
    let from_ := e + s.get R.ACQ_HOLDOFF_TICKS u
    match s.get R.ACQ_CTRL_REARM u with
    | 0 => x == from_
    | 1 => decide (from_ ≤ x) && c.hist.any fun h => h.tick == x && h.start
    | 2 => decide (from_ ≤ x) && s.fired.any fun f => f.tick == x && f.ch == s.get R.ACQ_CTRL_ARM_CH u
    | _ => false

/-- CAPTURE_REARM: 24 ticks after the re-arm tick the unit enters FILLING (R317). -/
def execCaptureRearm (u : Fin 16) (s : State) : Host.Outcome State Fault Refusal :=
  .next (if capState s u.val = capDead ∧ 24 ≤ s.tick ∧ capRearmAt s u.val (s.tick - 24) then capArm s u.val (s.tick - 24) else s)

/-- Capture time HOLD: a record in RECORDING is cut and the unit enters IDLE (R321). The last word of a record that has ended is not written where
its second sample is of HOLD (DESIGN CHOICE, log 46). -/
def capCut (s : State) (u e : Nat) : State :=
  let s := capTailEnd s u none
  let c := cap s u
  let s := match c.rec_ with
    | some r => capEnd s u r true (c.lastW + 1 - r.wf) e
    | none => s
  updCap (s.set R.ACQ_STATUS_STATE capIdle u) u fun c => { out := c.out, sent := c.sent }

/-- CAPTURE_EVALUATE: on tick X + 24 unit `u` evaluates the samples of capture time X (R310 to R314). `codes` are the raw codes from
sample time 16 X − 3 on, for SRC 0 and 1. -/
def execCaptureEvaluate (u : Fin 16) (codes : List (BitVec 12)) (s : State) : Host.Outcome State Fault Refusal :=
  let c := cap s u.val
  if c.holdAt ≠ 0 ∧ c.holdAt + 23 = s.tick then .next (capCut s u.val (c.holdAt - 1))
  else match c.hist.find? fun h => h.tick + 24 == s.tick with
    | none => .next s
    | some h =>
      let s := s.when (h.start && capState s u.val == capIdle) fun s => capArm s u.val h.tick
      let xs := capSamples s u.val h codes
      let n := if s.get R.ACQ_CTRL_SRC u.val = 1 then 2 else 1
      let s := updCap s u.val fun c => { c with hist := c.hist.filter fun k => decide (h.tick < k.tick) }
      let sel := s.get R.ACQ_CTRL_SEL u.val
      let s := satCor s (if s.get R.ACQ_CTRL_SRC u.val = 0 then sel % 64 else sel / 16 % 64) (capSat s u.val h codes)
      .next (forAll xs (capTaints s u.val h xs) (capSample u.val n h))

/-! ### Delivery -/

/-- CAPTURE_BLOCK_WRITE: the oldest block of the capture queue leaves; data words reach HBM, a header is on its way, unless it waits for the last
block of its record (R318). -/
def execCaptureBlockWrite (u : Fin 16) (s : State) : Host.Outcome State Fault Refusal :=
  let c := cap s u.val
  .next (if s.xtalFail then s else match c.out with
    | [] => s
    | o :: rest =>
      if o.hdr && c.tail.isSome then s
      else if o.hdr then setCap s u.val { c with out := rest, sent := c.sent ++ [o] }
      else dataBeat (setCap s u.val { c with out := rest }) (instSecure s (512 + u.val)) o.words)

/-- CAPTURE_HEADER_WRITTEN: the oldest header on its way reaches HBM and ACQ_WR takes the new WS (R316). -/
def execCaptureHeaderWritten (u : Fin 16) (s : State) : Host.Outcome State Fault Refusal :=
  let c := cap s u.val
  .next (if s.xtalFail then s else match c.sent with
    | [] => s
    | o :: rest =>
      let s := dataBeat (setCap s u.val { c with sent := rest }) (instSecure s (512 + u.val)) o.words
      s.set R.ACQ_WR_INDEX o.ws u.val)

/-- ACQ_RD was written: an index behind its old value or beyond ACQ_WR is dropped (R316). -/
def acqRdWritten (before s : State) (u : Nat) : State :=
  let old := before.get R.ACQ_RD_INDEX u
  let d (x : Nat) : Nat := (x + 2 ^ 32 - old) % 2 ^ 32
  if d (s.get R.ACQ_RD_INDEX u) ≤ d (s.get R.ACQ_WR_INDEX u) then s else s.set R.ACQ_RD_INDEX old u

end Sys2Proof.Machine
end

