-- ==== Sys2Proof/Machine/Operands.lean ====
section
/-! DEFINITION. Operand fields of Chisel instructions (05_chisel_programs.md, Table CHS-6), the registers of a program, and the
shape checks of R129. `a` is the 19-bit field A, `b` the 36-bit field B. -/

namespace Sys2Proof.Machine

/-- G[k] of Chisel `n`. -/
def gReg (s : State) (n k : Nat) : Nat := s.get R.CHS_G_VALUE (16 * n + k % 16)

/-- Write G[k] of Chisel `n`. -/
def setG (s : State) (n k v : Nat) : State := s.set R.CHS_G_VALUE v (16 * n + k % 16)

/-- K[k] of Chisel `n`. -/
def kReg (s : State) (n k : Nat) : Nat := s.get R.CHS_K_VALUE (4 * n + k % 4)

/-- Write K[k] of Chisel `n`. -/
def setK (s : State) (n k v : Nat) : State := s.set R.CHS_K_VALUE v (4 * n + k % 4)

/-- A SRC bit of 0 takes the immediate, 1 the low `w` bits of G[REG] (Table CHS-6). -/
def srcOperand (s : State) (n : Nat) (src : Bool) (reg imm w : Nat) : Nat := if src then gReg s n reg % 2 ^ w else imm % 2 ^ w

/-- TARGET, word 1 [35:21]. -/
def chsTarget (b : Nat) : Nat := bits b 35 21

/-- Are the bits of `x` outside `mask` zero? -/
def onlyBits (x mask : Nat) : Bool := x &&& mask == x

/-- The fields of each opcode that may be non-zero, as masks of A and B (Table CHS-6); a field value that is reserved fails too
(R129). -/
def chsFormOk (op a b : Nat) : Bool :=
  match op with
  | 0x00 | 0x01 => a == 0 && b == 0
  | 0x02 => onlyBits a 0x4000F && onlyBits b 0x3FFFFFFF
  | 0x03 => onlyBits a 0x4000F && onlyBits b 0xFFFFFFFF
  | 0x04 => onlyBits a 0x7CF00 && onlyBits b 0xFFFFFF
  | 0x05 => onlyBits a 0x78000 && onlyBits b 0xFFFFFF
  | 0x06 => a == 0 && onlyBits b 0xFFFE00000
  | 0x07 => onlyBits a 0x7FE00 && onlyBits b 0xFFFE00FFF
  | 0x08 => onlyBits a 0x7FF00 && onlyBits b 0xFFFE00000
  | 0x09 => onlyBits a 0x60000 && onlyBits b 0xFFFE00000
  | 0x0A => onlyBits a 0x7000F && onlyBits b 0xFFFFFF
  | 0x0B => onlyBits a 0x7FFFC && decide (bits a 18 15 < 12) && (decide (bits a 18 15 < 8) || bits a 10 7 == 0) &&
      (decide (bits a 18 15 < 9) || (bits a 6 3 == 0 && !bit a 2))
  | 0x0C => onlyBits a 0x78000 && onlyBits b 0xFFFF
  | 0x0D => onlyBits a 0x7000F && onlyBits b 0xFFFF && bits a 18 17 != 3
  | 0x10 => true
  | 0x11 => onlyBits a 0x7FFE0
  | 0x12 => onlyBits a 0x6000F && onlyBits b 0xFFFFF
  | 0x13 => onlyBits a 0x7F800 && onlyBits b 0xFFF
  | 0x14 => onlyBits a 0x7FE00 && onlyBits b 0xFFF
  | 0x18 => onlyBits a 0x7FF8F && onlyBits b 0xFFFFFFFF
  | 0x19 => true
  | 0x1A => onlyBits a 0x7FF0F && b == 0
  | 0x1B => onlyBits a 0x7FF00 && b == 0
  | _ => false

/-- The minimum Δt that follows an opcode (Table CHS-5). -/
def chsMinDt (op : Nat) : Nat :=
  match op with
  | 0x02 | 0x03 | 0x04 | 0x05 => 0
  | 0x06 | 0x07 | 0x08 | 0x09 => 2
  | _ => 1

/-- Word `w` of the instruction at program address `pc`; the address after 32,767 reads as zero (R129). -/
def progWord (s : State) (n pc w : Nat) : Nat := if pc < 32768 then sget 0 s.chsProg (n * 65536 + 2 * pc + w) else 0

/-- Δt of the instruction at address `pc` (R129). -/
def progDt (s : State) (n pc : Nat) : Nat := bits (progWord s n pc 0) 30 19

/-- LINE and SLOT of PLAY and TABLE as a tone slot (R139). -/
def chsSlot (n a : Nat) : Nat := 8 * n + 4 * bits a 18 18 + bits a 17 16

/-- SEG of PLAY and TABLE. -/
def chsSeg (a : Nat) : Nat := bits a 15 6

/-- The binding of a PLAY or TABLE: FRAME, AMP or G, PHASE × 2^24 (R139). -/
def chsBind (s : State) (n b : Nat) : Bind :=
  { frame := bits b 35 25
    amp := if bit b 24 then gReg s n (bits b 19 16) % 2 ^ 16 else bits b 23 8
    pp := bits b 7 0 * 2 ^ 24 }

/-- The line of a LINE field (R119). -/
def chsLine (n line : Nat) : Nat := 2 * n + line

/-- ALU functions (Table CHS-8) on the operands `x` = G[RA] and `y` = b. -/
def chsAlu (s : State) (fn x y : Nat) : Nat :=
  match fn with
  | 0 => (x + y) % 2 ^ 36
  | 1 => (x + 2 ^ 36 - y) % 2 ^ 36
  | 2 => x &&& y
  | 3 => x ||| y
  | 4 => Nat.xor x y
  | 5 => if 36 ≤ y % 64 then 0 else x * 2 ^ (y % 64) % 2 ^ 36
  | 6 => if 36 ≤ y % 64 then 0 else x / 2 ^ (y % 64)
  | 7 => wrapI (sgn 36 x / ((2 ^ min (y % 64) 35 : Nat) : Int)) 36
  | 8 => y
  | 9 => s.get R.CLK_SHOT_COUNT
  | 10 => shotTick s
  | _ => s.now % 2 ^ 36

/-- BRG conditions (Table CHS-9). -/
def chsCond (cond x y : Nat) : Bool :=
  match cond with
  | 0 => x == 0
  | 1 => x != 0
  | 2 => decide (sgn 36 x < 0)
  | 3 => decide (sgn 36 x ≥ 0)
  | 4 => x == y
  | 5 => x != y
  | 6 => decide (sgn 36 x < sgn 36 y)
  | _ => decide (sgn 36 x ≥ sgn 36 y)

end Sys2Proof.Machine
end

