-- ==== Sys2Proof/Machine/Chisel.lean ====
section
/-! DEFINITION. The instructions of the Chisel engines (05_chisel_programs.md). Each command is one issue: Chisel `n`, Δt, and the
operand fields A and B as fetched; it acts when the Chisel is ISSUING and its tick is the reference tick plus Δt (R120, log 20). -/

namespace Sys2Proof.Machine

/-- The sequencing state of Chisel `n`. -/
def chs (s : State) (n : Nat) : Chs := sget {} s.chisels n

/-- Write the sequencing state of Chisel `n`. -/
def setChs (s : State) (n : Nat) (c : Chs) : State := { s with chisels := sset {} s.chisels n c }

/-- STATE of Chisel `n` (Table CHS-4). -/
def setChsState (s : State) (n st : Nat) : State := s.set R.CHS_STATUS_STATE st n

/-- Does the issue fall on this tick: the Chisel is ISSUING and its reference tick plus Δt is now (R120)? -/
def issues (s : State) (n dt : Nat) : Bool :=
  s.get R.CHS_STATUS_STATE n == 2 && (chs s n).ref + dt == s.tick

/-- The program counter moves on: PC names the instruction, the next address follows it, this tick is the new reference tick, and
the minimum Δt is that of `op` (R120, R122, R149). PC of the address after 32,767 has no stated value: a free value. -/
def advance (s : State) (n op : Nat) : State :=
  let c := chs s n
  let (pc, s) := if c.next < 32768 then (c.next, s) else s.free
  setChs (s.set R.CHS_STATUS_PC pc n) n { c with next := if c.next < 32768 then c.next + 1 else c.next, ref := s.tick, minDt := chsMinDt op }

/-- One issue of opcode `op`. `codes` are the failing codes of its own checks; check 1 and the shape check of R129 are made here.
An instruction that fails is a no-operation, which for a reserved form counts as NOP for the next minimum Δt; else `act` has its
effect (R64, R65, R122, R129, R149). `act` sees the state after the program counter has moved on; `pc` is the instruction's. -/
def issue (s : State) (n dt op a b : Nat) (codes : List Nat) (act : State → State) : State :=
  if issues s n dt then
    let pc := (chs s n).next
    let short := decide (dt < (chs s n).minDt)
    let bad := !chsFormOk op a b
    let all := (if short then [1] else []) ++ (if bad then [4] else []) ++ codes
    let s1 := advance s n (if short || bad then 1 else op)
    if all = [] then act s1 else chiselViolation s1 n all pc
  else s

/-- Is `op` an opcode of Table CHS-5 (R129)? -/
def chsOpKnown (op : Nat) : Bool := decide (op < 14) || decide (16 ≤ op ∧ op < 21) || decide (24 ≤ op ∧ op < 28)

/-- A Chisel whose next word in program memory has a reserved opcode issues it on the tick its Δt gives: check 4 fails, and it is a no-operation
(R129, R130). -/
def chsReserved (s : State) (n : Nat) : State :=
  let pc := (chs s n).next
  let w := progWord s n pc 0
  let dt := bits w 30 19
  if chsOpKnown (bits w 35 31) then s
  else if issues s n dt then chiselViolation (advance s n 1) n ((if dt < (chs s n).minDt then [1] else []) ++ [4]) pc
  else s

/-- The reserved opcodes due on this tick. -/
def chsReservedTick (s : State) : State := forAll ((s.chisels.map (·.1)).filter fun n => s.get R.CHS_STATUS_STATE n == 2) s chsReserved

/-- END ends the program for the shot, whatever the opcode before it; it is exempt from check 1 (R122). -/
def execEnd (n : Fin 128) (dt : BitVec 12) (a : BitVec 19) (b : Word36) (s : State) : Host.Outcome State Fault Refusal :=
  .next (if issues s n.val dt.toNat then
    let pc := (chs s n.val).next
    if a = 0 ∧ b = 0 then setChsState (advance s n.val 0) n.val 4
    else chiselViolation (advance s n.val 1) n.val [4] pc
  else s)

/-- NOP (Table CHS-5). -/
def execNop (n : Fin 128) (dt : BitVec 12) (a : BitVec 19) (b : Word36) (s : State) : Host.Outcome State Fault Refusal :=
  .next (issue s n.val dt.toNat 0x01 a.toNat b.toNat [] id)

/-! ### Waits (R132 to R134) -/

/-- Chisel `n` waits. -/
def startWait (s : State) (n : Nat) (w : ChsWait) : State := setChsState (setChs s n { chs s n with wait := w }) n 3

/-- The wait ends on this tick R: the next Δt counts from it, with minimum 0 (R120). -/
def endWait (s : State) (n : Nat) : State := setChsState (setChs s n { chs s n with wait := .none, ref := s.tick, minDt := 0 }) n 2

/-- WAIT: R = t + max(N, 1) (R132). -/
def execWait (n : Fin 128) (dt : BitVec 12) (a : BitVec 19) (b : Word36) (s : State) : Host.Outcome State Fault Refusal :=
  .next (issue s n.val dt.toNat 0x02 a.toNat b.toNat [] fun s =>
    startWait s n.val (.until_ (s.tick + max (srcOperand s n.val (bit a.toNat 18) (bits a.toNat 3 0) b.toNat 30) 1)))

/-- WAITA: R = max(t + 1, S + T) (R132). -/
def execWaita (n : Fin 128) (dt : BitVec 12) (a : BitVec 19) (b : Word36) (s : State) : Host.Outcome State Fault Refusal :=
  .next (issue s n.val dt.toNat 0x03 a.toNat b.toNat [] fun s =>
    startWait s n.val (.until_ (max (s.tick + 1) (s.shotStart + srcOperand s n.val (bit a.toNat 18) (bits a.toNat 3 0) b.toNat 32))))

/-- WAIT_END: a wait with a known end tick R reaches it. -/
def execWaitEnd (n : Fin 128) (s : State) : Host.Outcome State Fault Refusal :=
  .next (match (chs s n.val).wait with
    | .until_ r => if s.get R.CHS_STATUS_STATE n.val = 3 ∧ r = s.tick then endWait s n.val else s
    | _ => s)

/-- WAITT: waits for an edge of TIN, or for TIMEOUT ticks (0 taken as 1) (R133). -/
def execWaitt (n : Fin 128) (dt : BitVec 12) (a : BitVec 19) (b : Word36) (s : State) : Host.Outcome State Fault Refusal :=
  .next (issue s n.val dt.toNat 0x04 a.toNat b.toNat [] fun s =>
    startWait s n.val (.edge (bits a.toNat 18 14) (bits a.toNat 11 8) s.tick (s.tick + max (bits b.toNat 23 0) 1)))

/-- A timeout of Chisel `n`: its sticky bit, the count, local source 2 (R133, R134). -/
def chsTimeout (s : State) (n : Nat) (f : Fld) : State := fire ((s.set f 1 n).inc R.CHS_TIMEOUT_CNT_COUNT n) (4 * n + 2)

/-- WAITT_END: on tick e + 3 of the first edge, or on the timeout tick; an edge seen on the timeout tick counts (R133). -/
def execWaittEnd (n : Fin 128) (s : State) : Host.Outcome State Fault Refusal :=
  .next (match (chs s n.val).wait with
    | .edge tin dest t tmo =>
      if s.get R.CHS_STATUS_STATE n.val ≠ 3 ∨ s.tick ≤ t then s
      else if s.tinSeen.any fun p => p.tin == tin && p.e + 3 == s.tick then endWait (setG s n.val dest (s.tick - t)) n.val
      else if s.tick = tmo then endWait (chsTimeout (setG s n.val dest (tmo - t + 2 ^ 35)) n.val R.CHS_STATUS_WAITT_TIMEOUT) n.val
      else s
    | _ => s)

/-! ### Lane barriers (R134) -/

/-- A barrier is locally complete when every local participant's arrival of this shot has been seen by the hub. -/
def barLocal (s : State) (b : Nat) : Bool :=
  (List.range 128).all fun n => !bit (s.get R.CHS_BAR_EN_EN n) b || (sget [] s.barSeen b).contains n

/-- LBAR: the Chisel arrives, if a participant, and waits. After completion a participant waits one tick (R134). -/
def execLbar (n : Fin 128) (dt : BitVec 12) (a : BitVec 19) (b : Word36) (s : State) : Host.Outcome State Fault Refusal :=
  .next (issue s n.val dt.toNat 0x05 a.toNat b.toNat [] fun s =>
    let k := bits a.toNat 18 15
    let part := bit (s.get R.CHS_BAR_EN_EN n.val) k
    let tmo := s.tick + max (bits b.toNat 23 0) 1
    if part && s.flag R.GLB_BAR_COMPLETE k then startWait s n.val (.until_ (s.tick + 1))
    else
      let s := if part then { s with barArr := s.barArr ++ [(k, n.val, s.tick + 2)] } else s
      startWait s n.val (.bar k tmo))

/-- BARRIER_ARRIVAL: the hub sees Chisel `n`'s arrivals 2 ticks after their LBAR (R134). -/
def execBarrierArrival (n : Fin 128) (s : State) : Host.Outcome State Fault Refusal :=
  let due := s.barArr.filter fun p => p.2.1 == n.val && p.2.2 == s.tick
  let s := { s with barArr := s.barArr.filter fun p => !(p.2.1 == n.val && p.2.2 == s.tick) }
  .next (forAll due s fun s p =>
    let l := sget [] s.barSeen p.1
    let s := if l.contains n.val then s else { s with barSeen := sset [] s.barSeen p.1 (l ++ [n.val]) }
    if barLocal s p.1 then s.set R.GLB_BAR_LOCAL 1 p.1 else s)

/-- BARRIER_COMPLETE: the first tick c on which barrier `b` is locally complete and has its tokens; each waiting participant ends at
c + 2, unless its timeout comes first (R134). -/
def execBarrierComplete (b : Fin 16) (s : State) : Host.Outcome State Fault Refusal :=
  .next (if s.flag R.GLB_BAR_LOCAL b.val ∧ !s.flag R.GLB_BAR_COMPLETE b.val ∧ s.get R.GLB_BAR_REMOTE b.val ≤ s.get R.GLB_BAR_TOKENS b.val then
    forAll (List.range 128) (s.set R.GLB_BAR_COMPLETE 1 b.val) fun s n =>
      match (chs s n).wait with
      | .bar k tmo =>
        if k = b.val ∧ bit (s.get R.CHS_BAR_EN_EN n) k ∧ s.tick + 2 ≤ tmo then setChs s n { chs s n with wait := .until_ (s.tick + 2) } else s
      | _ => s
  else s)

/-- BARRIER_TIMEOUT: an LBAR reaches t + TIMEOUT before completion (R134). -/
def execBarrierTimeout (n : Fin 128) (s : State) : Host.Outcome State Fault Refusal :=
  .next (match (chs s n.val).wait with
    | .bar _ tmo =>
      if s.get R.CHS_STATUS_STATE n.val = 3 ∧ tmo = s.tick then endWait (chsTimeout s n.val R.CHS_STATUS_BAR_TIMEOUT) n.val else s
    | _ => s)

/-- Arrivals, tokens and completion are cleared at each shot start (R134). -/
def barShotStart (s : State) : State :=
  forAll (List.range 16) { s with barSeen := [], barArr := [] } fun s b =>
    ((s.set R.GLB_BAR_COMPLETE 0 b).set R.GLB_BAR_LOCAL 0 b).set R.GLB_BAR_TOKENS 0 b

/-! ### Control flow (R136, R137) -/

/-- Control goes to `target`. -/
def jumpTo (s : State) (n target : Nat) : State := setChs s n { chs s n with next := target }

/-- JMP (R136). -/
def execJmp (n : Fin 128) (dt : BitVec 12) (a : BitVec 19) (b : Word36) (s : State) : Host.Outcome State Fault Refusal :=
  .next (issue s n.val dt.toNat 0x06 a.toNat b.toNat [] fun s => jumpTo s n.val (chsTarget b.toNat))

/-- Check 3 on the issue tick: the deadline is later than the earlier path's issue less 8 (R137). -/
def brdEarly (s : State) (n dl target : Nat) : Bool :=
  let next := min ((chs s n).next + 1) 32768
  decide (min (progDt s n next) (progDt s n target) < dl + 8)

/-- BRD: the branch waits for its deadline; a check that fails resolves it as not taken (R137). -/
def execBrd (n : Fin 128) (dt : BitVec 12) (a : BitVec 19) (b : Word36) (s : State) : Host.Outcome State Fault Refusal :=
  let two := bit a.toNat 12
  let k := bits a.toNat 18 13
  let dl := bits b.toNat 11 0
  let codes := (if brdEarly s n.val dl (chsTarget b.toNat) then [3] else []) ++ (if two && k == 63 then [4] else [])
  let pc := (chs s n.val).next
  .next (issue s n.val dt.toNat 0x07 a.toNat b.toNat codes fun s =>
    setChs s n.val { chs s n.val with brd := some ⟨s.tick + dl, k, two, bits a.toNat 11 10, bit a.toNat 9, chsTarget b.toNat, pc⟩ })

/-- BRD_DEADLINE: on tick d the bits are sampled; one not published fails check 3, and the branch is not taken (R137, R138, R148). -/
def execBrdDeadline (n : Fin 128) (s : State) : Host.Outcome State Fault Refusal :=
  .next (match (chs s n.val).brd with
    | none => s
    | some x =>
      if x.d ≠ s.tick then s
      else
        let s := setChs s n.val { chs s n.val with brd := none }
        if !windowPub s n.val x.lo || (x.two && !windowPub s n.val (x.lo + 1)) then chiselViolation s n.val [3] x.pc
        else
          let f := b2n (windowVal s n.val x.lo) + (if x.two then 2 * b2n (windowVal s n.val (x.lo + 1)) else 0)
          let v := if x.two then x.value else x.value % 2
          let s := addShotTaint s n.val (windowTaint s n.val x.lo)
          let s := if x.two then addShotTaint s n.val (windowTaint s n.val (x.lo + 1)) else s
          if (f == v) != x.sense then jumpTo s n.val x.target else s)

/-- BRG: the branch is taken when the condition of Table CHS-9 holds (R136). -/
def execBrg (n : Fin 128) (dt : BitVec 12) (a : BitVec 19) (b : Word36) (s : State) : Host.Outcome State Fault Refusal :=
  .next (issue s n.val dt.toNat 0x08 a.toNat b.toNat [] fun s =>
    if chsCond (bits a.toNat 10 8) (gReg s n.val (bits a.toNat 18 15)) (gReg s n.val (bits a.toNat 14 11)) then jumpTo s n.val (chsTarget b.toNat) else s)

/-- LOOP: a non-zero K is decremented and the branch taken (R136). -/
def execLoop (n : Fin 128) (dt : BitVec 12) (a : BitVec 19) (b : Word36) (s : State) : Host.Outcome State Fault Refusal :=
  .next (issue s n.val dt.toNat 0x09 a.toNat b.toNat [] fun s =>
    let k := bits a.toNat 18 17
    if kReg s n.val k = 0 then s else jumpTo (setK s n.val k (kReg s n.val k - 1)) n.val (chsTarget b.toNat))

/-- SETK (R136). -/
def execSetk (n : Fin 128) (dt : BitVec 12) (a : BitVec 19) (b : Word36) (s : State) : Host.Outcome State Fault Refusal :=
  .next (issue s n.val dt.toNat 0x0A a.toNat b.toNat [] fun s =>
    setK s n.val (bits a.toNat 18 17) (srcOperand s n.val (bit a.toNat 16) (bits a.toNat 3 0) b.toNat 24))

/-! ### Registers, harvest, events -/

/-- ALU (Table CHS-8). -/
def execAlu (n : Fin 128) (dt : BitVec 12) (a : BitVec 19) (b : Word36) (s : State) : Host.Outcome State Fault Refusal :=
  .next (issue s n.val dt.toNat 0x0B a.toNat b.toNat [] fun s =>
    let y := if bit a.toNat 2 then b.toNat else gReg s n.val (bits a.toNat 6 3)
    setG s n.val (bits a.toNat 14 11) (chsAlu s (bits a.toNat 18 15) (gReg s n.val (bits a.toNat 10 7)) y))

/-- The declared point of number `p`, if it is on queue `q` (R49, R146). -/
def pointOn (s : State) (q p : Nat) : Option HPoint :=
  match sget none s.points p with
  | some h => if h.queue = q then some h else none
  | none => none

/-- HARVEST: point POINT of this Chisel's queue into G[DEST]; out of order its default is used (R146, R51, R19). -/
def execHarvest (n : Fin 128) (dt : BitVec 12) (a : BitVec 19) (b : Word36) (s : State) : Host.Outcome State Fault Refusal :=
  let dest := bits a.toNat 18 15
  let pt := pointOn s n.val (bits b.toNat 15 0)
  let order := match pt with
    | some p => harvestOutOfOrder s p
    | none => false
  let codes := (if pt = none then [4] else []) ++ (if order then [5] else [])
  let ok := issues s n.val dt.toNat && chsFormOk 0x0C a.toNat b.toNat && decide ((chs s n.val).minDt ≤ dt.toNat)
  let s := issue s n.val dt.toNat 0x0C a.toNat b.toNat codes fun s =>
    match pt with
    | some p => let (v, s) := harvestTake s p; setG s n.val dest v
    | none => s
  .next (match pt with
    | some p => if ok && order then setG s n.val dest (if p.kind = 1 then 0 else p.dflt) else s
    | none => s)

/-- EMIT: a local event, a result-tag record, or both (R147, R247). -/
def execEmit (n : Fin 128) (dt : BitVec 12) (a : BitVec 19) (b : Word36) (s : State) : Host.Outcome State Fault Refusal :=
  let pc := (chs s n.val).next
  let kind := bits a.toNat 18 17
  .next (issue s n.val dt.toNat 0x0D a.toNat b.toNat [] fun s =>
    let s := if kind = 0 ∨ kind = 2 then fire s (4 * n.val + bits a.toNat 16 16) else s
    if kind = 1 ∨ kind = 2 then tagRecord s n.val pc (gReg s n.val (bits a.toNat 3 0)) (bits b.toNat 15 0) else s)

/-! ### Playing (R139, R140, R158) -/

/-- A PLAY that an injected entry of the monitor ADC waits for is kept until DELAY has passed (R439). -/
def monPlay (s : State) (n pc start : Nat) : State :=
  let wanted := (List.range 8).any fun j =>
    s.get R.MON_INJ_CTRL_SRC j == 2 && s.get R.MON_INJ_PULSE_CHISEL j == n && s.get R.MON_INJ_PULSE_PC j == pc
  { s with playSeen := (s.playSeen.filter fun p => decide (s.tick ≤ p.2.2 + 65536)) ++ (if wanted then [(n, pc, start)] else []) }

/-- PLAY: one segment on a tone slot (R139, R166). -/
def execPlay (n : Fin 128) (dt : BitVec 12) (a : BitVec 19) (b : Word36) (s : State) : Host.Outcome State Fault Refusal :=
  let z := chsSlot n.val a.toNat
  let e := chsSeg a.toNat
  let codes := (if slotBusy s z then [2] else []) ++ (if segBad s n.val e then [4] else []) ++
    (if (inGap s 0 (slotLine z)).isSome then [6] else [])
  let pc := (chs s n.val).next
  .next (issue s n.val dt.toNat 0x10 a.toNat b.toNat codes fun s =>
    let start := if bit a.toNat 0 || segStream s n.val e then granuleTick s else s.tick
    let pauli := if bit a.toNat 5 then some (gReg s n.val (bits a.toNat 4 1) % 2 ^ 16) else none
    let g := segOf s n.val e start (chsBind s n.val b.toNat) false pauli pc
    let s := monPlay s n.val pc start
    let s := setSlot s z { slot s z with segs := (slot s z).segs ++ [g], busyTo := start + 4 * g.len }
    s.set R.TON_SLOT_BUSY 1 z)

/-- TABLE: a hand-over, a re-point, or a stop request (R140, R158). -/
def execTable (n : Fin 128) (dt : BitVec 12) (a : BitVec 19) (b : Word36) (s : State) : Host.Outcome State Fault Refusal :=
  let z := chsSlot n.val a.toNat
  let e := chsSeg a.toNat
  let stop := bit a.toNat 5
  let codes := (if !stop && segBad s n.val e then [4] else []) ++ (if (inGap s 0 (slotLine z)).isSome then [6] else [])
  let pc := (chs s n.val).next
  .next (issue s n.val dt.toNat 0x11 a.toNat b.toNat codes fun s =>
    let x := slot s z
    let q : TabReq := ⟨e, chsBind s n.val b.toNat, pc, granuleTick s⟩
    match s.get R.SEG_SLOT_MODE z, stop with
    | 2, true => s.set R.SEG_SLOT_STOP_PEND 1 z
    | 2, false => (setSlot s z { x with repoint := some q }).set R.SEG_SLOT_REPOINT_PEND 1 z
    | 1, true => setMode (setSlot s z { x with hand := none }) z 0
    | _, true => s
    | _, false => setMode (setSlot s z { x with hand := some q }) z 1)

/-- BIAS: the target of the line's bias output (R141, R203). -/
def execBias (n : Fin 128) (dt : BitVec 12) (a : BitVec 19) (b : Word36) (s : State) : Host.Outcome State Fault Refusal :=
  let l := chsLine n.val (bits a.toNat 18 18)
  .next (issue s n.val dt.toNat 0x12 a.toNat b.toNat (if (inGap s 1 l).isSome then [6] else []) fun s =>
    biasOrder s l (srcOperand s n.val (bit a.toNat 17) (bits a.toNat 3 0) b.toNat 20))

/-- MARK: an operation on a marker the Chisel owns, at the pin 36 ticks later (R145). -/
def execMark (n : Fin 128) (dt : BitVec 12) (a : BitVec 19) (b : Word36) (s : State) : Host.Outcome State Fault Refusal :=
  let m := bits a.toNat 18 13
  .next (issue s n.val dt.toNat 0x13 a.toNat b.toNat (if ownsMarker s n.val m then [] else [4]) fun s =>
    orderMark s m s.tick (bits a.toNat 12 11) (bits b.toNat 11 0) true)

/-- WINDOW: a demodulator window on an input and tone (R144). -/
def execWindow (n : Fin 128) (dt : BitVec 12) (a : BitVec 19) (b : Word36) (s : State) : Host.Outcome State Fault Refusal :=
  let i := bits a.toNat 18 13
  let d := 16 * i + bits a.toNat 12 9
  let codes := (if (inGap s 2 i).isSome then [6] else []) ++ (if winOverlap s n.val d then [7] else [])
  let pc := (chs s n.val).next
  .next (issue s n.val dt.toNat 0x14 a.toNat b.toNat codes fun s => orderWindow s n.val d (bits b.toNat 11 0) pc)

/-! ### Frames (R142, R143) -/

/-- Frame FRAME of Chisel `n`. -/
def chsFrame (n a : Nat) : Nat := 2048 * n + bits a 18 8

/-- Sample time g × 32 of the first granule boundary g at or after this tick. -/
def granuleT0 (s : State) : Nat := (s.now + (4 - s.now % 4) % 4) * 32 % 2 ^ 64

/-- SHIFT: a virtual-Z phase shift from tick t on. -/
def execShift (n : Fin 128) (dt : BitVec 12) (a : BitVec 19) (b : Word36) (s : State) : Host.Outcome State Fault Refusal :=
  .next (issue s n.val dt.toNat 0x18 a.toNat b.toNat [] fun s =>
    frmOp s (chsFrame n.val a.toNat) s.tick (.shift (srcOperand s n.val (bit a.toNat 7) (bits a.toNat 3 0) b.toNat 32)))

/-- SETF: frequency FREQ_HI × 2^12 and phase from the boundary g on. -/
def execSetf (n : Fin 128) (dt : BitVec 12) (a : BitVec 19) (b : Word36) (s : State) : Host.Outcome State Fault Refusal :=
  .next (issue s n.val dt.toNat 0x19 a.toNat b.toNat [] fun s =>
    frmOp s (chsFrame n.val a.toNat) (granuleTick s) (.set (b.toNat * 2 ^ 12) (bits a.toNat 7 0 * 2 ^ 24) (granuleT0 s)))

/-- SETFR: all 48 bits of the frequency and 24 of the phase from two G registers. -/
def execSetfr (n : Fin 128) (dt : BitVec 12) (a : BitVec 19) (b : Word36) (s : State) : Host.Outcome State Fault Refusal :=
  .next (issue s n.val dt.toNat 0x1A a.toNat b.toNat [] fun s =>
    let r := bits a.toNat 3 0
    let g0 := gReg s n.val r
    let g1 := gReg s n.val (r + 1)
    frmOp s (chsFrame n.val a.toNat) (granuleTick s) (.set (g0 * 2 ^ 12 + g1 % 2 ^ 12) (g1 / 2 ^ 12 * 2 ^ 8) (granuleT0 s)))

/-- FRESET: phase and reference time, the frequency unchanged. -/
def execFreset (n : Fin 128) (dt : BitVec 12) (a : BitVec 19) (b : Word36) (s : State) : Host.Outcome State Fault Refusal :=
  .next (issue s n.val dt.toNat 0x1B a.toNat b.toNat [] fun s =>
    frmOp s (chsFrame n.val a.toNat) (granuleTick s) (.reset (granuleT0 s)))

/-! ### Shot starts of a Chisel (R125 to R127) -/

/-- Steps 1 and 2 of R126 for Chisel `n`: what has not issued is abandoned, and the shot taint is saved under the old shot counter
`old` (none at the first start of a run). -/
def chsAbandon (s : State) (n : Nat) (old : Option Nat) : State :=
  let st := s.get R.CHS_STATUS_STATE n
  let s := s.when (st == 2 || st == 3) fun s => fire ((s.set R.CHS_STATUS_CUT 1 n).inc R.CHS_CUT_CNT_COUNT n) (4 * n + 2)
  let s := setChs s n { chs s n with wait := .none, brd := none }
  match old with
  | some k => (s.set R.CHS_PREV_TAINT_TAINT (taintMask (shotTaint s n)) n).set R.CHS_PREV_SHOT_COUNT k n
  | none => s

/-- The actions of R126 for an enabled Chisel. -/
def chsShotStart (s : State) (n : Nat) (old : Option Nat) : State :=
  let s := setShotTaint (chsAbandon s n old) n []
  let s := forAll (List.range 8) s fun s k => setG s n k 0
  let s := forAll (List.range 4) s fun s k => setK s n k 0
  setChsState (setChs s n { next := s.get R.CHS_CTRL_ENTRY n, ref := s.tick }) n 2

/-- The enabled Chisels. -/
def chsEnabled (s : State) : List Nat := (List.range 128).filter fun n => s.flag R.CHS_CTRL_ENABLE n

/-- Leaving RUN: every Chisel enters OFF (Table CHS-4). -/
def chsOff (s : State) : State :=
  forAll (List.range 128) { s with barArr := [] } fun s n => setChsState (setChs s n {}) n 0

/-! ### The memory port (CHS_MEM_CTRL, CHS_MEM_DATA) -/

/-- The address after an access of CHS_MEM_DATA. -/
def chsMemNext (s : State) (n : Nat) : State :=
  s.when (s.flag R.CHS_MEM_CTRL_AUTOINC n) fun s => s.set R.CHS_MEM_CTRL_ADDR (s.get R.CHS_MEM_CTRL_ADDR n + 1) n

/-- A read of CHS_MEM_DATA: the word of program or envelope memory at ADDR; addresses past program memory read 0. -/
def chsMemRead (s : State) (n : Nat) : Nat × State :=
  let a := s.get R.CHS_MEM_CTRL_ADDR n
  (match s.get R.CHS_MEM_CTRL_SEL n with
    | 0 => if a < 65536 then sget 0 s.chsProg (n * 65536 + a) else 0
    | 1 => sget 0 s.chsEnv (n * 262144 + a)
    | _ => 0, chsMemNext s n)

/-- A write of CHS_MEM_DATA. -/
def chsMemWrite (s : State) (n v : Nat) : State :=
  let a := s.get R.CHS_MEM_CTRL_ADDR n
  chsMemNext (match s.get R.CHS_MEM_CTRL_SEL n with
    | 0 => if a < 65536 then { s with chsProg := sset 0 s.chsProg (n * 65536 + a) (v % 2 ^ 36) } else s
    | 1 => { s with chsEnv := sset 0 s.chsEnv (n * 262144 + a) (v % 2 ^ 36) }
    | _ => s) n

end Sys2Proof.Machine
end

