-- ==== Sys2Proof/Machine/Mailbox.lean ====
section
/-! DEFINITION. Mailboxes (13_event_fabric_and_mailboxes.md R348 to R355). End `e` is 2 × mailbox + 0 for end A, + 1 for end B; the
queue of end `e` is the one it reads. -/

namespace Sys2Proof.Machine

/-- Event input `k` of Caliper `n` fires: pending, or merged and counted (R271). -/
def clpEvent (s : State) (n k : Nat) : State :=
  if bit (s.get R.CLP_EVT_EPEND n) k then s.inc R.CLP_EV_MERGE_CNT_COUNT n else s.orf R.CLP_EVT_EPEND (2 ^ k) n

/-- The other end of a mailbox. -/
def partner (e : Nat) : Nat := if e % 2 = 0 then e + 1 else e - 1

/-- The party of end `e` (R348). -/
def party (s : State) (e : Nat) : Nat := if e % 2 = 0 then s.get R.MBX_CFG_END_A (e / 2) else s.get R.MBX_CFG_END_B (e / 2)

/-- A mailbox with CFG_ERR carries nothing (R349). -/
def mbxCarries (s : State) (e : Nat) : Bool := !s.flag R.MBX_CFG_CFG_ERR (e / 2)

/-- ATTN of end `e` (R355). -/
def mbxAttn (s : State) (e : Nat) : State := fire s (1152 + e)

/-- The queue end `e` reads. -/
def mbxIn (s : State) (e : Nat) : List MbxEnt := sget [] s.mbxQ e

/-- Write the queue end `e` reads, and the two FILL fields that show it. -/
def setMbxIn (s : State) (e : Nat) (l : List MbxEnt) : State :=
  (({ s with mbxQ := sset [] s.mbxQ e l } : State).set R.MBX_RXSTAT_FILL l.length e).set R.MBX_TXSTAT_FILL l.length (partner e)

/-- A write of TX at end `e` by party `p`: the word waits in the partner's RX; a full queue has its newest entry overwritten (R350). -/
def mbxPush (s : State) (e word p : Nat) : State :=
  if !mbxCarries s e then s else
  let l := mbxIn s (partner e)
  let x : MbxEnt := ⟨word % 2 ^ 36, p, s.get R.MBX_EPOCH_EPOCH p⟩
  if l.length < 8 then setMbxIn s (partner e) (l ++ [x])
  else
    let was := s.flag R.MBX_TXSTAT_COLLIDE e
    let s := setMbxIn s (partner e) (l.take 7 ++ [x])
    let s := ((s.set R.MBX_TXSTAT_COLLIDE 1 e).set R.MBX_RXSTAT_COLLIDE 1 (partner e)).inc R.MBX_COLLIDE_CNT_COUNT (e / 2)
    s.when (!was) fun s => mbxAttn s e

/-- The ring toward end `e` is accepted (R351). -/
def mbxAccept (s : State) (e : Nat) : State :=
  ({ s with mbxRing := sset 0 s.mbxRing (partner e) 0 } : State).set R.MBX_TXSTAT_DB_PEND 0 (partner e)

/-- A read of RXSTAT or RX at end `e` accepts a ring, one of its own cycle too (R351). -/
def mbxReadAccept (s : State) (e : Nat) : State :=
  mbxAccept { s with cyc := { s.cyc with rxRead := e :: s.cyc.rxRead } } e

/-- A read of RX at end `e` pops the oldest entry, latches its metadata and accepts a ring (R350, R351, R354). -/
def mbxPop (s : State) (e : Nat) : State :=
  let s := mbxReadAccept s e
  match mbxIn s e with
  | [] => (s.set R.MBX_RX_WORD 0 e).set R.MBX_RXMETA_VALID 0 e
  | x :: rest =>
    let s := (setMbxIn s e rest).set R.MBX_RX_WORD x.word e
    let s := (s.set R.MBX_RXMETA_VALID 1 e).set R.MBX_RXMETA_ORPHAN (b2n (x.epoch != s.get R.MBX_EPOCH_EPOCH x.sender)) e
    (s.set R.MBX_RXMETA_EPOCH x.epoch e).set R.MBX_RXMETA_SENDER x.sender e

/-- The dedicated doorbell wire of mailbox 0: a ring toward S0 wakes it from a clock-gated sleep (R345, R351). -/
def doorbellWire (s : State) (p : Nat) : State :=
  s.when (p == 1 && s.get R.GLB_PLN_STATUS_STATE 0 == 3) fun s => s.set R.GLB_PLN_STATUS_STATE 2 0

/-- A ring of the doorbell at end `e` toward its partner (R351). -/
def mbxRingFrom (s : State) (e : Nat) : State :=
  if !mbxCarries s e then s else
  let p := partner e
  let s := mbxAttn (s.set R.MBX_RXSTAT_DB 1 p) p
  let q := party s p
  let s := s.when (decide (0x40 ≤ q ∧ q < 0x80) && s.get R.CLP_CTRL_MODE (q - 0x40) % 3 != 0) fun s => clpEvent s (q - 0x40) 4
  let s := doorbellWire s p
  if s.flag R.MBX_TXSTAT_DB_PEND e ∨ s.cyc.rxRead.contains p then s
  else ({ s with mbxRing := sset 0 s.mbxRing e (s.clock + 1) } : State).set R.MBX_TXSTAT_DB_PEND 1 e

/-- MBX_TIMEOUT: a ring not accepted within MBX_TIMEOUT.MICROSECONDS, within 1 µs (R352). -/
def execMbxTimeout (m : Fin 32) (b : Bool) (s : State) : Host.Outcome State Fault Refusal :=
  let e := 2 * m.val + b2n b
  let us := s.get R.MBX_TIMEOUT_MICROSECONDS m.val
  .next (if s.xtalFail then s else if s.flag R.MBX_TXSTAT_DB_PEND e ∧ us ≠ 0 ∧ sget 0 s.mbxRing e + 400 * (us - 1) ≤ s.clock + 1 then
    let s := ({ s with mbxRing := sset 0 s.mbxRing e 0 } : State).set R.MBX_TXSTAT_DB_PEND 0 e
    mbxAttn (s.set R.MBX_TXSTAT_TIMEOUT 1 e) e
  else s)

/-- The queue toward end `e` is discarded, and a ring toward it cancelled (R353). -/
def mbxFlush (s : State) (e : Nat) : State :=
  let k := (mbxIn s e).length
  let s := mbxAccept (setMbxIn s e []) e
  let s := s.inc R.MBX_TXSTAT_FLUSHED (partner e) k
  mbxAttn (s.set R.MBX_TXSTAT_FLUSH 1 (partner e)) (partner e)

/-- A party is reset: its epoch moves on, and what waits for it is discarded (R353, Table MBX-1). -/
def partyReset (s : State) (p : Nat) : State :=
  let s := s.set R.MBX_EPOCH_EPOCH (s.get R.MBX_EPOCH_EPOCH p + 1) p
  forAll ((List.range 64).filter fun e => party s e == p) s mbxFlush

/-- Is `p` a party of Table MBX-1? -/
def isParty (p : Nat) : Bool := p == 1 || p == 2 || decide (0x10 ≤ p ∧ p ≤ 0x15) || p == 0x20 || decide (0x40 ≤ p ∧ p ≤ 0x7F)

/-- PARTY_RESET: party `p` is reset (R353, R354). -/
def execPartyReset (p : BitVec 8) (s : State) : Host.Outcome State Fault Refusal :=
  .next (if isParty p.toNat then partyReset s p.toNat else s)

/-- MBX_CFG of mailbox `m` was written: the ends of mailbox 0 are fixed; the queues empty; a Caliper that is an end elsewhere already sets
CFG_ERR (R348, R349). -/
def mbxCfgWritten (before s : State) (m : Nat) : State :=
  if m = 0 then (s.set R.MBX_CFG_END_A (before.get R.MBX_CFG_END_A 0) 0).set R.MBX_CFG_END_B (before.get R.MBX_CFG_END_B 0) 0
  else
    let a := party s (2 * m)
    let b := party s (2 * m + 1)
    let taken (p : Nat) : Bool := decide (0x40 ≤ p ∧ p < 0x80) && (List.range 64).any fun e => e / 2 != m && party s e == p
    let s := mbxFlush (mbxFlush s (2 * m)) (2 * m + 1)
    s.set R.MBX_CFG_CFG_ERR (b2n (taken a || taken b || (a == b && decide (0x40 ≤ a ∧ a < 0x80)))) m

/-- TXSTAT of end `e` was written with `v`: clearing FLUSH also clears FLUSHED. -/
def mbxTxstatWritten (s : State) (e v : Nat) : State :=
  if fldBits R.MBX_TXSTAT_FLUSH v = 0 ∨ s.flag R.MBX_TXSTAT_FLUSH e then s else s.set R.MBX_TXSTAT_FLUSHED 0 e

/-! ### Mailbox addresses of a service Caliper (R349) -/

/-- The end Caliper `n` is. -/
def clpEnd (s : State) (n : Nat) : Option Nat := (List.range 64).find? fun e => party s e == 0x40 + n && mbxCarries s e

/-- Do the mailbox addresses of Caliper `n` reach a mailbox: MODE 2, and an end? -/
def clpHasMbx (s : State) (n : Nat) : Bool := s.get R.CLP_CTRL_MODE n == 2 && (clpEnd s n).isSome

/-- A load of a mailbox address. A load of 0xFFFD or 0xFFFF reaches neither data memory nor a stated value: free. -/
def mbxLoad (s : State) (n a : Nat) : Nat × State :=
  match clpEnd s n with
  | none => (0, s)
  | some e =>
    if a = 0xFFFC then let s := mbxPop s e; (s.get R.MBX_RX_WORD e, s)
    else if a = 0xFFFE then
      let v := s.get R.MBX_RXSTAT_FILL e + s.get R.MBX_TXSTAT_FILL e * 16 + s.get R.MBX_RXSTAT_DB e * 256 + s.get R.MBX_TXSTAT_FLUSH e * 512 +
        s.get R.MBX_TXSTAT_COLLIDE e * 1024 + s.get R.MBX_TXSTAT_TIMEOUT e * 2048
      (v, mbxReadAccept s e)
    else let (f, s) := s.free; (f % 2 ^ 36, s)

/-- A store to a mailbox address: 0xFFFD pushes TX, 0xFFFF rings DB; the other two reach nothing. -/
def mbxStore (s : State) (n a v : Nat) : State :=
  match clpEnd s n with
  | none => s
  | some e => if a = 0xFFFD then mbxPush s e v (0x40 + n) else if a = 0xFFFF then mbxRingFrom s e else s

/-- The Caliper takes event input 4: a ring toward its end is accepted (R351). -/
def mbxClpAccept (s : State) (n : Nat) : State :=
  match clpEnd s n with
  | some e => mbxAccept s e
  | none => s

end Sys2Proof.Machine
end

