-- ==== Sys2Proof/Machine/Caliper.lean ====
section
/-! DEFINITION. Caliper DSP engines (10_caliper_engines.md). Each instruction command is one issue of Caliper `n` with the operand
bits [29:0] of the word as fetched; it acts on the Caliper's next issue cycle (log 21). -/

namespace Sys2Proof.Machine

/-- Caliper `n` beyond its registers. -/
def clp (s : State) (n : Nat) : Clp := sget {} s.calipers n

/-- Write Caliper `n`. -/
def setClp (s : State) (n : Nat) (c : Clp) : State := { s with calipers := sset {} s.calipers n c }

/-- MODE of Caliper `n`: 3 acts as 0 (CLP_CTRL). -/
def clpMode (s : State) (n : Nat) : Nat := s.get R.CLP_CTRL_MODE n % 3

/-- Scheduled mode. -/
def scheduled (s : State) (n : Nat) : Bool := clpMode s n == 1

/-- STATE of Table CLP-2. -/
def setClpState (s : State) (n st : Nat) : State := s.set R.CLP_STATUS_STATE st n

/-- X[k] as it stands. -/
def xReg (s : State) (n k : Nat) : Nat := s.get R.CLP_X_VALUE (16 * n + k % 16)

/-- P[k] as it stands. -/
def pReg (s : State) (n k : Nat) : Nat := s.get R.CLP_P_VALUE (8 * n + k % 8)

/-- M[k] as it stands. -/
def mReg (s : State) (n k : Nat) : Nat := s.get R.CLP_M_VALUE (8 * n + k % 8)

/-- Accumulator `k`, signed 80 bits. -/
def accReg (s : State) (n k : Nat) : Int := sgn 80 ((clp s n).acc.getD (k % 4) 0)

/-- Accumulator `k` as STA sees it (Table CLP-3). -/
def accSta (s : State) (n k : Nat) : Int := sgn 80 ((clp s n).accV.getD (k % 4) 0)

/-- Four accumulators with one replaced. -/
def accSet (l : List Nat) (k v : Nat) : List Nat := ([0, 1, 2, 3] : List Nat).map fun i => if i = k % 4 then v else l.getD i 0

/-- A word of data memory. -/
def dmem (s : State) (n a : Nat) : Nat := sget 0 s.clpMem (n * 65536 + a % 65536)

/-- Write a word of data memory. -/
def setDmem (s : State) (n a v : Nat) : State := { s with clpMem := sset 0 s.clpMem (n * 65536 + a % 65536) (v % 2 ^ 36) }

/-- One write takes effect. -/
def cApply (n : Nat) (s : State) (w : CWrite) : State :=
  match w.to_ with
  | .x k => s.set R.CLP_X_VALUE w.value (16 * n + k)
  | .p k => s.set R.CLP_P_VALUE w.value (8 * n + k)
  | .m k => s.set R.CLP_M_VALUE w.value (8 * n + k)
  | .mem a => setDmem s n a w.value
  | .acc k => setClp s n { clp s n with accV := accSet (clp s n).accV k w.value }

/-- The writes that instructions of cycle `c` see take effect (R256). -/
def cSettle (s : State) (n c : Nat) : State :=
  let due := (clp s n).pend.filter fun w => decide (w.at_ ≤ c)
  let s := setClp s n { clp s n with pend := (clp s n).pend.filter fun w => decide (c < w.at_) }
  forAll due s (cApply n)

/-- A write on its way. -/
def cPush (s : State) (n : Nat) (w : CWrite) : State := setClp s n { clp s n with pend := (clp s n).pend ++ [w] }

/-- A write to X[k] seen from cycle `at_` on. Two writes of one X register on one cycle have no stated outcome: a free value. -/
def cPushX (s : State) (n at_ k v : Nat) : State :=
  if (clp s n).pend.any fun w => w.at_ == at_ && w.to_ == .x k then
    let (f, s) := s.free
    let s := setClp s n { clp s n with pend := (clp s n).pend.filter fun w => !(w.at_ == at_ && w.to_ == .x k) }
    cPush s n ⟨at_, .x k, f % 2 ^ 36, false⟩
  else cPush s n ⟨at_, .x k, v % 2 ^ 36, false⟩

/-! ### Events (R271) -/

/-- Inputs that are pending and enabled; scheduled mode holds EMASK bit 4 at 0 (R271). -/
def clpReady (s : State) (n : Nat) : Nat :=
  s.get R.CLP_EVT_EPEND n &&& s.get R.CLP_EVT_EMASK n &&& (if scheduled s n then 0xFFEF else 0xFFFF)

/-- The lowest set bit of 16. -/
def lowBit (m : Nat) : Option Nat := (List.range 16).find? fun k => bit m k

/-! ### Deposit queue (R269) -/

/-- One word leaves the deposit queue on cycle `c` (R268 to R271). -/
def depWrite (s : State) (n c : Nat) (d : DepWord) : State :=
  let i := 4 * n + d.ch
  let w := s.get R.CLP_DEP_W_W i
  let size := 2 ^ s.get R.CLP_DEP_SIZE_LOG2 i
  let a := match d.addr with
    | some a => a
    | none => (s.get R.CLP_DEP_BASE i + w % size) % 65536
  let s := s.set R.CLP_DEP_W_W (match d.addr with | some _ => d.w | none => w + 1) i
  let s := cPush s n ⟨2 * (c / 2 + 1), .mem a, d.value, false⟩
  let x := clp s n
  let s := setClp s n { x with depAt := c + 1, depAddr := a, evDue := if d.last then x.evDue ++ [(d.ch, c / 2 + 1)] else x.evDue }
  if scheduled s n then addShotTaint s (128 + n) d.taint else s

/-- The queue writes one word per cycle up to cycle `c`. `k` bounds the words. -/
def depDrain (s : State) (n c : Nat) : Nat → State
  | 0 => s
  | k + 1 =>
    let x := clp s n
    match x.depQ with
    | [] => s
    | d :: q => if c < x.depCyc then s else depDrain (depWrite (setClp s n { x with depQ := q, depCyc := x.depCyc + 1 }) n x.depCyc d) n c k

/-- The words waiting are written up to cycle `c`. -/
def depTo (s : State) (n c : Nat) : State := depDrain s n c 16

/-! ### Issue (R256 to R261, R280) -/

/-- The word of program memory at `pc`; the address after 16,383 reads as zero (R267). -/
def clpWord (s : State) (n pc : Nat) : Nat := if pc < 16384 then sget 0 s.clpProg (n * 16384 + pc) else 0

/-- Is the opcode of control class (R258)? -/
def controlOp (op : Nat) : Bool := op == 0 || (decide (2 ≤ op) && decide (op ≤ 6))

/-- May the opcode not be repeated (R259)? -/
def notRepeatable (op : Nat) : Bool := controlOp op || op == 7 || op == 0x18 || op == 0x19 || op == 0x1A

/-- The loops whose END test is active: those pushed before the handler's entry are suspended (R273). -/
def activeLoops (x : Clp) : List CLoop := x.loops.take (x.loops.length - x.susp)

/-- The END test on the issue at `pc` (R260): the innermost loop with that END goes round, or pops and the next one out is tested. -/
def loopEnd (pc : Nat) : List CLoop → List CLoop × Option Nat
  | [] => ([], none)
  | l :: ls =>
    if l.end_ = pc then
      if 1 < l.count then ({ l with count := l.count - 1 } :: ls, some l.start) else loopEnd pc ls
    else let (r, t) := loopEnd pc ls; (l :: r, t)

/-- The cycle of the next issue: of a service Caliper, not before the present tick, whose cycles pass whether it sleeps or not (R269, R274). -/
def clpCyc (s : State) (n : Nat) : Nat := if scheduled s n then (clp s n).cyc else max (clp s n).cyc (2 * s.tick)

/-- May Caliper `n` issue on this tick: RUNNING, and its next cycle falls in this tick (R252, R256)? -/
def clpMayIssue (s : State) (n : Nat) : Bool :=
  s.get R.CLP_STATUS_STATE n == 2 && (clpMode s n == 2 || scheduled s n) && clpCyc s n / 2 == s.tick

/-- The program counter moves on after the issue at `pc` on cycle `c`: repetition, delay slots, loop ends, the return of a handler. Where
a loop end and a transfer fall on one address the manual does not say which stands: a free value decides. -/
def clpAdvance (s : State) (n : Nat) : State :=
  let x := clp s n
  let pc := x.next
  let (shown, s) := if pc < 16384 then (pc, s) else s.free
  let s := s.set R.CLP_STATUS_PC shown n
  let x := { x with cyc := clpCyc s n + 1, repPc := false }
  if 1 < x.rep then setClp s n { x with rep := x.rep - 1 }
  else
    let (act, back) := loopEnd pc (activeLoops x)
    let loops := act ++ x.loops.drop (x.loops.length - x.susp)
    let seq := min (pc + 1) 16384
    let x := { x with rep := 0, loops := loops }
    let out := if x.delay = 1 then (match x.dTo with | some t => some t | none => none) else none
    let (go, s) : Nat × State := match back, out with
      | none, none => (seq, s)
      | some t, none => (t, s)
      | none, some t => (t, s)
      | some t, some u => let (f, s) := s.free; (if f % 2 = 0 then t else u, s)
    let s := s.when (decide (x.delay = 1) && x.dRet) fun s => s.set R.CLP_STATUS_HANDLER 0 n
    setClp s n { x with next := go, delay := x.delay - 1, dTo := if x.delay ≤ 1 then none else x.dTo
                        dRet := decide (1 < x.delay) && x.dRet, susp := if x.delay = 1 ∧ x.dRet then 0 else x.susp }

/-- The failed checks of one instruction: one log entry in scheduled mode (R65, R280); a service Caliper takes no taint and logs nothing, but
NOTICE fires (R278, R279). -/
def clpFail (s : State) (n : Nat) (codes : List Nat) (pc : Nat) : State :=
  if scheduled s n then caliperViolation s n codes pc else fire s (768 + 2 * n + 1)

/-- One issue. `codes` are failing checks that make the instruction a NOP, `soft` those that it fails and still acts; check 0x10 of control-class
instructions is made here, and 0x17 for a deposit word dropped on this cycle. `act` sees the state after the program counter has moved on and the
failed checks have had their effects, with the cycle and the address of the instruction. -/
def clpIssueSoft (s : State) (n op : Nat) (codes soft : State → List Nat) (act : Nat → Nat → State → State) : State :=
  if clpMayIssue s n then
    let x := clp s n
    let c := clpCyc s n
    let pc := x.next
    let s := cSettle (depTo s n c) n c
    let slot := controlOp op && (decide (0 < x.delay) || (activeLoops x).any fun l => l.end_ == pc)
    let bad := (if slot then [0x10] else []) ++ codes s
    let also := (if x.drop = c + 1 then [0x17] else []) ++ soft s
    let s := clpAdvance s n
    let s := if bad ++ also = [] then s else clpFail s n (bad ++ also) pc
    let s := s.when (op == 4) fun s => setClp s n { clp s n with repPc := true }
    if bad = [] then act c pc s else s
  else s

/-- One issue of an instruction whose failing checks all make it a NOP. -/
def clpIssue (s : State) (n op : Nat) (codes : State → List Nat) (act : Nat → Nat → State → State) : State :=
  clpIssueSoft s n op codes (fun _ => []) act

/-- Does an instruction of cycle `c` write the word that a deposit writes on the same cycle (R257)? -/
def depClash (s : State) (n c a : Nat) : Bool := (clp s n).depAt == c + 1 && (clp s n).depAddr == a

/-- Check 0x17 of an instruction about to issue that writes data memory at the addresses `as` (R257); a mailbox address is no word of it. -/
def storeClash (s : State) (n : Nat) (as : List Nat) : List Nat :=
  if as.any fun a => !(clpHasMbx s n && decide (0xFFFC ≤ a % 65536)) && depClash s n (clpCyc s n) a then [0x17] else []

/-- The word a memory operand reads (R249, R262); a mailbox address of a service Caliper reaches its mailbox (R349). -/
def cLoad (s : State) (n a : Nat) : Nat × State := if clpHasMbx s n && decide (0xFFFC ≤ a) then mbxLoad s n a else (dmem s n a, s)

/-- A program write to data memory, seen from cycle c + 2 on; a deposit on the same cycle stands (R257). -/
def cStore (s : State) (n c a v : Nat) (hinc : Bool) : State :=
  if clpHasMbx s n && decide (0xFFFC ≤ a % 65536) then mbxStore s n (a % 65536) v
  else if depClash s n c a then s else cPush s n ⟨c + 2, .mem (a % 65536), v % 2 ^ 36, hinc⟩

/-! ### Operands (R262) -/

/-- The 16 bits of a number in reverse order. -/
def rev16 (x : Nat) : Nat := (List.range 16).foldl (fun r k => if bit x k then r + 2 ^ (15 - k) else r) 0

/-- The smallest power of two at least `n`, n up to 65,535. -/
def pow2At (n : Nat) : Nat := 2 ^ (((List.range 17).find? fun k => decide (n ≤ 2 ^ k)).getD 16)

/-- The listing post_modify of R262. -/
def postModify (p m : Nat) : Nat :=
  let step := sgn 16 (m % 2 ^ 16)
  let len := bits m 31 16
  if bits m 33 32 = 1 ∧ 0 < len then
    let base := p - p % pow2At len
    base + (((p - base : Nat) + step) % (len : Int)).toNat
  else if bits m 33 32 = 2 then rev16 ((rev16 p + rev16 (m % 2 ^ 16)) % 2 ^ 16)
  else wrapI ((p : Int) + step) 16

/-- A memory operand's address. -/
def moAddr (s : State) (n mo : Nat) : Nat := pReg s n (bits mo 6 4)

/-- The post-modification of a memory operand, if U is 1: pointer and new value. -/
def moUpdate (s : State) (n mo : Nat) : Option (Nat × Nat) :=
  if bit mo 0 then some (bits mo 6 4, postModify (moAddr s n mo) (mReg s n (bits mo 3 1)) % 2 ^ 16) else none

/-- The post-modifications of the operands of one instruction. Two different ones of one pointer have no stated outcome: free. -/
def moDone (s : State) (n : Nat) (a b : Option (Nat × Nat)) : State :=
  let put (s : State) (u : Nat × Nat) : State := s.set R.CLP_P_VALUE u.2 (8 * n + u.1)
  match a, b with
  | none, none => s
  | some u, none => put s u
  | none, some u => put s u
  | some u, some v =>
    if u.1 = v.1 ∧ u.2 ≠ v.2 then let (f, s) := s.free; put s (u.1, f) else put (put s u) v

/-! ### Control class -/

/-- HALT: scheduled, the program ends for the shot; service, the Caliper sleeps (R267, R274). -/
def execHalt (n : Fin 64) (w : BitVec 30) (s : State) : Host.Outcome State Fault Refusal :=
  .next (clpIssue s n.val (0 + 0 * w.toNat) (fun _ => []) fun _ _ s => setClpState s n.val (if scheduled s n.val then 4 else 5))

/-- NOP. -/
def execClpNop (n : Fin 64) (w : BitVec 30) (s : State) : Host.Outcome State Fault Refusal :=
  .next (clpIssue s n.val (1 + 0 * w.toNat) (fun _ => []) fun _ _ s => s)

/-- Conditions of BR (Table CLP-5). -/
def clpCond (cond x : Nat) : Option Bool :=
  match cond with
  | 0 => some true
  | 1 => some (x == 0)
  | 2 => some (x != 0)
  | 3 => some (decide (sgn 36 x < 0))
  | 4 => some (decide (sgn 36 x ≥ 0))
  | _ => none

/-- BR: two delay slots issue, then the target if the condition holds (R258). A reserved COND decides by a free value. -/
def execBr (n : Fin 64) (w : BitVec 30) (s : State) : Host.Outcome State Fault Refusal :=
  .next (clpIssue s n.val 2 (fun _ => []) fun _ _ s =>
    let (f, s) := s.free
    let taken := match clpCond (bits w.toNat 29 26) (xReg s n.val (bits w.toNat 25 22)) with
      | some b => b
      | none => f % 2 == 1
    setClp s n.val { clp s n.val with delay := 2, dTo := if taken then some (bits w.toNat 13 0) else none, dRet := false })

/-- RETE: after its delay slots the handler returns to ELR (R273). -/
def execRete (n : Fin 64) (w : BitVec 30) (s : State) : Host.Outcome State Fault Refusal :=
  .next (clpIssue s n.val (3 + 0 * w.toNat) (fun s => if s.flag R.CLP_STATUS_HANDLER n.val then [] else [0x16]) fun _ _ s =>
    setClp s n.val { clp s n.val with delay := 2, dTo := some (s.get R.CLP_ELR_ELR n.val), dRet := true })

/-- REPEAT: the next instruction issues COUNT times (R259). -/
def execRepeat (n : Fin 64) (w : BitVec 30) (s : State) : Host.Outcome State Fault Refusal :=
  let op := clpWord s n.val (min ((clp s n.val).next + 1) 16384) / 2 ^ 30
  .next (clpIssue s n.val 4 (fun _ => if notRepeatable op then [0x12] else []) fun _ _ s =>
    let k := if bit w.toNat 29 then xReg s n.val (bits w.toNat 28 25) % 2 ^ 12 else bits w.toNat 11 0
    setClp s n.val { clp s n.val with rep := if k = 0 then 4096 else k })

/-- LOOP: a loop from the next address to END (R260). -/
def execClpLoop (n : Fin 64) (w : BitVec 30) (s : State) : Host.Outcome State Fault Refusal :=
  .next (clpIssue s n.val 5 (fun s => if 4 ≤ (clp s n.val).loops.length then [0x11] else []) fun _ pc s =>
    let k := if bit w.toNat 29 then xReg s n.val (bits w.toNat 17 14) % 2 ^ 15 else bits w.toNat 28 14
    setClp s n.val { clp s n.val with loops := ⟨pc + 1, bits w.toNat 13 0, if k = 0 then 32768 else k⟩ :: (clp s n.val).loops })

/-- WAITC: the next issue falls on cycle max(c + 1, N) of the shot, in service mode on c + max(N, 1); an event that interrupted it
leaves its remainder, which a WAITC of its handler does not touch (R261, R272). -/
def execWaitc (n : Fin 64) (w : BitVec 30) (s : State) : Host.Outcome State Fault Refusal :=
  .next (clpIssue s n.val 6 (fun _ => []) fun c pc s =>
    let k := if bit w.toNat 29 then xReg s n.val (bits w.toNat 28 25) % 2 ^ 32 else bits w.toNat 24 0
    let old := (clp s n.val).waitRem
    let handler := s.flag R.CLP_STATUS_HANDLER n.val
    let rem := match old with
      | some (p, r) => if p = pc ∧ !handler then r else k
      | none => k
    let to_ := if scheduled s n.val then max (c + 1) (2 * s.shotStart + k) else c + max rem 1
    let s := setClp s n.val { clp s n.val with cyc := to_, waitRem := if handler then old else none, waitPc := pc, waitAt := c + 1 }
    if c + 1 < to_ then setClpState s n.val 3 else s)

/-- WAITC_END: the wait's cycle comes (R261). -/
def execWaitcEnd (n : Fin 64) (s : State) : Host.Outcome State Fault Refusal :=
  .next (if s.get R.CLP_STATUS_STATE n.val = 3 ∧ clpCyc s n.val / 2 = s.tick then setClpState s n.val 2 else s)

/-- EVM: the event mask (Table CLP-4); scheduled mode holds bit 4 at 0. A reserved FN leaves a free value. -/
def execEvm (n : Fin 64) (w : BitVec 30) (s : State) : Host.Outcome State Fault Refusal :=
  .next (clpIssue s n.val 7 (fun _ => []) fun _ _ s =>
    let m := bits w.toNat 15 0
    let old := s.get R.CLP_EVT_EMASK n.val
    let (f, s) := s.free
    let v := match bits w.toNat 29 28 with
      | 0 => m
      | 1 => old ||| m
      | 2 => old &&& (0xFFFF - m)
      | _ => f % 2 ^ 16
    s.set R.CLP_EVT_EMASK (if scheduled s n.val then v &&& 0xFFEF else v) n.val)

/-! ### Multiply-accumulate (R263 to R265) -/

/-- I and Q of a complex operand. -/
def cplx (x : Nat) : Int × Int := (sgn 18 (x / 2 ^ 18), sgn 18 x)

/-- Write accumulator `k`: wraps modulo 2^80, a wrap sets AOVF; STA sees it from cycle c + 3 on. -/
def accPut (s : State) (n c k : Nat) (v : Int) : State :=
  let u := wrapI v 80
  let s := s.when (decide (sgn 80 u ≠ v)) fun s => s.set R.CLP_STATUS_AOVF 1 n
  cPush (setClp s n { clp s n with acc := accSet (clp s n).acc k u }) n ⟨c + 3, .acc (k % 4), u, false⟩

/-- Accumulate a product into accumulator `k` under CLR and NEG. -/
def accMac (s : State) (n c k : Nat) (clr neg : Bool) (v : Int) : State :=
  accPut s n c k ((if clr then 0 else accReg s n k) + (if neg then -v else v))

/-- The complex product of R263. -/
def cmul (a b : Int × Int) (conj : Bool) : Int × Int :=
  if conj then (a.1 * b.1 + a.2 * b.2, a.2 * b.1 - a.1 * b.2) else (a.1 * b.1 - a.2 * b.2, a.1 * b.2 + a.2 * b.1)

/-- CMAC and CMACX on operands `x` and `y`. -/
def cmacOn (s : State) (n c w x y : Nat) : State :=
  let ac := bits w 29 28
  let p := cmul (cplx x) (cplx y) (bit w 25)
  accMac (accMac s n c ac (bit w 27) (bit w 26) p.1) n c (ac + 1) (bit w 27) (bit w 26) p.2

/-- RMAC and RMACX on operands `x` and `y`. -/
def rmacOn (s : State) (n c w x y : Nat) : State :=
  accMac s n c (bits w 29 28) (bit w 27) (bit w 26) (sgn 36 x * sgn 36 y)

/-- The two memory operands of CMAC and RMAC: their words, and the state after post-modification. -/
def twoMem (s : State) (n w : Nat) : Nat × Nat × State :=
  let a := bits w 24 18
  let b := bits w 17 11
  let (x, t) := cLoad s n (moAddr s n a)
  let (y, t) := cLoad t n (moAddr s n b)
  (x, y, moDone t n (moUpdate s n a) (moUpdate s n b))

/-- The memory operand MOa and X[XB] of CMACX and RMACX. -/
def memX (s : State) (n w : Nat) : Nat × Nat × State :=
  let a := bits w 24 18
  let (x, t) := cLoad s n (moAddr s n a)
  (x, xReg s n (bits w 17 14), moDone t n (moUpdate s n a) none)

/-- CMAC. -/
def execCmac (n : Fin 64) (w : BitVec 30) (s : State) : Host.Outcome State Fault Refusal :=
  .next (clpIssue s n.val 8 (fun _ => []) fun c _ s => let (x, y, s) := twoMem s n.val w.toNat; cmacOn s n.val c w.toNat x y)

/-- CMACX. -/
def execCmacx (n : Fin 64) (w : BitVec 30) (s : State) : Host.Outcome State Fault Refusal :=
  .next (clpIssue s n.val 9 (fun _ => []) fun c _ s => let (x, y, s) := memX s n.val w.toNat; cmacOn s n.val c w.toNat x y)

/-- RMAC. -/
def execRmac (n : Fin 64) (w : BitVec 30) (s : State) : Host.Outcome State Fault Refusal :=
  .next (clpIssue s n.val 0x0A (fun _ => []) fun c _ s => let (x, y, s) := twoMem s n.val w.toNat; rmacOn s n.val c w.toNat x y)

/-- RMACX. -/
def execRmacx (n : Fin 64) (w : BitVec 30) (s : State) : Host.Outcome State Fault Refusal :=
  .next (clpIssue s n.val 0x0B (fun _ => []) fun c _ s => let (x, y, s) := memX s n.val w.toNat; rmacOn s n.val c w.toNat x y)

/-- LDA: accumulators from one memory word, shifted left (R264). -/
def execLda (n : Fin 64) (w : BitVec 30) (s : State) : Host.Outcome State Fault Refusal :=
  .next (clpIssue s n.val 0x0C (fun _ => []) fun c _ s =>
    let mo := bits w.toNat 20 14
    let (x, s) := cLoad s n.val (moAddr s n.val mo)
    let s := moDone s n.val (moUpdate s n.val mo) none
    let ac := bits w.toNat 29 28
    let k : Int := ((2 ^ bits w.toNat 26 21 : Nat) : Int)
    if bit w.toNat 27 then accPut (accPut s n.val c ac ((cplx x).1 * k)) n.val c (ac + 1) ((cplx x).2 * k)
    else accPut s n.val c ac (sgn 36 x * k))

/-- STA: accumulators, narrowed, into memory or an X register (R264). -/
def execSta (n : Fin 64) (w : BitVec 30) (s : State) : Host.Outcome State Fault Refusal :=
  let mem (s : State) : List Nat := if bit w.toNat 20 then [] else [moAddr s n.val (bits w.toNat 19 13)]
  .next (clpIssueSoft s n.val 0x0D (fun _ => []) (fun s => storeClash s n.val (mem s)) fun c _ s =>
    let ac := bits w.toNat 29 28
    let sh := bits w.toNat 26 21
    let i := narrow (accSta s n.val ac) sh 18
    let q := narrow (accSta s n.val (ac + 1)) sh 18
    let r := narrow (accSta s n.val ac) sh 36
    let (v, sat) := if bit w.toNat 27 then (wrapI i.1 18 * 2 ^ 18 + wrapI q.1 18, i.2 || q.2) else (wrapI r.1 36, r.2)
    let s := s.when sat fun s => s.set R.CLP_STATUS_SAT 1 n.val
    if bit w.toNat 20 then cPushX s n.val (c + 3) (bits w.toNat 19 16) v
    else
      let mo := bits w.toNat 19 13
      let a := moAddr s n.val mo
      cStore (moDone s n.val (moUpdate s n.val mo) none) n.val c a v false)

/-- ACC: functions on whole accumulators (R265, Table CLP-6). The reserved FN 7 leaves a free value. -/
def execAcc (n : Fin 64) (w : BitVec 30) (s : State) : Host.Outcome State Fault Refusal :=
  .next (clpIssue s n.val 0x0E (fun _ => []) fun c _ s =>
    let ad := bits w.toNat 29 28
    let d := accReg s n.val ad
    let a := accReg s n.val (bits w.toNat 27 26)
    let sh := bits w.toNat 22 17
    match bits w.toNat 25 23 with
    | 0 => accPut s n.val c ad (d + a)
    | 1 => accPut s n.val c ad (d - a)
    | 2 => accPut s n.val c ad a
    | 3 => accPut s n.val c ad (-a)
    | 4 => accPut s n.val c ad (narrow d sh 80).1
    | 5 =>
      let r := narrow (d * ((2 ^ sh : Nat) : Int)) 0 80
      accPut (s.when r.2 fun s => s.set R.CLP_STATUS_SAT 1 n.val) n.val c ad r.1
    | 6 => accPut s n.val c ad 0
    | _ => let (f, s) := s.free; accPut s n.val c ad (f : Int))

/-! ### Data -/

/-- One transfer of LDST at address `a`. -/
def ldstOne (s : State) (n c xd : Nat) (store : Bool) (a : Nat) (v : Nat) : State :=
  if store then cStore s n c a (xReg s n xd) false else cPushX s n (c + 2) xd v

/-- LDST: one or two loads or stores (Table CLP-5). -/
def execLdst (n : Fin 64) (w : BitVec 30) (s : State) : Host.Outcome State Fault Refusal :=
  let mem (s : State) : List Nat := (if bit w.toNat 25 then [moAddr s n.val (bits w.toNat 24 18)] else []) ++
    if bit w.toNat 17 && bit w.toNat 16 then [moAddr s n.val (bits w.toNat 11 5)] else []
  .next (clpIssueSoft s n.val 0x10 (fun _ => []) (fun s => storeClash s n.val (mem s)) fun c _ s =>
    let moa := bits w.toNat 24 18
    let mob := bits w.toNat 11 5
    let two := bit w.toNat 17
    let a := moAddr s n.val moa
    let b := moAddr s n.val mob
    let (va, s) := if bit w.toNat 25 then (0, s) else cLoad s n.val a
    let (vb, s) := if two && !bit w.toNat 16 then cLoad s n.val b else (0, s)
    let s := moDone s n.val (moUpdate s n.val moa) (if two then moUpdate s n.val mob else none)
    let s := ldstOne s n.val c (bits w.toNat 29 26) (bit w.toNat 25) a va
    if two then ldstOne s n.val c (bits w.toNat 15 12) (bit w.toNat 16) b vb else s)

/-- ALU functions of Table CLP-6; `none` for the reserved ones. -/
def clpAlu (fn x y : Nat) : Option Nat :=
  match fn with
  | 0 => some ((x + y) % 2 ^ 36)
  | 1 => some ((x + 2 ^ 36 - y) % 2 ^ 36)
  | 2 => some (x &&& y)
  | 3 => some (x ||| y)
  | 4 => some (Nat.xor x y)
  | 5 => some (if 36 ≤ y % 64 then 0 else x * 2 ^ (y % 64) % 2 ^ 36)
  | 6 => some (if 36 ≤ y % 64 then 0 else x / 2 ^ (y % 64))
  | 7 => some (wrapI (sgn 36 x / ((2 ^ min (y % 64) 35 : Nat) : Int)) 36)
  | 8 => some y
  | 9 => some (if sgn 36 x ≤ sgn 36 y then x else y)
  | 10 => some (if sgn 36 x ≥ sgn 36 y then x else y)
  | 11 => some (b2n (decide (sgn 36 x ≥ sgn 36 y)))
  | _ => none

/-- A result that the next cycle sees, in X[k] (Table CLP-3). -/
def setX (s : State) (n c k v : Nat) : State := cSettle (cPushX s n (c + 1) k v) n (c + 1 - 1)

/-- ALU (R266). A reserved FN leaves a free value. -/
def execClpAlu (n : Fin 64) (w : BitVec 30) (s : State) : Host.Outcome State Fault Refusal :=
  .next (clpIssue s n.val 0x11 (fun _ => []) fun c _ s =>
    let y := if bit w.toNat 17 then wrapI (sgn 13 (bits w.toNat 12 0)) 36 else xReg s n.val (bits w.toNat 16 13)
    match clpAlu (bits w.toNat 29 26) (xReg s n.val (bits w.toNat 21 18)) y with
    | some v => setX s n.val c (bits w.toNat 25 22) v
    | none => let (f, s) := s.free; setX s n.val c (bits w.toNat 25 22) f)

/-- MOVI: an 18-bit immediate into the low bits, sign-extended, or into bits [35:18] (Table CLP-4). -/
def execMovi (n : Fin 64) (w : BitVec 30) (s : State) : Host.Outcome State Fault Refusal :=
  .next (clpIssue s n.val 0x12 (fun _ => []) fun c _ s =>
    let d := bits w.toNat 29 26
    let i := bits w.toNat 17 0
    setX s n.val c d (if bit w.toNat 25 then i * 2 ^ 18 + xReg s n.val d % 2 ^ 18 else wrapI (sgn 18 i) 36))

/-- SETA: a pointer or a modifier, seen from cycle c + 2 on (Table CLP-5). -/
def execSeta (n : Fin 64) (w : BitVec 30) (s : State) : Host.Outcome State Fault Refusal :=
  .next (clpIssue s n.val 0x13 (fun _ => []) fun c _ s =>
    let v := if bit w.toNat 25 then xReg s n.val (bits w.toNat 19 16) else bits w.toNat 15 0
    let r := bits w.toNat 28 26
    cPush s n.val ⟨c + 2, if bit w.toNat 29 then .m r else .p r, if bit w.toNat 29 then v else v % 2 ^ 16, false⟩)

/-- The bin of HINC before clamping, and the bin (R266). -/
def hincBin (s : State) (n w : Nat) : Int × Int :=
  let nb := bits w 16 13
  let top : Int := ((2 ^ nb : Nat) : Int) - 1
  let i0 := sgn 36 (xReg s n (bits w 26 23)) / ((2 ^ bits w 22 17 : Nat) : Int)
  let i1 := if bit w 12 then i0 + ((2 ^ (nb - 1) : Nat) : Int) else i0
  (i1, max 0 (min i1 top))

/-- The data address that HINC counts in. -/
def hincAddr (s : State) (n w : Nat) : Nat := wrapI ((pReg s n (bits w 29 27) : Int) + (hincBin s n w).2) 16

/-- HINC: a histogram bin counts; sequences of HINC are forwarded (R257, R266). -/
def execHinc (n : Fin 64) (w : BitVec 30) (s : State) : Host.Outcome State Fault Refusal :=
  .next (clpIssueSoft s n.val 0x14 (fun _ => []) (fun s => storeClash s n.val [hincAddr s n.val w.toNat]) fun c _ s =>
    let i := hincBin s n.val w.toNat
    let a := hincAddr s n.val w.toNat
    let old := match ((clp s n.val).pend.filter fun p => p.hinc && p.to_ == .mem a).getLast? with
      | some p => p.value
      | none => dmem s n.val a
    let full := decide (old = 2 ^ 36 - 1)
    let s := s.when (full || decide (i.1 ≠ i.2)) fun s => s.set R.CLP_STATUS_SAT 1 n.val
    cStore s n.val c a (if full then old else old + 1) true)

/-- RDS selections (Table CLP-7); `none` for the reserved ones. -/
def rdsValue (s : State) (n c sel : Nat) : Option Nat :=
  match sel with
  | 0 => some (if scheduled s n then c - 2 * s.shotStart else c - (clp s n).wake)
  | 1 => some (s.get R.CLK_SHOT_COUNT)
  | 2 => some (s.now % 2 ^ 36)
  | 3 => some (s.get R.CLP_DEP_W_W (4 * n))
  | 4 => some (s.get R.CLP_DEP_W_W (4 * n + 1))
  | 5 => some (s.get R.CLP_DEP_W_W (4 * n + 2))
  | 6 => some (s.get R.CLP_DEP_W_W (4 * n + 3))
  | 7 => some (s.get R.CLP_STATUS_AOVF n + 2 * s.get R.CLP_STATUS_SAT n + 4 * s.get R.CLP_STATUS_SVC_FAULT n + 8 * s.get R.CLP_STATUS_CUT n)
  | 8 => some (s.get R.CLP_ELR_ELR n)
  | 9 => some (s.get R.CLP_EVT_EPEND n)
  | _ => none

/-- RDS (Table CLP-7). W is that of the end of the previous tick; a reserved SEL leaves a free value. -/
def execRds (n : Fin 64) (w : BitVec 30) (s : State) : Host.Outcome State Fault Refusal :=
  let w0 := bits w.toNat 25 21
  let wPrev := sget 0 s.depWPrev (4 * n.val + (w0 - 3))
  .next (clpIssue s n.val 0x15 (fun _ => []) fun c _ s =>
    let d := bits w.toNat 29 26
    if 3 ≤ w0 ∧ w0 ≤ 6 then setX s n.val c d wPrev
    else match rdsValue s n.val c w0 with
      | some v => setX s n.val c d (v % 2 ^ 36)
      | none => let (f, s) := s.free; setX s n.val c d f)

/-! ### Harvest and outputs (R275 to R279) -/

/-- A service Caliper's HARVEST, PUB or REC: NOP, with SVC_FAULT; NOTICE on its 0 to 1 transition (R278, R279). -/
def svcFault (s : State) (n : Nat) : State :=
  if s.flag R.CLP_STATUS_SVC_FAULT n then s else fire (s.set R.CLP_STATUS_SVC_FAULT 1 n) (768 + 2 * n + 1)

/-- HARVEST (R275). -/
def execClpHarvest (n : Fin 64) (w : BitVec 30) (s : State) : Host.Outcome State Fault Refusal :=
  let d := bits w.toNat 29 26
  let pt := pointOn s (128 + n.val) (bits w.toNat 15 0)
  let on := scheduled s n.val
  .next (clpIssueSoft s n.val 0x18 (fun _ => if on && pt == none then [0x13] else [])
    (fun s => if on && pt.any (harvestOutOfOrder s) then [0x14] else []) fun c _ s =>
    if !on then svcFault s n.val
    else match pt with
      | none => s
      | some p =>
        if harvestOutOfOrder s p then setX s n.val c d (if p.kind = 1 then 0 else p.dflt)
        else let (v, s) := harvestTake s p; setX s n.val c d v)

/-- The publication tick of Caliper bit `b` in this shot, if declared (R276). -/
def clpPubTick (s : State) (b : Nat) : Option Nat := (decDeclared s (1024 + b)).map (· + s.shotStart)

/-- Can bit `b` of Caliper `n` still be published: it has a publication, 2 ticks from now or later (check 0x15)? -/
def pubOk (s : State) (n b : Nat) : Bool := (clpPubTick s (4 * n + b)).any fun t => decide (s.tick + 2 ≤ t)

/-- PUB: Caliper decision bits, ready from t + 2 on; a bit that cannot be published any more fails check 0x15 (R276, R277). A bit's taint is that
of the issue tick, with CLOCK for the interval from the shot start to it. -/
def execPub (n : Fin 64) (w : BitVec 30) (s : State) : Host.Outcome State Fault Refusal :=
  let bs := (List.range 4).filter fun b => bit w.toNat (26 + b)
  .next (clpIssueSoft s n.val 0x19 (fun _ => []) (fun s => if scheduled s n.val && !bs.all (pubOk s n.val) then [0x15] else []) fun _ _ s =>
    if !scheduled s n.val then svcFault s n.val
    else
      let x := xReg s n.val (bits w.toNat 25 22)
      let t := taintOr (shotTaint s (128 + n.val)) (clockTaint s s.shotStart)
      setClp s n.val { clp s n.val with
        pubs := (clp s n.val).pubs ++ (bs.filter (pubOk s n.val)).map fun b => (b, s.tick, bit x b, t) })

/-- REC: a Caliper output record (R278, Table CLP-9); its interval for CLOCK runs from the shot start tick (R277). -/
def execRec (n : Fin 64) (w : BitVec 30) (s : State) : Host.Outcome State Fault Refusal :=
  .next (clpIssue s n.val 0x1A (fun _ => []) fun _ _ s =>
    if !scheduled s n.val then svcFault s n.val
    else
      let k := bits w.toNat 29 26
      let tag := bits w.toNat 13 0
      let t := taintOr (shotTaint s (128 + n.val)) (clockTaint s s.shotStart)
      pushRec (noteTaint s t) (inputQueue n.val)
        (mkRec 4 n.val (tag / 128) tag (taintMask t) s.now (s.get R.CLK_SHOT_COUNT) (xReg s n.val k) (xReg s n.val (k + 1)) (xReg s n.val (k + 2))))

/-- EMIT: the Caliper's event source (Table CLP-4). -/
def execClpEmit (n : Fin 64) (w : BitVec 30) (s : State) : Host.Outcome State Fault Refusal :=
  .next (clpIssue s n.val (0x1B + 0 * w.toNat) (fun _ => []) fun _ _ s => fire s (768 + 2 * n.val))

/-- CALIPER_PUBLISH: on the declared tick the last ready value is published, or 0 with LATE (R276). -/
def execCaliperPublish (n : Fin 64) (b : Fin 4) (s : State) : Host.Outcome State Fault Refusal :=
  if running s ∧ scheduled s n.val ∧ clpPubTick s (4 * n.val + b.val) = some s.tick then
    let bitNo := 1024 + 4 * n.val + b.val
    .next (match ((clp s n.val).pubs.filter fun p => p.1 == b.val && decide (p.2.1 + 2 ≤ s.tick)).getLast? with
      | some p => decPublish s bitNo p.2.2.1 p.2.2.2
      | none => fire ((decPublish s bitNo false (taintOf tLATE 2 n.val)).inc R.CLP_LATE_CNT_COUNT n.val) (768 + 2 * n.val + 1))
  else .next s

/-! ### Event entry (R272 to R274) -/

/-- Input `k` is taken on cycle `cyc` with return address `ret`: EVEC[k] issues two cycles later (R272); input 4 accepts its ring (R351). -/
def takeEvent (s : State) (n k ret cyc : Nat) : State :=
  let s := s.set R.CLP_EVT_EPEND (s.get R.CLP_EVT_EPEND n &&& (0xFFFF - 2 ^ k)) n
  let s := s.when (decide (8 ≤ k)) fun s => s.set R.EVF_TASKST_PENDING 0 (8 * n + (k - 8))
  let s := s.when (k == 4) fun s => mbxClpAccept s n
  let s := (s.set R.CLP_ELR_ELR ret n).set R.CLP_STATUS_HANDLER 1 n
  let x := clp s n
  setClpState (setClp s n { x with next := s.get R.CLP_EVEC_ADDR (16 * n + k), cyc := cyc + 2, susp := x.loops.length }) n 2

/-- May an event be taken at the next issue (R272)? -/
def clpBoundary (s : State) (n : Nat) : Bool :=
  let x := clp s n
  !s.flag R.CLP_STATUS_HANDLER n && x.delay == 0 && x.rep == 0 && !x.repPc

/-- CALIPER_WAKE: a sleeping service Caliper wakes when an enabled input is pending, and takes it (R274). -/
def execCaliperWake (n : Fin 64) (s : State) : Host.Outcome State Fault Refusal :=
  .next (match lowBit (clpReady s n.val) with
    | some k =>
      if s.get R.CLP_STATUS_STATE n.val = 5 ∧ clpMode s n.val = 2 then
        let x := clp s n.val
        let c := clpCyc s n.val
        let s := setClpState (setClp s n.val { x with wake := c, cyc := c }) n.val 2
        if s.flag R.CLP_STATUS_HANDLER n.val then s else takeEvent s n.val k x.next c
      else s
    | none => s)

/-- CALIPER_EVENT_ENTRY: a pending enabled input is taken at an instruction boundary of this tick; every cycle of a WAITC is one, and ELR
then holds the WAITC's own address with its remainder kept (R272). -/
def execCaliperEventEntry (n : Fin 64) (s : State) : Host.Outcome State Fault Refusal :=
  .next (match lowBit (clpReady s n.val) with
    | none => s
    | some k =>
      let x := clp s n.val
      if s.flag R.CLP_STATUS_HANDLER n.val then s
      else if clpMayIssue s n.val && clpBoundary s n.val then
        let c := clpCyc s n.val
        takeEvent (cSettle (depTo s n.val c) n.val c) n.val k x.next c
      else if s.get R.CLP_STATUS_STATE n.val = 3 then
        let c := max (2 * s.tick) x.waitAt
        if x.cyc ≤ c then s
        else
          let s := cSettle (depTo s n.val c) n.val c
          let x := clp s n.val
          takeEvent (setClp s n.val { x with waitRem := some (x.waitPc, x.cyc - c) }) n.val k x.waitPc c
      else s)

/-! ### Deposits (R268 to R270) -/

/-- A complex word of two 18-bit values. -/
def cWord (i q : Int) : Nat := wrapI i 18 * 2 ^ 18 + wrapI q 18

/-- The words a channel produces on this tick: value, taint, address and W of KIND 3, whether it fires the event input. `codes` are raw
codes from three samples before the connector tick the words belong to. -/
def depWords (s : State) (n c : Nat) (codes : List (BitVec 12)) : List DepWord × Bool :=
  let i := 4 * n + c
  let src := s.get R.CLP_DEP_SRC i
  let die := n / 8
  match s.get R.CLP_DEP_KIND i with
  | 1 =>
    let d := 128 * die + src % 128
    match (wins s d).find? fun w => w.opened && decide (w.o < s.tick ∧ s.tick ≤ winEnd w) && (s.tick - w.o) % 2 == 1 with
    | some w =>
      let c0 := s.tick - 15
      let x := decimated s d (codesFrom ((c0 : Int) * 16 - 3) codes) c0
      let t := taintOr w.taint (spanTaint s (d / 16) (16 * c0 - 3) (16 * c0 + 34) 4 d)
      ([⟨s.tick, c, cWord x.1 x.2.1, t, none, 0, s.tick == winEnd w⟩], x.2.2.2)
    | none => ([], false)
  | 2 =>
    let d := 128 * die + src % 128
    match (wins s d).find? fun w => winEnd w + 8 == s.tick with
    | some w => match w.result with
      | some (st, t) =>
        let info := st + w.flags * 4 + taintMask t * 2 ^ 9
        ([⟨s.tick, c, s.get R.DMD_LAST_VALUE (2 * d), t, none, 0, false⟩, ⟨s.tick, c, s.get R.DMD_LAST_VALUE (2 * d + 1), t, none, 0, false⟩,
          ⟨s.tick, c, info, t, none, 0, true⟩], false)
      | none => ([], false)
    | none => ([], false)
  | 3 =>
    let inp := 8 * die + src % 8
    let c0 := s.tick - 14
    let ph := s.get R.CLP_DEP_PHASE i
    let size := 2 ^ s.get R.CLP_DEP_SIZE_LOG2 i
    let x := codesFrom ((c0 : Int) * 16 - 3) codes
    let y (j : Nat) : Int × Bool := corrected s inp x (16 * c0 + 4 * j + ph)
    let ct := schedAt s c0
    let word (h : Nat) : DepWord :=
      let u := 16 * c0 + 8 * h + ph
      let t := taintOr (spanTaint s inp (u - 3) (u + 3) 3 inp) (spanTaint s inp (u + 1) (u + 7) 3 inp)
      let k := (2 * ct + h) % size
      ⟨s.tick, c, cWord (y (2 * h)).1 (y (2 * h + 1)).1, t, some ((s.get R.CLP_DEP_BASE i + k) % 65536), (2 * ct + 2) % 65536, k + 1 == size⟩
    ([word 0, word 1], (y 0).2 || (y 1).2 || (y 2).2 || (y 3).2)
  | _ => ([], false)

/-- A word takes its place in the queue: of one tick, behind those of its own and lower channels (R269). -/
def depInsert (d : DepWord) : List DepWord → List DepWord
  | [] => [d]
  | x :: l => if x.at_ = d.at_ ∧ d.ch < x.ch then d :: x :: l else x :: depInsert d l

/-- Words enter the deposit queue; the last of more than 16 is dropped, and check 0x17 fails on this cycle (R269). -/
def depEnter (n : Nat) (s : State) (d : DepWord) : State :=
  let x := clp s n
  let q := depInsert d x.depQ
  setClp s n { x with depQ := q.take 16, drop := if 16 < q.length then 2 * s.tick + 1 else x.drop
                      depCyc := if x.depQ = [] then max x.depCyc (2 * s.tick) else x.depCyc }

/-- DEPOSIT_WRITE: what channel `c` of Caliper `n` takes from its die on this tick. -/
def execDepositWrite (n : Fin 64) (c : Fin 4) (codes : List (BitVec 12)) (s : State) : Host.Outcome State Fault Refusal :=
  if clpMode s n.val = 0 then .next s else
  let (ws, sat) := depWords s n.val c.val codes
  let inp := if s.get R.CLP_DEP_KIND (4 * n.val + c.val) = 1 then (128 * (n.val / 8) + s.get R.CLP_DEP_SRC (4 * n.val + c.val) % 128) / 16
    else 8 * (n.val / 8) + s.get R.CLP_DEP_SRC (4 * n.val + c.val) % 8
  .next (forAll ws (satCor s inp sat) (depEnter n.val))

/-- The end of a tick for Caliper `n`: the queue's writes of both cycles, the writes that the next tick's first cycle sees, and the W values its
RDS reads. -/
def clpTickEnd (s : State) (n : Nat) : State :=
  let s := cSettle (depTo s n (2 * s.tick + 1)) n (2 * s.tick + 2)
  forAll [0, 1, 2, 3] s fun s c => { s with depWPrev := sset 0 s.depWPrev (4 * n + c) (s.get R.CLP_DEP_W_W (4 * n + c)) }

/-- The start of a tick for Caliper `n`: event inputs of deposit channels become pending (R271). -/
def clpTickStart (s : State) (n : Nat) : State :=
  let x := clp s n
  let due := x.evDue.filter fun p => decide (p.2 ≤ s.tick)
  forAll due (setClp s n { x with evDue := x.evDue.filter fun p => decide (s.tick < p.2) }) fun s p => clpEvent s n p.1

/-! ### Shot starts, HOLD, RUN (R253 to R255) -/

/-- Steps 1 and 2 of R253. -/
def clpAbandon (s : State) (n : Nat) (old : Option Nat) : State :=
  let st := s.get R.CLP_STATUS_STATE n
  let s := s.when (st == 2 || st == 3) fun s => fire ((s.set R.CLP_STATUS_CUT 1 n).inc R.CLP_CUT_CNT_COUNT n) (768 + 2 * n + 1)
  match old with
  | some k => (s.set R.CLP_PREV_TAINT_TAINT (taintMask (shotTaint s (128 + n))) n).set R.CLP_PREV_SHOT_COUNT k n
  | none => s

/-- The pending events of Caliper `n` clear, and the task inputs they stand for (R253, R343). -/
def clpClearEvents (s : State) (n : Nat) : State :=
  forAll (List.range 8) (s.set R.CLP_EVT_EPEND 0 n) fun s k => s.set R.EVF_TASKST_PENDING 0 (8 * n + k)

/-- A shot start of a scheduled Caliper (R253). -/
def clpShotStart (s : State) (n : Nat) (old : Option Nat) : State :=
  let s := setShotTaint (clpAbandon s n old) (128 + n) []
  let s := forAll (List.range 8) s fun s k => s.set R.CLP_X_VALUE 0 (16 * n + k)
  let s := ((clpClearEvents s n).set R.CLP_ELR_ELR 0 n).set R.CLP_STATUS_HANDLER 0 n
  let s := s.set R.CLP_EVT_EMASK (sget 0 s.clpEmask n) n
  let s := forAll [0, 1, 2, 3] s fun s c =>
    let k := s.get R.CLP_DEP_KIND (4 * n + c)
    if k = 1 ∨ k = 2 then s.set R.CLP_DEP_W_W 0 (4 * n + c) else s
  let x := clp s n
  setClpState (setClp s n { x with next := s.get R.CLP_CTRL_ENTRY n, cyc := 2 * s.tick, delay := 0, dTo := none, dRet := false, rep := 0
                                   repPc := false, loops := [], susp := 0, pend := x.pend.filter (fun w => match w.to_ with | .mem _ => true | .p _ => true | .m _ => true | .x k => decide (8 ≤ k) | .acc _ => false)
                                   acc := [], accV := [], pubs := [], waitRem := none, evDue := [] }) n 2

/-- The Calipers in scheduled mode. -/
def clpScheduled (s : State) : List Nat := (List.range 64).filter fun n => scheduled s n

/-- The registers that a run clears: X8 to X15, P and M (R253). -/
def clpRunClear (s : State) (n : Nat) : State :=
  let s := forAll (List.range 8) s fun s k => s.set R.CLP_X_VALUE 0 (16 * n + 8 + k)
  forAll (List.range 8) s fun s k => (s.set R.CLP_P_VALUE 0 (8 * n + k)).set R.CLP_M_VALUE 0 (8 * n + k)

/-- Entry to RUN: a scheduled Caliper enters READY (R253, R255). -/
def clpRun (s : State) (n : Nat) : State := setClpState (setClp (clpRunClear s n) n { clp s n with pend := [] }) n 1

/-- The first tick of HOLD: a scheduled Caliper enters OFF and the copy of its initial image starts; its registers keep what its last
instructions wrote (R253, R255). -/
def clpHold (s : State) (n : Nat) : State :=
  let last := (clp s n).pend.foldl (fun m w => max m w.at_) 0
  let s := cSettle s n last
  let x := clp s n
  setClpState (setClp s n { acc := x.acc, accV := x.accV, depQ := x.depQ, depCyc := x.depCyc, restoring := true }) n 0

/-- Data memory of Caliper `n` becomes its initial image. -/
def clpRestore (s : State) (n : Nat) : State :=
  let own (p : Nat × Nat) : Bool := p.1 / 65536 == n
  { s with clpMem := (s.clpInit.filter own).foldl (fun m p => sset 0 m p.1 p.2) (s.clpMem.filter fun p => !own p) }

/-- CALIPER_RESTORE_DONE: the copy of the initial image ends (R253). -/
def execCaliperRestoreDone (n : Fin 64) (s : State) : Host.Outcome State Fault Refusal :=
  .next (if (clp s n.val).restoring then setClp (clpRestore s n.val) n.val { clp s n.val with restoring := false } else s)

/-- A service Caliper starts at ENTRY on the first tick of CAST, in no handler, with no event pending and the mask of the image (R255, R281). -/
def clpServiceStart (s : State) (n : Nat) : State :=
  let s := ((clpClearEvents s n).set R.CLP_ELR_ELR 0 n).set R.CLP_STATUS_HANDLER 0 n
  let s := s.set R.CLP_EVT_EMASK (sget 0 s.clpEmask n) n
  setClpState (setClp s n { next := s.get R.CLP_CTRL_ENTRY n, cyc := 2 * s.tick, wake := 2 * s.tick }) n 2

/-! ### The memory port (CLP_MEM_CTRL, CLP_MEM_DATA) -/

/-- The address after an access. -/
def clpMemNext (s : State) (n : Nat) : State :=
  s.when (s.flag R.CLP_MEM_CTRL_AUTOINC n) fun s => s.set R.CLP_MEM_CTRL_ADDR (s.get R.CLP_MEM_CTRL_ADDR n + 1) n

/-- A read of CLP_MEM_DATA. -/
def clpMemRead (s : State) (n : Nat) : Nat × State :=
  let a := s.get R.CLP_MEM_CTRL_ADDR n
  (match s.get R.CLP_MEM_CTRL_SEL n with
    | 0 => if a < 16384 then sget 0 s.clpProg (n * 16384 + a) else 0
    | 1 => dmem s n a
    | _ => 0, clpMemNext s n)

/-- A write of CLP_MEM_DATA: outside RUN both banks of data memory; in RUN, to a service Caliper, the live word only. -/
def clpMemWrite (s : State) (n v : Nat) : State :=
  let a := s.get R.CLP_MEM_CTRL_ADDR n
  clpMemNext (match s.get R.CLP_MEM_CTRL_SEL n with
    | 0 => if a < 16384 then { s with clpProg := sset 0 s.clpProg (n * 16384 + a) (v % 2 ^ 36) } else s
    | 1 =>
      let s := setDmem s n a v
      if inRun s then s else { s with clpInit := sset 0 s.clpInit (n * 65536 + a) (v % 2 ^ 36) }
    | _ => s) n

end Sys2Proof.Machine
end

