-- ==== Sys2Proof/Machine/Results.lean ====
section
/-! DEFINITION. Result delivery (14_service_plane_and_host.md R376 to R379). -/

namespace Sys2Proof.Machine

/-- Result queue `q`. -/
def resQueue (s : State) (q : Nat) : RQueue := sget {} s.rq q

/-- Write result queue `q`; WAITING shows its closed blocks. -/
def setResQueue (s : State) (q : Nat) (z : RQueue) : State :=
  ({ s with rq := sset {} s.rq q z } : State).set R.HST_RES_STAT_WAITING z.closed.length q

/-- The open block of queue `q` closes with FLAGS, and waiting records enter a new one (R377). -/
def resClose (s : State) (q flags : Nat) : State :=
  let z := resQueue s q
  if z.openBlk = [] ∨ 4 ≤ z.closed.length then s
  else setResQueue s q (fillBlock { z with closed := z.closed ++ [⟨z.openBlk, flags, z.dropped⟩], openBlk := [], dropped := 0 } s.clock)

/-- HST_RES_FLUSH in µs: below 10 taken as 10, above 500 as 500. -/
def resFlush (s : State) : Nat := min (max (s.get R.HST_RES_FLUSH_MICROSECONDS) 10) 500

/-- RESULT_BLOCK_CLOSE: the open block of queue `q` is full, or the next record has another epoch, or the module is not in RUN (R377). -/
def execResultBlockClose (q : Fin 25) (s : State) : Host.Outcome State Fault Refusal :=
  let z := resQueue s q.val
  .next (if s.xtalFail then s else if 82 ≤ z.openBlk.length then resClose s q.val 0
    else if z.waiting.head?.any fun r => z.openBlk.head?.any fun o => r.epoch != o.epoch then resClose s q.val 2
    else if !inRun s then resClose s q.val 4
    else s)

/-- RESULT_FLUSH_TIMEOUT: HST_RES_FLUSH microseconds have passed since the first record of the open block (R377). -/
def execResultFlushTimeout (q : Fin 25) (s : State) : Host.Outcome State Fault Refusal :=
  let z := resQueue s q.val
  .next (if s.xtalFail then s else if z.openedAt + 400 * resFlush s ≤ s.clock then resClose s q.val 1 else s)

/-- On leaving RUN every open block closes (R377, R445). -/
def resLeaveRun (s : State) : State := forAll (List.range 25) s fun s q => resClose s q 4

/-- Entry to RUN: the indexes start from 0 (R378). -/
def resRun (s : State) : State :=
  forAll (List.range 25) s fun s q => (s.set R.HST_RES_WR_INDEX 0 q).set R.HST_RES_RD_INDEX 0 q

/-- The 512 slots of a block (Table HST-2, R244). -/
def blockSlots (q seq : Nat) (b : Block) : List Nat :=
  let epoch := (b.recs.head?.map (·.epoch)).getD 0
  let head := [0x4B4C4253 + q * 2 ^ 32 + b.recs.length * 2 ^ 48, seq, epoch % 2 ^ 24 + b.dropped % 2 ^ 32 * 2 ^ 32, b.flags] ++ List.replicate 12 0
  let body := b.recs.flatMap fun r => (List.range 6).map fun i => r.words.getD i 0
  head ++ body ++ List.replicate (512 - 16 - body.length) 0

/-- HBM address of ring slot `j` of queue `q` (R378). -/
def resAddr (s : State) (q j : Nat) : Nat :=
  s.get R.HST_RES_BASE_LO_ADDR q * 2 ^ 12 + s.get R.HST_RES_BASE_HI_ADDR q * 2 ^ 32 + j % 2 ^ min (max (s.get R.HST_RES_SIZE_BLOCKS_LOG2 q) 4) 20 * 4096

/-- RESULT_BLOCK_WRITE: the oldest closed block of queue `q` reaches its ring, and then HST_RES_WR takes the next index; a full or disabled
ring writes nothing (R378). Result rings are written as non-secure (Table SEC-3). -/
def execResultBlockWrite (q : Fin 25) (s : State) : Host.Outcome State Fault Refusal :=
  let z := resQueue s q.val
  .next (if s.xtalFail then s else match z.closed with
    | [] => s
    | b :: rest =>
      if ringFull s q.val then s
      else
        let j := s.get R.HST_RES_WR_INDEX q.val
        let s := dataDeliver s false (resAddr s q.val j) (blockSlots q.val j b) b.recs.length
        setResQueue (s.set R.HST_RES_WR_INDEX (j + 1) q.val) q.val (fillBlock { z with closed := rest } s.clock))

/-- HST_RES_RD was written: an index behind its old value or beyond HST_RES_WR is dropped (R378). -/
def resRdWritten (before s : State) (q : Nat) : State :=
  let old := before.get R.HST_RES_RD_INDEX q
  let d (x : Nat) : Nat := (x + 2 ^ 32 - old) % 2 ^ 32
  if d (s.get R.HST_RES_RD_INDEX q) ≤ d (s.get R.HST_RES_WR_INDEX q) then s else s.set R.HST_RES_RD_INDEX old q

/-- BASE or SIZE of a ring was written: the write is dropped while ENABLE is 1. -/
def resCfgWritten (before s : State) (q : Nat) : State :=
  if before.flag R.HST_RES_SIZE_ENABLE q then
    forAll [R.HST_RES_BASE_LO_ADDR, R.HST_RES_BASE_HI_ADDR, R.HST_RES_SIZE_BLOCKS_LOG2, R.HST_RES_SIZE_ENABLE] s fun s f => s.set f (before.get f q) q
  else s

end Sys2Proof.Machine
end

