-- ==== Sys2Proof/Machine/Arbiter.lean ====
section
/-! DEFINITION. The service arbiters of the two HBM stacks and the locked sequences of Plinth cores
(14_service_plane_and_host.md R367 to R374). One ARBITER_CYCLE is one arbiter cycle: its request vector, and the decision for the next. -/

namespace Sys2Proof.Machine

/-- Arbiter of stack `t`. -/
def arb (s : State) (t : Nat) : Arb := sget {} s.arbs t

/-- Write the arbiter of stack `t`. -/
def setArb (s : State) (t : Nat) (a : Arb) : State := { s with arbs := sset {} s.arbs t a }

/-- Replace element `k` of a list of 16 numbers. -/
def put16 (l : List Nat) (k v : Nat) : List Nat := (List.range 16).map fun i => if i = k then v else l.getD i 0

/-- TICKETS of requester `r`. -/
def tickets (s : State) (t r : Nat) : Nat := s.get R.SVA_REQ_TICKETS (16 * t + r)

/-- The locked sequence of requester `r` on stack `t` ends; a Plinth core sees ACTIVE clear. -/
def lockEnd (s : State) (t : Nat) (r : Nat) : State :=
  let s := setArb s t { arb s t with lockOwner := none, lockBeats := 0 }
  s.when (decide (r < 8)) fun s => (s.set R.GLB_PLN_HLOCK_ACTIVE 0 r).set R.GLB_PLN_HLOCK_OPEN 0 r

/-- The grant made for this cycle is void if its owner is not requesting in it (R369). -/
def arbVoid (s : State) (t q : Nat) (res : List (Nat × Nat)) : State :=
  let a := arb s t
  let void := match a.grant with
    | none => false
    | some 16 => !res.contains a.resGrant
    | some r => !bit q r
  s.when void fun s => s.inc R.SVA_VOID_CNT_COUNT t

/-- Requester `r` is refused with LOCK_NEST on stack `t` (R372); lane bulk ends its sequence, on stack `own`, and will ask again without one
(R415). -/
def arbNested (s : State) (t own r : Nat) : State :=
  let s := s.inc R.SVA_NEST_CNT_COUNT t
  if r < 8 then s.set R.GLB_PLN_HLOCK_NEST 1 r else lockEnd s own r

/-- A requester that holds a locked sequence on the other stack is refused here with LOCK_NEST (R372): the vector without it. -/
def arbNest (s : State) (t q : Nat) : Nat × State :=
  match (arb s (1 - t)).lockOwner with
  | some r => if bit q r then (q - 2 ^ r, arbNested s t (1 - t) r) else (q, s)
  | none => (q, s)

/-- Lane bulk holds the locked sequence of this stack and asks for another (R372). -/
def arbAsksAgain (s : State) (t lock : Nat) : Bool := (arb s t).lockOwner == some 10 && bit lock 10

/-- The request vector without that request, which is refused. -/
def arbLeft (s : State) (t q lock : Nat) : Nat := if arbAsksAgain s t lock && bit q 10 then q - 2 ^ 10 else q

/-- Lane bulk asks for a second locked sequence: refused (R372). -/
def arbAgain (s : State) (t lock : Nat) : State := s.when (arbAsksAgain s t lock) fun s => arbNested s t t 10

/-! ### The sources inside a pool (R367) -/

/-- Does an address lie in stack `t` (R364)? -/
def onStack (t a : Nat) : Bool := (a < hbmStack) == (t == 0)

/-- Has stream ring `c` a granule to fetch on stack `t` (R165)? -/
def streamWaits (s : State) (t c : Nat) : Bool :=
  let rd := s.get R.STM_RD_INDEX c
  let cons := s.get R.STM_CONS_INDEX c
  let rd := if idxBefore rd cons then cons else rd
  stmLive s c && mainPowered s && idxBefore rd (s.get R.STM_WR_INDEX c) &&
    decide ((rd + 2 ^ 32 - cons) % 2 ^ 32 < s.get R.STM_BUF_SIZE c) && onStack t (ringAddr s c rd)

/-- Has result queue `q` a block to write on stack `t` (R377, R378)? -/
def resultWaits (s : State) (t q : Nat) : Bool :=
  (resQueue s q).closed != [] && !ringFull s q && onStack t (resAddr s q (s.get R.HST_RES_WR_INDEX q))

/-- Has capture unit `u` words to write on stack `t` (R318)? -/
def captureWaits (s : State) (t u : Nat) : Bool :=
  match (sget {} s.caps u).out with
  | [] => false
  | o :: _ => o.words.head?.any fun w => onStack t w.1

/-- The sources that wait in the pools of stack `t`, by pool and number (Table SVA-1). -/
def poolSources (s : State) (t : Nat) : List (Nat × Nat) :=
  ((List.range 512).filter (streamWaits s t)).map (fun c => (11, c)) ++ ((List.range 25).filter (resultWaits s t)).map (fun q => (12, q)) ++
    ((List.range 16).filter (captureWaits s t)).map fun u => (13, u)

/-- Sources that wait no longer leave; those that begin to wait in this cycle stand behind the others, by number (R367). -/
def poolWait (s : State) (t : Nat) (w : List (Nat × Nat)) : List (Nat × Nat) :=
  let now := poolSources s t
  w.filter (fun p => now.contains p) ++ now.filter fun p => !w.contains p

/-- A beat granted to pool `w` serves its oldest waiting source (R367). -/
def poolServe (a : Arb) (w : Nat) : Arb :=
  match a.wait.find? fun p => p.1 == w with
  | some p => { a with served := some p.2, wait := a.wait.erase p }
  | none => { a with served := none }

/-- At a wrap a committed table and a written seed take effect (R374, SVA_SEED). -/
def arbWrap (s : State) (t : Nat) : State :=
  let a := arb s t
  if a.cycle % 256 ≠ 0 then s else
  let s := match a.seed with
    | some v => (setArb s t { a with lfsr := v, seed := none }).set R.SVA_LFSR_LFSR v t
    | none => s
  s.when (s.flag R.SVA_CTRL_PENDING t) fun s =>
    (forAll (List.range 256) s fun s k => s.set R.SVA_ACT_ENTRY (s.get R.SVA_SLOT_ENTRY (256 * t + k)) (256 * t + k)).set R.SVA_CTRL_PENDING 0 t

/-- Owed beats whose owner does not request are skipped (R368). -/
def skipOwed (res : List (Nat × Nat)) : List (Nat × Nat) → List (Nat × Nat) × Nat
  | [] => ([], 0)
  | o :: l => if res.contains o then (o :: l, 0) else let (r, k) := skipOwed res l; (r, k + 1)

/-- One step of the draw register (R368). -/
def lfsrNext (x : Nat) : Nat := x * 2 % 2 ^ 32 + (b2n (bit x 31) + b2n (bit x 21) + b2n (bit x 1) + b2n (bit x 0)) % 2

/-- The first of `l` whose cumulative tickets exceed `x` (R368). -/
def drawWinner (s : State) (t : Nat) : List Nat → Nat → Nat
  | [], _ => 0
  | [r], _ => r
  | r :: l, x => if x < tickets s t r then r else drawWinner s t l (x - tickets s t r)

/-- The lottery over the eligible requesters `e` (R368): the winner, with the draw register moved on unless aging decides. -/
def lottery (s : State) (t : Nat) (e : List Nat) : Nat × State :=
  let a := arb s t
  match e.find? fun r => decide (4096 ≤ a.age.getD r 0) with
  | some w => (w, s)
  | none =>
    let f := lfsrNext a.lfsr
    let sum := e.foldl (fun n r => n + tickets s t r) 0
    (drawWinner s t e (f * sum / 2 ^ 32), (setArb s t { a with lfsr := f }).set R.SVA_LFSR_LFSR f t)

/-- The winner starts again and the other eligible ones back off (R368). -/
def lotteryWon (s : State) (t w : Nat) (e : List Nat) : State :=
  let s := (setArb s t (poolServe { arb s t with age := put16 (arb s t).age w 0, grant := some w } w)).set R.SVA_REQ_LOSSES 0 (16 * t + w)
  forAll (e.filter fun r => r != w) s fun s r =>
    let l := min (s.get R.SVA_REQ_LOSSES (16 * t + r) + 1) 10
    setArb (s.set R.SVA_REQ_LOSSES l (16 * t + r)) t { arb s t with backoff := put16 (arb s t).backoff r (2 ^ l) }

/-- May requester `r` lock (Table SVA-1)? -/
def mayLock (r : Nat) : Bool := decide (r < 8) || r == 10

/-- A locked sequence begins with the beat granted by a lottery win (R372). -/
def lockStart (s : State) (t w lock : Nat) : State :=
  let wants := if w < 8 then s.flag R.GLB_PLN_HLOCK_OPEN w && !s.flag R.GLB_PLN_HLOCK_ACTIVE w else mayLock w && bit lock w
  if wants then
    let s := setArb s t { arb s t with lockOwner := some w, lockBeats := 1 }
    s.when (decide (w < 8)) fun s => s.set R.GLB_PLN_HLOCK_ACTIVE 1 w
  else s

/-- The lottery round of a cycle with nothing owed. -/
def arbLottery (s : State) (t q lock : Nat) : State :=
  let a := arb s t
  let e := (List.range 16).filter fun r => bit q r && decide (0 < tickets s t r) && a.backoff.getD r 0 == 0
  if e = [] then setArb s t { a with grant := none }
  else
    let (w, s) := lottery s t e
    lockStart (lotteryWon s t w e) t w lock

/-- The owed beat at the head, or the lottery. -/
def arbServe (s : State) (t q lock : Nat) (res : List (Nat × Nat)) : State :=
  let a := arb s t
  let (owed, k) := skipOwed res a.owed
  let s := (setArb s t { a with owed := owed }).inc R.SVA_SKIP_CNT_COUNT t k
  match owed with
  | o :: l => setArb s t { arb s t with owed := l, grant := some 16, resGrant := o }
  | [] => arbLottery s t q lock

/-- The locked sequence of `r` holds the coming cycle, or ends: given up by its owner, or forcibly after 64 beats (R372). -/
def arbLocked (s : State) (t r : Nat) (keep : Bool) : Bool × State :=
  let a := arb s t
  if !keep || (decide (r < 8) && !s.flag R.GLB_PLN_HLOCK_OPEN r) then (false, lockEnd s t r)
  else if 64 ≤ a.lockBeats then
    let s := lockEnd (s.inc R.SVA_EXPIRE_CNT_COUNT t) t r
    (false, s.when (decide (r < 8)) fun s => s.set R.GLB_PLN_HLOCK_EXPIRED 1 r)
  else (true, setArb s t { a with lockBeats := a.lockBeats + 1, grant := some r })

/-- Requesters age and backoffs count down (R368). -/
def arbAge (a : Arb) (q : Nat) : Arb :=
  { a with age := (List.range 16).map fun r => if bit q r then min (a.age.getD r 0 + 1) 4096 else a.age.getD r 0 }

/-- Backoffs set before this cycle count down by one. -/
def arbBack (old new_ : Arb) : Arb :=
  { new_ with backoff := (List.range 16).map fun r =>
      let b := new_.backoff.getD r 0
      if b = old.backoff.getD r 0 then b - 1 else b }

/-- One cycle of the arbiter of stack `t`, with operands as in ARBITER_CYCLE. -/
def arbCycle (s : State) (t q : Nat) (owners : List (Nat × Nat)) (lock : Nat) (keep : Bool) : State :=
  let s := arbVoid s t q owners
  let (q, s) := arbNest s t q
  let q := arbLeft s t q lock
  let s := arbAgain s t lock
  let s := setArb s t { arbAge (arb s t) q with
    cycle := (arb s t).cycle + 1, grant := none, served := none, wait := poolWait s t (arb s t).wait }
  let s := arbWrap s t
  let old := arb s t
  let e := s.get R.SVA_ACT_ENTRY (256 * t + old.cycle % 256)
  let s := s.when (bit e 15) fun s => setArb s t { old with owed := (old.owed ++ [(bits e 14 12, bits e 11 0)]).take 64 }
  let s := s.set R.SVA_OWED_MAX (max (s.get R.SVA_OWED_MAX t) (arb s t).owed.length) t
  let s := match old.lockOwner with
    | some r => match arbLocked s t r keep with
      | (true, s) => s
      | (false, s) => arbServe s t q lock owners
    | none => arbServe s t q lock owners
  let s := setArb s t (arbBack old (arb s t))
  s.set R.SVA_OWED_NOW (arb s t).owed.length t

/-- ARBITER_CYCLE: one cycle of the arbiter of stack `t` with its request vector `q` (lottery requesters), the reserved owners that
request, the requesters that ask for a locked sequence, and whether the owner of a locked sequence goes on with it (R368 to R372). There is none
before HBM is trained (R374), nor without the service clock (R98). -/
def execArbiterCycle (t : Fin 2) (q : BitVec 16) (res : List (Fin 3 × Fin 512)) (lock : BitVec 16) (keep : Bool) (s : State) :
    Host.Outcome State Fault Refusal :=
  .next (if (arb s t).on && !s.xtalFail then arbCycle s t q.toNat (res.map fun p => (p.1.val, p.2.val)) lock.toNat keep else s)

/-- HBM training ends: the cycle counter of either stack starts at 0 (R374). -/
def arbTrained (s : State) : State := forAll [0, 1] s fun s t => setArb s t { arb s t with on := true, cycle := 0 }

/-- GLB_PLN_HLOCK.OPEN of core `k` was written (R372): 1 makes the next HBM access open a locked sequence, a second one is refused; 0 ends
the sequence. -/
def hlockWritten (s : State) (k : Nat) (before : Bool) : State :=
  if s.flag R.GLB_PLN_HLOCK_OPEN k then
    if before && s.flag R.GLB_PLN_HLOCK_ACTIVE k then
      let t := if (arb s 1).lockOwner == some k then 1 else 0
      (s.inc R.SVA_NEST_CNT_COUNT t).set R.GLB_PLN_HLOCK_NEST 1 k
    else s
  else forAll [0, 1] s fun s t => s.when ((arb s t).lockOwner == some k) fun s => lockEnd s t k

/-- SVA_CTRL.COMMIT was written 1 (R374). -/
def commitGo (s : State) (t : Nat) : State :=
  if s.flag R.SVA_CTRL_PENDING t then s.set R.SVA_CTRL_CMT_REJECT 1 t else s.set R.SVA_CTRL_PENDING 1 t

/-- A shadow entry was written: dropped while PENDING (R374). -/
def shadowWritten (before s : State) (i : Nat) : State :=
  let t := i / 256
  if before.flag R.SVA_CTRL_PENDING t then (s.set R.SVA_SLOT_ENTRY (before.get R.SVA_SLOT_ENTRY i) i).set R.SVA_CTRL_CMT_REJECT 1 t else s

/-- TICKETS was written: writes to requesters 9 and 15 are ignored. -/
def ticketsWritten (before s : State) (i : Nat) : State :=
  if i % 16 = 9 ∨ i % 16 = 15 then s.set R.SVA_REQ_TICKETS (before.get R.SVA_REQ_TICKETS i) i else s

/-- SVA_SEED was written: it enters lfsr at the next wrap. -/
def seedWritten (s : State) (t : Nat) : State := setArb s t { arb s t with seed := some (s.get R.SVA_SEED_SEED t) }

end Sys2Proof.Machine
end

