-- ==== Sys2Proof/Machine/Host.lean ====
section
/-! DEFINITION. Plinth cores (14_service_plane_and_host.md R360 to R363), the PCIe endpoint: W2, stream apertures, MSI-X, the link
(R380 to R384). -/

namespace Sys2Proof.Machine

/-! ### Plinth cores -/

/-- The party code of core `k` (Table MBX-1). -/
def coreParty (k : Nat) : Nat := if k < 2 then k + 1 else 0x10 + (k - 2)

/-- Core `k` is reset: it stays in STATE `st` (1 reset, 4 WATCHDOG) while held, and its locked sequence ends; its epoch moves on (R363). -/
def coreReset (s : State) (k st : Nat) : State :=
  let s := s.set R.GLB_PLN_STATUS_STATE (if bit (s.get R.GLB_PLN_CTRL_HOLD) k || st == 4 then st else 2) k
  let s := forAll [0, 1] s fun s t => s.when ((arb s t).lockOwner == some k) fun s => lockEnd s t k
  partyReset ((s.set R.GLB_PLN_HLOCK_OPEN 0 k).set R.GLB_PLN_HLOCK_ACTIVE 0 k) (coreParty k)

/-- GLB_PLN_CTRL was written by a secure master, with `once` its RESET field: bit 0 of each field is ignored (R363). -/
def plnCtrlWritten (before s : State) (once : Nat) : State :=
  let s := s.set R.GLB_PLN_CTRL_WDOG_EN (s.get R.GLB_PLN_CTRL_WDOG_EN / 2 * 2)
  let s := s.set R.GLB_PLN_CTRL_HOLD (s.get R.GLB_PLN_CTRL_HOLD / 2 * 2)
  forAll [1, 2, 3, 4, 5, 6, 7] s fun s k =>
    let s := s.set R.GLB_PLN_STATUS_WDOG_EN (b2n (bit (s.get R.GLB_PLN_CTRL_WDOG_EN) k)) k
    let was := bit (before.get R.GLB_PLN_CTRL_HOLD) k
    let now := bit (s.get R.GLB_PLN_CTRL_HOLD) k
    if s.get R.GLB_PLN_STATUS_STATE k = 0 then s
    else if bit once k || (!was && now) then coreReset s k 1
    else if was && !now then s.set R.GLB_PLN_STATUS_STATE 2 k
    else s

/-- WATCHDOG_EXPIRY: the watchdog of core `k` is enabled and was not serviced within 10 ms (R363). -/
def execWatchdogExpiry (k : Fin 8) (s : State) : Host.Outcome State Fault Refusal :=
  .next (if s.xtalFail then s else if s.flag R.GLB_PLN_STATUS_WDOG_EN k.val ∧ k.val ≠ 0 ∧ 2 ≤ s.get R.GLB_PLN_STATUS_STATE k.val ∧ s.get R.GLB_PLN_STATUS_STATE k.val ≤ 3 then
    coreReset s k.val 4 else s)

/-! ### W2 and the stream apertures -/

/-- The HBM address of W2 offset `o` (R381). -/
def w2Addr (s : State) (o : Nat) : Nat := s.get R.HST_W2_BASE_LO_ADDR * 2 ^ 21 + s.get R.HST_W2_BASE_HI_ADDR * 2 ^ 32 + o

/-- Write consecutive bytes. -/
def hbmBytes (s : State) (a : Nat) (l : List (BitVec 8)) : State := forAll l.zipIdx s fun s p => hbmPut s (a + p.2) p.1

/-- W2_ACCESS: a host read of `n` bytes, at most 4,096, or a posted write of `data`, at W2 offset `off` (R381, R91, R364). A read with an
uncorrectable error completes poisoned (R366); what it returns then is open. So is what HBM returns while it is unpowered (log 30). An access
that arrives presupposes the link. -/
def execW2Access (write : Bool) (off : BitVec 32) (n : BitVec 13) (data : List (BitVec 8)) (ecc : Fin 3) (s : State) :
    Host.Outcome State Fault Refusal :=
  let a := w2Addr s off.toNat
  .next (if s.xtalFail then s else if write then
      if !railsGood s then s else
      match hbmGate s .host false true 1 a data.length with
      | (true, s) => hbmBytes s a data
      | (false, s) => s
    else if !railsGood s then let (f, s) := s.free; { s with readData := f, readPoison := false }
    else
      match hbmGate s .host false false 1 a (min n.toNat 4096) with
      | (true, s) =>
        let s := eccCount s a ecc.val
        if ecc.val = 2 then let (f, s) := s.free; { s with readData := f, readPoison := true }
        else { s with readData := hbmRead s a (min n.toNat 4096), readPoison := false }
      | (false, s) => { s with readData := 0, readPoison := false })

/-- Bytes written at offset `o` of the aperture of ring `r` land in its ring behind STM_WR; the access is checked as the same one through W2
(R382). -/
def apertureWrite (s : State) (r o : Nat) (data : List (BitVec 8)) : State :=
  let b := s.get R.STM_WR_INDEX r * 128 + o
  let cells := data.zipIdx.map fun p => (ringAddr s r ((b + p.2) / 128) + (b + p.2) % 128, p.1)
  if !railsGood s || s.xtalFail then s
  else match cells.find? fun c => decide (hbmSize ≤ c.1) with
    | some c => accessError s .host true 5 (c.1 / 16)
    | none => match cells.find? fun c => hbmUnitSecure s (c.1 / 0x200000) with
      | some c => worldViolation s .host true 1 0 c.1
      | none => forAll cells s fun s c => hbmPut s c.1 c.2

/-- STREAM_APERTURE_WRITE: bytes written through the aperture of ring `r` (R382). -/
def execStreamApertureWrite (r : Fin 512) (o : Fin 16384) (data : List (BitVec 8)) (s : State) : Host.Outcome State Fault Refusal :=
  .next (apertureWrite s r.val o.val data)

/-! ### MSI-X (R383) -/

/-- Vector `v`. -/
def msixAt (s : State) (v : Nat) : Msix := sget {} s.msix v

/-- Write vector `v`. -/
def setMsix (s : State) (v : Nat) (x : Msix) : State := { s with msix := sset {} s.msix v x }

/-- Task input 768 + v has activated: the message is sent, or its pending bit set while the entry is masked. -/
def msixSignal (s : State) (v : Nat) : State :=
  let x := msixAt s v
  setMsix s v (if x.masked then { x with pend := true } else { x with sent := x.sent + 1 })

/-- The mask bit of vector `v` is written. -/
def msixMask (s : State) (v : Nat) (m : Bool) : State :=
  let x := msixAt s v
  if m then setMsix s v { x with masked := true }
  else setMsix s v { x with masked := false, pend := false, sent := if x.pend && s.flag R.EVF_TASKST_PENDING (768 + v) then x.sent + 1 else x.sent }

/-- MSIX_UNMASK: the host unmasks vector `v`; a pending message is sent if PENDING is still set (R383). -/
def execMsixUnmask (v : Fin 128) (s : State) : Host.Outcome State Fault Refusal := .next (msixMask s v.val false)

/-! ### The link -/

/-- LINK_UP: the link trains to Gen3, Gen4 or Gen5 at x4, x8 or x16 (R380), and HOST_LINK fires. -/
def execLinkUp (speed : Fin 3) (width : Fin 3) (s : State) : Host.Outcome State Fault Refusal :=
  .next (if s.flag R.HST_LINK_UP then s else
    globalEvent (((s.set R.HST_LINK_UP 1).set R.HST_LINK_SPEED (3 + speed.val)).set R.HST_LINK_WIDTH (4 * 2 ^ width.val)) 20)

/-- The host command session closes, and with it what waits for it (R384, R388): class-B work that has started runs to its
end, unanswered: its OP is marked by 256. -/
def closeSession (s : State) : State :=
  { s.set R.HST_SESSION_OPEN 0 with hostA := none, hostBQ := [], hostB := s.hostB.map fun c => { c with op := c.op % 256 + 256 } }

/-- The identity that configuration space shows (R380): Vendor ID, Device ID, Subsystem Vendor ID, Subsystem ID, Revision ID, class code. -/
def pcieIdentity (s : State) : List Nat := [0x1FD7, 0x7256, 0x1FD7, 0x0001, s.get R.GLB_REV_ASSY, 0x120000]

/-- LINK_DOWN: link down, hot reset, function level reset (`flr`) or PERST_N low (R384, R474). HOST_LINK fires where the link was up (R347). -/
def execLinkDown (flr : Bool) (s : State) : Host.Outcome State Fault Refusal :=
  let was := s.flag R.HST_LINK_UP
  let s := closeSession (partyReset (s.set R.HST_LINK_UP 0) 0x20)
  let s := s.when was fun s => globalEvent s 20
  .next (if flr then
    let s := (s.clr R.HST_W2_BASE_LO_ADDR).clr R.HST_W2_BASE_HI_ADDR
    let s := ((s.clr R.HST_SESSION_RECOVERY).clr R.HST_SESSION_MAJOR).clr R.HST_SESSION_MINOR
    { s with msix := [] }
  else s)

/-! ### Responses (R386, Table HST-6) -/

/-- S0 writes a response word and its result words toward the host, and rings (R386). -/
def hostRespond (s : State) (op seq : Nat) (final : Bool) (status : Nat) (results : List Nat) : State :=
  let w := op % 256 * 2 ^ 28 + seq % 256 * 2 ^ 20 + results.length % 8 * 2 ^ 17 + b2n final * 2 ^ 16 + status % 256
  mbxRingFrom (forAll (w :: results) s fun s w => mbxPush s 1 w 1) 1

/-- The outstanding class-A command completes. -/
def hostDoneA (s : State) (status : Nat) (results : List Nat) : State :=
  match s.hostA with
  | some c => hostRespond { s with hostA := none } c.op c.seq true status results
  | none => s

/-- The running class-B command completes. -/
def hostDoneB (s : State) (status : Nat) (results : List Nat) : State :=
  match s.hostB with
  | some c => if c.op < 256 then hostRespond { s with hostB := none } c.op c.seq true status results else { s with hostB := none }
  | none => s

/-- OK for code 0, else FAILED with the code of the owning chapter in result word 0 (Table HST-8). -/
def hostCode (code : Nat) : Nat × List Nat := if code = 0 then (0, []) else (9, [code])

end Sys2Proof.Machine
end

