-- ==== Sys2Proof/Machine/Timing.lean ====
section
/-! DEFINITION. Timing inputs, interpolator calibration, interval and frequency engines (12_capture_and_timing_inputs.md R325 to R332). -/

namespace Sys2Proof.Machine

/-- Do something as of local tick `e`, at or before this tick: an edge acts on its own tick, not on that of its arrival (R326). -/
def atTick (s : State) (e : Nat) (f : State → State) : State :=
  let t := f { s with tick := e, now := (s.now + 2 ^ 64 + e - s.tick) % 2 ^ 64, clock := s.clock + e - s.tick }
  { t with tick := s.tick, now := s.now, clock := s.clock }

/-- TIN i event source 1 on a 0 to 1 transition of MISS or OVERFLOW (R328). -/
def tinNotice (s : State) (f : Fld) (i : Nat) : State := if s.flag f i then s else fire (s.set f 1 i) (960 + 2 * i + 1)

/-! ### Interval engines (R331) -/

/-- Interval engine `m`. -/
def ivl (s : State) (m : Nat) : Ivl := sget {} s.ivls m

/-- Write interval engine `m`. -/
def setIvl (s : State) (m : Nat) (v : Ivl) : State := { s with ivls := sset {} s.ivls m v }

/-- NSTOP, 0 taken as 1. -/
def ivlStops (s : State) (m : Nat) : Nat := max (s.get R.TDC_MCTRL_NSTOP m) 1

/-- An interval engine names only timing inputs of its own world, that of TIN m (R332). -/
def ivlWorldOk (s : State) (m : Nat) : Bool :=
  [s.get R.TDC_MCTRL_START m, s.get R.TDC_MCTRL_STOP m].all fun t => instSecure s (528 + t) == instSecure s (528 + m)

/-- A measurement completes; `out` says whether it timed out. -/
def ivlDone (s : State) (m : Nat) (out : Bool) : State :=
  let v := ivl s m
  let s := s.when (s.flag R.TDC_MSTATUS_DONE m) fun s => s.set R.TDC_MSTATUS_OVERRUN 1 m
  let s := (s.set R.TDC_MSTATUS_DONE 1 m).set R.TDC_MSTATUS_TIMEOUT (b2n out) m
  let s := (s.set R.TDC_MSTATUS_COUNT v.ivs.length m).set R.TDC_MSTATUS_BUSY 0 m
  let s := s.set R.TDC_MSTART_LO_STAMP_LO v.stamp m
  let s := forAll (List.range 15) s fun s k => s.set R.TDC_MINT_LO_INT_LO (v.ivs.getD k 0 % 2 ^ 48) (15 * m + k)
  let s := setIvl s m { v with st := 0, startHi := v.stamp / 2 ^ 32, intHi := v.ivs.map fun x => x % 2 ^ 48 / 2 ^ 32 }
  let s := fire s (1024 + m)
  let s := s.when out fun s => fire s (1024 + 8 + m)
  -- ARM 2 arms again after each completion, unless a timing input it names has another world
  if s.get R.TDC_MCTRL_ARM m ≠ 2 then s
  else if ivlWorldOk s m then setIvl (s.set R.TDC_MSTATUS_BUSY 1 m) m { ivl s m with st := 1, arm := s.tick, ivs := [] }
  else s.set R.TDC_MSTATUS_CFG_ERR 1 m

/-- TIMEOUT, 0 taken as 1. -/
def ivlTimeout (s : State) (m : Nat) : Nat := max (s.get R.TDC_MTIMEOUT_TICKS m) 1

/-- A stop edge, on a tick up to that of the timeout. -/
def ivlStop (s : State) (m : Nat) (e : Edge) : State :=
  let v := ivl s m
  let pos := e.e * 512 + e.fine
  if v.st = 2 ∧ e.tin = s.get R.TDC_MCTRL_STOP m ∧ v.pos0 < pos ∧ e.e ≤ v.e0 + ivlTimeout s m ∧ v.ivs.length < ivlStops s m then
    let v := { v with ivs := v.ivs ++ [pos - v.pos0] }
    let s := setIvl s m v
    if v.ivs.length = ivlStops s m then ivlDone s m false else s
  else s

/-- A stamped edge reaches engine `m`: the start, then the stops; stops stamped before their start arrived count as well. -/
def ivlEdge (s : State) (m : Nat) (e : Edge) : State :=
  let v := ivl s m
  match v.st with
  | 1 =>
    if e.tin = s.get R.TDC_MCTRL_START m ∧ v.arm ≤ e.e then
      let stamp := (s.now + 2 ^ 64 + e.e - s.tick) % 2 ^ 40 * 512 + e.fine
      forAll s.tinSeen (setIvl s m { v with st := 2, e0 := e.e, pos0 := e.e * 512 + e.fine, stamp := stamp, ivs := [] }) fun s x => ivlStop s m x
    else s
  | 2 => ivlStop s m e
  | _ => s

/-- Arm engine `m` with arm tick `t`; ignored while BUSY, refused with CFG_ERR across worlds (R331, R332). -/
def ivlArm (s : State) (m t : Nat) : State :=
  if s.flag R.TDC_MSTATUS_BUSY m then s
  else if !ivlWorldOk s m then s.set R.TDC_MSTATUS_CFG_ERR 1 m
  else
    let s := (s.set R.TDC_MSTATUS_CFG_ERR 0 m).set R.TDC_MSTATUS_BUSY 1 m
    forAll s.tinSeen (setIvl s m { ivl s m with st := 1, arm := t, ivs := [] }) fun s e => s.when ((ivl s m).st == 1) fun s => ivlEdge s m e

/-- TDC_MCTRL was written with `go`: GO arms with ARM 0, and ARM 2 arms at once (R331). -/
def ivlWritten (s : State) (m : Nat) (go : Bool) : State :=
  match s.get R.TDC_MCTRL_ARM m with
  | 1 => s
  | 2 => ivlArm s m s.tick
  | _ => s.when go fun s => ivlArm s m s.tick

/-- INTERVAL_TIMEOUT: at e_start + TIMEOUT with fewer stops the measurement completes with TIMEOUT (R331). Where TIN_DELAY makes the edges arrive
later than the ticks they are stamped with, it comes once the edges of those ticks have arrived. -/
def execIntervalTimeout (m : Fin 8) (s : State) : Host.Outcome State Fault Refusal :=
  .next (if (ivl s m.val).st = 2 ∧ (ivl s m.val).e0 + ivlTimeout s m.val ≤ s.tick then ivlDone s m.val true else s)

/-! ### Frequency engines (R332) -/

/-- Frequency engine `f`. -/
def frq (s : State) (f : Nat) : Frq := sget {} s.frqs f

/-- Write frequency engine `f`. -/
def setFrq (s : State) (f : Nat) (v : Frq) : State := { s with frqs := sset {} s.frqs f v }

/-- The gate length G. -/
def frqGate (s : State) (f : Nat) : Nat := min (max (s.get R.TDC_FGATE_TICKS f) 400) 4000000000

/-- A stamped edge of the measured input in the gate (R332). -/
def frqEdge (s : State) (f : Nat) (e : Edge) : State :=
  let v := frq s f
  if v.st = 0 ∨ e.tin ≠ s.get R.TDC_FCTRL_TIN f ∨ e.e < v.g0 ∨ v.g0 + v.g ≤ e.e then s
  else if v.n % 2 ^ s.get R.TDC_FCTRL_PRESCALE f ≠ 0 then setFrq s f { v with n := v.n + 1 }
  else if 1048576 ≤ v.used then setFrq (s.set R.TDC_FSTATUS_TRUNC 1 f) f { v with n := v.n + 1 }
  else
    let pos := e.e * 512 + e.fine
    let s0 := if v.used = 0 then pos else v.s0
    let t := pos - s0
    setFrq s f { v with n := v.n + 1, used := v.used + 1, s0 := s0, sm := v.sm + v.n, st_ := v.st_ + t, smm := v.smm + v.n * v.n
                        smt := v.smt + v.n * t, stt := v.stt + t * t }

/-- Open a gate on local tick `g0`. -/
def frqOpen (s : State) (f g0 : Nat) : State :=
  if s.flag R.TDC_FSTATUS_BUSY f then s
  else if instSecure s (528 + s.get R.TDC_FCTRL_TIN f) != instSecure s (536 + f) then s.set R.TDC_FSTATUS_CFG_ERR 1 f
  else
    let s := ((s.set R.TDC_FSTATUS_CFG_ERR 0 f).set R.TDC_FSTATUS_BUSY 1 f).set R.TDC_FSTATUS_TRUNC 0 f
    let start := (s.now + 2 ^ 64 + g0 - s.tick) % 2 ^ 64
    forAll s.tinSeen (setFrq s f { frq s f with st := 1, g0 := g0, g := frqGate s f, n := 0, used := 0, s0 := 0, sm := 0, st_ := 0, smm := 0
                                                smt := 0, stt := 0, start := start }) fun s e => frqEdge s f e

/-- TDC_FCTRL was written with `go`: GO opens a gate with ARM 0 (R332). -/
def frqWritten (s : State) (f : Nat) (go : Bool) : State :=
  s.when (go && (s.get R.TDC_FCTRL_ARM f == 0 || s.get R.TDC_FCTRL_ARM f == 3)) fun s => frqOpen s f s.tick

/-- FREQ_GATE_OPEN: with ARM 2 the gate opens on a tick whose schedule time is a multiple of P (R332). -/
def execFreqGateOpen (f : Fin 4) (s : State) : Host.Outcome State Fault Refusal :=
  .next (if s.get R.TDC_FCTRL_ARM f.val = 2 ∧ s.now % syncPeriod s = 0 ∧ ticking s then frqOpen s f.val s.tick else s)

/-- FREQ_GATE_END: the gate of G ticks ends and the engine computes (R332). -/
def execFreqGateEnd (f : Fin 4) (s : State) : Host.Outcome State Fault Refusal :=
  let v := frq s f.val
  .next (if v.st = 1 ∧ v.g0 + v.g ≤ s.tick then setFrq s f.val { v with st := 2 } else s)

/-- floor(sqrt x) for x below 4^40. -/
def isqrt (x : Nat) : Nat :=
  ((List.range 40).reverse).foldl (fun r k => if (r + 2 ^ k) * (r + 2 ^ k) ≤ x then r + 2 ^ k else r) 0

/-- PERIOD, FREQ and RESID of R332. -/
def frqFit (v : Frq) : Nat × Nat × Nat :=
  let n := v.used
  let d := n * v.smm - v.sm * v.sm
  let num := n * v.smt - v.sm * v.st_
  let period := (divEven (num * 2 ^ 23 : Nat) (max d 1)).toNat
  let freq := (divEven (400000000000 * 2 ^ 32 : Nat) (max period 1)).toNat
  let a := v.stt * d + 2 * v.sm * v.st_ * v.smt - (v.smm * v.st_ * v.st_ + n * v.smt * v.smt)
  (period, freq, isqrt (64 * a / (max d 1 * max n 1)))

/-- FREQ_RESULT: within 1 ms of the gate's end the results are ready and DONE sets, or FAULT with fewer than 3 edges (R332). -/
def execFreqResult (f : Fin 4) (s : State) : Host.Outcome State Fault Refusal :=
  let v := frq s f.val
  if v.st ≠ 2 then .next s else
  let s := (s.set R.TDC_FSTATUS_BUSY 0 f.val).set R.TDC_FSTATUS_N v.used f.val
  .next (if v.used < 3 then fire (setFrq (s.set R.TDC_FSTATUS_FAULT 1 f.val) f.val { v with st := 0 }) (1024 + 20 + f.val)
    else
      let (p, q, r) := frqFit v
      let s := (s.set R.TDC_FSTATUS_FAULT 0 f.val).set R.TDC_FSTATUS_DONE 1 f.val
      let s := (s.set R.TDC_FSTART_LO_VALUE v.start f.val).set R.TDC_FPER_LO_VALUE p f.val
      let s := (s.set R.TDC_FFREQ_LO_VALUE q f.val).set R.TDC_FRESID_VALUE r f.val
      fire (setFrq s f.val { v with st := 0, startHi := v.start / 2 ^ 32, period := p % 2 ^ 64, freq := q % 2 ^ 48 }) (1024 + 16 + f.val))

/-- A real-time firing of channel `ch` raised on tick `t` arms the engines that name it (R331, R332). -/
def tdcFiring (s : State) (ch t : Nat) : State :=
  let s := forAll ((List.range 8).filter fun m => s.get R.TDC_MCTRL_ARM m == 1 && s.get R.TDC_MCH_CH m == ch) s fun s m => ivlArm s m t
  forAll ((List.range 4).filter fun f => s.get R.TDC_FCTRL_ARM f == 1 && s.get R.TDC_FCTRL_CH f == ch) s fun s f => frqOpen s f t

/-- A read of the low half of a pair of the TDC latches its high half (R331, R332). -/
def tdcLatch (s : State) (f : Fld) (i : Nat) : State :=
  if f.id = R.TDC_MSTART_LO_STAMP_LO.id then s.set R.TDC_MSTART_HI_STAMP_HI (ivl s i).startHi i
  else if f.id = R.TDC_MINT_LO_INT_LO.id then s.set R.TDC_MINT_HI_INT_HI ((ivl s (i / 15)).intHi.getD (i % 15) 0) i
  else if f.id = R.TDC_FSTART_LO_VALUE.id then s.set R.TDC_FSTART_HI_VALUE (frq s i).startHi i
  else if f.id = R.TDC_FPER_LO_VALUE.id then s.set R.TDC_FPER_HI_VALUE ((frq s i).period / 2 ^ 32) i
  else if f.id = R.TDC_FFREQ_LO_VALUE.id then s.set R.TDC_FFREQ_HI_VALUE ((frq s i).freq / 2 ^ 32) i
  else s

/-! ### Edges (R325 to R328) -/

/-- Is an edge of this direction qualified on input `i` (R325)? -/
def qualified (s : State) (i : Nat) (rising : Bool) : Bool := bit (s.get R.TIN_CFG_SLOPE i) (if rising then 0 else 1)

/-- The two words of a FIFO entry (R328). -/
def tinWords (stamp fine : Nat) (rising clock : Bool) : Nat × Nat :=
  (stamp % 2 ^ 27 * 2 ^ 9 + fine, b2n clock * 2 ^ 35 + b2n rising * 2 ^ 27 + 2 ^ 26 + stamp / 2 ^ 27 % 2 ^ 13)

/-- An entry for the stamp FIFO of input `i`; a full FIFO drops it (R328). -/
def tinPush (s : State) (i : Nat) (w : Nat × Nat) : State :=
  let l := sget [] s.tinFifo i
  if l.length < 1024 then ({ s with tinFifo := sset [] s.tinFifo i (l ++ [w]) } : State).set R.TIN_STATUS_FILL (l.length + 1) i
  else tinNotice s R.TIN_STATUS_OVERFLOW i

/-- A qualified edge that arrived on this tick in bin `b` (R326, R327, R328). DESIGN CHOICE (log 46): the CLOCK of a stamp counts for
GLB_TAINT_STICKY and the first-taint capture, on the tick the edge arrives. -/
def tinArrive (s : State) (i b : Nat) (rising : Bool) : State :=
  let d : Int := s.get R.TIN_DELAY_FACTORY i + sgn 16 (s.get R.TIN_DELAY_USER i)
  let a : Int := tdcPosAt s i b - d
  let e := ((s.tick : Int) + a / 512).toNat
  let fine := (a % 512).toNat
  let last := sget 0 s.tinLast i
  if last ≠ 0 ∧ e + 1 < last + 2 then tinNotice (s.inc R.TIN_MISS_CNT_COUNT i) R.TIN_STATUS_MISS i
  else
    let stamp := (s.now + 2 ^ 64 + e - s.tick) % 2 ^ 40
    let t := clockTaintAt s e
    let s := { s with tinLast := sset 0 s.tinLast i (e + 1), tinSeen := s.tinSeen ++ [(⟨i, e, fine⟩ : Edge)] }
    let s := noteTaint (s.inc R.TIN_EDGE_CNT_COUNT i) t
    let s := tinPush s i (tinWords stamp fine rising (!t.isEmpty))
    let s := atTick s e fun s => fire s (960 + 2 * i)
    let s := forAll (List.range 8) s fun s m => ivlEdge s m ⟨i, e, fine⟩
    forAll (List.range 4) s fun s f => frqEdge s f ⟨i, e, fine⟩

/-- TIN_EDGE: an edge reaches the interpolator of input `i` on this tick in bin `b` (R325 to R328). An edge of a slope that is not
selected, or at a pin under calibration, is not received. -/
def execTinEdge (i : Fin 32) (b : Fin 512) (rising : Bool) (s : State) : Host.Outcome State Fault Refusal :=
  .next (if !mainPowered s then s
    else
      let s := s.set R.TIN_STATUS_LEVEL (b2n rising) i.val
      if qualified s i.val rising && !calibrating s i.val then tinArrive s i.val b.val rising else s)

/-- A read of TIN_STAMP_0 pops the oldest stamp into the two words (R328); of an empty FIFO only VALID 0 and the zeros are stated. -/
def tinPop (s : State) (i : Nat) : State :=
  match sget [] s.tinFifo i with
  | [] =>
    let (a, s) := s.free
    let (b, s) := s.free
    (s.set R.TIN_STAMP_WORD a (2 * i)).set R.TIN_STAMP_WORD (b % 2 ^ 13 + b / 2 ^ 27 % 2 ^ 9 * 2 ^ 27) (2 * i + 1)
  | w :: rest =>
    let s : State := ({ s with tinFifo := sset [] s.tinFifo i rest } : State).set R.TIN_STATUS_FILL rest.length i
    (s.set R.TIN_STAMP_WORD w.1 (2 * i)).set R.TIN_STAMP_WORD w.2 (2 * i + 1)

/-! ### Calibration (R329, R330) -/

/-- TDC_CAL_CTRL was written with `go` (R330): a run of one interpolator, or of all of them in order. -/
def tdcCalWritten (before s : State) (go : Bool) : State :=
  let s := if 33 < s.get R.TDC_CAL_CTRL_SEL then s.set R.TDC_CAL_CTRL_SEL (before.get R.TDC_CAL_CTRL_SEL) else s
  if go && !s.flag R.TDC_CAL_STATUS_BUSY then
    let sel := s.get R.TDC_CAL_CTRL_SEL
    { s.set R.TDC_CAL_STATUS_BUSY 1 with tdcCal := if sel = 33 then (1, true) else (sel + 1, false) }
  else s

/-- The table of R329 from the hit counts. -/
def tdcTable : List Nat → Nat → List Nat
  | [], _ => []
  | h :: hs, c => (narrow (2 * c + h : Nat) 12 11).1.toNat :: tdcTable hs (c + h)

/-- A run over one interpolator passes (R329). -/
def tdcPass (h : List Nat) : Bool := h.all fun x => decide (512 ≤ x ∧ x ≤ 8192)

/-- After interpolator `i` a run of all goes on to the next; otherwise the run ends. -/
def tdcCalNext (s : State) (i : Nat) : State :=
  if s.tdcCal.2 && decide (i < 32) then { s with tdcCal := (i + 2, true) }
  else fire { (s.set R.TDC_CAL_STATUS_BUSY 0).set R.TDC_CAL_STATUS_DONE 1 with tdcCal := (0, false) } (1024 + 24)

/-- The table of interpolator `i` is replaced. -/
def tdcStore (s : State) (i : Nat) (l : List Nat) : State :=
  { s with tdcPos := (l.zipIdx).foldl (fun m p => sset 0 m (i * 512 + p.2) (p.1 + 1)) s.tdcPos }

/-- TDC_CAL_DONE: the interpolator under calibration has counted 2^20 hits, `hits` of them in each bin; its table is replaced, or kept
with FAIL, and the run goes on or ends (R329, R330). -/
def execTdcCalDone (hits : List Nat) (s : State) : Host.Outcome State Fault Refusal :=
  let h := (List.range 512).map fun b => hits.getD b 0
  let i := s.tdcCal.1 - 1
  .next (if s.tdcCal.1 = 0 then s else
    let s : State := { s with tdcHits := (h.zipIdx).foldl (fun m p => sset 0 m (i * 512 + p.2) p.1) s.tdcHits }
    let s : State := if tdcPass h then tdcStore s i (tdcTable h 0)
      else if s.flag R.TDC_CAL_STATUS_FAIL then s
      else fire ((s.set R.TDC_CAL_STATUS_FAIL 1).set R.TDC_CAL_STATUS_FAIL_SEL i) (1024 + 25)
    tdcCalNext s i)

/-- TDC_BIN_DATA shows the bin the index names (R329). -/
def tdcBinShow (s : State) : State :=
  let i := s.get R.TDC_BIN_INDEX_SEL
  let b := s.get R.TDC_BIN_INDEX_BIN
  (s.set R.TDC_BIN_DATA_POS (if i ≤ 32 then tdcPosAt s i b else 0)).set R.TDC_BIN_DATA_HITS (if i ≤ 32 then sget 0 s.tdcHits (i * 512 + b) else 0)

/-- After a read of TDC_BIN_DATA the bin increments with AUTOINC. -/
def tdcBinNext (s : State) : State :=
  s.when (s.flag R.TDC_BIN_INDEX_AUTOINC) fun s => s.set R.TDC_BIN_INDEX_BIN (s.get R.TDC_BIN_INDEX_BIN + 1)

end Sys2Proof.Machine
end

