-- ==== Sys2Proof/Machine/Fabric.lean ====
section
/-! DEFINITION. The event fabric and the lock registers (13_event_fabric_and_mailboxes.md R336 to R347, R356 to R359). -/

namespace Sys2Proof.Machine

/-- Is the block of a source powered (R336)? The fabric, the mailboxes and the global events stand on the standby rail. -/
def sourcePowered (s : State) (src : Nat) : Bool := mainPowered s || decide (1152 ≤ src ∧ src < 1216) || decide (1472 ≤ src)

/-- EVENT_FIRE: source `src` raises a firing on this tick (R336, R337, R340). The reserved global sources never fire (R347). -/
def execEventFire (src : Fin 1536) (s : State) : Host.Outcome State Fault Refusal :=
  .next (if sourcePowered s src.val && decide (src.val < 1493) then fire s src.val else s)

/-- A write of EVF_FIRE names channel `ch` (R338, R339). -/
def softwareFire (s : State) (m : Master) (ch off : Nat) : State :=
  if !masterSecure m && channelSecure s ch then worldViolation s m true 3 ch off
  else if s.get R.EVF_CH_OWNER ch = masterCode m then fireChannel s ch
  else evfNotice s (s.set R.EVF_STATUS_OWNER_REFUSED 1)

/-! ### Delivery to real-time consumers (R25, R341) -/

/-- An activation of task input `t` of a scheduled Caliper on this tick (R271, R343, R344). -/
def clpActivate (s : State) (t : Nat) : State :=
  if sget 0 s.taskLast t = s.tick + 1 then s.inc R.EVF_TASKST_COALESCE t
  else
    let s := { s with taskLast := sset 0 s.taskLast t (s.tick + 1) }
    let s := if s.flag R.EVF_TASKST_PENDING t then evfNotice s ((s.set R.EVF_TASKST_OVERRUN 1 t).set R.EVF_STATUS_OVERRUN 1) else s.set R.EVF_TASKST_PENDING 1 t
    clpEvent s (t / 8) (8 + t % 8)

/-- The paths of channel `ch` to task inputs of scheduled Calipers (R342). -/
def clpPaths (s : State) (ch : Nat) : List Nat :=
  let sched (t : Nat) : Bool := decide (t < 512) && s.get R.CLP_CTRL_MODE (t / 8) == 1
  ((if s.flag R.EVF_TASK_DIRECT_EN ch then [ch] else []) ++
    (s.listed R.EVF_TASK_MUX_EN).filter fun t => s.flag R.EVF_TASK_MUX_EN t && s.get R.EVF_TASK_MUX_CH t == ch).filter sched

/-- EVENT_DELIVERY: a real-time firing of channel `ch` raised on tick T reaches its real-time consumers at the start of tick T + 3 (R25). -/
def execEventDelivery (ch : Fin 512) (s : State) : Host.Outcome State Fault Refusal :=
  let due := s.deliver.filter fun f => f.ch == ch.val && decide (f.tick + 3 ≤ s.tick)
  let s : State := { s with deliver := s.deliver.filter fun f => !(f.ch == ch.val && decide (f.tick + 3 ≤ s.tick)) }
  .next (forAll due s fun s f =>
    let s := forAll (s.slots.map (·.1)) s (latchFiring ch.val)
    let s := forAll (clpPaths s ch.val) s clpActivate
    tdcFiring s ch.val f.tick)

/-! ### Task inputs (R342 to R345) -/

/-- Is the consumer of task input `t` busy (R343): an injected entry of the monitor ADC that is waiting or converting (R439)? -/
def consumerBusy (s : State) (t : Nat) : Bool := decide (896 ≤ t ∧ t < 904) && s.mon.inj.any fun x => x.idx == t - 896

/-- TASK_ACTIVATION: the oldest arrival at task input `t`, synchronised to its consumer, makes an activation or merges (R343); arrivals of one
consumer cycle form one (R344). A Plinth core may wake (R345); a host task input signals its MSI-X vector (R383). -/
def execTaskActivation (t : Fin 1024) (s : State) : Host.Outcome State Fault Refusal :=
  let t := t.val
  if s.xtalFail then .next s else match sget [] s.arrivals t with
  | [] => .next s
  | a :: rest =>
    let both := rest.head? == some a
    let s := { s with arrivals := sset [] s.arrivals t (if both then rest.drop 1 else rest) }
    let s := s.when both fun s => s.inc R.EVF_TASKST_COALESCE t
    .next (if 904 ≤ t ∨ !consumerPowered s t then s
      else
        let merged := s.flag R.EVF_TASKST_PENDING t || consumerBusy s t
        let s := s.when (decide (t < 512)) fun s => clpEvent s (t / 8) (8 + t % 8)
        if merged then
          let s := evfNotice s ((s.set R.EVF_TASKST_OVERRUN 1 t).set R.EVF_STATUS_OVERRUN 1)
          s.when (decide (896 ≤ t) && s.get R.MON_INJ_CTRL_SRC (t - 896) == 1) fun s =>
            (s.set R.MON_INJ_RES_OVERRUN 1 (t - 896)).set R.MON_STATUS_INJ_OVERRUN 1
        else
          let s := s.set R.EVF_TASKST_PENDING 1 t
          let k := if t < 576 then (t - 512) / 32 else 2 + (t - 576) / 32
          if 512 ≤ t ∧ t < 768 then
            s.when (s.flag R.EVF_TASK_WAKE t && s.get R.GLB_PLN_STATUS_STATE k == 3) fun s => s.set R.GLB_PLN_STATUS_STATE 2 k
          else if 768 ≤ t ∧ t < 896 then msixSignal s (t - 768)
          else s)

/-- EVF_CHST was written with `v`: clearing REFUSED also clears REFUSE_CNT. -/
def chstWritten (s : State) (c v : Nat) : State :=
  if fldBits R.EVF_CHST_REFUSED v = 0 ∨ s.flag R.EVF_CHST_REFUSED c then s else s.set R.EVF_CHST_REFUSE_CNT 0 c

/-- EVF_TASKST was written with `v`: PENDING is W1C for Plinth cores and the host only; clearing OVERRUN also clears COALESCE. -/
def taskstWritten (before s : State) (t v : Nat) : State :=
  let s := if 512 ≤ t ∧ t < 896 then s else s.put R.EVF_TASKST_PENDING (before.get R.EVF_TASKST_PENDING t) t
  if fldBits R.EVF_TASKST_OVERRUN v = 0 ∨ s.flag R.EVF_TASKST_OVERRUN t then s else s.set R.EVF_TASKST_COALESCE 0 t

/-- A non-secure write that names a secure channel in a binding or a route is dropped as a world violation (R339). -/
def namesSecure (s : State) (m : Master) (ch : Nat) : Bool := !masterSecure m && channelSecure s ch

/-! ### Event-harvest entries (R346) -/

/-- EVH_CUT: at S_s + CUT the harvest agent writes the entry of point `p` from its latch, which then clears. The entry becomes visible 2 to
8 ticks later, on which of them a free value says. -/
def execEvhCut (p : BitVec 16) (s : State) : Host.Outcome State Fault Refusal :=
  .next (if s.xtalFail then s else match sget none s.points p.toNat with
    | none => s
    | some h =>
      if h.kind = 1 ∧ running s ∧ shotTick s = h.cut then
        let (f, s) := s.free
        -- a firing of this cycle counts for the next cut: the entry holds the latch as it stood before the cycle
        let new := sget 0 s.cyc.evh p.toNat
        let v := if new = 0 then b2n (sget false s.evhLatch p.toNat) else new - 1
        let e : EvhEnt := ⟨s.tick + 2 + f % 7, h.queue, harvestTag s h.queue h.pos, v⟩
        { s with evhLatch := sset false s.evhLatch p.toNat (new != 0), evhSent := s.evhSent ++ [e] }
      else s)

/-- Entries of the harvest agent that become visible on this tick. -/
def evhVisible (s : State) : State :=
  let due := s.evhSent.filter fun e => decide (e.vis ≤ s.tick)
  forAll due { s with evhSent := s.evhSent.filter fun e => decide (s.tick < e.vis) } fun s e => harvestVisible s e.queue e.tag e.value

/-- EVF_EVH_CUT was written: CUT of point POINT; ignored for parameter points (R346). -/
def evhCutWritten (s : State) : State :=
  let p := s.get R.EVF_EVH_INDEX_POINT
  match sget none s.points p with
  | some h => if h.kind = 1 then { s with points := sset none s.points p (some { h with cut := s.get R.EVF_EVH_CUT_CUT }) } else s
  | none => s

/-- EVF_EVH_CUT shows CUT of point POINT. -/
def evhCutShow (s : State) : State :=
  s.set R.EVF_EVH_CUT_CUT (match sget none s.points (s.get R.EVF_EVH_INDEX_POINT) with | some h => h.cut | none => 0)

/-! ### Locks (R356 to R359) -/

/-- A read of lock `k` through page `r`: a free lock passes to `r` and reads 0; a held one reads its owner (R357). -/
def lockRead (s : State) (r k : Nat) : Nat × State :=
  if s.flag R.LCK_STATE_HELD k then (s.get R.LCK_STATE_OWNER k, s) else (0, (s.set R.LCK_STATE_HELD 1 k).set R.LCK_STATE_OWNER r k)

/-- The lock is free. -/
def lockFree (s : State) (k : Nat) : State := (s.set R.LCK_STATE_HELD 0 k).set R.LCK_STATE_OWNER 0 k

/-- A write through page `r` releases the lock if `r` owns it; any other is ignored and sets FOREIGN (R358). -/
def lockWrite (s : State) (r k : Nat) : State :=
  if s.flag R.LCK_STATE_HELD k && s.get R.LCK_STATE_OWNER k == r then lockFree s k else s.set R.LCK_STATUS_FOREIGN 1

/-- A write through page 0 releases the lock whatever its owner, and is counted (R358). -/
def lockForce (s : State) (k : Nat) : State := (lockFree s k).inc R.LCK_FORCE_CNT_COUNT

end Sys2Proof.Machine
end

