-- ==== Sys2Proof/Machine/LaneLine.lean ====
section
/-! DEFINITION. The line format of the system lanes: scrambling, stuffing, frames, CRC-32C, bulk packets, PRBS31
(15_system_lanes.md R391 to R395, R410, R411, R417). -/

namespace Sys2Proof.Machine

/-- The scrambler of R392 from state `x`, over bits `i` on; `k` bits are left. -/
def scrambleFrom (payload : Nat) : Nat → Nat → Nat → Nat
  | 0, _, _ => 0
  | k + 1, i, x =>
    let b := (b2n (bit x 30) + b2n (bit x 27)) % 2
    (b2n (bit payload i) + b) % 2 * 2 ^ i + scrambleFrom payload k (i + 1) (x * 2 % 2 ^ 31 + b)

/-- The listing scramble of R392; the same function descrambles. -/
def scramble (payload fc : Nat) : Nat :=
  let x := Nat.xor (fc % 2 ^ 31) 0x2AAAAAAA
  scrambleFrom payload 64 0 (if x = 0 then 1 else x)

/-- The 66 source bits of a frame: header, left bit first, then the payload, bit 0 first (R391). -/
def sourceBits (ctrl : Bool) (payload : Nat) : List Bool := [ctrl, !ctrl] ++ (List.range 64).map fun i => bit payload i

/-- Alternating fill after `last` (R393). -/
def fillBits : Nat → Bool → List Bool
  | 0, _ => []
  | k + 1, last => (!last) :: fillBits k (!last)

/-- The listing of R393 over the source bits left, with `room` bit times left and the run so far. -/
def stuffBits : List Bool → Nat → Nat → Bool → List Bool
  | [], room, _, last => fillBits room last
  | b :: l, room, run, last =>
    let run' := if run ≠ 0 ∧ b = last then run + 1 else 1
    if run' = 32 then b :: (!b) :: stuffBits l (room - 2) 1 (!b) else b :: stuffBits l (room - 1) run' b

/-- The 68 line bits of a frame. -/
def lineBits (ctrl : Bool) (payload : Nat) : List Bool := stuffBits (sourceBits ctrl payload) 68 0 false

/-- The source bits of a line frame; `none` when a stuffed bit or the fill is wrong (R394). `need` source bits are left. -/
def unstuff : List Bool → Nat → Bool → Nat → Option (List Bool)
  | [], _, _, need => if need = 0 then some [] else none
  | x :: l, run, last, need =>
    if run = 32 then (if x = last then none else unstuff l 1 x need)
    else if need = 0 then (if x = last then none else unstuff l 1 x 0)
    else (unstuff l (if run ≠ 0 ∧ x = last then run + 1 else 1) x (need - 1)).map (x :: ·)

/-- Control or data, and the 64 payload bits as sent, of a well-formed frame (R394). -/
def readLine (l : List Bool) : Option (Bool × Nat) :=
  if l.length ≠ 68 then none
  else match unstuff l 0 false 66 with
    | some (a :: b :: p) => if a = b then none else some (a, p.zipIdx.foldl (fun v q => v + b2n q.1 * 2 ^ q.2) 0)
    | _ => none

/-- Is the header of a line frame valid (R391, R396)? -/
def headerOk (l : List Bool) : Bool :=
  match l with
  | a :: b :: _ => a != b
  | _ => false

/-! ### CRC-32C -/

/-- One bit into the CRC-32C register. -/
def crcBit (c : Nat) (b : Bool) : Nat := if bit c 0 == b then c / 2 else Nat.xor (c / 2) 0x82F63B78

/-- One 64-bit payload into the register, bit 0 first. -/
def crcWord (c w : Nat) : Nat := (List.range 64).foldl (fun c i => crcBit c (bit w i)) c

/-- The register before the first bit. -/
def crcInit : Nat := 0xFFFFFFFF

/-- The CRC from the register. -/
def crcOut (c : Nat) : Nat := Nat.xor c 0xFFFFFFFF

/-- CRC-32C of a list of payloads. -/
def crcOf (l : List Nat) : Nat := crcOut (l.foldl crcWord crcInit)

/-! ### Control frames and packets (Table LAN-1) -/

/-- A control payload of TYPE `t`. -/
def ctlFrame (t p : Nat) : Nat := t * 2 ^ 56 + p % 2 ^ 56

/-- LEN of a KIND (R411). -/
def pktLen (kind : Nat) : Nat := if kind = 0 ∨ kind = 3 then 16 else 0

/-- The payload of BULK_HEAD. -/
def pktHead (p : Pkt) : Nat := ctlFrame 2 (p.vc * 2 ^ 55 + p.kind * 2 ^ 53 + pktLen p.kind * 2 ^ 48 + p.dest % 2 ^ 12 * 2 ^ 36 + p.addr % 2 ^ 36)

/-- The frames of a packet: control or data, payload. -/
def pktFrames (p : Pkt) : List (Bool × Nat) :=
  let d := p.data.take (pktLen p.kind)
  (true, pktHead p) :: d.map (fun w => (false, w)) ++ [(true, ctlFrame 3 (p.src % 2 ^ 12 * 2 ^ 44 + p.tag % 2 ^ 12 * 2 ^ 32 + crcOf (pktHead p :: d)))]

/-- A packet from its head, data frames and tail; `none` where the format or the CRC is wrong (R411). -/
def readPkt (head : Nat) (data : List Nat) (tail : Nat) : Option Pkt :=
  let kind := bits head 54 53
  let len := bits head 52 48
  if len = pktLen kind ∧ data.length = len ∧ bits tail 31 0 = crcOf (head :: data) ∧ bits head 35 0 % 128 = 0 then
    some ⟨bits head 55 55, kind, bits head 47 36, bits head 35 0, data, bits tail 55 44, bits tail 43 32⟩
  else none

/-! ### Routing (R412) -/

/-- Field `d` of a coordinate word. -/
def coordOf (c d : Nat) : Nat := c / 16 ^ d % 16

/-- The offset o = (DEST − own) mod S in dimension `d`. -/
def routeOff (own dest : Nat) (size : Nat → Nat) (d : Nat) : Nat := (coordOf dest d + 16 * size d - coordOf own d) % size d

/-- The direction of the first dimension whose offset is not 0; `none` at the destination. -/
def routeDir (own dest : Nat) (size : Nat → Nat) : Option Nat :=
  (([0, 1, 2] : List Nat).find? fun d => routeOff own dest size d != 0).map fun d =>
    if 2 * routeOff own dest size d ≤ size d then 2 * d else 2 * d + 1

/-- Does a hop in direction `dir` from `own` cross the dateline (R413)? -/
def crossesDateline (own dir : Nat) (size : Nat → Nat) : Bool :=
  let c := coordOf own (dir / 2)
  if dir % 2 = 0 then c + 1 == size (dir / 2) else c == 0

/-! ### PRBS31 (R417) -/

/-- The next bit of the inverted PRBS31 sequence after the last 31 bits, newest first. -/
def prbsNext (l : List Bool) : Bool := !(l.getD 27 false != l.getD 30 false)

end Sys2Proof.Machine
end

