-- ==== Sys2Proof/Machine/Lanes.lean ====
section
/-! DEFINITION. System lanes (15_system_lanes.md R390 to R417) and the publication of received decision words
(11_decision_network_and_pauli_frames.md R294). -/

namespace Sys2Proof.Machine

/-- Lane `l`. -/
def lan (s : State) (l : Nat) : Lan := sget {} s.lans l

/-- Write lane `l`. -/
def setLan (s : State) (l : Nat) (x : Lan) : State := { s with lans := sset {} s.lans l x }

/-- Change lane `l`. -/
def updLan (s : State) (l : Nat) (f : Lan → Lan) : State := setLan s l (f (lan s l))

/-- LAN_STATUS.STATE (Table LAN-2). -/
def lanState (s : State) (l : Nat) : Nat := s.get R.LAN_STATUS_STATE l

/-- Lane event source `k`: 0 UP, 1 DOWN, 2 RES_CHANGE, 3 ERROR. -/
def lanFire (s : State) (l k : Nat) : State := fire s (1056 + 4 * l + k)

/-- Set an error bit; ERROR on its 0 to 1 transition. -/
def lanError (s : State) (f : Fld) (l : Nat) : State := if s.flag f l then s else lanFire (s.set f 1 l) l 3

/-- RES_EN changes fire source 2 (R403). -/
def setResEn (s : State) (l : Nat) (b : Bool) : State :=
  if s.flag R.LAN_STATUS_RES_EN l == b then s else lanFire (s.set R.LAN_STATUS_RES_EN (b2n b) l) l 2

/-- The lane leaves UP, or starts again: nothing of the partner's time is kept (Table LAN-2). -/
def lanHunt (s : State) (l : Nat) : State :=
  let s := setResEn (s.set R.LAN_STATUS_LOCK 0 l) l false
  let x := lan s l
  setLan (s.set R.LAN_STATUS_STATE 1 l) l { enAt := x.enAt, huntAt := s.clock, bulk := x.bulk, txSum := x.txSum, toks := x.toks, idx := 0 }

/-- The lane is off; its frame counter counts on (R391). -/
def lanOff (s : State) (l : Nat) : State :=
  let s := setResEn ((s.set R.LAN_STATUS_LOCK 0 l).set R.LAN_STATUS_PRBS_SYNC 0 l) l false
  let x := lan s l
  setLan (s.set R.LAN_STATUS_STATE 0 l) l { enAt := x.enAt, toks := x.toks }

/-- Lanes in UP hunt again after a change of CLK_PHASE or a relock (Table LAN-2). -/
def lanesRehunt (s : State) : State := forAll (List.range 24) s fun s l => s.when (lanState s l == 4) fun s => lanHunt s l

/-- SKEW_TAP_STEP: during a pass of a skew run TAPS moves one tap, at most once per 1 µs; a wrap crosses a whole tick (R111). The clock family
moves, so lanes in UP hunt again (R99, Table LAN-2). -/
def execSkewTapStep (s : State) : Host.Outcome State Fault Refusal :=
  if s.skew.moves = 0 ∨ s.clock < s.skew.due then .next s else
  let t := s.get R.CLK_PHASE_TAPS
  let up := decide (s.skew.moves > 0)
  let t' := if up then (t + 1) % 2048 else (t + 2047) % 2048
  let wraps := decide (if up then t = 2047 else t = 0)
  let m := if up then s.skew.moves - 1 else s.skew.moves + 1
  let k : Skew := { s.skew with moves := m, due := s.clock + 400, pass := if m = 0 then s.skew.pass + 1 else s.skew.pass }
  let s : State := { s.set R.CLK_PHASE_TAPS t' with phaseNow := t', skew := k }
  .next (lanesRehunt (s.when wraps loseTime))

/-- LAN_CTRL was written: ENABLE, RETRAIN and MODE (Table LAN-2, R397, R417). An enabled lane that leaves TEST passes through OFF to HUNT (DEDUCED,
log 46). -/
def lanCtrlWritten (before s : State) (l : Nat) (retrain : Bool) : State :=
  let on := s.flag R.LAN_CTRL_ENABLE l
  let test (s : State) : Bool := s.get R.LAN_CTRL_MODE l == 1
  if !on then (if before.flag R.LAN_CTRL_ENABLE l then lanOff s l else s)
  else
    let s := s.when (!before.flag R.LAN_CTRL_ENABLE l) fun s => updLan s l fun x => { x with enAt := s.tick }
    if test s then
      (if lanState s l = 5 then s else (lanOff s l).set R.LAN_STATUS_STATE 5 l)
    else if lanState s l = 5 then lanHunt (lanOff s l) l
    else if lanState s l = 0 then (if before.flag R.LAN_CTRL_ENABLE l then s else lanHunt s l)
    else if retrain then lanHunt s l
    else s

/-- The lane's transmit frame counter on this tick (R391). -/
def lanFc (s : State) (l : Nat) : Nat := (s.tick - (lan s l).enAt) % 2 ^ 32

/-- LENGTH of the lane's LANSLOT record, 0 when there is none. -/
def lanL (s : State) (l : Nat) : Nat := sget 0 s.lanLen l

/-- Session revision at least major.minor. -/
def revAtLeast (s : State) (l maj min_ : Nat) : Bool :=
  decide (maj < s.get R.LAN_STATUS_REV_MAJOR l) || (s.get R.LAN_STATUS_REV_MAJOR l == maj && decide (min_ ≤ s.get R.LAN_STATUS_REV_MINOR l))

/-! ### Transmit (R391, R398, R406 to R410) -/

/-- The TRAIN frame with INDEX `i` sent on this tick (Table LAN-3). -/
def trainFrame (s : State) (l i : Nat) (status : Bool) : Nat :=
  let x := lan s l
  let p := match i with
    | 0 => lanFc s l + 0xFF13 * 2 ^ 32
    | 1 => s.now % 2 ^ 32 + s.get R.CLK_STATUS_TIME_VALID * 2 ^ 32
    | 2 => s.systemTag % 2 ^ 32
    | 3 => s.boot.gen + lanL s l * 2 ^ 16
    | 4 => s.get R.LAN_COORD_POS + l * 2 ^ 12
    | 5 => b2n x.ack + b2n (lanState s l == 4) * 2
    | _ => 0
  2 ^ 56 + b2n status * 2 ^ 55 + i * 2 ^ 52 + p

/-- The transmit entry of the position of this tick, if reserved (R57). -/
def lanTxEntry (s : State) (l : Nat) : Option Nat :=
  if lanL s l = 0 then none
  else
    let e := sget 0 s.lanTx (l * 4096 + s.now % lanL s l)
    if bit e 31 then some e else none

/-- Does the lane's session carry reserved frames in positions of entry `e`: revision 1 has KIND 0 only (R399)? -/
def lanCarries (s : State) (l e : Nat) : Bool := bits e 30 28 == 0 || decide (2 ≤ s.get R.LAN_STATUS_REV_MAJOR l)

/-- A reserved data frame enters the sum of its interval (R410). -/
def txSumAdd (s : State) (l payload : Nat) : State :=
  let i := lanFc s l / 4096
  updLan s l fun x =>
    match x.txSum.find? fun p => p.1 == i with
    | some p => { x with txSum := x.txSum.map fun q => if q.1 = i then (i, crcWord p.2 payload) else q }
    | none => { x with txSum := (x.txSum ++ [(i, crcWord crcInit payload)]).reverse.take 3 |>.reverse }

/-- The barriers that are locally complete in the current shot (R407). -/
def tokenPayload (s : State) : Nat := (List.range 16).foldl (fun v b => v + s.get R.GLB_BAR_LOCAL b * 2 ^ b) 0

/-- For 256 ticks after TIME_LOADED every reserved transmit position carries IDLE (R404). -/
def timeFresh (s : State) : Bool := decide (s.timeLoadedAt ≠ 0 ∧ s.tick < s.timeLoadedAt - 1 + 256)

/-- What a reserved position carries: control or data, payload (R404, R406 to R408). -/
def reservedFrame (s : State) (l e : Nat) : (Bool × Nat) × State :=
  if timeFresh s then ((true, 0), s)
  else match bits e 30 28 with
    | 0 => let (p, s) := decTransmit s (bits e 4 0); ((false, p), s)
    | 1 => ((false, tokenPayload s), s)
    | _ =>
      match (lan s l).fwd with
      | some (t, some p) => if t = s.tick then ((false, p), s) else ((true, ctlFrame 6 0), s)
      | _ => ((true, ctlFrame 6 0), s)

/-- The next packet to start: the first that is the head of its virtual channel and for which that channel holds LEN + 2 credits (R413). -/
def pktReady (x : Lan) : Option Pkt :=
  x.bulk.find? fun p =>
    (x.bulk.find? fun q => q.vc == p.vc) == some p && decide (pktLen p.kind + 2 ≤ (if p.vc = 0 then x.cr0 else x.cr1))

/-- The next bulk frame, if a packet is in progress or one may start. -/
def bulkFrame (s : State) (l : Nat) : (Bool × Nat) × State :=
  let x := lan s l
  match x.frames with
  | f :: r => (f, setLan s l { x with frames := r })
  | [] => match pktReady x with
    | none => ((true, 0), s)
    | some p =>
      let k := pktLen p.kind + 2
      let s := s.when (decide (p.kind = 0 ∨ p.kind = 2) && p.src == s.get R.LAN_COORD_POS) fun s =>
        { s with bqCur := s.bqCur.map fun c => { c with sentAt := s.clock } }
      match pktFrames p with
      | f :: r => (f, setLan s l { x with bulk := x.bulk.erase p, frames := r, cr0 := if p.vc = 0 then x.cr0 - k else x.cr0, cr1 := if p.vc = 0 then x.cr1 else x.cr1 - k })
      | [] => ((true, 0), s)

/-- A SUM frame that waits is sent no later than 4,096 ticks after the end of its interval (R410). -/
def ctlInTime (s : State) (l : Nat) (c : Bool × Nat) : Bool :=
  c.1 || bits c.2 63 56 != 7 || (bits c.2 51 32 + 1) % 2 ^ 20 == lanFc s l / 4096 % 2 ^ 20

/-- What a bulk position carries: a LANE_GAP in a gap window, control frames that wait, bulk frames, IDLE (R404, R409, R410, R413, R416). -/
def bulkPosition (s : State) (l : Nat) : (Bool × Nat) × State :=
  let x := lan s l
  match (if revAtLeast s l 2 1 then inGap s 3 l else none) with
  | some w =>
    let g := s.gaps.getD w ⟨0, 0, 0, 0, 0, 0⟩
    ((true, ctlFrame 5 ((g.start + g.length - shotTick s) % 2 ^ 24 * 2 ^ 32)), s)
  | none =>
    if s.tick < x.gapTo then ((true, 0), s)
    else match x.ctl.filter (ctlInTime s l) with
      | (true, i) :: r => ((true, trainFrame s l i true), setLan s l { x with ctl := r })
      | (false, p) :: r => ((true, p), setLan s l { x with ctl := r })
      | [] => bulkFrame s l

/-- Is the payload of a control frame a TRAIN frame's, sent unscrambled? -/
def isTrain (ctrl : Bool) (p : Nat) : Bool := ctrl && bits p 63 56 == 1

/-- MODE 2: the lane's transmitter is looped to its own receiver inside the hub (R417). -/
def lanLoop (s : State) (l : Nat) : Bool := s.get R.LAN_CTRL_MODE l == 2

/-- A frame goes onto the line, scrambled unless it is a TRAIN frame (R391 to R393); in a loopback the receiver will see it. -/
def lanPut (s : State) (l : Nat) (f : Bool × Nat) : State :=
  let b := lineBits f.1 (if isTrain f.1 f.2 then f.2 else scramble f.2 (lanFc s l))
  updLan s l fun x => { x with line := b, sent := if lanLoop s l then (x.sent ++ [b]).reverse.take 64 |>.reverse else [] }

/-- In a loopback the frames arrive in the order sent, and none from outside: the frame received, taken from those sent (R417; the delay of the
loop is the sender's choice, log 46). -/
def loopTake (s : State) (l : Nat) : State := updLan s l fun x => { x with sent := x.sent.drop 1 }

/-- LANE_FRAME_TRANSMIT: the line frame of this tick (R391, Table LAN-2). -/
def execLaneFrameTransmit (l : Fin 24) (s : State) : Host.Outcome State Fault Refusal :=
  let x := lan s l.val
  .next (if !mainPowered s then s else match lanState s l.val with
    | 0 => setLan s l.val { x with line := [] }
    | 5 =>
      -- 68 bits of the PRBS31 sequence, the newest 31 kept in front
      let seq := (List.range 68).foldl (fun (a : List Bool) _ => prbsNext a :: a) (if x.line = [] then List.replicate 31 false else x.line.reverse)
      setLan s l.val { x with line := (seq.take 68).reverse }
    | 4 =>
      match lanTxEntry s l.val with
      | some e =>
        if timeFresh s || (s.flag R.LAN_STATUS_RES_EN l.val && lanCarries s l.val e) then
          let (f, s) := reservedFrame s l.val e
          lanPut (if f.1 then s else txSumAdd s l.val f.2) l.val f
        else let (f, s) := bulkPosition s l.val; lanPut s l.val f
      | none => let (f, s) := bulkPosition s l.val; lanPut s l.val f
    | _ =>
      let s := lanPut s l.val (true, trainFrame s l.val x.idx false)
      updLan s l.val fun y => { y with idx := (x.idx + 1) % 8, ackSent := y.ackSent || (x.idx == 5 && y.ack) })

/-- STATUS_BLOCK_SEND: a lane in UP sends a STATUS block in its bulk positions (R404). -/
def execStatusBlockSend (l : Fin 24) (s : State) : Host.Outcome State Fault Refusal :=
  .next (if lanState s l.val = 4 ∧ !(lan s l.val).ctl.any (·.1) then
    updLan s l.val fun x => { x with ctl := x.ctl ++ (List.range 8).map fun i => (true, i) } else s)

/-- SUM_SEND: the sum of an interval that has ended, in the first bulk position, no later than 4,096 ticks after its end (R410). -/
def execSumSend (l : Fin 24) (s : State) : Host.Outcome State Fault Refusal :=
  let fc := lanFc s l.val
  .next (if lanState s l.val = 4 ∧ revAtLeast s l.val 2 1 then
    match (lan s l.val).txSum.find? fun p => p.1 + 1 == fc / 4096 with
    | some p => updLan s l.val fun x => { x with txSum := x.txSum.filter (fun q => q.1 != p.1), ctl := (false, ctlFrame 7 (p.1 % 2 ^ 20 * 2 ^ 32 + crcOut p.2)) :: x.ctl }
    | none => s
  else s)

/-! ### Training and time (R396 to R404) -/

/-- LANE_LOCK: 64 consecutive headers are valid at one offset (R396). -/
def execLaneLock (l : Fin 24) (s : State) : Host.Outcome State Fault Refusal :=
  .next (if lanState s l.val = 1 then (s.set R.LAN_STATUS_LOCK 1 l.val).set R.LAN_STATUS_STATE 2 l.val else s)

/-- TRAIN_TIMEOUT: not UP within 100 ms of entering HUNT (R397). -/
def execTrainTimeout (l : Fin 24) (s : State) : Host.Outcome State Fault Refusal :=
  .next (if 1 ≤ lanState s l.val ∧ lanState s l.val ≤ 3 ∧ !(lan s l.val).wasUp ∧ (lan s l.val).huntAt + 40000000 ≤ s.clock then s.set R.LAN_STATUS_TRAIN_FAIL 1 l.val else s)

/-- The highest major both ends serve and the lower minor of it (R399); this part serves 1.3 and 2.1. -/
def sessionRev (revs : Nat) : Option (Nat × Nat) :=
  let m1 := bits revs 3 0
  let m2 := bits revs 7 4
  if m2 ≠ 0xF then some (2, min m2 1) else if m1 ≠ 0xF then some (1, min m1 3) else none

/-- A in range for reserved traffic (R402). -/
def latOk (a : Int) : Bool := decide (40 ≤ a ∧ a ≤ 50)

/-- LAN_LATENCY.A as a number. -/
def lanA (s : State) (l : Nat) : Int := sgn 16 (s.get R.LAN_LATENCY_A l)

/-- R403 evaluated: MISMATCH and RES_EN. -/
def resEval (s : State) (l : Nat) : State :=
  let same := s.get R.LAN_PARTNER_TAG_TAG l == s.systemTag && s.get R.LAN_PARTNER_GEN_GEN l == s.boot.gen &&
    s.get R.LAN_PARTNER_GEN_L l == lanL s l && lanL s l != 0
  let timed := s.flag R.CLK_STATUS_TIME_VALID && s.flag R.LAN_PARTNER_POS_TIME_VALID l
  setResEn (s.set R.LAN_STATUS_MISMATCH (b2n (!(same && timed))) l) l (lanState s l == 4 && same && timed && latOk (lanA s l))

/-- What a whole block says of the partner. -/
def partnerShow (s : State) (l : Nat) (c : List Nat) : State :=
  let at_ (i : Nat) : Nat := c.getD i 0
  let s := (s.set R.LAN_PARTNER_TAG_TAG (at_ 2) l).set R.LAN_PARTNER_GEN_GEN (at_ 3) l
  let s := (s.set R.LAN_PARTNER_GEN_L (bits (at_ 3) 28 16) l).set R.LAN_PARTNER_POS_TIME_VALID (bits (at_ 1) 32 32) l
  (s.set R.LAN_PARTNER_POS_LANE (bits (at_ 4) 16 12) l).set R.LAN_PARTNER_POS_COORD (at_ 4) l

/-- A = w − STIME, a signed 32-bit difference (R400). -/
def lanDiff (s : State) (c : List Nat) : Int := sgn 32 ((s.now % 2 ^ 32 + 2 ^ 32 - c.getD 1 0 % 2 ^ 32) % 2 ^ 32)

/-- A saturated as in LAN_LATENCY. -/
def satA (a : Int) : Int := max (-32767) (min a 32767)

/-- LAN_LATENCY shows A. -/
def setLatency (s : State) (l : Nat) (a : Int) : State :=
  let s := s.set R.LAN_LATENCY_A (wrapI (satA a) 16) l
  (s.set R.LAN_LATENCY_DEPTH (if latOk a then (52 - a).toNat else 0) l).set R.LAN_STATUS_LAT_RANGE (b2n (!latOk a)) l

/-- Entry to UP (R400, R413). -/
def lanUp (s : State) (l : Nat) (a : Int) : State :=
  let s := setLatency (s.set R.LAN_STATUS_STATE 4 l) l a
  let s := updLan s l fun x => { x with wasUp := true, cr0 := 64, cr1 := 64, owe0 := 0, owe1 := 0, rx := none, pkts := [], rel := [], due := [], rxSum := [], as_ := [], ctl := [] }
  resEval (lanFire s l 0) l

/-- One STIME value in MEASURE (R400). -/
def measure (s : State) (l : Nat) (a : Int) : State :=
  let x := lan s l
  let as_ := a :: x.as_
  if as_.length < 16 then setLan s l { x with as_ := as_ }
  else if as_.all fun b => b == a then lanUp s l a
  else if 15 ≤ x.tries then lanHunt (s.set R.LAN_STATUS_TRAIN_FAIL 1 l) l
  else setLan s l { x with as_ := [], tries := x.tries + 1 }

/-- A whole training block in EXCHANGE (R398, R399). -/
def exchange (s : State) (l : Nat) (c : List Nat) : State :=
  let x := lan s l
  let key := [c.getD 2 0, c.getD 3 0, c.getD 4 0]
  let same := x.prev == key
  let s := updLan s l fun y => { y with prev := key, ack := y.ack || same, ackGot := y.ackGot || bit (c.getD 5 0) 0 }
  let s := s.when same fun s => partnerShow s l c
  let x := lan s l
  match sessionRev (bits (c.getD 0 0) 47 32) with
  | none => s.set R.LAN_STATUS_TRAIN_FAIL 1 l
  | some (maj, min_) =>
    let s := (s.set R.LAN_STATUS_REV_MAJOR maj l).set R.LAN_STATUS_REV_MINOR min_ l
    if x.ack && x.ackSent && x.ackGot then updLan (s.set R.LAN_STATUS_STATE 3 l) l fun y => { y with as_ := [], tries := 0 } else s

/-- A STATUS block in UP (R404). -/
def statusBlock (s : State) (l : Nat) (c : List Nat) (a : Int) : State :=
  let s := partnerShow s l c
  if satA a ≠ lanA s l then
    updLan ((setResEn s l false).set R.LAN_STATUS_STATE 3 l) l fun y => { y with as_ := [], tries := 0 }
  else resEval s l

/-- Bits of a TRAIN frame not named in Table LAN-3 are zero. -/
def trainShape (p : Nat) : Bool :=
  match bits p 54 52 with
  | 0 => bits p 51 48 == 0
  | 1 => bits p 51 33 == 0
  | 2 => bits p 51 32 == 0
  | 3 => bits p 51 29 == 0
  | 4 => bits p 51 17 == 0
  | 5 => bits p 51 2 == 0
  | _ => bits p 51 0 == 0

/-- A TRAIN frame (R398, R400, R404). A of its block is taken on the tick of INDEX 1; the frames of a STATUS block may stand apart. -/
def trainReceive (s : State) (l p : Nat) : State :=
  let x := lan s l
  let i := bits p 54 52
  let c := p % 2 ^ 52
  if i = 0 then setLan s l { x with cur := [c], pfc := some (c % 2 ^ 32 + 1), prev := if x.cur = [] then x.prev else [] }
  else if x.cur.length ≠ i then setLan s l { x with cur := [], prev := [] }
  else
    let cur := x.cur ++ [c]
    let a := if i = 1 then lanDiff s cur else x.aAt
    -- the receiver's copy of FC already names the next frame
    let fc := (x.pfc.getD 1 + 2 ^ 32 - 1) % 2 ^ 32
    let s := setLan s l { x with cur := if i = 7 then [] else cur, aAt := a
                                 stOff := if i = 1 then (c % 2 ^ 32 + 2 ^ 32 - fc) % 2 ^ 32 else x.stOff }
    if i = 1 ∧ lanState s l = 3 then measure s l a
    else if i = 7 ∧ lanState s l = 2 then exchange s l cur
    else if i = 7 ∧ lanState s l = 4 ∧ bit p 55 then statusBlock s l cur a
    else s

/-! ### Receive (R394, R396, R405, R410, R411) -/

/-- Transmit time x of the frame with counter `fc`, bits [31:0] of schedule time (R400, R405). -/
def lanX (x : Lan) (fc : Nat) : Nat := (fc + x.stOff) % 2 ^ 32

/-- The receive entry at position `p` of lane `l`, if reserved. -/
def lanRxEntry (s : State) (l p : Nat) : Option Nat :=
  let e := sget 0 s.lanRx (l * 4096 + p)
  if bit e 31 then some e else none

/-- The full schedule time of a 32-bit time near this tick. -/
def nearTime (s : State) (x : Nat) : Nat := wrapI ((s.now : Int) + sgn 32 ((x + 2 ^ 32 - s.now % 2 ^ 32) % 2 ^ 32)) 64

/-- The receive entry of the frame sent at `x`, where the session carries it. -/
def lanExpect (s : State) (l x : Nat) : Option Nat :=
  if lanL s l = 0 then none else (lanRxEntry s l (nearTime s x % lanL s l)).filter (lanCarries s l)

/-- The receiver's sum of the interval of partner counter `fc` (R410): a payload enters, or the interval can no longer be compared. -/
def rxSumAdd (s : State) (l fc x : Nat) (p : Option Nat) : State :=
  let i := fc / 4096
  let good := p.isSome && s.flag R.LAN_STATUS_RES_EN l
  let next (r : RxSum) : RxSum := { r with crc := match p with | some w => crcWord r.crc w | none => r.crc, ok := r.ok && good
                                           first := if r.first = none then some ((x + 56) % 2 ^ 32) else r.first }
  updLan s l fun y =>
    if y.rxSum.any fun r => r.interval == i then { y with rxSum := y.rxSum.map fun r => if r.interval = i then next r else r }
    else { y with rxSum := (y.rxSum ++ [next ⟨i, crcInit, true, none⟩]).reverse.take 2 |>.reverse }

/-- The interval of `fc` begins with this frame; it may be compared only if RES_EN was 1 from its first tick (R410). -/
def rxSumOpen (s : State) (l fc : Nat) : State :=
  let i := fc / 4096
  let en := s.flag R.LAN_STATUS_RES_EN l
  updLan s l fun y =>
    if y.rxSum.any fun r => r.interval == i then { y with rxSum := y.rxSum.map fun r => if r.interval = i then { r with ok := r.ok && en } else r }
    else { y with rxSum := (y.rxSum ++ [(⟨i, crcInit, en && fc % 4096 == 0, none⟩ : RxSum)]).reverse.take 2 |>.reverse }

/-- A SUM frame: the CRCs of an interval are compared (R410). -/
def sumReceive (s : State) (l fc p : Nat) : State :=
  match (lan s l).rxSum.find? fun r => r.interval % 2 ^ 20 == bits p 51 32 && decide ((r.interval + 1) * 4096 ≤ fc ∧ fc < (r.interval + 2) * 4096) with
  | none => s
  | some r =>
    if !r.ok ∨ crcOut r.crc = bits p 31 0 then s
    else
      let s := s.when (!s.flag R.LAN_STATUS_SUM_ERR l) fun s => s.set R.LAN_SUM_TICK_TICK_LO (r.first.getD 0) l
      lanError (s.inc R.LAN_SUM_ERR_CNT_COUNT l) R.LAN_STATUS_SUM_ERR l

/-- A bulk packet of wrong form or CRC is counted (R411, R413). -/
def bulkBad (s : State) (l : Nat) : State := lanError (s.inc R.LAN_BULK_CRC_CNT_COUNT l) R.LAN_STATUS_CRC_ERR l

/-- A bulk frame: HEAD, data or TAIL (R411). -/
def bulkReceive (s : State) (l : Nat) (t p : Nat) : State :=
  let x := lan s l
  match t, x.rx with
  | 2, none => setLan s l { x with rx := some (p, []) }
  | 2, some _ => bulkBad (setLan s l { x with rx := some (p, []) }) l
  | 3, some (h, d) => setLan s l { x with rx := none, pkts := x.pkts ++ [(h, d, p)] }
  | 3, none => bulkBad s l
  | _, some (h, d) => setLan s l { x with rx := some (h, d ++ [p]) }
  | _, none => bulkBad s l

/-- A control frame in UP, descrambled (Table LAN-1); `res` says that it stands in a reserved position, from which no packet is assembled (R409).
LANE_GAP and SUM are of sessions of revision 2.1 (R399). -/
def ctlReceive (s : State) (l fc p : Nat) (res : Bool) : State :=
  match bits p 63 56 with
  | 0 => s
  | 2 => if res then s else bulkReceive s l 2 p
  | 3 => if res then s else bulkReceive s l 3 p
  | 4 => updLan s l fun x => { x with cr0 := x.cr0 + bits p 55 48, cr1 := x.cr1 + bits p 47 40 }
  | 5 => s.when (revAtLeast s l 2 1) fun s => updLan s l fun x => { x with gapTo := s.tick + bits p 55 32 }
  | 6 => s
  | 7 => s.when (revAtLeast s l 2 1) fun s => sumReceive s l fc p
  | _ => s.inc R.LAN_HDR_ERR_CNT_COUNT l

/-- A frame expected as reserved, with its payload if it was a well-formed data frame. A frame before x + 36 is discarded as early; one
after x + 52 is late and discarded (R405). -/
def resReceive (s : State) (l fc : Nat) (p : Option Nat) : State :=
  let x := lanX (lan s l) fc
  let age := sgn 32 ((s.now % 2 ^ 32 + 2 ^ 32 - x) % 2 ^ 32)
  let s := rxSumAdd s l fc x p
  if age > 52 then s
  else updLan s l fun y => { y with rel := y.rel ++ [(x, if age < 36 then none else p)] }

/-- One header enters the history; 16 invalid of the last 64 lose lock (R396). -/
def headerSeen (s : State) (l : Nat) (ok : Bool) : State :=
  let h := (ok :: (lan s l).hdrs).take 64
  let s := updLan s l fun x => { x with hdrs := h }
  if s.flag R.LAN_STATUS_LOCK l ∧ 16 ≤ (h.filter (!·)).length then lanFire (lanHunt (s.set R.LAN_STATUS_LOCK_LOST 1 l) l) l 1 else s

/-- LANE_FRAME_RECEIVE: a line frame of 68 bits is written into the release buffer on this tick (R394 to R396, R398, R405). While RES_EN is 0 the
reserved positions carry bulk frames too (R59, R406). In a loopback the frame is the oldest one sent, whatever the operand (R417). -/
def execLaneFrameReceive (l : Fin 24) (line : BitVec 68) (s : State) : Host.Outcome State Fault Refusal :=
  let loop := lanLoop s l.val
  let bs := if loop then ((lan s l.val).sent.head?).getD [] else (List.range 68).map fun i => bit line.toNat i
  let s := s.when loop fun s => loopTake s l.val
  let st := lanState s l.val
  .next (if st = 0 ∨ st = 5 ∨ st = 1 ∨ bs = [] then s
    else
      let s := headerSeen s l.val (headerOk bs)
      let fc := (lan s l.val).pfc
      let s := updLan s l.val fun x => { x with pfc := x.pfc.map fun c => (c + 1) % 2 ^ 32 }
      let up := lanState s l.val == 4
      let expect := match fc with
        | some c => up && (lanExpect s l.val (lanX (lan s l.val) c)).isSome
        | none => false
      let s := match fc with
        | some c => s.when up fun s => rxSumOpen s l.val c
        | none => s
      match readLine bs, fc with
      | none, some c =>
        let s := s.inc R.LAN_HDR_ERR_CNT_COUNT l.val
        if expect then resReceive s l.val c none else s
      | none, none => s.inc R.LAN_HDR_ERR_CNT_COUNT l.val
      | some (true, p), some c =>
        if isTrain true p && trainShape p then
          let s := s.when expect fun s => resReceive s l.val c none
          trainReceive s l.val p
        else if up then
          let s := s.when expect fun s => resReceive s l.val c none
          ctlReceive s l.val c (scramble p c) (expect && s.flag R.LAN_STATUS_RES_EN l.val)
        else if 8 ≤ bits (scramble p c) 63 56 then s.inc R.LAN_HDR_ERR_CNT_COUNT l.val
        else s
      | some (true, p), none => if isTrain true p && trainShape p then trainReceive s l.val p else s
      | some (false, p), some c =>
        if !up then s
        else if expect && s.flag R.LAN_STATUS_RES_EN l.val then resReceive s l.val c (some (scramble p c))
        else bulkReceive (s.when expect fun s => resReceive s l.val c none) l.val 0 (scramble p c)
      | some (false, _), none => s)

/-! ### Release and publication (R401, R405 to R408, R294) -/

/-- RESERVED_RELEASE: on x + 52 the reserved frame of lane `l` leaves the release buffer; one not there is late, one that is no well-formed
data frame or comes while RES_EN is 0 is lost (R405). Outcomes: 0 received, 1 lost, 2 late. -/
def execReservedRelease (l : Fin 24) (s : State) : Host.Outcome State Fault Refusal :=
  let x := (s.now + 2 ^ 32 - 52) % 2 ^ 32
  .next (if lanState s l.val = 4 ∧ (lanExpect s l.val x).isSome then
    let y := lan s l.val
    let d : Nat × Nat × Nat := match y.rel.find? fun r => r.1 == x with
      | some (_, some p) => if s.flag R.LAN_STATUS_RES_EN l.val then (x, 0, p) else (x, 1, 0)
      | some (_, none) => (x, 1, 0)
      | none => if s.flag R.LAN_STATUS_RES_EN l.val then (x, 2, 0) else (x, 1, 0)
    setLan s l.val { y with rel := y.rel.filter (fun r => r.1 != x), due := (y.due.filter fun p => p.1 != x) ++ [d] }
  else s)

/-- A lost token frame: LANE enters the shot taint of every Chisel that waits on an uncompleted barrier with REMOTE above 0 (R135). -/
def tokenLost (s : State) (l : Nat) : State :=
  forAll (List.range 128) s fun s n =>
    match (chs s n).wait with
    | .bar b _ => if 0 < s.get R.GLB_BAR_REMOTE b ∧ !s.flag R.GLB_BAR_COMPLETE b then addShotTaint s n (taintOf tLANE 8 l) else s
    | _ => s

/-- Tokens of a frame are counted, at most one per lane, barrier and shot (R407). -/
def tokensCount (s : State) (l p : Nat) : State :=
  forAll ((List.range 16).filter fun b => bit p b && !(lan s l).toks.contains b) s fun s b =>
    (updLan s l fun x => { x with toks := b :: x.toks }).inc R.GLB_BAR_TOKENS b

/-- A frame goes on to lane FWD_LANE in the position of this tick (R408). -/
def forward (s : State) (to_ : Nat) (p : Option Nat) : State := updLan s to_ fun x => { x with fwd := some (s.tick, p) }

/-- The frame of receive entry `e` at position `pos` acts with outcome `k` (R294, R399, R405, R407, R408); a default decision word is a
substitution of Table GLB-9, and counted as one. -/
def lanAct (s : State) (l pos e k p : Nat) : State :=
  let s := match k with
    | 1 => lanError (s.inc R.LAN_RES_LOST_CNT_COUNT l) R.LAN_STATUS_RES_LOST l
    | 2 => (s.inc R.LAN_RES_LATE_CNT_COUNT l).set R.LAN_STATUS_RES_LATE 1 l
    | _ => s
  match bits e 30 28 with
  | 0 =>
    let w := 28 + bits e 1 0
    let dflt := sget 0 s.lanDef (l * 4096 + pos)
    match k with
    | 0 => decPublishWord s w p []
    | 1 => decPublishWord (((s.inc R.GLB_HARVEST_LATE_CNT_COUNT).inc R.DEC_LANE_CNT_COUNT).set R.DEC_STATUS_LANE_DEFAULT 1) w dflt (taintOf tLANE 8 l)
    | _ => decPublishWord (((s.inc R.GLB_HARVEST_LATE_CNT_COUNT).inc R.DEC_LATE_CNT_COUNT).set R.DEC_STATUS_LANE_LATE 1) w dflt (taintOf tLATE 6 w)
  | 1 => if k = 0 then tokensCount s l p else tokenLost s l
  | 2 => forward s (bits e 9 5) (if k = 0 then some p else none)
  | _ => s

/-- In a session of revision 1 a position of receive entry `e`, of KIND 1 or 2, holds bulk frames: no token is counted, and FWD_BAD is forwarded
(R399). -/
def lanPlain (s : State) (e : Nat) : State := if bits e 30 28 = 2 then forward s (bits e 9 5) none else s

/-- LANE_PUBLISH: on x + 56 a reserved frame is published or acts; a lane that is not in UP places its entries by its own schedule time, as
for lost frames (R294, R405). -/
def execLanePublish (l : Fin 24) (s : State) : Host.Outcome State Fault Refusal :=
  let len := lanL s l.val
  let x := (s.now + 2 ^ 64 - 56) % 2 ^ 64
  .next (if len = 0 ∨ !mainPowered s then s
    else match lanRxEntry s l.val (x % len) with
      | none => s
      | some e =>
        if lanState s l.val = 4 ∧ !lanCarries s l.val e then lanPlain s e
        else if lanState s l.val = 4 then
          match (lan s l.val).due.find? fun d => d.1 == x % 2 ^ 32 with
          | some d => lanAct (updLan s l.val fun y => { y with due := y.due.filter fun q => q.1 != d.1 }) l.val (x % len) e d.2.1 d.2.2
          | none => lanAct s l.val (x % len) e 1 0
        else lanAct s l.val (x % len) e 1 0)

/-- A shot start: tokens are counted anew (R407). -/
def lanShotStart (s : State) : State := forAll (s.lans.map (·.1)) s fun s l => updLan s l fun x => { x with toks := [] }

/-! ### Bulk (R411 to R415) -/

/-- Torus size in dimension `d`. -/
def torus (s : State) (d : Nat) : Nat :=
  (match d with | 0 => s.get R.LAN_COORD_SX_M1 | 1 => s.get R.LAN_COORD_SY_M1 | _ => s.get R.LAN_COORD_SZ_M1) + 1

/-- The lane a packet leaves on: index DEST mod 4 of its direction, or the next in UP (R412). -/
def outLane (s : State) (dir dest : Nat) : Option Nat :=
  (([0, 1, 2, 3] : List Nat).map fun k => 4 * dir + (dest + k) % 4).find? fun l => lanState s l == 4

/-- Is no lane in UP in the direction a packet to `dest` takes from here? -/
def laneWaits (s : State) (dest : Nat) : Bool :=
  (routeDir (s.get R.LAN_COORD_POS) dest (torus s)).any fun dir => (outLane s dir dest).isNone

/-- Responses that wait to be sent (R413). -/
def responses (s : State) : Nat :=
  s.lans.foldl (fun n p => n + (p.2.bulk.filter fun k => (k.kind == 1 || k.kind == 3) && k.src == s.get R.LAN_COORD_POS).length) 0

/-- Send a packet on its way; `from_` is the dimension it travelled in, none at its source. A packet that changes dimension returns to VC0 and
one that crosses a dateline moves to VC1 (R413). `none` while no lane of its direction is in UP. -/
def routePkt (s : State) (p : Pkt) (from_ : Option Nat) : Option State :=
  let own := s.get R.LAN_COORD_POS
  match routeDir own p.dest (torus s) with
  | none => none
  | some dir => (outLane s dir p.dest).map fun l =>
    let vc := if from_ = some (dir / 2) then p.vc else 0
    let vc := if crossesDateline own dir (torus s) then 1 else vc
    updLan s l fun x => { x with bulk := x.bulk ++ [{ p with vc := vc }] }

/-- Does the position lie in the torus? -/
def inTorus (s : State) (c : Nat) : Bool := ([0, 1, 2] : List Nat).all fun d => decide (coordOf c d < torus s d)

/-- HBM address of descriptor RD (R414). -/
def bqAddr (s : State) : Nat :=
  s.get R.LAN_BQ_BASE_LO_ADDR * 2 ^ 12 + s.get R.LAN_BQ_BASE_HI_ADDR * 2 ^ 32 + s.get R.LAN_BQ_RD_INDEX % 2 ^ min (max (s.get R.LAN_BQ_SIZE_LOG2) 4) 12 * 32

/-- The lane bulk engine completes its descriptor with STATUS `st` (R414). -/
def bqDone (s : State) (st : Nat) : State :=
  let a := bqAddr s + 1
  let s := match hbmGate s .dataPath (instSecure s 624) true 2 a 1 with
    | (true, s) => hbmPut s a (BitVec.ofNat 8 st)
    | (false, s) => s
  { s.set R.LAN_BQ_RD_INDEX (s.get R.LAN_BQ_RD_INDEX + 1) with bqCur := none }

/-- TAG of beat `i` of the descriptor in progress; bit 11 says that an access was refused. -/
def bqTag (s : State) (i : Nat) : Nat := s.get R.LAN_BQ_RD_INDEX % 8 * 256 + i % 256

/-- The 16 words of a beat, and whether the access was granted. -/
def beatRead (s : State) (secure : Bool) (a : Nat) : List Nat × Bool × State :=
  match hbmGate s .dataPath secure false 2 a 128 with
  | (true, s) => ((List.range 16).map fun j => hbmRead s (a + 8 * j) 8, true, s)
  | (false, s) => (List.replicate 16 0, false, s)

/-- A beat is written; whether the access was granted. -/
def beatWrite (s : State) (secure : Bool) (a : Nat) (d : List Nat) : Bool × State :=
  match hbmGate s .dataPath secure true 2 a 128 with
  | (true, s) => (true, hbmWriteSlots s a d)
  | (false, s) => (false, s)

/-- An answer for the descriptor in progress (R414). -/
def bqAnswer (s : State) (p : Pkt) : State :=
  match s.bqCur with
  | none => s
  | some c =>
    if p.tag / 256 % 8 ≠ s.get R.LAN_BQ_RD_INDEX % 8 then s
    else if bit p.tag 11 then bqDone s 3
    else
      let (ok, s) := if p.kind = 3 then beatWrite s (instSecure s 624) (c.local_ + (p.addr - c.remote)) p.data else (true, s)
      if !ok then bqDone s 3
      else if c.answered + 1 = c.beats then bqDone s 1 else { s with bqCur := some { c with answered := c.answered + 1 } }

/-- A request executes at its destination, as master 0x30 with the world of lane `l`, and is answered; a full response queue discards it
(R413, R414). -/
def bulkServe (s : State) (l : Nat) (p : Pkt) : State :=
  if 256 ≤ responses s then s.inc R.LAN_BULK_CRC_CNT_COUNT l
  else
    let own := s.get R.LAN_COORD_POS
    let (ans, s) : Pkt × State :=
      if p.kind = 0 then
        let (ok, s) := beatWrite s (instSecure s (624 + l)) p.addr p.data
        (⟨0, 1, p.src, p.addr, [], own, if ok then p.tag % 2048 else p.tag % 2048 + 2048⟩, s)
      else
        let (d, ok, s) := beatRead s (instSecure s (624 + l)) p.addr
        (⟨0, 3, p.src, p.addr, d, own, if ok then p.tag % 2048 else p.tag % 2048 + 2048⟩, s)
    (routePkt s ans none).getD s

/-- The frames of a packet that left its buffer are owed to the partner (R413). -/
def oweFrames (s : State) (l vc k : Nat) : State :=
  updLan s l fun x => { x with owe0 := if vc = 0 then x.owe0 + k else x.owe0, owe1 := if vc = 0 then x.owe1 else x.owe1 + k
                               oweAt := if x.owe0 + x.owe1 = 0 then s.tick else x.oweAt }

/-- BULK_PACKET_RECEIVE: the oldest packet assembled by lane `l` is checked, and routed on or executed (R411 to R414). One that has to go on, or be
answered, in a direction with no lane in UP waits (DESIGN CHOICE, log 46). -/
def execBulkPacketReceive (l : Fin 24) (s : State) : Host.Outcome State Fault Refusal :=
  let x := lan s l.val
  .next (if s.xtalFail then s else match x.pkts with
    | [] => s
    | (h, d, t) :: rest =>
      let t0 := setLan s l.val { x with pkts := rest }
      let t1 := oweFrames t0 l.val (bits h 55 55) (d.length + 2)
      match readPkt h d t with
      | none => bulkBad t1 l.val
      | some p =>
        if (routeDir (s.get R.LAN_COORD_POS) p.dest (torus s)).isSome then (routePkt t1 p (some (l.val / 8))).getD s
        else if p.kind = 0 ∨ p.kind = 2 then (if responses s < 256 ∧ laneWaits s p.src then s else bulkServe t1 l.val p)
        else bqAnswer t1 p)

/-- CREDIT_RETURN: 16 frames are owed on a VC, or 256 ticks have passed since the oldest (R413). -/
def execCreditReturn (l : Fin 24) (s : State) : Host.Outcome State Fault Refusal :=
  let x := lan s l.val
  .next (if lanState s l.val = 4 ∧ (16 ≤ x.owe0 ∨ 16 ≤ x.owe1 ∨ (0 < x.owe0 + x.owe1 ∧ x.oweAt + 256 ≤ s.tick)) then
    setLan s l.val { x with ctl := x.ctl ++ [(false, ctlFrame 4 (min x.owe0 255 * 2 ^ 48 + min x.owe1 255 * 2 ^ 40))], owe0 := x.owe0 - min x.owe0 255
                            owe1 := x.owe1 - min x.owe1 255, oweAt := s.tick }
  else s)

/-- One beat of the descriptor in progress goes out; its local read may be refused. -/
def bqBeat (c : BqCur) (s : State) (i : Nat) : State :=
  if s.bqCur.isNone then s else
  let own := s.get R.LAN_COORD_POS
  if c.op = 1 then
    match beatRead s (instSecure s 624) (c.local_ + 128 * i) with
    | (d, true, s) => (routePkt s ⟨0, 0, c.dest, c.remote + 128 * i, d, own, bqTag s i⟩ none).getD s
    | (_, false, s) => bqDone s 3
  else (routePkt s ⟨0, 2, c.dest, c.remote + 128 * i, [], own, bqTag s i⟩ none).getD s

/-- BULK_DESCRIPTOR: the lane bulk engine takes the next descriptor of its ring and sends its packets (R414). One whose requests find no lane in UP
waits (DESIGN CHOICE, log 46). -/
def execBulkDescriptor (s : State) : Host.Outcome State Fault Refusal :=
  .next (if s.xtalFail then s else if !s.flag R.LAN_BQ_SIZE_ENABLE ∨ s.get R.LAN_BQ_RD_INDEX = s.get R.LAN_BQ_WR_INDEX ∨ s.bqCur.isSome ∨ !mainPowered s then s
    else
      let (v, t) := dataRead s (instSecure s 624) (bqAddr s) 32
      let c : BqCur := ⟨bits v 7 0, bits v 31 16, bits v 63 32, bits v 127 64, bits v 191 128, 0, s.clock⟩
      if c.op ≠ 1 ∧ c.op ≠ 2 then bqDone t 4
      else if c.dest = s.get R.LAN_COORD_POS ∨ !inTorus s c.dest then bqDone t 4
      else if hbmSize < c.local_ + 128 * c.beats then bqDone t 3
      else if c.beats = 0 then bqDone t 1
      else if laneWaits s c.dest then s
      else forAll (List.range c.beats) { t with bqCur := some c } (bqBeat c))

/-- Requests of this module that still wait to be sent. -/
def bqUnsent (s : State) : Bool :=
  s.lans.any fun p => p.2.bulk.any fun k => (k.kind == 0 || k.kind == 2) && k.src == s.get R.LAN_COORD_POS

/-- BULK_TIMEOUT: an answer is missing LAN_BQ_TIMEOUT µs after the last request was sent (R414). -/
def execBulkTimeout (s : State) : Host.Outcome State Fault Refusal :=
  .next (if s.xtalFail then s else match s.bqCur with
    | none => s
    | some c => if !bqUnsent s && decide (c.sentAt + 400 * max (s.get R.LAN_BQ_TIMEOUT_MICROSECONDS) 10 ≤ s.clock) then bqDone s 2 else s)

/-- The base or the size of the bulk ring was written: dropped while ENABLE is 1. -/
def bqCfgWritten (before s : State) : State :=
  if before.flag R.LAN_BQ_SIZE_ENABLE then
    forAll [R.LAN_BQ_BASE_LO_ADDR, R.LAN_BQ_BASE_HI_ADDR, R.LAN_BQ_SIZE_ENABLE, R.LAN_BQ_SIZE_LOG2] s fun s f => s.set f (before.get f)
  else s

/-! ### PRBS31 (R417) -/

/-- One received bit: load 31, then compare, drop sync on 64 errors in 256 bits. -/
def prbsBit (l : Nat) (s : State) (b : Bool) : State :=
  let x := lan s l
  if s.flag R.LAN_STATUS_PRBS_SYNC l then
    let e := prbsNext x.prbs
    let err := b != e
    let w := (err :: x.prbsErr).take 256
    let s := s.when err fun s => s.inc R.LAN_PRBS_ERR_CNT_COUNT l
    let n := (x.prbsBits + 1) % 2 ^ 64
    let s := s.set R.LAN_PRBS_BITS_LO_BITS_LO n l
    if 64 ≤ (w.filter (·)).length then setLan (s.set R.LAN_STATUS_PRBS_SYNC 0 l) l { x with prbs := [], prbsErr := [], prbsBits := n }
    else setLan s l { x with prbs := (e :: x.prbs).take 31, prbsErr := w, prbsBits := n }
  else
    let p := b :: x.prbs
    let s := setLan s l { x with prbs := p, prbsErr := [] }
    if 31 ≤ p.length then s.set R.LAN_STATUS_PRBS_SYNC 1 l else s

/-- PRBS_CHECKER: received bits in TEST (R417). -/
def execPrbsChecker (l : Fin 24) (rx : List Bool) (s : State) : Host.Outcome State Fault Refusal :=
  .next (if lanState s l.val = 5 then forAll rx s (prbsBit l.val) else s)

/-- LAN_PRBS_ERR_CNT was written: the bits compared start again. -/
def prbsWritten (s : State) (l : Nat) : State :=
  (updLan (s.set R.LAN_PRBS_BITS_LO_BITS_LO 0 l) l fun x => { x with prbsBits := 0 }).set R.LAN_PRBS_BITS_HI_BITS_HI 0 l

/-- A read of LAN_PRBS_BITS_LO latches HI. -/
def prbsLatch (s : State) (l : Nat) : State := s.set R.LAN_PRBS_BITS_HI_BITS_HI ((lan s l).prbsBits / 2 ^ 32) l

end Sys2Proof.Machine
end

