-- ==== Sys2Proof/Machine/PointingRun.lean ====
section
/-! DEFINITION. What a Pointing run holds and how it ends (16_pointing_calibration_and_monitoring.md Table PNT-1, R420, R423, R430, R432,
R433). Measured values come from outside: the command that ends a measurement carries them (log 15). -/

namespace Sys2Proof.Machine

/-! ### Table PNT-1 -/

/-- Instances of an item. -/
def pntInstances (item : Nat) : Nat := [0, 256, 256, 256, 64, 64, 64, 24, 1].getD item 0

/-- Gap CLASS of an item. -/
def pntClass (item : Nat) : Nat := [0, 0, 0, 1, 2, 2, 2, 3, 4].getD item 0

/-- SUB values of an item. -/
def pntSubs (item : Nat) : Nat := [0, 1, 1, 65, 1, 8, 16, 1, 1].getD item 0

/-- Delta range of an item. -/
def pntLo (item : Nat) : Int := [0, -512, -63, -2047, -63, -64, -2047, -64, -256].getD item 0

/-- Delta range of an item. -/
def pntHi (item : Nat) : Int := [0, 511, 63, 2047, 63, 63, 2047, 63, 255].getD item 0

/-- TOL, in 1/16 step. -/
def pntTol (item : Nat) : Nat := [0, 16, 8, 24, 8, 16, 32, 32, 16].getD item 0

/-- Ticks per measurement; per point for BIAS_TRIM. -/
def pntTicks (item : Nat) : Nat := [0, 3200, 1600, 4000, 1600, 8000, 8000, 40000, 1200].getD item 0

/-- Overhead per occurrence. -/
def pntOverhead (item : Nat) : Nat := [0, 924, 924, 16000, 400, 400, 400, 200, 0].getD item 0

/-- Is the item committed in steps? -/
def pntStepped (item : Nat) : Bool := item != 3 && item != 6 && item != 8

/-- The part of the overhead before the first measurement: 824 for an item of a line, as the example of the chapter has it; the manual does
not divide the overhead of the other items, and all of it is taken as the tail (log 22). -/
def pntLead (item : Nat) : Nat := if item ≤ 2 then 824 else 0

/-- The tail of the overhead. -/
def pntTail (item : Nat) : Nat := pntOverhead item - pntLead item

/-- Items whose measurement time the monitor ADC takes whole (log 22). -/
def pntAdc (item : Nat) : Bool := item == 1 || item == 2 || item == 4

/-- The zone an instance of an item stands in: that selected, for items 5 and 6. -/
def pntZone (s : State) (item n : Nat) : Nat := if item = 5 ∨ item = 6 then (if s.get R.INP_CFG_ZONE n = 3 then 0 else s.get R.INP_CFG_ZONE n) else 0

/-- Where the user delta of a SUB is kept. -/
def pntKey (item zone sub n : Nat) : Nat := ((item * 4 + zone) * 128 + sub) * 4096 + n

/-- The user delta. -/
def pntDelta (s : State) (item zone sub n : Nat) : Int := sgn 16 (sget 0 s.pnt.delta (pntKey item zone sub n))

/-- Write a user delta. -/
def setPntDelta (s : State) (item zone sub n : Nat) (d : Int) : State :=
  { s with pnt := { s.pnt with delta := sset 0 s.pnt.delta (pntKey item zone sub n) (wrapI d 16) } }

/-- The register field, and its instance, that an item's applied value stands in. -/
def pntField (item sub n : Nat) : Option (Fld × Nat) :=
  match item with
  | 1 => some (R.LIN_FSC_CODE, n)
  | 5 => some (R.INP_SLC_SKEW_TAPS, 8 * n + sub)
  | 6 => some (if sub < 8 then (R.INP_SLC_OFF_BASE, 8 * n + sub) else (R.INP_SLC_GAIN_BASE, 8 * n + sub - 8))
  | 7 => some (R.LAN_RX_TAP_TAP, n)
  | 8 => some (R.CLK_SYNC_PATH_TAPS, 0)
  | _ => none

/-- Is the applied value a signed field? -/
def pntSigned (item sub : Nat) : Bool := item == 6 && decide (sub < 8)

/-- The factory value (R420): that of the register where one shows it, its reset value where the register holds the applied value, else 0
(log 3). -/
def pntFactory (s : State) (item sub n : Nat) : Int :=
  match item with
  | 1 => s.get R.LIN_FSC_FACTORY n
  | 7 => s.get R.LAN_RX_TAP_FACTORY n
  | _ => match pntField item sub n with
    | some (f, i) => if pntSigned item sub then sgn 16 (fldReset f i) else fldReset f i
    | none => 0

/-- The applied value. -/
def pntApplied (s : State) (item sub n : Nat) : Int :=
  match pntField item sub n with
  | some (f, i) => if pntSigned item sub then sgn 16 (s.get f i) else s.get f i
  | none => sgn 16 (sget 0 s.pnt.trim (pntKey item 0 sub n))

/-- Write an applied value. -/
def setPntApplied (s : State) (item sub n : Nat) (v : Int) : State :=
  match pntField item sub n with
  | some (f, i) => s.set f (wrapI v f.width) i
  | none => { s with pnt := { s.pnt with trim := sset 0 s.pnt.trim (pntKey item 0 sub n) (wrapI v 16) } }

/-- The range of the register that receives an item. -/
def pntRange (item sub : Nat) : Int × Int :=
  match pntField item sub 0 with
  | some (f, _) => if pntSigned item sub then (-(2 ^ 15 : Nat), (2 ^ 15 : Nat) - 1) else (0, (2 ^ f.width : Nat) - 1)
  | none => (-(2 ^ 15 : Nat), (2 ^ 15 : Nat) - 1)

/-- The applied value a delta asks for, clamped, and whether it was (R420). -/
def pntTarget (s : State) (item sub n : Nat) (d : Int) : Int × Bool :=
  let v := pntFactory s item sub n + d
  let r := pntRange item sub
  (max r.1 (min r.2 v), decide (v < r.1 ∨ r.2 < v))

/-- The applied value of every SUB of an instance follows its delta at once. -/
def pntApply (s : State) (item n : Nat) : State :=
  forAll (List.range (pntSubs item)) s fun s sub =>
    let t := pntTarget s item sub n (pntDelta s item (pntZone s item n) sub n)
    (setPntApplied s item sub n t.1).when t.2 fun s => s.set R.PNT_STATUS_CLAMPED 1

/-- A log entry (R430). -/
def pntLog (s : State) (measure : Bool) (item zone sub n : Nat) (new old : Int) : State :=
  let e := s.get R.PNT_LOG_FILL_NEXT
  let s := (s.set R.PNT_LOG_TLO_WORD s.now e).set R.PNT_LOG_THI_WORD (s.now / 2 ^ 32) e
  let s := s.set R.PNT_LOG_ID_WORD (b2n measure * 2 ^ 31 + sub % 128 * 2 ^ 24 + item % 16 * 2 ^ 20 + zone % 4 * 2 ^ 18 + n % 4096) e
  let s := s.set R.PNT_LOG_VAL_WORD (wrapI new 16 * 2 ^ 16 + wrapI old 16) e
  (s.set R.PNT_LOG_FILL_NEXT (e + 1)).set R.PNT_LOG_FILL_ENTRIES (min (s.get R.PNT_LOG_FILL_ENTRIES + 1) 64)

/-! ### The run -/

/-- Change the run. -/
def updPnt (s : State) (f : Pnt → Pnt) : State := { s with pnt := { s.pnt with run := s.pnt.run.map f } }

/-- Change the instance `n` of the run. -/
def updInst (s : State) (n : Nat) (f : PInst → PInst) : State :=
  updPnt s fun p => { p with insts := p.insts.map fun i => if i.n = n then f i else i }

/-- The resource of an instance is switched for a trial (R423). -/
def pntSwitch (s : State) (item n : Nat) : State :=
  let s := updInst s n fun i => { i with act := true }
  if item ≤ 2 then
    if s.flag R.LIN_STATUS_LIVE n then setLine (s.set R.LIN_STATUS_LIVE 0 n) n { line s n with live := false, muteFrom := s.tick } else s
  else if item = 3 then setBias s n { bias s n with closed := false }
  else if item = 8 then { s with pnt := { s.pnt with syncOff := (s.tick + 1, 0), syncHit := false } }
  else s

/-- May Pointing switch the SYNC receiver on this tick, and again `n` ticks on: at least 400 ticks from an expected SYNC tick (R113)? -/
def syncClear (s : State) (n : Nat) : Bool :=
  let p := s.now % syncPeriod s
  decide (400 ≤ p ∧ p + n + 400 ≤ syncPeriod s)

/-- The action on instance `n` is over. -/
def pntFree (s : State) (n : Nat) : State := updInst s n fun i => { i with act := false }

/-- The SYNC receiver returns to SYNC_IN, on this tick or on the first after it that R113 allows. -/
def syncReturn (s : State) : State :=
  if syncClear s 0 then
    let s := pntFree s 0
    { s with pnt := { s.pnt with syncOff := (s.pnt.syncOff.1, s.tick + 1), syncDue := false } }
  else { s with pnt := { s.pnt with syncDue := true } }

/-- The series switches of bias output `n` close again. -/
def biasReclose (s : State) (n : Nat) : State :=
  let s := pntFree { s with pnt := { s.pnt with closing := sset 0 s.pnt.closing n 0 } } n
  setBias s n { bias s n with closed := s.get R.BIA_STATUS_STATE n != 0 }

/-- The trial state is undone: a line returns with 36 ticks of zero output when no mute cause is active; a bias output's switches close once its DAC
has settled for 20 µs, or at once where a park cause takes it; the receiver returns (R423, R424, R194). -/
def pntReturn (s : State) (item n : Nat) : State :=
  if s.pnt.run.any fun p => p.insts.any fun i => i.n == n && i.act then
    if item ≤ 2 then
      let s := pntFree s n
      if s.get R.LIN_STATUS_MUTE_CAUSE n = 0 ∧ !s.flag R.LIN_STATUS_LIVE n then
        setLine (s.set R.LIN_STATUS_LIVE 1 n) n { line s n with live := true, passFrom := s.tick + 36 }
      else s
    else if item = 3 then
      if s.get R.BIA_STATUS_CAUSE n ≠ 0 then biasReclose s n
      else if sget 0 s.pnt.closing n ≠ 0 then s
      else { s with pnt := { s.pnt with closing := sset 0 s.pnt.closing n (s.clock + 8001) } }
    else if item = 8 then syncReturn s
    else pntFree s n
  else s

/-- PNT_STATUS.STATE while a run is in progress. -/
def pntShow (s : State) : State :=
  match s.pnt.run with
  | none => s.set R.PNT_STATUS_STATE 0
  | some p => s.set R.PNT_STATUS_STATE (if p.insts.any (·.stage == 3) then 3 else if p.insts.any (·.stage == 1) then 2 else 1)

/-- An instance fails (R425, R432): counted, and the lowest failed instance is kept. -/
def pntFail (s : State) (item n reason : Nat) : State :=
  let s := pntReturn s item n
  let s := updInst s n fun i => { i with stage := 5 }
  let s := s.inc R.PNT_COUNT_FAILED
  if !s.flag R.PNT_FAIL_VALID ∨ n < s.get R.PNT_FAIL_INSTANCE then
    ((s.set R.PNT_FAIL_VALID 1).set R.PNT_FAIL_REASON reason).set R.PNT_FAIL_INSTANCE n
  else s

/-- The run ends with `code`: PNT_DONE fires, and a host command completes with the words of Table PNT-2 (R432, R433). -/
def pntEnd (s : State) (code : Nat) : State :=
  let host := s.pnt.run.any (·.host)
  let s : State := { s with pnt := { s.pnt with run := none } }
  let s := globalEvent ((s.set R.PNT_STATUS_CODE code).set R.PNT_STATUS_STATE 0) 17
  if host then
    hostDoneB s (if code = 0 then 0 else 9) [code + s.get R.PNT_COUNT_ACCEPTED * 2 ^ 8 + s.get R.PNT_COUNT_FAILED * 2 ^ 20,
      s.get R.PNT_FAIL_INSTANCE + s.get R.PNT_FAIL_REASON * 2 ^ 12]
  else s

/-- The run ends when nothing of it is left to do, or nothing is in action after its end was decided. -/
def pntSettle (s : State) : State :=
  match s.pnt.run with
  | none => s
  | some p =>
    match p.endCode with
    | some c => if p.insts.any (·.act) then pntShow s else pntEnd s c
    | none =>
      if p.insts.all fun i => decide (4 ≤ i.stage) && !i.act then
        pntEnd s (if p.timed then 0x31 else if p.insts.any (·.stage == 5) then 0x30 else 0)
      else pntShow s

/-- The start of a tick: what was to be restored by now is (R113, R423). -/
def pntRestores (s : State) : State :=
  let due := s.pnt.closing.filter fun p => decide (p.2 ≤ s.clock + 1)
  if due = [] ∧ !s.pnt.syncDue then s
  else
    let t := forAll due s fun s p => biasReclose s p.1
    pntSettle (if t.pnt.syncDue then syncReturn t else t)

/-- Measurements in progress are discarded and their resources returned (R424, R433); commits run to their end. -/
def pntDiscard (s : State) : State :=
  match s.pnt.run with
  | none => s
  | some p => forAll (p.insts.filter (·.stage == 1)) s fun s i => updInst (pntReturn s p.item i.n) i.n fun i => { i with stage := 0, conv := 0 }

/-- The run is aborted (R433). -/
def pntAbort (s : State) : State :=
  if s.pnt.run.isSome then pntSettle (pntDiscard (updPnt s fun p => { p with endCode := some 0x35 })) else s

end Sys2Proof.Machine
end

