-- ==== Sys2Proof/Machine/Monitor.lean ====
section
/-! DEFINITION. The monitor ADC (16_pointing_calibration_and_monitoring.md R436 to R441). The value of a conversion comes from outside: the
command that ends it carries it (log 15). -/

namespace Sys2Proof.Machine

/-- Change the monitor ADC. -/
def updMon (s : State) (f : Mon → Mon) : State := { s with mon := f s.mon }

/-- Does channel `c` give a result: it exists, and the die it stands on is powered (R436, Table MON-1)? -/
def monValid (s : State) (c : Nat) : Bool :=
  if c ≤ 8 ∨ c = 37 ∨ c = 38 then true else if c < 39 ∨ (64 ≤ c ∧ c < 576) then railsGood s else false

/-- Conversions of an entry with AVG_LOG2 `a` (R437). -/
def monCount (a : Nat) : Nat := 2 ^ min a 8

/-- The Pointing conversion that waits: the lowest instance whose measurement needs one, or the reading of channel 37 that a run begins with
(R418, R432). -/
def pntWants (s : State) : Option (Nat × Nat) :=
  match s.pnt.run with
  | none => none
  | some p =>
    if !p.refOk then some (0, 37)
    else ((p.insts.filter fun i => i.stage == 1 && i.conv != 0 && decide (i.t0 ≤ s.clock)).map (·.n)).min?.map fun n => (n, 38)

/-- A conversion starts; it takes 500 ns (R437). -/
def monBegin (s : State) (user idx chan : Nat) : State :=
  let s := updMon s fun m => { m with cur := some ⟨user, idx, chan, s.clock + 200⟩ }
  (s.set R.MON_STATUS_BUSY 1).set R.MON_STATUS_USER user

/-- The lowest injected entry at work. -/
def monInjNext (s : State) : Option MonJob := (List.range 8).findSome? fun j => s.mon.inj.find? fun x => x.idx == j

/-- The first conversion of an injected entry of SRC 1 starts: PENDING of its task input clears (R343). -/
def monTaken (s : State) (j : Nat) : State :=
  s.when (s.get R.MON_INJ_CTRL_SRC j == 1) fun s => s.set R.EVF_TASKST_PENDING 0 (896 + j)

/-- The converter is assigned: injected entries, Pointing, the sequence (R440). LATE is taken at the first conversion of an injected entry
(R439). -/
def monAssign (s : State) : State :=
  if s.mon.cur.isSome then s
  else match monInjNext s with
    | some x =>
      let s := s.when (x.n == 0) fun s =>
        (monTaken s x.idx).set R.MON_INJ_RES_LATE (min (s.clock - x.start) 4095) x.idx
      monBegin s 2 x.idx (s.get R.MON_INJ_CTRL_CHANNEL x.idx)
    | none =>
      match pntWants s with
      | some (n, c) => monBegin s 3 n c
      | none =>
        match s.mon.seq with
        | some x => monBegin s 1 x.idx (s.get R.MON_ENT_CHANNEL x.idx)
        | none => (s.set R.MON_STATUS_BUSY 0).set R.MON_STATUS_USER 0

/-- A pass starts, or merges into the one that runs (R438). -/
def monPass (s : State) : State :=
  if s.mon.seq.isSome then s.set R.MON_STATUS_SEQ_OVERRUN 1
  else monAssign (updMon s fun m => { m with seq := some ⟨0, s.clock, 0, 0⟩ })

/-- The pass period in 2.5 ns (R438). -/
def monPeriod (s : State) : Nat := 400 * max (s.get R.MON_SEQ_CTRL_PERIOD) 1

/-- MON_SEQ_CTRL was written with ENABLE 1: a pass starts, and with ONCE 0 one follows every PERIOD microseconds (R438). -/
def monSeqWritten (s : State) : State :=
  if s.flag R.MON_SEQ_CTRL_ENABLE then
    let s := updMon s fun m => { m with nextPass := if s.flag R.MON_SEQ_CTRL_ONCE then 0 else s.clock + monPeriod s + 1 }
    monPass s
  else updMon s fun m => { m with nextPass := 0 }

/-- MON_PASS_START: PERIOD microseconds after the last start, the next pass starts (R438). -/
def execMonPassStart (s : State) : Host.Outcome State Fault Refusal :=
  .next (if s.xtalFail then s else if s.mon.nextPass ≠ 0 ∧ s.mon.nextPass ≤ s.clock + 1 then
    monPass (updMon s fun m => { m with nextPass := m.nextPass + monPeriod s })
  else s)

/-- Injected entry `j` starts, or merges (R439). -/
def monInject (s : State) (j : Nat) : State :=
  if s.mon.inj.any fun x => x.idx == j then (s.set R.MON_INJ_RES_OVERRUN 1 j).set R.MON_STATUS_INJ_OVERRUN 1
  else monAssign (updMon s fun m => { m with inj := m.inj ++ [⟨j, s.clock, 0, 0⟩] })

/-- A PLAY that entry `j` waits for has started DELAY ticks ago (R439). -/
def monPlayDue (s : State) (j : Nat) : Bool :=
  s.playSeen.any fun p => p.1 == s.get R.MON_INJ_PULSE_CHISEL j && p.2.1 == s.get R.MON_INJ_PULSE_PC j && p.2.2 + s.get R.MON_INJ_DELAY_DELAY j == s.tick

/-- MON_INJECT_START: injected entry `j` starts on an activation of its task input (SRC 1; a later one merges when it arrives, R343), or DELAY ticks after its PLAY (SRC 2). -/
def execMonInjectStart (j : Fin 8) (s : State) : Host.Outcome State Fault Refusal :=
  let t := 896 + j.val
  .next (if s.xtalFail then s else if s.get R.MON_INJ_CTRL_SRC j.val = 1 ∧ s.flag R.EVF_TASKST_PENDING t then
      (if s.mon.inj.any fun x => x.idx == j.val then s else monInject s j.val)
    else if s.get R.MON_INJ_CTRL_SRC j.val = 2 ∧ monPlayDue s j.val then monInject s j.val
    else s)

/-- The result of sequence entry `k` (R437, R441). -/
def monResult (s : State) (k : Nat) (valid : Bool) (v : Int) : State :=
  let s := (s.set R.MON_RES_VALID (b2n valid) k).set R.MON_RES_VALUE (wrapI v 16) k
  let s := s.set R.MON_RES_PASS (s.get R.MON_STATUS_PASSES) k
  let out := s.flag R.MON_ENT_LIMIT_EN k && decide (v < sgn 16 (s.get R.MON_LIM_LO k) ∨ sgn 16 (s.get R.MON_LIM_HI k) < v)
  if out ∧ !s.flag R.MON_RES_OUT k then globalEvent (s.set R.MON_RES_OUT 1 k) 19 else s

/-- The pass goes on to the next entry, or ends (R438). -/
def monNext (s : State) (k : Nat) : State :=
  if k < s.get R.MON_SEQ_CTRL_LAST then updMon s fun m => { m with seq := some ⟨k + 1, s.clock, 0, 0⟩ }
  else
    let s := updMon s fun m => { m with seq := none }
    globalEvent (s.set R.MON_STATUS_PASSES (s.get R.MON_STATUS_PASSES + 1)) 18

/-- A conversion for Pointing is done: channel 37, which must read 1,990 to 2,010 Ω (R418), or one of a measurement. -/
def monPointing (s : State) (n : Nat) (v : Int) : State :=
  match s.pnt.run with
  | none => s
  | some p =>
    let p' := if !p.refOk then
        { p with refOk := true, endCode := if v < 1990 * 16 ∨ 2010 * 16 < v then some 0x36 else p.endCode }
      else { p with insts := p.insts.map fun i => if i.n = n then { i with conv := i.conv - 1 } else i }
    pntSettle { s with pnt := { s.pnt with run := some p' } }

/-- A conversion of value `v` enters the average of its entry; a full one gives its result (R437). -/
def monTake (s : State) (c : MonConv) (v : Int) : State :=
  let valid := monValid s c.chan
  match c.user with
  | 1 =>
    match s.mon.seq with
    | none => s
    | some x =>
      let a := s.get R.MON_ENT_AVG_LOG2 x.idx
      if x.n + 1 < monCount a then updMon s fun m => { m with seq := some { x with n := x.n + 1, sum := x.sum + v } }
      else monNext (monResult s x.idx valid (narrow (x.sum + v) (min a 8) 16).1) x.idx
  | 2 =>
    match s.mon.inj.find? fun x => x.idx == c.idx with
    | none => s
    | some x =>
      let a := s.get R.MON_INJ_CTRL_AVG_LOG2 c.idx
      if x.n + 1 < monCount a then
        updMon s fun m => { m with inj := m.inj.map fun y => if y.idx = c.idx then { y with n := y.n + 1, sum := y.sum + v } else y }
      else
        let s := updMon s fun m => { m with inj := m.inj.filter fun y => y.idx != c.idx }
        (s.set R.MON_INJ_RES_VALID (b2n valid) c.idx).set R.MON_INJ_RES_VALUE (wrapI (narrow (x.sum + v) (min a 8) 16).1 16) c.idx
  | _ => monPointing s c.idx v

/-- MON_CONVERSION_DONE: the conversion in progress ends with `value`, and the converter is assigned again (R437, R440). A reserved channel
converts as 0 (Table MON-1). -/
def execMonConversionDone (value : BitVec 16) (s : State) : Host.Outcome State Fault Refusal :=
  .next (if s.xtalFail then s else match s.mon.cur with
    | none => s
    | some c =>
      if s.clock < c.due then s
      else
        let v : Int := if (38 < c.chan ∧ c.chan < 64) ∨ 576 ≤ c.chan then 0 else value.toInt
        monAssign (monTake (updMon s fun m => { m with cur := none }) c v))

end Sys2Proof.Machine
end

