-- ==== Sys2Proof/Machine/Pointing.lean ====
section
/-! DEFINITION. Pointing runs: occurrences, measurements, acceptance, commits (16_pointing_calibration_and_monitoring.md R421 to R433). -/

namespace Sys2Proof.Machine

/-- Instance `n` of the run. -/
def pntInst (s : State) (n : Nat) : Option PInst := s.pnt.run.bind fun p => p.insts.find? fun i => i.n == n

/-- The gap records that cover an instance of an item. -/
def pntGaps (s : State) (item n : Nat) : List Gap :=
  s.gaps.filter fun g => g.cls == pntClass item && decide (g.first ≤ n ∧ n < g.first + g.count)

/-- The ticks left of the occurrence an instance is in, this tick included (R421); HOLD is one occurrence without end, until RUN is requested. -/
def occLeft (s : State) (item n : Nat) : Option Nat :=
  if inHold s then (if s.pwr.req = 2 then none else some (2 ^ 64))
  else if inRun s then
    (inGap s (pntClass item) n).bind fun k => (s.gaps[k]?).map fun g => g.start + g.length - shotTick s
  else none

/-- No sample of any segment of line `n` remains to reach its connector (R422). -/
def lineIdle (s : State) (n : Nat) : Bool :=
  (line s n).ws == [] && (line s n).out == [] &&
    (List.range 4).all fun k => (slot s (4 * n + k)).segs == [] && decide ((slot s (4 * n + k)).busyTo + 36 ≤ s.tick) && s.get R.SEG_SLOT_MODE (4 * n + k) != 2

/-- No window is open on input `n` (R422). -/
def inputIdle (s : State) (n : Nat) : Bool :=
  (List.range 16).all fun k => (wins s (16 * n + k)).all fun w => !decide (w.o ≤ s.tick ∧ s.tick ≤ winEnd w)

/-- Is this the first tick of an occurrence of the instance? -/
def occFirst (s : State) (item n : Nat) : Bool := (inGap s (pntClass item) n).any fun k => (s.gaps[k]?).any fun g => shotTick s == g.start

/-- Pointing may start on the instance on this tick (R113, R422, R429). -/
def pntIdle (s : State) (item n : Nat) : Bool :=
  if item ≤ 2 then lineIdle s n
  else if item = 3 then decide (s.now % 400 = 0) && s.get R.BIA_CODE_CODE n == s.get R.BIA_TARGET_CODE n
  else if item ≤ 6 then inputIdle s n
  else if item = 7 then
    lanState s n == 4 && (inHold s || !revAtLeast s n 2 1 || occFirst s item n)
  else !s.pnt.syncDue && syncClear s (pntTicks item)

/-- The causes that interrupt a measurement, as they stand (R424). -/
def pntCauses (s : State) (item n : Nat) : Nat :=
  if item ≤ 2 then s.get R.LIN_STATUS_MUTE_CAUSE n else if item = 3 then s.get R.BIA_STATUS_CAUSE n
  else if item = 7 then b2n (lanState s n != 4) else if item = 8 then b2n s.pnt.syncHit else 0

/-- Has a cause started since the measurement did? -/
def pntInterrupted (s : State) (item : Nat) (i : PInst) : Bool :=
  (List.range 8).any fun k => bit (pntCauses s item i.n) k && !bit i.snap k

/-- A measurement of the instance begins; `lead` is what comes before it. -/
def pntMeasure (s : State) (item n lead : Nat) : State :=
  let c := pntCauses s item n
  let s := updInst s n fun i => { i with stage := 1, t0 := s.clock + lead, conv := if pntAdc item then pntTicks item / 200 else 0, snap := c }
  pntShow (monAssign s)

/-- Time until the measurement, or the present point of it, can be complete. -/
def pntLeft (s : State) (item : Nat) (i : PInst) : Nat :=
  if pntAdc item then i.conv * 200 + (i.t0 - s.clock)
  else if item = 3 then pntTicks item - (s.clock - i.t0) % pntTicks item
  else i.t0 + pntTicks item - s.clock

/-- Is the measurement complete? -/
def pntMeasured (s : State) (item : Nat) (i : PInst) : Bool :=
  if pntAdc item then i.conv == 0 && decide (i.t0 ≤ s.clock)
  else if item = 3 then decide (65 ≤ i.pts + (s.clock - i.t0) / pntTicks item)
  else decide (i.t0 + pntTicks item ≤ s.clock)

/-- The resource returns and the instance waits for another occurrence. -/
def pntWait (s : State) (item n : Nat) (f : PInst → PInst) : State :=
  pntShow (updInst (pntReturn s item n) n fun i => f { i with stage := 0, conv := 0 })

/-- The second measurement of an attempt, or the first of a new one, begins where the occurrence still holds it, and the SYNC receiver could return
after it (R113, R424); else the resource returns. -/
def pntAgain (s : State) (item n : Nat) : State :=
  match occLeft s item n with
  | some l => if pntTicks item + pntTail item ≤ l ∧ (item = 8 → syncClear s (pntTicks item)) then pntMeasure s item n 0 else pntWait s item n id
  | none => pntWait s item n id

/-- Where an occurrence ends its bars end; a lane that is not in UP on the first tick of one is skipped for it (R424, R429). -/
def pntBars (s : State) (p : Pnt) : State :=
  forAll p.insts s fun s i =>
    if (occLeft s p.item i.n).isNone then updInst s i.n fun i => { i with barred := false }
    else if p.item = 7 ∧ inRun s ∧ occFirst s 7 i.n then updInst s i.n fun j => { j with barred := lanState s i.n != 4 }
    else s

/-- A measurement whose lead is over takes the monitor ADC, if it is free (R440). -/
def pntConvert (s : State) : State := if s.mon.cur.isNone ∧ (pntWants s).isSome then monAssign s else s

/-- The start of a tick while a run is in progress: what is interrupted, or cannot finish before the tail, is discarded; points of BIAS_TRIM
that are done are kept over the end of an occurrence (R422, R424). -/
def pntTick (s : State) : State :=
  let s := pntRestores s
  match s.pnt.run with
  | none => s
  | some p => pntConvert (forAll (p.insts.filter (·.stage == 1)) (pntBars s p) fun s i =>
      let item := p.item
      if pntInterrupted s item i then pntWait s item i.n fun i => { i with pts := 0, barred := item == 3 }
      else if pntMeasured s item i then s
      else if (match occLeft s item i.n with | none => true | some l => decide (l < pntLeft s item i + pntTail item)) then
        pntWait s item i.n fun j => { j with pts := if item = 3 then i.pts + (s.clock - i.t0) / pntTicks item else 0 }
      else s)

/-! ### Commits (R426, R427) -/

/-- The longest move of any SUB to its target. -/
def pntMove (s : State) (item n : Nat) (d : List Int) : Nat :=
  (List.range (pntSubs item)).foldl (fun m k => max m ((pntTarget s item k n (d.getD k 0)).1 - pntApplied s item k n).natAbs) 0

/-- The commit of an item needs this much of an occurrence. -/
def pntCommitTicks (s : State) (item n : Nat) (d : List Int) : Nat := (if pntStepped item then 40 * pntMove s item n d else 0) + pntOverhead item

/-- Every SUB moves one step toward its target. -/
def pntStep (s : State) (item n : Nat) (d : List Int) : State :=
  let s := forAll (List.range (pntSubs item)) s fun s k =>
    let t := (pntTarget s item k n (d.getD k 0)).1
    let a := pntApplied s item k n
    if a < t then setPntApplied s item k n (a + 1) else if t < a then setPntApplied s item k n (a - 1) else s
  updInst s n fun i => { i with stage := 3, step := s.clock + 40 }

/-- An ADC_OFFGAIN commit folds the Patina deltas: the applied deltas become zero, the count and CONV stay (R427). -/
def patinaFold (s : State) (n : Nat) : State :=
  let p := patina s n
  showDeltas (setPatina s n { p with off := [], gain := [], hist := if p.hist = [] then [] else (⟨s.tick, [], []⟩ :: p.hist).take 3 }) n [] []

/-- The instance is done, and its resource returns. -/
def pntDone (s : State) (item n : Nat) : State := pntSettle (updInst (pntReturn s item n) n fun i => { i with stage := 4 })

/-- The deltas are committed from this tick on (R426, R430). -/
def pntCommit (s : State) (item n : Nat) (d : List Int) : State :=
  let z := pntZone s item n
  let s := forAll (List.range (pntSubs item)) s fun s k =>
    let s := pntLog s false item z k n (d.getD k 0) (pntDelta s item z k n)
    let s := setPntDelta s item z k n (d.getD k 0)
    s.when (pntTarget s item k n (d.getD k 0)).2 fun s => s.set R.PNT_STATUS_CLAMPED 1
  let s := s.inc R.PNT_COUNT_ACCEPTED
  if pntStepped item then
    if pntMove s item n d = 0 then pntDone s item n else pntShow (pntStep s item n d)
  else
    let t := pntApply s item n
    pntDone (t.when (item == 6) fun t => corrNote s (patinaFold t n) n) item n

/-- COMMIT_STEP: 40 ticks after the last one the applied value moves a step, or the commit is over (R426). -/
def execCommitStep (k : Fin 256) (s : State) : Host.Outcome State Fault Refusal :=
  .next (if s.xtalFail then s else match s.pnt.run, pntInst s k.val with
    | some p, some i =>
      if i.stage = 3 ∧ i.step ≤ s.clock then
        if pntMove s p.item k.val i.d = 0 then pntDone s p.item k.val else pntStep s p.item k.val i.d
      else s
    | _, _ => s)

/-- An accepted instance commits now if the occurrence is long enough, fails with GAP_SHORT if none is, else waits (R426). -/
def pntAccepted (s : State) (item n : Nat) (d : List Int) : State :=
  let s := updInst s n fun i => { i with d := d, stage := 2, conv := 0 }
  let need := pntCommitTicks s item n d
  match occLeft s item n with
  | some l =>
    if need ≤ l then pntCommit s item n d
    else if (pntGaps s item n).all fun g => decide (g.length < need) then pntSettle (pntFail s item n 3)
    else pntShow (pntReturn s item n)
  | none => pntShow (pntReturn s item n)

/-! ### Commands -/

/-- POINTING_OCCURRENCE: instance `k` is in an occurrence with its resource idle, and Pointing starts an action on it (R422, R423). -/
def execPointingOccurrence (k : Fin 256) (s : State) : Host.Outcome State Fault Refusal :=
  let n := k.val
  .next (if s.xtalFail then s else match s.pnt.run, pntInst s n with
    | some p, some i =>
      match occLeft s p.item n with
      | none => s
      | some l =>
        if p.endCode.isSome ∨ !p.refOk ∨ i.act ∨ i.barred ∨ !pntIdle s p.item n then s
        else if i.stage = 0 ∧ pntOverhead p.item + pntTicks p.item ≤ l then pntMeasure (pntSwitch s p.item n) p.item n (pntLead p.item)
        else if i.stage = 2 then
          let need := pntCommitTicks s p.item n i.d
          if need ≤ l then pntCommit (pntSwitch s p.item n) p.item n i.d
          else if (pntGaps s p.item n).all fun g => decide (g.length < need) then pntSettle (pntFail s p.item n 3)
          else s
        else s
    | _, _ => s)

/-- The errors of the second measurement decide the attempt, the listing of R425. -/
def pntDecide (s : State) (mode item : Nat) (i : PInst) (m1 m2 : List Int) : State :=
  let ks := List.range (pntSubs item)
  let n := i.n
  let z := pntZone s item n
  let corr (k : Nat) : Int := (narrow (m1.getD k 0 + m2.getD k 0) 5 16).1
  if ks.all fun k => decide ((m1.getD k 0 - m2.getD k 0).natAbs ≤ pntTol item) then
    if mode = 1 then
      let s := forAll ks s fun s k => pntLog s true item z k n (corr k) (pntDelta s item z k n)
      pntDone (s.inc R.PNT_COUNT_ACCEPTED) item n
    else
      let d := ks.map fun k => pntDelta s item z k n - corr k
      if d.any fun x => decide (x < pntLo item ∨ pntHi item < x) then pntSettle (pntFail s item n 2) else pntAccepted s item n d
  else if 4 ≤ i.try_ then pntSettle (pntFail s item n 1)
  else
    pntAgain (updInst s n fun j => { j with try_ := i.try_ + 1, m1 := none, pts := 0 }) item n

/-- POINTING_MEASUREMENT: a measurement of instance `k` is complete, with the error of each SUB in 1/16 step (R419, R424, R425). -/
def execPointingMeasurement (k : Fin 256) (ms : List (BitVec 16)) (s : State) : Host.Outcome State Fault Refusal :=
  let n := k.val
  .next (if s.xtalFail then s else match s.pnt.run, pntInst s n with
    | some p, some i =>
      let m := ms.map (·.toInt)
      if i.stage ≠ 1 ∨ !pntMeasured s p.item i then s
      else if pntInterrupted s p.item i then pntWait s p.item n fun i => { i with pts := 0, barred := p.item == 3 }
      else match i.m1 with
        | some m1 => pntDecide s p.mode p.item i m1 m
        | none => pntAgain (updInst s n fun i => { i with m1 := some m, pts := 0 }) p.item n
    | _, _ => s)

/-- POINTING_TIMEOUT: every instance neither accepted nor failed ends with TIMEOUT (R432). -/
def execPointingTimeout (s : State) : Host.Outcome State Fault Refusal :=
  .next (if s.xtalFail then s else match s.pnt.run with
    | none => s
    | some p =>
      if s.clock < p.deadline ∨ p.endCode.isSome then s
      else
        let late := p.insts.filter fun i => decide (i.stage ≤ 2)
        let s := forAll late (updPnt s fun p => { p with timed := late != [], refOk := true }) fun s i => pntFail s p.item i.n 5
        pntSettle s)

/-- Are the arguments of a run in range (R431)? -/
def pntArgsOk (v ms : Nat) : Bool :=
  let item := bits v 27 24
  decide (bits v 29 28 ≠ 3 ∧ 1 ≤ item ∧ item ≤ 8 ∧ 1 ≤ bits v 23 12 ∧ bits v 11 0 + bits v 23 12 ≤ pntInstances item ∧ 1 ≤ ms)

/-- A run starts (R418, R421, R431). -/
def pntStart (s : State) (v ms : Nat) (host : Bool) : State :=
  let mode := bits v 29 28
  let item := bits v 27 24
  let first := bits v 11 0
  let insts := (List.range (bits v 23 12)).map fun k => ({ n := first + k, stage := if mode = 2 then 2 else 0 } : PInst)
  let s := ((s.set R.PNT_STATUS_ITEM item).clr R.PNT_COUNT_ACCEPTED).clr R.PNT_COUNT_FAILED
  let s := ((s.set R.PNT_FAIL_VALID 0).set R.PNT_FAIL_REASON 0).set R.PNT_FAIL_INSTANCE 0
  let s : State := { s with pnt := { s.pnt with run := some ⟨mode, item, host, s.clock + ms * 400000, mode == 2, false, none, insts⟩ } }
  if !inRunHold s then pntEnd s 0x34
  else
    let s := if inHold s then s else forAll (insts.filter fun i => pntGaps s item i.n == []) s fun s i => pntFail s item i.n 4
    pntSettle (monAssign s)

/-- PNT_CTRL was written with `v`: ABORT and GO (R431, R433). A GO while a run is in progress, or with arguments out of range, starts none. -/
def pntCtrlWritten (s : State) (v : Nat) : State :=
  let s := s.when (bit v 30) pntAbort
  if bit v 31 ∧ s.pnt.run.isNone ∧ pntArgsOk v (s.get R.PNT_TIMEOUT_MS) then pntStart s v (s.get R.PNT_TIMEOUT_MS) false else s

/-- PNT_TRIM_DATA shows the delta and factory value that PNT_TRIM_INDEX names (R420); outside Table PNT-1 both read 0. -/
def trimShow (s : State) : State :=
  let item := s.get R.PNT_TRIM_INDEX_ITEM
  let sub := s.get R.PNT_TRIM_INDEX_SUB
  let n := s.get R.PNT_TRIM_INDEX_INSTANCE
  let ok := decide (1 ≤ item ∧ item ≤ 8 ∧ sub < pntSubs item ∧ n < pntInstances item)
  let d := if ok then pntDelta s item (if item = 5 ∨ item = 6 then s.get R.PNT_TRIM_INDEX_ZONE else 0) sub n else 0
  let f := if ok then pntFactory s item sub n else 0
  (s.set R.PNT_TRIM_DATA_DELTA (wrapI d 16)).set R.PNT_TRIM_DATA_FACTORY (wrapI f 16)

/-- With AUTOINC, SUB moves on after a read of PNT_TRIM_DATA. -/
def trimNext (s : State) : State := s.when (s.flag R.PNT_TRIM_INDEX_AUTOINC) fun s => s.set R.PNT_TRIM_INDEX_SUB (s.get R.PNT_TRIM_INDEX_SUB + 1)

/-- PNT_LOG_FILL was written by a secure master: the log is empty (R430). -/
def pntLogClear (s : State) : State := (s.set R.PNT_LOG_FILL_NEXT 0).set R.PNT_LOG_FILL_ENTRIES 0

/-- A secure write of a register that Pointing also moves sets the user delta: the written value less the factory value (R483). -/
def pntWritten (s : State) (item n sub : Nat) : State :=
  setPntDelta s item (pntZone s item n) sub n (pntApplied s item sub n - pntFactory s item sub n)

end Sys2Proof.Machine
end

