-- ==== Sys2Proof/Machine/Shots.lean ====
section
/-! DEFINITION. Shots and the schedule (05_chisel_programs.md R123 to R127, 04 R103), entering HOLD and RUN (17 R445, R446), PLL_UNLOCK and
the end of a relock (04 R116, R117). -/

namespace Sys2Proof.Machine

/-! ### Shots -/

/-- What every shot start does, in an order that the rules leave free or give (R20, R50, R126, R134, R217, R253, R284, R298). `old` is the
counter of the shot that ends; none at the first of a run. -/
def shotBegin (s : State) (old : Option Nat) : State :=
  let s := harvestShotStart { s with shotStart := s.tick }
  let s := forAll (chsEnabled s) s fun s n => chsShotStart s n old
  let s := forAll (clpScheduled s) s fun s n => clpShotStart s n old
  let s := pfuShotStart (lanShotStart (barShotStart (decShotStart s)))
  forAll (govBusy s) s fun s n => s.when (decide (s.get R.GOV_STATUS_FG n < 65536) || s.flag R.GOV_STATUS_TRIPPED n) fun s => govTaint s n

/-- GLB_SCHED_START. -/
def schedStart (s : State) : Nat := s.get R.GLB_SCHED_START_LO_TIME_LO + s.get R.GLB_SCHED_START_HI_TIME_HI * 2 ^ 32

/-- SHOT_COUNT. -/
def schedCount (s : State) : Nat := s.get R.GLB_SCHED_COUNT_LO_COUNT_LO + s.get R.GLB_SCHED_COUNT_HI_COUNT_HI * 2 ^ 32

/-- Schedule time on tick E + 16. -/
def schedFirst (s : State) : Nat := s.now + s.pwr.runE + 16 - s.tick

/-- Is this the first shot start tick of R124 for modes 0 and 1: a multiple of `g` in schedule time, the first at or after E + 16? -/
def schedDue (s : State) (g : Nat) : Bool :=
  decide (s.pwr.runE + 16 ≤ s.tick ∧ s.now % g = 0 ∧ s.tick - (s.pwr.runE + 16) < g)

/-- The first shot starts on this tick. -/
def schedBegin (s : State) : State :=
  let s := (s.set R.GLB_SCHED_STATUS_STATE 2).set R.GLB_SCHED_BEGIN_LO_TIME_LO s.now
  shotBegin (s.set R.GLB_SCHED_BEGIN_HI_TIME_HI (s.now / 2 ^ 32)) none

/-- SCHEDULE_START: the first shot starts under START_MODE, or in mode 2 the schedule is MISSED (R124). -/
def execScheduleStart (s : State) : Host.Outcome State Fault Refusal :=
  .next (if s.get R.GLB_SCHED_STATUS_STATE ≠ 1 ∨ !inRun s then s
    else match s.get R.GLB_SCHED_CFG_START_MODE with
      | 0 => if schedDue s 4 then schedBegin s else s
      | 1 => if schedDue s (4000 * max (s.get R.GLB_SCHED_CFG_ALIGN) 1) then schedBegin s else s
      | _ =>
        if schedStart s < schedFirst s then globalEvent ((s.set R.GLB_SCHED_STATUS_MISSED 1).set R.GLB_SCHED_STATUS_STATE 4) 8
        else if s.now = schedStart s then schedBegin s else s)

/-- The shot start tick of the next shot has come (R124). -/
def shotDue (s : State) : Bool := running s && decide (s.tick = s.shotStart + s.get R.GLB_SCHED_LEN_TICKS)

/-- The shot that would begin is shot SHOT_COUNT (R125). -/
def lastShot (s : State) : Bool :=
  schedCount s != 0 && decide ((s.get R.CLK_SHOT_COUNT + s.get R.CLK_SHOT_EPOCH_EPOCH * 2 ^ 32 + 1) % 2 ^ 48 = schedCount s)

/-- SHOT_START: the counter increments, and every engine starts its program again (R103, R126). -/
def execShotStart (s : State) : Host.Outcome State Fault Refusal :=
  .next (if shotDue s ∧ !lastShot s then
    let old := s.get R.CLK_SHOT_COUNT
    let s := s.set R.CLK_SHOT_COUNT (old + 1)
    let s := s.when (old + 1 == 2 ^ 32) fun s => globalEvent (s.set R.CLK_SHOT_EPOCH_EPOCH (s.get R.CLK_SHOT_EPOCH_EPOCH + 1)) 5
    shotBegin s (some old)
  else s)

/-- SCHEDULE_DONE: at the start tick of shot SHOT_COUNT nothing restarts (R125, R161, R255). -/
def execScheduleDone (s : State) : Host.Outcome State Fault Refusal :=
  .next (if shotDue s ∧ lastShot s then
    let old := some (s.get R.CLK_SHOT_COUNT)
    let s := forAll (chsEnabled s) s fun s n => setChsState (setShotTaint (chsAbandon s n old) n []) n 0
    let s := forAll (clpScheduled s) s fun s n => setClpState (clpAbandon s n old) n 0
    globalEvent (slotsDone (s.set R.GLB_SCHED_STATUS_STATE 3)) 9
  else s)

/-! ### Entering HOLD and RUN -/

/-- The first tick of HOLD, but for the power state itself (R22, R170, R445). -/
def holdEffects (s : State) : State :=
  let s := chsOff (s.set R.GLB_SCHED_STATUS_STATE 0)
  let s := winHold (slotsHold (muteAll s 0))
  let s := resLeaveRun (capHold (biasHold s))
  let s := forAll (clpScheduled s) s clpHold
  stmResetAll (harvestFlush (markersHold s))

/-- The power state changes: POWER_STATE fires (R444). -/
def powerState (s : State) (st : Nat) : State := globalEvent (s.set R.PWR_STATE_STATE st) 16

/-- The module enters HOLD from RUN. -/
def holdEnter (s : State) : State := powerState (holdEffects s) 2

/-- Entry to RUN: an enabled Chisel waits for the first shot start, its registers clear (Table CHS-4, R126). -/
def chsRun (s : State) : State :=
  forAll (chsEnabled s) s fun s n =>
    setChsState (setChs (forAll (List.range 8) s fun s k => setG s n (8 + k) 0) n {}) n 1

/-- The first tick E of RUN (R103, R109, R124, R172, R253, R298, R311, R333, R378). -/
def runEnter (s : State) : State :=
  let s := (s.set R.CLK_SHOT_COUNT 0).set R.CLK_SHOT_EPOCH_EPOCH 0
  let s := framesRun (cancelLoad { s.set R.GLB_SCHED_STATUS_STATE 1 with pwr := { s.pwr with runE := s.tick }, evhLatch := [], evhSent := [] })
  let s := resRun (capRun (markersRun (pfuReset s)))
  let s := forAll (clpScheduled s) (chsRun s) clpRun
  powerState (unmuteAll s 0) 1

/-! ### PLL_UNLOCK and relocks -/

/-- PLL_UNLOCK: the PLL leaves its lock window while not in holdover: outputs mute and park, and the module enters HOLD (R116, Table BIA-2). -/
def execPllUnlock (s : State) : Host.Outcome State Fault Refusal :=
  .next (if s.flag R.CLK_STATUS_PLL_LOCK ∧ !s.flag R.CLK_STATUS_HOLDOVER then
    let s := raiseAlarm (s.set R.CLK_STATUS_PLL_LOCK 0) 2
    let s := s.when (inRunHold s) fun s => forAll allLines (muteAll s 5) fun s n => parkOn s n 3 4
    let s := if inRun s then holdEnter s else s
    loseTime s
  else s)

/-- RELOCK_DONE: the attempt ends with lock, which clears the holdover group and PLL_UNLOCK with its mute and park causes and makes the lanes
hunt again, or without; a lock later than 20 ms after the write is none (R117). -/
def execRelockDone (locked : Bool) (s : State) : Host.Outcome State Fault Refusal :=
  .next (if s.flag R.CLK_STATUS_RELOCK_BUSY then
    let s := s.set R.CLK_STATUS_RELOCK_BUSY 0
    if locked ∧ s.clock ≤ s.clk.relockAt + 8000000 then
      let was := s.flag R.CLK_STATUS_PLL_UNLOCK
      let s := ((s.set R.CLK_STATUS_REF_LOSS 0).set R.CLK_STATUS_REF_RANGE 0).set R.CLK_STATUS_PLL_UNLOCK 0
      let s := loseTime ((s.set R.CLK_STATUS_HOLDOVER 0).set R.CLK_STATUS_PLL_LOCK 1)
      let s := s.when was fun s => forAll allLines (unmuteAll s 5) fun s n => parkOff s n 3
      lanesRehunt s
    else clockNotice s R.CLK_ALARM_RELOCK_FAIL
  else s)

end Sys2Proof.Machine
end

