-- ==== Sys2Proof/Machine/Power.lean ====
section
/-! DEFINITION. Power states, rails, resets, thermal protection (17_thermal_power_and_service_life.md, 03_casting_and_worlds.md R70, R71) and
the I²C responder (18_connectors_electrical_address_map.md R466, R467). What is measured outside comes with the command. -/

namespace Sys2Proof.Machine

/-- Change the power state machine. -/
def updPwr (s : State) (f : PwrSt → PwrSt) : State := { s with pwr := f s.pwr }

/-- The 48 V input is within 40 to 56 V. -/
def supplyIn (s : State) : Bool := decide (40000 ≤ s.pwr.mv48 ∧ s.pwr.mv48 ≤ 56000)

/-- A shutdown whose cause names the hub holds the always-on domain in reset (R453). -/
def hubHeld (s : State) : Bool := s.flag R.THM_STATUS_SHUTDOWN && s.get R.THM_CAUSE_DIE == 0

/-- ALERT_N is low (R451). -/
def alertLow (s : State) : Bool := s.flag R.THM_STATUS_WARN || s.flag R.THM_STATUS_SHUTDOWN || s.pwr.fault || s.xtalFail

/-- THERM_N is low (R452, R453). -/
def thermLow (s : State) : Bool := s.flag R.THM_STATUS_SHUTDOWN

/-! ### What keeps its value -/

/-- The fields of the always-on domain (R443): GLB, BOOT, SEC; EVF, MBX, LCK; HST; MON, THM, PWR. -/
def alwaysOn (id : Nat) : Bool :=
  decide (id < R.CLK_STATUS_RELOCK_BUSY.id) || decide (R.EVF_STATUS_OWNER_REFUSED.id ≤ id ∧ id < R.SVA_CTRL_COMMIT.id) ||
    decide (R.HST_LINK_UP.id ≤ id ∧ id < R.LAN_CTRL_ENABLE.id) || decide (R.MON_SEQ_CTRL_ENABLE.id ≤ id ∧ id < R.DEC_STATUS_UNPUB_TX.id)

/-- The main rails are down: what stands on them is lost (R443, R447). -/
def mainLost (s : State) : State :=
  { State.reset with
    pending := s.pending, regs := s.regs.filter fun p => alwaysOn (p.1 / 0x400000)
    readData := s.readData, readPoison := s.readPoison, tick := s.tick, fresh := s.fresh, clock := s.clock, bootT0 := s.bootT0, xtalFail := s.xtalFail
    arrivals := s.arrivals, chAny := s.chAny, chRt := s.chRt, taskLast := s.taskLast, bootUnwritten := s.bootUnwritten, quiesce := s.quiesce
    mbxQ := s.mbxQ, mbxRing := s.mbxRing, hostA := s.hostA, hostB := s.hostB, hostBQ := s.hostBQ, msix := s.msix, taintTick := s.taintTick
    patinas := patinasFrom s.tick, mon := s.mon, pnt := { delta := s.pnt.delta }, pwr := s.pwr, boot := s.boot, flash := s.flash, sram := s.sram, i2c := s.i2c }

/-- The fields that RESET leaves (Table BOOT-1, R72, R96, R474): THM and PWR; the link; what the bias dies hold
and show; the key slots and BOOT_COUNT, which are not volatile. -/
def keptInReset (id : Nat) : Bool :=
  decide (R.THM_STATUS_SHUTDOWN.id ≤ id ∧ id ≤ R.PWR_STATUS_RAILS_GOOD.id) ||
    [R.HST_LINK_UP, R.HST_LINK_SPEED, R.HST_LINK_WIDTH, R.BIA_CODE_CODE, R.BIA_CODE_SPAN, R.BIA_PARK_LATCH_CODE,
      R.BIA_PARK_LATCH_SPAN, R.BIA_STATUS_STATE, R.BIA_STATUS_CAUSE, R.SEC_KEY_STATE_STATE, R.BOOT_COUNT_COUNT].any fun f => f.id == id

/-- Every die is held in reset (Table BOOT-1, state 0). Outputs are as in R70: the series switches
open, at once where no delay of R71 runs. Of the reset epochs that of the host stays (R11, R474). -/
def moduleReset (s : State) (cause : Nat) : State :=
  let s := if s.pwr.openAt = 0 then biasOpen s else s
  let was := s.get R.PWR_STATE_STATE
  let s' : State := { State.reset with
    pending := s.pending, regs := s.regs.filter fun p => keptInReset (p.1 / 0x400000), readData := s.readData, readPoison := s.readPoison
    tick := s.tick, fresh := s.fresh, clock := s.clock, bootT0 := s.bootT0, xtalFail := s.xtalFail, quiesce := s.quiesce, biases := s.biases
    hbm := s.hbm, msix := s.msix, flash := s.flash, i2c := s.i2c, patinas := patinasFrom s.tick
    pwr := { openAt := s.pwr.openAt, dropAt := s.pwr.dropAt, fault := s.pwr.fault, railHeld := s.pwr.railHeld, resetLow := s.pwr.resetLow, mv48 := s.pwr.mv48, mv33 := s.pwr.mv33, cool := s.pwr.cool }
    boot := { cause := cause, otpKeys := s.boot.otpKeys } }
  let s' := s'.set R.MBX_EPOCH_EPOCH (s.get R.MBX_EPOCH_EPOCH 0x20) 0x20
  let s' := (s'.set R.PWR_STATE_BUSY 0).set R.PWR_STATE_LAST_CODE 0
  if was = 4 then s' else powerState s' 4

/-- POWER_ON_RESET: power is applied, and every die is reset (R70). What is not volatile stays: attached memory, the key slots, BOOT_COUNT. -/
def execPowerOnReset (s : State) : Host.Outcome State Fault Refusal :=
  .next { State.reset with
    pending := s.pending, fresh := s.fresh, clock := s.clock, bootT0 := s.clock, quiesce := s.quiesce, xtalFail := s.xtalFail, flash := s.flash
    regs := s.regs.filter fun p => p.1 / 0x400000 == R.SEC_KEY_STATE_STATE.id || p.1 / 0x400000 == R.BOOT_COUNT_COUNT.id
    boot := { otpKeys := s.boot.otpKeys }, i2c := { t0 := s.clock } }

/-- Is the module cast (R71)? -/
def isCast (s : State) : Bool := s.get R.BOOT_STATUS_STATE == 7 || s.get R.BOOT_STATUS_STATE == 9

/-- RESET_N_LOW: RESET_N has been low for 1 µs or more. A cast module parks its bias outputs at once and opens their switches 10 µs later;
every module enters RESET (R71). A latched shutdown ignores RESET_N (R453). -/
def execResetNLow (s : State) : Host.Outcome State Fault Refusal :=
  .next (if s.flag R.THM_STATUS_SHUTDOWN then s
    else
      let s := if isCast s then updPwr (forAll allLines s fun s n => parkOn s n 1 0) fun p => { p with openAt := s.clock + 4001 } else s
      let off := s.get R.PWR_STATE_STATE == 0
      let s := updPwr s fun p => { p with resetLow := true, railHeld := false }
      if off then s else moduleReset s 2)

/-- SWITCH_OPEN_DELAY: 10 µs after the reset or the trip every bias series switch opens (R71, Table THM-1). -/
def execSwitchOpenDelay (s : State) : Host.Outcome State Fault Refusal :=
  .next (if s.pwr.openAt ≠ 0 ∧ s.pwr.openAt ≤ s.clock + 1 then updPwr (biasOpen s) fun p => { p with openAt := 0 } else s)

/-- The loader enters RAILS; a cold cast is running, and the boot ROM serves mailbox 0 (Table BOOT-1, R74). -/
def enterRails (s : State) : State :=
  let s := ((s.set R.BOOT_STATUS_STATE 1).set R.BOOT_STATUS_OP 1).set R.HST_SESSION_RECOVERY 1
  { s with pwr := { s.pwr with railAt := s.clock }, boot := { s.boot with castT0 := s.clock } }

/-- RESET_RELEASE: RESET_N is high and the standby rail is good, XTAL_IN is there, and no rail or shutdown holds the loader (R73, R98, R449).
Word 1 of the boot log counts from here where RESET_N was low, or power has just come (R90). -/
def execResetRelease (s : State) : Host.Outcome State Fault Refusal :=
  .next (if s.get R.BOOT_STATUS_STATE = 0 ∧ s.get R.PWR_STATE_STATE = 4 ∧ !s.flag R.THM_STATUS_SHUTDOWN ∧ !s.pwr.railHeld ∧ s.pwr.dropAt = 0 ∧ !s.xtalFail then
    enterRails { updPwr s (fun p => { p with resetLow := false }) with
      bootT0 := if s.pwr.resetLow ∨ s.boot.cause = 1 then s.clock else s.bootT0 }
  else s)

/-- The rail that rises: the first that is not good. -/
def railNext (s : State) : Nat := ((List.range 7).find? fun k => !bit (s.get R.PWR_STATUS_RAILS_GOOD) k).getD 7

/-- All main rails are good: the loader enters FIRMWARE. The boot log is read back; a cold cast is counted and logged (R90, R448, Table BOOT-5). QUIESCE_N acts on the
outputs from here on (R205). -/
def enterFirmware (s : State) : State :=
  let s := s.set R.BOOT_STATUS_STATE 2
  let s := s.when s.quiesce fun s => forAll allLines (muteAll s 3) fun s n => s.orf R.BIA_STATUS_CAUSE 1 n
  if s.boot.cause = 0 then s else slotDiscards (bootLog ((logRestore s).inc R.BOOT_COUNT_COUNT) 1 0 0 s.boot.cause) 4

/-- RAILS_UP: the rail that rises is good within 2 ms of its enable, and the next one is enabled; after the last the loader enters FIRMWARE (R449). -/
def execRailsUp (s : State) : Host.Outcome State Fault Refusal :=
  .next (if s.get R.BOOT_STATUS_STATE = 1 ∧ s.clock ≤ s.pwr.railAt + 800000 then
    let s := s.orf R.PWR_STATUS_RAILS_GOOD (2 ^ railNext s % 128)
    let s := updPwr s fun p => { p with railAt := s.clock }
    if s.get R.PWR_STATUS_RAILS_GOOD = 127 then enterFirmware s else s
  else s)

/-- RAIL_TIMEOUT: the rail that rises is not good within 2 ms of its enable (R449). -/
def execRailTimeout (s : State) : Host.Outcome State Fault Refusal :=
  .next (if s.get R.BOOT_STATUS_STATE = 1 ∧ s.pwr.railAt + 800000 ≤ s.clock ∧ railNext s < 7 then
    let s := (s.set R.PWR_STATUS_RAIL_FAULT 1).set R.PWR_STATUS_RAIL (railNext s)
    let s := ((s.set R.PWR_STATUS_RAILS_GOOD 0).set R.BOOT_STATUS_STATE 0).set R.BOOT_STATUS_OP 0
    let s := clockReset s
    updPwr s fun p => { p with railHeld := true }
  else s)

/-! ### Requests (R444 to R448) -/

/-- The request ends with `code` (Table PWR-3), and with it the host command that waits for it. -/
def pwrComplete (s : State) (code : Nat) : State :=
  let h := s.pwr.host
  let s := updPwr ((s.set R.PWR_STATE_LAST_CODE code).set R.PWR_STATE_BUSY 0) fun p => { p with req := 0, reqAt := 0, host := 0 }
  let r := hostCode code
  match h with
  | 1 => hostDoneA s r.1 r.2
  | 2 => hostDoneB s r.1 r.2
  | _ => s

/-- A request that ends at once while another may be in progress: only LAST_CODE and its own host command. -/
def pwrAnswer (s : State) (code host : Nat) : State :=
  let s := s.set R.PWR_STATE_LAST_CODE code
  let r := hostCode code
  match host with
  | 1 => hostDoneA s r.1 r.2
  | 2 => hostDoneB s r.1 r.2
  | _ => s

/-- The conditions that refuse a request for RUN (R446); 0 where none holds. -/
def runRefused (s : State) : Nat :=
  if !s.flag R.CLK_STATUS_PLL_LOCK ∨ s.flag R.CLK_STATUS_PLL_UNLOCK then 0x41
  else if (s.get R.BOOT_STATUS_OP = 3 ∧ !(s.boot.op.any (·.verified))) ∨ s.get R.BOOT_STATUS_OP = 4 then 0x42
  else if s.flag R.CLK_STATUS_SKEW_BUSY ∨ s.phaseNow ≠ s.get R.CLK_PHASE_TAPS ∨ s.flag R.CLK_STATUS_RELOCK_BUSY ∨ s.tdcCal.1 ≠ 0 then 0x42
  else if !supplyIn s then 0x43
  else 0

/-- A request is taken up; it is visible on the real-time side 2 or 3 ticks later, on which of them a free value says (R18, R445, R446). -/
def pwrTake (s : State) (req host : Nat) : State :=
  let (v, s) := s.free
  updPwr (s.set R.PWR_STATE_BUSY 1) fun p => { p with req := req, reqAt := s.tick + 2 + v % 2, host := host }

/-- PWR_REQ was written: 1 HOLD, 2 RUN, 3 STANDBY, 4 leave STANDBY; other values are ignored (R444 to R448). With the loader in RESET, as from a trip
to OFF, none is valid. -/
def pwrRequest (s : State) (req host : Nat) : State :=
  let st := s.get R.PWR_STATE_STATE
  if req = 0 ∨ 4 < req then s
  else if s.flag R.PWR_STATE_BUSY then pwrAnswer s 0x42 host
  else if s.get R.BOOT_STATUS_STATE = 0 then pwrAnswer s 0x40 host
  else match req with
    | 1 => if st = 2 then pwrAnswer s 0 host else if st = 1 then pwrTake s 1 host else pwrAnswer s 0x40 host
    | 2 =>
      if st = 1 then pwrAnswer s 0 host
      else if st ≠ 2 then pwrAnswer s 0x40 host
      else if runRefused s ≠ 0 then pwrAnswer s (runRefused s) host
      else pwrTake (pntDiscard s) 2 host
    | 3 =>
      if st = 3 then pwrAnswer s 0 host
      else if st ≠ 1 ∧ st ≠ 2 then pwrAnswer s 0x40 host
      else if s.get R.BOOT_STATUS_OP ≠ 0 ∨ s.pnt.run.isSome then pwrAnswer s 0x42 host
      else pwrTake s 3 host
    | _ =>
      if st = 3 then pwrAnswer (enterRails { powerState s 4 with boot := { s.boot with cause := 0 } }) 0 host
      else pwrAnswer s 0x40 host

/-- May a request that waits take effect: the loader is not in RESET, as it is from a trip to OFF (Table THM-1)? -/
def pwrMay (s : State) : Bool := s.get R.BOOT_STATUS_STATE != 0

/-- HOLD_ENTRY: on tick h the module enters HOLD (R445); a STANDBY request made in RUN goes on from there (R447). -/
def execHoldEntry (s : State) : Host.Outcome State Fault Refusal :=
  .next (if inRun s ∧ (s.pwr.req = 1 ∨ s.pwr.req = 3) ∧ s.pwr.reqAt ≤ s.tick ∧ pwrMay s then
    let s := holdEnter s
    if s.pwr.req = 1 then pwrComplete s 0 else s
  else if inHold s ∧ s.pwr.req = 1 ∧ pwrMay s then pwrComplete s 0
  else s)

/-- RUN_ENTRY: on tick E the module enters RUN, once Pointing has restored its resources and the Caliper memories hold their images; the
conditions are tested again (R421, R446). -/
def execRunEntry (s : State) : Host.Outcome State Fault Refusal :=
  .next (if inHold s ∧ s.pwr.req = 2 ∧ s.pwr.reqAt ≤ s.tick ∧ !(s.pnt.run.any fun p => p.insts.any (·.act)) ∧ !(s.calipers.any fun p => p.2.restoring) ∧ pwrMay s then
    if runRefused s ≠ 0 then pwrComplete s (runRefused s) else pwrComplete (runEnter s) 0
  else s)

/-- S0 copies the governor state of each line (R447). -/
def govStore (s : State) : State :=
  updPwr s fun p => { p with govSave := allLines.foldl (fun m n =>
    let l := line s n
    let g : GovSave := ⟨l.energy, l.sub, l.ms, l.dms, s.get R.GOV_TGT_TGT n, s.get R.GOV_STATUS_FG n, s.flag R.GOV_STATUS_TRIPPED n⟩
    sset none m n (if g = ⟨0, [], [], [], 65536, 65536, false⟩ then none else some g)) [] }

/-- The saved governor state replaces the reset state (R448). -/
def govRestore (s : State) : State :=
  let s := forAll s.pwr.govSave s fun s p =>
    match p.2 with
    | none => s
    | some g =>
      let s := setLine s p.1 { line s p.1 with energy := g.energy, sub := g.sub, ms := g.ms, dms := g.dms }
      let s := (s.set R.GOV_TGT_TGT g.tgt p.1).set R.GOV_STATUS_FG g.fg p.1
      let s := s.set R.GOV_STATUS_CLIPPING (b2n (decide (g.fg < 65536))) p.1
      s.when g.tripped fun s => parkOn (muteOn (s.set R.GOV_STATUS_TRIPPED 1 p.1) p.1 2) p.1 4 0
  updPwr s fun p => { p with govSave := [] }

/-- STANDBY_ENTRY: no bias output glides any more: the governor state is saved, the series switches open, the main rails drop, S1 and N0 to N5
are reset and the PLL stops (R447). -/
def execStandbyEntry (s : State) : Host.Outcome State Fault Refusal :=
  .next (if (inHold s ∧ s.pwr.req = 3 ∧ pwrMay s) ∧ allLines.all fun n => !s.flag R.BIA_STATUS_GLIDING n then
    let s := mainLost (biasOpen (govStore s))
    let s := forAll [1, 2, 3, 4, 5, 6, 7] s fun s k => (coreReset s k 1).set R.GLB_PLN_STATUS_STATE 0 k
    let s := forAll (List.range 64) s fun s n => partyReset s (0x40 + n)
    let s := (s.set R.PWR_STATUS_RAILS_GOOD 0).set R.BOOT_STATUS_STATE 10
    pwrComplete (powerState s 3) 0
  else s)

/-! ### Thermal protection and supplies (R451 to R453) -/

/-- THM_WARN_THRESH as taken, in 1/128 °C. -/
def warnThresh (s : State) : Int := ((max 80 (min (s.get R.THM_WARN_THRESH_DEGREES) 100) : Nat) : Int) * 128

/-- Is die `i` powered: the hub always, the others with the main rails (Table PWR-1)? -/
def diePowered (s : State) (i : Nat) : Bool := i == 0 || railsGood s

/-- The warnings become `dies` (R452). -/
def warnSet (s : State) (dies : Nat) : State :=
  let old := s.get R.THM_WARN_DIE_DIES
  let new := (List.range 29).find? fun i => bit dies i && !bit old i
  let s := (s.set R.THM_WARN_DIE_DIES dies).set R.THM_STATUS_WARN (b2n (dies != 0))
  let s := match new with
    | some i =>
      let s := s.when (!s.flag R.THM_STATUS_WARN_SEEN) fun s => s.set R.THM_STATUS_WARN_DIE i
      s.set R.THM_STATUS_WARN_SEEN 1
    | none => s
  if old = 0 ∧ dies ≠ 0 then globalEvent s 14 else if old ≠ 0 ∧ dies = 0 then globalEvent s 15 else s

/-- THERMAL_EVALUATE: the warning comparators, every 10 µs, at diode temperatures in 1/128 °C by die index (R452). A warning clears 5 °C
below its threshold. The same readings decide the window of R80. -/
def execThermalEvaluate (temps : List (BitVec 16)) (s : State) : Host.Outcome State Fault Refusal :=
  let old := s.get R.THM_WARN_DIE_DIES
  let hot (i : Nat) : Bool :=
    let t := (temps.getD i 0).toInt
    diePowered s i && (decide (warnThresh s ≤ t) || (bit old i && decide (warnThresh s - 640 < t)))
  let cool := (List.range 29).all fun i => decide (0 ≤ (temps.getD i 0).toInt ∧ (temps.getD i 0).toInt ≤ 11520)
  if s.xtalFail then .next s else
  let s := if cool then s else { s with boot := { s.boot with op := s.boot.op.map fun o => { o with hot := true } } }
  .next (warnSet (updPwr s fun p => { p with cool := cool }) ((List.range 29).foldl (fun m i => if hot i then m + 2 ^ i else m) 0))

/-- The shutdown sequence of Table THM-1, but for what latches: outputs mute and park at once, nothing issues; the switches open 10 µs and the
rails begin to drop 20 µs after it. The loader enters RESET, where the PLL is off (R104). A park cause of a shutdown acts whatever the power state (R207). -/
def shutdown (s : State) : State :=
  let s := if inRun s then holdEffects s else s
  let s := if railsGood s then forAll allLines (muteAll s 4) fun s n => parkOn s n 2 0 else s
  let s := clockReset ((s.set R.BOOT_STATUS_STATE 0).set R.BOOT_STATUS_OP 0)
  updPwr { s with boot := { s.boot with op := none, otpOp := none } } fun p => { p with openAt := s.clock + 4001, dropAt := s.clock + 8001 }

/-- THERMAL_SHUTDOWN: the shutdown comparators of `dies` trip in one evaluation (R452, R453, Table THM-1). -/
def execThermalShutdown (dies : BitVec 29) (s : State) : Host.Outcome State Fault Refusal :=
  .next (match (List.range 29).find? fun i => dies.getLsbD i && diePowered s i with
    | some i =>
      if s.get R.PWR_STATE_STATE = 0 ∨ s.flag R.THM_STATUS_SHUTDOWN then s
      else shutdown (((s.set R.THM_STATUS_SHUTDOWN 1).set R.THM_CAUSE_VALID 1).set R.THM_CAUSE_DIE i)
    | none => s)

/-- RAILS_DOWN: the main rails are down after a shutdown; the module is OFF (R450, Table PWR-2). A request in progress ends with WRONG_STATE.
With the hub as the cause the always-on domain is in reset too (R453). -/
def execRailsDown (s : State) : Host.Outcome State Fault Refusal :=
  .next (if s.pwr.dropAt ≠ 0 ∧ s.pwr.dropAt ≤ s.clock + 1 then
    let s := mainLost (biasOpen s)
    let s := updPwr (s.set R.PWR_STATUS_RAILS_GOOD 0) fun p => { p with openAt := 0, dropAt := 0, govSave := [] }
    let s := forAll [1, 2, 3, 4, 5, 6, 7] s fun s k => (coreReset s k 1).set R.GLB_PLN_STATUS_STATE 0 k
    let s := forAll (List.range 64) s fun s n => partyReset s (0x40 + n)
    let s := warnSet s (s.get R.THM_WARN_DIE_DIES % 2)
    let s := s.when (s.pwr.req != 0) fun s => pwrComplete s 0x40
    let s := powerState s 0
    if hubHeld s then (moduleReset s s.boot.cause).set R.PWR_STATE_STATE 0 else s
  else s)

/-- SUPPLY_FAULT: the 48 V input, at `mv` millivolts, is below 38 V or above 58 V for 5 µs, or a main rail has left its window (R451). -/
def execSupplyFault (mv : BitVec 16) (railOut : Bool) (s : State) : Host.Outcome State Fault Refusal :=
  .next (if (38000 ≤ mv.toNat ∧ mv.toNat ≤ 58000) ∧ !railOut then s
    else
      let s := updPwr s fun p => { p with mv48 := mv.toNat, railHeld := p.railHeld && decide (20000 ≤ mv.toNat) }
      if s.get R.PWR_STATE_STATE = 0 then s
      else updPwr (shutdown (s.set R.PWR_STATUS_SUPPLY_FAULT 1)) fun p => { p with fault := true })

/-- SUPPLY_RETURN: the 48 V input has stayed within 40 to 56 V for 100 ms, and the module casts from RAILS (R451), once RESET_N
is high (Table BOOT-1). -/
def execSupplyReturn (mv : BitVec 16) (s : State) : Host.Outcome State Fault Refusal :=
  .next (if 40000 ≤ mv.toNat ∧ mv.toNat ≤ 56000 then
    let s := updPwr s fun p => { p with mv48 := mv.toNat, fault := false }
    if s.get R.PWR_STATE_STATE = 0 ∧ !s.flag R.THM_STATUS_SHUTDOWN ∧ s.pwr.dropAt = 0 ∧ !s.pwr.railHeld then
      let s : State := { powerState s 4 with boot := { s.boot with cause := 1 } }
      if s.pwr.resetLow then s else enterRails s
    else s
  else s)

/-- THERMAL_LATCH_CLEAR: the 48 V input is below 20 V and the standby rail below 1.0 V at once: the latch clears, and nothing is powered (R453). -/
def execThermalLatchClear (mv48 mv33 : BitVec 16) (s : State) : Host.Outcome State Fault Refusal :=
  .next (if mv48.toNat < 20000 ∧ mv33.toNat < 1000 then
    let s := (moduleReset s 1).set R.PWR_STATE_STATE 0
    let s := ((s.set R.THM_STATUS_SHUTDOWN 0).set R.THM_CAUSE_VALID 0).set R.THM_CAUSE_DIE 0
    updPwr (s.set R.PWR_STATUS_RAILS_GOOD 0) fun p => { p with mv48 := mv48.toNat, mv33 := mv33.toNat, railHeld := false, openAt := 0, dropAt := 0 }
  else s)

/-! ### The I²C responder (R466, R467) -/

/-- The register at W0 offset `off`, as its fields stand. -/
def regWord (s : State) (off : Nat) : Nat :=
  match regAt off allRegs with
  | some (r, is, _) => regValue s r (flatIndex r.dims is 0)
  | none => 0

/-- Is the standby rail good (Table GLB-35)? -/
def standbyGood (s : State) : Bool := decide (3200 ≤ s.pwr.mv33 ∧ s.pwr.mv33 ≤ 3400)

/-- The word at pointer `p` (Table GLB-33). -/
def i2cWord (s : State) (p : Nat) : Nat :=
  if p < 4 then regWord s (4 * p)
  else if p < 10 then s.i2c.copy.getD (p - 4) 0
  else match p with
    | 10 => s.pwr.mv33
    | 11 => s.pwr.mv48 / 10
    | 12 => (s.clock - s.i2c.t0) / 400000000 % 2 ^ 32
    | 13 => b2n (hubHeld s) + 2 * b2n (s.flag R.THM_STATUS_SHUTDOWN) + 4 * b2n (standbyGood s) + 8 * b2n (supplyIn s)
    | _ => 0

/-- I2C_POINTER_WRITE: the first data byte sets the pointer; further bytes are ignored (R466). -/
def execI2cPointerWrite (data : List (BitVec 8)) (s : State) : Host.Outcome State Fault Refusal :=
  .next (match data with
    | [] => s
    | p :: _ => { s with i2c := { s.i2c with ptr := p.toNat } })

/-- I2C_READ: the 32-bit word at the pointer, all four bytes latched with the first, and the pointer moves on (R466, R467). -/
def execI2cRead (s : State) : Host.Outcome State Fault Refusal :=
  .next { s with readData := i2cWord s s.i2c.ptr, i2c := { s.i2c with ptr := (s.i2c.ptr + 1) % 256 } }

/-- I2C_REFRESH: every 1 ms the responder copies THM_STATUS, THM_CAUSE, THM_WARN_DIE, PWR_STATE, PWR_STATUS and BOOT_STATUS, unless the
always-on domain is in reset; its own measurements are of the two supplies in millivolts (R467). -/
def execI2cRefresh (mv48 mv33 : BitVec 16) (s : State) : Host.Outcome State Fault Refusal :=
  let s := updPwr s fun p => { p with mv48 := mv48.toNat, mv33 := mv33.toNat }
  .next (if hubHeld s || s.xtalFail then s
    else { s with i2c := { s.i2c with copy := [0x902000, 0x902008, 0x902004, 0x903000, 0x903008, 0x100000].map (regWord s) } })

end Sys2Proof.Machine
end

