-- ==== Sys2Proof/Machine/Writes.lean ====
section
/-! DEFINITION. A register access through W0 or W4: the checks, the store, and what the written register then does
(00_scope.md R5 to R9, 01_two_planes.md R26, R37, and the register tables of every chapter). -/

namespace Sys2Proof.Machine

/-! ### What a written register does

Each hook takes the state before the write, the state after the store, the master, the instance, and the value written with the fields
R26 holds back taken out. -/

/-- GLB and SEC. -/
def hookGlb (base : Nat) (before : State) (m : Master) (i v : Nat) (s : State) : State :=
  match base with
  | 0x20 => if s.get R.GLB_TAINT_STICKY_TAINT = 0 then s.set R.GLB_TAINT_FIRST_SRC_VALID 0 else s
  | 0x40 =>
    if s.get R.GLB_CONTRACT_STICKY_CLP_CODES = 0 ∧ s.get R.GLB_CONTRACT_STICKY_CHS_CODES = 0 then
      forAll (List.range 16) (s.set R.GLB_CONTRACT_FILL_ENTRIES 0) fun s k => s.set R.GLB_CONTRACT_LOG_SRC_VALID 0 k
    else s
  | 0x620 => plnCtrlWritten before s (fldBits R.GLB_PLN_CTRL_RESET v)
  | 0x108000 => stmSweep s
  | 0x109000 => stmSweep s
  | 0x109004 => stmSweep s
  | 0x640 => hlockWritten s i (before.flag R.GLB_PLN_HLOCK_OPEN i)
  | 0x109100 => if masterSecure m then s.set R.SEC_VIOL_SRC_VALID 0 else s
  | _ => s

/-- CLK. -/
def hookClk (base : Nat) (before : State) (v : Nat) (s : State) : State :=
  match base with
  | 0x20000C => driftCheck s
  | 0x200028 => driftCheck s
  | 0x200008 => if fldBits R.CLK_CTRL_RELOCK v = 1 then relockGo s else s
  | 0x200014 => pntWritten s 8 0 0
  | 0x20001C => if before.get R.CLK_PHASE_TAPS = s.get R.CLK_PHASE_TAPS then s else lanesRehunt s
  | 0x200020 => if fldBits R.CLK_SKEW_CTRL_GO v = 1 then skewGo s else s
  | 0x200034 => timeArmed before s
  | _ => s

/-- EVF, MBX, LCK. -/
def hookEvf (base : Nat) (before : State) (m : Master) (i v : Nat) (s : State) : State :=
  match base with
  | 0x400010 => softwareFire s m (fldBits R.EVF_FIRE_CH v) 0x400010
  | 0x400020 => evhCutShow s
  | 0x400024 => if inRun s then s else evhCutWritten s
  | 0x404004 => chstWritten s i v
  | 0x408004 => taskstWritten before s i v
  | 0x500000 => mbxPush s i v (masterCode m)
  | 0x500010 => if fldBits R.MBX_DB_RING v = 1 then mbxRingFrom s i else s
  | 0x500014 => mbxTxstatWritten s i v
  | 0x500080 => mbxCfgWritten before s i
  | 0x580000 => lockForce s i
  | 0x580100 => lockWrite (s.set R.LCK_ACQ_OWNER (before.get R.LCK_ACQ_OWNER i) i) (i / 64 + 1) (i % 64)
  | _ => s

/-- SVA, HST, LAN. -/
def hookHst (base : Nat) (before : State) (i v : Nat) (s : State) : State :=
  match base with
  | 0x600000 => if fldBits R.SVA_CTRL_COMMIT v = 1 then commitGo s i else s
  | 0x600004 => s.set R.SVA_OWED_MAX 0 i
  | 0x600008 => seedWritten s i
  | 0x600100 => ticketsWritten before s i
  | 0x600400 => shadowWritten before s i
  | 0x700010 => s.set R.HST_AERR_SRC_VALID 0
  | 0x701000 => resCfgWritten before s i
  | 0x701004 => resCfgWritten before s i
  | 0x701008 => resCfgWritten before s i
  | 0x701010 => resRdWritten before s i
  | 0x800000 => lanCtrlWritten before s i (fldBits R.LAN_CTRL_RETRAIN v == 1)
  | 0x800030 => prbsWritten s i
  | 0x800040 => pntWritten s 7 i 0
  | 0x808010 => bqCfgWritten before s
  | 0x808014 => bqCfgWritten before s
  | 0x808018 => bqCfgWritten before s
  | _ => s

/-- PNT, MON, PWR. -/
def hookPwr (base : Nat) (m : Master) (v : Nat) (s : State) : State :=
  match base with
  | 0x900000 => pntCtrlWritten s v
  | 0x900030 => if masterSecure m then pntLogClear s else s
  | 0x901000 => monSeqWritten s
  | 0x903004 => pwrRequest s (fldBits R.PWR_REQ_REQ v) 0
  | _ => s

/-- ACQ, TIN, TDC, MKO. -/
def hookAcq (base : Nat) (before : State) (i v : Nat) (s : State) : State :=
  match base with
  | 0xB0001C => acqRdWritten before s i
  | 0xB20000 => ivlWritten s i (fldBits R.TDC_MCTRL_GO v == 1)
  | 0xB30000 => frqWritten s i (fldBits R.TDC_FCTRL_GO v == 1)
  | 0xB38000 => tdcCalWritten before s (fldBits R.TDC_CAL_CTRL_GO v == 1)
  | 0xB38008 => tdcBinShow s
  | 0xB40000 => markerWritten s i
  | 0xB40004 => markerWritten s i
  | _ => s

/-- CHS, STM, LIN, TON, GOV. -/
def hookChs (base : Nat) (before : State) (i v : Nat) (s : State) : State :=
  match base with
  | 0x1000028 => chsMemWrite s i v
  | 0x1001000 => stmConfig (if fldBits R.STM_CTRL_RESTART v = 1 then stmReset s i else s) (i / 4)
  | 0x1001004 => if inRun s then s else stmRewind s i
  | 0x1001008 => stmConfig s (i / 4)
  | 0x100100C => stmConfig s (i / 4)
  | 0x1001010 => stmConfig s (i / 4)
  | 0x1001014 => stmWrite (s.set R.STM_WR_INDEX (before.get R.STM_WR_INDEX i) i) i v
  | 0x2000000 => linCfgWritten before s i
  | 0x2000008 => linSkewWritten s i
  | 0x200000C => pntWritten s 1 i 0
  | 0x2000100 => frmCopy s i
  | 0x2000104 => if fldBits R.TON_FRM_CTRL_COMMIT v = 1 then frmCommit s i else s
  | 0x2000440 => (if fldBits R.GOV_CTRL_RELEASE v = 1 then govRelease s i else s).set R.GOV_CTRL_RELEASE 0 i
  | _ => s

/-- Scheduled mode holds EMASK bit 4 at 0 (R271). -/
def clpMask (s : State) (n : Nat) : State :=
  if scheduled s n then s.put R.CLP_EVT_EMASK (s.get R.CLP_EVT_EMASK n &&& 0xFFEF) n else s

/-- MODE of a Caliper was written: it starts from its reset sequencing, its party is reset (Table MBX-1), and a service Caliper starts
(R255). -/
def clpModeWritten (before s : State) (n : Nat) : State :=
  if before.get R.CLP_CTRL_MODE n = s.get R.CLP_CTRL_MODE n then s
  else
    let s := setClpState (setClp (partyReset s (0x40 + n)) n {}) n 0
    let s := clpMask s n
    if s.get R.CLP_CTRL_MODE n = 2 ∧ mainPowered s then clpServiceStart s n else s

/-- INP, CLP. -/
def hookInp (base : Nat) (before : State) (i v : Nat) (s : State) : State :=
  match base with
  | 0x2800000 => inpCfgWritten before s i
  | 0x2800004 => inpStatusWritten s i
  | 0x2800028 => kmemWrite s i v
  | 0x2800040 => corrNote before (pntWritten s 6 (i / 8) (i % 8)) (i / 8)
  | 0x2800044 => corrNote before (pntWritten s 6 (i / 8) (8 + i % 8)) (i / 8)
  | 0x2800100 => corrNote before s (i / 56)
  | 0x2800048 => pntWritten s 5 (i / 8) (i % 8)
  | 0x3000000 => clpModeWritten before s i
  | 0x3000010 => clpMask s i
  | 0x3000088 => clpMemWrite s i v
  | _ => s

/-- What the register at `base` does once written. -/
def regHook (base : Nat) (before : State) (m : Master) (i v : Nat) (s : State) : State :=
  if base < 0x200000 then hookGlb base before m i v s
  else if base < 0x400000 then hookClk base before v s
  else if base < 0x600000 then hookEvf base before m i v s
  else if base < 0x900000 then hookHst base before i v s
  else if base < 0xA00000 then hookPwr base m v s
  else if base < 0x1000000 then hookAcq base before i v s
  else if base < 0x2800000 then hookChs base before i v s
  else hookInp base before i v s

/-! ### The access -/

/-- Does the block of a register answer? In RESET only the THM and PWR registers do (Table BOOT-1); without the main rails only the always-on
domain (R443). -/
def regLive (s : State) (r : Reg) : Bool :=
  let id := (r.flds.head?.map (·.id)).getD 0
  if s.get R.BOOT_STATUS_STATE = 0 then decide (R.THM_STATUS_SHUTDOWN.id ≤ id ∧ id ≤ R.PWR_STATUS_RAILS_GOOD.id)
  else alwaysOn id || railsGood s

/-- The secure channel a write names, if the master may not name it: bindings and routes of R339. -/
def channelNamed (s : State) (m : Master) (base i v : Nat) : Option Nat :=
  let cs := match base with
    | 0x401000 => [fldBits R.EVF_SRC_CH v]
    | 0x408000 =>
      fldBits R.EVF_TASK_MUX_CH v :: if fldBits R.EVF_TASK_DIRECT_EN v = 1 then [i % 512] else []
    | _ => []
  cs.find? fun c => namesSecure s m c

/-- A write found its register and passed the checks: the store, then what the register does. A data slot that R26 holds is dropped whole.
`extra` adds what the later chapters of the model give a register. -/
def regAct (extra : Nat → Master → Nat → Nat → State → State) (s : State) (m : Master) (r : Reg) (i off v : Nat) : State :=
  let s' := regStore s m r i off v
  if r.wide && r.flds.any (fun f => rtHeld s m && fieldLocked s f i) then s'
  else
    let v' := heldOut s m r i v
    extra r.base m i v' (regHook r.base s m i v' s')

/-- One write access of `width` bits. -/
def regWrite1 (extra : Nat → Master → Nat → Nat → State → State) (s : State) (m : Master) (off width v : Nat) : State :=
  match regAt off allRegs with
  | none => accessError s m true 4 off
  | some (r, is, b) =>
    if !regLive s r then s
    else match accessCheck s m r is b width off true with
    | .deny s => s
    | .pass =>
      let i := flatIndex r.dims is 0
      match channelNamed s m r.base i v with
      | some c => worldViolation s m true 3 c off
      | none => regAct extra s m r i off v

/-- Does a 64-bit access at `off` reach a data slot? -/
def wideAt (off : Nat) : Bool :=
  match regAt off allRegs with
  | some (r, _, _) => r.wide
  | none => false

/-- A write access of `width` bits at W0 offset `off`: 64 bits over an aligned pair of registers are two accesses, lower address first (R5).
While XTAL_IN is failed the service plane stands and nothing acts (R98). -/
def regWriteWith (extra : Nat → Master → Nat → Nat → State → State) (s : State) (m : Master) (off width v : Nat) : State :=
  if s.xtalFail then s
  else if width = 64 ∧ off % 8 = 0 ∧ !wideAt off then
    regWrite1 extra (regWrite1 extra s m off 32 (v % 2 ^ 32)) m (off + 4) 32 (v / 2 ^ 32 % 2 ^ 32)
  else regWrite1 extra s m off width v

/-- A write with no addition. -/
def regWrite (s : State) (m : Master) (off width v : Nat) : State := regWriteWith (fun _ _ _ _ s => s) s m off width v

/-! ### Reads -/

/-- A word of a decision word, or its taint. -/
def decWordBits (s : State) (w lo : Nat) : Nat :=
  (List.range 32).foldl (fun v k => if sget false s.decVal (64 * w + lo + k) then v + 2 ^ k else v) 0

/-- What a read of a register latches, shows or pops before its value is taken: latched pairs take their other half with the low one; memory
ports and FIFOs put the word into their data field. -/
def readLatch (base : Nat) (i : Nat) (s : State) : State :=
  match base with
  | 0x200038 =>
    ((s.set R.CLK_NOW_LO_TIME_LO s.now).set R.CLK_NOW_HI_TIME_HI (s.now / 2 ^ 32)).set R.CLK_NOW_HI_EPOCH (s.now / 2 ^ 40)
  | 0x400024 => evhCutShow s
  | 0x500008 => mbxPop s i
  | 0x500018 => mbxReadAccept s i
  | 0x580100 => let p := lockRead s (i / 64 + 1) (i % 64); p.2.set R.LCK_ACQ_OWNER p.1 i
  | 0x800034 => prbsLatch s i
  | 0x900024 => trimShow s
  | 0xA00100 =>
    ((s.set R.DEC_WORD_LO_BITS (decWordBits s i 0) i).set R.DEC_WORD_HI_BITS (decWordBits s i 32) i).set R.DEC_WORD_TAINT_TAINT
      (taintMask (sget [] s.decTaint i)) i
  | 0xB10018 => if i % 2 = 0 then tinPop s (i / 2) else s
  | 0xB20010 => tdcLatch s R.TDC_MSTART_LO_STAMP_LO i
  | 0xB20020 => tdcLatch s R.TDC_MINT_LO_INT_LO i
  | 0xB3000C => tdcLatch s R.TDC_FSTART_LO_VALUE i
  | 0xB30014 => tdcLatch s R.TDC_FPER_LO_VALUE i
  | 0xB3001C => tdcLatch s R.TDC_FFREQ_LO_VALUE i
  | 0xB3800C => tdcBinShow s
  | 0x2000470 =>
    let x := govSum (line s (i / 3)) (i % 3)
    (s.set R.GOV_SUM_LO_SUM_LO x i).set R.GOV_SUM_HI_SUM_HI (x / 2 ^ 32) i
  | 0x3000180 =>
    if i % 3 = 0 then
      let a := (clp s (i / 12)).acc.getD (i / 3 % 4) 0
      ((s.set R.CLP_A_VALUE a i).set R.CLP_A_VALUE (a / 2 ^ 32) (i + 1)).set R.CLP_A_VALUE (a / 2 ^ 64) (i + 2)
    else s
  | _ => s

/-- The value of a read: of a memory port, the word its control register names, and the control register after the access; of any other
register, its fields. -/
def readValue (r : Reg) (i : Nat) (s : State) : Nat × State :=
  match r.base with
  | 0x900024 => (regValue s r i, trimNext s)
  | 0xA00408 => decMemRead s
  | 0xA0801C => pfuRecRead s
  | 0xA08024 => pfuMemRead s
  | 0xB3800C => (regValue s r i, tdcBinNext s)
  | 0x1000028 => chsMemRead s i
  | 0x2800028 => kmemRead s i
  | 0x3000088 => clpMemRead s i
  | _ => (regValue s r i, s)

/-- The low half of a data slot takes the effects of a read; a read of its high half returns what the slot holds. -/
def readEffects (r : Reg) (b : Nat) : Bool := !r.wide || b == 0

/-- One read access of `width` bits: the value, and the state after it. Of a die without power the manual gives no value. -/
def regRead1 (s : State) (m : Master) (off width : Nat) : Nat × State :=
  match regAt off allRegs with
  | none => (0, accessError s m false 4 off)
  | some (r, is, b) =>
    if !regLive s r ∧ s.get R.BOOT_STATUS_STATE ≠ 0 then s.free
    else match accessCheck s m r is b width off false with
    | .deny s => (0, s)
    | .pass =>
      let i := flatIndex r.dims is 0
      if !regLive s r then (regValue s r i, s)
      else if readEffects r b then
        let p := readValue r i (readLatch r.base i s)
        (readPart p.1 b width, p.2)
      else (readPart (readValue r i s).1 b width, s)

/-- A read access of `width` bits at W0 offset `off`; what it returns stands in `readData` (R5, R7). -/
def regRead (s : State) (m : Master) (off width : Nat) : State :=
  if s.xtalFail then s
  else if width = 64 ∧ off % 8 = 0 ∧ !wideAt off then
    let a := regRead1 s m off 32
    let b := regRead1 a.2 m (off + 4) 32
    { b.2 with readData := a.1 + b.1 * 2 ^ 32, readPoison := false }
  else
    let a := regRead1 s m off width
    { a.2 with readData := a.1, readPoison := false }

end Sys2Proof.Machine
end

