-- ==== Sys2Proof/Machine/Image.lean ====
section
/-! DEFINITION. The Armature image: its directory, its records, and the checks at load of Table GLB-24 (02_armature_contract.md R38 to R58,
R66, R480, R484, and the section formats of the owning chapters). An image is read through an accessor `g` from byte offset to byte. -/

namespace Sys2Proof.Machine

/-- A directory entry (Table GLB-13). -/
structure Sec where
  typ : Nat
  world : Nat
  count : Nat
  off : Nat
  size : Nat
  rsv : Nat
  deriving DecidableEq, Repr

/-- SECTION_COUNT. -/
def imgCount (g : Nat → Nat) : Nat := leOf g 0x0C 4

/-- The directory. -/
def imgSecs (g : Nat → Nat) : List Sec :=
  (List.range (min (imgCount g) 64)).map fun k =>
    let o := 0x100 + 32 * k
    ⟨leOf g o 2, leOf g (o + 2) 1, leOf g (o + 4) 4, leOf g (o + 8) 8, leOf g (o + 0x10) 8, leOf g (o + 3) 1 + leOf g (o + 0x18) 8⟩

/-- FEATURES bit `k`. -/
def imgFeature (g : Nat → Nat) (k : Nat) : Bool := bit (leOf g 8 4) k

/-- A type of Table GLB-14. -/
def secKnown (t : Nat) : Bool := decide (1 ≤ t ∧ t ≤ 5) || decide (0x101 ≤ t ∧ t ≤ 0x10F) || t == 0xFFF

/-- The required types of Table GLB-14. -/
def secRequired : List Nat := [1, 2, 3, 4, 5, 0x101, 0x103, 0x10E, 0xFFF]

/-- The length of the record at offset `o` of a section of type `t`. -/
def recLen (g : Nat → Nat) (t o : Nat) : Nat :=
  match t with
  | 1 => 8
  | 2 => 32
  | 3 => 3584
  | 4 => 4
  | 5 => 128
  | 0x101 => 64
  | 0x102 => 16
  | 0x103 => 16 + 16 * leOf g (o + 4) 4
  | 0x104 => 16 + 8 * leOf g (o + 8) 4
  | 0x105 => 24
  | 0x106 => 32
  | 0x107 => 32 + (if imgFeature g 0 then 16 * ((leOf g (o + 4) 4 + 2) / 3) else 8 * leOf g (o + 4) 4)
  | 0x108 => 64
  | 0x109 => 80 + 8 * (leOf g (o + 4) 4 + leOf g (o + 8) 4)
  | 0x10A => 8
  | 0x10B => 64 + 16 * leOf g o 4 + 16 * leOf g (o + 4) 4 + 64 * leOf g (o + 8) 4 + 4 * leOf g (o + 12) 4 + 2 * leOf g (o + 16) 4
  | 0x10C => 32
  | 0x10D => 16
  | 0x10E => 512
  | 0x10F => 8 + 20 * leOf g (o + 2) 2
  | _ => 196

/-- The offsets of `n` records that fill the bytes from `o` to `e`; none where they do not. -/
def recWalk (len : Nat → Nat) : Nat → Nat → Nat → Option (List Nat)
  | 0, o, e => if o = e then some [] else none
  | n + 1, o, e => if o + len o ≤ e then (recWalk len n (o + len o) e).map (o :: ·) else none

/-- The records of a section. WORLD is read as one record; its RECORD_COUNT is 784 (R93). -/
def secRecs (g : Nat → Nat) (x : Sec) : Option (List Nat) :=
  recWalk (recLen g x.typ) (if x.typ = 3 then x.count - 783 else x.count) x.off (x.off + x.size)

/-- Sections of one kind hold a fixed number of records (Table GLB-14). -/
def secCountOk (x : Sec) : Bool :=
  match x.typ with
  | 1 => x.count == 256
  | 3 => x.count == 784
  | 4 => x.count == 512
  | 5 | 0x101 | 0x10B | 0xFFF => x.count == 1
  | 0x10E => x.count == 2
  | _ => true

/-- The section of a type. -/
def imgSec (g : Nat → Nat) (t : Nat) : Option Sec := (imgSecs g).find? fun x => x.typ == t

/-- The records of the section of a type; none of an absent section. -/
def imgRecs (g : Nat → Nat) (t : Nat) : List Nat := ((imgSec g t).bind (secRecs g)).getD []

/-! ### Checks 0x01 to 0x07 -/

/-- Are the bytes from `o` to `e` zero? -/
def zeroSpan (g : Nat → Nat) (o e : Nat) : Bool := (List.range (e - o)).all fun i => g (o + i) == 0

/-- R38 to R40 hold of one entry. -/
def secOk (g : Nat → Nat) (x : Sec) : Bool :=
  x.rsv == 0 && x.off % 4096 == 0 && decide (0x100 + 32 * imgCount g ≤ x.off ∧ x.off + x.size ≤ leOf g 0x10 8) &&
    (if secKnown x.typ then x.world == b2n (decide (x.typ ≤ 5)) && secCountOk x && (secRecs g x).isSome else decide (x.world ≤ 1))

/-- R38 holds of two entries: they do not overlap; secure sections come before the others, and SIG last. -/
def secOrder (x y : Sec) : Bool :=
  decide (x.off + x.size ≤ y.off ∨ y.off + y.size ≤ x.off) && (!(decide (y.off < x.off)) || !(x.world == 1 && y.world == 0)) &&
    (!(decide (y.off < x.off)) || y.typ != 0xFFF)

/-- The bytes after a section, up to the next, are zero (R38). -/
def secPadOk (g : Nat → Nat) (l : List Sec) (x : Sec) : Bool :=
  match lowestOf ((l.filter fun y => decide (x.off + x.size ≤ y.off) && y != x).map (·.off)) with
  | none => true
  | some e => zeroSpan g (x.off + x.size) e

/-- Code 0x04. -/
def imgLayoutBad (g : Nat → Nat) : Bool :=
  let l := imgSecs g
  !(decide (9 ≤ imgCount g ∧ imgCount g ≤ 64)) || leOf g 0x10 8 % 4096 != 0 || !zeroSpan g 0x28 0x100 || leOf g 0x1E 2 != 0 ||
    !(l.all (secOk g)) || !(l.zipIdx.all fun p => l.zipIdx.all fun q => p.2 == q.2 || secOrder p.1 q.1) || !(l.all (secPadOk g l))

/-- The serial number of the module. -/
def serial (s : State) : Nat := s.get R.GLB_SERIAL_LO_SERIAL_LO + s.get R.GLB_SERIAL_HI_SERIAL_HI * 2 ^ 32

/-- Checks 0x01 to 0x07 in code order: the code that refuses. -/
def imgHead (s : State) (g : Nat → Nat) : Option Nat :=
  let ts := (imgSecs g).map (·.typ)
  if leOf g 0 4 ≠ 0x544D5241 then some 1
  else if leOf g 4 1 ≠ s.get R.GLB_IFVER_CONTRACT_MAJOR then some 2
  else if leOf g 8 4 &&& (2 ^ 32 - 1 - s.get R.GLB_FEATURES_KNOWN_KNOWN) ≠ 0 then some 3
  else if imgLayoutBad g then some 4
  else if ts.any (fun t => !secKnown t && !bit t 14) || !decide ts.Nodup then some 5
  else if secRequired.any fun t => !ts.contains t then some 6
  else if leOf g 0x18 8 ≠ 0 ∧ leOf g 0x18 8 ≠ serial s then some 7
  else none

/-! ### Signatures (R48, R81) -/

/-- Header and directory, and the content of the sections that `f` takes, in directory order. -/
def imgMessage (g : Nat → Nat) (f : Sec → Bool) : List Nat :=
  bytesOf g 0 (0x100 + 32 * imgCount g) ++ ((imgSecs g).filter f).flatMap fun x => bytesOf g x.off x.size

/-- SHA-384 over the secure signature message. -/
def imgSecHash (g : Nat → Nat) : Nat := sha384 (imgMessage g fun x => x.world == 1)

/-- SHA-384 over the non-secure one. -/
def imgNsHash (g : Nat → Nat) : Nat := sha384 (imgMessage g fun x => x.world == 0 && x.typ != 0xFFF)

/-- A big-endian number of 48 bytes. -/
def be48 (g : Nat → Nat) (o : Nat) : Nat := bigEndian (bytesOf g o 48)

/-- The public key of OTP key slot `k`, where it is VALID (R96). -/
def otpKey (s : State) (k : Nat) : Option Nat :=
  if k < 4 ∧ s.get R.SEC_KEY_STATE_STATE / 4 ^ k % 4 = 1 then some (if k = 0 then Config.factoryKey.toNat else sget 0 s.boot.otpKeys k) else none

/-- SEC_KEY_SLOT. -/
def imgKeySlot (g : Nat → Nat) : Nat := leOf g ((imgRecs g 0xFFF).headD 0 + 0xC0) 4

/-- Check 0x08. -/
def imgSecSig (s : State) (g : Nat → Nat) : Option Nat :=
  let o := (imgRecs g 0xFFF).headD 0
  match otpKey s (imgKeySlot g) with
  | none => some 8
  | some k => if ecdsaOk k (imgSecHash g) (be48 g o) (be48 g (o + 0x30)) then none else some 8

/-- USER_KEY of KEYREG, X and Y (Table GLB-19). -/
def imgUserKey (g : Nat → Nat) : Nat := let o := (imgRecs g 5).headD 0; be48 g (o + 1) * 2 ^ 384 + be48 g (o + 49)

/-- Check 0x09; a key that is no uncompressed point verifies nothing. -/
def imgNsSig (g : Nat → Nat) : Option Nat :=
  let o := (imgRecs g 0xFFF).headD 0
  if leOf g ((imgRecs g 5).headD 0) 1 = 4 ∧ ecdsaOk (imgUserKey g) (imgNsHash g) (be48 g (o + 0x60)) (be48 g (o + 0x90)) then none else some 9

/-! ### Check 0x0A: secure sections -/

/-- MAG of line `n` (Table GOV-1). -/
def imgMag (g : Nat → Nat) (n : Nat) : Nat := leOf g ((imgRecs g 2).getD n 0 + 0x18) 4

/-- PARK (R211). -/
def parkBad (g : Nat → Nat) : Bool :=
  (imgRecs g 1).zipIdx.any fun p =>
    let w := leOf g p.1 8
    decide (2 ^ 23 ≤ w) || decide (6 ≤ bits w 22 20) || decide (imgMag g p.2 < (codeVal (w % 2 ^ 20)).natAbs)

/-- GOVLIM (R220). -/
def govlimBad (g : Nat → Nat) : Bool :=
  (imgRecs g 2).length != 256 || (imgRecs g 2).any fun o =>
    let c := leOf g (o + 0x1C) 4
    decide (524288 < leOf g (o + 0x18) 4) || c % 2 ^ 20 == 0 || bits c 23 20 != 0 || bits c 31 25 != 0

/-- Descriptor `d` of WORLD: BASE, LIMIT, FLAGS (R95). -/
def worldRgn (g : Nat → Nat) (d : Nat) : Nat × Nat × Nat :=
  let o := (imgRecs g 3).headD 0 + 3072 + 32 * d
  (leOf g o 8, leOf g (o + 8) 8, leOf g (o + 16) 4)

/-- Is 2 MiB unit `u` one of staging addresses under WORLD (R95)? -/
def worldStaging (g : Nat → Nat) (u : Nat) : Bool :=
  match ((List.range 16).map (worldRgn g)).find? fun r => bit r.2.2 0 && decide (r.1 ≤ u * 2 ^ 21 ∧ u * 2 ^ 21 < r.2.1) with
  | some r => !bit r.2.2 1 && bit r.2.2 2
  | none => false

/-- The longest run of staging units within the HBM that is there, over `n` units from `u`, after a run of `k`. -/
def stagingRun (g : Nat → Nat) : Nat → Nat → Nat → Nat
  | 0, _, k => k
  | n + 1, u, k => max k (stagingRun g n (u + 1) (if worldStaging g u then k + 1 else 0))

/-- WORLD (R83, R93, R95): 512 MiB of staging addresses, mailbox 0 open, nothing reserved set. A descriptor must fit its register. -/
def worldBad (g : Nat → Nat) : Bool :=
  let o := (imgRecs g 3).headD 0
  ((List.range 768).any fun i => let w := leOf g (o + 4 * i) 4; decide (1 < w) || (decide (i = 648 ∨ 750 ≤ i) && w != 0)) ||
    ((List.range 16).any fun d =>
      let r := worldRgn g d
      r.1 % 2 ^ 21 != 0 || r.2.1 % 2 ^ 21 != 0 || decide (2 ^ 37 ≤ r.1 ∨ 2 ^ 37 ≤ r.2.1 ∨ 8 ≤ r.2.2) || leOf g (o + 3072 + 32 * d + 20) 12 != 0) ||
    decide (stagingRun g 22888 0 0 < 256)

/-- EVOWN (R339). -/
def evownBad (g : Nat → Nat) : Bool :=
  (imgRecs g 4).any fun o =>
    let w := leOf g o 4
    let p := w % 256
    decide (512 ≤ w) || !(p == 1 || p == 2 || decide (0x10 ≤ p ∧ p ≤ 0x15) || p == 0x20 || p == 0xFF)

/-- KEYREG (Table GLB-19). -/
def keyregBad (g : Nat → Nat) : Bool := (imgRecs g 5).any fun o => decide (1 < leOf g (o + 0x61) 1) || leOf g (o + 0x62) 30 != 0

/-! ### Check 0x0A: schedule, INIT and Chisels -/

/-- SHOT_LENGTH. -/
def imgShotLen (g : Nat → Nat) : Nat := leOf g ((imgRecs g 0x101).headD 0) 4

/-- START_MODE. -/
def imgStartMode (g : Nat → Nat) : Nat := leOf g ((imgRecs g 0x101).headD 0 + 0x10) 1

/-- ENABLE of Chisel `n`. -/
def imgEnabled (g : Nat → Nat) (n : Nat) : Bool := bit (leOf g ((imgRecs g 0x101).headD 0 + 0x20 + n / 8) 1) (n % 8)

/-- SCHED (R123). -/
def schedBad (g : Nat → Nat) : Bool :=
  let o := (imgRecs g 0x101).headD 0
  let m := imgStartMode g
  imgShotLen g % 4 != 0 || decide (imgShotLen g < 64) || leOf g (o + 4) 4 != 0 || decide (2 ^ 48 ≤ leOf g (o + 8) 8) || decide (2 < m) ||
    leOf g (o + 0x11) 1 != 0 || (m == 1 && !decide (1 ≤ leOf g (o + 0x12) 2 ∧ leOf g (o + 0x12) 2 ≤ 4095)) || leOf g (o + 0x14) 4 != 0 ||
    (m == 2 && leOf g (o + 0x18) 8 % 4 != 0) || (List.range 16).any fun b => decide (24 < leOf g (o + 0x30 + b) 1)

/-- The register an INIT record names: the first byte of one (R480). -/
def initReg (g : Nat → Nat) (o : Nat) : Option (Reg × List Nat) :=
  match regAt (leOf g o 8) allRegs with
  | some (r, is, 0) => some (r, is)
  | _ => none

/-- INIT: offset and width of value (R480). -/
def initBad (g : Nat → Nat) : Bool :=
  (imgRecs g 0x102).any fun o =>
    match initReg g o with
    | none => true
    | some (r, _) => decide (2 ^ (if r.wide then 36 else 32) ≤ leOf g (o + 8) 8)

/-- A 36-bit word in a 64-bit slot with its high bits set (R484). -/
def slotBad (g : Nat → Nat) (o : Nat) : Bool := decide (2 ^ 36 ≤ leOf g o 8)

/-- The instruction at `o` breaks R129 or R484. -/
def insnBad (g : Nat → Nat) (o : Nat) : Bool :=
  let a := leOf g o 8
  slotBad g o || slotBad g (o + 8) || !chsFormOk (bits a 35 31) (a % 2 ^ 19) (leOf g (o + 8) 8)

/-- CHSPROG (R150). -/
def chsprogBad (g : Nat → Nat) : Bool :=
  let l := imgRecs g 0x103
  (l.any fun o =>
    let c := leOf g (o + 4) 4
    let e := leOf g (o + 8) 2
    decide (127 < leOf g o 2) || leOf g (o + 2) 2 != 0 || decide (32768 < c) || (if c = 0 then e != 0 else decide (c ≤ e)) ||
      leOf g (o + 0x0A) 6 != 0 || (List.range c).any fun k => insnBad g (o + 16 + 16 * k)) ||
    !decide (l.map fun o => leOf g o 2).Nodup || (List.range 128).any fun n => imgEnabled g n && !l.any fun o => leOf g o 2 == n

/-- ENVMEM: the header as notes/assumptions/31.md takes it. -/
def envBad (g : Nat → Nat) : Bool :=
  (imgRecs g 0x104).any fun o =>
    decide (127 < leOf g o 2) || leOf g (o + 2) 2 != 0 || decide (262144 < leOf g (o + 4) 4 + leOf g (o + 8) 4) || leOf g (o + 12) 4 != 0 ||
      (List.range (leOf g (o + 8) 4)).any fun k => slotBad g (o + 16 + 8 * k)

/-- FRAMEINIT (R173). -/
def frameBad (g : Nat → Nat) : Bool :=
  ((imgRecs g 0x105).any fun o => decide (127 < leOf g o 2 ∨ 2047 < leOf g (o + 2) 2 ∨ 2 ^ 48 ≤ leOf g (o + 8) 8)) ||
    !decide ((imgRecs g 0x105).map fun o => leOf g o 4).Nodup

/-- SEGTAB (R152). -/
def segtabBad (g : Nat → Nat) : Bool :=
  ((imgRecs g 0x106).any fun o =>
    let cond := leOf g (o + 0x10) 2
    let flags := leOf g (o + 0x12) 2
    let kind := bits cond 15 14
    decide (127 < leOf g o 2 ∨ 1023 < leOf g (o + 2) 2 ∨ leOf g (o + 8) 2 < 2 ∨ 8 ≤ flags) ||
      decide ((if bit flags 0 then 3 else 16383) < leOf g (o + 4) 4) || decide (1024 ≤ leOf g (o + 0x0C) 2 ∨ 1024 ≤ leOf g (o + 0x0E) 2) ||
      kind == 3 || bits cond 13 11 != 0 || (kind == 1 && decide (511 < cond % 1024)) || (kind == 2 && decide (63 < cond % 1024)) ||
      decide (4096 ≤ leOf g (o + 0x14) 2) || leOf g (o + 0x16) 2 != 0) ||
    !decide ((imgRecs g 0x106).map fun o => leOf g o 4).Nodup

/-! ### Check 0x0A: demodulators -/

/-- Weight `j` of a DMDKERN record of `c` weights (R238, R239). -/
def kernWeight (g : Nat → Nat) (o j : Nat) : Nat :=
  if imgFeature g 0 then leOf g (o + 32 + 16 * (j / 3)) 16 / 2 ^ (36 * (j % 3)) % 2 ^ 36 else leOf g (o + 32 + 8 * j) 8 % 2 ^ 36

/-- The reserved bits of the weights are not zero; a last group of fewer than three has its other fields zero. -/
def kernPadBad (g : Nat → Nat) (o c : Nat) : Bool :=
  if imgFeature g 0 then
    (List.range ((c + 2) / 3)).any fun i => decide (2 ^ (36 * min 3 (c - 3 * i)) ≤ leOf g (o + 32 + 16 * i) 16)
  else (List.range c).any fun j => slotBad g (o + 32 + 8 * j)

/-- DMDKERN (R238). -/
def kernBad (g : Nat → Nat) : Bool :=
  ((imgRecs g 0x107).any fun o =>
    let c := leOf g (o + 4) 4
    decide (1023 < leOf g o 2 ∨ c = 0 ∨ 4096 < c ∨ 2 ^ 48 ≤ leOf g (o + 8) 8) || leOf g (o + 2) 2 != 0 || leOf g (o + 0x14) 12 != 0 ||
      kernPadBad g o c) ||
    !decide ((imgRecs g 0x107).map fun o => leOf g o 2).Nodup

/-- A field of `n` bytes is a `w`-bit number with its sign extended. -/
def sextBad (g : Nat → Nat) (o n w : Nat) : Bool := decide (leOf g o n ≠ wrapI (sgn w (leOf g o n)) (8 * n))

/-- Threshold `k` of a DISC record. -/
def discT (g : Nat → Nat) (o k : Nat) : Int := sgn 36 (leOf g (o + 0x18 + 8 * k) 8)

/-- DISC (R241). -/
def discBad (g : Nat → Nat) : Bool :=
  ((imgRecs g 0x108).any fun o =>
    let m := leOf g (o + 2) 1
    decide (1023 < leOf g o 2 ∨ 4 < m ∨ 2 < leOf g (o + 3) 1) || leOf g (o + 4) 4 != 0 || leOf g (o + 0x30) 16 != 0 ||
      ((List.range 4).any fun k => sextBad g (o + 8 + 4 * k) 4 18) || ((List.range 3).any fun k => sextBad g (o + 0x18 + 8 * k) 8 36) ||
      (m == 2 && !decide (discT g o 0 ≤ discT g o 1 ∧ discT g o 1 ≤ discT g o 2)) || (decide (m = 1 ∨ m = 4) && decide (discT g o 2 < 0))) ||
    !decide ((imgRecs g 0x108).map fun o => leOf g o 2).Nodup

/-- PUB of demodulator `d`: 2 without a record (R241). -/
def imgPub (g : Nat → Nat) (d : Nat) : Nat :=
  match (imgRecs g 0x108).find? fun o => leOf g o 2 == d with
  | some o => leOf g (o + 3) 1
  | none => 2

/-! ### Check 0x0A: Calipers -/

/-- The instruction with operation `op` and low 30 bits `w` at address `pc` keeps R267 (Tables CLP-4 to CLP-7). -/
def clpFormOk (op w pc : Nat) : Bool :=
  match op with
  | 0x00 | 0x01 | 0x03 | 0x1B => w == 0
  | 0x02 => onlyBits w 0x3FC03FFF && decide (bits w 29 26 ≤ 4)
  | 0x04 => onlyBits w 0x3E000FFF
  | 0x05 => (!bit w 29 || bits w 28 18 == 0) && decide (pc < w % 2 ^ 14)
  | 0x06 => true
  | 0x07 => onlyBits w 0x3000FFFF && bits w 29 28 != 3
  | 0x08 => onlyBits w 0x3FFFF800 && !bit w 28
  | 0x09 => onlyBits w 0x3FFFC000 && !bit w 28
  | 0x0A => onlyBits w 0x3FFFF800 && !bit w 25
  | 0x0B => onlyBits w 0x3FFFC000 && !bit w 25
  | 0x0C => onlyBits w 0x3FFFC000 && decide (bits w 26 21 ≤ if bit w 27 then 62 else 44)
  | 0x0D => onlyBits w (if bit w 20 then 0x3FFF0000 else 0x3FFFE000)
  | 0x0E => onlyBits w 0x3FFE0000 && bits w 25 23 != 7
  | 0x10 => onlyBits w 0x3FFFFFE0
  | 0x11 => onlyBits w (if bit w 17 then 0x3FFE1FFF else 0x3FFFE000) && decide (bits w 29 26 ≤ 11)
  | 0x12 => onlyBits w 0x3E03FFFF
  | 0x13 => onlyBits w (if bit w 25 then 0x3E0F0000 else 0x3E00FFFF)
  | 0x14 => onlyBits w 0x3FFFF000 && bits w 16 13 != 0
  | 0x15 => onlyBits w 0x3FE00000 && decide (bits w 25 21 ≤ 9)
  | 0x18 => onlyBits w 0x3C00FFFF
  | 0x19 => onlyBits w 0x3FC00000
  | 0x1A => onlyBits w 0x3C003FFF
  | _ => false

/-- Deposit channel `c` of a CLPPROG record: KIND, SIZE_LOG2, SRC, BASE (CLP_DEP). -/
def imgDep (g : Nat → Nat) (o c : Nat) : Nat × Nat × Nat × Nat :=
  let w := leOf g (o + 0x10 + 4 * c) 4
  (bits w 31 30, bits w 29 26, bits w 23 16, w % 65536)

/-- The deposit channels of a record break R282; a channel of KIND 0 is off and is not tested. -/
def depBad (g : Nat → Nat) (o : Nat) : Bool :=
  let on := ((List.range 4).map (imgDep g o)).filter fun d => d.1 != 0
  (on.any fun d =>
    decide (d.2.1 < 4) || d.2.2.2 % 2 ^ d.2.1 != 0 || (if d.1 = 3 then decide (7 < d.2.2.1) else decide (127 < d.2.2.1))) ||
    ((on.any fun d => d.1 == 3) && decide (1 < on.length)) ||
    on.zipIdx.any fun p => on.zipIdx.any fun q =>
      decide (p.2 < q.2) && decide (p.1.2.2.2 < q.1.2.2.2 + 2 ^ q.1.2.1 ∧ q.1.2.2.2 < p.1.2.2.2 + 2 ^ p.1.2.1)

/-- CLPPROG (R282). -/
def clpprogBad (g : Nat → Nat) : Bool :=
  ((imgRecs g 0x109).any fun o =>
    let m := leOf g (o + 2) 1
    let pc := leOf g (o + 4) 4
    let dc := leOf g (o + 8) 4
    let e := leOf g (o + 0x0C) 2
    let mask := leOf g (o + 0x40) 4
    decide (63 < leOf g o 2 ∨ m = 0 ∨ 2 < m ∨ 16384 < pc ∨ 65536 < dc ∨ 65536 < leOf g (o + 0x0E) 2 + dc ∨ 65536 ≤ mask) || leOf g (o + 3) 1 != 0 ||
      (if pc = 0 then e != 0 else decide (pc ≤ e)) || (m == 1 && bit mask 4) || leOf g (o + 0x44) 12 != 0 ||
      ((List.range 16).any fun k => decide (2 ^ 14 ≤ leOf g (o + 0x20 + 2 * k) 2)) || depBad g o ||
      ((List.range (pc + dc)).any fun k => slotBad g (o + 80 + 8 * k)) ||
      ((List.range pc).any fun k => let w := leOf g (o + 80 + 8 * k) 8; !clpFormOk (bits w 35 30) (w % 2 ^ 30) k)) ||
    !decide ((imgRecs g 0x109).map fun o => leOf g o 2).Nodup

/-- The CLPPROG record of Caliper `n`. -/
def imgClp (g : Nat → Nat) (n : Nat) : Option Nat := (imgRecs g 0x109).find? fun o => leOf g o 2 == n

/-! ### Check 0x0A: decisions and parity -/

/-- Declarations: bit, FIRST_PUB (Table DEC-3). -/
def imgDecls (g : Nat → Nat) : List (Nat × Nat) :=
  (imgRecs g 0x10A).filterMap fun o => if bits (leOf g o 2) 15 14 = 0 then some (leOf g o 2 % 2048, leOf g (o + 4) 4) else none

/-- Bindings: Chisel × 64 + K, bit. -/
def imgBinds (g : Nat → Nat) : List (Nat × Nat) :=
  (imgRecs g 0x10A).filterMap fun o =>
    let w := leOf g o 2
    if bits w 15 14 = 1 then some (bits w 13 7 * 64 + w % 64, leOf g (o + 2) 2 % 2048) else none

/-- FIRST_PUB of a declared bit. -/
def imgFirstPub (g : Nat → Nat) (b : Nat) : Option Nat := ((imgDecls g).find? fun d => d.1 == b).map (·.2)

/-- DECMAP (R287). -/
def decmapBad (g : Nat → Nat) : Bool :=
  ((imgRecs g 0x10A).any fun o =>
    let w := leOf g o 2
    match bits w 15 14 with
    | 0 => bits w 13 11 != 0 || leOf g (o + 2) 2 != 0 || decide (imgShotLen g ≤ leOf g (o + 4) 4)
    | 1 => bit w 6 || decide (2048 ≤ leOf g (o + 2) 2) || leOf g (o + 4) 4 != 0
    | _ => true) ||
    !decide ((imgDecls g).map (·.1)).Nodup || !decide ((imgBinds g).map (·.1)).Nodup

/-- A count of the PARTAB header (Table PFU-2); 0 without the section. -/
def parCount (g : Nat → Nat) (k : Nat) : Nat := match imgRecs g 0x10B with | o :: _ => leOf g (o + 4 * k) 4 | [] => 0

/-- Where array `k` of PARTAB begins: slots, checks, neighbourhoods, publications, table (Table PFU-2). -/
def parBase (g : Nat → Nat) (k : Nat) : Nat :=
  (imgRecs g 0x10B).headD 0 + 64 + ((List.range k).map fun j => parCount g j * [16, 16, 64, 4].getD j 0).foldl (· + ·) 0

/-- Slot `r`: E, first check, checks, first neighbourhood, neighbourhoods (Table PFU-3). -/
def parSlot (g : Nat → Nat) (r : Nat) : Nat × Nat × Nat × Nat × Nat :=
  let o := parBase g 0 + 16 * r
  (leOf g o 4, leOf g (o + 4) 2, leOf g (o + 6) 2, leOf g (o + 8) 2, leOf g (o + 10) 2)

/-- The inputs of check `c`. -/
def parCheck (g : Nat → Nat) (c : Nat) : List Nat := (List.range 8).map fun i => leOf g (parBase g 1 + 16 * c + 2 * i) 2

/-- The inputs of neighbourhood `n`. -/
def parNbhd (g : Nat → Nat) (n : Nat) : List Nat := (List.range 12).map fun i => leOf g (parBase g 2 + 64 * n + 8 + 2 * i) 2

/-- N of neighbourhood `n`. -/
def parN (g : Nat → Nat) (n : Nat) : Nat := leOf g (parBase g 2 + 64 * n) 1

/-- Publication entry `p`. -/
def parPub (g : Nat → Nat) (p : Nat) : Nat := leOf g (parBase g 3 + 4 * p) 4

/-- Slot `r` is out of range. -/
def parSlotBad (g : Nat → Nat) (r : Nat) : Bool :=
  let (e, fc, nc, fn, nn) := parSlot g r
  decide (imgShotLen g ≤ e + 14 ∨ nc = 0 ∨ 2048 < nc ∨ 256 < nn ∨ parCount g 1 < fc + nc ∨ parCount g 2 < fn + nn) ||
    leOf g (parBase g 0 + 16 * r + 12) 4 != 0 || (decide (0 < r) && decide (e < (parSlot g (r - 1)).1 + 4)) ||
    (List.range nn).any fun k => ((parNbhd g (fn + k)).take (parN g (fn + k))).any fun x =>
      !bit x 15 && !decide (fc ≤ x % 2048 ∧ x % 2048 < fc + nc)

/-- Neighbourhood `n` is out of range (Table PFU-4). -/
def parNbhdBad (g : Nat → Nat) (n : Nat) : Bool :=
  let o := parBase g 2 + 64 * n
  let k := parN g n
  decide (k = 0 ∨ 12 < k ∨ parCount g 4 < leOf g (o + 4) 4 + 2 ^ k) || leOf g (o + 1) 3 != 0 || leOf g (o + 4) 4 % 2 ^ k != 0 ||
    ((parNbhd g n).zipIdx.any fun p => bits p.1 14 11 != 0 || (decide (k ≤ p.2) && p.1 != 0)) ||
    (List.range 8).any fun t => let w := leOf g (o + 0x20 + 4 * t) 4; bits w 30 18 != 0 || (bit w 31 && bits w 17 16 == 0)

/-- PARTAB (R306). -/
def partabBad (g : Nat → Nat) : Bool :=
  match imgRecs g 0x10B with
  | [] => false
  | o :: _ =>
    decide (parCount g 0 = 0 ∨ 16 < parCount g 0 ∨ 2048 < parCount g 1 ∨ 1024 < parCount g 2 ∨ 512 < parCount g 3 ∨ 262144 < parCount g 4 ∨
        1 < parCount g 5) || parCount g 4 % 4 != 0 || leOf g (o + 0x18) 40 != 0 || (List.range (parCount g 0)).any (parSlotBad g) ||
      ((List.range (parCount g 1)).any fun c => (parCheck g c).any (fun x => bits x 14 11 != 0) || !(parCheck g c).any fun x => bit x 15) ||
      (List.range (parCount g 2)).any (parNbhdBad g) ||
      ((List.range (parCount g 3)).any fun p =>
        let w := parPub g p
        bits w 11 9 != 0 || bit w 15 || bits w 31 30 != 0 || decide (3 < bits w 14 12) ||
          decide ((if bits w 14 12 < 2 then parCount g 1 else parCount g 2) ≤ bits w 26 16)) ||
      (List.range (parCount g 4)).any fun t => bits (leOf g (parBase g 4 + 2 * t) 2) 13 8 != 0

/-! ### Check 0x0A: harvest points, gaps and lanes -/

/-- HARVEST (Table GLB-16): each POINT once. -/
def harvestBad (g : Nat → Nat) : Bool :=
  ((imgRecs g 0x10C).any fun o =>
    let k := leOf g (o + 6) 1
    decide (191 < leOf g (o + 2) 2 ∨ 1 < k ∨ 65535 < leOf g (o + 8) 4 ∨ 511 < leOf g (o + 0x0C) 2) || leOf g (o + 7) 1 != 0 ||
      leOf g (o + 0x0E) 2 != 0 || leOf g (o + 0x18) 8 != 0 || slotBad g (o + 0x10) ||
      (if k = 0 then leOf g (o + 0x0C) 2 != 0 else leOf g (o + 0x10) 8 != 0)) ||
    !decide ((imgRecs g 0x10C).map fun o => leOf g o 2).Nodup

/-- GAP (Table GLB-17), the fields that R54 does not name. -/
def gapBad (g : Nat → Nat) : Bool :=
  (imgRecs g 0x10D).any fun o =>
    decide (leOf g (o + 4) 4 < 40 ∨ 1048576 < leOf g (o + 4) 4 ∨ 4 < leOf g (o + 8) 1 ∨ 15 < leOf g (o + 9) 1 ∨ leOf g (o + 0x0C) 2 = 0) ||
      leOf g (o + 0x0E) 2 != 0

/-- L of a LANSLOT record (R57). -/
def lanRecL (g : Nat → Nat) (o : Nat) : Nat := leOf g (o + 2) 2

/-- Transmit entry `p` of a LANSLOT record. -/
def lanRecTx (g : Nat → Nat) (o p : Nat) : Nat := leOf g (o + 8 + 4 * p) 4

/-- Bytes 0 to 3 of its receive entry `p`. -/
def lanRecRx (g : Nat → Nat) (o p : Nat) : Nat := leOf g (o + 8 + 4 * lanRecL g o + 16 * p) 4

/-- A reserved entry of KIND `k`. -/
def lanIs (w k : Nat) : Bool := bit w 31 && bits w 30 28 == k

/-- LANSLOT, the fields of R57 and Table GLB-22. -/
def lanslotBad (g : Nat → Nat) : Bool :=
  ((imgRecs g 0x10F).any fun o =>
    let l := lanRecL g o
    decide (23 < leOf g o 2 ∨ l = 0 ∨ 4096 < l) || leOf g (o + 4) 4 != 0 || ((List.range l).any fun p =>
      let t := lanRecTx g o p
      let r := lanRecRx g o p
      bits t 27 5 != 0 || decide (2 < bits t 30 28) || bits r 27 10 != 0 || bits r 4 2 != 0 || decide (2 < bits r 30 28) ||
        (bits r 30 28 == 2 && decide (23 < bits r 9 5)) || leOf g (o + 8 + 4 * l + 16 * p + 4) 4 != 0)) ||
    !decide ((imgRecs g 0x10F).map fun o => leOf g o 2).Nodup

/-! ### Checks 0x0B to 0x0F -/

/-- The decision bits that a round slot reads. -/
def parReads (g : Nat → Nat) (r : Nat) : List Nat :=
  let (_, fc, nc, fn, nn) := parSlot g r
  ((List.range nc).flatMap fun k => (parCheck g (fc + k)).filterMap fun x => if bit x 15 then some (x % 2048) else none) ++
    (List.range nn).flatMap fun k => ((parNbhd g (fn + k)).take (parN g (fn + k))).filterMap fun x => if bit x 15 then some (x % 2048) else none

/-- A decision bit has a source in the image (R287). -/
def bitSourced (g : Nat → Nat) (b : Nat) : Bool :=
  if b < 1024 then imgPub g b == 0 || imgPub g (b / 2 * 2) == 1 || imgPub g (b / 2 * 2 + 1) == 1
  else if b < 1280 then (imgClp g ((b - 1024) / 4)).any fun o => leOf g (o + 2) 1 == 1
  else if b < 1792 then (List.range (parCount g 3)).any fun p => parPub g p % 512 == b - 1280
  else (imgRecs g 0x10F).any fun o => (List.range (lanRecL g o)).any fun p =>
    lanIs (lanRecRx g o p) 0 && lanRecRx g o p % 4 == (b - 1792) / 64

/-- Code 0x0B (R242, R287). -/
def mapConflict (g : Nat → Nat) : Bool :=
  ((imgRecs g 0x108).any fun o =>
    let d := leOf g o 2
    leOf g (o + 3) 1 == 1 && imgPub g (if d % 2 = 0 then d + 1 else d - 1) != 2) ||
    ((imgDecls g).any fun d => !bitSourced g d.1) || ((imgBinds g).any fun b => (imgFirstPub g b.2).isNone) ||
    !decide ((List.range (parCount g 3)).map fun p => parPub g p % 512).Nodup ||
    ((List.range (parCount g 1)).any fun c => (parCheck g c).any fun x => bit x 15 && (imgFirstPub g (x % 2048)).isNone) ||
    (List.range (parCount g 2)).any fun n => ((parNbhd g n).take (parN g n)).any fun x => bit x 15 && (imgFirstPub g (x % 2048)).isNone

/-- A transmit entry at position `p` of a record of length `l` can fall before shot position `f` (R287). -/
def txEarly (g : Nat → Nat) (l p f : Nat) : Bool :=
  let o := (imgRecs g 0x101).headD 0
  let a := if imgStartMode g = 1 then leOf g (o + 0x12) 2 * 4000 else 4
  let k := Nat.gcd l (imgShotLen g)
  let gg := if imgStartMode g = 2 then k else Nat.gcd k a
  let c := if imgStartMode g = 2 then leOf g (o + 0x18) 8 % l else 0
  (List.range (l / gg)).any fun j => decide ((p + l - (c + j * gg) % l) % l < f)

/-- Code 0x0C (R287). -/
def readEarly (g : Nat → Nat) : Bool :=
  ((List.range (parCount g 0)).any fun r => (parReads g r).any fun b => (imgFirstPub g b).any fun f => decide ((parSlot g r).1 < f)) ||
    ((imgDecls g).any fun d => decide (1024 ≤ d.1 ∧ d.1 < 1280 ∧ d.2 ≤ 1)) ||
    (imgRecs g 0x10F).any fun o => (List.range (lanRecL g o)).any fun p =>
      lanIs (lanRecTx g o p) 0 && (imgDecls g).any fun d => d.1 / 64 == lanRecTx g o p % 32 && txEarly g (lanRecL g o) p d.2

/-- An SVASLOT entry breaks R56 or R375. -/
def svaEntryBad (w : Nat) : Bool :=
  if bit w 15 then
    match bits w 14 12 with
    | 0 => decide (511 < w % 4096)
    | 1 => decide (24 < w % 4096)
    | 2 => decide (15 < w % 4096)
    | _ => true
  else w != 0

/-- The positions of a record of length `m` that fall, on some tick, `d` ticks after position `p` of one of length `l`. -/
def lanMeets (l p m q d : Nat) : Bool := (p + d) % Nat.gcd l m == q % Nat.gcd l m

/-- A LANSLOT record breaks R58. -/
def lanDeliverBad (g : Nat → Nat) : Bool :=
  let l := imgRecs g 0x10F
  l.any fun o => (List.range (lanRecL g o)).any fun p =>
    let r := lanRecRx g o p
    (lanIs r 0 && l.any fun o2 => o2 != o && (List.range (lanRecL g o2)).any fun q =>
      lanIs (lanRecRx g o2 q) 0 && lanRecRx g o2 q % 4 == r % 4 && lanMeets (lanRecL g o) p (lanRecL g o2) q 0) ||
    (lanIs r 2 && match l.find? fun o2 => leOf g o2 2 == bits r 9 5 with
      | none => true
      | some o2 => (List.range (lanRecL g o2)).any fun q => lanMeets (lanRecL g o) p (lanRecL g o2) q 56 && !lanIs (lanRecTx g o2 q) 2)

/-- Code 0x0D. -/
def slotTableBad (g : Nat → Nat) : Bool :=
  ((imgRecs g 0x10E).any fun o => (List.range 256).any fun k => svaEntryBad (leOf g (o + 2 * k) 2)) || lanDeliverBad g

/-- The engine of a harvest queue has a program (R49). -/
def queueEngine (g : Nat → Nat) (q : Nat) : Bool :=
  if q < 128 then (imgRecs g 0x103).any fun o => leOf g o 2 == q else (imgClp g (q - 128)).isSome

/-- Code 0x0E (R50). -/
def harvestDeclBad (g : Nat → Nat) : Bool :=
  (List.range 192).any fun q =>
    let ps := ((imgRecs g 0x10C).filter fun o => leOf g (o + 2) 2 == q).map fun o => leOf g (o + 4) 2
    ps != [] && (decide (1024 < ps.length) || !decide ps.Nodup || ps.any (fun p => decide (ps.length ≤ p)) || !queueEngine g q)

/-- Instances of a gap CLASS (R54). -/
def gapInstances (c : Nat) : Nat := [256, 256, 64, 24, 1].getD c 0

/-- A GAP record. -/
def imgGap (g : Nat → Nat) (o : Nat) : Gap := ⟨leOf g o 4, leOf g (o + 4) 4, leOf g (o + 8) 1, leOf g (o + 9) 1, leOf g (o + 0x0A) 2, leOf g (o + 0x0C) 2⟩

/-- Code 0x0F (R54). -/
def gapDeclBad (g : Nat → Nat) : Bool :=
  let l := (imgRecs g 0x10D).map (imgGap g)
  (l.any fun x => decide (imgShotLen g < x.start + x.length ∨ gapInstances x.cls < x.first + x.count) || (x.cls == 3 && !imgFeature g 1)) ||
    l.zipIdx.any fun p => l.zipIdx.any fun q =>
      let x := p.1
      let y := q.1
      decide (p.2 < q.2) && x.cls == y.cls && decide (x.first < y.first + y.count ∧ y.first < x.first + x.count ∧
        x.start < y.start + y.length ∧ y.start < x.start + x.length)

/-! ### Check 0x11 -/

/-- Is block instance `i` secure under WORLD? -/
def imgSecure (g : Nat → Nat) (i : Nat) : Bool := bit (leOf g ((imgRecs g 3).headD 0 + 4 * i) 1) 0

/-- May a non-secure master not write the register of an INIT record, under WORLD and EVOWN (R480)? -/
def initForbidden (s : State) (g : Nat → Nat) (o : Nat) : Bool :=
  match initReg g o with
  | some (r, is) => r.world == .priv || worldForbids s r is true || r.flds.any fun f => f.acc == .rs
  | none => false

/-- The block instances a GAP record names (Table GLB-17, Table SEC-2). -/
def gapWorld (x : Gap) : List Nat :=
  (List.range x.count).map fun k => match x.cls with
    | 0 => 128 + x.first + k
    | 1 => 128 + x.first + k
    | 2 => 384 + x.first + k
    | 3 => 624 + x.first + k
    | _ => 749

/-- Code 0x11 (R93), `s` with WORLD and EVOWN loaded: the block instances that the sections address. -/
def worldConflict (s : State) (g : Nat → Nat) : Bool :=
  let at_ (t : Nat) (f : Nat → Nat) : Bool := (imgRecs g t).any fun o => imgSecure g (f o)
  ((List.range 128).any fun n => imgEnabled g n && imgSecure g n) || (imgRecs g 0x102).any (initForbidden s g) || at_ 0x103 (fun o => leOf g o 2) ||
    at_ 0x104 (fun o => leOf g o 2) || at_ 0x105 (fun o => 128 + 2 * leOf g o 2) || at_ 0x106 (fun o => leOf g o 2) ||
    at_ 0x107 (fun o => 384 + leOf g o 2 / 16) || at_ 0x108 (fun o => 384 + leOf g o 2 / 16) || at_ 0x109 (fun o => 448 + leOf g o 2) ||
    ((imgRecs g 0x10A).any fun _ => imgSecure g 744) || ((imgBinds g).any fun b => imgSecure g (b.1 / 64)) ||
    ((imgRecs g 0x10B).any fun _ => imgSecure g 745) ||
    at_ 0x10C (fun o => let q := leOf g (o + 2) 2; if q < 128 then q else 448 + (q - 128)) || imgSecure g 747 || imgSecure g 748 ||
    at_ 0x10F (fun o => 624 + leOf g o 2) || (imgRecs g 0x10D).any fun o => (gapWorld (imgGap g o)).any (imgSecure g)

/-! ### The checks together -/

/-- GENERATION. -/
def imgGen (g : Nat → Nat) : Nat := leOf g 6 2

/-- SHA-384 over the whole image (R46). -/
def imgHash (g : Nat → Nat) : Nat := sha384 (bytesOf g 0 (leOf g 0x10 8))

/-- Check 0x10: may this image replace the running one (R45, R46)? -/
def imgGenBad (s : State) (g : Nat → Nat) : Bool :=
  s.boot.hasRun && !(genLater (imgGen g) (s.get R.GLB_ARMATURE_ID_GENERATION) ||
    (imgGen g == s.get R.GLB_ARMATURE_ID_GENERATION && imgHash g == s.boot.runHash) || s.boot.rollback)

/-- Checks 0x0A to 0x11 in code order, 0x10 only where `recast`; `sec` is the state with the secure sections loaded. -/
def imgContent (s sec : State) (g : Nat → Nat) (recast : Bool) : Option Nat :=
  if parkBad g || govlimBad g || worldBad g || evownBad g || keyregBad g || schedBad g || initBad g || chsprogBad g || envBad g || frameBad g ||
      segtabBad g || kernBad g || discBad g || clpprogBad g || decmapBad g || partabBad g || harvestBad g || gapBad g || lanslotBad g then some 0x0A
  else if mapConflict g then some 0x0B
  else if readEarly g then some 0x0C
  else if slotTableBad g then some 0x0D
  else if harvestDeclBad g then some 0x0E
  else if gapDeclBad g then some 0x0F
  else if recast && imgGenBad s g then some 0x10
  else if worldConflict sec g then some 0x11
  else none

end Sys2Proof.Machine
end

