-- ==== Sys2Proof/Machine/Load.lean ====
section
/-! DEFINITION. Loading an image into its destinations, and clearing them (03_casting_and_worlds.md R81, and the section formats of the owning
chapters). -/

namespace Sys2Proof.Machine

/-! ### Clearing -/

/-- The register fields that loading writes, INIT apart. -/
def loadFlds : List Fld :=
  [R.BIA_PARK_CODE, R.BIA_PARK_SPAN, R.GOV_LIM_LO_LIM_LO, R.GOV_LIM_HI_LIM_HI, R.GOV_BIAS_MAG_MAG, R.GOV_CTRL_ACTION, R.GOV_GLIDE_MAX_GMAX,
    R.SEC_WORLD_SECURE, R.SEC_HBM_RGN_ENABLE, R.SEC_HBM_RGN_SECURE, R.SEC_HBM_RGN_STAGING, R.SEC_HBM_RGN_BASE, R.SEC_HBM_LIM_LIMIT,
    R.EVF_CH_SECURE, R.EVF_CH_OWNER, R.GLB_SCHED_CFG_START_MODE, R.GLB_SCHED_CFG_ALIGN, R.GLB_SCHED_LEN_TICKS, R.GLB_SCHED_COUNT_LO_COUNT_LO,
    R.GLB_SCHED_COUNT_HI_COUNT_HI, R.GLB_SCHED_START_LO_TIME_LO, R.GLB_SCHED_START_HI_TIME_HI, R.GLB_BAR_REMOTE, R.CHS_CTRL_ENTRY,
    R.CHS_CTRL_ENABLE, R.SEG_ENT_BYTES, R.DMD_FREQ_LO_F_LO, R.DMD_FREQ_HI_F_HI, R.DMD_PHASE_PHI, R.DMD_CFG_PUB, R.DMD_CFG_MODE, R.DMD_AX_VALUE,
    R.DMD_T_VALUE, R.CLP_CTRL_ENTRY, R.CLP_CTRL_MODE, R.CLP_DEP_KIND, R.CLP_DEP_SIZE_LOG2, R.CLP_DEP_PHASE, R.CLP_DEP_SRC, R.CLP_DEP_BASE,
    R.CLP_EVEC_ADDR, R.PFU_CTRL_SHOT_RESET, R.SVA_SLOT_ENTRY, R.SVA_ACT_ENTRY]

/-- Every table and every loaded destination at its reset value (R81). -/
def loadClear (s : State) : State :=
  { s with
    regs := s.regs.filter fun p => !loadFlds.any fun f => f.id == p.1 / 0x400000
    chsProg := [], chsEnv := [], frmInit := [], frmLive := [], kmem := [], clpProg := [], clpMem := [], clpInit := [], clpEmask := []
    dmap := [], decDecl := [], pfuMem := [], pfuCnt := [], points := [], nq := [], hNext := [], gaps := []
    frmOps := [], lanTx := [], lanRx := [], lanDef := [], lanLen := [], systemTag := 0, boot := { s.boot with gen := 0 } }

/-! ### Secure sections -/

/-- PARK: the pending park registers of the bias dies. -/
def loadPark (g : Nat → Nat) (s : State) : State :=
  forAll (imgRecs g 1).zipIdx s fun s p => (s.set R.BIA_PARK_CODE (leOf g p.1 8) p.2).set R.BIA_PARK_SPAN (bits (leOf g p.1 8) 22 20) p.2

/-- GOVLIM: the GOV registers (R220). -/
def loadGovlim (g : Nat → Nat) (s : State) : State :=
  forAll (imgRecs g 2).zipIdx s fun s p =>
    let s := forAll [0, 1, 2] s fun s k =>
      (s.set R.GOV_LIM_LO_LIM_LO (leOf g (p.1 + 8 * k) 4) (3 * p.2 + k)).set R.GOV_LIM_HI_LIM_HI (leOf g (p.1 + 8 * k + 4) 4) (3 * p.2 + k)
    let c := leOf g (p.1 + 0x1C) 4
    ((s.set R.GOV_BIAS_MAG_MAG (leOf g (p.1 + 0x18) 4) p.2).set R.GOV_GLIDE_MAX_GMAX c p.2).set R.GOV_CTRL_ACTION (c / 2 ^ 24) p.2

/-- WORLD: the SEC registers (R93, R95). -/
def loadWorld (g : Nat → Nat) (s : State) : State :=
  let o := (imgRecs g 3).headD 0
  let s := forAll (List.range 768) s fun s i => s.set R.SEC_WORLD_SECURE (leOf g (o + 4 * i) 4) i
  forAll (List.range 16) s fun s d =>
    let r := worldRgn g d
    let s := ((s.set R.SEC_HBM_RGN_BASE (r.1 / 2 ^ 21) d).set R.SEC_HBM_LIM_LIMIT (r.2.1 / 2 ^ 21) d).set R.SEC_HBM_RGN_ENABLE r.2.2 d
    (s.set R.SEC_HBM_RGN_SECURE (r.2.2 / 2) d).set R.SEC_HBM_RGN_STAGING (r.2.2 / 4) d

/-- EVOWN: the event fabric (R339). -/
def loadEvown (g : Nat → Nat) (s : State) : State :=
  forAll (imgRecs g 4).zipIdx s fun s p => (s.set R.EVF_CH_OWNER (leOf g p.1 4) p.2).set R.EVF_CH_SECURE (leOf g p.1 4 / 256) p.2

/-- Step 3 of R81, on cleared tables. KEYREG goes with the other marks of the running image. -/
def loadSecure (g : Nat → Nat) (s : State) : State := loadEvown g (loadWorld g (loadGovlim g (loadPark g (loadClear s))))

/-! ### Non-secure sections -/

/-- SCHED (R123, R150). -/
def loadSched (g : Nat → Nat) (s : State) : State :=
  let o := (imgRecs g 0x101).headD 0
  let s := (s.set R.GLB_SCHED_LEN_TICKS (leOf g o 4)).set R.GLB_SCHED_COUNT_LO_COUNT_LO (leOf g (o + 8) 4)
  let s := (s.set R.GLB_SCHED_COUNT_HI_COUNT_HI (leOf g (o + 12) 4)).set R.GLB_SCHED_CFG_START_MODE (imgStartMode g)
  let s := (s.set R.GLB_SCHED_CFG_ALIGN (leOf g (o + 0x12) 2)).set R.GLB_SCHED_START_LO_TIME_LO (leOf g (o + 0x18) 4 / 4 * 4)
  let s := s.set R.GLB_SCHED_START_HI_TIME_HI (leOf g (o + 0x1C) 4)
  let s := forAll (List.range 128) s fun s n => s.set R.CHS_CTRL_ENABLE (b2n (imgEnabled g n)) n
  forAll (List.range 16) s fun s b => s.set R.GLB_BAR_REMOTE (leOf g (o + 0x30 + b) 1) b

/-- Write consecutive 36-bit words from 64-bit slots at `o` into a map. -/
def loadWords (g : Nat → Nat) (o n key : Nat) (m : SMap Nat) : SMap Nat :=
  (List.range n).foldl (fun m k => sset 0 m (key + k) (leOf g (o + 8 * k) 8 % 2 ^ 36)) m

/-- CHSPROG (R150). -/
def loadChsprog (g : Nat → Nat) (s : State) : State :=
  forAll (imgRecs g 0x103) s fun s o =>
    let n := leOf g o 2
    { s.set R.CHS_CTRL_ENTRY (leOf g (o + 8) 2) n with chsProg := loadWords g (o + 16) (2 * leOf g (o + 4) 4) (n * 65536) s.chsProg }

/-- ENVMEM. -/
def loadEnv (g : Nat → Nat) (s : State) : State :=
  forAll (imgRecs g 0x104) s fun s o =>
    { s with chsEnv := loadWords g (o + 16) (leOf g (o + 8) 4) (leOf g o 2 * 262144 + leOf g (o + 4) 4) s.chsEnv }

/-- FRAMEINIT (R173). -/
def loadFrames (g : Nat → Nat) (s : State) : State :=
  forAll (imgRecs g 0x105) s fun s o =>
    let key := leOf g o 2 * 2048 + leOf g (o + 2) 2
    let c : Frm := ⟨leOf g (o + 8) 6, leOf g (o + 4) 4, leOf g (o + 0x10) 8⟩
    { s with frmInit := sset {} s.frmInit key c, frmLive := sset {} s.frmLive key c }

/-- SEGTAB (R151); word 0 of an entry only shows its place. -/
def loadSegtab (g : Nat → Nat) (s : State) : State :=
  forAll (imgRecs g 0x106) s fun s o => forAll [1, 2, 3, 4, 5, 6, 7] s fun s w =>
    s.set R.SEG_ENT_BYTES (leOf g (o + 4 * w) 4) (leOf g o 2 * 8192 + leOf g (o + 2) 2 * 8 + w)

/-- DMDKERN (R238). -/
def loadKern (g : Nat → Nat) (s : State) : State :=
  forAll (imgRecs g 0x107) s fun s o =>
    let d := leOf g o 2
    let s := ((s.set R.DMD_FREQ_LO_F_LO (leOf g (o + 8) 4) d).set R.DMD_FREQ_HI_F_HI (leOf g (o + 12) 2) d).set R.DMD_PHASE_PHI (leOf g (o + 0x10) 4) d
    { s with kmem := (List.range (leOf g (o + 4) 4)).foldl (fun m j => sset 0 m (d * 4096 + j) (kernWeight g o j)) s.kmem }

/-- DISC (R241). -/
def loadDisc (g : Nat → Nat) (s : State) : State :=
  forAll (imgRecs g 0x108) s fun s o =>
    let d := leOf g o 2
    let s := (s.set R.DMD_CFG_MODE (leOf g (o + 2) 1) d).set R.DMD_CFG_PUB (leOf g (o + 3) 1) d
    let s := forAll (List.range 4) s fun s k => s.set R.DMD_AX_VALUE (leOf g (o + 8 + 4 * k) 4) (4 * d + k)
    forAll (List.range 3) s fun s k => s.set R.DMD_T_VALUE (leOf g (o + 0x18 + 8 * k) 8) (3 * d + k)

/-- CLPPROG (R281): program, both banks of data memory, deposit channels, vectors and the initial mask. -/
def loadClpprog (g : Nat → Nat) (s : State) : State :=
  forAll (imgRecs g 0x109) s fun s o =>
    let n := leOf g o 2
    let pc := leOf g (o + 4) 4
    let dc := leOf g (o + 8) 4
    let at_ := n * 65536 + leOf g (o + 0x0E) 2
    let s := (s.set R.CLP_CTRL_MODE (leOf g (o + 2) 1) n).set R.CLP_CTRL_ENTRY (leOf g (o + 0x0C) 2) n
    let s := forAll (List.range 4) s fun s c =>
      let w := leOf g (o + 0x10 + 4 * c) 4
      let s := ((s.set R.CLP_DEP_KIND (bits w 31 30) (4 * n + c)).set R.CLP_DEP_SIZE_LOG2 (bits w 29 26) (4 * n + c)).set R.CLP_DEP_PHASE (bits w 25 24) (4 * n + c)
      (s.set R.CLP_DEP_SRC (bits w 23 16) (4 * n + c)).set R.CLP_DEP_BASE w (4 * n + c)
    let s := forAll (List.range 16) s fun s k => s.set R.CLP_EVEC_ADDR (leOf g (o + 0x20 + 2 * k) 2) (16 * n + k)
    { s with clpEmask := sset 0 s.clpEmask n (leOf g (o + 0x40) 4 % 65536)
             clpProg := loadWords g (o + 80) pc (n * 16384) s.clpProg
             clpMem := loadWords g (o + 80 + 8 * pc) dc at_ s.clpMem
             clpInit := loadWords g (o + 80 + 8 * pc) dc at_ s.clpInit }

/-- DECMAP (R286). -/
def loadDecmap (g : Nat → Nat) (s : State) : State :=
  { s with decDecl := (imgDecls g).foldl (fun m d => sset 0 m d.1 (d.2 + 1)) s.decDecl
           dmap := (imgBinds g).foldl (fun m b => sset 0 m b.1 (b.2 + 1)) s.dmap }

/-- PARTAB (R305). -/
def loadPartab (g : Nat → Nat) (s : State) : State :=
  let words (k : Nat) : Nat := parCount g k * [16, 16, 64, 4, 2].getD k 0 / 4
  if imgRecs g 0x10B = [] then s
  else
    { s.set R.PFU_CTRL_SHOT_RESET (parCount g 5) with
      pfuCnt := (List.range 5).map (parCount g)
      pfuMem := (List.range 5).foldl (fun m k => (List.range (words k)).foldl (fun m w => sset 0 m (k * 2 ^ 20 + w) (leOf g (parBase g k + 4 * w) 4)) m) s.pfuMem }

/-- HARVEST (R49, R50). -/
def loadHarvest (g : Nat → Nat) (s : State) : State :=
  forAll (imgRecs g 0x10C) s fun s o =>
    let q := leOf g (o + 2) 2
    let h : HPoint := { queue := q, pos := leOf g (o + 4) 2, kind := leOf g (o + 6) 1, slack := leOf g (o + 8) 4, chan := leOf g (o + 0x0C) 2
                        dflt := leOf g (o + 0x10) 8 % 2 ^ 36 }
    { s with points := sset none s.points (leOf g o 2) (some h), nq := sset 0 s.nq q (sget 0 s.nq q + 1) }

/-- GAP (R53). -/
def loadGaps (g : Nat → Nat) (s : State) : State := { s with gaps := (imgRecs g 0x10D).map (imgGap g) }

/-- SVASLOT: both tables of each stack (R374). -/
def loadSvaslot (g : Nat → Nat) (s : State) : State :=
  forAll (imgRecs g 0x10E).zipIdx s fun s p => forAll (List.range 256) s fun s k =>
    let w := leOf g (p.1 + 2 * k) 2
    (s.set R.SVA_SLOT_ENTRY w (256 * p.2 + k)).set R.SVA_ACT_ENTRY w (256 * p.2 + k)

/-- LANSLOT (R57). -/
def loadLanslot (g : Nat → Nat) (s : State) : State :=
  forAll (imgRecs g 0x10F) s fun s o =>
    let l := leOf g o 2
    let n := lanRecL g o
    let put (m : SMap Nat) (f : Nat → Nat) : SMap Nat := (List.range n).foldl (fun m p => sset 0 m (l * 4096 + p) (f p)) m
    { s with lanLen := sset 0 s.lanLen l n, lanTx := put s.lanTx (lanRecTx g o), lanRx := put s.lanRx (lanRecRx g o)
             lanDef := put s.lanDef fun p => leOf g (o + 8 + 4 * n + 16 * p + 8) 8 }

/-- SVA_SEED of both stacks: bytes 0 to 3 of the non-secure hash, little-endian, XOR the stack. -/
def loadSeeds (g : Nat → Nat) (s : State) : State :=
  let h := leOf (fun i => imgNsHash g / 256 ^ (47 - i) % 256) 0 4
  forAll [0, 1] s fun s t => let x := Nat.xor h t; seedWritten (s.set R.SVA_SEED_SEED x t) t

/-- Step 6 of R81: the INIT records in order, each one aligned write of its register's width by the loader (R480). -/
def loadInit (g : Nat → Nat) (s : State) : State :=
  forAll (imgRecs g 0x102) s fun s o =>
    regWrite s .loader (leOf g o 8) (if wideAt (leOf g o 8) then 64 else 32) (leOf g (o + 8) 8)

/-- The non-secure sections in the order of their types; each has destinations of its own. -/
def loadSections (g : Nat → Nat) (s : State) : State :=
  let s := loadEnv g (loadChsprog g (loadSched g s))
  let s := loadDisc g (loadKern g (loadSegtab g (loadFrames g s)))
  let s := loadPartab g (loadDecmap g (loadClpprog g s))
  loadLanslot g (loadSvaslot g (loadGaps g (loadHarvest g s)))

/-- Steps 3 to 6 of R81 for an image that passes its checks. The harvested value queues are emptied at step 3 (R22), and the governor state saved
in STANDBY replaces the reset state there (R448). -/
def loadAll (g : Nat → Nat) (s : State) : State :=
  let s := harvestFlush (loadSecure g s)
  let s := if s.boot.cause = 0 then govRestore s else s
  let s := loadSections g s
  let s := loadSeeds g { s with systemTag := leOf g 0x20 4, boot := { s.boot with gen := imgGen g } }
  loadInit g s

/-- The checks of steps 1, 2 and 5 of R81, and check 0x10 where `recast`: the first code that fails. `extra` is a check between 0x07 and 0x08. -/
def imgVerify (s : State) (g : Nat → Nat) (recast : Bool) (extra : Option Nat) : Option Nat :=
  (imgHead s g).or (extra.or ((imgSecSig s g).or ((imgNsSig g).or (imgContent s (loadSecure g s) g recast))))

/-- The marks of the running image: GLB_ARMATURE_ID, its slot and key slot, its hash, KEYREG (R46, R48, Table GLB-19). -/
def imgRunning (g : Nat → Nat) (k : Nat) (s : State) : State :=
  let s := ((s.set R.GLB_ARMATURE_ID_MAJOR (leOf g 4 1)).set R.GLB_ARMATURE_ID_MINOR (leOf g 5 1)).set R.GLB_ARMATURE_ID_GENERATION (imgGen g)
  let s := (s.set R.BOOT_STATUS_ACTIVE_SLOT k).set R.SEC_KEY_STATE_ACTIVE (imgKeySlot g)
  { s with boot := { s.boot with hasRun := true, runHash := imgHash g, userKey := imgUserKey g
                                 rollback := leOf g ((imgRecs g 5).headD 0 + 0x61) 1 == 1 } }

end Sys2Proof.Machine
end

