-- ==== Sys2Proof/Machine/Boot.lean ====
section
/-! DEFINITION. The casting loader from FIRMWARE to CAST, staging, re-casting, OTP key slots, user calibration and user code
(03_casting_and_worlds.md R73 to R90, R96; 14_service_plane_and_host.md R362; 16_pointing_calibration_and_monitoring.md R434, R435). What the
flash device or a second read of it may do wrong comes with the command. -/

namespace Sys2Proof.Machine

/-- Change what casting holds beside its registers. -/
def updBoot (s : State) (f : BootSt → BootSt) : State := { s with boot := f s.boot }

/-- A byte of HBM as a number, at `a` on. -/
def hbmAcc (s : State) (a : Nat) (i : Nat) : Nat := (hbmByte s (a + i)).toNat

/-- NO_IMAGE with its code: the cold cast ends, and the outputs stand as in R70: muted, and disconnected (R78, Table BOOT-1). -/
def noImage (s : State) (code : Nat) : State :=
  let s := biasOpen s
  let s := ((s.set R.BOOT_STATUS_STATE 8).set R.BOOT_STATUS_OP 0).set R.BOOT_STATUS_LAST_CODE code
  logWrite (globalEvent (bootLog s 0x0D code 0 0) 2)

/-! ### Firmware images (R362, Table GLB-27) -/

/-- Where the segments of a firmware image are described. -/
def fwSegs (g : Nat → Nat) : List Nat := (List.range (leOf g 8 1)).map fun j => 0x40 + 32 * j

/-- The HBM window of the core address map (Table GLB-25). -/
def coreHbm : Nat := 0x1000000000

/-- A segment of `n` bytes at core address `a` lies in SRAM or HBM; of user code (`user`), in the non-secure parts of them. -/
def fwPlace (s : State) (user : Bool) (a n : Nat) : Bool :=
  decide ((if user then 0x08100000 else 0x08000000) ≤ a ∧ a + n ≤ 0x08400000) ||
    (decide (coreHbm ≤ a ∧ a + n ≤ coreHbm + hbmSize) && (!user || hbmNonSecure s (a - coreHbm) n))

/-- A segment descriptor is in order. -/
def fwSegOk (s : State) (user : Bool) (g : Nat → Nat) (len o : Nat) : Bool :=
  decide (leOf g o 4 + leOf g (o + 4) 4 ≤ len - 96) && zeroSpan g (o + 0x19) (o + 0x20) && fwPlace s user (leOf g (o + 8) 8) (leOf g (o + 4) 4) &&
    (!user || leOf g (o + 0x18) 1 % 16 == 0)

/-- A firmware image of `len` bytes verifies against `key`. -/
def fwOk (s : State) (user : Bool) (g : Nat → Nat) (len : Nat) (key : Option Nat) : Bool :=
  let k := leOf g 8 1
  leOf g 0 4 == 0x464E4C50 && decide (1 ≤ k ∧ k ≤ 16 ∧ 0x40 + 32 * k + 96 ≤ len) && zeroSpan g 0x0A 0x40 &&
    (fwSegs g).all (fwSegOk s user g len) &&
    key.any fun q => ecdsaOk q (sha384 (bytesOf g 0 (len - 96))) (be48 g (len - 96)) (be48 g (len - 48))

/-- Copy one segment to its core address. -/
def fwCopy (g : Nat → Nat) (s : State) (o : Nat) : State :=
  let a := leOf g (o + 8) 8
  forAll (bytesOf g (leOf g o 4) (leOf g (o + 4) 4)).zipIdx s fun s p =>
    if coreHbm ≤ a then hbmPut s (a - coreHbm + p.2) (BitVec.ofNat 8 p.1) else { s with sram := sset 0 s.sram (a + p.2) p.1 }

/-- Every core that some segment names. -/
def fwMask (g : Nat → Nat) : Nat := (fwSegs g).foldl (fun m o => m ||| leOf g (o + 0x18) 1) 0

/-- The cores a segment names in CORE_MASK start at its ENTRY (R362). -/
def fwEntries (s : State) (g : Nat → Nat) : State :=
  updBoot s fun b => { b with entry := (fwSegs g).foldl (fun e o =>
    ((List.range 8).filter (bit (leOf g (o + 0x18) 1))).foldl (fun e k => sset 0 e k (leOf g (o + 0x10) 8)) e) b.entry }

/-- The named cores that are not held start. -/
def coresStart (s : State) (mask : Nat) : State :=
  forAll ((List.range 8).filter fun k => bit mask k && !bit (s.get R.GLB_PLN_CTRL_HOLD) k) s fun s k => s.set R.GLB_PLN_STATUS_STATE 2 k

/-! ### User calibration (R434, R435) -/

/-- A record: item, SUB, instance, zone, delta. -/
def calRec (w : Nat) : Nat × Nat × Nat × Nat × Int := (w % 256, bits w 14 8, bits w 27 16, bits w 35 32, sgn 16 (bits w 63 48))

/-- It is within Table PNT-1. -/
def calOk (r : Nat × Nat × Nat × Nat × Int) : Bool :=
  let (item, sub, n, z, d) := r
  decide (1 ≤ item ∧ item ≤ 8 ∧ sub < pntSubs item ∧ n < pntInstances item ∧ z ≤ (if item = 5 ∨ item = 6 then 2 else 0) ∧
    pntLo item ≤ d ∧ d ≤ pntHi item)

/-- A loaded delta applies: in the register, or in the set of a zone that is not selected (R420, R483). -/
def calApply (s : State) (r : Nat × Nat × Nat × Nat × Int) : State :=
  let (item, sub, n, z, d) := r
  let s := setPntDelta s item z sub n d
  let t := pntTarget s item sub n d
  let s := s.when t.2 fun s => s.set R.PNT_STATUS_CLAMPED 1
  if (item = 5 ∨ item = 6) ∧ z ≠ pntZone s item n then
    { s with zoneSets := sset 0 s.zoneSets (zoneKey n z (if item = 5 then 16 + sub else sub)) (wrapI t.1 16 + 1) }
  else setPntApplied s item sub n t.1

/-- The deltas of the highest VALID user calibration slot are loaded (R435). -/
def calLoad (s : State) : State :=
  let s := slotDiscards { s with pnt := { s.pnt with delta := [] } } 2
  match slotCands s 2 with
  | [] => s
  | j :: _ =>
    let rs := (List.range (slotLen s j / 8)).map fun i => calRec (leOf (slotByte s j) (8 * i) 8)
    let s := forAll (rs.filter calOk) s calApply
    s.when (rs.any fun r => !calOk r) fun s => bootLog s 2 0x0A j 0

/-- The content that CAL_COMMIT writes: a record for every delta that is not zero. -/
def calBytes (s : State) : List Nat :=
  s.pnt.delta.flatMap fun p =>
    leBytes 8 (p.1 / 4096 / 128 / 4 + p.1 / 4096 % 128 * 2 ^ 8 + p.1 % 4096 * 2 ^ 16 + p.1 / 4096 / 128 % 4 * 2 ^ 32 + p.2 * 2 ^ 48)

/-- What refuses a journaled write to a pair: SEQ exhausted, or the window of R80; 0 where nothing does. -/
def writeRefused (s : State) (k : Nat) : Nat := if 0xFFFFFFFF ≤ slotNext s k then 0x23 else if !flashCool s then 0x22 else 0

/-- CAL_COMMIT: the journaled write of user calibration; its code (R434, R85). -/
def calCommit (s : State) : Nat × State :=
  if s.get R.BOOT_STATUS_OP ≠ 0 then (0x20, s)
  else
    let code := writeRefused s 2
    let k := slotTarget s 2
    let s := s.when (code == 0) fun s => slotCommit (slotBegin s k (slotNext s 2) (calBytes s)) k
    (code, logWrite (globalEvent (s.set R.BOOT_STATUS_LAST_CODE code) 2))

/-! ### The cold cast -/

/-- Is the service plane running (R98)? -/
def serviceUp (s : State) : Bool := !s.xtalFail

/-- The firmware of slot `k` starts: segments, cores, HBM training, then user calibration (R362, R374, R435). -/
def fwStart (s : State) (k : Nat) : State :=
  let g := slotByte s k
  let s := updBoot (arbTrained (coresStart (fwEntries (forAll (fwSegs g) s (fwCopy g)) g) (fwMask g))) fun b => { b with fw := some k }
  (calLoad (bootLog s 0x0A 0 k (leOf g 4 4))).set R.BOOT_STATUS_STATE 3

/-- Slots in order: the first whose firmware verifies starts, each other one is logged. -/
def fwTry (s : State) : List Nat → State
  | [] => noImage s 0x25
  | k :: l =>
    let g := slotByte s k
    if fwOk s false g (slotLen s k) (otpKey s (leOf g 9 1)) then fwStart s k else fwTry (bootLog s 2 0x25 k 0) l

/-- The firmware slots to try: on leaving STANDBY the one that runs, else those of R78 (R448). -/
def fwCands (s : State) : List Nat := if s.boot.cause = 0 then s.boot.fw.toList else slotCands s 6

/-- FIRMWARE_VERIFY: the boot ROM selects and verifies a firmware slot, on leaving STANDBY the one that runs; `fallback` is a flash device without the
fast mode (R76, R78, R362, R448). -/
def execFirmwareVerify (fallback : Bool) (s : State) : Host.Outcome State Fault Refusal :=
  .next (if serviceUp s ∧ s.get R.BOOT_STATUS_STATE = 2 then
    let s := slotDiscards (s.when fallback fun s => bootLog s 0x0C 0 0 0) 6
    fwTry (updBoot s fun b => { b with cand := [], last := 0 }) (fwCands s)
  else s)

/-- What BOOT_STATUS, BOOT_SEQ and BOOT_GEN show of the image slots. -/
def slotsShow (s : State) : State :=
  let q (k : Nat) : Nat := if slotState s k = 1 ∨ slotState s k = 2 then slotSeq s k else 0
  let g (k : Nat) : Nat := if slotState s k = 1 then imgGen (slotByte s k) else 0
  let s' := (s.set R.BOOT_STATUS_SLOT_A (slotState s 0)).set R.BOOT_STATUS_SLOT_B (slotState s 1)
  (((s'.set R.BOOT_SEQ_A_SEQ (q 0)).set R.BOOT_SEQ_B_SEQ (q 1)).set R.BOOT_GEN_AB_GEN_A (g 0)).set R.BOOT_GEN_AB_GEN_B (g 1)

/-- SLOT_SELECT: the image slots are read and their candidates ordered, or the next candidate is taken (R73, R78). -/
def execSlotSelect (s : State) : Host.Outcome State Fault Refusal :=
  .next (if serviceUp s ∧ s.get R.BOOT_STATUS_STATE = 3 then
    if s.boot.last = 0 ∧ s.boot.cand = [] then
      let s := slotsShow (slotDiscards s 0)
      let s := updBoot s fun b => { b with cand := slotCands s 0 }
      if s.boot.cand = [] then noImage s 0x29 else s.set R.BOOT_STATUS_STATE 4
    else if s.boot.cand = [] then noImage s s.boot.last
    else s.set R.BOOT_STATUS_STATE 4
  else s)

/-- The slot of the candidate. -/
def candSlot (s : State) : Nat := s.boot.cand.headD 0

/-- GENERATION for a log entry: 0 where the header is not one. -/
def logGen (g : Nat → Nat) : Nat := if leOf g 0 4 = 0x544D5241 then imgGen g else 0

/-- The candidate is refused, and the next one is tried (R78). -/
def candRefuse (s : State) (code : Nat) : State :=
  let k := candSlot s
  let s := bootLog s 2 code k (logGen (slotByte s k))
  updBoot (s.set R.BOOT_STATUS_STATE 3) fun b => { b with cand := b.cand.tail, last := code }

/-- IMAGE_VERIFY: steps 1 and 2 of R81 on the candidate. -/
def execImageVerify (s : State) : Host.Outcome State Fault Refusal :=
  .next (if serviceUp s ∧ s.get R.BOOT_STATUS_STATE = 4 then
    let g := slotByte s (candSlot s)
    match (imgHead s g).or (imgSecSig s g) with
    | some code => candRefuse s code
    | none => s.set R.BOOT_STATUS_STATE 5
  else s)

/-- Every Caliper whose MODE differs from that before is reset as a party (Table MBX-1, R353). -/
def partyModes (before s : State) : State :=
  forAll ((List.range 64).filter fun n => before.get R.CLP_CTRL_MODE n != s.get R.CLP_CTRL_MODE n) s fun s n => partyReset s (0x40 + n)

/-- An image is loaded over what stood there, and the stream channels are reset (R170). A Caliper whose MODE changed is reset as a party (Table MBX-1);
lanes that are up compare what the image says of them (R47, R403). -/
def loadOver (g : Nat → Nat) (before : State) : State :=
  let s := stmResetAll (partyModes before (loadAll g before))
  forAll ((List.range 24).filter fun l => lanState s l == 4) s resEval

/-- On entry to CONNECT output `n`, still disconnected, takes the span of its PARK record and then its park code (R82, steps 1 and 2). An output that
R88 left connected keeps its old park code until it is latched anew. -/
def biasSetup (s : State) (n : Nat) : State :=
  if (bias s n).closed then s
  else biasCode (s.set R.BIA_CODE_SPAN (s.get R.BIA_PARK_SPAN n) n) n (s.get R.BIA_PARK_CODE n) 0

/-- IMAGE_LOAD: steps 3 to 6 of R81; a candidate that fails leaves every destination cleared. -/
def execImageLoad (s : State) : Host.Outcome State Fault Refusal :=
  .next (if serviceUp s ∧ s.get R.BOOT_STATUS_STATE = 5 then
    let g := slotByte s (candSlot s)
    match (imgNsSig g).or (imgContent s (loadSecure g s) g false) with
    | some code => partyModes s (loadClear (candRefuse s code))
    | none => updBoot (forAll allLines ((loadOver g s).set R.BOOT_STATUS_STATE 6) biasSetup) fun b => { b with connAt := s.clock + 1 }
  else s)

/-- Output `n` has settled at span and code of its PARK record, its switches close, and both are latched (R72, R82). The park causes of RESET_N and
of a shutdown end (Table BIA-2). DESIGN CHOICE (log 46): the cast that follows R88 is no cold cast for R216, so that a trip is carried through. -/
def biasConnect (s : State) (n : Nat) : State :=
  let c := s.get R.BIA_PARK_CODE n
  let sp := s.get R.BIA_PARK_SPAN n
  let s := ((s.set R.BIA_CODE_SPAN sp n).set R.BIA_PARK_LATCH_CODE c n).set R.BIA_PARK_LATCH_SPAN sp n
  let s := biasTarget (biasCode s n c 0) n c
  let cause := b2n s.quiesce + 16 * s.get R.GOV_STATUS_TRIPPED n
  let s := (s.set R.BIA_STATUS_CAUSE cause n).set R.BIA_STATUS_STATE (if cause = 0 then 2 else 1) n
  biasGliding (setBias s n { bias s n with closed := true, move := 0, holdEnd := 0 }) n

/-- A cast or a re-cast ends: the image of slot `k` runs, and the module enters CAST and RUN (R73, R82, R87, R255). -/
def enterCast (s : State) (k kind : Nat) : State :=
  let g := slotByte s k
  let s := imgRunning g k s
  let s := ((s.set R.BOOT_STATUS_STATE 7).set R.BOOT_STATUS_OP 0).set R.BOOT_STATUS_LAST_CODE 0
  let s := (s.set R.HST_SESSION_RECOVERY 0).set R.BOOT_CAST_TIME_MICROSECONDS ((s.clock - s.boot.castT0) / 400)
  let s := bootLog s 0x0A 0 k (leOf g 0x24 4)
  let s := bootLog (stmResetAll s) kind 0 k (leOf g 4 1 * 2 ^ 24 + leOf g 5 1 * 2 ^ 16 + imgGen g)
  let s := forAll ((List.range 64).filter fun n => s.get R.CLP_CTRL_MODE n == 2) s clpServiceStart
  let s := updBoot (runEnter s) fun b => { b with op := none }
  let s := forAll ((List.range 24).filter fun l => lanState s l == 4) s resEval
  logWrite (globalEvent s 2)

/-- CONNECT: 20 µs after entering CONNECT the bias outputs are connected, and once the PLL is locked the module enters CAST (R82, R97). -/
def execConnect (s : State) : Host.Outcome State Fault Refusal :=
  .next (if serviceUp s ∧ s.get R.BOOT_STATUS_STATE = 6 ∧ (s.boot.connAt = 0 ∨ s.boot.connAt + 8000 ≤ s.clock + 1) then
    let s := if s.boot.connAt = 0 then s else updBoot (forAll allLines s biasConnect) fun b => { b with connAt := 0 }
    if s.flag R.CLK_STATUS_PLL_LOCK then enterCast s (candSlot s) 3 else s
  else s)

/-! ### Boot operations (R84 to R89) -/

/-- A boot operation ends with `code`, and with it the host command that waits for it. -/
def opEnd (s : State) (code : Nat) : State :=
  let host := s.boot.op.any (·.host)
  let s := updBoot ((s.set R.BOOT_STATUS_LAST_CODE code).set R.BOOT_STATUS_OP 0) fun b => { b with op := none }
  let r := hostCode code
  logWrite ((globalEvent s 2).when host fun s => hostDoneB s r.1 r.2)

/-- The pair that a staging writes: images or firmware. -/
def stagePair (what : Nat) : Nat := if what = 0 then 0 else 6

/-- HBM address of the staged bytes. -/
def stageAddr (s : State) : Nat := s.get R.BOOT_STAGE_ADDR_LO_ADDR * 2 ^ 12 + s.get R.BOOT_STAGE_ADDR_HI_ADDR * 2 ^ 32

/-- Their length. -/
def stageBytes (s : State) : Nat := s.get R.BOOT_STAGE_LEN_UNITS * 4096

/-- The source of a staging may not be one (R84, code 0x21). -/
def sourceBad (s : State) (a n : Nat) : Bool := n == 0 || decide (131071 * 4096 < n) || a % 4096 != 0 || !hbmStaging s a n

/-- What refuses the staged bytes: the source, the checks of an image, the slot, the flash; 0 where nothing does. -/
def stageRefused (s : State) (what : Nat) : Nat :=
  let a := stageAddr s
  let n := stageBytes s
  let g := hbmAcc s a
  if sourceBad s a n then 0x21
  else if !railsGood s then 0x23
  else if what = 0 then
    match imgVerify s g s.boot.hasRun (if leOf g 0x10 8 ≠ n then some 0x26 else none) with
    | some c => c
    | none => writeRefused s 0
  else if slotSize 6 < n + 0x1000 then 0x23
  else writeRefused s 6

/-- Staging begins, its checks having answered `code`: the journaled write runs up to its COMMIT (R84). -/
def stageOp (s : State) (what : Nat) (host : Bool) (code : Nat) : State :=
  let k := slotTarget s (stagePair what)
  let seq := slotNext s (stagePair what)
  let g := hbmAcc s (stageAddr s)
  let op : BootOp := { op := 2, what := what, host := host, code := code, slot := k, seq := seq, gen := if what = 0 then logGen g else 0 }
  let s := updBoot (s.set R.BOOT_STATUS_OP 2) fun b => { b with op := some op }
  if code = 0 then slotBegin s k seq (bytesOf g 0 (stageBytes s)) else s

/-- A staging of what the BOOT_STAGE registers name. -/
def stageStart (s : State) (what : Nat) (host : Bool) : State := stageOp s what host (stageRefused s what)

/-- STAGE_COMPLETE: the staging ends; `io` is 1 for a corrected and 2 for an uncorrectable error of an HBM beat the loader read (R366), 3 for a failure
of the flash device (R80, R84, Table BOOT-5). -/
def execStageComplete (io : Fin 4) (s : State) : Host.Outcome State Fault Refusal :=
  .next (match s.boot.op with
    | some o =>
      if !serviceUp s ∨ o.op ≠ 2 then s
      else
        -- whether one of the checks before each 64 KiB block fell on an excursion that is over: a free value
        let (v, s) := if o.hot && flashCool s then s.free else (b2n !flashCool s, s)
        let s := eccCount s (stageAddr s) io.val
        let code := if o.code ≠ 0 then o.code else if 2 ≤ io.val then 0x23 else if v % 2 = 1 then 0x22 else 0
        let s := if code = 0 then bootLog (slotCommit s o.slot) 6 0 o.slot o.seq else bootLog s 7 code o.slot o.gen
        opEnd (slotsShow s) code
    | none => s)

/-- BOOT_FLUSH_LOG acts: the boot log is written (R89). -/
def flushLog (s : State) : State :=
  let code := writeRefused s 4
  globalEvent ((logWrite s).set R.BOOT_STATUS_LAST_CODE code) 2

/-- BOOT_CMD was written with OP `op`: a boot operation starts, unless one is in progress (R84 to R86, R89, R362). DESIGN CHOICE (log 46): with no image
running, as in NO_IMAGE, OP 2 starts a verify phase like any other, and the switch phase waits for a shot that never starts. -/
def bootCmd (s : State) (op : Nat) (host : Bool) : State :=
  if s.get R.BOOT_STATUS_OP ≠ 0 then (s.set R.BOOT_STATUS_CMD_REJECT 1).when host fun s => hostDoneB s 9 [0x20]
  else match op with
    | 1 => stageStart (s.set R.BOOT_STATUS_CMD_REJECT 0) 0 host
    | 2 => updBoot ((s.set R.BOOT_STATUS_CMD_REJECT 0).set R.BOOT_STATUS_OP 3) fun b => { b with op := some { op := 3, host := host } }
    | 3 => stageStart (s.set R.BOOT_STATUS_CMD_REJECT 0) 1 host
    | 4 => flushLog (s.set R.BOOT_STATUS_CMD_REJECT 0)
    | _ => s

/-! ### Re-casting (R86 to R88) -/

/-- A re-cast that does not go on (R86). -/
def recastRefuse (s : State) (code k gen : Nat) : State := opEnd (bootLog s 9 code k gen) code

/-- RECAST_VERIFY_DONE: the checks of the verify phase have run on the highest VALID image slot (R86). -/
def execRecastVerifyDone (s : State) : Host.Outcome State Fault Refusal :=
  .next (match s.boot.op with
    | some o =>
      if !serviceUp s ∨ o.op ≠ 3 ∨ o.verified then s
      else match slotCands s 0 with
        | [] => recastRefuse s 0x29 0 0
        | k :: _ =>
          let g := slotByte s k
          match imgVerify s g true none with
          | some code => recastRefuse s code k (logGen g)
          | none =>
            let s := updBoot s fun b => { b with op := some { o with verified := true, slot := k, host := false } }
            s.when o.host fun s => hostDoneB s 0 []
    | none => s)

/-- Schedule time of the switch. -/
def switchTime (s : State) : Nat := s.get R.BOOT_SWITCH_LO_TIME_LO + s.get R.BOOT_SWITCH_HI_TIME_HI * 2 ^ 32

/-- A tick on which the shot counter increments: a shot start tick, shot 0 included (R103). -/
def shotCounted (s : State) : Bool := running s && s.shotStart == s.tick

/-- The switch phase begins: SWITCH and HOLD, outputs mute and glide to their park codes, service Calipers stop, a Pointing run is aborted (R87,
R255, R433). -/
def switchEnter (s : State) : State :=
  let s := holdEnter (pntAbort s)
  let s := forAll ((List.range 64).filter fun n => s.get R.CLP_CTRL_MODE n == 2) s fun s n => partyReset (setClpState (setClp s n {}) n 0) (0x40 + n)
  let s := updBoot ((s.set R.BOOT_STATUS_STATE 9).set R.BOOT_STATUS_OP 4) fun b => { b with castT0 := s.clock }
  forAll allLines s fun s n => biasGliding (setBias s n { bias s n with move := 4, step := biasStep s n }) n

/-- A hash changed between the phases: the slot is marked CORRUPT, and the module casts from SELECT; outputs stay muted or parked (R88). DESIGN CHOICE
(log 46): this cast ends no trip (R216). -/
def switchMismatch (s : State) (k : Nat) : State :=
  let s := partyModes s <| loadClear (slotSpoil (bootLog s 5 0x24 k (slotSeq s k)) k)
  let s := powerState ((s.set R.BOOT_STATUS_STATE 3).set R.BOOT_STATUS_OP 1) 4
  updBoot (s.set R.HST_SESSION_RECOVERY 1) fun b => { b with op := none, cand := [], last := 0, hasRun := false }

/-- SWITCH_START: on the first shot start at or after the switch time, once the candidate is verified, the switch phase begins and the candidate
is loaded; `mismatch` says that the second read of it differed (R87, R88). -/
def execSwitchStart (mismatch : Bool) (s : State) : Host.Outcome State Fault Refusal :=
  .next (match s.boot.op with
    | some o =>
      if serviceUp s ∧ o.verified ∧ s.get R.BOOT_STATUS_STATE = 7 ∧ shotCounted s ∧ switchTime s ≤ s.now then
        let s := switchEnter s
        if mismatch then switchMismatch s o.slot else loadOver (slotByte s o.slot) s
      else s
    | none => s)

/-- SWITCH_DONE: every bias output has arrived, and the module enters CAST under the new image (R87). -/
def execSwitchDone (s : State) : Host.Outcome State Fault Refusal :=
  .next (match s.boot.op with
    | some o => if serviceUp s ∧ s.get R.BOOT_STATUS_STATE = 9 ∧ s.biases.all fun p => p.2.move == 0 then enterCast s o.slot 8 else s
    | none => s)

/-! ### OTP key slots (R96) -/

/-- State of key slot `k`: 0 EMPTY, 1 VALID, 2 REVOKED. -/
def keyState (s : State) (k : Nat) : Nat := s.get R.SEC_KEY_STATE_STATE / 4 ^ k % 4

/-- Set it. -/
def setKeyState (s : State) (k v : Nat) : State :=
  s.set R.SEC_KEY_STATE_STATE (s.get R.SEC_KEY_STATE_STATE - keyState s k * 4 ^ k + v * 4 ^ k)

/-- The key in SEC_OTP_BUF: 96 bytes, big-endian, byte 4j in bits [7:0] of word j. -/
def otpBuf (s : State) : Nat := bigEndian ((List.range 24).flatMap fun j => leBytes 4 (s.get R.SEC_OTP_BUF_KEY j))

/-- The code an operation ends with. -/
def otpCode (s : State) (op k : Nat) : Nat :=
  if op = 1 ∧ keyState s k ≠ 0 then 0x27
  else if op = 2 ∧ (keyState s k ≠ 1 ∨ !((List.range 4).any fun j => j != k && keyState s j == 1)) then 0x28
  else if !flashCool s then 0x22
  else 0

/-- An operation ends with `code`; a key change and one that the window of R80 stops are logged (Table BOOT-5). -/
def otpEnd (s : State) (op k code : Nat) : State :=
  let s := (s.set R.SEC_OTP_STATUS_BUSY 0).set R.SEC_OTP_STATUS_CODE code
  if code = 0 ∨ code = 0x22 then bootLog s 0x0B code 0 (k + op * 256) else s

/-- SEC_OTP_CTRL was written: GO with OP 1 or 2 starts an operation, unless one is in progress. An operation that the slot states or the window of
R80 do not permit is not started, and ends at once with its code. -/
def otpGo (s : State) : State :=
  let op := s.get R.SEC_OTP_CTRL_OP
  let k := s.get R.SEC_OTP_CTRL_SLOT
  if s.flag R.SEC_OTP_STATUS_BUSY ∨ op = 0 ∨ op = 3 then s
  else if otpCode s op k ≠ 0 then otpEnd s op k (otpCode s op k)
  else updBoot (s.set R.SEC_OTP_STATUS_BUSY 1) fun b => { b with otpOp := some (op, k) }

/-- OTP_DONE: the operation in progress completes (R80, R96, Table BOOT-5). DESIGN CHOICE (log 46): the key programmed is what SEC_OTP_BUF holds now. -/
def execOtpDone (s : State) : Host.Outcome State Fault Refusal :=
  .next (match s.boot.otpOp with
    | some (op, k) =>
      if !serviceUp s then s
      else
        let code := otpCode s op k
        let key := otpBuf s
        let s := updBoot s fun b => { b with otpOp := none }
        let s := if code = 0 then
            (if op = 1 then setKeyState (updBoot s fun b => { b with otpKeys := sset 0 b.otpKeys k key }) k 1 else setKeyState s k 2)
          else s
        otpEnd s op k code
    | none => s)

/-! ### User code (R362) -/

/-- LOAD_NCODE: user code in a staging range is verified against USER_KEY, copied, and the named cores are restarted; its code. -/
def loadNcode (s : State) (a n : Nat) : Nat × State :=
  let g := hbmAcc s a
  if sourceBad s a n then (0x21, s)
  else if !railsGood s ∨ !fwOk s true g n (if s.boot.hasRun then some s.boot.userKey else none) then (0x25, s)
  else
    let m := fwMask g
    let s := fwEntries (forAll (fwSegs g) s (fwCopy g)) g
    (0, forAll ((List.range 8).filter (bit m)) s fun s k =>
      (coreReset (s.set R.GLB_PLN_CTRL_HOLD (s.get R.GLB_PLN_CTRL_HOLD &&& (0xFF - 2 ^ k))) k 1).set R.GLB_PLN_STATUS_STATE 2 k)

/-! ### What the registers of this chapter do when written -/

/-- BOOT_CMD and SEC_OTP_CTRL. -/
def bootExtra (base : Nat) (_m : Master) (_i v : Nat) (s : State) : State :=
  match base with
  | 0x100004 => bootCmd s (fldBits R.BOOT_CMD_OP v) false
  | 0x109114 => if fldBits R.SEC_OTP_CTRL_GO v = 1 then otpGo s else s
  | _ => s

/-- A register write. -/
def regW (s : State) (m : Master) (off width v : Nat) : State := regWriteWith bootExtra s m off width v

end Sys2Proof.Machine
end

