-- ==== Sys2Proof/Machine/HostCmd.lean ====
section
/-! DEFINITION. The host command protocol on mailbox 0 (14_service_plane_and_host.md R386 to R389), as the boot ROM or the Plinth firmware on
S0 serves it. -/

namespace Sys2Proof.Machine

/-- Does something serve mailbox 0: not in RESET, and not while XTAL_IN is failed (Table BOOT-1, R98)? -/
def hostUp (s : State) : Bool := serviceUp s && s.get R.BOOT_STATUS_STATE != 0

/-- The boot ROM serves mailbox 0: outside the states 7, 9 and 10 (R74). -/
def inRecovery (s : State) : Bool :=
  let st := s.get R.BOOT_STATUS_STATE
  st != 7 && st != 9 && st != 10

/-! ### Table HST-7 -/

/-- The commands: OP, class B, the minor version since which they are served, part of the recovery subset, arguments. -/
def hostOps : List (Nat × Bool × Nat × Bool × Nat) :=
  [(0x01, false, 0, true, 1), (0x02, false, 0, true, 0), (0x03, false, 0, false, 1), (0x10, true, 0, true, 2), (0x11, true, 0, false, 2),
    (0x12, true, 0, true, 2), (0x13, false, 0, true, 0), (0x05, false, 1, false, 0), (0x14, true, 2, false, 0), (0x15, true, 2, false, 2),
    (0x04, true, 3, false, 1), (0x16, true, 4, false, 2)]

/-- The row of an OP. -/
def hostOp (op : Nat) : Option (Nat × Bool × Nat × Bool × Nat) := hostOps.find? fun r => r.1 == op

/-- The world index of an instance of a Pointing item (Table SEC-2). -/
def pntWorld (item n : Nat) : Nat := if item ≤ 3 then 128 + n else if item ≤ 6 then 384 + n else if item = 7 then 624 + n else 749

/-- Does a POINTING_RUN argument name a secure resource (NOT_PERMITTED, Table HST-8)? -/
def pntSecure (s : State) (v : Nat) : Bool :=
  (List.range (bits v 23 12)).any fun k => instSecure s (pntWorld (bits v 27 24) (bits v 11 0 + k))

/-- What is wrong with the arguments of a command: BAD_ARGS, NOT_PERMITTED, or nothing. -/
def argsBad (s : State) (op : Nat) (args : List Nat) : Option Nat :=
  let a := args.getD 0 0
  let b := args.getD 1 0
  match hostOp op with
  | none => some 4
  | some (_, _, _, _, narg) =>
    if args.length ≠ narg then some 4
    else if (op = 3 ∨ op = 4) ∧ 1 < a then some 4
    else if op = 0x11 ∧ 2 ^ 28 ≤ b then some 4
    else if op = 0x15 then (if pntArgsOk (a % 2 ^ 30) b ∧ a < 2 ^ 30 ∧ b ≤ 1000000 then (if pntSecure s a then some 7 else none) else some 4)
    else none

/-! ### The commands -/

/-- The retry-after hint of a BUSY answer, 100 to 10,000 µs: a free value. -/
def retryHint (s : State) : Nat × State := let (v, s) := s.free; (100 + v % 9901, s)

/-- HELLO: the version both sides serve (R388). -/
def hello (s : State) (a : Nat) : State :=
  let major := s.get R.GLB_IFVER_HOST_MAJOR
  let minor := s.get R.GLB_IFVER_HOST_MINOR
  if bits a 11 8 ≤ major ∧ major ≤ bits a 7 4 then
    let m := if bits a 7 4 = major then min (a % 16) minor else minor
    let r := b2n (inRecovery s)
    let s := ((s.set R.HST_SESSION_OPEN 1).set R.HST_SESSION_RECOVERY r).set R.HST_SESSION_MAJOR major
    hostDoneA (s.set R.HST_SESSION_MINOR m) 0 [r * 2 ^ 8 + major * 2 ^ 4 + m]
  else hostDoneA s 6 [major * 2 ^ 4 + minor]

/-- GET_STATUS: boot status, load, class-B queue (Table HST-7). -/
def getStatus (s : State) : State :=
  hostDoneA s 0 [regWord s 0x100000, regWord s 0x624, s.hostBQ.length % 32 + (s.hostB.map (·.seq)).getD 0 % 256 * 2 ^ 5]

/-- SET_RUNSTATE completes when the state is entered (R444). -/
def setRunstate (s : State) (a : Nat) : State := pwrRequest s (if a = 0 then 1 else 2) 1

/-- TELEMETRY: the manual gives no record format; how many words there are, up to 7, and what they hold are free. -/
def telemetry (s : State) : State :=
  let (n, s) := s.free
  let p := (List.range (n % 8)).foldl (fun (p : List Nat × State) _ => (p.1 ++ [p.2.free.1 % 2 ^ 36], p.2.free.2)) ([], s)
  hostDoneA p.2 0 p.1

/-- RECOVERY_CAST answers, then resets the module (R74), whose outputs stand as in R70. -/
def recoveryCast (s : State) : State := moduleReset (biasOpen (hostDoneA s 0 [])) 3

/-- STAGE_IMAGE and STAGE_FIRMWARE: S0 writes the BOOT_STAGE registers and BOOT_CMD (R84, R85). An address or a length that the registers cannot
hold is no source. -/
def stageHost (s : State) (what a n : Nat) : State :=
  let s := (s.set R.BOOT_STAGE_ADDR_LO_ADDR (a / 2 ^ 12)).set R.BOOT_STAGE_ADDR_HI_ADDR (a / 2 ^ 32)
  let s := s.set R.BOOT_STAGE_LEN_UNITS n
  if s.get R.BOOT_STATUS_OP = 0 ∧ (a % 4096 ≠ 0 ∨ 131071 < n) then stageOp (s.set R.BOOT_STATUS_CMD_REJECT 0) what true 0x21
  else bootCmd s (if what = 0 then 1 else 3) true

/-- RECAST: S0 writes the switch time and BOOT_CMD (R86). -/
def recast (s : State) (lo hi : Nat) : State :=
  let t := lo % 2 ^ 36 + hi * 2 ^ 36
  bootCmd ((s.set R.BOOT_SWITCH_LO_TIME_LO t).set R.BOOT_SWITCH_HI_TIME_HI (t / 2 ^ 32)) 2 true

/-- A command that ends with a code at once. -/
def doneWith (p : Nat × State) : State := hostDoneB p.2 (hostCode p.1).1 (hostCode p.1).2

/-- A class-B command starts. -/
def classBRun (s : State) (c : HostCmd) : State :=
  let a := c.args.getD 0 0
  let b := c.args.getD 1 0
  let s : State := { s with hostB := some c }
  match c.op with
  | 0x10 => stageHost s 0 a b
  | 0x12 => stageHost s 1 a b
  | 0x11 => recast s a b
  | 0x14 => doneWith (calCommit s)
  | 0x15 => pntStart s (a % 2 ^ 30) b true
  | 0x04 => pwrRequest s (if a = 0 then 3 else 4) 2
  | _ => doneWith (loadNcode s a (b * 4096))

/-- May class-B command `c` start: none runs, the load level permits it, and Pointing has no run of its own in progress (R387, R389)? -/
def classBMay (s : State) (c : HostCmd) : Bool :=
  s.hostB.isNone && (inRecovery s || decide (s.get R.GLB_PLN_LOAD_LEVEL < 2)) && (c.op != 0x15 || s.pnt.run.isNone)

/-- A class-B command arrives (R387). -/
def classBArrive (s : State) (c : HostCmd) : State :=
  if 16 ≤ s.hostBQ.length then hostRespond s c.op c.seq true 0xB []
  else
    let s := hostRespond s c.op c.seq false 1 []
    if s.hostBQ = [] ∧ classBMay s c then classBRun s c else { s with hostBQ := s.hostBQ ++ [c] }

/-- A class-A command runs. -/
def classARun (s : State) (c : HostCmd) : State :=
  let s : State := { s with hostA := some c }
  match c.op with
  | 1 => hello s (c.args.getD 0 0)
  | 2 => getStatus s
  | 3 => setRunstate s (c.args.getD 0 0)
  | 5 => telemetry s
  | _ => recoveryCast s

/-- A class-A command is answered BUSY: another is outstanding, or the load level is 3 (R387, R389). -/
def classABusy (s : State) : Bool := s.hostA.isSome || (!inRecovery s && s.get R.GLB_PLN_LOAD_LEVEL == 3)

/-- S0 serves one command (R387, R388, Table HST-7). -/
def hostServe (s : State) (c : HostCmd) : State :=
  let answer (s : State) (st : Nat) (rs : List Nat) : State := hostRespond s c.op c.seq true st rs
  if !hostUp s then s
  else if inRecovery s ∧ !(hostOp c.op).any (fun r => r.2.2.2.1) then answer s 8 []
  else if !s.flag R.HST_SESSION_OPEN ∧ c.op ≠ 1 ∧ c.op ≠ 2 ∧ c.op ≠ 0x13 then answer s 5 []
  else match hostOp c.op with
  | none => answer s 3 []
  | some (_, b, since, _, _) =>
    if since ≠ 0 ∧ s.get R.HST_SESSION_MINOR < since then answer s 3 []
    else if !b ∧ classABusy s then let p := retryHint s; answer p.2 2 [p.1]
    else match argsBad s c.op c.args with
      | some st => answer s st []
      | none => if b then classBArrive s c else classARun s c

/-! ### Rows -/

/-- The frames that the words of the queue hold, oldest first; none where they do not match their NARG (R386, Table HST-6). -/
def hostFrames : Nat → List Nat → Option (List HostCmd)
  | _, [] => some []
  | 0, _ => none
  | n + 1, w :: l =>
    let k := bits w 19 17
    if l.length < k then none else (hostFrames n (l.drop k)).map (⟨bits w 35 28, bits w 27 20, l.take k⟩ :: ·)

/-- HOST_COMMAND_FRAME: S0 takes the doorbell of mailbox 0, reads the queue and serves what it holds, or answers BAD_FRAME (R386). -/
def execHostCommandFrame (s : State) : Host.Outcome State Fault Refusal :=
  .next (if !hostUp s ∨ !s.flag R.MBX_RXSTAT_DB 1 then s
    else
      let words := (mbxIn s 1).map (·.word)
      let bad := s.flag R.MBX_RXSTAT_COLLIDE 1
      let s := (forAll words (mbxAccept s 1) fun s _ => mbxPop s 1).set R.MBX_RXSTAT_DB 0 1
      match hostFrames 8 words with
      | some cs => if bad ∨ cs = [] then hostRespond (s.set R.MBX_RXSTAT_COLLIDE 0 1) 0 0 true 0xA [] else forAll cs s hostServe
      | none => hostRespond (s.set R.MBX_RXSTAT_COLLIDE 0 1) 0 0 true 0xA [])

/-- HELLO (R388). -/
def execHello (seq : BitVec 8) (args : List (BitVec 36)) (s : State) : Host.Outcome State Fault Refusal :=
  .next (hostServe s ⟨1, seq.toNat, args.map (·.toNat)⟩)

/-- GET_STATUS (R387). -/
def execGetStatus (seq : BitVec 8) (args : List (BitVec 36)) (s : State) : Host.Outcome State Fault Refusal :=
  .next (hostServe s ⟨2, seq.toNat, args.map (·.toNat)⟩)

/-- SET_RUNSTATE (R444). -/
def execSetRunstate (seq : BitVec 8) (args : List (BitVec 36)) (s : State) : Host.Outcome State Fault Refusal :=
  .next (hostServe s ⟨3, seq.toNat, args.map (·.toNat)⟩)

/-- STAGE_IMAGE (R84). -/
def execStageImage (seq : BitVec 8) (args : List (BitVec 36)) (s : State) : Host.Outcome State Fault Refusal :=
  .next (hostServe s ⟨0x10, seq.toNat, args.map (·.toNat)⟩)

/-- RECAST (R86). -/
def execRecast (seq : BitVec 8) (args : List (BitVec 36)) (s : State) : Host.Outcome State Fault Refusal :=
  .next (hostServe s ⟨0x11, seq.toNat, args.map (·.toNat)⟩)

/-- STAGE_FIRMWARE (R362). -/
def execStageFirmware (seq : BitVec 8) (args : List (BitVec 36)) (s : State) : Host.Outcome State Fault Refusal :=
  .next (hostServe s ⟨0x12, seq.toNat, args.map (·.toNat)⟩)

/-- RECOVERY_CAST (R74). -/
def execRecoveryCast (seq : BitVec 8) (args : List (BitVec 36)) (s : State) : Host.Outcome State Fault Refusal :=
  .next (hostServe s ⟨0x13, seq.toNat, args.map (·.toNat)⟩)

/-- TELEMETRY (R387). -/
def execTelemetry (seq : BitVec 8) (args : List (BitVec 36)) (s : State) : Host.Outcome State Fault Refusal :=
  .next (hostServe s ⟨5, seq.toNat, args.map (·.toNat)⟩)

/-- CAL_COMMIT (R434). -/
def execCalCommit (seq : BitVec 8) (args : List (BitVec 36)) (s : State) : Host.Outcome State Fault Refusal :=
  .next (hostServe s ⟨0x14, seq.toNat, args.map (·.toNat)⟩)

/-- POINTING_RUN (R431). -/
def execPointingRun (seq : BitVec 8) (args : List (BitVec 36)) (s : State) : Host.Outcome State Fault Refusal :=
  .next (hostServe s ⟨0x15, seq.toNat, args.map (·.toNat)⟩)

/-- SET_POWER (R444). -/
def execSetPower (seq : BitVec 8) (args : List (BitVec 36)) (s : State) : Host.Outcome State Fault Refusal :=
  .next (hostServe s ⟨4, seq.toNat, args.map (·.toNat)⟩)

/-- LOAD_NCODE (R362). -/
def execLoadNcode (seq : BitVec 8) (args : List (BitVec 36)) (s : State) : Host.Outcome State Fault Refusal :=
  .next (hostServe s ⟨0x16, seq.toNat, args.map (·.toNat)⟩)

/-- CLASS_B_START: the next queued class-B command starts (R387). -/
def execClassBStart (s : State) : Host.Outcome State Fault Refusal :=
  .next (match s.hostBQ with
    | c :: l => if hostUp s ∧ classBMay s c then classBRun { s with hostBQ := l } c else s
    | [] => s)

/-- The threshold of a load level in µs (Table GLB-28). -/
def loadThreshold : Nat → Nat
  | 0 => 0
  | 1 => 100
  | 2 => 250
  | _ => 500

/-- LOAD_LEVEL_CHANGE: the oldest pending work is `age` µs old; `fall` says that for 1 ms the age has stayed below half of the level's threshold
(R389). The boot ROM applies no level. -/
def execLoadLevelChange (age : BitVec 32) (fall : Bool) (s : State) : Host.Outcome State Fault Refusal :=
  let a := age.toNat
  let cur := s.get R.GLB_PLN_LOAD_LEVEL
  let up := if 500 < a then 3 else if 250 < a then 2 else if 100 < a then 1 else 0
  .next (if !hostUp s ∨ inRecovery s then s
    else
      let s := s.set R.GLB_PLN_LOAD_AGE (min a (2 ^ 20 - 1))
      s.set R.GLB_PLN_LOAD_LEVEL (if cur < up then up else if fall ∧ 2 * a < loadThreshold cur then cur - 1 else cur))

end Sys2Proof.Machine
end

