-- ==== Sys2Proof/Machine/RegRows.lean ====
section
/-! DEFINITION. The rows that are an access of a register by a master: each is that access, at the register's offset, with what the row says the
written word holds (00_scope.md R5 to R9; 01_two_planes.md R26; 03 R91; 14 R382, Table HST-4). -/

namespace Sys2Proof.Machine

/-- The word `v` with field `f` replaced by `x`. -/
def withFld (f : Fld) (x v : Nat) : Nat := v - fldBits f v * 2 ^ f.lo + x % 2 ^ f.width * 2 ^ f.lo

/-- The bit ENABLE and the field MODE of LAN_CTRL as they stand. -/
def laneCtrl (s : State) (l : Nat) : Nat := withFld R.LAN_CTRL_ENABLE (s.get R.LAN_CTRL_ENABLE l) (withFld R.LAN_CTRL_MODE (s.get R.LAN_CTRL_MODE l) 0)

/-! ### W4 (Table HST-4) -/

/-- The W0 offset that a W4 offset is another name of. -/
def w4Alias (off : Nat) : Option Nat :=
  if 0x800000 ≤ off ∧ off < 0x801000 ∧ off % 8 < 4 then
    let r := (off - 0x800000) / 8
    some (0x1001014 + r / 4 * 0x20000 + r % 4 * 0x40 + off % 8)
  else if 0x810000 ≤ off ∧ off < 0x810800 ∧ off % 0x40 < 0x20 then
    let x := off - 0x810000
    some (0x500000 + x / 0x40 * 0x100 + x % 0x40)
  else none

/-- The access-error log names the W4 offset of an access that came through W4. -/
def w4Logged (before : State) (off : Nat) (s : State) : State :=
  if !before.flag R.HST_AERR_SRC_VALID ∧ s.flag R.HST_AERR_SRC_VALID ∧ s.get R.HST_AERR_SRC_KIND ≠ 5 then s.set R.HST_AERR_ADDR_ADDR off else s

/-- A write of one word of the MSI-X table. -/
def msixWrite (s : State) (o v : Nat) : State :=
  let n := o / 16
  let x := msixAt s n
  match o % 16 / 4 with
  | 0 => setMsix s n { x with addr := x.addr / 2 ^ 32 * 2 ^ 32 + v }
  | 1 => setMsix s n { x with addr := v * 2 ^ 32 + x.addr % 2 ^ 32 }
  | 2 => setMsix s n { x with data := v }
  | _ => msixMask s n (v % 2 == 1)

/-- A word of the MSI-X table. -/
def msixRead (s : State) (o : Nat) : Nat :=
  let x := msixAt s (o / 16)
  match o % 16 / 4 with
  | 0 => x.addr % 2 ^ 32
  | 1 => x.addr / 2 ^ 32
  | 2 => x.data
  | _ => b2n x.masked

/-- A word of the pending bit array. -/
def msixPba (s : State) (o : Nat) : Nat :=
  (List.range 32).foldl (fun v k => if (msixAt s (o / 4 * 32 + k)).pend then v + 2 ^ k else v) 0

/-- Is the offset in the MSI-X table? -/
def inMsix (off : Nat) : Bool := decide (0x820000 ≤ off ∧ off < 0x820800)

/-- A write of 32 bits, or of a data slot, through W4. -/
def w4Write1 (s : State) (off width v : Nat) : State :=
  match w4Alias off with
  | some o => w4Logged s off (regW s .host o width v)
  | none =>
    if inMsix off then (if off % 4 = 0 ∧ width = 32 then msixWrite s (off - 0x820000) v else accessError s .host true 3 off)
    else if 0x821000 ≤ off ∧ off < 0x821010 then s
    else accessError s .host true 4 off

/-- Does a 64-bit W4 access at `off` reach a data slot? -/
def w4Wide (off : Nat) : Bool := (w4Alias off).any wideAt

/-- A write through W4; 64 bits over two words are two writes, the lower first (R5). -/
def w4Write (s : State) (off width v : Nat) : State :=
  if off < 0x800000 then apertureWrite s (off / 0x4000) (off % 0x4000) ((leBytes (width / 8) v).map (BitVec.ofNat 8))
  else if width = 64 ∧ off % 8 = 0 ∧ !w4Wide off then w4Write1 (w4Write1 s off 32 (v % 2 ^ 32)) (off + 4) 32 (v / 2 ^ 32)
  else w4Write1 s off width v

/-- What a read of 32 bits, or of a data slot, through W4 returns, and the state after it. -/
def w4Read1 (s : State) (off width : Nat) : Nat × State :=
  match w4Alias off with
  | some o => let p := regRead1 s .host o width; (p.1, w4Logged s off p.2)
  | none =>
    if inMsix off then (if off % 4 = 0 ∧ width = 32 then (msixRead s (off - 0x820000), s) else (0, accessError s .host false 3 off))
    else if 0x821000 ≤ off ∧ off < 0x821010 then (msixPba s (off - 0x821000), s)
    else (0, accessError s .host false 4 off)

/-- A read through W4: apertures read as zero. -/
def w4Read (s : State) (off width : Nat) : State :=
  if off < 0x800000 then { s with readData := 0, readPoison := false }
  else if width = 64 ∧ off % 8 = 0 ∧ !w4Wide off then
    let a := w4Read1 s off 32
    let b := w4Read1 a.2 (off + 4) 32
    { b.2 with readData := a.1 + b.1 * 2 ^ 32, readPoison := false }
  else
    let a := w4Read1 s off width
    { a.2 with readData := a.1, readPoison := false }

/-- The width in bits of an access of size code `k`: 8, 16, 32, 64. -/
def accessBits (k : Fin 4) : Nat := 8 * 2 ^ k.val

/-! ### The rows -/

/-- REGISTER_WRITE: a write access through W0, or through W4, which is the host's alone; the register acts under its access codes, and in RUN its
RT-locked fields keep their values (R26). -/
def execRegisterWrite (m : Master) (w4 : Bool) (off : BitVec 26) (size : Fin 4) (v : BitVec 64) (s : State) : Host.Outcome State Fault Refusal :=
  .next (if w4 then (if s.xtalFail then s else w4Write s (off.toNat % 2 ^ 24) (accessBits size) (v.toNat % 2 ^ accessBits size))
    else regW s m off.toNat (accessBits size) (v.toNat % 2 ^ accessBits size))

/-- LATCHED_PAIR_READ: a read access through W0 or W4; a low register of a latched pair latches its high part, and every other register answers as
its heading says (R5). -/
def execLatchedPairRead (m : Master) (w4 : Bool) (off : BitVec 26) (size : Fin 4) (s : State) : Host.Outcome State Fault Refusal :=
  .next (if w4 then (if s.xtalFail then s else w4Read s (off.toNat % 2 ^ 24) (accessBits size)) else regRead s m off.toNat (accessBits size))

/-- COUNTER_CLEAR: any write to a clearing counter register clears it (R37). -/
def execCounterClear (m : Master) (off : BitVec 26) (v : BitVec 32) (s : State) : Host.Outcome State Fault Refusal :=
  .next (regW s m (off.toNat) 32 (v.toNat))

/-- TAINT_STICKY_WRITE: a write of GLB_TAINT_STICKY: written ones clear, and with no bit left the first-taint capture is armed again (R37). -/
def execTaintStickyWrite (m : Master) (v : BitVec 32) (s : State) : Host.Outcome State Fault Refusal :=
  .next (regW s m (0x20) 32 (v.toNat))

/-- CONTRACT_STICKY_WRITE: a write of GLB_CONTRACT_STICKY: written ones clear, and with no bit left the contract log empties (R67). -/
def execContractStickyWrite (m : Master) (v : BitVec 32) (s : State) : Host.Outcome State Fault Refusal :=
  .next (regW s m (0x40) 32 (v.toNat))

/-- MARK_NEXT: a write of CLK_SYNC_CTRL with MARK_NEXT 1 (R107). -/
def execMarkNext (m : Master) (v : BitVec 32) (s : State) : Host.Outcome State Fault Refusal :=
  .next (regW s m (0x20000C) 32 (withFld R.CLK_SYNC_CTRL_MARK_NEXT 1 v.toNat))

/-- TIME_ARM: a write of CLK_TIME_CTRL with ARM 1 (R109). -/
def execTimeArm (m : Master) (s : State) : Host.Outcome State Fault Refusal :=
  .next (regW s m (0x200034) 32 (withFld R.CLK_TIME_CTRL_ARM 1 0))

/-- CLK_PHASE_WRITE: a write of CLK_PHASE (R99). -/
def execClkPhaseWrite (m : Master) (v : BitVec 32) (s : State) : Host.Outcome State Fault Refusal :=
  .next (regW s m (0x20001C) 32 (v.toNat))

/-- SKEW_RUN: a write of CLK_SKEW_CTRL with GO 1 (R111). -/
def execSkewRun (m : Master) (v : BitVec 32) (s : State) : Host.Outcome State Fault Refusal :=
  .next (regW s m (0x200020) 32 (withFld R.CLK_SKEW_CTRL_GO 1 v.toNat))

/-- RELOCK: a write of CLK_CTRL with RELOCK 1 (R117). -/
def execRelock (m : Master) (v : BitVec 32) (s : State) : Host.Outcome State Fault Refusal :=
  .next (regW s m (0x200008) 32 (withFld R.CLK_CTRL_RELOCK 1 v.toNat))

/-- CHS_MEM_DATA_ACCESS: a read or a write of CHS_MEM_DATA of Chisel `n` (R129). -/
def execChsMemDataAccess (m : Master) (n : Fin 128) (write : Bool) (v : BitVec 64) (s : State) : Host.Outcome State Fault Refusal :=
  .next (if write then regW s m (0x1000028 + n.val * 0x20000) 64 v.toNat else regRead s m (0x1000028 + n.val * 0x20000) 64)

/-- STM_WR_WRITE: a write of STM_WR of ring `r` (R164). -/
def execStmWrWrite (m : Master) (r : Fin 512) (v : BitVec 32) (s : State) : Host.Outcome State Fault Refusal :=
  .next (regW s m (0x1001014 + r.val / 4 * 0x20000 + r.val % 4 * 0x40) 32 (v.toNat))

/-- STREAM_RESTART: a write of STM_CTRL of ring `r` with RESTART 1 (R170). -/
def execStreamRestart (m : Master) (r : Fin 512) (v : BitVec 32) (s : State) : Host.Outcome State Fault Refusal :=
  .next (regW s m (0x1001000 + r.val / 4 * 0x20000 + r.val % 4 * 0x40) 32 (withFld R.STM_CTRL_RESTART 1 v.toNat))

/-- STM_BUF_WRITE: a write of STM_BUF of ring `r` (R170). -/
def execStmBufWrite (m : Master) (r : Fin 512) (v : BitVec 32) (s : State) : Host.Outcome State Fault Refusal :=
  .next (regW s m (0x1001004 + r.val / 4 * 0x20000 + r.val % 4 * 0x40) 32 (v.toNat))

/-- TON_FRM_INDEX_WRITE: a write of TON_FRM_INDEX of Chisel `c` (R172). -/
def execTonFrmIndexWrite (m : Master) (c : Fin 128) (v : BitVec 32) (s : State) : Host.Outcome State Fault Refusal :=
  .next (regW s m (0x2000100 + c.val * 0x8000) 32 (v.toNat))

/-- TON_FRM_COMMIT: a write of TON_FRM_CTRL of Chisel `c` with COMMIT 1 (R172). -/
def execTonFrmCommit (m : Master) (c : Fin 128) (s : State) : Host.Outcome State Fault Refusal :=
  .next (regW s m (0x2000104 + c.val * 0x8000) 32 (withFld R.TON_FRM_CTRL_COMMIT 1 0))

/-- PATH_WRITE: a write of LIN_CFG of line `n` (R191). -/
def execPathWrite (m : Master) (n : Fin 256) (v : BitVec 32) (s : State) : Host.Outcome State Fault Refusal :=
  .next (regW s m (0x2000000 + n.val * 0x4000) 32 (v.toNat))

/-- GOV_RELEASE: a write of GOV_CTRL of line `n` with RELEASE 1 (R219). -/
def execGovRelease (m : Master) (n : Fin 256) (v : BitVec 32) (s : State) : Host.Outcome State Fault Refusal :=
  .next (regW s m (0x2000440 + n.val * 0x4000) 32 (withFld R.GOV_CTRL_RELEASE 1 v.toNat))

/-- KMEM_DATA_ACCESS: a read or a write of INP_KMEM_DATA of input `n` (R237). -/
def execKmemDataAccess (m : Master) (n : Fin 64) (write : Bool) (v : BitVec 64) (s : State) : Host.Outcome State Fault Refusal :=
  .next (if write then regW s m (0x2800028 + n.val * 0x10000) 64 v.toNat else regRead s m (0x2800028 + n.val * 0x10000) 64)

/-- CLP_MEM_DATA_ACCESS: a read or a write of CLP_MEM_DATA of Caliper `n` (R253). -/
def execClpMemDataAccess (m : Master) (n : Fin 64) (write : Bool) (v : BitVec 64) (s : State) : Host.Outcome State Fault Refusal :=
  .next (if write then regW s m (0x3000088 + n.val * 0x40000) 64 v.toNat else regRead s m (0x3000088 + n.val * 0x40000) 64)

/-- DEC_MEM_DATA_READ: a read of DEC_MEM_DATA (R286). -/
def execDecMemDataRead (m : Master) (s : State) : Host.Outcome State Fault Refusal :=
  .next (regRead s m (0xA00408) 32)

/-- PFU_MEM_DATA_READ: a read of PFU_MEM_DATA (R305). -/
def execPfuMemDataRead (m : Master) (s : State) : Host.Outcome State Fault Refusal :=
  .next (regRead s m (0xA08024) 32)

/-- PFU_REC_DATA_READ: a read of PFU_REC_DATA (R303). -/
def execPfuRecDataRead (m : Master) (s : State) : Host.Outcome State Fault Refusal :=
  .next (regRead s m (0xA0801C) 32)

/-- ACQ_RD_WRITE: a write of ACQ_RD of unit `u` (R316). -/
def execAcqRdWrite (m : Master) (u : Fin 16) (v : BitVec 32) (s : State) : Host.Outcome State Fault Refusal :=
  .next (regW s m (0xB0001C + u.val * 0x100) 32 (v.toNat))

/-- TIN_STAMP_POP: a read of TIN_STAMP_0 of input `i` (R328). -/
def execTinStampPop (m : Master) (tin : Fin 32) (s : State) : Host.Outcome State Fault Refusal :=
  .next (regRead s m (0xB10018 + tin.val * 0x40) 64)

/-- TDC_CALIBRATE: a write of TDC_CAL_CTRL with GO 1 (R330). -/
def execTdcCalibrate (m : Master) (v : BitVec 32) (s : State) : Host.Outcome State Fault Refusal :=
  .next (regW s m (0xB38000) 32 (withFld R.TDC_CAL_CTRL_GO 1 v.toNat))

/-- TDC_BIN_DATA_READ: a read of TDC_BIN_DATA (R329). -/
def execTdcBinDataRead (m : Master) (s : State) : Host.Outcome State Fault Refusal :=
  .next (regRead s m (0xB3800C) 32)

/-- INTERVAL_GO: a write of TDC_MCTRL of engine `e` with GO 1 (R331). -/
def execIntervalGo (m : Master) (e : Fin 8) (v : BitVec 32) (s : State) : Host.Outcome State Fault Refusal :=
  .next (regW s m (0xB20000 + e.val * 0x100) 32 (withFld R.TDC_MCTRL_GO 1 v.toNat))

/-- FREQ_GO: a write of TDC_FCTRL of engine `e` with GO 1 (R332). -/
def execFreqGo (m : Master) (e : Fin 4) (v : BitVec 32) (s : State) : Host.Outcome State Fault Refusal :=
  .next (regW s m (0xB30000 + e.val * 0x40) 32 (withFld R.TDC_FCTRL_GO 1 v.toNat))

/-- SOFTWARE_FIRE: a write of EVF_FIRE naming channel `c` (R338). -/
def execSoftwareFire (m : Master) (c : Fin 512) (s : State) : Host.Outcome State Fault Refusal :=
  .next (regW s m (0x400010) 32 (withFld R.EVF_FIRE_CH c.val 0))

/-- MBX_TX_WRITE: a write of MBX_TX of an end of mailbox `k` (R350). -/
def execMbxTxWrite (m : Master) (k : Fin 32) (b : Bool) (v : BitVec 64) (s : State) : Host.Outcome State Fault Refusal :=
  .next (regW s m (0x500000 + k.val * 0x100 + b2n b * 0x40) 64 (v.toNat))

/-- MBX_RX_POP: a read of MBX_RX of an end of mailbox `k` (R350). -/
def execMbxRxPop (m : Master) (k : Fin 32) (b : Bool) (s : State) : Host.Outcome State Fault Refusal :=
  .next (regRead s m (0x500008 + k.val * 0x100 + b2n b * 0x40) 64)

/-- RXSTAT_READ: a read of MBX_RXSTAT of an end of mailbox `k` (R351). -/
def execRxstatRead (m : Master) (k : Fin 32) (b : Bool) (s : State) : Host.Outcome State Fault Refusal :=
  .next (regRead s m (0x500018 + k.val * 0x100 + b2n b * 0x40) 32)

/-- MBX_DOORBELL: a write of MBX_DB of an end of mailbox `k` with RING 1 (R351). -/
def execMbxDoorbell (m : Master) (k : Fin 32) (b : Bool) (s : State) : Host.Outcome State Fault Refusal :=
  .next (regW s m (0x500010 + k.val * 0x100 + b2n b * 0x40) 32 (withFld R.MBX_DB_RING 1 0))

/-- MBX_CFG_WRITE: a write of MBX_CFG of mailbox `k` (R348). -/
def execMbxCfgWrite (m : Master) (k : Fin 32) (v : BitVec 32) (s : State) : Host.Outcome State Fault Refusal :=
  .next (regW s m (0x500080 + k.val * 0x100) 32 (v.toNat))

/-- LOCK_ACQUIRE: a read of lock `k` through page `r` + 1 (R357). -/
def execLockAcquire (m : Master) (r : Fin 63) (k : Fin 64) (s : State) : Host.Outcome State Fault Refusal :=
  .next (regRead s m (0x580100 + r.val * 0x100 + k.val * 4) 32)

/-- LOCK_RELEASE: a write of lock `k` through page `r` + 1 (R358). -/
def execLockRelease (m : Master) (r : Fin 63) (k : Fin 64) (v : BitVec 32) (s : State) : Host.Outcome State Fault Refusal :=
  .next (regW s m (0x580100 + r.val * 0x100 + k.val * 4) 32 (v.toNat))

/-- LOCK_FORCE_RELEASE: a write of lock `k` through page 0 (R358). -/
def execLockForceRelease (m : Master) (k : Fin 64) (v : BitVec 32) (s : State) : Host.Outcome State Fault Refusal :=
  .next (regW s m (0x580000 + k.val * 4) 32 (v.toNat))

/-- CORE_RESET: a write of GLB_PLN_CTRL with the RESET bit of core `k`, its other fields as they stand (R363). -/
def execCoreReset (m : Master) (k : Fin 8) (s : State) : Host.Outcome State Fault Refusal :=
  .next (regW s m 0x620 32 (s.get R.GLB_PLN_CTRL_WDOG_EN * 2 ^ 16 + s.get R.GLB_PLN_CTRL_HOLD * 2 ^ 8 + 2 ^ k.val))

/-- HLOCK_OPEN: a write of GLB_PLN_HLOCK of core `k` (R372). -/
def execHlockOpen (m : Master) (k : Fin 8) (v : BitVec 32) (s : State) : Host.Outcome State Fault Refusal :=
  .next (regW s m (0x640 + k.val * 4) 32 (v.toNat))

/-- SLOT_TABLE_COMMIT: a write of SVA_CTRL of stack `t` with COMMIT 1 (R374). -/
def execSlotTableCommit (m : Master) (t : Fin 2) (s : State) : Host.Outcome State Fault Refusal :=
  .next (regW s m (0x600000 + t.val * 0x10000) 32 (withFld R.SVA_CTRL_COMMIT 1 0))

/-- RESULT_RING_RELEASE: a write of HST_RES_RD of queue `q` (R378). -/
def execResultRingRelease (m : Master) (q : Fin 25) (v : BitVec 32) (s : State) : Host.Outcome State Fault Refusal :=
  .next (regW s m (0x701010 + q.val * 0x20) 32 (v.toNat))

/-- LANE_ENABLE: a write of LAN_CTRL of lane `l` with ENABLE as given, MODE as it stands (R397). -/
def execLaneEnable (m : Master) (l : Fin 24) (on : Bool) (s : State) : Host.Outcome State Fault Refusal :=
  .next (regW s m (0x800000 + l.val * 0x400) 32 (withFld R.LAN_CTRL_ENABLE (b2n on) (withFld R.LAN_CTRL_MODE (s.get R.LAN_CTRL_MODE l.val) 0)))

/-- LANE_RETRAIN: a write of LAN_CTRL of lane `l` with RETRAIN 1, its other fields as they stand (R397). -/
def execLaneRetrain (m : Master) (l : Fin 24) (s : State) : Host.Outcome State Fault Refusal :=
  .next (regW s m (0x800000 + l.val * 0x400) 32 (withFld R.LAN_CTRL_RETRAIN 1 (laneCtrl s l.val)))

/-- LANE_TEST_MODE: a write of LAN_CTRL of lane `l` with MODE as given, ENABLE as it stands (R417). -/
def execLaneTestMode (m : Master) (l : Fin 24) (mode : Fin 4) (s : State) : Host.Outcome State Fault Refusal :=
  .next (regW s m (0x800000 + l.val * 0x400) 32 (withFld R.LAN_CTRL_MODE mode.val (withFld R.LAN_CTRL_ENABLE (s.get R.LAN_CTRL_ENABLE l.val) 0)))

/-- POINTING_GO: a write of PNT_CTRL with GO 1 (R431). -/
def execPointingGo (m : Master) (v : BitVec 30) (s : State) : Host.Outcome State Fault Refusal :=
  .next (regW s m (0x900000) 32 (withFld R.PNT_CTRL_GO 1 v.toNat))

/-- POINTING_ABORT: a write of PNT_CTRL with ABORT 1 (R433). -/
def execPointingAbort (m : Master) (s : State) : Host.Outcome State Fault Refusal :=
  .next (regW s m (0x900000) 32 (withFld R.PNT_CTRL_ABORT 1 0))

/-- PNT_LOG_CLEAR: a write of PNT_LOG_FILL (R430). -/
def execPntLogClear (m : Master) (v : BitVec 32) (s : State) : Host.Outcome State Fault Refusal :=
  .next (regW s m (0x900030) 32 (v.toNat))

/-- PNT_TRIM_DATA_READ: a read of PNT_TRIM_DATA (R420). -/
def execPntTrimDataRead (m : Master) (s : State) : Host.Outcome State Fault Refusal :=
  .next (regRead s m (0x900024) 32)

/-- MON_SEQ_ENABLE: a write of MON_SEQ_CTRL with ENABLE 1 (R438). -/
def execMonSeqEnable (m : Master) (v : BitVec 32) (s : State) : Host.Outcome State Fault Refusal :=
  .next (regW s m (0x901000) 32 (withFld R.MON_SEQ_CTRL_ENABLE 1 v.toNat))

/-- HOLD_REQUEST: PWR_REQ 1 requests HOLD (R445). -/
def execHoldRequest (m : Master) (s : State) : Host.Outcome State Fault Refusal :=
  .next (regW s m (0x903004) 32 (withFld R.PWR_REQ_REQ 1 0))

/-- RUN_REQUEST: PWR_REQ 2 requests RUN (R446). -/
def execRunRequest (m : Master) (s : State) : Host.Outcome State Fault Refusal :=
  .next (regW s m (0x903004) 32 (withFld R.PWR_REQ_REQ 2 0))

/-- STANDBY_REQUEST: PWR_REQ 3 requests STANDBY (R447). -/
def execStandbyRequest (m : Master) (s : State) : Host.Outcome State Fault Refusal :=
  .next (regW s m (0x903004) 32 (withFld R.PWR_REQ_REQ 3 0))

/-- STANDBY_EXIT: PWR_REQ 4 requests leaving STANDBY (R448). -/
def execStandbyExit (m : Master) (s : State) : Host.Outcome State Fault Refusal :=
  .next (regW s m (0x903004) 32 (withFld R.PWR_REQ_REQ 4 0))

/-- BOOT_STAGE_IMAGE: BOOT_CMD 1 stages an image (R84). -/
def execBootStageImage (m : Master) (s : State) : Host.Outcome State Fault Refusal :=
  .next (regW s m (0x100004) 32 (withFld R.BOOT_CMD_OP 1 0))

/-- BOOT_RECAST: BOOT_CMD 2 starts a re-cast (R86). -/
def execBootRecast (m : Master) (s : State) : Host.Outcome State Fault Refusal :=
  .next (regW s m (0x100004) 32 (withFld R.BOOT_CMD_OP 2 0))

/-- BOOT_STAGE_FIRMWARE: BOOT_CMD 3 stages firmware (R362). -/
def execBootStageFirmware (m : Master) (s : State) : Host.Outcome State Fault Refusal :=
  .next (regW s m (0x100004) 32 (withFld R.BOOT_CMD_OP 3 0))

/-- BOOT_FLUSH_LOG: BOOT_CMD 4 writes the boot log (R89). -/
def execBootFlushLog (m : Master) (s : State) : Host.Outcome State Fault Refusal :=
  .next (regW s m (0x100004) 32 (withFld R.BOOT_CMD_OP 4 0))

/-- OTP_PROGRAM: a write of SEC_OTP_CTRL with GO 1 and OP 1 (R96). -/
def execOtpProgram (m : Master) (k : Fin 4) (s : State) : Host.Outcome State Fault Refusal :=
  .next (regW s m (0x109114) 32 (withFld R.SEC_OTP_CTRL_GO 1 (withFld R.SEC_OTP_CTRL_SLOT k.val (withFld R.SEC_OTP_CTRL_OP 1 0))))

/-- OTP_REVOKE: a write of SEC_OTP_CTRL with GO 1 and OP 2 (R96). -/
def execOtpRevoke (m : Master) (k : Fin 4) (s : State) : Host.Outcome State Fault Refusal :=
  .next (regW s m (0x109114) 32 (withFld R.SEC_OTP_CTRL_GO 1 (withFld R.SEC_OTP_CTRL_SLOT k.val (withFld R.SEC_OTP_CTRL_OP 2 0))))

end Sys2Proof.Machine
end

