-- ==== Sys2Proof/Machine/Dispatch.lean ====
section
/-! DEFINITION. One arm per command: the meaning it calls. -/

namespace Sys2Proof.Machine

def exec (i : Instr) (s : State) : Host.Outcome State Fault Refusal :=
  match i with
  | .powerOnReset => Sys2Proof.Machine.execPowerOnReset s
  | .resetNLow => Sys2Proof.Machine.execResetNLow s
  | .switchOpenDelay => Sys2Proof.Machine.execSwitchOpenDelay s
  | .resetRelease => Sys2Proof.Machine.execResetRelease s
  | .railsUp => Sys2Proof.Machine.execRailsUp s
  | .railTimeout => Sys2Proof.Machine.execRailTimeout s
  | .firmwareVerify fallback => Sys2Proof.Machine.execFirmwareVerify fallback s
  | .slotSelect => Sys2Proof.Machine.execSlotSelect s
  | .imageVerify => Sys2Proof.Machine.execImageVerify s
  | .imageLoad => Sys2Proof.Machine.execImageLoad s
  | .connect => Sys2Proof.Machine.execConnect s
  | .bootStageImage m => Sys2Proof.Machine.execBootStageImage m s
  | .stageComplete io => Sys2Proof.Machine.execStageComplete io s
  | .bootRecast m => Sys2Proof.Machine.execBootRecast m s
  | .recastVerifyDone => Sys2Proof.Machine.execRecastVerifyDone s
  | .switchStart mismatch => Sys2Proof.Machine.execSwitchStart mismatch s
  | .switchDone => Sys2Proof.Machine.execSwitchDone s
  | .bootStageFirmware m => Sys2Proof.Machine.execBootStageFirmware m s
  | .bootFlushLog m => Sys2Proof.Machine.execBootFlushLog m s
  | .otpProgram m k => Sys2Proof.Machine.execOtpProgram m k s
  | .otpRevoke m k => Sys2Proof.Machine.execOtpRevoke m k s
  | .otpDone => Sys2Proof.Machine.execOtpDone s
  | .registerWrite m w4 off size v => Sys2Proof.Machine.execRegisterWrite m w4 off size v s
  | .counterClear m off v => Sys2Proof.Machine.execCounterClear m off v s
  | .latchedPairRead m w4 off size => Sys2Proof.Machine.execLatchedPairRead m w4 off size s
  | .taintStickyWrite m v => Sys2Proof.Machine.execTaintStickyWrite m v s
  | .contractStickyWrite m v => Sys2Proof.Machine.execContractStickyWrite m v s
  | .queueEntryVisible q tag value => Sys2Proof.Machine.execQueueEntryVisible q tag value s
  | .eventDelivery ch => Sys2Proof.Machine.execEventDelivery ch s
  | .pllLock => Sys2Proof.Machine.execPllLock s
  | .xtalFail => Sys2Proof.Machine.execXtalFail s
  | .refLoss => Sys2Proof.Machine.execRefLoss s
  | .refGate count => Sys2Proof.Machine.execRefGate count s
  | .pllUnlock => Sys2Proof.Machine.execPllUnlock s
  | .epoch => Sys2Proof.Machine.execEpoch s
  | .syncClassify c fine width => Sys2Proof.Machine.execSyncClassify c fine width s
  | .syncMissing => Sys2Proof.Machine.execSyncMissing s
  | .syncMasterPulse => Sys2Proof.Machine.execSyncMasterPulse s
  | .markNext m v => Sys2Proof.Machine.execMarkNext m v s
  | .timeArm m => Sys2Proof.Machine.execTimeArm m s
  | .clkPhaseWrite m v => Sys2Proof.Machine.execClkPhaseWrite m v s
  | .phaseTapStep => Sys2Proof.Machine.execPhaseTapStep s
  | .skewRun m v => Sys2Proof.Machine.execSkewRun m v s
  | .skewTapStep => Sys2Proof.Machine.execSkewTapStep s
  | .relock m v => Sys2Proof.Machine.execRelock m v s
  | .relockDone locked => Sys2Proof.Machine.execRelockDone locked s
  | .scheduleStart => Sys2Proof.Machine.execScheduleStart s
  | .shotStart => Sys2Proof.Machine.execShotStart s
  | .scheduleDone => Sys2Proof.Machine.execScheduleDone s
  | .end_ n dt a b => Sys2Proof.Machine.execEnd n dt a b s
  | .nop n dt a b => Sys2Proof.Machine.execNop n dt a b s
  | .wait n dt a b => Sys2Proof.Machine.execWait n dt a b s
  | .waita n dt a b => Sys2Proof.Machine.execWaita n dt a b s
  | .waitEnd n => Sys2Proof.Machine.execWaitEnd n s
  | .waitt n dt a b => Sys2Proof.Machine.execWaitt n dt a b s
  | .waittEnd n => Sys2Proof.Machine.execWaittEnd n s
  | .lbar n dt a b => Sys2Proof.Machine.execLbar n dt a b s
  | .barrierArrival n => Sys2Proof.Machine.execBarrierArrival n s
  | .barrierComplete b => Sys2Proof.Machine.execBarrierComplete b s
  | .barrierTimeout n => Sys2Proof.Machine.execBarrierTimeout n s
  | .jmp n dt a b => Sys2Proof.Machine.execJmp n dt a b s
  | .brd n dt a b => Sys2Proof.Machine.execBrd n dt a b s
  | .brdDeadline n => Sys2Proof.Machine.execBrdDeadline n s
  | .brg n dt a b => Sys2Proof.Machine.execBrg n dt a b s
  | .loop_ n dt a b => Sys2Proof.Machine.execLoop n dt a b s
  | .setk n dt a b => Sys2Proof.Machine.execSetk n dt a b s
  | .alu n dt a b => Sys2Proof.Machine.execAlu n dt a b s
  | .harvest n dt a b => Sys2Proof.Machine.execHarvest n dt a b s
  | .emit n dt a b => Sys2Proof.Machine.execEmit n dt a b s
  | .play n dt a b => Sys2Proof.Machine.execPlay n dt a b s
  | .table_ n dt a b => Sys2Proof.Machine.execTable n dt a b s
  | .bias n dt a b => Sys2Proof.Machine.execBias n dt a b s
  | .mark n dt a b => Sys2Proof.Machine.execMark n dt a b s
  | .markerPulseEnd m => Sys2Proof.Machine.execMarkerPulseEnd m s
  | .window n dt a b => Sys2Proof.Machine.execWindow n dt a b s
  | .shift n dt a b => Sys2Proof.Machine.execShift n dt a b s
  | .setf n dt a b => Sys2Proof.Machine.execSetf n dt a b s
  | .setfr n dt a b => Sys2Proof.Machine.execSetfr n dt a b s
  | .freset n dt a b => Sys2Proof.Machine.execFreset n dt a b s
  | .chsMemDataAccess m n write v => Sys2Proof.Machine.execChsMemDataAccess m n write v s
  | .tableHandover n k => Sys2Proof.Machine.execTableHandover n k s
  | .occurrenceStart n k => Sys2Proof.Machine.execOccurrenceStart n k s
  | .tableDecisionPoint n k => Sys2Proof.Machine.execTableDecisionPoint n k s
  | .stmWrWrite m r v => Sys2Proof.Machine.execStmWrWrite m r v s
  | .streamFetch c ecc => Sys2Proof.Machine.execStreamFetch c ecc s
  | .granuleVisible c => Sys2Proof.Machine.execGranuleVisible c s
  | .streamHarvest n k => Sys2Proof.Machine.execStreamHarvest n k s
  | .streamRestart m r v => Sys2Proof.Machine.execStreamRestart m r v s
  | .stmBufWrite m r v => Sys2Proof.Machine.execStmBufWrite m r v s
  | .tonFrmIndexWrite m c v => Sys2Proof.Machine.execTonFrmIndexWrite m c v s
  | .tonFrmCommit m c => Sys2Proof.Machine.execTonFrmCommit m c s
  | .pathWrite m n v => Sys2Proof.Machine.execPathWrite m n v s
  | .pathSettleEnd n => Sys2Proof.Machine.execPathSettleEnd n s
  | .lineUnmute n => Sys2Proof.Machine.execLineUnmute n s
  | .biasUpdate => Sys2Proof.Machine.execBiasUpdate s
  | .quiesceFall => Sys2Proof.Machine.execQuiesceFall s
  | .quiesceRise => Sys2Proof.Machine.execQuiesceRise s
  | .spanHoldEnd n => Sys2Proof.Machine.execSpanHoldEnd n s
  | .governorBoundary n => Sys2Proof.Machine.execGovernorBoundary n s
  | .governorAction n => Sys2Proof.Machine.execGovernorAction n s
  | .govRelease m n v => Sys2Proof.Machine.execGovRelease m n v s
  | .inputSettleEnd n => Sys2Proof.Machine.execInputSettleEnd n s
  | .patinaUpdate n hs ovr => Sys2Proof.Machine.execPatinaUpdate n hs ovr s
  | .overrange n mask => Sys2Proof.Machine.execOverrange n mask s
  | .windowOpen n k => Sys2Proof.Machine.execWindowOpen n k s
  | .windowResult n k codes => Sys2Proof.Machine.execWindowResult n k codes s
  | .demodPublish n k => Sys2Proof.Machine.execDemodPublish n k s
  | .kmemDataAccess m n write v => Sys2Proof.Machine.execKmemDataAccess m n write v s
  | .halt n w => Sys2Proof.Machine.execHalt n w s
  | .clpNop n w => Sys2Proof.Machine.execClpNop n w s
  | .br n w => Sys2Proof.Machine.execBr n w s
  | .rete n w => Sys2Proof.Machine.execRete n w s
  | .repeat n w => Sys2Proof.Machine.execRepeat n w s
  | .clpLoop n w => Sys2Proof.Machine.execClpLoop n w s
  | .waitc n w => Sys2Proof.Machine.execWaitc n w s
  | .waitcEnd n => Sys2Proof.Machine.execWaitcEnd n s
  | .evm n w => Sys2Proof.Machine.execEvm n w s
  | .cmac n w => Sys2Proof.Machine.execCmac n w s
  | .cmacx n w => Sys2Proof.Machine.execCmacx n w s
  | .rmac n w => Sys2Proof.Machine.execRmac n w s
  | .rmacx n w => Sys2Proof.Machine.execRmacx n w s
  | .lda n w => Sys2Proof.Machine.execLda n w s
  | .sta n w => Sys2Proof.Machine.execSta n w s
  | .acc n w => Sys2Proof.Machine.execAcc n w s
  | .ldst n w => Sys2Proof.Machine.execLdst n w s
  | .clpAlu n w => Sys2Proof.Machine.execClpAlu n w s
  | .movi n w => Sys2Proof.Machine.execMovi n w s
  | .seta n w => Sys2Proof.Machine.execSeta n w s
  | .hinc n w => Sys2Proof.Machine.execHinc n w s
  | .rds n w => Sys2Proof.Machine.execRds n w s
  | .clpHarvest n w => Sys2Proof.Machine.execClpHarvest n w s
  | .pub n w => Sys2Proof.Machine.execPub n w s
  | .rec_ n w => Sys2Proof.Machine.execRec n w s
  | .clpEmit n w => Sys2Proof.Machine.execClpEmit n w s
  | .caliperEventEntry n => Sys2Proof.Machine.execCaliperEventEntry n s
  | .caliperWake n => Sys2Proof.Machine.execCaliperWake n s
  | .depositWrite n c codes => Sys2Proof.Machine.execDepositWrite n c codes s
  | .caliperPublish n b => Sys2Proof.Machine.execCaliperPublish n b s
  | .caliperRestoreDone n => Sys2Proof.Machine.execCaliperRestoreDone n s
  | .clpMemDataAccess m n write v => Sys2Proof.Machine.execClpMemDataAccess m n write v s
  | .lanePublish l => Sys2Proof.Machine.execLanePublish l s
  | .roundEvaluate r => Sys2Proof.Machine.execRoundEvaluate r s
  | .roundChecks r => Sys2Proof.Machine.execRoundChecks r s
  | .roundApply r => Sys2Proof.Machine.execRoundApply r s
  | .decMemDataRead m => Sys2Proof.Machine.execDecMemDataRead m s
  | .pfuMemDataRead m => Sys2Proof.Machine.execPfuMemDataRead m s
  | .pfuRecDataRead m => Sys2Proof.Machine.execPfuRecDataRead m s
  | .captureEvaluate u codes => Sys2Proof.Machine.execCaptureEvaluate u codes s
  | .captureRecordEnd u => Sys2Proof.Machine.execCaptureRecordEnd u s
  | .captureRearm u => Sys2Proof.Machine.execCaptureRearm u s
  | .captureBlockWrite u => Sys2Proof.Machine.execCaptureBlockWrite u s
  | .captureHeaderWritten u => Sys2Proof.Machine.execCaptureHeaderWritten u s
  | .acqRdWrite m u v => Sys2Proof.Machine.execAcqRdWrite m u v s
  | .tinEdge tin b rising => Sys2Proof.Machine.execTinEdge tin b rising s
  | .tinStampPop m tin => Sys2Proof.Machine.execTinStampPop m tin s
  | .tdcCalibrate m v => Sys2Proof.Machine.execTdcCalibrate m v s
  | .tdcCalDone hits => Sys2Proof.Machine.execTdcCalDone hits s
  | .tdcBinDataRead m => Sys2Proof.Machine.execTdcBinDataRead m s
  | .intervalGo m e v => Sys2Proof.Machine.execIntervalGo m e v s
  | .intervalTimeout m => Sys2Proof.Machine.execIntervalTimeout m s
  | .freqGo m e v => Sys2Proof.Machine.execFreqGo m e v s
  | .freqGateEnd f => Sys2Proof.Machine.execFreqGateEnd f s
  | .freqResult f => Sys2Proof.Machine.execFreqResult f s
  | .eventFire src => Sys2Proof.Machine.execEventFire src s
  | .softwareFire m c => Sys2Proof.Machine.execSoftwareFire m c s
  | .taskActivation t => Sys2Proof.Machine.execTaskActivation t s
  | .evhCut p => Sys2Proof.Machine.execEvhCut p s
  | .mbxTxWrite m k b v => Sys2Proof.Machine.execMbxTxWrite m k b v s
  | .mbxRxPop m k b => Sys2Proof.Machine.execMbxRxPop m k b s
  | .mbxDoorbell m k b => Sys2Proof.Machine.execMbxDoorbell m k b s
  | .mbxTimeout m b => Sys2Proof.Machine.execMbxTimeout m b s
  | .partyReset p => Sys2Proof.Machine.execPartyReset p s
  | .mbxCfgWrite m k v => Sys2Proof.Machine.execMbxCfgWrite m k v s
  | .lockAcquire m r k => Sys2Proof.Machine.execLockAcquire m r k s
  | .lockRelease m r k v => Sys2Proof.Machine.execLockRelease m r k v s
  | .lockForceRelease m k v => Sys2Proof.Machine.execLockForceRelease m k v s
  | .coreReset m k => Sys2Proof.Machine.execCoreReset m k s
  | .watchdogExpiry k => Sys2Proof.Machine.execWatchdogExpiry k s
  | .arbiterCycle t q res lock keep => Sys2Proof.Machine.execArbiterCycle t q res lock keep s
  | .hlockOpen m k v => Sys2Proof.Machine.execHlockOpen m k v s
  | .slotTableCommit m t => Sys2Proof.Machine.execSlotTableCommit m t s
  | .resultBlockClose q => Sys2Proof.Machine.execResultBlockClose q s
  | .resultFlushTimeout q => Sys2Proof.Machine.execResultFlushTimeout q s
  | .resultBlockWrite q => Sys2Proof.Machine.execResultBlockWrite q s
  | .resultRingRelease m q v => Sys2Proof.Machine.execResultRingRelease m q v s
  | .w2Access write off n data ecc => Sys2Proof.Machine.execW2Access write off n data ecc s
  | .streamApertureWrite r o data => Sys2Proof.Machine.execStreamApertureWrite r o data s
  | .msixUnmask v => Sys2Proof.Machine.execMsixUnmask v s
  | .linkUp speed width => Sys2Proof.Machine.execLinkUp speed width s
  | .linkDown flr => Sys2Proof.Machine.execLinkDown flr s
  | .hostCommandFrame => Sys2Proof.Machine.execHostCommandFrame s
  | .hello seq args => Sys2Proof.Machine.execHello seq args s
  | .getStatus seq args => Sys2Proof.Machine.execGetStatus seq args s
  | .setRunstate seq args => Sys2Proof.Machine.execSetRunstate seq args s
  | .stageImage seq args => Sys2Proof.Machine.execStageImage seq args s
  | .recast seq args => Sys2Proof.Machine.execRecast seq args s
  | .stageFirmware seq args => Sys2Proof.Machine.execStageFirmware seq args s
  | .recoveryCast seq args => Sys2Proof.Machine.execRecoveryCast seq args s
  | .telemetry seq args => Sys2Proof.Machine.execTelemetry seq args s
  | .calCommit seq args => Sys2Proof.Machine.execCalCommit seq args s
  | .pointingRun seq args => Sys2Proof.Machine.execPointingRun seq args s
  | .setPower seq args => Sys2Proof.Machine.execSetPower seq args s
  | .loadNcode seq args => Sys2Proof.Machine.execLoadNcode seq args s
  | .classBStart => Sys2Proof.Machine.execClassBStart s
  | .loadLevelChange age fall => Sys2Proof.Machine.execLoadLevelChange age fall s
  | .laneEnable m l on => Sys2Proof.Machine.execLaneEnable m l on s
  | .laneRetrain m l => Sys2Proof.Machine.execLaneRetrain m l s
  | .laneTestMode m l mode => Sys2Proof.Machine.execLaneTestMode m l mode s
  | .laneFrameTransmit l => Sys2Proof.Machine.execLaneFrameTransmit l s
  | .laneFrameReceive l line => Sys2Proof.Machine.execLaneFrameReceive l line s
  | .laneLock l => Sys2Proof.Machine.execLaneLock l s
  | .trainTimeout l => Sys2Proof.Machine.execTrainTimeout l s
  | .reservedRelease l => Sys2Proof.Machine.execReservedRelease l s
  | .statusBlockSend l => Sys2Proof.Machine.execStatusBlockSend l s
  | .sumSend l => Sys2Proof.Machine.execSumSend l s
  | .bulkPacketReceive l => Sys2Proof.Machine.execBulkPacketReceive l s
  | .creditReturn l => Sys2Proof.Machine.execCreditReturn l s
  | .bulkDescriptor => Sys2Proof.Machine.execBulkDescriptor s
  | .bulkTimeout => Sys2Proof.Machine.execBulkTimeout s
  | .pointingGo m v => Sys2Proof.Machine.execPointingGo m v s
  | .pointingAbort m => Sys2Proof.Machine.execPointingAbort m s
  | .pointingOccurrence k => Sys2Proof.Machine.execPointingOccurrence k s
  | .pointingMeasurement k ms => Sys2Proof.Machine.execPointingMeasurement k ms s
  | .commitStep k => Sys2Proof.Machine.execCommitStep k s
  | .pointingTimeout => Sys2Proof.Machine.execPointingTimeout s
  | .pntLogClear m v => Sys2Proof.Machine.execPntLogClear m v s
  | .pntTrimDataRead m => Sys2Proof.Machine.execPntTrimDataRead m s
  | .monSeqEnable m v => Sys2Proof.Machine.execMonSeqEnable m v s
  | .monPassStart => Sys2Proof.Machine.execMonPassStart s
  | .monInjectStart j => Sys2Proof.Machine.execMonInjectStart j s
  | .monConversionDone value => Sys2Proof.Machine.execMonConversionDone value s
  | .holdRequest m => Sys2Proof.Machine.execHoldRequest m s
  | .holdEntry => Sys2Proof.Machine.execHoldEntry s
  | .runRequest m => Sys2Proof.Machine.execRunRequest m s
  | .runEntry => Sys2Proof.Machine.execRunEntry s
  | .standbyRequest m => Sys2Proof.Machine.execStandbyRequest m s
  | .standbyEntry => Sys2Proof.Machine.execStandbyEntry s
  | .standbyExit m => Sys2Proof.Machine.execStandbyExit m s
  | .thermalEvaluate temps => Sys2Proof.Machine.execThermalEvaluate temps s
  | .thermalShutdown dies => Sys2Proof.Machine.execThermalShutdown dies s
  | .railsDown => Sys2Proof.Machine.execRailsDown s
  | .supplyFault mv railOut => Sys2Proof.Machine.execSupplyFault mv railOut s
  | .supplyReturn mv => Sys2Proof.Machine.execSupplyReturn mv s
  | .thermalLatchClear mv48 mv33 => Sys2Proof.Machine.execThermalLatchClear mv48 mv33 s
  | .i2cPointerWrite data => Sys2Proof.Machine.execI2cPointerWrite data s
  | .i2cRead => Sys2Proof.Machine.execI2cRead s
  | .i2cRefresh mv48 mv33 => Sys2Proof.Machine.execI2cRefresh mv48 mv33 s
  | .rxstatRead m k b => Sys2Proof.Machine.execRxstatRead m k b s
  | .prbsChecker l rx => Sys2Proof.Machine.execPrbsChecker l rx s
  | .freqGateOpen f => Sys2Proof.Machine.execFreqGateOpen f s

end Sys2Proof.Machine
end

