-- ==== Sys2Proof/Machine/Tick.lean ====
section
/-! DEFINITION. One tick elapses: what the block does with nothing commanded (04_time_base_and_sync.md R100 to R104, and the pipelines of the other
chapters). The end of the old tick comes first, then the counters, then the start of the new tick (notes/assumptions/2.md). -/

namespace Sys2Proof.Machine

/-- The keys of a map. -/
def keys {α : Type} (m : SMap α) : List Nat := m.map (·.1)

/-- The lines that carry samples, or may have to. -/
def linesBusy (s : State) : List Nat := (keys s.lines ++ (keys s.slots).map (· / 4)).eraseDups

/-- The Calipers with something on its way. -/
def clpBusy (s : State) : List Nat := (keys s.calipers ++ (s.listed R.CLP_DEP_W_W).map (· / 4) ++ (keys s.depWPrev).map (· / 4)).eraseDups

/-- The end of the present tick: PLAYs start, lines synthesise and deliver, deposit queues write, capture units sample. -/
def tickEnd (s : State) : State :=
  let s := forAll (keys s.slots) (chsReservedTick s) slotTickEnd
  let s := forAll (linesBusy s) s lineChain
  let s := forAll (linesBusy s) s lineOut
  let s := forAll (clpBusy s) s clpTickEnd
  frmSettle (forAll (List.range 16) s capTickEnd)

/-- A clock alarm that is still active at the end of a tick was active on it (R116, R118). -/
def alarmTick (s : State) : State :=
  let old := s.clk.alarms.filter fun t => decide (s.tick ≤ t + 256)
  if alarmActive s then { s with alarmLast := s.tick + 1, clk := { s.clk with alarms := s.tick :: old } }
  else { s with clk := { s.clk with alarms := old } }

/-- The next tick: local ticks and schedule time count (R100, R102). -/
def tickCount (s : State) : State :=
  let now := (s.now + 1) % 2 ^ 64
  { s with tick := s.tick + 1, now := now, epochDue := now % 2 ^ 40 == 0 }

/-- A new cycle: nothing has happened on it yet. -/
def cycleNext (s : State) : State := { s with cyc := {} }

/-- Forget what no rule looks back at any more. -/
def tickForget (s : State) : State :=
  { s with tinSeen := s.tinSeen.filter fun e => decide (s.tick ≤ e.e + 64)
           fired := s.fired.filter fun f => decide (s.tick ≤ f.tick + 64)
           pubSeen := s.pubSeen.filter fun p => decide (s.tick ≤ p.1 + 64) }

/-- RES_EN stands where the conditions of R403 hold, and only there. -/
def resTick (s : State) : State := forAll ((keys s.lans).filter fun l => lanState s l == 4) s resEval

/-- The start of a tick: markers, governor, ladders, slots, windows, Caliper events, harvest entries, ARM. -/
def tickStart (s : State) : State :=
  let s := stmVisible (marksDue (skewTick (tickForget s)))
  let s := biasLadders (forAll (govBusy s) s govTick)
  let s := forAll (keys s.slots) s slotTickStart
  let s := forAll (keys s.windows) s winTick
  let s := resTick (chsReservedTick (evhVisible (forAll (keys s.calipers) s clpTickStart)))
  if armVisible s then s.set R.CLK_STATUS_TIME_PENDING 1 else s

/-- 2.5 ns pass; while the PLL runs, a tick. -/
def tickElapse (s : State) : State :=
  let s := if ticking s then tickStart (tickCount (cycleNext (alarmTick (tickEnd s)))) else cycleNext s
  pntTick { s with clock := s.clock + 1 }

end Sys2Proof.Machine
end

