-- ==== Sys2Proof/Safety.lean ====
section
/-! DEFINITION. What a well-kept state is, and what it means that a command changes nothing but the registers and the parts of the state it names. -/

namespace Sys2Proof.Machine

/-! ### The canonical form -/

/-- The declared width of register field number `id` (the headings of W0 number their fields in order); 0 for a number none carries. -/
def fldWidth (id : Nat) : Nat := ((allRegs.flatMap (·.flds))[id]?.map (·.width)).getD 0

/-- The registers are listed once each, and each value fits its field. -/
def RegsFit (s : State) : Prop := srising s.regs = true ∧ ∀ p ∈ s.regs, p.2 < 2 ^ fldWidth (p.1 / 0x400000)

/-- HBM is listed in its canonical form: addresses strictly rising, no zero byte, nothing at or past its end (R364). -/
def Memory.wf (s : State) : Bool := swf 0 s.hbm && s.hbm.all fun p => decide (p.1 < hbmSize)

/-- The state is well kept: its registers fit, and its three memories (HBM, attached memory, SRAM of the Plinth) are canonical. -/
def Canon (s : State) : Prop := RegsFit s ∧ Memory.wf s = true ∧ swf 0 s.flash = true ∧ swf 0 s.sram = true

/-! ### Frames -/

/-- The parts of the state beside its registers, by the names `State` gives them. Its last field, `cyc`, is no part: it is bookkeeping of the
present cycle, which the meanings clear when time goes on, and holds nothing the manual gives the block. -/
inductive Part where
  | pending | readData | readPoison | now | tick | fresh | xtalFail | epochDue | armVis | phaseNow | syncErrs | slipRun | lastGoodL | skew | syncOut
  | alarmLast | taintTick | shotT | harvest | hNext | hLast | nq | points | evhLatch | arrivals | chAny | chRt | deliver | rq | clock | bootT0
  | bootUnwritten | gaps | mkOps | mkEnd | shotStart | dmap | decDecl | decVal | decPub | decTaint | pfuMem | pfuCnt | pfuPrev | pfuRec | pfuNext
  | rounds | hbm | chsProg | chsEnv | chisels | barArr | barSeen | tinSeen | playSeen | slots | stmFetch | stmBuf | frmInit | frmLive | frmOps
  | lines | biases | quiesce | quiesceEnd | patinas | zoneSets | ovrs | windows | kmem | calipers | clpProg | clpMem | clpInit | clpEmask | depWPrev
  | mbxQ | mbxRing | taskLast | evhSent | fired | pubSeen | caps | tinFifo | tinLast | tdcPos | tdcHits | tdcCal | ivls | arbs | hostA | hostB
  | hostBQ | msix | lans | lanTx | lanRx | lanDef | lanLen | bqCur | timeLoadedAt | systemTag | frqs | mon | pnt | pwr | boot | flash | sram | i2c
  | clk
  deriving DecidableEq, Repr

/-- Part `p` is the same in both states. -/
@[reducible] def Part.same (p : Part) (s t : State) : Prop :=
  match p with
  | .pending => t.pending = s.pending
  | .readData => t.readData = s.readData
  | .readPoison => t.readPoison = s.readPoison
  | .now => t.now = s.now
  | .tick => t.tick = s.tick
  | .fresh => t.fresh = s.fresh
  | .xtalFail => t.xtalFail = s.xtalFail
  | .epochDue => t.epochDue = s.epochDue
  | .armVis => t.armVis = s.armVis
  | .phaseNow => t.phaseNow = s.phaseNow
  | .syncErrs => t.syncErrs = s.syncErrs
  | .slipRun => t.slipRun = s.slipRun
  | .lastGoodL => t.lastGoodL = s.lastGoodL
  | .skew => t.skew = s.skew
  | .syncOut => t.syncOut = s.syncOut
  | .alarmLast => t.alarmLast = s.alarmLast
  | .taintTick => t.taintTick = s.taintTick
  | .shotT => t.shotT = s.shotT
  | .harvest => t.harvest = s.harvest
  | .hNext => t.hNext = s.hNext
  | .hLast => t.hLast = s.hLast
  | .nq => t.nq = s.nq
  | .points => t.points = s.points
  | .evhLatch => t.evhLatch = s.evhLatch
  | .arrivals => t.arrivals = s.arrivals
  | .chAny => t.chAny = s.chAny
  | .chRt => t.chRt = s.chRt
  | .deliver => t.deliver = s.deliver
  | .rq => t.rq = s.rq
  | .clock => t.clock = s.clock
  | .bootT0 => t.bootT0 = s.bootT0
  | .bootUnwritten => t.bootUnwritten = s.bootUnwritten
  | .gaps => t.gaps = s.gaps
  | .mkOps => t.mkOps = s.mkOps
  | .mkEnd => t.mkEnd = s.mkEnd
  | .shotStart => t.shotStart = s.shotStart
  | .dmap => t.dmap = s.dmap
  | .decDecl => t.decDecl = s.decDecl
  | .decVal => t.decVal = s.decVal
  | .decPub => t.decPub = s.decPub
  | .decTaint => t.decTaint = s.decTaint
  | .pfuMem => t.pfuMem = s.pfuMem
  | .pfuCnt => t.pfuCnt = s.pfuCnt
  | .pfuPrev => t.pfuPrev = s.pfuPrev
  | .pfuRec => t.pfuRec = s.pfuRec
  | .pfuNext => t.pfuNext = s.pfuNext
  | .rounds => t.rounds = s.rounds
  | .hbm => t.hbm = s.hbm
  | .chsProg => t.chsProg = s.chsProg
  | .chsEnv => t.chsEnv = s.chsEnv
  | .chisels => t.chisels = s.chisels
  | .barArr => t.barArr = s.barArr
  | .barSeen => t.barSeen = s.barSeen
  | .tinSeen => t.tinSeen = s.tinSeen
  | .playSeen => t.playSeen = s.playSeen
  | .slots => t.slots = s.slots
  | .stmFetch => t.stmFetch = s.stmFetch
  | .stmBuf => t.stmBuf = s.stmBuf
  | .frmInit => t.frmInit = s.frmInit
  | .frmLive => t.frmLive = s.frmLive
  | .frmOps => t.frmOps = s.frmOps
  | .lines => t.lines = s.lines
  | .biases => t.biases = s.biases
  | .quiesce => t.quiesce = s.quiesce
  | .quiesceEnd => t.quiesceEnd = s.quiesceEnd
  | .patinas => t.patinas = s.patinas
  | .zoneSets => t.zoneSets = s.zoneSets
  | .ovrs => t.ovrs = s.ovrs
  | .windows => t.windows = s.windows
  | .kmem => t.kmem = s.kmem
  | .calipers => t.calipers = s.calipers
  | .clpProg => t.clpProg = s.clpProg
  | .clpMem => t.clpMem = s.clpMem
  | .clpInit => t.clpInit = s.clpInit
  | .clpEmask => t.clpEmask = s.clpEmask
  | .depWPrev => t.depWPrev = s.depWPrev
  | .mbxQ => t.mbxQ = s.mbxQ
  | .mbxRing => t.mbxRing = s.mbxRing
  | .taskLast => t.taskLast = s.taskLast
  | .evhSent => t.evhSent = s.evhSent
  | .fired => t.fired = s.fired
  | .pubSeen => t.pubSeen = s.pubSeen
  | .caps => t.caps = s.caps
  | .tinFifo => t.tinFifo = s.tinFifo
  | .tinLast => t.tinLast = s.tinLast
  | .tdcPos => t.tdcPos = s.tdcPos
  | .tdcHits => t.tdcHits = s.tdcHits
  | .tdcCal => t.tdcCal = s.tdcCal
  | .ivls => t.ivls = s.ivls
  | .arbs => t.arbs = s.arbs
  | .hostA => t.hostA = s.hostA
  | .hostB => t.hostB = s.hostB
  | .hostBQ => t.hostBQ = s.hostBQ
  | .msix => t.msix = s.msix
  | .lans => t.lans = s.lans
  | .lanTx => t.lanTx = s.lanTx
  | .lanRx => t.lanRx = s.lanRx
  | .lanDef => t.lanDef = s.lanDef
  | .lanLen => t.lanLen = s.lanLen
  | .bqCur => t.bqCur = s.bqCur
  | .timeLoadedAt => t.timeLoadedAt = s.timeLoadedAt
  | .systemTag => t.systemTag = s.systemTag
  | .frqs => t.frqs = s.frqs
  | .mon => t.mon = s.mon
  | .pnt => t.pnt = s.pnt
  | .pwr => t.pwr = s.pwr
  | .boot => t.boot = s.boot
  | .flash => t.flash = s.flash
  | .sram => t.sram = s.sram
  | .i2c => t.i2c = s.i2c
  | .clk => t.clk = s.clk

/-- The register fields of W0 are numbered below this. -/
def fldCount : Nat := 688

/-- A place among the registers: a field of W0, in one instance or (none) in every one. -/
abbrev Place := Fld × Option Nat

/-- The field in every instance. -/
def every (f : Fld) : Place := (f, none)

/-- The field in instance `i`. -/
def only (f : Fld) (i : Nat) : Place := (f, some i)

/-- Is instance `i` of field `f` one of the places? Instance numbers count modulo 2^22, as the register store holds them. -/
def named (rs : List Place) (f : Fld) (i : Nat) : Bool :=
  rs.any fun r => r.1.id == f.id && match r.2 with
    | none => true
    | some j => j % 0x400000 == i % 0x400000

/-- Nothing differs from `s` to `t` but the register places `rs` and the parts `ps`. -/
def Frame (rs : List Place) (ps : List Part) (s t : State) : Prop :=
  (∀ f i, f.id < fldCount → named rs f i = false → t.get f i = s.get f i) ∧ ∀ p, p ∉ ps → p.same s t

/-- Command `c` at `s` answers a next state, of which `P` holds and which differs from `s` in the places `rs` and the parts `ps` only. -/
def Runs (c : Instr) (s : State) (rs : List Place) (ps : List Part) (P : State → Prop) : Prop :=
  ∃ t, exec c s = .next t ∧ P t ∧ Frame rs ps s t

/-- A sparse map is as it was but at index `i`. -/
def SameBut {α : Type} (d : α) (i : Nat) (m m' : SMap α) : Prop := ∀ j, j ≠ i → sget d m' j = sget d m j

end Sys2Proof.Machine
end

