-- ==== Sys2Proof/Certificates/Slice0/Obligations.lean ====
section
/-! DEFINITION. The statements for the provers. Each says what a command does or what the block keeps; a clause `Runs c s rs ps P` says that
command `c` at `s` answers a next state of which P holds, and that nothing but the register places `rs` and the parts `ps` has changed. -/

set_option Elab.async false

open Sys2Proof Sys2Proof.Machine

/-! ### Terms of the statements -/

namespace Sys2Proof.Machine

/-- The places that a firing of the event fabric may write (R340, R347). -/
def eventPlaces : List Place := [every R.EVF_STATUS_REFUSED, every R.EVF_CHST_REFUSED, every R.EVF_CHST_REFUSE_CNT, every R.CLP_EV_IGNORE_CNT_COUNT]

/-- The parts that a firing of the event fabric may write (R341, R342, R346). -/
def eventParts : List Part := [.fresh, .evhLatch, .arrivals, .chAny, .chRt, .deliver, .fired]

/-- The places where a taint bit that is set somewhere in the module is shown (R37, R481). -/
def taintPlaces : List Place :=
  [every R.GLB_TAINT_STICKY_TAINT, every R.GLB_TAINT_FIRST_LO_TICK_LO, every R.GLB_TAINT_FIRST_HI_TICK_HI, every R.GLB_TAINT_FIRST_SRC_VALID,
    every R.GLB_TAINT_FIRST_SRC_BIT, every R.GLB_TAINT_FIRST_SRC_BLOCK, every R.GLB_TAINT_FIRST_SRC_INSTANCE]

/-- The places where a contract violation is logged (R65, R67). -/
def contractPlaces : List Place :=
  [every R.GLB_CONTRACT_STICKY_CHS_CODES, every R.GLB_CONTRACT_STICKY_CLP_CODES, every R.GLB_CONTRACT_LOG_TLO_TICK_LO,
    every R.GLB_CONTRACT_LOG_THI_TICK_HI, every R.GLB_CONTRACT_LOG_SRC_VALID, every R.GLB_CONTRACT_LOG_SRC_CODE, every R.GLB_CONTRACT_LOG_SRC_BLOCK,
    every R.GLB_CONTRACT_LOG_SRC_INSTANCE, every R.GLB_CONTRACT_LOG_PC_PC, every R.GLB_CONTRACT_FILL_ENTRIES, every R.GLB_CONTRACT_CNT_COUNT]

/-- The boot log (R89, R90). -/
def bootLogPlaces : List Place :=
  [every R.BOOT_LOG_FILL_NEXT, every R.BOOT_LOG_FILL_ENTRIES, every R.BOOT_LOG_W0_WORD, every R.BOOT_LOG_W1_WORD, every R.BOOT_LOG_W2_WORD,
    every R.BOOT_LOG_W3_WORD]

/-- An issue of opcode `op` on Chisel `n` that acts: the Chisel is ISSUING, its tick is the reference tick plus Δt (R120), Δt is not
below the minimum (R122), the address lies in program memory, and the form is not reserved (R129). -/
abbrev ChsReady (s : State) (n : Fin 128) (dt : BitVec 12) (op : Nat) (a : BitVec 19) (b : Word36) : Prop :=
  s.get R.CHS_STATUS_STATE n = 2 ∧ (chs s n).ref + dt.toNat = s.tick ∧ (chs s n).minDt ≤ dt.toNat ∧ (chs s n).next < 32768 ∧
    chsFormOk op a.toNat b.toNat = true

/-- The sequencing state of Chisel `n` after an issue on this tick: the next address follows, this tick is the new reference tick,
and the next instruction has the minimum Δt `m` (R120, Table CHS-5). -/
def chsNext (s : State) (n m : Nat) : Chs := { chs s n with next := (chs s n).next + 1, ref := s.tick, minDt := m }

/-- Chisel `n` has issued: PC names the instruction, its sequencing state is `c`, and no other Chisel's has changed. -/
def ChsIssued (s t : State) (n : Nat) (c : Chs) : Prop :=
  t.get R.CHS_STATUS_PC n = (chs s n).next ∧ chs t n = c ∧ SameBut {} n s.chisels t.chisels

/-- The conditions of Table CHS-9 on signed 36-bit values (R136). -/
def brgTaken (cond : Nat) (x y : Int) : Prop :=
  match cond with
  | 0 => x = 0
  | 1 => x ≠ 0
  | 2 => x < 0
  | 3 => 0 ≤ x
  | 4 => x = y
  | 5 => x ≠ y
  | 6 => x < y
  | _ => y ≤ x

/-- The records that have entered result queue `q` and stand in no closed block: those in its open block, then those waiting (R376, R377). -/
def queuedRecs (s : State) (q : Nat) : List Rec := (sget {} s.rq q).openBlk ++ (sget {} s.rq q).waiting

/-- Record `r` has entered result queue `q`, which had room, and no other queue has changed: behind the records that stood there, or, a
demodulator or Patina record, before one of its tick and epoch that R249 puts after it. -/
def RecEntered (s t : State) (q : Nat) (r : Rec) : Prop :=
  (∃ i ≤ (queuedRecs s q).length, queuedRecs t q = (queuedRecs s q).take i ++ r :: (queuedRecs s q).drop i ∧
    ∀ x ∈ (queuedRecs s q)[i]?, (sget {} s.rq q).at_ = s.tick ∧ x.epoch = r.epoch ∧ 0 < recOrder r ∧ recOrder r < recOrder x) ∧
  SameBut {} q s.rq t.rq

/-- A real-time firing of source `src` is accepted on this tick: the source is bound, and its channel has accepted no firing in the last
3 ticks (R337, R340). -/
abbrev FiresRt (s : State) (src : Nat) : Prop :=
  s.get R.EVF_SRC_EN src ≠ 0 ∧ (sget 0 s.chRt (s.get R.EVF_SRC_CH src) = 0 ∨ sget 0 s.chRt (s.get R.EVF_SRC_CH src) + 3 < s.clock + 1)

/-- The commands that are one issue of a Chisel instruction, with opcode (Table CHS-5). -/
def chsIssues : List (Nat × (Fin 128 → BitVec 12 → BitVec 19 → BitVec 36 → Instr)) :=
  [(0x00, .end_), (0x01, .nop), (0x02, .wait), (0x03, .waita), (0x04, .waitt), (0x05, .lbar), (0x06, .jmp), (0x07, .brd), (0x08, .brg), (0x09, .loop_),
    (0x0A, .setk), (0x0B, .alu), (0x0C, .harvest), (0x0D, .emit), (0x10, .play), (0x11, .table_), (0x12, .bias), (0x13, .mark), (0x14, .window),
    (0x18, .shift), (0x19, .setf), (0x1A, .setfr), (0x1B, .freset)]

/-- An access of master `m` to the register at W0 offset `off`, in the register's own width, reaches it: the service plane runs (R98), the
register's block answers (Table BOOT-1, R443), and no check turns the access away (R5, R7, R91, R94). -/
def reaches (s : State) (m : Master) (off : Nat) (write : Bool) : Bool :=
  match regAt off allRegs with
  | some (r, is, b) => !s.xtalFail && regLive s r && match accessCheck s m r is b (if r.wide then 64 else 32) off write with
    | .pass => true
    | .deny _ => false
  | none => false

/-- The places where a world violation is counted and captured (R91). -/
def violationPlaces : List Place :=
  [every R.SEC_VIOL_CNT_COUNT, every R.SEC_VIOL_SRC_VALID, every R.SEC_VIOL_SRC_WRITE, every R.SEC_VIOL_SRC_INSTANCE, every R.SEC_VIOL_SRC_MASTER,
    every R.SEC_VIOL_SRC_KIND, every R.SEC_VIOL_ADDR_LO_ADDR, every R.SEC_VIOL_ADDR_HI_ADDR]

/-- The access-error log (R385). -/
def errorPlaces : List Place :=
  [every R.HST_AERR_CNT_COUNT, every R.HST_AERR_SRC_VALID, every R.HST_AERR_SRC_WRITE, every R.HST_AERR_SRC_MASTER, every R.HST_AERR_SRC_KIND,
    every R.HST_AERR_ADDR_ADDR]

/-- The registers that do something when written, beside holding what was written. -/
def activeBases : List Nat :=
  [0x20, 0x40, 0x620, 0x640, 0x109100, 0x100004, 0x109114, 0x108000, 0x109000, 0x109004, 0x200008, 0x20000C, 0x200014, 0x200028, 0x20001C, 0x200020, 0x200034, 0x400010, 0x400020, 0x400024, 0x404004,
    0x408004, 0x500000, 0x500010, 0x500014, 0x500080, 0x580000, 0x580100, 0x401000, 0x408000] ++
  [0x600000, 0x600004, 0x600008, 0x600100, 0x600400, 0x700010, 0x701000, 0x701004, 0x701008, 0x701010, 0x800000, 0x800030, 0x800040, 0x808010,
    0x808014, 0x808018, 0x900000, 0x900030, 0x901000, 0x903004, 0xB0001C, 0xB20000, 0xB30000, 0xB38000, 0xB38008, 0xB40000, 0xB40004] ++
  [0x1000028, 0x1001000, 0x1001004, 0x1001008, 0x100100C, 0x1001010, 0x1001014, 0x2000000, 0x2000008, 0x200000C, 0x2000100, 0x2000104, 0x2000440, 0x2800000, 0x2800004, 0x2800028,
    0x2800040, 0x2800044, 0x2800048, 0x2800100, 0x3000000, 0x3000010, 0x3000088]

/-- The registers whose read latches, shows, pops or takes something. -/
def activeReads : List Nat :=
  [0x200038, 0x400024, 0x500008, 0x500018, 0x580100, 0x800034, 0x900024, 0xA00100, 0xB10018, 0xB20010, 0xB20020, 0xB3000C, 0xB30014, 0xB3001C,
    0xB3800C, 0x2000470, 0x3000180, 0xA00408, 0xA0801C, 0xA08024, 0x1000028, 0x2800028, 0x3000088]

/-- Word 0 of a segment-table entry ignores writes (SEG_ENT). -/
abbrev entryPlace (f : Fld) (i : Nat) : Prop := f.id = R.SEG_ENT_BYTES.id ∧ i % 8 = 0

/-- What field `f` of instance `i` holds after a write of the word `v` (Table GLB-2); a W1C bit that hardware set on this cycle stays set (R10),
and a written 0 that counts as 1 is stored so (log entry 41). -/
def writtenField (s : State) (f : Fld) (i v : Nat) : Nat :=
  let x := bits v (f.lo + f.width - 1) f.lo
  if entryPlace f i then s.get f i else match f.acc with
  | .ro | .wo => s.get f i
  | .rw | .rs =>
    if f.id = R.GLB_SCHED_START_LO_TIME_LO.id then x - x % 4
    else if (f.id = R.CLK_SYNC_CTRL_PERIOD.id ∨ f.id = R.GOV_GLIDE_MAX_GMAX.id) ∧ x = 0 then 1 else x
  | .w1c => ((s.get f i &&& (2 ^ f.width - 1 - x)) ||| s.heldBits f i) % 2 ^ f.width
  | .w1s => if x = 0 then s.get f i else (s.get f i ||| x) % 2 ^ f.width

/-- The places that the entry to RUN, beside an event, may write. -/
def runPlaces : List Place :=
  [every R.GLB_SCHED_STATUS_STATE, every R.CLK_STATUS_TIME_PENDING, every R.CLK_ALARM_LOAD_CANCELLED, every R.CLK_TIME_CTRL_ARM,
    every R.CLK_SHOT_COUNT, every R.CLK_SHOT_EPOCH_EPOCH, every R.HST_RES_WR_INDEX, every R.HST_RES_RD_INDEX, every R.PWR_STATE_STATE,
    every R.PFU_STATUS_FIRST, every R.PFU_ROUND_ROUND, every R.PFU_PENDING_COUNT, every R.ACQ_RD_INDEX, every R.ACQ_WR_INDEX,
    every R.ACQ_STATUS_STATE, every R.ACQ_STATUS_CFG_ERR, every R.ACQ_REC_CNT_COUNT, every R.MKO_CTRL_PIN, every R.MKO_CTRL_LEVEL,
    every R.CHS_STATUS_STATE, every R.CHS_G_VALUE, every R.LIN_STATUS_MUTE_CAUSE, every R.CLP_STATUS_STATE, every R.CLP_X_VALUE, every R.CLP_P_VALUE,
    every R.CLP_M_VALUE]

/-- The parts that the entry to RUN, beside an event, may write. -/
def runParts : List Part :=
  [.mkOps, .mkEnd, .pfuPrev, .pfuRec, .pfuNext, .rounds, .chisels, .frmLive, .frmOps, .calipers, .evhSent, .caps, .pwr]

/-- The places that the entry to HOLD, beside an event, may write. -/
def holdPlaces : List Place :=
  [every R.GLB_SCHED_STATUS_STATE, every R.HST_RES_STAT_WAITING, every R.PWR_STATE_STATE, every R.CHS_STATUS_STATE, every R.SEG_SLOT_MODE,
    every R.SEG_SLOT_LATCH, every R.SEG_SLOT_STOP_PEND, every R.SEG_SLOT_REPOINT_PEND, every R.SEG_SLOT_ENTRY, every R.SEG_SLOT_REMAIN,
    every R.STM_WR_INDEX, every R.STM_RD_INDEX, every R.STM_CONS_INDEX, every R.LIN_STATUS_LIVE, every R.LIN_STATUS_MUTE_CAUSE,
    every R.TON_SLOT_BUSY, every R.TON_SLOT_MODE, every R.BIA_TARGET_CODE, every R.BIA_STATUS_GLIDING, every R.DMD_STATUS_OPEN,
    every R.CLP_STATUS_STATE, every R.CLP_X_VALUE, every R.CLP_P_VALUE, every R.CLP_M_VALUE]

/-- The parts that the entry to HOLD, beside an event, may write. -/
def holdParts : List Part :=
  [.harvest, .hNext, .hLast, .rq, .mkOps, .mkEnd, .chisels, .barArr, .slots, .stmFetch, .stmBuf, .lines, .biases, .windows, .calipers, .clpMem, .caps]

/-- The places that the entry to CAST, beside an event and the boot log, may write. -/
def castPlaces : List Place :=
  [every R.GLB_ARMATURE_ID_MAJOR, every R.GLB_ARMATURE_ID_MINOR, every R.GLB_ARMATURE_ID_GENERATION, every R.GLB_SCHED_STATUS_STATE,
    every R.BOOT_STATUS_LAST_CODE, every R.BOOT_STATUS_LOG_PENDING, every R.BOOT_STATUS_OP, every R.BOOT_STATUS_ACTIVE_SLOT,
    every R.BOOT_STATUS_STATE, every R.BOOT_CAST_TIME_MICROSECONDS, every R.SEC_KEY_STATE_ACTIVE, every R.CLK_STATUS_TIME_PENDING,
    every R.CLK_ALARM_LOAD_CANCELLED, every R.CLK_TIME_CTRL_ARM, every R.CLK_SHOT_COUNT, every R.CLK_SHOT_EPOCH_EPOCH, every R.EVF_TASKST_PENDING,
    every R.HST_SESSION_RECOVERY, every R.HST_RES_WR_INDEX, every R.HST_RES_RD_INDEX, every R.LAN_STATUS_RES_EN, every R.LAN_STATUS_MISMATCH,
    every R.PWR_STATE_STATE, every R.PFU_STATUS_FIRST, every R.PFU_ROUND_ROUND, every R.PFU_PENDING_COUNT, every R.ACQ_RD_INDEX,
    every R.ACQ_WR_INDEX, every R.ACQ_STATUS_STATE, every R.ACQ_STATUS_CFG_ERR, every R.ACQ_REC_CNT_COUNT, every R.MKO_CTRL_PIN,
    every R.MKO_CTRL_LEVEL, every R.CHS_STATUS_STATE, every R.CHS_G_VALUE, every R.STM_WR_INDEX, every R.STM_RD_INDEX, every R.STM_CONS_INDEX,
    every R.LIN_STATUS_MUTE_CAUSE, every R.CLP_STATUS_STATE, every R.CLP_STATUS_HANDLER, every R.CLP_EVT_EPEND, every R.CLP_EVT_EMASK,
    every R.CLP_ELR_ELR, every R.CLP_X_VALUE, every R.CLP_P_VALUE, every R.CLP_M_VALUE]

/-- The parts that the entry to CAST, beside an event and the boot log, may write. -/
def castParts : List Part :=
  [.mkOps, .mkEnd, .pfuPrev, .pfuRec, .pfuNext, .rounds, .chisels, .stmFetch, .stmBuf, .frmLive, .frmOps, .calipers, .evhSent, .caps, .pwr, .boot,
    .flash]

/-- The places that an answer of S0 through mailbox 0, beside an event, may write. -/
def mailPlaces : List Place :=
  [every R.GLB_PLN_STATUS_STATE, every R.MBX_TXSTAT_COLLIDE, every R.MBX_TXSTAT_DB_PEND, every R.MBX_TXSTAT_FILL, every R.MBX_RXSTAT_DB,
    every R.MBX_RXSTAT_COLLIDE, every R.MBX_RXSTAT_FILL, every R.MBX_COLLIDE_CNT_COUNT, every R.CLP_EVT_EPEND, every R.CLP_EV_MERGE_CNT_COUNT]

/-- The parts that an answer of S0 through mailbox 0, beside an event, may write. -/
def mailParts : List Part :=
  [.mbxQ, .mbxRing]

/-- The places that a start of firmware, beside an event and the boot log, may write. -/
def firmwarePlaces : List Place :=
  [every R.GLB_PLN_STATUS_STATE, every R.BOOT_STATUS_LAST_CODE, every R.BOOT_STATUS_LOG_PENDING, every R.BOOT_STATUS_OP, every R.BOOT_STATUS_STATE,
    every R.CLK_SYNC_PATH_TAPS, every R.LAN_RX_TAP_TAP, every R.PNT_STATUS_CLAMPED, every R.LIN_FSC_CODE, every R.BIA_STATUS_STATE,
    every R.BIA_STATUS_GLIDING, every R.INP_SLC_OFF_BASE, every R.INP_SLC_GAIN_BASE, every R.INP_SLC_SKEW_TAPS]

/-- The parts that a start of firmware, beside an event and the boot log, may write. -/
def firmwareParts : List Part :=
  [.hbm, .biases, .zoneSets, .arbs, .pnt, .boot, .flash, .sram]

/-- An entry of the boot log: kind and code, slot, data word (R90). -/
def BootLogged (s t : State) (kind code slot data : Nat) : Prop :=
  t.get R.BOOT_LOG_FILL_NEXT = (s.get R.BOOT_LOG_FILL_NEXT + 1) % 512 ∧
    t.get R.BOOT_LOG_W2_WORD (s.get R.BOOT_LOG_FILL_NEXT) = kind + 2 ^ 8 * code + 2 ^ 16 * slot ∧
    t.get R.BOOT_LOG_W3_WORD (s.get R.BOOT_LOG_FILL_NEXT) = data % 2 ^ 32

/-- The places that the start of a shot, beside an event, may write. -/
def shotPlaces : List Place :=
  [every R.GLB_TAINT_STICKY_TAINT, every R.GLB_TAINT_FIRST_LO_TICK_LO, every R.GLB_TAINT_FIRST_HI_TICK_HI, every R.GLB_TAINT_FIRST_SRC_VALID,
    every R.GLB_TAINT_FIRST_SRC_INSTANCE, every R.GLB_TAINT_FIRST_SRC_BLOCK, every R.GLB_TAINT_FIRST_SRC_BIT, every R.GLB_HARVEST_DISCARD_CNT_COUNT,
    every R.GLB_BAR_COMPLETE, every R.GLB_BAR_LOCAL, every R.GLB_BAR_TOKENS, every R.EVF_TASKST_PENDING, every R.PFU_STATUS_FIRST,
    every R.PFU_PENDING_COUNT, every R.CHS_STATUS_STATE, every R.CHS_STATUS_CUT, every R.CHS_STATUS_SHOT_TAINT, every R.CHS_PREV_TAINT_TAINT,
    every R.CHS_PREV_SHOT_COUNT, every R.CHS_CUT_CNT_COUNT, every R.CHS_G_VALUE, every R.CHS_K_VALUE, every R.CLP_STATUS_STATE,
    every R.CLP_STATUS_HANDLER, every R.CLP_STATUS_CUT, every R.CLP_STATUS_SHOT_TAINT, every R.CLP_PREV_TAINT_TAINT, every R.CLP_PREV_SHOT_COUNT,
    every R.CLP_EVT_EPEND, every R.CLP_EVT_EMASK, every R.CLP_ELR_ELR, every R.CLP_DEP_W_W, every R.CLP_X_VALUE, every R.CLP_CUT_CNT_COUNT]

/-- The parts that the start of a shot, beside an event, may write. -/
def shotParts : List Part :=
  [.taintTick, .shotT, .harvest, .hNext, .hLast, .shotStart, .decPub, .decTaint, .pfuPrev, .pfuRec, .chisels, .barArr, .barSeen, .calipers, .lans]

/-- The CLK registers: what the real-time PLL loses when it is switched off (R104). -/
def clockFlds : List Fld :=
  (allRegs.flatMap (·.flds)).filter fun f => decide (R.CLK_STATUS_RELOCK_BUSY.id ≤ f.id ∧ f.id ≤ R.CLK_REF_COUNT_COUNT.id)

/-- The parts beside them. -/
def clockParts : List Part := [.now, .epochDue, .armVis, .phaseNow, .syncErrs, .slipRun, .lastGoodL, .skew, .clk]

/-- The places where an alarm of Table CLK-3 shows. -/
def alarmPlaces : List Place := [only R.CLK_ALARM_ALARMS 0, only R.CLK_STATUS_HOLDOVER 0]

/-- Event source `src` fires: if it is bound, to a channel that has accepted no firing yet, that channel accepts one on this tick (R337, R340). -/
abbrev EventFires (s t : State) (src : Nat) : Prop :=
  s.get R.EVF_SRC_EN src ≠ 0 → sget 0 s.chAny (s.get R.EVF_SRC_CH src) = 0 → sget 0 s.chRt (s.get R.EVF_SRC_CH src) = 0 →
    sget 0 t.chAny (s.get R.EVF_SRC_CH src) = s.clock + 1

/-- A counter of 32 bits has counted one, saturating (R37). -/
abbrev Counted (s t : State) (f : Fld) (i : Nat := 0) : Prop := t.get f i = min (s.get f i + 1) 0xFFFFFFFF

/-- An access to `n` bytes of HBM from address `a` by a master of the given world is granted (R91, R95, R364). -/
abbrev Granted (s : State) (secure : Bool) (a n : Nat) : Prop := a + n ≤ hbmSize ∧ (secure = true ∨ hbmNonSecure s a n = true)

/-- The 64-bit word at HBM address `a` is `v`, little-endian (R6). -/
def HbmSlot (s : State) (a v : Nat) : Prop := ∀ i < 8, hbmByte s (a + i) = BitVec.ofNat 8 (v / 256 ^ i)

/-- HBM has changed nowhere outside the spans `l`: start, length. -/
def HbmBut (s t : State) (l : List (Nat × Nat)) : Prop := ∀ b, (∀ p ∈ l, b < p.1 ∨ p.1 + p.2 ≤ b) → hbmByte t b = hbmByte s b

/-- The ring toward end `e` has been accepted (R351). -/
abbrev RingAccepted (t : State) (e : Nat) : Prop := sget 0 t.mbxRing (partner e) = 0 ∧ t.get R.MBX_TXSTAT_DB_PEND (partner e) = 0

/-- What field `f` held before software set it on this cycle, plus one; 0 where it did not. A W1S bit that software sets on the cycle on which
hardware clears it stays set (R10). -/
abbrev swWas (s : State) (f : Fld) (i : Nat) : Nat := sget 0 s.cyc.swSet (fldKey f i)

/-- A SYNC pulse that rose on tick `c` and is `width` ticks wide is classified on this tick: the receiver and its interpolator are in use for
it, the previous pulse was classified before it rose, and SYNC_IN was low between the two (R105). -/
abbrev PulseDue (s : State) (c width : Nat) : Prop :=
  s.tick = syncClassTick c width ∧ calibrating s 32 = false ∧ s.pnt.syncOff.1 = 0 ∧ (s.clk.syncC = 0 ∨ s.clk.syncK ≤ c ∧ s.clk.syncLow < c)

/-- The queue end `e` reads holds `l`, both FILL fields show its length, and no other queue has changed. -/
abbrev QueueIs (s t : State) (e : Nat) (l : List MbxEnt) : Prop :=
  mbxIn t e = l ∧ t.get R.MBX_RXSTAT_FILL e = l.length ∧ t.get R.MBX_TXSTAT_FILL (partner e) = l.length ∧ SameBut [] e s.mbxQ t.mbxQ

/-- Every one of these parts is the same in both states. -/
def Keeps (ps : List Part) (s t : State) : Prop := ∀ p ∈ ps, p.same s t

/-- The places that a received frame, beside an event, may write. -/
def laneRxPlaces : List Place :=
  [every R.LAN_STATUS_STATE, every R.LAN_STATUS_RES_EN, every R.LAN_STATUS_LOCK, every R.LAN_STATUS_LAT_RANGE, every R.LAN_STATUS_MISMATCH,
    every R.LAN_STATUS_REV_MAJOR, every R.LAN_STATUS_REV_MINOR, every R.LAN_STATUS_SUM_ERR, every R.LAN_STATUS_TRAIN_FAIL, every R.LAN_STATUS_CRC_ERR,
    every R.LAN_STATUS_LOCK_LOST, every R.LAN_LATENCY_DEPTH, every R.LAN_LATENCY_A, every R.LAN_PARTNER_TAG_TAG, every R.LAN_PARTNER_GEN_L,
    every R.LAN_PARTNER_GEN_GEN, every R.LAN_PARTNER_POS_TIME_VALID, every R.LAN_PARTNER_POS_LANE, every R.LAN_PARTNER_POS_COORD,
    every R.LAN_HDR_ERR_CNT_COUNT, every R.LAN_BULK_CRC_CNT_COUNT, every R.LAN_SUM_ERR_CNT_COUNT, every R.LAN_SUM_TICK_TICK_LO]

/-- The 68 bits of a line frame, the first in bit 0. -/
def rxBits (line : BitVec 68) : List Bool := (List.range 68).map fun i => bit line.toNat i

/-- The header history of lane `l` once this frame's header is seen (R396). -/
def rxHeaders (s : State) (l : Nat) (line : BitVec 68) : List Bool := (headerOk (rxBits line) :: (lan s l).hdrs).take 64

/-- Lane `l`, in one of the states `st` and not looped, receives a frame that reads as `f` (none: not well-formed, R394) and keeps lock (R396). -/
abbrev LaneSees (s : State) (l : Fin 24) (line : BitVec 68) (st : List Nat) (f : Option (Bool × Nat)) : Prop :=
  s.get R.LAN_STATUS_STATE l ∈ st ∧ s.get R.LAN_CTRL_MODE l ≠ 2 ∧ readLine (rxBits line) = f ∧
    (s.get R.LAN_STATUS_LOCK l = 0 ∨ ((rxHeaders s l line).filter (!·)).length < 16)

/-- A TRAIN payload: STATUS, INDEX and content, no bit set that Table LAN-3 does not name. -/
abbrev TrainIs (p status i c : Nat) : Prop :=
  bits p 63 56 = 1 ∧ bits p 55 55 = status ∧ bits p 54 52 = i ∧ p % 2 ^ 52 = c ∧ trainShape p = true

/-- Lane `l` may use reserved traffic: the conditions of R403 on this module's identity and time, the partner's and A. -/
abbrev ResAgrees (s t : State) (l : Nat) (a : Int) : Prop :=
  t.get R.LAN_PARTNER_TAG_TAG l = s.systemTag ∧ t.get R.LAN_PARTNER_GEN_GEN l = s.boot.gen ∧ t.get R.LAN_PARTNER_GEN_L l = lanL s l ∧ lanL s l ≠ 0 ∧
    s.get R.CLK_STATUS_TIME_VALID ≠ 0 ∧ t.get R.LAN_PARTNER_POS_TIME_VALID l ≠ 0 ∧ 40 ≤ a ∧ a ≤ 50

/-- The LAN_PARTNER registers show the block with contents `c` (Table LAN-3). -/
abbrev PartnerShown (t : State) (l : Nat) (c : List Nat) : Prop :=
  t.get R.LAN_PARTNER_TAG_TAG l = c.getD 2 0 % 2 ^ 32 ∧ t.get R.LAN_PARTNER_GEN_GEN l = c.getD 3 0 % 2 ^ 16 ∧
    t.get R.LAN_PARTNER_GEN_L l = bits (c.getD 3 0) 28 16 ∧ t.get R.LAN_PARTNER_POS_TIME_VALID l = bits (c.getD 1 0) 32 32 ∧
    t.get R.LAN_PARTNER_POS_LANE l = bits (c.getD 4 0) 16 12 ∧ t.get R.LAN_PARTNER_POS_COORD l = c.getD 4 0 % 2 ^ 12

/-- A = w − STIME, a signed 32-bit difference (R400). -/
def timeDiff (s : State) (stime : Nat) : Int := sgn 32 ((s.now % 2 ^ 32 + 2 ^ 32 - stime % 2 ^ 32) % 2 ^ 32)

/-- A as LAN_LATENCY shows it: saturated. -/
def shownA (a : Int) : Int := max (-32767) (min a 32767)

end Sys2Proof.Machine

/-! ### The block as a whole -/

/-- The queue is first in, first out. -/
def Obligations.StepRunsFront : Prop :=
  ∀ (c : Instr) (rest : List Instr) (s : State), step { s with pending := c :: rest } = exec c { s with pending := rest }

/-- R100, in the model's form: log entry 2 gives the tick to the empty queue. -/
def Obligations.EmptyQueueTick : Prop :=
  ∀ s : State, s.pending = [] → ∃ t, step s = .next t ∧ t.pending = [] ∧ t.clock = s.clock + 1 ∧
    (ticking s = true → t.tick = s.tick + 1 ∧ t.now = (s.now + 1) % 2 ^ 64) ∧ (ticking s = false → t.tick = s.tick ∧ t.now = s.now)

/-- No command of the table is one the manual gives no effect. -/
def Obligations.EveryCommandAnswers : Prop :=
  ∀ (c : Instr) (s : State), ∃ t, exec c s = .next t ∧ t.pending = s.pending

/-- The invariant of CanonKept holds at reset. -/
def Obligations.CanonAtReset : Prop := Canon State.reset

/-- An invariant of every step, not only of runs from reset. -/
def Obligations.CanonKept : Prop := ∀ s t : State, Canon s → step s = .next t → Canon t

/-- One listing per content (R364). -/
def Obligations.CanonicalMemoriesEqual : Prop :=
  (∀ s t : State, Memory.wf s = true → Memory.wf t = true → (∀ a, hbmByte s a = hbmByte t a) → s.hbm = t.hbm) ∧
  ∀ m m' : SMap Nat, swf 0 m = true → swf 0 m' = true → (∀ a, sget 0 m a = sget 0 m' a) → m = m'

/-- R364: HBM is addressed from 0 to its size; nothing stands past it. -/
def Obligations.HbmReadBack : Prop :=
  ∀ (s : State) (a : Nat) (b : BitVec 8), Memory.wf s = true →
    (a < hbmSize → hbmByte (hbmPut s a b) a = b) ∧ (hbmSize ≤ a → hbmPut s a b = s) ∧ (∀ a', a' ≠ a → hbmByte (hbmPut s a b) a' = hbmByte s a') ∧
    Memory.wf (hbmPut s a b) = true

/-- R96: REVOKED is final; no command, reset or register write takes it back. -/
def Obligations.KeysStayRevoked : Prop :=
  ∀ (c : Instr) (s t : State) (k : Fin 4), Canon s → exec c s = .next t → keyState s k = 2 → keyState t k = 2

/-! ### Register accesses (00_scope.md, 01_two_planes.md, 03_casting_and_worlds.md, 14_service_plane_and_host.md) -/

/-- R8, R9, R10, R26, R37. A written 0 that counts as 1 is stored so (the model's choice, log entry 41). -/
def Obligations.WritesFollowAccessCodes : Prop :=
  (∀ (m : Master) (off : BitVec 26) (v : BitVec 64) (s : State) (r : Reg) (is : List Nat), regAt off.toNat allRegs = some (r, is, 0) →
    r.wide = false → r.base ∉ activeBases → reaches s m off.toNat true = true → rtHeld s m = false →
    Runs (.registerWrite m false off 2 v) s (r.flds.map (only · (flatIndex r.dims is 0))) [] fun t =>
      ∀ f ∈ r.flds, t.get f (flatIndex r.dims is 0) =
        if r.counter then fldReset f (flatIndex r.dims is 0) else writtenField s f (flatIndex r.dims is 0) v.toNat) ∧
  (∀ (m : Master) (off : BitVec 26) (v : BitVec 64) (s : State) (r : Reg) (is : List Nat), regAt off.toNat allRegs = some (r, is, 0) →
    r.wide = false → r.counter = false → r.base ∉ activeBases → reaches s m off.toNat true = true → rtHeld s m = true →
    Runs (.registerWrite m false off 2 v) s (r.flds.map (only · (flatIndex r.dims is 0)) ++ errorPlaces) [] fun t =>
      (∀ f ∈ r.flds, t.get f (flatIndex r.dims is 0) =
        if fieldLocked s f (flatIndex r.dims is 0) then s.get f (flatIndex r.dims is 0) else writtenField s f (flatIndex r.dims is 0) v.toNat) ∧
      ((∃ f ∈ r.flds, fieldLocked s f (flatIndex r.dims is 0) = true ∧ wouldAct s f (flatIndex r.dims is 0) (v.toNat % 2 ^ 32) = true) →
        t.get R.HST_AERR_CNT_COUNT = min (s.get R.HST_AERR_CNT_COUNT + 1) 0xFFFFFFFF)) ∧
  ∀ (m : Master) (off : BitVec 26) (v : BitVec 32) (s : State) (r : Reg) (is : List Nat), regAt off.toNat allRegs = some (r, is, 0) →
    r.counter = true → r.base ∉ activeBases → reaches s m off.toNat true = true →
    Runs (.counterClear m off v) s (r.flds.map (only · (flatIndex r.dims is 0))) [] fun t =>
      ∀ f ∈ r.flds, t.get f (flatIndex r.dims is 0) = fldReset f (flatIndex r.dims is 0)

/-- R10, R37, R67. -/
def Obligations.StickyWrites : Prop :=
  (∀ (m : Master) (v : BitVec 32) (s : State), reaches s m 0x20 true = true →
    Runs (.taintStickyWrite m v) s [only R.GLB_TAINT_STICKY_TAINT 0, only R.GLB_TAINT_FIRST_SRC_VALID 0] [] fun t =>
      t.get R.GLB_TAINT_STICKY_TAINT = (s.get R.GLB_TAINT_STICKY_TAINT &&& (0xFF - bits v.toNat 7 0) ||| s.heldBits R.GLB_TAINT_STICKY_TAINT 0) % 2 ^ 8 ∧
      t.get R.GLB_TAINT_FIRST_SRC_VALID = if t.get R.GLB_TAINT_STICKY_TAINT = 0 then 0 else s.get R.GLB_TAINT_FIRST_SRC_VALID) ∧
  ∀ (m : Master) (v : BitVec 32) (s : State), reaches s m 0x40 true = true →
    Runs (.contractStickyWrite m v) s [only R.GLB_CONTRACT_STICKY_CLP_CODES 0, only R.GLB_CONTRACT_STICKY_CHS_CODES 0, only R.GLB_CONTRACT_FILL_ENTRIES 0,
        every R.GLB_CONTRACT_LOG_SRC_VALID] [] fun t =>
      t.get R.GLB_CONTRACT_STICKY_CHS_CODES =
        (s.get R.GLB_CONTRACT_STICKY_CHS_CODES &&& (0x7F - bits v.toNat 7 1) ||| s.heldBits R.GLB_CONTRACT_STICKY_CHS_CODES 0) % 2 ^ 7 ∧
      t.get R.GLB_CONTRACT_STICKY_CLP_CODES =
        (s.get R.GLB_CONTRACT_STICKY_CLP_CODES &&& (0xFF - bits v.toNat 23 16) ||| s.heldBits R.GLB_CONTRACT_STICKY_CLP_CODES 0) % 2 ^ 8 ∧
      (t.get R.GLB_CONTRACT_STICKY_CHS_CODES = 0 → t.get R.GLB_CONTRACT_STICKY_CLP_CODES = 0 →
        t.get R.GLB_CONTRACT_FILL_ENTRIES = 0 ∧ ∀ k < 16, t.get R.GLB_CONTRACT_LOG_SRC_VALID k = 0) ∧
      ((t.get R.GLB_CONTRACT_STICKY_CHS_CODES ≠ 0 ∨ t.get R.GLB_CONTRACT_STICKY_CLP_CODES ≠ 0) →
        t.get R.GLB_CONTRACT_FILL_ENTRIES = s.get R.GLB_CONTRACT_FILL_ENTRIES ∧
        ∀ k, t.get R.GLB_CONTRACT_LOG_SRC_VALID k = s.get R.GLB_CONTRACT_LOG_SRC_VALID k)

/-- R5, R8, R9. -/
def Obligations.ReadsReturnFields : Prop :=
  (∀ (m : Master) (off : BitVec 26) (s : State) (r : Reg) (is : List Nat), Canon s → regAt off.toNat allRegs = some (r, is, 0) → r.wide = false →
    r.base ∉ activeReads → reaches s m off.toNat false = true →
    Runs (.latchedPairRead m false off 2) s [] [.readData, .readPoison] fun t =>
      (∀ f ∈ r.flds, bits t.readData (f.lo + f.width - 1) f.lo = if f.acc = .wo then 0
          else if entryPlace f (flatIndex r.dims is 0) then flatIndex r.dims is 0 / 8 % 1024 * 2 ^ 16 + flatIndex r.dims is 0 / 8192
          else s.get f (flatIndex r.dims is 0)) ∧
      (∀ k, (∀ f ∈ r.flds, ¬ (f.lo ≤ k ∧ k < f.lo + f.width)) → bit t.readData k = false) ∧ t.readPoison = false) ∧
  ∀ (m : Master) (s : State), reaches s m 0x200038 false = true →
    Runs (.latchedPairRead m false 0x200038 2) s [only R.CLK_NOW_LO_TIME_LO 0, only R.CLK_NOW_HI_TIME_HI 0, only R.CLK_NOW_HI_EPOCH 0]
      [.readData, .readPoison] fun t =>
      t.readData = s.now % 2 ^ 32 ∧ t.get R.CLK_NOW_HI_TIME_HI = s.now / 2 ^ 32 % 2 ^ 8 ∧ t.get R.CLK_NOW_HI_EPOCH = s.now / 2 ^ 40 % 2 ^ 24

/-- R7. -/
def Obligations.DataSlotWidths : Prop :=
  (∀ (m : Master) (off : BitVec 26) (size : Fin 4) (v : BitVec 64) (s : State) (r : Reg) (is : List Nat) (b : Nat),
    regAt off.toNat allRegs = some (r, is, b) → r.wide = true → reaches s m (off.toNat - b) true = true → (b ≠ 0 ∨ size ≠ 3) →
    Runs (.registerWrite m false off size v) s errorPlaces [] fun t =>
      t.get R.HST_AERR_CNT_COUNT = min (s.get R.HST_AERR_CNT_COUNT + 1) 0xFFFFFFFF ∧
      (s.get R.HST_AERR_SRC_VALID = 0 → t.get R.HST_AERR_SRC_VALID = 1 ∧ t.get R.HST_AERR_SRC_WRITE = 1 ∧ t.get R.HST_AERR_SRC_KIND = 2 ∧
        t.get R.HST_AERR_SRC_MASTER = masterCode m ∧ t.get R.HST_AERR_ADDR_ADDR = off.toNat)) ∧
  (∀ (m : Master) (off : BitVec 26) (s : State) (r : Reg) (is : List Nat), regAt off.toNat allRegs = some (r, is, 0) → r.wide = true →
    reaches s m off.toNat false = true → ∃ t t', exec (.latchedPairRead m false off 2) s = .next t ∧ exec (.latchedPairRead m false off 3) s = .next t' ∧
      t.readData = t'.readData % 2 ^ 32) ∧
  ∀ (m : Master) (off : BitVec 26) (s : State) (r : Reg) (is : List Nat), regAt off.toNat allRegs = some (r, is, 4) → r.wide = true →
    reaches s m (off.toNat - 4) false = true →
    Runs (.latchedPairRead m false off 2) s [] [.readData, .readPoison] fun t =>
      t.readData = (readValue r (flatIndex r.dims is 0) s).1 / 2 ^ 32 % 2 ^ 32

/-- R91, R93, R94, R479. -/
def Obligations.WorldsKeepOut : Prop :=
  (∀ (m : Master) (off : BitVec 26) (size : Fin 4) (v : BitVec 64) (s : State) (r : Reg) (is : List Nat) (b : Nat),
    regAt off.toNat allRegs = some (r, is, b) → (size = 3 → r.wide = true ∨ off.toNat % 8 ≠ 0) → s.xtalFail = false → regLive s r = true →
    masterSecure m = false → worldForbids s r is true = true →
    Runs (.registerWrite m false off size v) s (violationPlaces ++ eventPlaces) eventParts fun t =>
      t.get R.SEC_VIOL_CNT_COUNT = min (s.get R.SEC_VIOL_CNT_COUNT + 1) 0xFFFFFFFF ∧
      (s.get R.SEC_VIOL_SRC_VALID = 0 → t.get R.SEC_VIOL_SRC_VALID = 1 ∧ t.get R.SEC_VIOL_SRC_WRITE = 1 ∧
        t.get R.SEC_VIOL_SRC_MASTER = masterCode m ∧ t.get R.SEC_VIOL_ADDR_LO_ADDR = off.toNat)) ∧
  ∀ (m : Master) (off : BitVec 26) (size : Fin 4) (s : State) (r : Reg) (is : List Nat) (b : Nat),
    regAt off.toNat allRegs = some (r, is, b) → (size = 3 → r.wide = true ∨ off.toNat % 8 ≠ 0) → s.xtalFail = false → regLive s r = true →
    masterSecure m = false → worldForbids s r is false = true →
    Runs (.latchedPairRead m false off size) s (violationPlaces ++ eventPlaces) (eventParts ++ [.readData, .readPoison]) fun t =>
      t.readData = 0 ∧ t.get R.SEC_VIOL_CNT_COUNT = min (s.get R.SEC_VIOL_CNT_COUNT + 1) 0xFFFFFFFF

/-- R385, R479. -/
def Obligations.UnmappedAccesses : Prop :=
  (∀ (m : Master) (off : BitVec 26) (size : Fin 4) (v : BitVec 64) (s : State), regAt off.toNat allRegs = none → (size = 3 → off.toNat % 8 ≠ 0) →
    s.xtalFail = false →
    Runs (.registerWrite m false off size v) s errorPlaces [] fun t =>
      t.get R.HST_AERR_CNT_COUNT = min (s.get R.HST_AERR_CNT_COUNT + 1) 0xFFFFFFFF ∧
      (s.get R.HST_AERR_SRC_VALID = 0 → t.get R.HST_AERR_SRC_VALID = 1 ∧ t.get R.HST_AERR_SRC_KIND = 4 ∧
        t.get R.HST_AERR_SRC_MASTER = masterCode m ∧ t.get R.HST_AERR_ADDR_ADDR = off.toNat)) ∧
  ∀ (m : Master) (off : BitVec 26) (size : Fin 4) (s : State), regAt off.toNat allRegs = none → (size = 3 → off.toNat % 8 ≠ 0) →
    s.xtalFail = false →
    Runs (.latchedPairRead m false off size) s errorPlaces [.readData, .readPoison] fun t =>
      t.readData = 0 ∧ t.get R.HST_AERR_CNT_COUNT = min (s.get R.HST_AERR_CNT_COUNT + 1) 0xFFFFFFFF ∧
      (s.get R.HST_AERR_SRC_VALID = 0 → t.get R.HST_AERR_SRC_WRITE = 0 ∧ t.get R.HST_AERR_SRC_KIND = 4)

/-- R18, R20, R52, R482. -/
def Obligations.HarvestEntries : Prop :=
  (∀ (q : Fin 192) (tag : BitVec 16) (v : Word36) (s : State), sget 0 s.nq q ≠ 0 → (sget [] s.harvest q).length < 64 →
    (tag.toNat + 65536 - sget 0 s.hNext q % 65536) % 65536 ≤ 16384 → sget 0 s.hNext q < 65536 →
    Runs (.queueEntryVisible q tag v) s [] [.harvest] fun t =>
      sget [] t.harvest q = sget [] s.harvest q ++ [⟨tag.toNat, v.toNat, s.tick⟩] ∧ SameBut [] q s.harvest t.harvest) ∧
  (∀ (q : Fin 192) (tag : BitVec 16) (v : Word36) (s : State), sget 0 s.nq q = 0 →
    Runs (.queueEntryVisible q tag v) s [only R.GLB_HARVEST_DISCARD_CNT_COUNT 0] [] fun t =>
      t.get R.GLB_HARVEST_DISCARD_CNT_COUNT = min (s.get R.GLB_HARVEST_DISCARD_CNT_COUNT + 1) 0xFFFFFFFF) ∧
  (∀ (q : Fin 192) (tag : BitVec 16) (v : Word36) (s : State), sget 0 s.nq q ≠ 0 → (sget [] s.harvest q).length < 64 → sget 0 s.hNext q < 65536 →
    32768 < (tag.toNat + 65536 - sget 0 s.hNext q) % 65536 →
    Runs (.queueEntryVisible q tag v) s [only R.GLB_HARVEST_DISCARD_CNT_COUNT 0] [] fun t =>
      t.get R.GLB_HARVEST_DISCARD_CNT_COUNT = min (s.get R.GLB_HARVEST_DISCARD_CNT_COUNT + 1) 0xFFFFFFFF) ∧
  ∀ (q : Fin 192) (tag : BitVec 16) (v : Word36) (s : State), sget 0 s.nq q ≠ 0 → 64 ≤ (sget [] s.harvest q).length →
    Runs (.queueEntryVisible q tag v) s [only R.GLB_HARVEST_FULL_CNT_COUNT 0] [] fun t =>
      t.get R.GLB_HARVEST_FULL_CNT_COUNT = min (s.get R.GLB_HARVEST_FULL_CNT_COUNT + 1) 0xFFFFFFFF

/-! ### Casting and worlds (03_casting_and_worlds.md) -/

/-- BOOT_COUNT as the boot restores it: from the newest entry of the highest VALID log slot, where there is one (R78, R90). -/
def Sys2Proof.Machine.bootsLogged (s : State) : Nat :=
  match slotCands s 4 with
  | [] => s.get R.BOOT_COUNT_COUNT
  | j :: _ =>
    let n := min (slotLen s j / 16) 512
    if n = 0 then s.get R.BOOT_COUNT_COUNT else leOf (slotByte s j) (16 * (n - 1)) 4 % 2 ^ 32

/-- R70 to R73, R90, R104, R449, R453, R474. -/
def Obligations.ModuleResets : Prop :=
  (∀ s : State, ∃ t, exec .powerOnReset s = .next t ∧
    (∀ f i, f.id < fldCount → t.get f i = if f.id = R.SEC_KEY_STATE_STATE.id ∨ f.id = R.BOOT_COUNT_COUNT.id then s.get f i else fldReset f i) ∧
    (∀ p : Part, p ∉ [.pending, .fresh, .clock, .bootT0, .quiesce, .xtalFail, .flash, .boot, .i2c] → p.same State.reset t) ∧
    Keeps [.pending, .fresh, .clock, .quiesce, .xtalFail, .flash] s t ∧ t.bootT0 = s.clock ∧ t.boot = { otpKeys := s.boot.otpKeys } ∧
    t.i2c = { t0 := s.clock }) ∧
  (∀ s : State, s.get R.THM_STATUS_SHUTDOWN = 0 → s.get R.PWR_STATE_STATE ≠ 0 → ∃ t, exec .resetNLow s = .next t ∧
    t.get R.BOOT_STATUS_STATE = 0 ∧ t.get R.PWR_STATE_STATE = 4 ∧ t.boot.cause = 2 ∧ t.pwr.resetLow = true ∧
    (isCast s = true → t.pwr.openAt = s.clock + 4001 ∧ ∀ n < 256, bit (t.get R.BIA_STATUS_CAUSE n) 1 = true) ∧
    (isCast s = false → s.pwr.openAt = 0 → ∀ n < 256, t.get R.BIA_STATUS_STATE n = 0 ∧ (bias t n).closed = false) ∧
    t.get R.MBX_EPOCH_EPOCH 0x20 = s.get R.MBX_EPOCH_EPOCH 0x20 % 2 ^ 16 ∧
    (∀ f i, f.id < fldCount → keptInReset f.id = false → f.id ∉ eventPlaces.map (·.1.id) → f.id ≠ R.PWR_STATE_STATE.id →
      (f.id = R.MBX_EPOCH_EPOCH.id → i % 2 ^ 22 ≠ 0x20) → t.get f i = fldReset f i) ∧
    Keeps [.pending, .tick, .xtalFail, .clock, .bootT0, .hbm, .quiesce, .msix, .flash, .i2c] s t) ∧
  (∀ s : State, s.get R.THM_STATUS_SHUTDOWN ≠ 0 → exec .resetNLow s = .next s) ∧
  (∀ s : State, s.get R.THM_STATUS_SHUTDOWN = 0 → s.get R.PWR_STATE_STATE = 0 → isCast s = false →
    exec .resetNLow s = .next { s with pwr := { s.pwr with resetLow := true, railHeld := false } }) ∧
  (∀ s : State, s.pwr.openAt ≠ 0 → s.pwr.openAt ≤ s.clock + 1 →
    Runs .switchOpenDelay s [every R.BIA_STATUS_STATE, every R.BIA_STATUS_GLIDING] [.biases, .pwr] fun t =>
      t.pwr = { s.pwr with openAt := 0 } ∧ ∀ n < 256, t.get R.BIA_STATUS_STATE n = 0 ∧ t.get R.BIA_STATUS_GLIDING n = 0 ∧ (bias t n).closed = false) ∧
  (∀ s : State, s.get R.BOOT_STATUS_STATE = 0 → s.get R.PWR_STATE_STATE = 4 → s.get R.THM_STATUS_SHUTDOWN = 0 → s.pwr.railHeld = false →
    s.pwr.dropAt = 0 → s.xtalFail = false →
    Runs .resetRelease s [only R.BOOT_STATUS_STATE 0, only R.BOOT_STATUS_OP 0, only R.HST_SESSION_RECOVERY 0] [.bootT0, .pwr, .boot] fun t =>
      t.get R.BOOT_STATUS_STATE = 1 ∧ t.get R.BOOT_STATUS_OP = 1 ∧ t.get R.HST_SESSION_RECOVERY = 1 ∧
      t.bootT0 = (if s.pwr.resetLow = true ∨ s.boot.cause = 1 then s.clock else s.bootT0) ∧
      t.pwr = { s.pwr with resetLow := false, railAt := s.clock } ∧ t.boot = { s.boot with castT0 := s.clock }) ∧
  (∀ s : State, Canon s → s.get R.BOOT_STATUS_STATE = 1 → s.clock ≤ s.pwr.railAt + 800000 → railNext s < 7 → s.get R.PWR_STATUS_RAILS_GOOD ||| 2 ^ railNext s ≠ 127 →
    Runs .railsUp s [only R.PWR_STATUS_RAILS_GOOD 0] [.pwr] fun t =>
      t.get R.PWR_STATUS_RAILS_GOOD = s.get R.PWR_STATUS_RAILS_GOOD ||| 2 ^ railNext s ∧ t.pwr = { s.pwr with railAt := s.clock }) ∧
  (∀ s : State, s.get R.BOOT_STATUS_STATE = 1 → s.clock ≤ s.pwr.railAt + 800000 → railNext s < 7 →
    s.get R.PWR_STATUS_RAILS_GOOD ||| 2 ^ railNext s = 127 → s.quiesce = false → s.boot.cause = 0 →
    Runs .railsUp s [only R.PWR_STATUS_RAILS_GOOD 0, only R.BOOT_STATUS_STATE 0] [.pwr] fun t =>
      t.get R.PWR_STATUS_RAILS_GOOD = 127 ∧ t.get R.BOOT_STATUS_STATE = 2) ∧
  (∀ s : State, s.get R.BOOT_STATUS_STATE = 1 → s.clock ≤ s.pwr.railAt + 800000 → railNext s < 7 →
    s.get R.PWR_STATUS_RAILS_GOOD ||| 2 ^ railNext s = 127 → s.quiesce = false → s.boot.cause ≠ 0 →
    Runs .railsUp s ([only R.PWR_STATUS_RAILS_GOOD 0, only R.BOOT_STATUS_STATE 0, only R.BOOT_COUNT_COUNT 0] ++ bootLogPlaces)
      [.pwr, .bootUnwritten] fun t =>
      t.get R.PWR_STATUS_RAILS_GOOD = 127 ∧ t.get R.BOOT_STATUS_STATE = 2 ∧
      t.get R.BOOT_COUNT_COUNT = min (bootsLogged s + 1) 0xFFFFFFFF) ∧
  (∀ s : State, s.get R.BOOT_STATUS_STATE = 1 → s.pwr.railAt + 800000 < s.clock → exec .railsUp s = .next s) ∧
  ∀ s : State, s.get R.BOOT_STATUS_STATE = 1 → s.pwr.railAt + 800000 ≤ s.clock → railNext s < 7 →
    Runs .railTimeout s ([only R.PWR_STATUS_RAIL_FAULT 0, only R.PWR_STATUS_RAIL 0, only R.PWR_STATUS_RAILS_GOOD 0, only R.BOOT_STATUS_STATE 0,
        only R.BOOT_STATUS_OP 0] ++ clockFlds.map every) (.pwr :: clockParts) fun t =>
      t.now = 0 ∧ t.clk = {} ∧ t.skew = {} ∧ (∀ f ∈ clockFlds, ∀ i, t.get f i = fldReset f i) ∧
      t.get R.PWR_STATUS_RAIL_FAULT = 1 ∧ t.get R.PWR_STATUS_RAIL = railNext s ∧ t.get R.PWR_STATUS_RAILS_GOOD = 0 ∧
      t.get R.BOOT_STATUS_STATE = 0 ∧ t.get R.BOOT_STATUS_OP = 0 ∧ t.pwr = { s.pwr with railHeld := true }

/-- R73, R78, R81, R82, R362, R448. -/
def Obligations.ColdCast : Prop :=
  (∀ (fb : Bool) (s : State), s.xtalFail = false → s.get R.BOOT_STATUS_STATE = 2 →
    Runs (.firmwareVerify fb) s (firmwarePlaces ++ bootLogPlaces ++ eventPlaces) (firmwareParts ++ [.bootUnwritten] ++ eventParts) fun t =>
      ((∃ k ∈ fwCands s, fwOk s false (slotByte s k) (slotLen s k) (otpKey s (leOf (slotByte s k) 9 1)) = true) → t.get R.BOOT_STATUS_STATE = 3) ∧
      ((∀ k ∈ fwCands s, fwOk s false (slotByte s k) (slotLen s k) (otpKey s (leOf (slotByte s k) 9 1)) = false) →
        t.get R.BOOT_STATUS_STATE = 8 ∧ t.get R.BOOT_STATUS_LAST_CODE = 0x25)) ∧
  (∀ s : State, s.xtalFail = false → s.get R.BOOT_STATUS_STATE = 3 → s.boot.last = 0 → s.boot.cand = [] → slotCands s 0 ≠ [] →
    Runs .slotSelect s ([only R.BOOT_STATUS_STATE 0, only R.BOOT_STATUS_SLOT_A 0, only R.BOOT_STATUS_SLOT_B 0, only R.BOOT_SEQ_A_SEQ 0,
        only R.BOOT_SEQ_B_SEQ 0, only R.BOOT_GEN_AB_GEN_A 0, only R.BOOT_GEN_AB_GEN_B 0] ++ bootLogPlaces) [.boot, .bootUnwritten] fun t =>
      t.get R.BOOT_STATUS_STATE = 4 ∧ t.boot.cand = slotCands s 0 ∧ t.get R.BOOT_STATUS_SLOT_A = slotState s 0 ∧
      t.get R.BOOT_STATUS_SLOT_B = slotState s 1) ∧
  (∀ s : State, s.xtalFail = false → s.get R.BOOT_STATUS_STATE = 3 → s.boot.cand ≠ [] →
    Runs .slotSelect s [only R.BOOT_STATUS_STATE 0] [] fun t => t.get R.BOOT_STATUS_STATE = 4) ∧
  (∀ s : State, s.xtalFail = false → s.get R.BOOT_STATUS_STATE = 3 → s.boot.cand = [] → (s.boot.last ≠ 0 ∨ slotCands s 0 = []) →
    ∃ t, exec .slotSelect s = .next t ∧ t.get R.BOOT_STATUS_STATE = 8 ∧ t.get R.BOOT_STATUS_OP = 0 ∧
      t.get R.BOOT_STATUS_LAST_CODE = if s.boot.last ≠ 0 then s.boot.last % 2 ^ 8 else 0x29) ∧
  (∀ s : State, s.xtalFail = false → s.get R.BOOT_STATUS_STATE = 4 →
    Runs .imageVerify s ([only R.BOOT_STATUS_STATE 0] ++ bootLogPlaces) [.boot, .bootUnwritten] fun t =>
      match (imgHead s (slotByte s (candSlot s))).or (imgSecSig s (slotByte s (candSlot s))) with
      | none => t.get R.BOOT_STATUS_STATE = 5 ∧ t.boot = s.boot
      | some code => t.get R.BOOT_STATUS_STATE = 3 ∧ t.boot = { s.boot with cand := s.boot.cand.tail, last := code } ∧
          t.get R.BOOT_LOG_FILL_NEXT = (s.get R.BOOT_LOG_FILL_NEXT + 1) % 512) ∧
  (∀ s : State, s.xtalFail = false → s.get R.BOOT_STATUS_STATE = 5 → ∃ t, exec .imageLoad s = .next t ∧
    Keeps [.pending, .readData, .now, .tick, .xtalFail, .clock, .bootT0, .rq, .hbm, .quiesce, .msix, .flash, .sram, .i2c] s t ∧
    match (imgNsSig (slotByte s (candSlot s))).or
        (imgContent s (loadSecure (slotByte s (candSlot s)) s) (slotByte s (candSlot s)) false) with
    | none => t.get R.BOOT_STATUS_STATE = 6 ∧ t.boot.connAt = s.clock + 1 ∧ ∀ n < 256, (bias s n).closed = false →
        t.get R.BIA_CODE_SPAN n = t.get R.BIA_PARK_SPAN n ∧ t.get R.BIA_CODE_CODE n = t.get R.BIA_PARK_CODE n
    | some code => t.get R.BOOT_STATUS_STATE = 3 ∧ t.boot.cand = s.boot.cand.tail ∧ t.boot.last = code) ∧
  (∀ s : State, s.xtalFail = false → s.get R.BOOT_STATUS_STATE = 6 → s.boot.connAt ≠ 0 → s.boot.connAt + 8000 ≤ s.clock + 1 →
    s.get R.CLK_STATUS_PLL_LOCK = 0 →
    Runs .connect s [every R.BIA_TARGET_CODE, every R.BIA_CODE_SPAN, every R.BIA_CODE_CODE, every R.BIA_PARK_LATCH_SPAN, every R.BIA_PARK_LATCH_CODE,
        every R.BIA_STATUS_STATE, every R.BIA_STATUS_CAUSE, every R.BIA_STATUS_GLIDING] [.biases, .boot] fun t =>
      t.boot = { s.boot with connAt := 0 } ∧
      ∀ n < 256, t.get R.BIA_CODE_SPAN n = s.get R.BIA_PARK_SPAN n % 2 ^ 3 ∧ t.get R.BIA_CODE_CODE n = s.get R.BIA_PARK_CODE n % 2 ^ 20 ∧
        t.get R.BIA_PARK_LATCH_CODE n = s.get R.BIA_PARK_CODE n % 2 ^ 20 ∧ (bias t n).closed = true ∧
        (s.quiesce = false → s.get R.GOV_STATUS_TRIPPED n = 0 → t.get R.BIA_STATUS_STATE n = 2 ∧ t.get R.BIA_STATUS_CAUSE n = 0)) ∧
  ∀ s : State, s.xtalFail = false → s.get R.BOOT_STATUS_STATE = 6 → s.boot.connAt = 0 → s.get R.CLK_STATUS_PLL_LOCK ≠ 0 →
    Runs .connect s (castPlaces ++ bootLogPlaces ++ eventPlaces) (castParts ++ [.bootUnwritten] ++ eventParts) fun t =>
      t.get R.BOOT_STATUS_STATE = 7 ∧ t.get R.BOOT_STATUS_OP = 0 ∧ t.get R.BOOT_STATUS_LAST_CODE = 0 ∧ t.get R.PWR_STATE_STATE = 1 ∧
      t.get R.HST_SESSION_RECOVERY = 0 ∧ t.boot.hasRun = true

/-- R80, R84 to R89, R362, R366. Where the window of R80 was left and entered again between two of its checks, a free value decides. -/
def Obligations.BootOperations : Prop :=
  (∀ (m : Master) (s : State), reaches s m 0x100004 true = true → s.get R.BOOT_STATUS_OP ≠ 0 →
    ∀ c ∈ [Instr.bootStageImage m, .bootRecast m, .bootStageFirmware m, .bootFlushLog m],
      Runs c s [only R.BOOT_STATUS_CMD_REJECT 0] [] fun t => t.get R.BOOT_STATUS_CMD_REJECT = 1) ∧
  (∀ (m : Master) (s : State), reaches s m 0x100004 true = true → s.get R.BOOT_STATUS_OP = 0 →
    Runs (.bootStageImage m) s [only R.BOOT_STATUS_CMD_REJECT 0, only R.BOOT_STATUS_OP 0] [.boot, .flash] fun t =>
      t.get R.BOOT_STATUS_OP = 2 ∧ t.get R.BOOT_STATUS_CMD_REJECT = 0 ∧
      (∃ o, t.boot = { s.boot with op := some o } ∧ o.op = 2 ∧ o.what = 0 ∧ o.code = stageRefused s 0 ∧ o.slot = slotTarget s 0) ∧
      (stageRefused s 0 ≠ 0 → t.flash = s.flash)) ∧
  (∀ (m : Master) (s : State), reaches s m 0x100004 true = true → s.get R.BOOT_STATUS_OP = 0 →
    Runs (.bootStageFirmware m) s [only R.BOOT_STATUS_CMD_REJECT 0, only R.BOOT_STATUS_OP 0] [.boot, .flash] fun t =>
      t.get R.BOOT_STATUS_OP = 2 ∧ t.get R.BOOT_STATUS_CMD_REJECT = 0 ∧
      (∃ o, t.boot = { s.boot with op := some o } ∧ o.op = 2 ∧ o.what = 1 ∧ o.code = stageRefused s 1 ∧ o.slot = slotTarget s 6) ∧
      (stageRefused s 1 ≠ 0 → t.flash = s.flash)) ∧
  (∀ (m : Master) (s : State), reaches s m 0x100004 true = true → s.get R.BOOT_STATUS_OP = 0 →
    Runs (.bootRecast m) s [only R.BOOT_STATUS_CMD_REJECT 0, only R.BOOT_STATUS_OP 0] [.boot] fun t =>
      t.get R.BOOT_STATUS_OP = 3 ∧ t.get R.BOOT_STATUS_CMD_REJECT = 0 ∧ t.boot = { s.boot with op := some { op := 3 } }) ∧
  (∀ (m : Master) (s : State), reaches s m 0x100004 true = true → s.get R.BOOT_STATUS_OP = 0 →
    Runs (.bootFlushLog m) s ([only R.BOOT_STATUS_CMD_REJECT 0, only R.BOOT_STATUS_LAST_CODE 0, only R.BOOT_STATUS_LOG_PENDING 0] ++ eventPlaces)
      ([.flash, .bootUnwritten] ++ eventParts) fun t =>
      t.get R.BOOT_STATUS_CMD_REJECT = 0 ∧ t.get R.BOOT_STATUS_LAST_CODE = writeRefused s 4 ∧
      (writeRefused s 4 = 0 → t.get R.BOOT_STATUS_LOG_PENDING = 0 ∧ t.bootUnwritten = 0) ∧
      (writeRefused s 4 ≠ 0 → t.get R.BOOT_STATUS_LOG_PENDING = 1 ∧ t.flash = s.flash ∧ t.bootUnwritten = s.bootUnwritten)) ∧
  (∀ (io : Fin 4) (o : BootOp) (s : State), s.xtalFail = false → s.boot.op = some o → o.op = 2 → o.host = false → o.code < 256 →
    Runs (.stageComplete io) s ([only R.BOOT_STATUS_LAST_CODE 0, only R.BOOT_STATUS_OP 0, only R.BOOT_STATUS_LOG_PENDING 0, only R.BOOT_STATUS_SLOT_A 0,
        only R.BOOT_STATUS_SLOT_B 0, only R.BOOT_SEQ_A_SEQ 0, only R.BOOT_SEQ_B_SEQ 0, only R.BOOT_GEN_AB_GEN_A 0, only R.BOOT_GEN_AB_GEN_B 0,
        every R.SVA_ECC_COR_CNT_COUNT, every R.SVA_ECC_UNC_CNT_COUNT] ++ bootLogPlaces ++ eventPlaces) ([.boot, .flash, .bootUnwritten] ++ eventParts) fun t =>
      t.get R.BOOT_STATUS_OP = 0 ∧ t.boot = { s.boot with op := none } ∧
      (o.hot = false ∨ s.pwr.cool = false ∨ o.code ≠ 0 ∨ 2 ≤ io.val → t.get R.BOOT_STATUS_LAST_CODE =
        if o.code ≠ 0 then o.code else if 2 ≤ io.val then 0x23 else if s.pwr.cool = false then 0x22 else 0) ∧
      (o.hot = true → s.pwr.cool = true → o.code = 0 → io.val < 2 → t.get R.BOOT_STATUS_LAST_CODE = 0x22 ∨ t.get R.BOOT_STATUS_LAST_CODE = 0) ∧
      (io = 1 → Counted s t R.SVA_ECC_COR_CNT_COUNT (if stageAddr s < hbmStack then 0 else 1)) ∧
      (io = 2 → Counted s t R.SVA_ECC_UNC_CNT_COUNT (if stageAddr s < hbmStack then 0 else 1)) ∧
      t.get R.BOOT_LOG_FILL_NEXT = (s.get R.BOOT_LOG_FILL_NEXT + 1) % 512) ∧
  (∀ (o : BootOp) (s : State), s.xtalFail = false → s.boot.op = some o → o.op = 3 → o.verified = false → o.host = false →
    Runs .recastVerifyDone s ([only R.BOOT_STATUS_LAST_CODE 0, only R.BOOT_STATUS_OP 0, only R.BOOT_STATUS_LOG_PENDING 0] ++ bootLogPlaces ++ eventPlaces)
      ([.boot, .flash, .bootUnwritten] ++ eventParts) fun t =>
      match slotCands s 0 with
      | [] => t.get R.BOOT_STATUS_LAST_CODE = 0x29 ∧ t.get R.BOOT_STATUS_OP = 0 ∧ t.boot.op = none
      | k :: _ => match imgVerify s (slotByte s k) true none with
        | some code => t.get R.BOOT_STATUS_LAST_CODE = code % 2 ^ 8 ∧ t.get R.BOOT_STATUS_OP = 0 ∧ t.boot.op = none
        | none => t.boot.op = some { o with verified := true, slot := k, host := false } ∧ t.get R.BOOT_STATUS_OP = s.get R.BOOT_STATUS_OP) ∧
  (∀ (mm : Bool) (o : BootOp) (s : State), s.xtalFail = false → s.boot.op = some o → o.verified = true → s.get R.BOOT_STATUS_STATE = 7 →
    shotCounted s = true → switchTime s ≤ s.now → ∃ t, exec (.switchStart mm) s = .next t ∧
      Keeps [.pending, .now, .tick, .xtalFail, .clock, .bootT0, .hbm, .quiesce, .msix, .sram, .i2c] s t ∧
      (mm = false → t.get R.BOOT_STATUS_STATE = 9 ∧ t.get R.BOOT_STATUS_OP = 4 ∧ t.get R.PWR_STATE_STATE = 2) ∧
      (mm = true → t.get R.BOOT_STATUS_STATE = 3 ∧ t.get R.BOOT_STATUS_OP = 1 ∧ t.get R.PWR_STATE_STATE = 4 ∧ t.get R.HST_SESSION_RECOVERY = 1 ∧
        t.boot.op = none)) ∧
  ∀ (o : BootOp) (s : State), s.xtalFail = false → s.boot.op = some o → s.get R.BOOT_STATUS_STATE = 9 → (∀ p ∈ s.biases, p.2.move = 0) →
    Runs .switchDone s (castPlaces ++ bootLogPlaces ++ eventPlaces) (castParts ++ [.bootUnwritten] ++ eventParts) fun t =>
      t.get R.BOOT_STATUS_STATE = 7 ∧ t.get R.BOOT_STATUS_OP = 0 ∧ t.get R.BOOT_STATUS_LAST_CODE = 0 ∧ t.get R.PWR_STATE_STATE = 1 ∧
      t.get R.BOOT_STATUS_ACTIVE_SLOT = o.slot % 2 ∧ t.boot.op = none

/-- R96. -/
def Obligations.KeySlots : Prop :=
  (∀ (m : Master) (k : Fin 4) (s : State), reaches s m 0x109114 true = true → s.get R.SEC_OTP_STATUS_BUSY = 0 → otpCode s 1 k = 0 →
    Runs (.otpProgram m k) s [only R.SEC_OTP_CTRL_OP 0, only R.SEC_OTP_CTRL_SLOT 0, only R.SEC_OTP_STATUS_BUSY 0] [.boot] fun t =>
      t.get R.SEC_OTP_CTRL_OP = 1 ∧ t.get R.SEC_OTP_CTRL_SLOT = k ∧ t.get R.SEC_OTP_STATUS_BUSY = 1 ∧
      t.boot = { s.boot with otpOp := some (1, k.val) }) ∧
  (∀ (m : Master) (k : Fin 4) (s : State), reaches s m 0x109114 true = true → s.get R.SEC_OTP_STATUS_BUSY = 0 → otpCode s 2 k = 0 →
    Runs (.otpRevoke m k) s [only R.SEC_OTP_CTRL_OP 0, only R.SEC_OTP_CTRL_SLOT 0, only R.SEC_OTP_STATUS_BUSY 0] [.boot] fun t =>
      t.get R.SEC_OTP_CTRL_OP = 2 ∧ t.get R.SEC_OTP_CTRL_SLOT = k ∧ t.get R.SEC_OTP_STATUS_BUSY = 1 ∧
      t.boot = { s.boot with otpOp := some (2, k.val) }) ∧
  (∀ (m : Master) (k : Fin 4) (s : State), Canon s → reaches s m 0x109114 true = true → s.get R.SEC_OTP_STATUS_BUSY = 0 →
    ∀ p ∈ [(1, Instr.otpProgram m k), (2, Instr.otpRevoke m k)], otpCode s p.1 k ≠ 0 →
      Runs p.2 s ([only R.SEC_OTP_CTRL_OP 0, only R.SEC_OTP_CTRL_SLOT 0, only R.SEC_OTP_STATUS_CODE 0] ++ bootLogPlaces) [.bootUnwritten] fun t =>
        t.get R.SEC_OTP_STATUS_CODE = otpCode s p.1 k) ∧
  ∀ (op : Nat) (k : Fin 4) (s : State), Canon s → s.xtalFail = false → s.boot.otpOp = some (op, k.val) → (op = 1 ∨ op = 2) →
    Runs .otpDone s ([only R.SEC_KEY_STATE_STATE 0, only R.SEC_OTP_STATUS_BUSY 0, only R.SEC_OTP_STATUS_CODE 0] ++ bootLogPlaces)
      [.boot, .bootUnwritten] fun t =>
      t.get R.SEC_OTP_STATUS_BUSY = 0 ∧ t.get R.SEC_OTP_STATUS_CODE = otpCode s op k ∧ t.boot.otpOp = none ∧
      (∀ j : Fin 4, keyState t j = if j = k ∧ otpCode s op k = 0 then (if op = 1 then 1 else 2) else keyState s j) ∧
      (op = 1 → otpCode s op k = 0 → sget 0 t.boot.otpKeys k = otpBuf s) ∧ (otpCode s op k ≠ 0 → t.boot.otpKeys = s.boot.otpKeys)

/-! ### Time base, SYNC and the schedule (04_time_base_and_sync.md, 05_chisel_programs.md) -/

/-- R10, R97, R98, R102, R107, R116. -/
def Obligations.TimeBase : Prop :=
  (∀ s : State, s.get R.CLK_STATUS_PLL_LOCK = 0 → s.get R.CLK_STATUS_PLL_UNLOCK = 0 → s.get R.BOOT_STATUS_STATE ≠ 0 → s.get R.BOOT_STATUS_STATE ≠ 10 →
    Runs .pllLock s [only R.CLK_STATUS_PLL_LOCK 0] [.now, .syncErrs] fun t => t.get R.CLK_STATUS_PLL_LOCK = 1 ∧ t.now = 0 ∧ t.syncErrs = []) ∧
  (∀ s : State, Runs .xtalFail s [] [.xtalFail] fun t => t.xtalFail = true) ∧
  (∀ s : State, s.get R.CLK_STATUS_REF_LOSS = 0 →
    Runs .refLoss s ([only R.CLK_STATUS_REF_LOSS 0] ++ alarmPlaces ++ eventPlaces) eventParts fun t =>
      t.get R.CLK_STATUS_REF_LOSS = 1 ∧ bit (t.get R.CLK_ALARM_ALARMS) 0 = true ∧ alarmActive t = true ∧
      t.get R.CLK_STATUS_HOLDOVER = (if s.get R.CLK_STATUS_PLL_LOCK ≠ 0 then 1 else s.get R.CLK_STATUS_HOLDOVER)) ∧
  (∀ (count : BitVec 17) (s : State), 87368 ≤ count.toNat → count.toNat ≤ 87394 →
    Runs (.refGate count) s [only R.CLK_REF_COUNT_COUNT 0] [] fun t => t.get R.CLK_REF_COUNT_COUNT = count.toNat) ∧
  (∀ (count : BitVec 17) (s : State), s.get R.CLK_STATUS_REF_RANGE = 0 → (count.toNat < 87368 ∨ 87394 < count.toNat) →
    Runs (.refGate count) s ([only R.CLK_REF_COUNT_COUNT 0, only R.CLK_STATUS_REF_RANGE 0] ++ alarmPlaces ++ eventPlaces)
      eventParts fun t =>
      t.get R.CLK_REF_COUNT_COUNT = count.toNat ∧ t.get R.CLK_STATUS_REF_RANGE = 1 ∧ bit (t.get R.CLK_ALARM_ALARMS) 1 = true ∧
      t.get R.CLK_STATUS_HOLDOVER = (if s.get R.CLK_STATUS_PLL_LOCK ≠ 0 then 1 else s.get R.CLK_STATUS_HOLDOVER)) ∧
  (∀ s : State, s.epochDue = true → Runs .epoch s eventPlaces ([.epochDue] ++ eventParts) fun t => t.epochDue = false ∧ EventFires s t 1475) ∧
  (∀ s : State, s.get R.CLK_SYNC_CTRL_CHECK ≠ 0 → ticking s = true → syncPeriod s / 2 ≤ s.now → (s.now - syncPeriod s / 2) % syncPeriod s = 0 →
    s.lastGoodL ≠ s.now - syncPeriod s / 2 + 1 → s.get R.CLK_STATUS_SYNC_MISSING = 0 →
    Runs .syncMissing s ([only R.CLK_STATUS_SYNC_MISSING 0, only R.CLK_ALARM_ALARMS 0] ++ eventPlaces) eventParts fun t =>
      t.get R.CLK_STATUS_SYNC_MISSING = 1 ∧ bit (t.get R.CLK_ALARM_ALARMS) 3 = true ∧ alarmActive t = true) ∧
  (∀ s : State, s.get R.CLK_SYNC_CTRL_OUT_MODE = 2 → ticking s = true → s.now % syncPeriod s = 0 →
    Runs .syncMasterPulse s [only R.CLK_SYNC_CTRL_MARK_NEXT 0] [.syncOut] fun t =>
      (swWas s R.CLK_SYNC_CTRL_MARK_NEXT 0 = 0 →
        t.get R.CLK_SYNC_CTRL_MARK_NEXT = 0 ∧ t.syncOut = some (s.now, decide (s.get R.CLK_SYNC_CTRL_MARK_NEXT ≠ 0))) ∧
      (swWas s R.CLK_SYNC_CTRL_MARK_NEXT 0 ≠ 0 → t.get R.CLK_SYNC_CTRL_MARK_NEXT = s.get R.CLK_SYNC_CTRL_MARK_NEXT ∧
        t.syncOut = some (s.now, decide (1 < swWas s R.CLK_SYNC_CTRL_MARK_NEXT 0)))) ∧
  (∀ s : State, (s.get R.CLK_SYNC_CTRL_OUT_MODE ≠ 2 ∨ s.now % syncPeriod s ≠ 0) → exec .syncMasterPulse s = .next s) ∧
  ∀ (m : Master) (v : BitVec 32) (s : State), reaches s m 0x20000C true = true → rtHeld s m = false →
    Runs (.markNext m v) s ([only R.CLK_SYNC_CTRL_MARK_NEXT 0, only R.CLK_SYNC_CTRL_OUT_MODE 0, only R.CLK_SYNC_CTRL_CHECK 0,
        only R.CLK_SYNC_CTRL_PERIOD 0, only R.CLK_ALARM_SYNC_DRIFT 0] ++ eventPlaces) ([.clk] ++ eventParts) fun t =>
      t.get R.CLK_SYNC_CTRL_MARK_NEXT = 1 ∧ t.get R.CLK_SYNC_CTRL_OUT_MODE = bits v.toNat 15 14 ∧
      t.get R.CLK_SYNC_CTRL_CHECK = bits v.toNat 12 12 ∧ t.get R.CLK_SYNC_CTRL_PERIOD = max (bits v.toNat 11 0) 1

/-- R10, R105, R107, R109, R110, R113, R115, R116, R330. -/
def Obligations.SyncPulses : Prop :=
  (∀ (m : Master) (s : State), reaches s m 0x200034 true = true → rtHeld s m = false → s.get R.CLK_TIME_CTRL_ARM = 0 →
    Runs (.timeArm m) s [only R.CLK_TIME_CTRL_ARM 0] [.armVis, .fresh] fun t =>
      t.get R.CLK_TIME_CTRL_ARM = 1 ∧ (t.armVis = s.tick + 2 ∨ t.armVis = s.tick + 3)) ∧
  (∀ (c : BitVec 64) (fine : Fin 2048) (width : BitVec 8) (s : State), PulseDue s c.toNat width.toNat → (width.toNat < 2 ∨ 6 < width.toNat) →
    (width.toNat < 12 ∨ 20 < width.toNat) →
    Runs (.syncClassify c fine width) s ([only R.CLK_SYNC_FORM_CNT_COUNT 0, only R.CLK_ALARM_SYNC_FORM 0] ++ eventPlaces) ([.clk] ++ eventParts) fun t =>
      t.clk = { s.clk with syncC := c.toNat + 1, syncLow := c.toNat + width.toNat, syncK := s.tick } ∧
      Counted s t R.CLK_SYNC_FORM_CNT_COUNT ∧ t.get R.CLK_ALARM_SYNC_FORM ≠ 0) ∧
  (∀ (c : BitVec 64) (fine : Fin 2048) (width : BitVec 8) (s : State), PulseDue s c.toNat width.toNat → 2 ≤ width.toNat → width.toNat ≤ 6 →
    s.get R.CLK_SYNC_CTRL_CHECK = 0 → s.get R.CLK_STATUS_SKEW_BUSY = 0 →
    Runs (.syncClassify c fine width) s [only R.CLK_SYNC_CNT_COUNT 0, only R.CLK_SYNC_PHASE_LAST 0, only R.CLK_SYNC_PHASE_ERR 0]
      [.syncErrs, .lastGoodL, .clk] fun t =>
      Counted s t R.CLK_SYNC_CNT_COUNT ∧ t.get R.CLK_SYNC_PHASE_LAST = syncFine s fine ∧
      t.syncErrs = (((c.toNat * 2048 + syncFine s fine.val - s.get R.CLK_SYNC_PATH_TAPS - s.get R.CLK_SYNC_COMP_TAPS + 1024 : Int) % 2048 - 1024) ::
        s.syncErrs).take 16) ∧
  (∀ (c : BitVec 64) (fine : Fin 2048) (width : BitVec 8) (s : State), PulseDue s c.toNat width.toNat → 2 ≤ width.toNat → width.toNat ≤ 6 →
    s.get R.CLK_SYNC_CTRL_CHECK ≠ 0 → s.get R.CLK_STATUS_SKEW_BUSY = 0 →
    Runs (.syncClassify c fine width) s ([only R.CLK_SYNC_CNT_COUNT 0, only R.CLK_SYNC_PHASE_LAST 0, only R.CLK_SYNC_PHASE_ERR 0,
        only R.CLK_STATUS_SYNC_MISSING 0, only R.CLK_STATUS_SYNC_SLIP 0, only R.CLK_ALARM_ALARMS 0, only R.CLK_ALARM_SYNC_DRIFT 0] ++ eventPlaces)
      ([.syncErrs, .lastGoodL, .slipRun, .clk] ++ eventParts) fun t =>
      Counted s t R.CLK_SYNC_CNT_COUNT ∧ t.get R.CLK_SYNC_PHASE_LAST = syncFine s fine ∧
      ((s.now + ((syncTick s c.toNat (syncFine s fine.val)).1 - s.tick)) % (syncPeriod s : Int) = 0 →
          t.get R.CLK_STATUS_SYNC_MISSING = 0 ∧ t.slipRun = s.slipRun + 1 ∧
          (3 ≤ s.slipRun → t.get R.CLK_STATUS_SYNC_SLIP = 0) ∧ (s.slipRun < 3 → t.get R.CLK_STATUS_SYNC_SLIP = s.get R.CLK_STATUS_SYNC_SLIP)) ∧
      ((s.now + ((syncTick s c.toNat (syncFine s fine.val)).1 - s.tick)) % (syncPeriod s : Int) ≠ 0 → t.get R.CLK_STATUS_SYNC_SLIP ≠ 0)) ∧
  (∀ (c : BitVec 64) (fine : Fin 2048) (width : BitVec 8) (s : State), PulseDue s c.toNat width.toNat → 12 ≤ width.toNat → width.toNat ≤ 20 →
    armVisible s = true → timeSet s % syncPeriod s = 0 → s.get R.CLK_SYNC_CTRL_CHECK = 0 → s.get R.CLK_STATUS_SKEW_BUSY = 0 →
    Runs (.syncClassify c fine width) s ([only R.CLK_SYNC_CNT_COUNT 0, only R.CLK_SYNC_PHASE_LAST 0, only R.CLK_SYNC_PHASE_ERR 0,
        only R.CLK_TIME_CTRL_ARM 0, only R.CLK_STATUS_TIME_PENDING 0, only R.CLK_STATUS_TIME_VALID 0] ++ eventPlaces)
      ([.syncErrs, .lastGoodL, .now, .epochDue, .timeLoadedAt, .clk] ++ eventParts) fun t =>
      t.get R.CLK_STATUS_TIME_VALID = 1 ∧ t.get R.CLK_STATUS_TIME_PENDING = 0 ∧
      (swWas s R.CLK_TIME_CTRL_ARM 0 = 0 → t.get R.CLK_TIME_CTRL_ARM = 0) ∧ t.timeLoadedAt = s.tick + 1 ∧
      (t.now : Int) = ((s.get R.CLK_TIME_SET_LO_TIME_LO + s.get R.CLK_TIME_SET_HI_TIME_HI * 2 ^ 32 : Nat) +
        ((s.tick : Int) - (syncTick s c.toNat (syncFine s fine.val)).1)) % 2 ^ 64 ∧ EventFires s t 1476) ∧
  (∀ (c : BitVec 64) (fine : Fin 2048) (width : BitVec 8) (s : State), PulseDue s c.toNat width.toNat → 12 ≤ width.toNat → width.toNat ≤ 20 →
    armVisible s = true → timeSet s % syncPeriod s ≠ 0 → s.get R.CLK_SYNC_CTRL_CHECK = 0 → s.get R.CLK_STATUS_SKEW_BUSY = 0 →
    Runs (.syncClassify c fine width) s ([only R.CLK_SYNC_CNT_COUNT 0, only R.CLK_SYNC_PHASE_LAST 0, only R.CLK_SYNC_PHASE_ERR 0,
        only R.CLK_TIME_CTRL_ARM 0, only R.CLK_STATUS_TIME_PENDING 0, only R.CLK_ALARM_LOAD_BAD 0] ++ eventPlaces)
      ([.syncErrs, .lastGoodL, .clk] ++ eventParts) fun t =>
      t.get R.CLK_ALARM_LOAD_BAD ≠ 0 ∧ t.get R.CLK_STATUS_TIME_PENDING = 0 ∧
      (swWas s R.CLK_TIME_CTRL_ARM 0 = 0 → t.get R.CLK_TIME_CTRL_ARM = 0)) ∧
  (∀ (c : BitVec 64) (fine : Fin 2048) (width : BitVec 8) (s : State), s.tick = syncClassTick c.toNat width.toNat → calibrating s 32 = false →
    s.pnt.syncOff.1 = 0 → s.clk.syncC ≠ 0 → c.toNat < s.clk.syncK →
    Runs (.syncClassify c fine width) s ([only R.CLK_SYNC_FORM_CNT_COUNT 0, only R.CLK_ALARM_SYNC_FORM 0] ++ eventPlaces) eventParts fun t =>
      Counted s t R.CLK_SYNC_FORM_CNT_COUNT ∧ t.get R.CLK_ALARM_SYNC_FORM ≠ 0) ∧
  (∀ (c : BitVec 64) (fine : Fin 2048) (width : BitVec 8) (s : State), (s.tick ≠ syncClassTick c.toNat width.toNat ∨ calibrating s 32 = true ∨
      s.pnt.syncOff.1 = 0 ∧ s.clk.syncC ≠ 0 ∧ s.clk.syncK ≤ c.toNat ∧ c.toNat ≤ s.clk.syncLow) → exec (.syncClassify c fine width) s = .next s) ∧
  ∀ (c : BitVec 64) (fine : Fin 2048) (width : BitVec 8) (s : State), s.tick = syncClassTick c.toNat width.toNat → calibrating s 32 = false →
    s.pnt.syncOff.1 ≠ 0 → s.pnt.syncOff.1 ≤ c.toNat + 1 → (s.pnt.syncOff.2 = 0 ∨ c.toNat + 1 < s.pnt.syncOff.2) →
    Runs (.syncClassify c fine width) s [] [.pnt] fun t => t.pnt = { s.pnt with syncHit := true }

/-- R99, R111, R116, R117. That a new run clears SKEW_DONE and SKEW_FAIL is the model's choice (log entry 46). -/
def Obligations.SkewAndRelock : Prop :=
  (∀ (m : Master) (v : BitVec 32) (s : State), reaches s m 0x20001C true = true → rtHeld s m = false → bits v.toNat 10 0 ≠ s.get R.CLK_PHASE_TAPS →
    Runs (.clkPhaseWrite m v) s ([only R.CLK_PHASE_TAPS 0, every R.LAN_STATUS_STATE, every R.LAN_STATUS_RES_EN, every R.LAN_STATUS_LOCK] ++ eventPlaces)
      ([.lans] ++ eventParts) fun t =>
      t.get R.CLK_PHASE_TAPS = bits v.toNat 10 0 ∧
      ∀ l < 24, (s.get R.LAN_STATUS_STATE l = 4 → t.get R.LAN_STATUS_STATE l = 1 ∧ t.get R.LAN_STATUS_LOCK l = 0 ∧ t.get R.LAN_STATUS_RES_EN l = 0) ∧
        (s.get R.LAN_STATUS_STATE l ≠ 4 → t.get R.LAN_STATUS_STATE l = s.get R.LAN_STATUS_STATE l ∧ lan t l = lan s l)) ∧
  (∀ s : State, s.phaseNow ≠ s.get R.CLK_PHASE_TAPS → (s.clk.phaseAt = 0 ∨ s.clk.phaseAt + 400 ≤ s.clock + 1) →
    Runs .phaseTapStep s [] [.phaseNow, .clk] fun t => t.clk = { s.clk with phaseAt := s.clock + 1 } ∧
      (s.phaseNow < s.get R.CLK_PHASE_TAPS → t.phaseNow = s.phaseNow + 1) ∧ (s.get R.CLK_PHASE_TAPS < s.phaseNow → t.phaseNow = s.phaseNow - 1)) ∧
  (∀ s : State, (s.phaseNow = s.get R.CLK_PHASE_TAPS ∨ s.clk.phaseAt ≠ 0 ∧ s.clock + 1 < s.clk.phaseAt + 400) → exec .phaseTapStep s = .next s) ∧
  (∀ (m : Master) (v : BitVec 32) (s : State), reaches s m 0x200020 true = true → rtHeld s m = false → s.get R.CLK_SYNC_CTRL_OUT_MODE ≠ 2 →
    s.get R.CLK_STATUS_SKEW_BUSY = 0 →
    Runs (.skewRun m v) s [only R.CLK_SKEW_CTRL_MODE 0, only R.CLK_SKEW_CTRL_AVG_LOG2 0, only R.CLK_STATUS_SKEW_BUSY 0, only R.CLK_STATUS_SKEW_DONE 0,
        only R.CLK_STATUS_SKEW_FAIL 0] [.skew] fun t =>
      t.get R.CLK_SKEW_CTRL_MODE = bits v.toNat 8 8 ∧ t.get R.CLK_SKEW_CTRL_AVG_LOG2 = bits v.toNat 3 0 ∧ t.get R.CLK_STATUS_SKEW_BUSY = 1 ∧
      t.get R.CLK_STATUS_SKEW_DONE = 0 ∧ t.get R.CLK_STATUS_SKEW_FAIL = 0 ∧
      t.skew = { align := bit v.toNat 8, pass := 1, sum := 0, cnt := 0, moves := 0 }) ∧
  (∀ (m : Master) (v : BitVec 32) (s : State), reaches s m 0x200020 true = true → rtHeld s m = false → s.get R.CLK_SYNC_CTRL_OUT_MODE = 2 →
    Runs (.skewRun m v) s [only R.CLK_SKEW_CTRL_MODE 0, only R.CLK_SKEW_CTRL_AVG_LOG2 0, only R.CLK_STATUS_SKEW_FAIL 0] [] fun t =>
      t.get R.CLK_STATUS_SKEW_FAIL = 1) ∧
  (∀ s : State, (s.skew.moves = 0 ∨ s.clock < s.skew.due) → exec .skewTapStep s = .next s) ∧
  (∀ s : State, s.skew.moves ≠ 0 → s.skew.due ≤ s.clock → s.get R.CLK_PHASE_TAPS < 2048 →
    Runs .skewTapStep s ([only R.CLK_PHASE_TAPS 0, only R.CLK_STATUS_TIME_VALID 0, only R.CLK_ALARM_TIME_LOST 0, every R.LAN_STATUS_STATE,
        every R.LAN_STATUS_RES_EN, every R.LAN_STATUS_LOCK] ++ eventPlaces) ([.phaseNow, .skew, .lans] ++ eventParts) fun t =>
      t.get R.CLK_PHASE_TAPS = (if 0 < s.skew.moves then (s.get R.CLK_PHASE_TAPS + 1) % 2048 else (s.get R.CLK_PHASE_TAPS + 2047) % 2048) ∧
      t.phaseNow = t.get R.CLK_PHASE_TAPS ∧
      (((0 < s.skew.moves ∧ s.get R.CLK_PHASE_TAPS = 2047) ∨ (s.skew.moves < 0 ∧ s.get R.CLK_PHASE_TAPS = 0)) →
        t.get R.CLK_STATUS_TIME_VALID = 0 ∧ t.get R.CLK_ALARM_TIME_LOST ≠ 0) ∧
      t.skew = { s.skew with
        moves := s.skew.moves + (if 0 < s.skew.moves then -1 else 1), due := s.clock + 400
        pass := if s.skew.moves = 1 ∨ s.skew.moves = -1 then s.skew.pass + 1 else s.skew.pass } ∧
      ∀ l < 24, t.get R.LAN_STATUS_STATE l = if s.get R.LAN_STATUS_STATE l = 4 then 1 else s.get R.LAN_STATUS_STATE l) ∧
  (∀ s : State, s.pending = [] → ticking s = true → s.get R.CLK_STATUS_SKEW_BUSY ≠ 0 → 8 < s.skew.pass → s.skew.due ≤ s.clock →
    ∃ t, step s = .next t ∧ t.get R.CLK_STATUS_SKEW_FAIL = 1 ∧ t.get R.CLK_STATUS_SKEW_BUSY = 0 ∧ t.skew = {}) ∧
  (∀ s : State, s.get R.CLK_STATUS_PLL_LOCK ≠ 0 → s.get R.CLK_STATUS_HOLDOVER = 0 → (s.get R.PWR_STATE_STATE = 1 ∨ s.get R.PWR_STATE_STATE = 2) →
    ∃ t, exec .pllUnlock s = .next t ∧ Keeps [.pending, .now, .tick, .hbm, .clock, .flash, .sram, .mbxQ, .lans, .pwr, .boot] s t ∧
      t.get R.CLK_STATUS_PLL_LOCK = 0 ∧ t.get R.CLK_STATUS_PLL_UNLOCK ≠ 0 ∧ t.get R.CLK_STATUS_TIME_VALID = 0 ∧ t.get R.CLK_ALARM_TIME_LOST ≠ 0 ∧
      t.get R.PWR_STATE_STATE = 2 ∧
      ∀ n < 256, bit (t.get R.LIN_STATUS_MUTE_CAUSE n) 5 = true ∧ t.get R.LIN_STATUS_LIVE n = 0 ∧ bit (t.get R.BIA_STATUS_CAUSE n) 3 = true) ∧
  (∀ (m : Master) (v : BitVec 32) (s : State), reaches s m 0x200008 true = true → rtHeld s m = false → s.get R.CLK_STATUS_RELOCK_BUSY = 0 →
    Runs (.relock m v) s [only R.CLK_CTRL_REF_OUT_EN 0, only R.CLK_STATUS_RELOCK_BUSY 0] [.clk] fun t =>
      t.get R.CLK_CTRL_REF_OUT_EN = bits v.toNat 1 1 ∧ t.get R.CLK_STATUS_RELOCK_BUSY = 1 ∧ t.clk = { s.clk with relockAt := s.clock }) ∧
  (∀ (m : Master) (v : BitVec 32) (s : State), reaches s m 0x200008 true = true → rtHeld s m = false → s.get R.CLK_STATUS_RELOCK_BUSY ≠ 0 →
    Runs (.relock m v) s [only R.CLK_CTRL_REF_OUT_EN 0] [] fun t => t.get R.CLK_CTRL_REF_OUT_EN = bits v.toNat 1 1) ∧
  (∀ (locked : Bool) (s : State), s.get R.CLK_STATUS_RELOCK_BUSY ≠ 0 → (locked = false ∨ s.clk.relockAt + 8000000 < s.clock) →
    Runs (.relockDone locked) s ([only R.CLK_STATUS_RELOCK_BUSY 0, only R.CLK_ALARM_RELOCK_FAIL 0] ++ eventPlaces) eventParts fun t =>
      t.get R.CLK_STATUS_RELOCK_BUSY = 0 ∧ t.get R.CLK_ALARM_RELOCK_FAIL ≠ 0) ∧
  ∀ s : State, s.get R.CLK_STATUS_RELOCK_BUSY ≠ 0 → s.clock ≤ s.clk.relockAt + 8000000 →
    Runs (.relockDone true) s ([only R.CLK_STATUS_RELOCK_BUSY 0, only R.CLK_STATUS_PLL_LOCK 0, only R.CLK_STATUS_HOLDOVER 0, only R.CLK_STATUS_TIME_VALID 0,
        only R.CLK_STATUS_PLL_UNLOCK 0, only R.CLK_STATUS_REF_RANGE 0, only R.CLK_STATUS_REF_LOSS 0, only R.CLK_ALARM_TIME_LOST 0,
        every R.LAN_STATUS_STATE, every R.LAN_STATUS_RES_EN, every R.LAN_STATUS_LOCK, every R.LIN_STATUS_MUTE_CAUSE, every R.BIA_STATUS_STATE,
        every R.BIA_STATUS_CAUSE, every R.BIA_STATUS_GLIDING, every R.BIA_CODE_CODE] ++ eventPlaces) ([.lans, .biases] ++ eventParts) fun t =>
      t.get R.CLK_STATUS_RELOCK_BUSY = 0 ∧ t.get R.CLK_STATUS_PLL_LOCK = 1 ∧ t.get R.CLK_STATUS_HOLDOVER = 0 ∧ t.get R.CLK_STATUS_PLL_UNLOCK = 0 ∧
      t.get R.CLK_STATUS_REF_RANGE = 0 ∧ t.get R.CLK_STATUS_REF_LOSS = 0 ∧ t.get R.CLK_STATUS_TIME_VALID = 0 ∧ t.get R.CLK_ALARM_TIME_LOST ≠ 0 ∧
      (∀ l < 24, t.get R.LAN_STATUS_STATE l = if s.get R.LAN_STATUS_STATE l = 4 then 1 else s.get R.LAN_STATUS_STATE l) ∧
      (s.get R.CLK_STATUS_PLL_UNLOCK ≠ 0 → ∀ n < 256, bit (t.get R.LIN_STATUS_MUTE_CAUSE n) 5 = false ∧ bit (t.get R.BIA_STATUS_CAUSE n) 3 = false)

/-- R103, R124 to R126, R134, R253, R284. -/
def Obligations.ScheduleAndShots : Prop :=
  (∀ s : State, s.get R.GLB_SCHED_STATUS_STATE = 1 → s.get R.PWR_STATE_STATE = 1 →
    (s.get R.GLB_SCHED_CFG_START_MODE = 0 ∧ schedDue s 4 = true ∨
      s.get R.GLB_SCHED_CFG_START_MODE = 1 ∧ schedDue s (4000 * max (s.get R.GLB_SCHED_CFG_ALIGN) 1) = true ∨
      2 ≤ s.get R.GLB_SCHED_CFG_START_MODE ∧ schedFirst s ≤ schedStart s ∧ s.now = schedStart s) →
    Runs .scheduleStart s (shotPlaces ++ eventPlaces ++ [only R.GLB_SCHED_STATUS_STATE 0, only R.GLB_SCHED_BEGIN_LO_TIME_LO 0,
        only R.GLB_SCHED_BEGIN_HI_TIME_HI 0]) (shotParts ++ eventParts) fun t =>
      t.get R.GLB_SCHED_STATUS_STATE = 2 ∧ t.get R.GLB_SCHED_BEGIN_LO_TIME_LO = s.now % 2 ^ 32 ∧
      t.get R.GLB_SCHED_BEGIN_HI_TIME_HI = s.now / 2 ^ 32 % 2 ^ 32 ∧ t.shotStart = s.tick ∧
      ∀ n < 128, s.get R.CHS_CTRL_ENABLE n ≠ 0 → t.get R.CHS_STATUS_STATE n = 2 ∧ chs t n = { next := s.get R.CHS_CTRL_ENTRY n, ref := s.tick }) ∧
  (∀ s : State, s.get R.GLB_SCHED_STATUS_STATE = 1 → s.get R.PWR_STATE_STATE = 1 → 2 ≤ s.get R.GLB_SCHED_CFG_START_MODE → schedStart s < schedFirst s →
    Runs .scheduleStart s ([only R.GLB_SCHED_STATUS_MISSED 0, only R.GLB_SCHED_STATUS_STATE 0] ++ eventPlaces) eventParts fun t =>
      t.get R.GLB_SCHED_STATUS_MISSED = 1 ∧ t.get R.GLB_SCHED_STATUS_STATE = 4 ∧ EventFires s t 1480) ∧
  (∀ s : State, shotDue s = true → lastShot s = false →
    Runs .shotStart s (shotPlaces ++ eventPlaces ++ [only R.CLK_SHOT_COUNT 0, only R.CLK_SHOT_EPOCH_EPOCH 0]) (shotParts ++ eventParts) fun t =>
      t.get R.CLK_SHOT_COUNT = (s.get R.CLK_SHOT_COUNT + 1) % 2 ^ 32 ∧
      (s.get R.CLK_SHOT_COUNT = 2 ^ 32 - 1 → t.get R.CLK_SHOT_EPOCH_EPOCH = (s.get R.CLK_SHOT_EPOCH_EPOCH + 1) % 2 ^ 16) ∧
      (s.get R.CLK_SHOT_COUNT ≠ 2 ^ 32 - 1 → t.get R.CLK_SHOT_EPOCH_EPOCH = s.get R.CLK_SHOT_EPOCH_EPOCH) ∧
      t.shotStart = s.tick ∧ t.decPub = [] ∧ t.decTaint = [] ∧ t.barSeen = [] ∧ t.barArr = [] ∧
      (∀ b < 16, t.get R.GLB_BAR_COMPLETE b = 0 ∧ t.get R.GLB_BAR_LOCAL b = 0 ∧ t.get R.GLB_BAR_TOKENS b = 0) ∧
      (∀ n < 128, s.get R.CHS_CTRL_ENABLE n ≠ 0 →
        t.get R.CHS_STATUS_STATE n = 2 ∧ chs t n = { next := s.get R.CHS_CTRL_ENTRY n, ref := s.tick } ∧
        t.get R.CHS_PREV_SHOT_COUNT n = s.get R.CLK_SHOT_COUNT % 2 ^ 32 ∧ t.get R.CHS_PREV_TAINT_TAINT n = taintMask (shotTaint s n) % 2 ^ 8 ∧
        (∀ k < 8, t.get R.CHS_G_VALUE (16 * n + k) = 0) ∧ (∀ k < 4, t.get R.CHS_K_VALUE (4 * n + k) = 0) ∧
        ((s.get R.CHS_STATUS_STATE n = 2 ∨ s.get R.CHS_STATUS_STATE n = 3) → t.get R.CHS_STATUS_CUT n = 1 ∧ Counted s t R.CHS_CUT_CNT_COUNT n)) ∧
      (∀ n < 128, s.get R.CHS_CTRL_ENABLE n = 0 → t.get R.CHS_STATUS_STATE n = s.get R.CHS_STATUS_STATE n ∧ chs t n = chs s n) ∧
      ∀ n < 64, s.get R.CLP_CTRL_MODE n = 1 →
        t.get R.CLP_STATUS_STATE n = 2 ∧ (clp t n).next = s.get R.CLP_CTRL_ENTRY n ∧ t.get R.CLP_STATUS_HANDLER n = 0 ∧ t.get R.CLP_EVT_EPEND n = 0 ∧
        ∀ k < 8, t.get R.CLP_X_VALUE (16 * n + k) = 0) ∧
  ∀ s : State, shotDue s = true → lastShot s = true →
    Runs .scheduleDone s ([only R.GLB_SCHED_STATUS_STATE 0, every R.CHS_STATUS_STATE, every R.CHS_STATUS_CUT, every R.CHS_STATUS_SHOT_TAINT, every R.CHS_PREV_TAINT_TAINT,
        every R.CHS_PREV_SHOT_COUNT, every R.CHS_CUT_CNT_COUNT, every R.SEG_SLOT_MODE, every R.TON_SLOT_BUSY, every R.TON_SLOT_MODE,
        every R.CLP_STATUS_STATE, every R.CLP_STATUS_CUT, every R.CLP_STATUS_SHOT_TAINT, every R.CLP_PREV_TAINT_TAINT, every R.CLP_PREV_SHOT_COUNT,
        every R.CLP_CUT_CNT_COUNT] ++ eventPlaces) ([.chisels, .slots, .shotT] ++ eventParts) fun t =>
      t.get R.GLB_SCHED_STATUS_STATE = 3 ∧
      (∀ n < 128, s.get R.CHS_CTRL_ENABLE n ≠ 0 → t.get R.CHS_STATUS_STATE n = 0 ∧ t.get R.CHS_PREV_SHOT_COUNT n = s.get R.CLK_SHOT_COUNT % 2 ^ 32 ∧
        t.get R.CHS_STATUS_SHOT_TAINT n = 0 ∧ shotTaint t n = []) ∧
      (∀ n < 64, s.get R.CLP_CTRL_MODE n = 1 → t.get R.CLP_STATUS_STATE n = 0) ∧ EventFires s t 1481

/-! ### Chisel engines (05_chisel_programs.md) -/

/-- R132: WAIT and WAITA start a wait with its end tick, and WAIT_END ends it on that tick and on no earlier one. -/
def Obligations.ChiselWaits : Prop :=
  (∀ n dt a b s, ChsReady s n dt 2 a b →
    Runs (.wait n dt a b) s [only R.CHS_STATUS_PC n, only R.CHS_STATUS_STATE n] [.chisels] fun t =>
      t.get R.CHS_STATUS_STATE n = 3 ∧
      ChsIssued s t n { chsNext s n 0 with
        wait := .until_ (s.tick + max (if bit a.toNat 18 then gReg s n (bits a.toNat 3 0) % 2 ^ 30 else b.toNat) 1) }) ∧
  (∀ n dt a b s, ChsReady s n dt 3 a b →
    Runs (.waita n dt a b) s [only R.CHS_STATUS_PC n, only R.CHS_STATUS_STATE n] [.chisels] fun t =>
      t.get R.CHS_STATUS_STATE n = 3 ∧
      ChsIssued s t n { chsNext s n 0 with
        wait := .until_ (max (s.tick + 1) (s.shotStart + if bit a.toNat 18 then gReg s n (bits a.toNat 3 0) % 2 ^ 32 else b.toNat)) }) ∧
  (∀ (n : Fin 128) (s : State), s.get R.CHS_STATUS_STATE n = 3 → (chs s n).wait = .until_ s.tick →
    Runs (.waitEnd n) s [only R.CHS_STATUS_STATE n] [.chisels] fun t =>
      t.get R.CHS_STATUS_STATE n = 2 ∧ chs t n = { chs s n with wait := .none, ref := s.tick, minDt := 0 } ∧ SameBut {} n s.chisels t.chisels) ∧
  ∀ (n : Fin 128) (r : Nat) (s : State), (chs s n).wait = .until_ r → r ≠ s.tick → exec (.waitEnd n) s = .next s

/-- R136: control flow and loop counters. -/
def Obligations.ChiselBranches : Prop :=
  (∀ n dt a b s, ChsReady s n dt 6 a b →
    Runs (.jmp n dt a b) s [only R.CHS_STATUS_PC n] [.chisels] fun t => ChsIssued s t n { chsNext s n 2 with next := bits b.toNat 35 21 }) ∧
  (∀ n dt a b s, ChsReady s n dt 9 a b → kReg s n (bits a.toNat 18 17) ≠ 0 →
    Runs (.loop_ n dt a b) s [only R.CHS_STATUS_PC n, only R.CHS_K_VALUE (4 * n + bits a.toNat 18 17)] [.chisels] fun t =>
      kReg t n (bits a.toNat 18 17) = (kReg s n (bits a.toNat 18 17) - 1) % 2 ^ 24 ∧ ChsIssued s t n { chsNext s n 2 with next := bits b.toNat 35 21 }) ∧
  (∀ n dt a b s, ChsReady s n dt 9 a b → kReg s n (bits a.toNat 18 17) = 0 →
    Runs (.loop_ n dt a b) s [only R.CHS_STATUS_PC n] [.chisels] fun t => ChsIssued s t n (chsNext s n 2)) ∧
  (∀ n dt a b s, ChsReady s n dt 10 a b →
    Runs (.setk n dt a b) s [only R.CHS_STATUS_PC n, only R.CHS_K_VALUE (4 * n + bits a.toNat 18 17)] [.chisels] fun t =>
      kReg t n (bits a.toNat 18 17) = (if bit a.toNat 16 then gReg s n (bits a.toNat 3 0) % 2 ^ 24 else b.toNat) ∧ ChsIssued s t n (chsNext s n 1)) ∧
  ∀ n dt a b s, Canon s → ChsReady s n dt 8 a b →
    Runs (.brg n dt a b) s [only R.CHS_STATUS_PC n] [.chisels] fun t =>
      (brgTaken (bits a.toNat 10 8) (sgn 36 (gReg s n (bits a.toNat 18 15))) (sgn 36 (gReg s n (bits a.toNat 14 11))) →
        ChsIssued s t n { chsNext s n 2 with next := bits b.toNat 35 21 }) ∧
      (¬ brgTaken (bits a.toNat 10 8) (sgn 36 (gReg s n (bits a.toNat 18 15))) (sgn 36 (gReg s n (bits a.toNat 14 11))) →
        ChsIssued s t n (chsNext s n 2))

/-- R142 and R143: the operation enters the list of its frame. SHIFT applies from tick t, the others from the granule boundary g, and none
before an earlier operation on the same frame. -/
def Obligations.ChiselFrames : Prop :=
  (∀ n dt a b s, ChsReady s n dt 0x18 a b →
    Runs (.shift n dt a b) s [only R.CHS_STATUS_PC n] [.chisels, .frmOps] fun t =>
      (∃ at_, s.tick ≤ at_ ∧ ((∀ o ∈ s.frmOps, o.key = 2048 * n + bits a.toNat 18 8 → o.at_ ≤ s.tick) → at_ = s.tick) ∧
        t.frmOps = s.frmOps ++ [⟨2048 * n + bits a.toNat 18 8, at_,
          .shift (if bit a.toNat 7 then gReg s n (bits a.toNat 3 0) % 2 ^ 32 else b.toNat)⟩]) ∧ ChsIssued s t n (chsNext s n 1)) ∧
  (∀ n dt a b s, ChsReady s n dt 0x19 a b →
    Runs (.setf n dt a b) s [only R.CHS_STATUS_PC n] [.chisels, .frmOps] fun t =>
      (∃ at_, granuleTick s ≤ at_ ∧ ((∀ o ∈ s.frmOps, o.key = 2048 * n + bits a.toNat 18 8 → o.at_ ≤ granuleTick s) → at_ = granuleTick s) ∧
        t.frmOps = s.frmOps ++ [⟨2048 * n + bits a.toNat 18 8, at_, .set (b.toNat * 2 ^ 12) (bits a.toNat 7 0 * 2 ^ 24) (granuleT0 s)⟩]) ∧
      ChsIssued s t n (chsNext s n 1)) ∧
  (∀ n dt a b s, ChsReady s n dt 0x1A a b →
    Runs (.setfr n dt a b) s [only R.CHS_STATUS_PC n] [.chisels, .frmOps] fun t =>
      (∃ at_, granuleTick s ≤ at_ ∧ ((∀ o ∈ s.frmOps, o.key = 2048 * n + bits a.toNat 18 8 → o.at_ ≤ granuleTick s) → at_ = granuleTick s) ∧
        t.frmOps = s.frmOps ++ [⟨2048 * n + bits a.toNat 18 8, at_,
          .set (gReg s n (bits a.toNat 3 0) * 2 ^ 12 + gReg s n (bits a.toNat 3 0 + 1) % 2 ^ 12)
            (gReg s n (bits a.toNat 3 0 + 1) / 2 ^ 12 * 2 ^ 8) (granuleT0 s)⟩]) ∧
      ChsIssued s t n (chsNext s n 1)) ∧
  ∀ n dt a b s, ChsReady s n dt 0x1B a b →
    Runs (.freset n dt a b) s [only R.CHS_STATUS_PC n] [.chisels, .frmOps] fun t =>
      (∃ at_, granuleTick s ≤ at_ ∧ ((∀ o ∈ s.frmOps, o.key = 2048 * n + bits a.toNat 18 8 → o.at_ ≤ granuleTick s) → at_ = granuleTick s) ∧
        t.frmOps = s.frmOps ++ [⟨2048 * n + bits a.toNat 18 8, at_, .reset (granuleT0 s)⟩]) ∧
      ChsIssued s t n (chsNext s n 1)

/-- R149: every one of the 23 instructions, executed, dropped or a no-operation, leaves its issue tick as the reference tick. -/
def Obligations.ChiselIssueTicks : Prop :=
  ∀ (k : Fin 23) (n : Fin 128) (dt : BitVec 12) (a : BitVec 19) (b : Word36) (s : State),
    s.get R.CHS_STATUS_STATE n = 2 → (chs s n).ref + dt.toNat = s.tick →
    ∃ t, exec ((chsIssues.get k).2 n dt a b) s = .next t ∧ (chs t n).ref = s.tick

/-- R64, R65, R122: DT_SHORT, for the instructions whose only check is check 1. -/
def Obligations.ChiselShortDt : Prop :=
  ∀ (k : Fin 23) (n : Fin 128) (dt : BitVec 12) (a : BitVec 19) (b : Word36) (s : State),
    (chsIssues.get k).1 ∈ [0x01, 0x02, 0x03, 0x04, 0x05, 0x06, 0x08, 0x09, 0x0A, 0x0B, 0x0D, 0x18, 0x19, 0x1A, 0x1B] →
    s.get R.CHS_STATUS_STATE n = 2 → (chs s n).ref + dt.toNat = s.tick → dt.toNat < (chs s n).minDt → (chs s n).next < 32768 →
    chsFormOk (chsIssues.get k).1 a.toNat b.toNat = true →
    Runs ((chsIssues.get k).2 n dt a b) s ([only R.CHS_STATUS_PC n, only R.CHS_STATUS_SHOT_TAINT n] ++ contractPlaces ++ taintPlaces ++ eventPlaces)
      ([.chisels, .shotT, .taintTick] ++ eventParts) fun t =>
      ChsIssued s t n (chsNext s n 1) ∧ t.get R.GLB_CONTRACT_CNT_COUNT = min (s.get R.GLB_CONTRACT_CNT_COUNT + 1) 0xFFFFFFFF ∧
      bit (t.get R.GLB_CONTRACT_STICKY_CHS_CODES) 0 = true ∧ shotTaint t n = taintOr (shotTaint s n) (taintOf tCONTRACT 1 n)

/-- R133. -/
def Obligations.ChiselEdgeWaits : Prop :=
  (∀ n dt a b s, ChsReady s n dt 4 a b →
    Runs (.waitt n dt a b) s [only R.CHS_STATUS_PC n, only R.CHS_STATUS_STATE n] [.chisels] fun t =>
      t.get R.CHS_STATUS_STATE n = 3 ∧
      ChsIssued s t n { chsNext s n 0 with
        wait := .edge (bits a.toNat 18 14) (bits a.toNat 11 8) s.tick (s.tick + max (bits b.toNat 23 0) 1) }) ∧
  (∀ (n : Fin 128) (tin dest t0 tmo : Nat) (s : State), s.get R.CHS_STATUS_STATE n = 3 → (chs s n).wait = .edge tin dest t0 tmo →
    dest < 16 → t0 < s.tick → (∃ p ∈ s.tinSeen, p.tin = tin ∧ p.e + 3 = s.tick) →
    Runs (.waittEnd n) s [only R.CHS_STATUS_STATE n, only R.CHS_G_VALUE (16 * n + dest)] [.chisels] fun t =>
      gReg t n dest = (s.tick - t0) % 2 ^ 36 ∧ t.get R.CHS_STATUS_STATE n = 2 ∧
      chs t n = { chs s n with wait := .none, ref := s.tick, minDt := 0 } ∧ SameBut {} n s.chisels t.chisels) ∧
  (∀ (n : Fin 128) (tin dest t0 : Nat) (s : State), s.get R.CHS_STATUS_STATE n = 3 → (chs s n).wait = .edge tin dest t0 s.tick →
    dest < 16 → t0 < s.tick → (∀ p ∈ s.tinSeen, p.tin = tin → p.e + 3 ≠ s.tick) →
    Runs (.waittEnd n) s ([only R.CHS_STATUS_STATE n, only R.CHS_G_VALUE (16 * n + dest), only R.CHS_STATUS_WAITT_TIMEOUT n,
        only R.CHS_TIMEOUT_CNT_COUNT n] ++ eventPlaces) ([.chisels] ++ eventParts) fun t =>
      gReg t n dest = (s.tick - t0 + 2 ^ 35) % 2 ^ 36 ∧ t.get R.CHS_STATUS_STATE n = 2 ∧ t.get R.CHS_STATUS_WAITT_TIMEOUT n = 1 ∧
      t.get R.CHS_TIMEOUT_CNT_COUNT n = min (s.get R.CHS_TIMEOUT_CNT_COUNT n + 1) 0xFFFFFFFF ∧
      chs t n = { chs s n with wait := .none, ref := s.tick, minDt := 0 } ∧ SameBut {} n s.chisels t.chisels) ∧
  ∀ (n : Fin 128) (tin dest t0 tmo : Nat) (s : State), (chs s n).wait = .edge tin dest t0 tmo → s.tick ≠ tmo →
    (∀ p ∈ s.tinSeen, p.tin = tin → p.e + 3 ≠ s.tick) → exec (.waittEnd n) s = .next s

/-- R134. -/
def Obligations.ChiselBarriers : Prop :=
  (∀ n dt a b s, ChsReady s n dt 5 a b → bit (s.get R.CHS_BAR_EN_EN n) (bits a.toNat 18 15) = true →
    s.get R.GLB_BAR_COMPLETE (bits a.toNat 18 15) ≠ 0 →
    Runs (.lbar n dt a b) s [only R.CHS_STATUS_PC n, only R.CHS_STATUS_STATE n] [.chisels] fun t =>
      t.get R.CHS_STATUS_STATE n = 3 ∧ ChsIssued s t n { chsNext s n 0 with wait := .until_ (s.tick + 1) }) ∧
  (∀ n dt a b s, ChsReady s n dt 5 a b → bit (s.get R.CHS_BAR_EN_EN n) (bits a.toNat 18 15) = true →
    s.get R.GLB_BAR_COMPLETE (bits a.toNat 18 15) = 0 →
    Runs (.lbar n dt a b) s [only R.CHS_STATUS_PC n, only R.CHS_STATUS_STATE n] [.chisels, .barArr] fun t =>
      t.get R.CHS_STATUS_STATE n = 3 ∧ t.barArr = s.barArr ++ [(bits a.toNat 18 15, n.val, s.tick + 2)] ∧
      ChsIssued s t n { chsNext s n 0 with wait := .bar (bits a.toNat 18 15) (s.tick + max (bits b.toNat 23 0) 1) }) ∧
  (∀ n dt a b s, ChsReady s n dt 5 a b → bit (s.get R.CHS_BAR_EN_EN n) (bits a.toNat 18 15) = false →
    Runs (.lbar n dt a b) s [only R.CHS_STATUS_PC n, only R.CHS_STATUS_STATE n] [.chisels] fun t =>
      t.get R.CHS_STATUS_STATE n = 3 ∧
      ChsIssued s t n { chsNext s n 0 with wait := .bar (bits a.toNat 18 15) (s.tick + max (bits b.toNat 23 0) 1) }) ∧
  (∀ (n : Fin 128) (s : State), Runs (.barrierArrival n) s [every R.GLB_BAR_LOCAL] [.barArr, .barSeen] fun t =>
      t.barArr = s.barArr.filter (fun p => !(p.2.1 == n.val && p.2.2 == s.tick)) ∧
      (∀ b, (b, n.val, s.tick) ∈ s.barArr → n.val ∈ sget [] t.barSeen b ∧ (barLocal t b = true → t.get R.GLB_BAR_LOCAL b = 1)) ∧
      ∀ b, (b, n.val, s.tick) ∉ s.barArr → sget [] t.barSeen b = sget [] s.barSeen b) ∧
  (∀ (b : Fin 16) (s : State), s.get R.GLB_BAR_LOCAL b ≠ 0 → s.get R.GLB_BAR_COMPLETE b = 0 → s.get R.GLB_BAR_REMOTE b ≤ s.get R.GLB_BAR_TOKENS b →
    Runs (.barrierComplete b) s [only R.GLB_BAR_COMPLETE b] [.chisels] fun t => t.get R.GLB_BAR_COMPLETE b = 1 ∧
      ∀ m, (∀ tmo, m < 128 → (chs s m).wait = .bar b tmo → bit (s.get R.CHS_BAR_EN_EN m) b = true → s.tick + 2 ≤ tmo →
          chs t m = { chs s m with wait := .until_ (s.tick + 2) }) ∧
        ((128 ≤ m ∨ (∀ tmo, (chs s m).wait = .bar b tmo → tmo < s.tick + 2) ∨ bit (s.get R.CHS_BAR_EN_EN m) b = false) → chs t m = chs s m)) ∧
  ∀ (n : Fin 128) (b : Nat) (s : State), s.get R.CHS_STATUS_STATE n = 3 → (chs s n).wait = .bar b s.tick →
    Runs (.barrierTimeout n) s ([only R.CHS_STATUS_STATE n, only R.CHS_STATUS_BAR_TIMEOUT n, only R.CHS_TIMEOUT_CNT_COUNT n] ++ eventPlaces)
      ([.chisels] ++ eventParts) fun t =>
      t.get R.CHS_STATUS_STATE n = 2 ∧ t.get R.CHS_STATUS_BAR_TIMEOUT n = 1 ∧
      t.get R.CHS_TIMEOUT_CNT_COUNT n = min (s.get R.CHS_TIMEOUT_CNT_COUNT n + 1) 0xFFFFFFFF ∧
      chs t n = { chs s n with wait := .none, ref := s.tick, minDt := 0 } ∧ SameBut {} n s.chisels t.chisels

/-- R137, R138. -/
def Obligations.ChiselDecisionBranch : Prop :=
  (∀ n dt a b s, ChsReady s n dt 7 a b → (bit a.toNat 12 = true → bits a.toNat 18 13 ≠ 63) →
    bits b.toNat 11 0 + 8 ≤ min (progDt s n (min ((chs s n).next + 1) 32768)) (progDt s n (bits b.toNat 35 21)) →
    Runs (.brd n dt a b) s [only R.CHS_STATUS_PC n] [.chisels] fun t =>
      ChsIssued s t n { chsNext s n 2 with
        brd := some ⟨s.tick + bits b.toNat 11 0, bits a.toNat 18 13, bit a.toNat 12, bits a.toNat 11 10, bit a.toNat 9, bits b.toNat 35 21,
          (chs s n).next⟩ }) ∧
  (∀ (n : Fin 128) (x : Brd) (s : State), (chs s n).brd = some x → x.d = s.tick → x.two = false → windowPub s n x.lo = true →
    Runs (.brdDeadline n) s ([only R.CHS_STATUS_SHOT_TAINT n] ++ taintPlaces ++ eventPlaces) ([.chisels, .shotT, .taintTick] ++ eventParts) fun t =>
      chs t n = { chs s n with
        brd := none
        next := if (windowVal s n x.lo == bit x.value 0) != x.sense then x.target else (chs s n).next } ∧
      shotTaint t n = taintOr (shotTaint s n) (windowTaint s n x.lo) ∧ SameBut {} n s.chisels t.chisels ∧ SameBut [] n s.shotT t.shotT) ∧
  (∀ (n : Fin 128) (x : Brd) (s : State), (chs s n).brd = some x → x.d = s.tick → x.two = true → windowPub s n x.lo = true →
    windowPub s n (x.lo + 1) = true →
    Runs (.brdDeadline n) s ([only R.CHS_STATUS_SHOT_TAINT n] ++ taintPlaces ++ eventPlaces) ([.chisels, .shotT, .taintTick] ++ eventParts) fun t =>
      chs t n = { chs s n with
        brd := none
        next := if (b2n (windowVal s n x.lo) + 2 * b2n (windowVal s n (x.lo + 1)) == x.value) != x.sense then x.target else (chs s n).next } ∧
      shotTaint t n = taintOr (taintOr (shotTaint s n) (windowTaint s n x.lo)) (windowTaint s n (x.lo + 1)) ∧
      SameBut {} n s.chisels t.chisels ∧ SameBut [] n s.shotT t.shotT) ∧
  ∀ (n : Fin 128) (x : Brd) (s : State), (chs s n).brd = some x → x.d = s.tick →
    (windowPub s n x.lo = false ∨ (x.two = true ∧ windowPub s n (x.lo + 1) = false)) →
    Runs (.brdDeadline n) s ([only R.CHS_STATUS_SHOT_TAINT n] ++ contractPlaces ++ taintPlaces ++ eventPlaces)
      ([.chisels, .shotT, .taintTick] ++ eventParts) fun t =>
      chs t n = { chs s n with brd := none } ∧ shotTaint t n = taintOr (shotTaint s n) (taintOf tCONTRACT 1 n) ∧
      t.get R.GLB_CONTRACT_CNT_COUNT = min (s.get R.GLB_CONTRACT_CNT_COUNT + 1) 0xFFFFFFFF ∧ SameBut {} n s.chisels t.chisels

/-- R121, R146, R147, Table CHS-8. -/
def Obligations.ChiselRegisters : Prop :=
  (∀ (n : Fin 128) (dt : BitVec 12) (s : State), s.get R.CHS_STATUS_STATE n = 2 → (chs s n).ref + dt.toNat = s.tick → (chs s n).next < 32768 →
    Runs (.end_ n dt 0 0) s [only R.CHS_STATUS_PC n, only R.CHS_STATUS_STATE n] [.chisels] fun t =>
      t.get R.CHS_STATUS_STATE n = 4 ∧ t.get R.CHS_STATUS_PC n = (chs s n).next ∧ SameBut {} n s.chisels t.chisels) ∧
  (∀ (n : Fin 128) (dt : BitVec 12) (a : BitVec 19) (b : Word36) (s : State), s.get R.CHS_STATUS_STATE n = 2 → (chs s n).ref + dt.toNat = s.tick →
    (chs s n).next < 32768 → a ≠ 0 ∨ b ≠ 0 →
    Runs (.end_ n dt a b) s ([only R.CHS_STATUS_PC n, only R.CHS_STATUS_SHOT_TAINT n] ++ contractPlaces ++ taintPlaces ++ eventPlaces)
      ([.chisels, .shotT, .taintTick] ++ eventParts) fun t =>
      ChsIssued s t n (chsNext s n 1) ∧ Counted s t R.GLB_CONTRACT_CNT_COUNT ∧ bit (t.get R.GLB_CONTRACT_STICKY_CHS_CODES) 3 = true) ∧
  (∀ n dt a b s, ChsReady s n dt 1 a b →
    Runs (.nop n dt a b) s [only R.CHS_STATUS_PC n] [.chisels] fun t => ChsIssued s t n (chsNext s n 1)) ∧
  (∀ n dt a b s, ChsReady s n dt 0x0B a b →
    Runs (.alu n dt a b) s [only R.CHS_STATUS_PC n, only R.CHS_G_VALUE (16 * n + bits a.toNat 14 11)] [.chisels] fun t =>
      gReg t n (bits a.toNat 14 11) = chsAlu s (bits a.toNat 18 15) (gReg s n (bits a.toNat 10 7))
        (if bit a.toNat 2 then b.toNat else gReg s n (bits a.toNat 6 3)) % 2 ^ 36 ∧ ChsIssued s t n (chsNext s n 1)) ∧
  (∀ n dt a b s p e, ChsReady s n dt 0x0C a b → pointOn s n (bits b.toNat 15 0) = some p → p.kind = 0 → sget 0 s.hLast n ≤ p.pos →
    (sget [] s.harvest n).find? (fun e => e.tag == harvestTag s n p.pos) = some e →
    Runs (.harvest n dt a b) s [only R.CHS_STATUS_PC n, only R.CHS_G_VALUE (16 * n + bits a.toNat 18 15), every R.GLB_HARVEST_THIN_CNT_COUNT,
        every R.GLB_HARVEST_DISCARD_CNT_COUNT] [.chisels, .harvest, .hNext, .hLast] fun t =>
      gReg t n (bits a.toNat 18 15) = e.value % 2 ^ 36 ∧ ChsIssued s t n (chsNext s n 1) ∧ sget 0 t.hLast n = p.pos + 1 ∧
      sget 0 t.hNext n = (harvestTag s n p.pos + 1) % 65536 ∧ SameBut [] n s.harvest t.harvest) ∧
  (∀ n dt a b s p, ChsReady s n dt 0x0C a b → pointOn s n (bits b.toNat 15 0) = some p → sget 0 s.hLast n ≤ p.pos →
    (sget [] s.harvest n).find? (fun e => e.tag == harvestTag s n p.pos) = none →
    Runs (.harvest n dt a b) s ([only R.CHS_STATUS_PC n, only R.CHS_G_VALUE (16 * n + bits a.toNat 18 15), every R.GLB_HARVEST_LATE_CNT_COUNT,
        every R.GLB_HARVEST_DISCARD_CNT_COUNT, only R.CHS_STATUS_SHOT_TAINT n] ++ taintPlaces ++ eventPlaces)
        ([.chisels, .harvest, .hNext, .hLast, .shotT, .taintTick] ++ eventParts) fun t =>
      gReg t n (bits a.toNat 18 15) = (if p.kind = 1 then 0 else p.dflt) % 2 ^ 36 ∧ ChsIssued s t n (chsNext s n 1) ∧
      shotTaint t n = taintOr (shotTaint s n) (taintOf tLATE 1 n) ∧
      t.get R.GLB_HARVEST_LATE_CNT_COUNT = min (s.get R.GLB_HARVEST_LATE_CNT_COUNT + 1) 0xFFFFFFFF ∧ sget 0 t.hLast n = p.pos + 1) ∧
  (∀ n dt a b s, ChsReady s n dt 0x0D a b → bits a.toNat 18 17 = 0 →
    Runs (.emit n dt a b) s ([only R.CHS_STATUS_PC n] ++ eventPlaces) ([.chisels] ++ eventParts) fun t =>
      ChsIssued s t n (chsNext s n 1) ∧
      (FiresRt s (4 * n + bits a.toNat 16 16) → ⟨s.get R.EVF_SRC_CH (4 * n + bits a.toNat 16 16), s.tick⟩ ∈ t.deliver)) ∧
  ∀ n dt a b s, ChsReady s n dt 0x0D a b → bits a.toNat 18 17 = 1 → (sget {} s.rq (n / 8)).waiting.length < 2048 →
    Runs (.emit n dt a b) s ([only R.CHS_STATUS_PC n] ++ taintPlaces ++ eventPlaces) ([.chisels, .rq, .taintTick] ++ eventParts) fun t =>
      ChsIssued s t n (chsNext s n 1) ∧
      RecEntered s t (n / 8) (mkRec 2 n n 0 (taintMask (taintOr (shotTaint s n) (clockTaint s s.tick))) s.now (s.get R.CLK_SHOT_COUNT)
        (gReg s n (bits a.toNat 3 0)) b.toNat ((chs s n).next * 2 ^ 20))

/-- R139 to R141, R144, R145, R158, R203. -/
def Obligations.ChiselOutputs : Prop :=
  (∀ n dt a b s, ChsReady s n dt 0x10 a b → slotBusy s (chsSlot n a.toNat) = false → segBad s n (bits a.toNat 15 6) = false →
    inGap s 0 (slotLine (chsSlot n a.toNat)) = none →
    Runs (.play n dt a b) s [only R.CHS_STATUS_PC n, only R.TON_SLOT_BUSY (chsSlot n a.toNat)] [.chisels, .slots, .playSeen] fun t =>
      ChsIssued s t n (chsNext s n 1) ∧ t.get R.TON_SLOT_BUSY (chsSlot n a.toNat) = 1 ∧
      (∀ start, start = (if bit a.toNat 0 || segStream s n (bits a.toNat 15 6) then granuleTick s else s.tick) →
        slot t (chsSlot n a.toNat) = { slot s (chsSlot n a.toNat) with
          segs := (slot s (chsSlot n a.toNat)).segs ++ [segOf s n (bits a.toNat 15 6) start (chsBind s n b.toNat) false
            (if bit a.toNat 5 then some (gReg s n (bits a.toNat 4 1) % 2 ^ 16) else none) (chs s n).next]
          busyTo := start + 4 * segLen s n (bits a.toNat 15 6) }) ∧ SameBut {} (chsSlot n a.toNat) s.slots t.slots) ∧
  (∀ n dt a b s, ChsReady s n dt 0x11 a b → bit a.toNat 5 = false → segBad s n (bits a.toNat 15 6) = false →
    inGap s 0 (slotLine (chsSlot n a.toNat)) = none → s.get R.SEG_SLOT_MODE (chsSlot n a.toNat) ≠ 2 →
    Runs (.table_ n dt a b) s [only R.CHS_STATUS_PC n, only R.SEG_SLOT_MODE (chsSlot n a.toNat), only R.TON_SLOT_MODE (chsSlot n a.toNat),
        only R.TON_SLOT_BUSY (chsSlot n a.toNat)] [.chisels, .slots] fun t =>
      ChsIssued s t n (chsNext s n 1) ∧ t.get R.SEG_SLOT_MODE (chsSlot n a.toNat) = 1 ∧
      slot t (chsSlot n a.toNat) = { slot s (chsSlot n a.toNat) with
        hand := some ⟨bits a.toNat 15 6, chsBind s n b.toNat, (chs s n).next, granuleTick s⟩ } ∧ SameBut {} (chsSlot n a.toNat) s.slots t.slots) ∧
  (∀ n dt a b s, ChsReady s n dt 0x11 a b → bit a.toNat 5 = false → segBad s n (bits a.toNat 15 6) = false →
    inGap s 0 (slotLine (chsSlot n a.toNat)) = none → s.get R.SEG_SLOT_MODE (chsSlot n a.toNat) = 2 →
    Runs (.table_ n dt a b) s [only R.CHS_STATUS_PC n, only R.SEG_SLOT_REPOINT_PEND (chsSlot n a.toNat)] [.chisels, .slots] fun t =>
      ChsIssued s t n (chsNext s n 1) ∧ t.get R.SEG_SLOT_REPOINT_PEND (chsSlot n a.toNat) = 1 ∧
      slot t (chsSlot n a.toNat) = { slot s (chsSlot n a.toNat) with
        repoint := some ⟨bits a.toNat 15 6, chsBind s n b.toNat, (chs s n).next, granuleTick s⟩ } ∧ SameBut {} (chsSlot n a.toNat) s.slots t.slots) ∧
  (∀ n dt a b s, ChsReady s n dt 0x11 a b → bit a.toNat 5 = true → inGap s 0 (slotLine (chsSlot n a.toNat)) = none →
    s.get R.SEG_SLOT_MODE (chsSlot n a.toNat) = 2 →
    Runs (.table_ n dt a b) s [only R.CHS_STATUS_PC n, only R.SEG_SLOT_STOP_PEND (chsSlot n a.toNat)] [.chisels] fun t =>
      ChsIssued s t n (chsNext s n 1) ∧ t.get R.SEG_SLOT_STOP_PEND (chsSlot n a.toNat) = 1) ∧
  (∀ n dt a b s l k, ChsReady s n dt 0x12 a b → l = 2 * n.val + bits a.toNat 18 18 → inGap s 1 l = none →
    k = (if bit a.toNat 17 then gReg s n (bits a.toNat 3 0) % 2 ^ 20 else b.toNat) →
    -(s.get R.GOV_BIAS_MAG_MAG l : Int) ≤ codeVal k → codeVal k ≤ s.get R.GOV_BIAS_MAG_MAG l →
    Runs (.bias n dt a b) s [only R.CHS_STATUS_PC n, only R.BIA_TARGET_CODE l, only R.BIA_STATUS_GLIDING l] [.chisels, .biases] fun t =>
      ChsIssued s t n (chsNext s n 1) ∧ t.get R.BIA_TARGET_CODE l = k ∧ SameBut {} l s.biases t.biases) ∧
  (∀ n dt a b s l k, ChsReady s n dt 0x12 a b → l = 2 * n.val + bits a.toNat 18 18 → inGap s 1 l = none →
    k = (if bit a.toNat 17 then gReg s n (bits a.toNat 3 0) % 2 ^ 20 else b.toNat) → (s.get R.GOV_BIAS_MAG_MAG l : Int) < codeVal k →
    Runs (.bias n dt a b) s ([only R.CHS_STATUS_PC n, only R.BIA_TARGET_CODE l, only R.BIA_STATUS_GLIDING l, only R.BIA_STATUS_CLAMP l,
        only R.CHS_STATUS_SHOT_TAINT n] ++ taintPlaces ++ eventPlaces) ([.chisels, .biases, .shotT, .taintTick] ++ eventParts) fun t =>
      ChsIssued s t n (chsNext s n 1) ∧ t.get R.BIA_TARGET_CODE l = s.get R.GOV_BIAS_MAG_MAG l ∧ t.get R.BIA_STATUS_CLAMP l ≠ 0 ∧
      shotTaint t n = taintOr (shotTaint s n) (taintOf tGOV 5 l)) ∧
  (∀ n dt a b s, ChsReady s n dt 0x13 a b → ownsMarker s n (bits a.toNat 18 13) = true →
    Runs (.mark n dt a b) s [only R.CHS_STATUS_PC n] [.chisels, .mkOps] fun t =>
      ChsIssued s t n (chsNext s n 1) ∧
      t.mkOps = s.mkOps ++ [⟨bits a.toNat 18 13, s.tick + 36, bits a.toNat 12 11, b.toNat, true⟩]) ∧
  (∀ n dt a b s d, ChsReady s n dt 0x14 a b → d = 16 * bits a.toNat 18 13 + bits a.toNat 12 9 → inGap s 2 (bits a.toNat 18 13) = none →
    (∀ w ∈ wins s d, winEnd w < s.tick + 6) →
    Runs (.window n dt a b) s [only R.CHS_STATUS_PC n] [.chisels, .windows] fun t =>
      ChsIssued s t n (chsNext s n 1) ∧ SameBut [] d s.windows t.windows ∧
      wins t d = wins s d ++ [{ o := s.tick + 6, len := if b = 0 then 4096 else b.toNat, chisel := n, pc := (chs s n).next, taint := shotTaint s n,
                                issued := s.tick, shot := s.get R.CLK_SHOT_COUNT, t0 := schedAt s (s.tick + 6) }]) ∧
  ∀ n dt a b s d, ChsReady s n dt 0x14 a b → d = 16 * bits a.toNat 18 13 + bits a.toNat 12 9 → inGap s 2 (bits a.toNat 18 13) = none →
    (∃ w ∈ wins s d, s.tick + 6 ≤ winEnd w ∧ (w.issued < s.tick ∨ w.chisel ≤ n)) →
    Runs (.window n dt a b) s ([only R.CHS_STATUS_PC n, only R.CHS_STATUS_SHOT_TAINT n] ++ contractPlaces ++ taintPlaces ++ eventPlaces)
      ([.chisels, .shotT, .taintTick] ++ eventParts) fun t =>
      ChsIssued s t n (chsNext s n 1) ∧ Counted s t R.GLB_CONTRACT_CNT_COUNT ∧ bit (t.get R.GLB_CONTRACT_STICKY_CHS_CODES) 6 = true ∧
      shotTaint t n = taintOr (shotTaint s n) (taintOf tCONTRACT 1 n)

/-! ### Segment tables, streams, frames and lines (06_segment_tables_and_streaming.md, 07_frames_and_line_synthesis.md) -/

namespace Sys2Proof.Machine

/-- An occurrence of entry `e` starts on slot `z` under request `q`, with `r` more repetitions to come (R154). -/
abbrev OccurrenceStarts (s t : State) (z : Nat) (q : TabReq) (e r : Nat) : Prop :=
  t.get R.SEG_SLOT_MODE z = 2 ∧ t.get R.SEG_SLOT_ENTRY z = e % 1024 ∧ t.get R.SEG_SLOT_REMAIN z = r % 65536 ∧
    (slot t z).occE = s.tick + 4 * segLen s (z / 8) e ∧ (slot t z).req = q ∧ (slot t z).act = .none ∧
    (slot t z).segs = (slot s z).segs ++ [segOf s (z / 8) e s.tick q.bind true none q.pc] ∧ SameBut {} z s.slots t.slots

/-- The places of the sequencer and of the tone slot `z`. -/
def slotPlaces (z : Nat) : List Place :=
  [only R.SEG_SLOT_MODE z, only R.SEG_SLOT_LATCH z, only R.SEG_SLOT_STOP_PEND z, only R.SEG_SLOT_REPOINT_PEND z, only R.SEG_SLOT_ENTRY z,
    only R.SEG_SLOT_REMAIN z, only R.TON_SLOT_BUSY z, only R.TON_SLOT_MODE z, only R.TON_SLOT_PT z, only R.TON_SLOT_FRAME z, only R.TON_SLOT_AMP z]

/-- The number of stream ring `r`'s registers (R163): four rings for each Chisel. -/
def stmOff (base r : Nat) : Nat := base + r / 4 * 0x20000 + r % 4 * 0x40

/-- The granules of a list that do not stand in the buffer slot of the granule at RD (R165). -/
def otherSlots (s : State) (c : Nat) (l : List StmGran) : List StmGran :=
  l.filter fun x => x.idx % s.get R.STM_BUF_SIZE c != s.get R.STM_RD_INDEX c % s.get R.STM_BUF_SIZE c

end Sys2Proof.Machine

/-- R140, R153 to R157. -/
def Obligations.TableSequencers : Prop :=
  (∀ (n : Fin 128) (k : Fin 8) (s : State) (z : Nat) (q : TabReq), z = 8 * n.val + k.val → (slot s z).hand = some q → s.get R.SEG_SLOT_MODE z = 1 →
    s.now % 4 = 0 → q.at_ ≤ s.tick → (slot s z).busyTo ≤ s.tick → segBad s n q.entry = false →
    Runs (.tableHandover n k) s (slotPlaces z) [.slots, .mkOps] fun t =>
      OccurrenceStarts s t z q q.entry (segRepeat s n q.entry - 1) ∧ (slot t z).hand = none ∧ t.get R.SEG_SLOT_LATCH z = 0 ∧
      t.get R.TON_SLOT_AMP z = q.bind.amp % 2 ^ 16 ∧ t.get R.TON_SLOT_FRAME z = q.bind.frame % 2 ^ 11) ∧
  (∀ (n : Fin 128) (k : Fin 8) (s : State) (z : Nat) (q : TabReq), z = 8 * n.val + k.val → (slot s z).hand = some q → s.get R.SEG_SLOT_MODE z = 1 →
    s.now % 4 = 0 → q.at_ ≤ s.tick → (slot s z).busyTo ≤ s.tick → segBad s n q.entry = true →
    Runs (.tableHandover n k) s (slotPlaces z ++ contractPlaces ++ taintPlaces ++ eventPlaces ++ [only R.CHS_STATUS_SHOT_TAINT n])
      ([.slots, .shotT, .taintTick] ++ eventParts) fun t =>
      t.get R.SEG_SLOT_MODE z = 0 ∧ (slot t z).hand = none ∧ Counted s t R.GLB_CONTRACT_CNT_COUNT ∧
      bit (t.get R.GLB_CONTRACT_STICKY_CHS_CODES) 3 = true ∧ shotTaint t n = taintOr (shotTaint s n) (taintOf tCONTRACT 1 n)) ∧
  (∀ (n : Fin 128) (k : Fin 8) (s : State) (z e : Nat), z = 8 * n.val + k.val → s.get R.SEG_SLOT_MODE z = 2 → e = s.get R.SEG_SLOT_ENTRY z →
    s.tick = max ((slot s z).occE - 8) ((slot s z).occE - 4 * segLen s n e) → (slot s z).act = .none →
    Runs (.tableDecisionPoint n k) s ([only R.SEG_SLOT_STOP_PEND z, only R.SEG_SLOT_REPOINT_PEND z, only R.SEG_SLOT_LATCH z,
        only R.CHS_STATUS_SHOT_TAINT n] ++ taintPlaces ++ eventPlaces) ([.slots, .shotT, .taintTick] ++ eventParts) fun t =>
      SameBut {} z s.slots t.slots ∧
      (slot t z).act = (if s.get R.SEG_SLOT_STOP_PEND z ≠ 0 then .leave else match (slot s z).repoint with
        | some q => .repoint q
        | none => if s.get R.SEG_SLOT_LATCH z ≠ 0 then .jump (slot s z).latchTo
          else if segKind s n e = 2 ∧ windowPub s n (segSel s n e) = true ∧ windowVal s n (segSel s n e) = segValue s n e then .jump (segJump s n e)
          else if segRepeat s n e = 0 ∨ 0 < s.get R.SEG_SLOT_REMAIN z then .again else if segEnd s n e = true then .leave else .next) ∧
      t.get R.SEG_SLOT_STOP_PEND z = 0 ∧
      (s.get R.SEG_SLOT_STOP_PEND z = 0 → (slot s z).repoint ≠ none → (slot t z).repoint = none ∧ t.get R.SEG_SLOT_REPOINT_PEND z = 0) ∧
      (s.get R.SEG_SLOT_STOP_PEND z = 0 → (slot s z).repoint = none → t.get R.SEG_SLOT_LATCH z = 0) ∧
      shotTaint t n = (if segKind s n e = 2 ∧ windowPub s n (segSel s n e) = true then taintOr (shotTaint s n) (windowTaint s n (segSel s n e))
        else shotTaint s n)) ∧
  (∀ (n : Fin 128) (k : Fin 8) (s : State) (z : Nat), z = 8 * n.val + k.val → s.get R.SEG_SLOT_MODE z = 2 → (slot s z).occE = s.tick →
    (slot s z).act = .leave ∨ (slot s z).done = true →
    Runs (.occurrenceStart n k) s (slotPlaces z) [.slots] fun t =>
      t.get R.SEG_SLOT_MODE z = 0 ∧ t.get R.SEG_SLOT_LATCH z = 0 ∧ t.get R.SEG_SLOT_STOP_PEND z = 0 ∧ t.get R.SEG_SLOT_REPOINT_PEND z = 0 ∧
      t.get R.SEG_SLOT_ENTRY z = 0 ∧ t.get R.SEG_SLOT_REMAIN z = 0 ∧ (slot t z).act = .none ∧ SameBut {} z s.slots t.slots) ∧
  (∀ (n : Fin 128) (k : Fin 8) (s : State) (z : Nat) (q : TabReq), z = 8 * n.val + k.val → s.get R.SEG_SLOT_MODE z = 2 → (slot s z).occE = s.tick →
    (slot s z).done = false → (slot s z).act = .repoint q → segBad s n q.entry = false →
    Runs (.occurrenceStart n k) s (slotPlaces z) [.slots, .mkOps] fun t => OccurrenceStarts s t z q q.entry (segRepeat s n q.entry - 1)) ∧
  (∀ (n : Fin 128) (k : Fin 8) (s : State) (z e : Nat), z = 8 * n.val + k.val → s.get R.SEG_SLOT_MODE z = 2 → (slot s z).occE = s.tick →
    (slot s z).done = false → (slot s z).act = .jump e → segBad s n e = false →
    Runs (.occurrenceStart n k) s (slotPlaces z ++ [only R.SEG_JUMP_CNT_COUNT n]) [.slots, .mkOps] fun t =>
      OccurrenceStarts s t z (slot s z).req e (segRepeat s n e - 1) ∧ Counted s t R.SEG_JUMP_CNT_COUNT n) ∧
  (∀ (n : Fin 128) (k : Fin 8) (s : State) (z e : Nat), z = 8 * n.val + k.val → s.get R.SEG_SLOT_MODE z = 2 → (slot s z).occE = s.tick →
    (slot s z).done = false → (slot s z).act = .again → e = s.get R.SEG_SLOT_ENTRY z → segBad s n e = false →
    Runs (.occurrenceStart n k) s (slotPlaces z) [.slots, .mkOps] fun t =>
      OccurrenceStarts s t z (slot s z).req e (s.get R.SEG_SLOT_REMAIN z - 1) ∧ (segMkEvery s n e = false → t.mkOps = s.mkOps)) ∧
  ∀ (n : Fin 128) (k : Fin 8) (s : State) (z e : Nat), z = 8 * n.val + k.val → s.get R.SEG_SLOT_MODE z = 2 → (slot s z).occE = s.tick →
    (slot s z).done = false → (slot s z).act = .next → e = segNext s n (s.get R.SEG_SLOT_ENTRY z) → segBad s n e = false →
    Runs (.occurrenceStart n k) s (slotPlaces z) [.slots, .mkOps] fun t => OccurrenceStarts s t z (slot s z).req e (segRepeat s n e - 1)

/-- R162 to R170, R366. -/
def Obligations.Streams : Prop :=
  (∀ (m : Master) (r : Fin 512) (v : BitVec 32) (s : State), reaches s m (stmOff 0x1001014 r) true = true →
    (v.toNat + 2 ^ 32 - s.get R.STM_RD_INDEX r) % 2 ^ 32 ≤ 2 ^ ringLog2 s r →
    Runs (.stmWrWrite m r v) s [only R.STM_WR_INDEX r] [] fun t => t.get R.STM_WR_INDEX r = v.toNat) ∧
  (∀ (m : Master) (r : Fin 512) (v : BitVec 32) (s : State), Canon s → reaches s m (stmOff 0x1001014 r) true = true →
    2 ^ ringLog2 s r < (v.toNat + 2 ^ 32 - s.get R.STM_RD_INDEX r) % 2 ^ 32 →
    Runs (.stmWrWrite m r v) s [only R.STM_STATUS_OVERFILL r] [] fun t => t.get R.STM_STATUS_OVERFILL r = 1) ∧
  (∀ (c : Fin 512) (ecc : Fin 3) (s : State), stmLive s c = true → mainPowered s = true →
    idxBefore (s.get R.STM_RD_INDEX c) (s.get R.STM_CONS_INDEX c) = false → idxBefore (s.get R.STM_RD_INDEX c) (s.get R.STM_WR_INDEX c) = true →
    (s.get R.STM_RD_INDEX c + 2 ^ 32 - s.get R.STM_CONS_INDEX c) % 2 ^ 32 < s.get R.STM_BUF_SIZE c →
    ringAddr s c (s.get R.STM_RD_INDEX c) + 128 ≤ hbmSize → s.xtalFail = false →
    Runs (.streamFetch c ecc) s [only R.STM_RD_INDEX c, every R.SVA_ECC_COR_CNT_COUNT, every R.SVA_ECC_UNC_CNT_COUNT] [.stmFetch, .stmBuf] fun t =>
      t.get R.STM_RD_INDEX c = (s.get R.STM_RD_INDEX c + 1) % 2 ^ 32 ∧ SameBut [] c s.stmFetch t.stmFetch ∧
      SameBut [] c s.stmBuf t.stmBuf ∧ (ecc.val = 2 → t.stmFetch = s.stmFetch ∧ t.stmBuf = s.stmBuf) ∧
      (ecc.val ≠ 2 → sget [] t.stmBuf c = otherSlots s c (sget [] s.stmBuf c) ∧
        sget [] t.stmFetch c = otherSlots s c (sget [] s.stmFetch c) ++ [⟨s.get R.STM_RD_INDEX c,
          (List.range 16).map fun j => hbmRead s (ringAddr s c (s.get R.STM_RD_INDEX c) + 8 * j) 8 % 2 ^ 36, s.clock⟩])) ∧
  (∀ (c : Fin 512) (s : State) (g : StmGran) (rest : List StmGran), sget [] s.stmFetch c = g :: rest → g.vis + 2 ≤ s.clock →
    idxBefore g.idx (s.get R.STM_CONS_INDEX c) = true →
    Runs (.granuleVisible c) s [only R.STM_DISCARD_CNT_COUNT c] [.stmFetch] fun t =>
      Counted s t R.STM_DISCARD_CNT_COUNT c ∧ sget [] t.stmFetch c = rest ∧ SameBut [] c s.stmFetch t.stmFetch) ∧
  (∀ (c : Fin 512) (s : State) (g : StmGran) (rest : List StmGran), sget [] s.stmFetch c = g :: rest → g.vis + 2 ≤ s.clock →
    idxBefore g.idx (s.get R.STM_CONS_INDEX c) = false →
    Runs (.granuleVisible c) s [] [.stmFetch, .stmBuf] fun t =>
      sget [] t.stmFetch c = rest ∧ SameBut [] c s.stmFetch t.stmFetch ∧ sget [] t.stmBuf c = sget [] s.stmBuf c ++ [{ g with vis := s.clock }] ∧
      SameBut [] c s.stmBuf t.stmBuf) ∧
  (∀ (c : Fin 512) (s : State), (∀ g ∈ (sget [] s.stmFetch c).head?, s.clock < g.vis + 2) → exec (.granuleVisible c) s = .next s) ∧
  (∀ (n : Fin 128) (k : Fin 8) (s : State) (g : Seg) (c : Nat) (x : StmGran), granDue s (8 * n.val + k.val) true = some g →
    (∀ j < k.val, granDue s (8 * n.val + j) true = none) → (g.table = true → inGap s 0 (2 * n.val + k.val / 4) = none) →
    c = 4 * n.val + g.start % 4 → stmLive s c = true → (sget [] s.stmBuf c).find? (fun x => x.idx == s.get R.STM_CONS_INDEX c) = some x →
    Runs (.streamHarvest n k) s [only R.STM_CONS_INDEX c, only R.STM_MIN_SLACK_TICKS c] [.stmBuf, .slots] fun t =>
      t.get R.STM_CONS_INDEX c = (s.get R.STM_CONS_INDEX c + 1) % 2 ^ 32 ∧
      t.get R.STM_MIN_SLACK_TICKS c = min (s.get R.STM_MIN_SLACK_TICKS c) (s.clock - x.vis) % 2 ^ 16 ∧
      (slot t (8 * n.val + k.val)).grans = (slot s (8 * n.val + k.val)).grans ++ [⟨s.tick, x.words, g.bind.amp⟩] ∧
      SameBut {} (8 * n.val + k.val) s.slots t.slots ∧ SameBut [] c s.stmBuf t.stmBuf) ∧
  (∀ (n : Fin 128) (k : Fin 8) (s : State) (g : Seg) (c : Nat), granDue s (8 * n.val + k.val) true = some g →
    (∀ j < k.val, granDue s (8 * n.val + j) true = none) → (g.table = true → inGap s 0 (2 * n.val + k.val / 4) = none) →
    c = 4 * n.val + g.start % 4 → (stmLive s c = true → (sget [] s.stmBuf c).find? (fun x => x.idx == s.get R.STM_CONS_INDEX c) = none) →
    Runs (.streamHarvest n k) s ([only R.STM_CONS_INDEX c, only R.STM_STATUS_UNDERRUN c, only R.STM_UR_INDEX_INDEX c, only R.STM_UR_TICK_LO_TICK_LO c,
        only R.STM_UR_TICK_HI_TICK_HI c, only R.STM_UR_CNT_COUNT c, only R.GLB_HARVEST_LATE_CNT_COUNT 0, only R.CHS_STATUS_SHOT_TAINT n] ++ taintPlaces ++
        eventPlaces) ([.stmBuf, .slots, .shotT, .taintTick] ++ eventParts) fun t =>
      t.get R.STM_CONS_INDEX c = (s.get R.STM_CONS_INDEX c + 1) % 2 ^ 32 ∧ Counted s t R.STM_UR_CNT_COUNT c ∧ Counted s t R.GLB_HARVEST_LATE_CNT_COUNT ∧
      t.get R.STM_STATUS_UNDERRUN c ≠ 0 ∧ shotTaint t n = taintOr (shotTaint s n) (taintOf tUNDERRUN 1 n) ∧
      (s.get R.STM_STATUS_UNDERRUN c = 0 → t.get R.STM_UR_INDEX_INDEX c = s.get R.STM_CONS_INDEX c % 2 ^ 32 ∧
        t.get R.STM_UR_TICK_LO_TICK_LO c = s.now % 2 ^ 32) ∧
      (slot t (8 * n.val + k.val)).grans = (slot s (8 * n.val + k.val)).grans ++ [⟨s.tick, List.replicate 16 0, g.bind.amp⟩]) ∧
  (∀ (m : Master) (r : Fin 512) (v : BitVec 32) (s : State), reaches s m (stmOff 0x1001000 r) true = true → rtHeld s m = false →
    Runs (.streamRestart m r v) s [only R.STM_CTRL_ENABLE r, only R.STM_WR_INDEX r, only R.STM_RD_INDEX r, only R.STM_CONS_INDEX r,
        every R.STM_STATUS_CFG_ERR] [.stmFetch, .stmBuf] fun t =>
      t.get R.STM_CTRL_ENABLE r = bits v.toNat 0 0 ∧ t.get R.STM_WR_INDEX r = 0 ∧ t.get R.STM_RD_INDEX r = 0 ∧ t.get R.STM_CONS_INDEX r = 0 ∧
      sget [] t.stmFetch r = [] ∧ sget [] t.stmBuf r = [] ∧
      ∀ j, j / 4 ≠ r / 4 → sget [] t.stmFetch j = sget [] s.stmFetch j ∧ sget [] t.stmBuf j = sget [] s.stmBuf j) ∧
  ∀ (m : Master) (r : Fin 512) (v : BitVec 32) (s : State), Canon s → reaches s m (stmOff 0x1001004 r) true = true → rtHeld s m = false →
    Runs (.stmBufWrite m r v) s [only R.STM_BUF_SIZE r, only R.STM_BUF_BASE r, only R.STM_RD_INDEX r, every R.STM_STATUS_CFG_ERR]
      [.stmFetch, .stmBuf] fun t =>
      t.get R.STM_BUF_SIZE r = bits v.toNat 26 16 ∧ t.get R.STM_BUF_BASE r = bits v.toNat 9 0 ∧ t.get R.STM_RD_INDEX r = s.get R.STM_CONS_INDEX r ∧
      sget [] t.stmFetch r = [] ∧ sget [] t.stmBuf r = [] ∧
      ((bits v.toNat 26 16 ≠ 0 ∧ (bits v.toNat 26 16 < 16 ∨ 1024 < bits v.toNat 26 16) ∨ 1024 < bits v.toNat 9 0 + bits v.toNat 26 16) →
        t.get R.STM_STATUS_CFG_ERR r = 1)

/-- R129, R145, R172, R191, R193, R194, R333. -/
def Obligations.FramesLinesMarkers : Prop :=
  (∀ (m : Master) (c : Fin 128) (v : BitVec 32) (s : State) (f : Machine.Frm), reaches s m (0x2000100 + c.val * 0x8000) true = true →
    f = frmAt s (2048 * c.val + bits v.toNat 10 0) s.tick →
    Runs (.tonFrmIndexWrite m c v) s [only R.TON_FRM_INDEX_AUTOINC c, only R.TON_FRM_INDEX_INDEX c, only R.TON_FRM_FREQ_LO_F_LO c,
        only R.TON_FRM_FREQ_HI_F_HI c, only R.TON_FRM_PHASE_PHI c, only R.TON_FRM_T0_LO_T0_LO c, only R.TON_FRM_T0_HI_T0_HI c] [] fun t =>
      t.get R.TON_FRM_INDEX_INDEX c = bits v.toNat 10 0 ∧ t.get R.TON_FRM_INDEX_AUTOINC c = bits v.toNat 31 31 ∧
      t.get R.TON_FRM_FREQ_LO_F_LO c = f.f % 2 ^ 32 ∧ t.get R.TON_FRM_FREQ_HI_F_HI c = f.f / 2 ^ 32 % 2 ^ 16 ∧ t.get R.TON_FRM_PHASE_PHI c = f.phi % 2 ^ 32 ∧
      t.get R.TON_FRM_T0_LO_T0_LO c = f.t0 % 2 ^ 32 ∧ t.get R.TON_FRM_T0_HI_T0_HI c = f.t0 / 2 ^ 32 % 2 ^ 32) ∧
  (∀ (m : Master) (c : Fin 128) (s : State) (key : Nat) (f : Machine.Frm), reaches s m (0x2000104 + c.val * 0x8000) true = true → rtHeld s m = false →
    key = 2048 * c.val + s.get R.TON_FRM_INDEX_INDEX c →
    f = ⟨s.get R.TON_FRM_FREQ_LO_F_LO c + s.get R.TON_FRM_FREQ_HI_F_HI c * 2 ^ 32, s.get R.TON_FRM_PHASE_PHI c,
      s.get R.TON_FRM_T0_LO_T0_LO c + s.get R.TON_FRM_T0_HI_T0_HI c * 2 ^ 32⟩ →
    Runs (.tonFrmCommit m c) s [only R.TON_FRM_INDEX_INDEX c, only R.TON_FRM_FREQ_LO_F_LO c, only R.TON_FRM_FREQ_HI_F_HI c, only R.TON_FRM_PHASE_PHI c,
        only R.TON_FRM_T0_LO_T0_LO c, only R.TON_FRM_T0_HI_T0_HI c] [.frmInit, .frmLive, .frmOps] fun t =>
      sget {} t.frmInit key = f ∧ frmAt t key s.tick = f ∧ SameBut {} key s.frmInit t.frmInit ∧ SameBut {} key s.frmLive t.frmLive ∧
      t.get R.TON_FRM_INDEX_INDEX c = (s.get R.TON_FRM_INDEX_INDEX c + (if s.get R.TON_FRM_INDEX_AUTOINC c = 0 then 0 else 1)) % 2 ^ 11) ∧
  (∀ (m : Master) (n : Fin 256) (v : BitVec 32) (s : State), Canon s → reaches s m (0x2000000 + n.val * 0x4000) true = true → rtHeld s m = false →
    bits v.toNat 0 0 ≠ s.get R.LIN_CFG_PATH n →
    Runs (.pathWrite m n v) s [only R.LIN_CFG_MUTE n, only R.LIN_CFG_ISINC n, only R.LIN_CFG_MODE n, only R.LIN_CFG_PATH n, only R.LIN_STATUS_LIVE n,
        only R.LIN_STATUS_PATH_SETTLE n, only R.LIN_STATUS_CFG_FIX n, only R.LIN_STATUS_MUTE_CAUSE n] [.lines] fun t =>
      t.get R.LIN_CFG_PATH n = bits v.toNat 0 0 ∧ t.get R.LIN_CFG_MODE n = bits v.toNat 1 1 ∧ t.get R.LIN_CFG_ISINC n = bits v.toNat 3 3 ∧
      t.get R.LIN_CFG_MUTE n = bits v.toNat 4 4 ∧ t.get R.LIN_STATUS_CFG_FIX n = b2n (bit v.toNat 0 && bit v.toNat 1) ∧
      t.get R.LIN_STATUS_PATH_SETTLE n = 1 ∧ bit (t.get R.LIN_STATUS_MUTE_CAUSE n) 6 = true ∧ bit (t.get R.LIN_STATUS_MUTE_CAUSE n) 1 = bit v.toNat 4 ∧
      t.get R.LIN_STATUS_LIVE n = 0 ∧ (line t n).settleEnd = s.tick + 20000 ∧
      (s.get R.LIN_STATUS_LIVE n ≠ 0 → (line t n).live = false ∧ (line t n).muteFrom = s.tick) ∧ SameBut {} n s.lines t.lines) ∧
  (∀ (m : Master) (n : Fin 256) (v : BitVec 32) (s : State), Canon s → reaches s m (0x2000000 + n.val * 0x4000) true = true → rtHeld s m = false →
    bits v.toNat 0 0 = s.get R.LIN_CFG_PATH n → bit v.toNat 4 = false →
    Runs (.pathWrite m n v) s [only R.LIN_CFG_MUTE n, only R.LIN_CFG_ISINC n, only R.LIN_CFG_MODE n, only R.LIN_STATUS_CFG_FIX n,
        only R.LIN_STATUS_MUTE_CAUSE n] [] fun t =>
      t.get R.LIN_CFG_MUTE n = 0 ∧ bit (t.get R.LIN_STATUS_MUTE_CAUSE n) 1 = false ∧
      ∀ k < 7, k ≠ 1 → bit (t.get R.LIN_STATUS_MUTE_CAUSE n) k = bit (s.get R.LIN_STATUS_MUTE_CAUSE n) k) ∧
  (∀ (n : Fin 256) (s : State), s.get R.LIN_STATUS_PATH_SETTLE n ≠ 0 → (line s n).settleEnd ≤ s.tick →
    Runs (.pathSettleEnd n) s [only R.LIN_STATUS_PATH_SETTLE n, only R.LIN_STATUS_MUTE_CAUSE n] [.lines] fun t =>
      t.get R.LIN_STATUS_PATH_SETTLE n = 0 ∧ bit (t.get R.LIN_STATUS_MUTE_CAUSE n) 6 = false ∧ line t n = { line s n with settleEnd := 0 } ∧
      SameBut {} n s.lines t.lines) ∧
  (∀ (n : Fin 256) (s : State), s.get R.LIN_STATUS_MUTE_CAUSE n = 0 → s.get R.LIN_STATUS_LIVE n = 0 → pntHasLine s n = false →
    Runs (.lineUnmute n) s [only R.LIN_STATUS_LIVE n] [.lines] fun t =>
      t.get R.LIN_STATUS_LIVE n = 1 ∧ line t n = { line s n with live := true, passFrom := s.tick + 36 } ∧ SameBut {} n s.lines t.lines) ∧
  (∀ (n : Fin 256) (s : State), s.get R.LIN_STATUS_MUTE_CAUSE n ≠ 0 → exec (.lineUnmute n) s = .next s) ∧
  (∀ (k : Fin 64) (s : State), sget 0 s.mkEnd k = s.tick → s.tick ≠ 0 →
    Runs (.markerPulseEnd k) s [only R.MKO_CTRL_PIN k, only R.MKO_CTRL_LEVEL k] [.mkEnd] fun t =>
      t.get R.MKO_CTRL_LEVEL k = 0 ∧ t.get R.MKO_CTRL_PIN k = (if s.get R.MKO_CTRL_INVERT k = 0 then 0 else 1) ∧ sget 0 t.mkEnd k = 0 ∧
      SameBut 0 k s.mkEnd t.mkEnd) ∧
  (∀ (m : Master) (n : Fin 128) (v : BitVec 64) (s : State) (a : Nat), reaches s m (0x1000028 + n.val * 0x20000) true = true → rtHeld s m = false →
    a = s.get R.CHS_MEM_CTRL_ADDR n → s.get R.CHS_MEM_CTRL_SEL n = 0 → a < 65536 →
    Runs (.chsMemDataAccess m n true v) s [only R.CHS_MEM_CTRL_ADDR n, only R.CHS_MEM_DATA_DATA n] [.chsProg] fun t =>
      sget 0 t.chsProg (65536 * n.val + a) = v.toNat % 2 ^ 36 ∧ SameBut 0 (65536 * n.val + a) s.chsProg t.chsProg ∧
      (s.get R.CHS_MEM_CTRL_AUTOINC n ≠ 0 → t.get R.CHS_MEM_CTRL_ADDR n = (a + 1) % 2 ^ 18) ∧
      (s.get R.CHS_MEM_CTRL_AUTOINC n = 0 → t.get R.CHS_MEM_CTRL_ADDR n = a)) ∧
  (∀ (m : Master) (n : Fin 128) (v : BitVec 64) (s : State) (a : Nat), reaches s m (0x1000028 + n.val * 0x20000) true = true → rtHeld s m = false →
    a = s.get R.CHS_MEM_CTRL_ADDR n → s.get R.CHS_MEM_CTRL_SEL n = 1 →
    Runs (.chsMemDataAccess m n true v) s [only R.CHS_MEM_CTRL_ADDR n, only R.CHS_MEM_DATA_DATA n] [.chsEnv] fun t =>
      sget 0 t.chsEnv (262144 * n.val + a) = v.toNat % 2 ^ 36 ∧ SameBut 0 (262144 * n.val + a) s.chsEnv t.chsEnv) ∧
  ∀ (m : Master) (n : Fin 128) (v : BitVec 64) (s : State) (a : Nat), reaches s m (0x1000028 + n.val * 0x20000) false = true →
    a = s.get R.CHS_MEM_CTRL_ADDR n → s.get R.CHS_MEM_CTRL_SEL n ≤ 1 →
    Runs (.chsMemDataAccess m n false v) s [only R.CHS_MEM_CTRL_ADDR n] [.readData, .readPoison] fun t =>
      t.readData = (if s.get R.CHS_MEM_CTRL_SEL n = 1 then sget 0 s.chsEnv (262144 * n.val + a)
        else if a < 65536 then sget 0 s.chsProg (65536 * n.val + a) else 0) ∧
      (s.get R.CHS_MEM_CTRL_AUTOINC n ≠ 0 → t.get R.CHS_MEM_CTRL_ADDR n = (a + 1) % 2 ^ 18)

/-! ### Bias outputs and the load governor (08_bias_outputs_and_load_governor.md) -/

/-- R193, R198, R200, R201, R204 to R209. -/
def Obligations.BiasOutputs : Prop :=
  (∀ s : State, Canon s → ticking s = true → s.now % 400 = 0 → s.quiesceEnd ≠ s.tick + 1 →
    Runs .biasUpdate s [every R.BIA_TARGET_CODE, every R.BIA_CODE_SPAN, every R.BIA_CODE_CODE, every R.BIA_PARK_LATCH_SPAN, every R.BIA_PARK_LATCH_CODE,
        every R.BIA_STATUS_STATE, every R.BIA_STATUS_GLIDING] [.biases] fun t =>
      (∀ n < 256, s.get R.BIA_STATUS_STATE n ≠ 2 → t.get R.BIA_CODE_CODE n = s.get R.BIA_CODE_CODE n ∧ bias t n = bias s n ∧
          t.get R.BIA_STATUS_STATE n = s.get R.BIA_STATUS_STATE n) ∧
      (∀ n < 256, s.get R.BIA_STATUS_STATE n = 2 → (bias s n).move = 0 → (bias s n).prevTick ≠ s.tick + 1 →
          t.get R.BIA_TARGET_CODE n = s.get R.BIA_TARGET_CODE n ∧ t.get R.BIA_STATUS_STATE n = 2 ∧
          codeVal (t.get R.BIA_CODE_CODE n) = (if codeVal (s.get R.BIA_CODE_CODE n) ≤ codeVal (s.get R.BIA_TARGET_CODE n)
            then min (codeVal (s.get R.BIA_CODE_CODE n) + biasStep s n) (codeVal (s.get R.BIA_TARGET_CODE n))
            else max (codeVal (s.get R.BIA_CODE_CODE n) - biasStep s n) (codeVal (s.get R.BIA_TARGET_CODE n)))) ∧
      (∀ n < 256, s.get R.BIA_STATUS_STATE n = 2 → (bias s n).move = 0 → (bias s n).prevTick ≠ s.tick + 1 →
          t.get R.BIA_CODE_CODE n ≠ s.get R.BIA_CODE_CODE n →
            bias t n = { bias s n with
              later := (bias s n).later.filter (fun q => decide (q.1 < s.tick + 20)) ++ [(s.tick + 20, t.get R.BIA_CODE_CODE n)] })) ∧
  (∀ s : State, s.now % 400 ≠ 0 → exec .biasUpdate s = .next s) ∧
  (∀ (n : Fin 256) (s : State), s.get R.BIA_STATUS_STATE n = 3 → (bias s n).holdEnd ≤ s.tick →
    Runs (.spanHoldEnd n) s [only R.BIA_STATUS_STATE n, only R.BIA_STATUS_GLIDING n] [.biases] fun t =>
      t.get R.BIA_STATUS_STATE n = 2 ∧ bias t n = { bias s n with move := 3, holdEnd := 0 } ∧ SameBut {} n s.biases t.biases) ∧
  (∀ (n : Fin 256) (s : State), s.get R.BIA_STATUS_STATE n = 1 → (bias s n).holdEnd ≠ 0 →
    Runs (.spanHoldEnd n) s [only R.BIA_CODE_CODE n, only R.BIA_STATUS_GLIDING n] [.biases] fun t =>
      t.get R.BIA_CODE_CODE n = s.get R.BIA_PARK_LATCH_CODE n % 2 ^ 20 ∧ (bias t n).ladder = s.get R.BIA_PARK_LATCH_CODE n ∧ (bias t n).holdEnd = 0 ∧
      SameBut {} n s.biases t.biases) ∧
  (∀ s : State, Canon s → Runs .quiesceFall s [every R.LIN_STATUS_LIVE, every R.LIN_STATUS_MUTE_CAUSE, every R.BIA_CODE_SPAN, every R.BIA_CODE_CODE,
      every R.BIA_STATUS_STATE, every R.BIA_STATUS_CAUSE, every R.BIA_STATUS_GLIDING] [.lines, .biases, .quiesce, .quiesceEnd] fun t =>
      t.quiesce = true ∧ ∀ n < 256,
        bit (t.get R.LIN_STATUS_MUTE_CAUSE n) 3 = true ∧ t.get R.LIN_STATUS_LIVE n = 0 ∧
        (s.get R.LIN_STATUS_LIVE n ≠ 0 → (line t n).muteFrom = s.tick) ∧ bit (t.get R.BIA_STATUS_CAUSE n) 0 = true ∧
        ((s.get R.BIA_STATUS_STATE n = 2 ∨ s.get R.BIA_STATUS_STATE n = 3) →
          t.get R.BIA_STATUS_STATE n = 1 ∧ t.get R.BIA_CODE_SPAN n = s.get R.BIA_PARK_LATCH_SPAN n ∧ (bias t n).ladder = t.get R.BIA_CODE_CODE n ∧
          t.get R.BIA_CODE_CODE n = (if s.get R.BIA_CODE_SPAN n = s.get R.BIA_PARK_LATCH_SPAN n then s.get R.BIA_PARK_LATCH_CODE n else 0) ∧
          (s.get R.BIA_CODE_SPAN n ≠ s.get R.BIA_PARK_LATCH_SPAN n → (bias t n).holdEnd = s.tick + 800)) ∧
        (s.get R.BIA_STATUS_STATE n ≤ 1 → t.get R.BIA_STATUS_STATE n = s.get R.BIA_STATUS_STATE n ∧ bias t n = bias s n)) ∧
  (∀ s : State, s.quiesce = true →
    Runs .quiesceRise s [every R.LIN_STATUS_MUTE_CAUSE, every R.BIA_CODE_CODE, every R.BIA_STATUS_STATE, every R.BIA_STATUS_CAUSE, every R.BIA_STATUS_GLIDING]
      [.biases, .quiesce, .quiesceEnd] fun t =>
      t.quiesce = false ∧ t.quiesceEnd = s.tick + 1 ∧ ∀ n < 256,
        bit (t.get R.LIN_STATUS_MUTE_CAUSE n) 3 = false ∧ bit (t.get R.BIA_STATUS_CAUSE n) 0 = false ∧
        (s.get R.BIA_STATUS_CAUSE n = 1 → s.get R.BIA_STATUS_STATE n = 1 → t.get R.BIA_STATUS_STATE n = 2 ∧
          ((bias s n).holdEnd = 0 → t.get R.BIA_CODE_CODE n = s.get R.BIA_CODE_CODE n) ∧
          ((bias s n).holdEnd ≠ 0 → (bias t n).holdEnd = 0 ∧ t.get R.BIA_CODE_CODE n = s.get R.BIA_PARK_LATCH_CODE n % 2 ^ 20)) ∧
        (s.get R.BIA_STATUS_STATE n ≠ 1 → t.get R.BIA_STATUS_STATE n = s.get R.BIA_STATUS_STATE n ∧ bias t n = bias s n)) ∧
  ∀ s : State, s.quiesce = false → exec .quiesceRise s = .next s

/-- R214 to R217, R219. -/
def Obligations.LoadGovernor : Prop :=
  (∀ (n : Fin 256) (s : State), ticking s = true → s.now % 4000 = 0 → mainPowered s = true →
    Runs (.governorBoundary n) s [] [.lines] fun t =>
      SameBut {} n s.lines t.lines ∧ (line t n).energy = 0 ∧ (line t n).due = s.tick + 8 ∧
      (line t n).sub = ((line s n).energy :: (line s n).sub).take 100 ∧
      (s.now % 400000 ≠ 0 → (line t n).ms = (line s n).ms ∧ (line t n).dms = (line s n).dms) ∧
      (s.now % 400000 = 0 → (line t n).ms = ((line t n).sub.foldl (· + ·) 0 :: (line s n).ms).take 100) ∧
      (s.now % 40000000 = 0 → (line t n).dms = ((line t n).ms.foldl (· + ·) 0 :: (line s n).dms).take 100) ∧
      (∀ k < 3, bit (line t n).overs k = decide (govLim s n k < govSum (line t n) k)) ∧
      ((line t n).under = true ↔ ∀ k < 3, govSum (line t n) k ≤ govLim s n k - govLim s n k / 8)) ∧
  (∀ (n : Fin 256) (s : State), Canon s → (line s n).due = s.tick → s.tick ≠ 0 → s.get R.GOV_CTRL_ACTION n ≠ 0 → (line s n).overs ≠ 0 →
    s.get R.GOV_STATUS_TRIPPED n = 0 →
    Runs (.governorAction n) s ([only R.GOV_STATUS_TRIPPED n, only R.GOV_STATUS_TRIP_SEEN n, only R.GOV_STATUS_OVER n, only R.GOV_OVER_CNT_COUNT n,
        only R.LIN_STATUS_LIVE n, only R.LIN_STATUS_MUTE_CAUSE n, only R.BIA_CODE_SPAN n, only R.BIA_CODE_CODE n, only R.BIA_STATUS_STATE n,
        only R.BIA_STATUS_CAUSE n, only R.BIA_STATUS_GLIDING n, only R.CHS_STATUS_SHOT_TAINT (n / 2)] ++ taintPlaces ++ eventPlaces)
      ([.lines, .biases, .shotT, .taintTick] ++ eventParts) fun t =>
      t.get R.GOV_STATUS_TRIPPED n = 1 ∧ t.get R.GOV_STATUS_TRIP_SEEN n ≠ 0 ∧ Counted s t R.GOV_OVER_CNT_COUNT n ∧
      t.get R.GOV_STATUS_OVER n = (s.get R.GOV_STATUS_OVER n ||| (line s n).overs) % 8 ∧ bit (t.get R.LIN_STATUS_MUTE_CAUSE n) 2 = true ∧
      t.get R.LIN_STATUS_LIVE n = 0 ∧ bit (t.get R.BIA_STATUS_CAUSE n) 4 = true ∧ (line t n).due = 0 ∧
      ((s.get R.BIA_STATUS_STATE n = 2 ∨ s.get R.BIA_STATUS_STATE n = 3) → t.get R.BIA_STATUS_STATE n = 1 ∧
        (bias t n).later = (bias s n).later.filter (fun q => decide (q.1 < s.tick + 4)) ++ [(s.tick + 4, t.get R.BIA_CODE_CODE n)]) ∧
      shotTaint t (n / 2) = taintOr (shotTaint s (n / 2)) (taintOf tGOV 5 n) ∧
      (s.get R.GOV_STATUS_TRIP_SEEN n = 0 → EventFires s t (1216 + n))) ∧
  (∀ (n : Fin 256) (s : State), (line s n).due = s.tick → s.tick ≠ 0 → s.get R.GOV_CTRL_ACTION n ≠ 0 → (line s n).overs = 0 →
    Runs (.governorAction n) s [] [.lines] fun t => line t n = { line s n with due := 0, under := false } ∧ SameBut {} n s.lines t.lines) ∧
  (∀ (n : Fin 256) (s : State), Canon s → (line s n).due = s.tick → s.tick ≠ 0 → s.get R.GOV_CTRL_ACTION n = 0 → (line s n).fgTick ≠ s.tick + 1 →
    s.get R.GOV_TGT_TGT n ≤ 65536 →
    Runs (.governorAction n) s ([only R.GOV_STATUS_OVER n, only R.GOV_OVER_CNT_COUNT n, only R.GOV_TGT_TGT n, only R.GOV_STATUS_CLIP_SEEN n,
        only R.GOV_STATUS_FG n, only R.GOV_STATUS_CLIPPING n, only R.CHS_STATUS_SHOT_TAINT (n / 2)] ++ taintPlaces ++ eventPlaces)
      ([.lines, .shotT, .taintTick] ++ eventParts) fun t =>
      t.get R.GOV_TGT_TGT n = (if (line s n).overs ≠ 0 then s.get R.GOV_TGT_TGT n - 8192
        else if (line s n).under = true then min (s.get R.GOV_TGT_TGT n + 2048) 65536 else s.get R.GOV_TGT_TGT n) ∧
      t.get R.GOV_STATUS_FG n = (if t.get R.GOV_TGT_TGT n < s.get R.GOV_STATUS_FG n then max (s.get R.GOV_STATUS_FG n - 64) (t.get R.GOV_TGT_TGT n)
        else min (s.get R.GOV_STATUS_FG n + 64) (t.get R.GOV_TGT_TGT n)) ∧
      t.get R.GOV_STATUS_CLIPPING n = (if t.get R.GOV_STATUS_FG n < 65536 then 1 else 0) ∧
      (t.get R.GOV_STATUS_FG n < 65536 → shotTaint t (n / 2) = taintOr (shotTaint s (n / 2)) (taintOf tGOV 5 n)) ∧
      (s.get R.GOV_TGT_TGT n = 65536 → (line s n).overs ≠ 0 → t.get R.GOV_STATUS_CLIP_SEEN n ≠ 0)) ∧
  (∀ (n : Fin 256) (s : State), (line s n).due ≠ s.tick → exec (.governorAction n) s = .next s) ∧
  ∀ (m : Master) (n : Fin 256) (v : BitVec 32) (s : State), reaches s m (0x2000440 + n.val * 0x4000) true = true → s.get R.PWR_STATE_STATE = 2 →
    s.get R.GOV_STATUS_TRIPPED n ≠ 0 →
    Runs (.govRelease m n v) s [only R.GOV_CTRL_ACTION n, only R.GOV_CTRL_RELEASE n, only R.GOV_STATUS_TRIPPED n, only R.LIN_STATUS_MUTE_CAUSE n,
        only R.BIA_CODE_CODE n, only R.BIA_STATUS_STATE n, only R.BIA_STATUS_CAUSE n, only R.BIA_STATUS_GLIDING n] [.biases] fun t =>
      t.get R.GOV_STATUS_TRIPPED n = 0 ∧ t.get R.GOV_CTRL_RELEASE n = 0 ∧ t.get R.GOV_CTRL_ACTION n = bits v.toNat 0 0 ∧
      bit (t.get R.LIN_STATUS_MUTE_CAUSE n) 2 = false ∧ bit (t.get R.BIA_STATUS_CAUSE n) 4 = false ∧
      (s.get R.BIA_STATUS_CAUSE n = 16 → s.get R.BIA_STATUS_STATE n = 1 → t.get R.BIA_STATUS_STATE n = 2)

/-! ### Read-out inputs (09_readout_inputs.md) -/

/-- R144, R234 to R246, R284, R285. -/
def Obligations.WindowsAndPublications : Prop :=
  (∀ (n : Fin 64) (k : Fin 16) (s : State) (d : Nat), d = 16 * n.val + k.val → (∃ w ∈ wins s d, w.o = s.tick) →
    Runs (.windowOpen n k) s [only R.DMD_STATUS_OPEN d] [.windows] fun t =>
      t.get R.DMD_STATUS_OPEN d = 1 ∧ wins t d = (wins s d).map (fun w => if w.o = s.tick then { w with opened := true } else w) ∧
      SameBut [] d s.windows t.windows) ∧
  (∀ (n : Fin 64) (k : Fin 16) (codes : List (BitVec 12)) (s : State) (d : Nat) (w : Win) (x : Int → Int) (ds : List (Int × Int × Bool × Bool))
    (r : Int × Int × Bool) (st : Nat × Bool × Bool) (tt : Taint), d = 16 * n.val + k.val →
    (wins s d).find? (fun w => winEnd w + 8 == s.tick && w.result.isNone) = some w → (sget {} s.rq (16 + n / 8)).waiting.length < 2048 →
    x = codesFrom (16 * (w.o - 14 : Nat) - 3) codes → ds = (List.range w.len).map (fun j => decimated s d x (w.o - 14 + 2 * j)) →
    r = integrate s d (ds.map fun p => (p.1, p.2.1)) → st = discriminate s d r.1 r.2.1 →
    tt = taintOr (taintOr w.taint (spanTaint s n (16 * (w.o - 14) - 3) (16 * (w.o - 14 + 2 * w.len) + 2) 4 d)) (clockTaint s w.issued) →
    Runs (.windowResult n k codes) s ([only R.DMD_WIN_CNT_COUNT d, only R.DMD_LAST_VALUE (2 * d), only R.DMD_LAST_VALUE (2 * d + 1),
        only R.INP_STATUS_SAT_COR n, only R.DMD_STATUS_SAT_DEC d, only R.DMD_STATUS_SAT_INT d, only R.DMD_STATUS_SAT_PROJ d] ++ taintPlaces ++ eventPlaces)
      ([.windows, .rq, .taintTick] ++ eventParts) fun t =>
      Counted s t R.DMD_WIN_CNT_COUNT d ∧ t.get R.DMD_LAST_VALUE (2 * d) = wrapI r.1 36 ∧ t.get R.DMD_LAST_VALUE (2 * d + 1) = wrapI r.2.1 36 ∧
      (r.2.2 = true → t.get R.DMD_STATUS_SAT_INT d = 1) ∧ (st.2.2 = true → t.get R.DMD_STATUS_SAT_PROJ d = 1) ∧
      (∃ v ∈ wins t d, v.o = w.o ∧ v.result = some (st.1, tt)) ∧ SameBut [] d s.windows t.windows ∧
      RecEntered s t (16 + n / 8) (mkRec 1 d w.chisel
        (b2n (ovrSelf s n (16 * (w.o - 14) - 3) (16 * (w.o - 14 + 2 * w.len) + 2)) +
          2 * b2n (ovrNeigh s n (16 * (w.o - 14) - 3) (16 * (w.o - 14 + 2 * w.len) + 2)) + 4 * b2n (ds.any fun p => p.2.2.1) + 8 * b2n r.2.2 +
          16 * b2n st.2.2 + 32 * b2n st.2.1 + 64 * b2n (noInput s n (w.o - 14)))
        (taintMask tt) ((w.t0 + 2 ^ 64 - 14) % 2 ^ 64) w.shot (wrapI r.1 36) (wrapI r.2.1 36) (w.pc % 2 ^ 15 * 2 ^ 20 + w.len % 4096 * 16 + st.1))) ∧
  (∀ (n : Fin 64) (k : Fin 16) (s : State) (d : Nat) (w : Win) (st : Nat) (tt : Taint), d = 16 * n.val + k.val →
    (wins s d).find? (fun w => winEnd w + 14 == s.tick) = some w → w.result = some (st, tt) → s.get R.DMD_CFG_PUB d = 0 → alarmActive s = false →
    Runs (.demodPublish n k) s (taintPlaces ++ eventPlaces) ([.decVal, .decPub, .decTaint, .pubSeen, .taintTick] ++ eventParts) fun t =>
      sget false t.decPub d = true ∧ sget false t.decVal d = bit st 0 ∧ SameBut false d s.decPub t.decPub ∧ SameBut false d s.decVal t.decVal ∧
      sget [] t.decTaint (d / 64) = taintOr (sget [] s.decTaint (d / 64)) tt ∧ SameBut [] (d / 64) s.decTaint t.decTaint) ∧
  (∀ (n : Fin 64) (k : Fin 16) (s : State) (d : Nat) (w : Win) (st : Nat) (tt : Taint), d = 16 * n.val + k.val →
    (wins s d).find? (fun w => winEnd w + 14 == s.tick) = some w → w.result = some (st, tt) → s.get R.DMD_CFG_PUB d = 1 →
    Runs (.demodPublish n k) s (taintPlaces ++ eventPlaces) ([.decVal, .decPub, .decTaint, .pubSeen, .taintTick] ++ eventParts) fun t =>
      sget false t.decPub (d / 2 * 2) = true ∧ sget false t.decVal (d / 2 * 2) = bit st 0 ∧ sget false t.decPub (d / 2 * 2 + 1) = true ∧
      sget false t.decVal (d / 2 * 2 + 1) = bit st 1 ∧ ∀ j, j / 2 ≠ d / 2 → sget false t.decPub j = sget false s.decPub j) ∧
  ∀ (n : Fin 64) (k : Fin 16) (s : State) (w : Win) (st : Nat) (tt : Taint), (wins s (16 * n.val + k.val)).find? (fun w => winEnd w + 14 == s.tick) = some w →
    w.result = some (st, tt) → 2 ≤ s.get R.DMD_CFG_PUB (16 * n.val + k.val) → exec (.demodPublish n k) s = .next s

/-- R223, R226 to R233, R237. -/
def Obligations.InputsAndPatina : Prop :=
  (∀ (n : Fin 64) (s : State), s.get R.INP_STATUS_SETTLE n ≠ 0 → (patina s n).settleEnd ≤ s.tick →
    Runs (.inputSettleEnd n) s [only R.INP_STATUS_SETTLE n] [] fun t => t.get R.INP_STATUS_SETTLE n = 0) ∧
  (∀ (n : Fin 64) (s : State), s.tick < (patina s n).settleEnd → exec (.inputSettleEnd n) s = .next s) ∧
  (∀ (n : Fin 64) (mask : BitVec 16) (s : State) (c : Nat), mask ≠ 0 → s.get R.INP_CFG_OFF n = 0 → s.tick = c + 14 →
    Runs (.overrange n mask) s ([only R.INP_OVR_CNT_COUNT n, only R.INP_STATUS_OVR n, every R.INP_STATUS_OVR_NEIGH, only R.INP_OVR_FIRST_LO_TICK_LO n,
        only R.INP_OVR_FIRST_HI_TICK_HI n] ++ eventPlaces) ([.ovrs] ++ eventParts) fun t =>
      Counted s t R.INP_OVR_CNT_COUNT n ∧ t.get R.INP_STATUS_OVR n ≠ 0 ∧
      (∀ j < 16, mask.getLsbD j = true → (n.val, 16 * c + j) ∈ t.ovrs) ∧
      (∀ i < 64, i / 8 = n / 8 → i ≠ n → t.get R.INP_STATUS_OVR_NEIGH i = 1) ∧
      (∀ i < 64, (i / 8 ≠ n / 8 ∨ i = n) → t.get R.INP_STATUS_OVR_NEIGH i = s.get R.INP_STATUS_OVR_NEIGH i) ∧
      (s.get R.INP_STATUS_OVR n = 0 → t.get R.INP_OVR_FIRST_LO_TICK_LO n = (s.now + 2 ^ 64 - 14) % 2 ^ 32 ∧ EventFires s t (512 + 4 * n))) ∧
  (∀ (n : Fin 64) (mask : BitVec 16) (s : State), (mask = 0 ∨ s.get R.INP_CFG_OFF n ≠ 0) → exec (.overrange n mask) s = .next s) ∧
  (∀ (n : Fin 64) (hs : List (List (BitVec 12 × Nat))) (s : State) (count : Nat), mainPowered s = true → s.get R.INP_CFG_OFF n = 0 →
    s.get R.INP_CFG_PATINA_HOLD n = 0 → s.now % 65536 = 0 → count = (patina s n).count + 16 * (s.tick - (patina s n).lastAt) →
    s.get R.INP_STATUS_CONV n = 0 → count < 2 ^ 20 →
    Runs (.patinaUpdate n hs true) s ([only R.INP_STATUS_PATINA_SKIP n, only R.INP_STATUS_SKEW_DRIFT n, every R.INP_SLC_SKEW_ESTIMATE] ++ eventPlaces)
      ([.patinas] ++ eventParts) fun t =>
      t.get R.INP_STATUS_PATINA_SKIP n ≠ 0 ∧ patina t n = { patina s n with count := count, lastAt := s.tick } ∧ SameBut {} n s.patinas t.patinas) ∧
  (∀ (n : Fin 64) (hs : List (List (BitVec 12 × Nat))) (s : State) (count : Nat), mainPowered s = true → s.get R.INP_CFG_OFF n = 0 →
    s.get R.INP_CFG_PATINA_HOLD n = 0 → s.get R.INP_CFG_PATINA_LOG n = 0 → s.now % 65536 = 0 →
    count = (patina s n).count + 16 * (s.tick - (patina s n).lastAt) → s.get R.INP_STATUS_CONV n = 0 → 2 ^ 20 ≤ count →
    Runs (.patinaUpdate n hs false) s ([only R.INP_STATUS_PATINA_SKIP n, only R.INP_STATUS_PATINA_LIMIT n, only R.INP_STATUS_SKEW_DRIFT n,
        only R.INP_STATUS_CONV n, only R.INP_CONV_LO_TICK_LO n, only R.INP_CONV_HI_TICK_HI n, every R.INP_SLC_OFF_DELTA, every R.INP_SLC_GAIN_DELTA,
        every R.INP_SLC_SKEW_ESTIMATE] ++ eventPlaces) ([.patinas] ++ eventParts) fun t =>
      t.get R.INP_STATUS_CONV n = 1 ∧ t.get R.INP_CONV_LO_TICK_LO n = s.now % 2 ^ 32 ∧ t.get R.INP_CONV_HI_TICK_HI n = s.now / 2 ^ 32 % 2 ^ 32 ∧
      (patina t n).convAt = s.tick + 1 ∧ (patina t n).count = count ∧ (patina t n).off = (patinaDeltas s n hs).1 ∧
      (∀ q < 8, t.get R.INP_SLC_OFF_DELTA (8 * n + q) = wrapI ((patina t n).off.getD q 0) 9) ∧ (∀ x ∈ (patina t n).off, -255 ≤ x ∧ x ≤ 255) ∧
      SameBut {} n s.patinas t.patinas) ∧
  (∀ (n : Fin 64) (hs : List (List (BitVec 12 × Nat))) (b : Bool) (s : State), (s.get R.INP_CFG_PATINA_HOLD n ≠ 0 ∨ s.now % 65536 ≠ 0) →
    exec (.patinaUpdate n hs b) s = .next s) ∧
  (∀ (m : Master) (n : Fin 64) (v : BitVec 64) (s : State) (a : Nat), reaches s m (0x2800028 + n.val * 0x10000) true = true → rtHeld s m = false →
    a = (16 * n.val + s.get R.INP_KMEM_CTRL_TONE n) * 4096 + s.get R.INP_KMEM_CTRL_ADDR n →
    Runs (.kmemDataAccess m n true v) s [only R.INP_KMEM_CTRL_ADDR n, only R.INP_KMEM_DATA_WEIGHT n] [.kmem] fun t =>
      sget 0 t.kmem a = v.toNat % 2 ^ 36 ∧ SameBut 0 a s.kmem t.kmem ∧
      t.get R.INP_KMEM_CTRL_ADDR n = (if s.get R.INP_KMEM_CTRL_AUTOINC n ≠ 0 then (s.get R.INP_KMEM_CTRL_ADDR n + 1) % 2 ^ 12
        else s.get R.INP_KMEM_CTRL_ADDR n)) ∧
  ∀ (m : Master) (n : Fin 64) (v : BitVec 64) (s : State) (a : Nat), reaches s m (0x2800028 + n.val * 0x10000) false = true →
    a = (16 * n.val + s.get R.INP_KMEM_CTRL_TONE n) * 4096 + s.get R.INP_KMEM_CTRL_ADDR n →
    Runs (.kmemDataAccess m n false v) s [only R.INP_KMEM_CTRL_ADDR n] [.readData, .readPoison] fun t =>
      t.readData = sget 0 s.kmem a ∧ (s.get R.INP_KMEM_CTRL_AUTOINC n ≠ 0 → t.get R.INP_KMEM_CTRL_ADDR n = (s.get R.INP_KMEM_CTRL_ADDR n + 1) % 2 ^ 12)

/-! ### Caliper engines (10_caliper_engines.md) -/

namespace Sys2Proof.Machine

/-- Caliper `n` issues an instruction on this tick (R252, R256), its MODE is a stated one (Table CLP-1), and its cycle is not one on which
a deposit word was dropped (R269). -/
abbrev ClpReady (s : State) (n : Nat) : Prop := clpMayIssue s n = true ∧ s.get R.CLP_CTRL_MODE n ≤ 2 ∧ (clp s n).drop ≠ clpCyc s n + 1

/-- The issue stands neither in a delay slot nor at the END of an active loop, where check 0x10 refuses the control class (R258, R260). -/
abbrev ClpFree (s : State) (n : Nat) : Prop := (clp s n).delay = 0 ∧ (activeLoops (clp s n)).all (fun l => l.end_ != (clp s n).next) = true

/-- What an instruction of this issue sees: the deposits and the earlier writes due on its cycle are made, and the program counter has moved on.
A NOP does this and no more. -/
def clpSeen (s : State) (n : Nat) : State := clpAdvance (cSettle (depTo s n (clpCyc s n)) n (clpCyc s n)) n

/-- The places that every issue of Caliper `n` may write. -/
def clpPlaces (n : Nat) : List Place :=
  [only R.CLP_STATUS_PC n, only R.CLP_STATUS_HANDLER n, only R.CLP_STATUS_SHOT_TAINT n, every R.CLP_DEP_W_W, every R.CLP_X_VALUE, every R.CLP_P_VALUE,
    every R.CLP_M_VALUE] ++ taintPlaces ++ eventPlaces

/-- The parts that every issue may write. -/
def clpParts : List Part := [.calipers, .clpMem, .shotT, .taintTick] ++ eventParts

/-- Command `c` at `s` answers a next state, of which `P` holds and which differs from `u` in the places `rs` and the parts `ps` only. -/
def ClpActs (c : Instr) (s u : State) (rs : List Place) (ps : List Part) (P : State → Prop) : Prop :=
  ∃ t, exec c s = .next t ∧ P t ∧ Frame rs ps u t

/-- Writes that later cycles see are on their way (R256, R257). -/
abbrev ClpWrites (u t : State) (n : Nat) (ws : List CWrite) : Prop :=
  clp t n = { clp u n with pend := (clp u n).pend ++ ws } ∧ SameBut {} n u.calipers t.calipers

/-- No other write to X[k] is seen first on cycle `c`. -/
abbrev NoClash (u : State) (n k c : Nat) : Prop := (clp u n).pend.all (fun w => !(w.at_ == c && w.to_ == .x k)) = true

/-- The conditions of BR on a register value (Table CLP-5). -/
def clpTaken (cond x : Nat) : Bool :=
  match cond with
  | 0 => true
  | 1 => decide (sgn 36 x = 0)
  | 2 => decide (sgn 36 x ≠ 0)
  | 3 => decide (sgn 36 x < 0)
  | _ => decide (0 ≤ sgn 36 x)

/-- A failed check of a scheduled Caliper is logged under `code` (R64, R280). -/
abbrev ClpRefused (u t : State) (n code : Nat) : Prop :=
  bit (t.get R.GLB_CONTRACT_STICKY_CLP_CODES) (code - 16) = true ∧ Counted u t R.GLB_CONTRACT_CNT_COUNT ∧
    shotTaint t (128 + n) = taintOr (shotTaint u (128 + n)) (taintOf tCONTRACT 2 n)

/-- Accumulator `k` has become `v` modulo 2^80, for STA from cycle `at_` on (R263). -/
abbrev AccBecomes (t : State) (n k at_ : Nat) (v : Int) : Prop :=
  (accReg t n k - v) % 2 ^ 80 = 0 ∧ (clp t n).pend.getLast? = some ⟨at_, .acc (k % 4), wrapI v 80, false⟩

end Sys2Proof.Machine

/-- R252, R256 to R260, R267. -/
def Obligations.CaliperIssue : Prop :=
  (∀ (n : Fin 64) (w : BitVec 30) (s : State), ClpReady s n → Runs (.clpNop n w) s (clpPlaces n) clpParts fun t => t = clpSeen s n) ∧
  (∀ (n : Fin 64) (w : BitVec 30) (s : State), clpMayIssue s n = false →
    exec (.halt n w) s = .next s ∧ exec (.clpNop n w) s = .next s ∧ exec (.br n w) s = .next s ∧ exec (.cmac n w) s = .next s ∧
    exec (.sta n w) s = .next s ∧ exec (.ldst n w) s = .next s ∧ exec (.clpAlu n w) s = .next s ∧ exec (.pub n w) s = .next s ∧
    exec (.rec_ n w) s = .next s ∧ exec (.clpEmit n w) s = .next s) ∧
  (∀ (n : Fin 64) (w : BitVec 30) (s : State), ClpReady s n → (clp s n).next < 16384 → (clp s n).delay = 0 → (clp s n).rep ≤ 1 → (clp s n).loops = [] →
    (clp s n).pend = [] → (clp s n).depQ = [] →
    Runs (.clpNop n w) s [only R.CLP_STATUS_PC n] [.calipers] fun t =>
      t.get R.CLP_STATUS_PC n = (clp s n).next ∧ SameBut {} n s.calipers t.calipers ∧
      clp t n = { clp s n with next := (clp s n).next + 1, cyc := clpCyc s n + 1, rep := 0, repPc := false, dTo := none, dRet := false }) ∧
  (∀ (n : Fin 64) (w : BitVec 30) (s : State), ClpReady s n → (clp s n).next < 16384 → 1 < (clp s n).rep → (clp s n).pend = [] → (clp s n).depQ = [] →
    Runs (.clpNop n w) s [only R.CLP_STATUS_PC n] [.calipers] fun t =>
      clp t n = { clp s n with cyc := clpCyc s n + 1, rep := (clp s n).rep - 1, repPc := false }) ∧
  (∀ (n : Fin 64) (w : BitVec 30) (s : State) (to_ : Nat), ClpReady s n → (clp s n).next < 16384 → (clp s n).delay = 1 → (clp s n).dTo = some to_ →
    (clp s n).rep ≤ 1 → (clp s n).loops = [] → (clp s n).pend = [] → (clp s n).depQ = [] →
    Runs (.clpNop n w) s [only R.CLP_STATUS_PC n, only R.CLP_STATUS_HANDLER n] [.calipers] fun t =>
      (clp t n).next = to_ ∧ (clp t n).delay = 0 ∧
      ((clp s n).dRet = true → t.get R.CLP_STATUS_HANDLER n = 0 ∧ (clp t n).susp = 0) ∧
      ((clp s n).dRet = false → t.get R.CLP_STATUS_HANDLER n = s.get R.CLP_STATUS_HANDLER n)) ∧
  (∀ (n : Fin 64) (w : BitVec 30) (s : State) (l : CLoop), ClpReady s n → (clp s n).next < 16384 → (clp s n).delay = 0 → (clp s n).rep ≤ 1 →
    (clp s n).loops = [l] → (clp s n).susp = 0 → l.end_ = (clp s n).next → (clp s n).pend = [] → (clp s n).depQ = [] →
    Runs (.clpNop n w) s [only R.CLP_STATUS_PC n] [.calipers] fun t =>
      (1 < l.count → (clp t n).next = l.start ∧ (clp t n).loops = [{ l with count := l.count - 1 }]) ∧
      (l.count ≤ 1 → (clp t n).next = (clp s n).next + 1 ∧ (clp t n).loops = [])) ∧
  (∀ (n : Fin 64) (w : BitVec 30) (s : State) (k : Fin 16) (at_ v : Nat), ClpReady s n → (clp s n).pend = [⟨at_, .x k, v, false⟩] → (clp s n).depQ = [] →
    Runs (.clpNop n w) s (clpPlaces n) ([.calipers] ++ eventParts) fun t =>
      (at_ ≤ clpCyc s n → t.get R.CLP_X_VALUE (16 * n + k) = v % 2 ^ 36 ∧ (clp t n).pend = []) ∧
      (clpCyc s n < at_ → t.get R.CLP_X_VALUE (16 * n + k) = s.get R.CLP_X_VALUE (16 * n + k) ∧ (clp t n).pend = (clp s n).pend)) ∧
  ∀ (n : Fin 64) (w : BitVec 30) (s : State) (a : Fin 65536) (at_ v : Nat), ClpReady s n → (clp s n).pend = [⟨at_, .mem a, v, false⟩] →
    (clp s n).depQ = [] → at_ ≤ clpCyc s n →
    Runs (.clpNop n w) s (clpPlaces n) ([.calipers, .clpMem] ++ eventParts) fun t =>
      dmem t n a = v % 2 ^ 36 ∧ SameBut 0 (65536 * n + a) s.clpMem t.clpMem

/-- R258 to R261, R267, R271 to R274, R280, Tables CLP-4 and CLP-5. -/
def Obligations.CaliperControl : Prop :=
  (∀ (n : Fin 64) (w : BitVec 30) (s : State), ClpReady s n → ClpFree s n →
    ClpActs (.halt n w) s (clpSeen s n) [only R.CLP_STATUS_STATE n] [] fun t =>
      t.get R.CLP_STATUS_STATE n = if s.get R.CLP_CTRL_MODE n = 1 then 4 else 5) ∧
  (∀ (n : Fin 64) (w : BitVec 30) (s u : State) (to_ : Option Nat), ClpReady s n → ClpFree s n → u = clpSeen s n → bits w.toNat 29 26 ≤ 4 →
    xReg u n (bits w.toNat 25 22) < 2 ^ 36 →
    to_ = (if clpTaken (bits w.toNat 29 26) (xReg u n (bits w.toNat 25 22)) = true then some (bits w.toNat 13 0) else none) →
    ClpActs (.br n w) s u [] [.calipers, .fresh] fun t => SameBut {} n u.calipers t.calipers ∧
      clp t n = { clp u n with delay := 2, dRet := false, dTo := to_ }) ∧
  (∀ (n : Fin 64) (w : BitVec 30) (s u : State), ClpReady s n → ClpFree s n → u = clpSeen s n → s.get R.CLP_STATUS_HANDLER n ≠ 0 →
    ClpActs (.rete n w) s u [] [.calipers] fun t => SameBut {} n u.calipers t.calipers ∧
      clp t n = { clp u n with delay := 2, dTo := some (s.get R.CLP_ELR_ELR n), dRet := true }) ∧
  (∀ (n : Fin 64) (w : BitVec 30) (s u : State), ClpReady s n → ClpFree s n → u = clpSeen s n → s.get R.CLP_STATUS_HANDLER n = 0 →
    s.get R.CLP_CTRL_MODE n = 1 →
    ClpActs (.rete n w) s u (contractPlaces ++ taintPlaces ++ eventPlaces ++ [only R.CLP_STATUS_SHOT_TAINT n]) ([.shotT, .taintTick] ++ eventParts) fun t =>
      clp t n = clp u n ∧ ClpRefused u t n 0x16) ∧
  (∀ (n : Fin 64) (w : BitVec 30) (s u : State), ClpReady s n → (clp s n).delay ≠ 0 → u = clpSeen s n → s.get R.CLP_CTRL_MODE n = 1 →
    ∀ c ∈ [Instr.halt n w, .br n w, .rete n w, .clpLoop n w, .waitc n w],
    ClpActs c s u (contractPlaces ++ taintPlaces ++ eventPlaces ++ [only R.CLP_STATUS_SHOT_TAINT n]) ([.shotT, .taintTick] ++ eventParts) fun t =>
      clp t n = clp u n ∧ t.get R.CLP_STATUS_STATE n = 2 ∧ ClpRefused u t n 0x10) ∧
  (∀ (n : Fin 64) (w : BitVec 30) (s u : State), ClpReady s n → (clp s n).delay ≠ 0 → u = clpSeen s n → s.get R.CLP_CTRL_MODE n = 1 →
    ClpActs (.repeat n w) s u (contractPlaces ++ taintPlaces ++ eventPlaces ++ [only R.CLP_STATUS_SHOT_TAINT n])
      ([.calipers, .shotT, .taintTick] ++ eventParts) fun t => clp t n = { clp u n with repPc := true } ∧ SameBut {} n u.calipers t.calipers ∧
      ClpRefused u t n 0x10) ∧
  (∀ (n : Fin 64) (w : BitVec 30) (s u : State) (k : Nat), ClpReady s n → ClpFree s n → u = clpSeen s n →
    notRepeatable (clpWord s n (min ((clp s n).next + 1) 16384) / 2 ^ 30) = false →
    k = (if bit w.toNat 29 then xReg u n (bits w.toNat 28 25) % 2 ^ 12 else bits w.toNat 11 0) →
    ClpActs (.repeat n w) s u [] [.calipers] fun t => SameBut {} n u.calipers t.calipers ∧
      clp t n = { clp u n with rep := if k = 0 then 4096 else k, repPc := true }) ∧
  (∀ (n : Fin 64) (w : BitVec 30) (s u : State), ClpReady s n → ClpFree s n → u = clpSeen s n → s.get R.CLP_CTRL_MODE n = 1 →
    notRepeatable (clpWord s n (min ((clp s n).next + 1) 16384) / 2 ^ 30) = true →
    ClpActs (.repeat n w) s u (contractPlaces ++ taintPlaces ++ eventPlaces ++ [only R.CLP_STATUS_SHOT_TAINT n])
      ([.calipers, .shotT, .taintTick] ++ eventParts) fun t => clp t n = { clp u n with repPc := true } ∧ SameBut {} n u.calipers t.calipers ∧
      ClpRefused u t n 0x12) ∧
  (∀ (n : Fin 64) (w : BitVec 30) (s u : State) (k : Nat), ClpReady s n → ClpFree s n → u = clpSeen s n → (clp s n).loops.length < 4 →
    k = (if bit w.toNat 29 then xReg u n (bits w.toNat 17 14) % 2 ^ 15 else bits w.toNat 28 14) →
    ClpActs (.clpLoop n w) s u [] [.calipers] fun t => SameBut {} n u.calipers t.calipers ∧
      clp t n = { clp u n with loops := ⟨(clp s n).next + 1, bits w.toNat 13 0, if k = 0 then 32768 else k⟩ :: (clp u n).loops }) ∧
  (∀ (n : Fin 64) (w : BitVec 30) (s u : State), ClpReady s n → ClpFree s n → u = clpSeen s n → 4 ≤ (clp s n).loops.length → s.get R.CLP_CTRL_MODE n = 1 →
    ClpActs (.clpLoop n w) s u (contractPlaces ++ taintPlaces ++ eventPlaces ++ [only R.CLP_STATUS_SHOT_TAINT n]) ([.shotT, .taintTick] ++ eventParts) fun t =>
      clp t n = clp u n ∧ ClpRefused u t n 0x11) ∧
  (∀ (n : Fin 64) (w : BitVec 30) (s u : State) (k to_ : Nat), ClpReady s n → ClpFree s n → u = clpSeen s n → (clp s n).waitRem = none →
    k = (if bit w.toNat 29 then xReg u n (bits w.toNat 28 25) % 2 ^ 32 else bits w.toNat 24 0) →
    to_ = (if s.get R.CLP_CTRL_MODE n = 1 then max (clpCyc s n + 1) (2 * s.shotStart + k) else clpCyc s n + max k 1) →
    ClpActs (.waitc n w) s u [only R.CLP_STATUS_STATE n] [.calipers] fun t => SameBut {} n u.calipers t.calipers ∧
      clp t n = { clp u n with cyc := to_, waitRem := none, waitPc := (clp s n).next, waitAt := clpCyc s n + 1 } ∧
      t.get R.CLP_STATUS_STATE n = if clpCyc s n + 1 < to_ then 3 else 2) ∧
  (∀ (n : Fin 64) (s : State), s.get R.CLP_STATUS_STATE n = 3 → clpCyc s n / 2 = s.tick →
    Runs (.waitcEnd n) s [only R.CLP_STATUS_STATE n] [] fun t => t.get R.CLP_STATUS_STATE n = 2) ∧
  ∀ (n : Fin 64) (w : BitVec 30) (s u : State), ClpReady s n → u = clpSeen s n → bits w.toNat 29 28 ≤ 2 →
    ClpActs (.evm n w) s u [only R.CLP_EVT_EMASK n] [.fresh] fun t =>
      ∀ k < 16, bit (t.get R.CLP_EVT_EMASK n) k = (!(s.get R.CLP_CTRL_MODE n == 1 && k == 4) && match bits w.toNat 29 28 with
        | 0 => bit w.toNat k
        | 1 => bit (s.get R.CLP_EVT_EMASK n) k || bit w.toNat k
        | _ => bit (s.get R.CLP_EVT_EMASK n) k && !bit w.toNat k)

/-- R262 to R265, Table CLP-6. -/
def Obligations.CaliperArithmetic : Prop :=
  (∀ (n : Fin 64) (w : BitVec 30) (s u : State) (x y : Int × Int) (re im : Int), ClpReady s n → u = clpSeen s n → clpHasMbx u n = false →
    bit w.toNat 18 = false → bit w.toNat 11 = false → x = cplx (dmem u n (pReg u n (bits w.toNat 24 22))) →
    y = cplx (dmem u n (pReg u n (bits w.toNat 17 15))) →
    re = (if bit w.toNat 25 then x.1 * y.1 + x.2 * y.2 else x.1 * y.1 - x.2 * y.2) →
    im = (if bit w.toNat 25 then x.2 * y.1 - x.1 * y.2 else x.1 * y.2 + x.2 * y.1) →
    ClpActs (.cmac n w) s u [only R.CLP_STATUS_AOVF n] [.calipers] fun t =>
      (accReg t n (bits w.toNat 29 28) - ((if bit w.toNat 27 then 0 else accReg u n (bits w.toNat 29 28)) + (if bit w.toNat 26 then -re else re))) %
        2 ^ 80 = 0 ∧
      (accReg t n (bits w.toNat 29 28 + 1) - ((if bit w.toNat 27 then 0 else accReg u n (bits w.toNat 29 28 + 1)) +
        (if bit w.toNat 26 then -im else im))) % 2 ^ 80 = 0 ∧
      accReg t n (bits w.toNat 29 28 + 2) = accReg u n (bits w.toNat 29 28 + 2) ∧
      accReg t n (bits w.toNat 29 28 + 3) = accReg u n (bits w.toNat 29 28 + 3) ∧ SameBut {} n u.calipers t.calipers) ∧
  (∀ (n : Fin 64) (w : BitVec 30) (s u : State) (x y : Int × Int) (re im : Int), ClpReady s n → u = clpSeen s n → clpHasMbx u n = false →
    bit w.toNat 18 = false → x = cplx (dmem u n (pReg u n (bits w.toNat 24 22))) → y = cplx (xReg u n (bits w.toNat 17 14)) →
    re = (if bit w.toNat 25 then x.1 * y.1 + x.2 * y.2 else x.1 * y.1 - x.2 * y.2) →
    im = (if bit w.toNat 25 then x.2 * y.1 - x.1 * y.2 else x.1 * y.2 + x.2 * y.1) →
    ClpActs (.cmacx n w) s u [only R.CLP_STATUS_AOVF n] [.calipers] fun t =>
      (accReg t n (bits w.toNat 29 28) - ((if bit w.toNat 27 then 0 else accReg u n (bits w.toNat 29 28)) + (if bit w.toNat 26 then -re else re))) %
        2 ^ 80 = 0 ∧
      (accReg t n (bits w.toNat 29 28 + 1) - ((if bit w.toNat 27 then 0 else accReg u n (bits w.toNat 29 28 + 1)) +
        (if bit w.toNat 26 then -im else im))) % 2 ^ 80 = 0) ∧
  (∀ (n : Fin 64) (w : BitVec 30) (s u : State) (p v : Int), ClpReady s n → u = clpSeen s n → clpHasMbx u n = false → bit w.toNat 18 = false →
    bit w.toNat 11 = false → p = sgn 36 (dmem u n (pReg u n (bits w.toNat 24 22))) * sgn 36 (dmem u n (pReg u n (bits w.toNat 17 15))) →
    v = (if bit w.toNat 27 then 0 else accReg u n (bits w.toNat 29 28)) + (if bit w.toNat 26 then -p else p) →
    ClpActs (.rmac n w) s u [only R.CLP_STATUS_AOVF n] [.calipers] fun t =>
      AccBecomes t n (bits w.toNat 29 28) (clpCyc s n + 3) v ∧
      t.get R.CLP_STATUS_AOVF n = (if v < -2 ^ 79 ∨ 2 ^ 79 ≤ v then 1 else u.get R.CLP_STATUS_AOVF n)) ∧
  (∀ (n : Fin 64) (w : BitVec 30) (s u : State) (p v : Int), ClpReady s n → u = clpSeen s n → clpHasMbx u n = false → bit w.toNat 18 = false →
    p = sgn 36 (dmem u n (pReg u n (bits w.toNat 24 22))) * sgn 36 (xReg u n (bits w.toNat 17 14)) →
    v = (if bit w.toNat 27 then 0 else accReg u n (bits w.toNat 29 28)) + (if bit w.toNat 26 then -p else p) →
    ClpActs (.rmacx n w) s u [only R.CLP_STATUS_AOVF n] [.calipers] fun t =>
      AccBecomes t n (bits w.toNat 29 28) (clpCyc s n + 3) v ∧
      t.get R.CLP_STATUS_AOVF n = (if v < -2 ^ 79 ∨ 2 ^ 79 ≤ v then 1 else u.get R.CLP_STATUS_AOVF n)) ∧
  (∀ (n : Fin 64) (w : BitVec 30) (s u : State) (x : Nat), ClpReady s n → u = clpSeen s n → clpHasMbx u n = false → bit w.toNat 27 = false →
    x = dmem u n (pReg u n (bits w.toNat 20 18)) →
    ClpActs (.lda n w) s u [only R.CLP_STATUS_AOVF n, only R.CLP_P_VALUE (8 * n + bits w.toNat 20 18)] [.calipers] fun t =>
      AccBecomes t n (bits w.toNat 29 28) (clpCyc s n + 3) (sgn 36 x * 2 ^ bits w.toNat 26 21) ∧
      (bit w.toNat 14 = false → t.get R.CLP_P_VALUE (8 * n + bits w.toNat 20 18) = u.get R.CLP_P_VALUE (8 * n + bits w.toNat 20 18)) ∧
      (bit w.toNat 14 = true → bits (mReg u n (bits w.toNat 17 15)) 33 32 = 0 → t.get R.CLP_P_VALUE (8 * n + bits w.toNat 20 18) =
        (pReg u n (bits w.toNat 20 18) + mReg u n (bits w.toNat 17 15)) % 2 ^ 16)) ∧
  (∀ (n : Fin 64) (w : BitVec 30) (s u : State) (x : Int × Int), ClpReady s n → u = clpSeen s n → clpHasMbx u n = false → bit w.toNat 27 = true →
    bit w.toNat 14 = false → x = cplx (dmem u n (pReg u n (bits w.toNat 20 18))) →
    ClpActs (.lda n w) s u [only R.CLP_STATUS_AOVF n] [.calipers] fun t =>
      (accReg t n (bits w.toNat 29 28) - x.1 * 2 ^ bits w.toNat 26 21) % 2 ^ 80 = 0 ∧
      (accReg t n (bits w.toNat 29 28 + 1) - x.2 * 2 ^ bits w.toNat 26 21) % 2 ^ 80 = 0) ∧
  (∀ (n : Fin 64) (w : BitVec 30) (s u : State) (r : Int × Bool), ClpReady s n → u = clpSeen s n → bit w.toNat 27 = false → bit w.toNat 20 = true →
    r = narrow (accSta u n (bits w.toNat 29 28)) (bits w.toNat 26 21) 36 → NoClash u n (bits w.toNat 19 16) (clpCyc s n + 3) →
    ClpActs (.sta n w) s u [only R.CLP_STATUS_SAT n] [.calipers] fun t =>
      ClpWrites u t n [⟨clpCyc s n + 3, .x (bits w.toNat 19 16), wrapI r.1 36, false⟩] ∧
      t.get R.CLP_STATUS_SAT n = (if r.2 then 1 else u.get R.CLP_STATUS_SAT n)) ∧
  (∀ (n : Fin 64) (w : BitVec 30) (s u : State) (i q : Int × Bool) (a : Nat), ClpReady s n → u = clpSeen s n → bit w.toNat 27 = true →
    bit w.toNat 20 = false → bit w.toNat 13 = false → clpHasMbx u n = false → a = pReg u n (bits w.toNat 19 17) →
    depClash u n (clpCyc s n) a = false → i = narrow (accSta u n (bits w.toNat 29 28)) (bits w.toNat 26 21) 18 →
    q = narrow (accSta u n (bits w.toNat 29 28 + 1)) (bits w.toNat 26 21) 18 →
    ClpActs (.sta n w) s u [only R.CLP_STATUS_SAT n] [.calipers] fun t =>
      ClpWrites u t n [⟨clpCyc s n + 2, .mem (a % 65536), (wrapI i.1 18 * 2 ^ 18 + wrapI q.1 18) % 2 ^ 36, false⟩] ∧
      t.get R.CLP_STATUS_SAT n = (if i.2 || q.2 then 1 else u.get R.CLP_STATUS_SAT n)) ∧
  ∀ (n : Fin 64) (w : BitVec 30) (s u : State) (d a v : Int), ClpReady s n → u = clpSeen s n → d = accReg u n (bits w.toNat 29 28) →
    a = accReg u n (bits w.toNat 27 26) → (bits w.toNat 25 23 ≤ 3 ∨ bits w.toNat 25 23 = 6) →
    v = (match bits w.toNat 25 23 with | 0 => d + a | 1 => d - a | 2 => a | 3 => -a | _ => 0) →
    ClpActs (.acc n w) s u [only R.CLP_STATUS_AOVF n] [.calipers] fun t => AccBecomes t n (bits w.toNat 29 28) (clpCyc s n + 3) v

/-- R256, R257, R266, Tables CLP-3 to CLP-7. -/
def Obligations.CaliperData : Prop :=
  (∀ (n : Fin 64) (w : BitVec 30) (s u : State) (a : Nat), ClpReady s n → u = clpSeen s n → bit w.toNat 25 = false → bit w.toNat 17 = false →
    bit w.toNat 18 = false → clpHasMbx u n = false → a = pReg u n (bits w.toNat 24 22) → NoClash u n (bits w.toNat 29 26) (clpCyc s n + 2) →
    ClpActs (.ldst n w) s u [] [.calipers] fun t => ClpWrites u t n [⟨clpCyc s n + 2, .x (bits w.toNat 29 26), dmem u n a % 2 ^ 36, false⟩]) ∧
  (∀ (n : Fin 64) (w : BitVec 30) (s u : State) (a : Nat), ClpReady s n → u = clpSeen s n → bit w.toNat 25 = true → bit w.toNat 17 = false →
    bit w.toNat 18 = false → clpHasMbx u n = false → a = pReg u n (bits w.toNat 24 22) → depClash u n (clpCyc s n) a = false →
    ClpActs (.ldst n w) s u [] [.calipers] fun t =>
      ClpWrites u t n [⟨clpCyc s n + 2, .mem (a % 65536), xReg u n (bits w.toNat 29 26) % 2 ^ 36, false⟩]) ∧
  (∀ (n : Fin 64) (w : BitVec 30) (s u : State) (x y v : Nat), ClpReady s n → u = clpSeen s n → bits w.toNat 29 26 < 12 →
    NoClash u n (bits w.toNat 25 22) (clpCyc s n + 1) → x = xReg u n (bits w.toNat 21 18) →
    y = (if bit w.toNat 17 then wrapI (sgn 13 (bits w.toNat 12 0)) 36 else xReg u n (bits w.toNat 16 13)) →
    v = (match bits w.toNat 29 26 with
      | 0 => (x + y) % 2 ^ 36
      | 1 => (x + 2 ^ 36 - y) % 2 ^ 36
      | 2 => x &&& y
      | 3 => x ||| y
      | 4 => x ^^^ y
      | 5 => if y % 64 < 36 then x * 2 ^ (y % 64) else 0
      | 6 => if y % 64 < 36 then x / 2 ^ (y % 64) else 0
      | 7 => wrapI (sgn 36 x / ((2 ^ min (y % 64) 35 : Nat) : Int)) 36
      | 8 => y
      | 9 => if sgn 36 y < sgn 36 x then y else x
      | 10 => if sgn 36 x < sgn 36 y then y else x
      | _ => if sgn 36 x < sgn 36 y then 0 else 1) →
    ClpActs (.clpAlu n w) s u [] [.calipers] fun t => ClpWrites u t n [⟨clpCyc s n + 1, .x (bits w.toNat 25 22), v % 2 ^ 36, false⟩]) ∧
  (∀ (n : Fin 64) (w : BitVec 30) (s u : State), ClpReady s n → u = clpSeen s n → NoClash u n (bits w.toNat 29 26) (clpCyc s n + 1) →
    ClpActs (.movi n w) s u [] [.calipers] fun t => ClpWrites u t n [⟨clpCyc s n + 1, .x (bits w.toNat 29 26),
      (if bit w.toNat 25 then bits w.toNat 17 0 * 2 ^ 18 + xReg u n (bits w.toNat 29 26) % 2 ^ 18 else wrapI (sgn 18 (bits w.toNat 17 0)) 36) % 2 ^ 36,
      false⟩]) ∧
  (∀ (n : Fin 64) (w : BitVec 30) (s u : State) (v : Nat), ClpReady s n → u = clpSeen s n →
    v = (if bit w.toNat 25 then xReg u n (bits w.toNat 19 16) else bits w.toNat 15 0) →
    ClpActs (.seta n w) s u [] [.calipers] fun t => ClpWrites u t n [if bit w.toNat 29 then ⟨clpCyc s n + 2, .m (bits w.toNat 28 26), v, false⟩
      else ⟨clpCyc s n + 2, .p (bits w.toNat 28 26), v % 2 ^ 16, false⟩]) ∧
  (∀ (n : Fin 64) (w : BitVec 30) (s u : State) (i j : Int) (a : Nat), ClpReady s n → u = clpSeen s n → clpHasMbx u n = false →
    j = sgn 36 (xReg u n (bits w.toNat 26 23)) / ((2 ^ bits w.toNat 22 17 : Nat) : Int) +
      (if bit w.toNat 12 then ((2 ^ (bits w.toNat 16 13 - 1) : Nat) : Int) else 0) →
    i = max 0 (min j (((2 ^ bits w.toNat 16 13 : Nat) : Int) - 1)) → (a : Int) = (pReg u n (bits w.toNat 29 27) + i) % 65536 →
    (clp u n).pend.all (fun p => !(p.hinc && p.to_ == .mem a)) = true → depClash u n (clpCyc s n) a = false → dmem u n a < 2 ^ 36 - 1 →
    ClpActs (.hinc n w) s u [only R.CLP_STATUS_SAT n] [.calipers] fun t =>
      ClpWrites u t n [⟨clpCyc s n + 2, .mem a, dmem u n a + 1, true⟩] ∧
      t.get R.CLP_STATUS_SAT n = if i = j then u.get R.CLP_STATUS_SAT n else 1) ∧
  ∀ (n : Fin 64) (w : BitVec 30) (s u : State) (v : Nat), ClpReady s n → u = clpSeen s n → bits w.toNat 25 21 ≤ 9 →
    NoClash u n (bits w.toNat 29 26) (clpCyc s n + 1) →
    v = (match bits w.toNat 25 21 with
      | 0 => if s.get R.CLP_CTRL_MODE n = 1 then clpCyc s n - 2 * s.shotStart else clpCyc s n - (clp s n).wake
      | 1 => s.get R.CLK_SHOT_COUNT
      | 2 => s.now
      | 7 => u.get R.CLP_STATUS_AOVF n + 2 * u.get R.CLP_STATUS_SAT n + 4 * u.get R.CLP_STATUS_SVC_FAULT n + 8 * u.get R.CLP_STATUS_CUT n
      | 8 => u.get R.CLP_ELR_ELR n
      | 9 => u.get R.CLP_EVT_EPEND n
      | k => sget 0 s.depWPrev (4 * n + (k - 3))) →
    ClpActs (.rds n w) s u [] [.calipers] fun t => ClpWrites u t n [⟨clpCyc s n + 1, .x (bits w.toNat 29 26), v % 2 ^ 36, false⟩]

/-- R275 to R279. -/
def Obligations.CaliperOutputs : Prop :=
  (∀ (n : Fin 64) (w : BitVec 30) (s u : State) (p : HPoint) (e : HEntry), ClpReady s n → u = clpSeen s n → s.get R.CLP_CTRL_MODE n = 1 →
    pointOn s (128 + n) (bits w.toNat 15 0) = some p → sget 0 s.hLast (128 + n) ≤ p.pos → p.kind = 0 →
    (sget [] s.harvest (128 + n)).find? (fun e => e.tag == harvestTag s (128 + n) p.pos) = some e → NoClash u n (bits w.toNat 29 26) (clpCyc s n + 1) →
    ClpActs (.clpHarvest n w) s u [every R.GLB_HARVEST_THIN_CNT_COUNT, every R.GLB_HARVEST_DISCARD_CNT_COUNT] [.calipers, .harvest, .hNext, .hLast] fun t =>
      ClpWrites u t n [⟨clpCyc s n + 1, .x (bits w.toNat 29 26), e.value % 2 ^ 36, false⟩] ∧ sget 0 t.hLast (128 + n) = p.pos + 1 ∧
      SameBut [] (128 + n) s.harvest t.harvest) ∧
  (∀ (n : Fin 64) (w : BitVec 30) (s u : State), ClpReady s n → u = clpSeen s n → s.get R.CLP_CTRL_MODE n = 1 →
    pointOn s (128 + n) (bits w.toNat 15 0) = none →
    ClpActs (.clpHarvest n w) s u (contractPlaces ++ taintPlaces ++ eventPlaces ++ [only R.CLP_STATUS_SHOT_TAINT n]) ([.shotT, .taintTick] ++ eventParts)
      fun t => clp t n = clp u n ∧ ClpRefused u t n 0x13) ∧
  (∀ (n : Fin 64) (w : BitVec 30) (s u : State) (tt : Taint), ClpReady s n → u = clpSeen s n → s.get R.CLP_CTRL_MODE n = 1 →
    (∀ b < 4, bit w.toNat (26 + b) = true → ∃ d, sget 0 s.decDecl (1024 + 4 * n + b) = d + 1 ∧ s.tick + 2 ≤ d + s.shotStart) →
    tt = taintOr (shotTaint u (128 + n)) (clockTaint u u.shotStart) →
    ClpActs (.pub n w) s u [] [.calipers] fun t => SameBut {} n u.calipers t.calipers ∧
      clp t n = { clp u n with pubs := (clp u n).pubs ++ ([0, 1, 2, 3].filter fun b => bit w.toNat (26 + b)).map fun b =>
        (b, s.tick, bit (xReg u n (bits w.toNat 25 22)) b, tt) }) ∧
  (∀ (n : Fin 64) (w : BitVec 30) (s u : State) (k : Nat) (tt : Taint), ClpReady s n → u = clpSeen s n → s.get R.CLP_CTRL_MODE n = 1 →
    (sget {} u.rq (16 + n / 8)).waiting.length < 2048 → k = bits w.toNat 29 26 → tt = taintOr (shotTaint u (128 + n)) (clockTaint u u.shotStart) →
    ClpActs (.rec_ n w) s u (taintPlaces ++ eventPlaces) ([.rq, .taintTick] ++ eventParts) fun t =>
      RecEntered u t (16 + n / 8) (mkRec 4 n (bits w.toNat 13 7) (bits w.toNat 6 0) (taintMask tt) s.now (s.get R.CLK_SHOT_COUNT) (xReg u n k)
        (xReg u n (k + 1)) (xReg u n (k + 2)))) ∧
  (∀ (n : Fin 64) (w : BitVec 30) (s u : State), ClpReady s n → u = clpSeen s n →
    ClpActs (.clpEmit n w) s u eventPlaces eventParts fun t => EventFires u t (768 + 2 * n)) ∧
  (∀ (n : Fin 64) (w : BitVec 30) (s u : State), ClpReady s n → u = clpSeen s n → s.get R.CLP_CTRL_MODE n = 2 →
    ∀ c ∈ [Instr.clpHarvest n w, .pub n w, .rec_ n w],
    ClpActs c s u (eventPlaces ++ [only R.CLP_STATUS_SVC_FAULT n]) eventParts fun t => t.get R.CLP_STATUS_SVC_FAULT n ≠ 0) ∧
  (∀ (n : Fin 64) (b : Fin 4) (s : State) (x : Nat × Nat × Bool × Taint), running s = true → s.get R.CLP_CTRL_MODE n = 1 →
    sget 0 s.decDecl (1024 + 4 * n + b) ≠ 0 → sget 0 s.decDecl (1024 + 4 * n + b) + s.shotStart = s.tick + 1 → alarmActive s = false →
    ((clp s n).pubs.filter fun p => p.1 == b.val && decide (p.2.1 + 2 ≤ s.tick)).getLast? = some x →
    Runs (.caliperPublish n b) s (taintPlaces ++ eventPlaces) ([.decVal, .decPub, .decTaint, .pubSeen, .taintTick] ++ eventParts) fun t =>
      sget false t.decPub (1024 + 4 * n + b) = true ∧ sget false t.decVal (1024 + 4 * n + b) = x.2.2.1 ∧
      sget [] t.decTaint (16 + n / 16) = taintOr (sget [] s.decTaint (16 + n / 16)) x.2.2.2) ∧
  ∀ (n : Fin 64) (b : Fin 4) (s : State), running s = true → s.get R.CLP_CTRL_MODE n = 1 → sget 0 s.decDecl (1024 + 4 * n + b) ≠ 0 →
    sget 0 s.decDecl (1024 + 4 * n + b) + s.shotStart = s.tick + 1 → alarmActive s = false →
    ((clp s n).pubs.filter fun p => p.1 == b.val && decide (p.2.1 + 2 ≤ s.tick)) = [] →
    Runs (.caliperPublish n b) s (taintPlaces ++ eventPlaces ++ [only R.CLP_LATE_CNT_COUNT n])
      ([.decVal, .decPub, .decTaint, .pubSeen, .taintTick] ++ eventParts) fun t =>
      sget false t.decPub (1024 + 4 * n + b) = true ∧ sget false t.decVal (1024 + 4 * n + b) = false ∧ Counted s t R.CLP_LATE_CNT_COUNT n ∧
      sget [] t.decTaint (16 + n / 16) = taintOr (sget [] s.decTaint (16 + n / 16)) (taintOf tLATE 2 n)

/-- R253, R268, R269, R271 to R274. -/
def Obligations.CaliperEvents : Prop :=
  (∀ (n : Fin 64) (s u : State) (k : Nat), lowBit (clpReady s n) = some k → s.get R.CLP_STATUS_HANDLER n = 0 → clpMayIssue s n = true →
    (clp s n).delay = 0 → (clp s n).rep = 0 → (clp s n).repPc = false → u = cSettle (depTo s n (clpCyc s n)) n (clpCyc s n) →
    ClpActs (.caliperEventEntry n) s u [only R.CLP_EVT_EPEND n, only R.CLP_ELR_ELR n, only R.CLP_STATUS_HANDLER n, only R.CLP_STATUS_STATE n,
        every R.EVF_TASKST_PENDING, every R.MBX_TXSTAT_DB_PEND] [.calipers, .mbxRing] fun t =>
      bit (t.get R.CLP_EVT_EPEND n) k = false ∧ t.get R.CLP_ELR_ELR n = (clp s n).next % 2 ^ 14 ∧ t.get R.CLP_STATUS_HANDLER n = 1 ∧
      t.get R.CLP_STATUS_STATE n = 2 ∧ SameBut {} n u.calipers t.calipers ∧
      clp t n = { clp u n with next := s.get R.CLP_EVEC_ADDR (16 * n + k), cyc := clpCyc s n + 2, susp := (clp u n).loops.length }) ∧
  (∀ (n : Fin 64) (s : State), (clpReady s n = 0 ∨ s.get R.CLP_STATUS_HANDLER n ≠ 0) → exec (.caliperEventEntry n) s = .next s) ∧
  (∀ (n : Fin 64) (s : State) (k : Nat), lowBit (clpReady s n) = some k → s.get R.CLP_STATUS_STATE n = 5 → s.get R.CLP_CTRL_MODE n = 2 →
    s.get R.CLP_STATUS_HANDLER n = 0 →
    Runs (.caliperWake n) s [only R.CLP_EVT_EPEND n, only R.CLP_ELR_ELR n, only R.CLP_STATUS_HANDLER n, only R.CLP_STATUS_STATE n,
        every R.EVF_TASKST_PENDING, every R.MBX_TXSTAT_DB_PEND] [.calipers, .mbxRing] fun t =>
      bit (t.get R.CLP_EVT_EPEND n) k = false ∧ t.get R.CLP_ELR_ELR n = (clp s n).next % 2 ^ 14 ∧ t.get R.CLP_STATUS_HANDLER n = 1 ∧
      t.get R.CLP_STATUS_STATE n = 2 ∧
      clp t n = { clp s n with wake := clpCyc s n, next := s.get R.CLP_EVEC_ADDR (16 * n + k), cyc := clpCyc s n + 2,
                               susp := (clp s n).loops.length }) ∧
  (∀ (n : Fin 64) (s : State) (k : Nat), lowBit (clpReady s n) = some k → s.get R.CLP_STATUS_STATE n = 5 → s.get R.CLP_CTRL_MODE n = 2 →
    s.get R.CLP_STATUS_HANDLER n ≠ 0 →
    Runs (.caliperWake n) s [only R.CLP_STATUS_STATE n] [.calipers] fun t =>
      t.get R.CLP_STATUS_STATE n = 2 ∧ clp t n = { clp s n with wake := clpCyc s n, cyc := clpCyc s n }) ∧
  (∀ (n : Fin 64) (c : Fin 4) (codes : List (BitVec 12)) (s : State) (d : Nat) (w : Win) (x : Int × Int × Bool × Bool)
    (tt : Taint), (s.get R.CLP_CTRL_MODE n = 1 ∨ s.get R.CLP_CTRL_MODE n = 2) → s.get R.CLP_DEP_KIND (4 * n + c) = 1 →
    d = 128 * (n.val / 8) + s.get R.CLP_DEP_SRC (4 * n + c) % 128 →
    (wins s d).find? (fun w => w.opened && decide (w.o < s.tick ∧ s.tick ≤ winEnd w) && (s.tick - w.o) % 2 == 1) = some w →
    x = decimated s d (codesFrom (((s.tick - 15 : Nat) : Int) * 16 - 3) codes) (s.tick - 15) → (clp s n).depQ.length < 16 →
    (∀ d ∈ (clp s n).depQ, d.at_ = s.tick → d.ch ≤ c) →
    tt = taintOr w.taint (spanTaint s (d / 16) (16 * (s.tick - 15) - 3) (16 * (s.tick - 15) + 34) 4 d) →
    Runs (.depositWrite n c codes) s [every R.INP_STATUS_SAT_COR] [.calipers] fun t => SameBut {} n s.calipers t.calipers ∧
      (clp t n).depQ = (clp s n).depQ ++ [⟨s.tick, c, wrapI x.1 18 * 2 ^ 18 + wrapI x.2.1 18, tt, none, 0, decide (s.tick = winEnd w)⟩]) ∧
  (∀ (n : Fin 64) (s : State), (clp s n).restoring = true → srising s.clpInit = true →
    Runs (.caliperRestoreDone n) s [] [.calipers, .clpMem] fun t =>
      clp t n = { clp s n with restoring := false } ∧ ∀ a, sget 0 t.clpMem a = if a / 65536 = n then sget 0 s.clpInit a else sget 0 s.clpMem a) ∧
  (∀ (m : Master) (n : Fin 64) (v : BitVec 64) (s : State) (a : Nat), reaches s m (0x3000088 + n.val * 0x40000) true = true → rtHeld s m = false →
    a = s.get R.CLP_MEM_CTRL_ADDR n → s.get R.CLP_MEM_CTRL_SEL n = 1 → a < 65536 → s.get R.PWR_STATE_STATE ≠ 1 →
    Runs (.clpMemDataAccess m n true v) s [only R.CLP_MEM_CTRL_ADDR n, only R.CLP_MEM_DATA_DATA n] [.clpMem, .clpInit] fun t =>
      dmem t n a = v.toNat % 2 ^ 36 ∧ sget 0 t.clpInit (65536 * n + a) = v.toNat % 2 ^ 36 ∧ SameBut 0 (65536 * n + a) s.clpMem t.clpMem ∧
      SameBut 0 (65536 * n + a) s.clpInit t.clpInit ∧ (s.get R.CLP_MEM_CTRL_AUTOINC n ≠ 0 → t.get R.CLP_MEM_CTRL_ADDR n = (a + 1) % 2 ^ 16)) ∧
  (∀ (m : Master) (n : Fin 64) (v : BitVec 64) (s : State) (a : Nat), reaches s m (0x3000088 + n.val * 0x40000) true = true → rtHeld s m = false →
    a = s.get R.CLP_MEM_CTRL_ADDR n → s.get R.CLP_MEM_CTRL_SEL n = 0 → a < 16384 →
    Runs (.clpMemDataAccess m n true v) s [only R.CLP_MEM_CTRL_ADDR n, only R.CLP_MEM_DATA_DATA n] [.clpProg] fun t =>
      sget 0 t.clpProg (16384 * n + a) = v.toNat % 2 ^ 36 ∧ SameBut 0 (16384 * n + a) s.clpProg t.clpProg) ∧
  ∀ (m : Master) (n : Fin 64) (v : BitVec 64) (s : State) (a : Nat), reaches s m (0x3000088 + n.val * 0x40000) false = true →
    a = s.get R.CLP_MEM_CTRL_ADDR n → s.get R.CLP_MEM_CTRL_SEL n ≤ 1 →
    Runs (.clpMemDataAccess m n false v) s [only R.CLP_MEM_CTRL_ADDR n] [.readData, .readPoison] fun t =>
      t.readData = (if s.get R.CLP_MEM_CTRL_SEL n = 1 then dmem s n a else if a < 16384 then sget 0 s.clpProg (16384 * n + a) else 0)

/-! ### Parity rounds (11_decisions_and_pauli_frames.md) -/

namespace Sys2Proof.Machine

/-- The decision bits that the round of slot `r` reads, once per input that names one (R300). -/
def roundReads (s : State) (r : Nat) : List Nat :=
  (slotChecks s r).flatMap (checkInputs s) ++
    (slotNbhds s r).flatMap fun g => (nbhdInputs s g).filterMap fun x => if bit x 15 then some (x % 2048) else none

/-- What the neighbourhoods `acts` (number, index, entry) do to Pauli-frame record `q`: for each target that names it, the entry, the
target's number, and whether it flips Z and X (R301). -/
def recHits (s : State) (acts : List (Nat × Nat × Nat)) (q : Nat) : List (Nat × Nat × Bool × Bool) :=
  acts.flatMap fun a => (List.range 8).filterMap fun k =>
    if (nbhdTarget s a.1 k).1 && (nbhdTarget s a.1 k).2.2.2 == q && (bit a.2.2 15 || bit a.2.2 14 || bit a.2.2 k) then
      some (a.2.2, k, (nbhdTarget s a.1 k).2.1, (nbhdTarget s a.1 k).2.2.1)
    else none

/-- How often bit X, or Z, of a record is flipped by its hits: an entry with ESC flips nothing (R301). -/
def recFlips (h : List (Nat × Nat × Bool × Bool)) (x : Bool) : Nat := (h.filter fun p => !bit p.1 15 && bit p.1 p.2.1 && if x then p.2.2.2 else p.2.2.1).length

/-- Record `old` after the hits `h` of round `num` with taint `m` (R302, R303). -/
def recHit (old num m : Nat) (h : List (Nat × Nat × Bool × Bool)) : Nat :=
  if h = [] then old
  else (old + recFlips h true) % 2 + 2 * ((old / 2 + recFlips h false) % 2) +
    4 * (if h.any (fun p => bit p.1 15) then 1 else if h.any (fun p => bit p.1 14) then 0 else old / 4 % 2) + num % 64 * 2 ^ 8 + m * 2 ^ 16

/-- No two publication entries name one decision bit. -/
abbrev PubsApart (s : State) : Prop := ((pfuPubs s).map (· % 512)).Nodup

end Sys2Proof.Machine

/-- R286, R296 to R305, R307. -/
def Obligations.ParityRounds : Prop :=
  (∀ (r : Fin 16) (s : State) (unpub : Nat) (tt : Taint), running s = true → r.val < s.pfuCnt.headD 0 → shotTick s = slotE s r →
    unpub = ((roundReads s r).filter fun b => !sget false s.decPub b).length →
    tt = (roundReads s r).foldl (fun t b => taintOr t (sget [] s.decTaint (b / 64))) [] →
    Runs (.roundEvaluate r) s ([only R.PFU_ROUND_ROUND 0, only R.PFU_STATUS_FIRST 0, only R.PFU_STATUS_UNPUB 0, only R.PFU_UNPUB_CNT_COUNT 0] ++
        taintPlaces ++ eventPlaces) ([.rounds, .pfuNext, .taintTick] ++ eventParts) fun t =>
      t.get R.PFU_ROUND_ROUND = s.pfuNext % 2 ^ 32 ∧ t.pfuNext = (s.pfuNext + 1) % 2 ^ 32 ∧ t.get R.PFU_STATUS_FIRST = 0 ∧
      SameBut none r s.rounds t.rounds ∧
      (unpub = 0 → t.get R.PFU_STATUS_UNPUB = s.get R.PFU_STATUS_UNPUB ∧ t.get R.PFU_UNPUB_CNT_COUNT = s.get R.PFU_UNPUB_CNT_COUNT) ∧
      (0 < unpub → t.get R.PFU_STATUS_UNPUB = 1 ∧ t.get R.PFU_UNPUB_CNT_COUNT = min (s.get R.PFU_UNPUB_CNT_COUNT + unpub) 0xFFFFFFFF ∧
        bit (t.get R.GLB_TAINT_STICKY_TAINT) tCONTRACT = true) ∧
      round? t r = some { num := s.pfuNext, e := s.tick, stamp := s.now, shot := s.get R.CLK_SHOT_COUNT, unpub := unpub,
                          taint := if unpub = 0 then tt else taintOr tt (taintOf tCONTRACT 7 r),
                          vals := (slotChecks s r).map fun c => ((checkInputs s c).filter (decRead s)).length % 2 == 1,
                          bits_ := (slotNbhds s r).map fun g => (nbhdInputs s g).map fun x => bit x 15 && decRead s (x % 2048) }) ∧
  (∀ (r : Fin 16) (s : State), (running s = false ∨ s.pfuCnt.headD 0 ≤ r.val ∨ shotTick s ≠ slotE s r) → exec (.roundEvaluate r) s = .next s) ∧
  (∀ (r : Fin 16) (s : State) (rd : Round) (ev : List Bool), round? s r = some rd → s.tick = rd.e + 4 → rd.formed = false → PubsApart s →
    ev = ((slotChecks s r).zip rd.vals).map (fun p => p.2 != (sget 0 s.pfuPrev p.1 == 2)) →
    Runs (.roundChecks r) s (taintPlaces ++ eventPlaces) ([.pfuPrev, .rounds, .decVal, .decPub, .decTaint, .pubSeen, .taintTick] ++ eventParts) fun t =>
      (∀ p ∈ (slotChecks s r).zip rd.vals, sget 0 t.pfuPrev p.1 = 1 + b2n p.2) ∧
      (∀ c, c ∉ slotChecks s r → sget 0 t.pfuPrev c = sget 0 s.pfuPrev c) ∧ SameBut none r s.rounds t.rounds ∧
      round? t r = some { rd with events := ev, first := (slotChecks s r).any (fun c => sget 0 s.pfuPrev c == 0), formed := true,
                                  idx := ((slotNbhds s r).zip rd.bits_).map fun p => (((nbhdInputs s p.1).zip p.2).zipIdx.map fun q =>
                                    if (if bit q.1.1 15 then q.1.2 else ((slotChecks s r).zip ev).any fun y => y.1 == q.1.1 % 2048 && y.2) then 2 ^ q.2
                                    else 0).sum } ∧
      (∀ x ∈ pfuPubs s, ∀ p ∈ (slotChecks s r).zip (rd.vals.zip ev), p.1 = bits x 26 16 → bits x 14 12 ≤ 1 →
        sget false t.decPub (1280 + x % 512) = true ∧
        sget false t.decVal (1280 + x % 512) = if bits x 14 12 = 0 then p.2.1 else p.2.2)) ∧
  (∀ (r : Fin 16) (s : State), (round? s r = none ∨ ∃ rd, round? s r = some rd ∧ s.tick ≠ rd.e + 4 ∧ s.tick ≠ rd.e + 14) →
    exec (.roundChecks r) s = .next s ∧ exec (.roundApply r) s = .next s) ∧
  (∀ (r : Fin 16) (s : State) (rd : Round) (tt : Taint) (acts esc : List (Nat × Nat × Nat)) (fl : Nat), round? s r = some rd → s.tick = rd.e + 14 →
    rd.formed = true → PubsApart s → tt = taintOr rd.taint (clockTaint s rd.e) →
    acts = ((slotNbhds s r).zip rd.idx).map (fun p => (p.1, p.2, nbhdEntry s p.1 p.2)) → esc = acts.filter (fun a => bit a.2.2 15) →
    fl = (acts.foldl (fun m a => nbhdActs s m a.1 a.2.2) []).foldl (fun k p => k + b2n (p.2.getD {}).x + b2n (p.2.getD {}).z) 0 →
    (sget {} s.rq 24).waiting.length + esc.length < 2048 →
    Runs (.roundApply r) s (taintPlaces ++ eventPlaces ++ [only R.PFU_STATUS_ESC 0, only R.PFU_ESC_CNT_COUNT 0, only R.PFU_PENDING_COUNT 0])
      ([.pfuRec, .rounds, .decVal, .decPub, .decTaint, .pubSeen, .rq, .taintTick] ++ eventParts) fun t =>
      round? t r = none ∧ SameBut none r s.rounds t.rounds ∧
      (∀ q < 65536, sget 0 t.pfuRec q = recHit (sget 0 s.pfuRec q) rd.num (taintMask tt % 256) (recHits s acts q)) ∧
      t.get R.PFU_PENDING_COUNT = (t.pfuRec.filter fun p => bit p.2 2).length % 2 ^ 17 ∧
      (esc ≠ [] → t.get R.PFU_STATUS_ESC = 1 ∧ t.get R.PFU_ESC_CNT_COUNT = min (s.get R.PFU_ESC_CNT_COUNT + esc.length) 0xFFFFFFFF ∧
        EventFires s t 1483) ∧
      (∀ x ∈ pfuPubs s, ∀ a ∈ acts, a.1 = bits x 26 16 → 2 ≤ bits x 14 12 → bits x 14 12 ≤ 3 →
        sget false t.decPub (1280 + x % 512) = true ∧
        sget false t.decVal (1280 + x % 512) = if bits x 14 12 = 2 then nbhdFlips s a.1 a.2.2 (bits x 29 27) else bit a.2.2 15) ∧
      SameBut {} 24 s.rq t.rq ∧
      queuedRecs t 24 = queuedRecs s 24 ++
        mkRec 5 r 0 (b2n rd.first + 2 * b2n (decide (0 < rd.unpub)) + 4 * b2n (esc != [])) (taintMask tt) rd.stamp rd.shot rd.num
          (esc.length * 2 ^ 24 + min fl 4095 * 2 ^ 12 + (rd.events.filter id).length) (min rd.unpub 4095) ::
        esc.map fun a => mkRec 6 a.1 0 0 (taintMask tt) rd.stamp rd.shot (rd.num % 2 ^ 24 * 4096 + a.2.1)
          ((List.range 8).map fun k => if (nbhdTarget s a.1 k).1 then 2 ^ k else 0).sum 0) ∧
  (∀ (m : Master) (s : State) (a : Nat), reaches s m 0xA00408 false = true → a = s.get R.DEC_MEM_CTRL_ADDR → s.get R.DEC_MEM_CTRL_SEL ≤ 1 →
    Runs (.decMemDataRead m) s [only R.DEC_MEM_CTRL_ADDR 0] [.readData, .readPoison] fun t =>
      (s.get R.DEC_MEM_CTRL_SEL = 0 → a < 2048 → t.readData = (if sget 0 s.decDecl a = 0 then 0xFFFFFFFF else sget 0 s.decDecl a - 1) % 2 ^ 32) ∧
      (s.get R.DEC_MEM_CTRL_SEL = 1 → t.readData = (if sget 0 s.dmap a = 0 then 0 else 2 ^ 31 + (sget 0 s.dmap a - 1)) % 2 ^ 32) ∧
      t.get R.DEC_MEM_CTRL_ADDR = if s.get R.DEC_MEM_CTRL_AUTOINC = 0 then a else (a + 1) % 2 ^ 13) ∧
  (∀ (m : Master) (s : State) (a : Nat), reaches s m 0xA08024 false = true → a = s.get R.PFU_MEM_CTRL_ADDR → s.get R.PFU_MEM_CTRL_SEL < 5 →
    Runs (.pfuMemDataRead m) s [only R.PFU_MEM_CTRL_ADDR 0] [.readData, .readPoison] fun t =>
      t.readData = sget 0 s.pfuMem (s.get R.PFU_MEM_CTRL_SEL * 2 ^ 20 + a) % 2 ^ 32 ∧
      t.get R.PFU_MEM_CTRL_ADDR = if s.get R.PFU_MEM_CTRL_AUTOINC = 0 then a else (a + 1) % 2 ^ 20) ∧
  ∀ (m : Master) (s : State) (a : Nat), reaches s m 0xA0801C false = true → a = s.get R.PFU_REC_INDEX_INDEX →
    Runs (.pfuRecDataRead m) s [only R.PFU_REC_INDEX_INDEX 0] [.readData, .readPoison] fun t =>
      t.readData = sget 0 s.pfuRec a % 2 ^ 32 ∧
      t.get R.PFU_REC_INDEX_INDEX = if s.get R.PFU_REC_INDEX_AUTOINC = 0 then a else (a + 1) % 2 ^ 16

/-! ### Capture units and timing inputs (12_capture_and_timing_inputs.md) -/

namespace Sys2Proof.Machine

/-- The places that an evaluation of capture unit `u`, beside an event, may write. -/
def capPlaces (u : Nat) : List Place :=
  [only R.ACQ_STATUS_STATE u, only R.ACQ_STATUS_REJ u, only R.ACQ_STATUS_LOST u, only R.ACQ_STATUS_GAP u, only R.ACQ_REC_CNT_COUNT u,
    only R.ACQ_REJ_FILL_CNT_COUNT u, only R.ACQ_REJ_BUSY_CNT_COUNT u, only R.ACQ_LOST_CNT_COUNT u, only R.ACQ_GAP_CNT_COUNT u,
    only R.ACQ_REJ_FIRST_VALID u, only R.ACQ_REJ_FIRST_REASON u, only R.ACQ_REJ_FIRST_SUB u, only R.ACQ_REJ_TLO_TICK_LO u, only R.ACQ_REJ_THI_TICK_HI u]

/-- Unit `u`, on decision words, evaluates capture tick `h` on this tick, 24 ticks later; no condition is one of signal level. -/
abbrev CapEvaluates (s : State) (u : Nat) (h : CapTick) : Prop :=
  (cap s u).holdAt = 0 ∧ (cap s u).hist.find? (fun h => h.tick + 24 == s.tick) = some h ∧ s.get R.ACQ_CTRL_SRC u = 3 ∧
    ∀ k < 8, s.get R.ACQ_COND_KIND (8 * u + k) ≠ 2

/-- The places that an edge of timing input `i`, beside an event and the taint sticky, may write. -/
def tinPlaces (i : Nat) : List Place :=
  [only R.TIN_STATUS_LEVEL i, only R.TIN_STATUS_FILL i, only R.TIN_STATUS_MISS i, only R.TIN_STATUS_OVERFLOW i, only R.TIN_EDGE_CNT_COUNT i,
    only R.TIN_MISS_CNT_COUNT i, every R.TDC_MSTATUS_BUSY, every R.TDC_MSTATUS_DONE, every R.TDC_MSTATUS_TIMEOUT, every R.TDC_MSTATUS_OVERRUN,
    every R.TDC_MSTATUS_COUNT, every R.TDC_MSTATUS_CFG_ERR, every R.TDC_MSTART_LO_STAMP_LO, every R.TDC_MINT_LO_INT_LO, every R.TDC_FSTATUS_TRUNC]

/-- An edge on input `i` in bin `b` is stamped with local tick `e` and fine field `fine`, and is not less than 2 ticks behind the last (R326,
R327). -/
abbrev Stamped (s : State) (i : Fin 32) (b : Fin 512) (rising : Bool) (e fine : Nat) : Prop :=
  mainPowered s = true ∧ qualified s i rising = true ∧ calibrating s i = false ∧
    (512 * e + fine : Int) = 512 * (s.tick : Int) + tdcPosAt s i b - (s.get R.TIN_DELAY_FACTORY i + sgn 16 (s.get R.TIN_DELAY_USER i)) ∧ fine < 512 ∧
    (sget 0 s.tinLast i = 0 ∨ sget 0 s.tinLast i < e)

end Sys2Proof.Machine

/-- R308 to R322. -/
def Obligations.Captures : Prop :=
  (∀ (u : Fin 16) (codes : List (BitVec 12)) (s : State) (h : CapTick) (mask k : Nat), CapEvaluates s u h → mask = tickMask s u h.tick h.now 1 → mask ≠ 0 →
    (capState s u = 2 ∨ capState s u = 1 ∧ capPre s u ≤ (cap s u).kept) → (cap s u).slot = some k →
    Runs (.captureEvaluate u codes) s (capPlaces u ++ eventPlaces) ([.caps] ++ eventParts) fun t =>
      capState t u = 3 ∧ Counted s t R.ACQ_REC_CNT_COUNT u ∧ EventFires s t (896 + 4 * u) ∧ (cap t u).rej = 0 ∧ SameBut {} u s.caps t.caps ∧
      (cap t u).rec_.map (fun r => (r.slot, r.x, r.shot, r.mask, r.number)) = some (some k, h.now, h.shot, mask, s.get R.ACQ_REC_CNT_COUNT u) ∧
      (cap t u).rec_.map (fun r => (r.qf, r.ql, r.wf, r.wl, r.endT)) = some (h.now - capPre s u, h.now + s.get R.ACQ_POST_POST_M1 u,
        2 * (h.now - capPre s u), 2 * (h.now + s.get R.ACQ_POST_POST_M1 u) + 1, h.tick + (h.now + s.get R.ACQ_POST_POST_M1 u + 1) - h.now)) ∧
  (∀ (u : Fin 16) (codes : List (BitVec 12)) (s : State) (h : CapTick) (why : Nat), CapEvaluates s u h → tickMask s u h.tick h.now 1 ≠ 0 →
    ((capState s u = 1 ∧ (cap s u).kept < capPre s u ∧ why = 1) ∨ (capState s u = 3 ∧ why = 2) ∨ (capState s u = 4 ∧ why = 3)) →
    Runs (.captureEvaluate u codes) s (capPlaces u ++ eventPlaces) ([.caps] ++ eventParts) fun t =>
      capState t u = capState s u ∧ (why = 1 → Counted s t R.ACQ_REJ_FILL_CNT_COUNT u) ∧ (why ≠ 1 → Counted s t R.ACQ_REJ_BUSY_CNT_COUNT u) ∧
      (cap t u).rej = (cap s u).rej + 1 ∧ t.get R.ACQ_STATUS_REJ u ≠ 0 ∧
      (s.get R.ACQ_STATUS_REJ u = 0 → t.get R.ACQ_REJ_FIRST_VALID u = 1 ∧ t.get R.ACQ_REJ_FIRST_REASON u = why ∧ t.get R.ACQ_REJ_FIRST_SUB u = 0 ∧
        t.get R.ACQ_REJ_TLO_TICK_LO u = h.now % 2 ^ 32 ∧ t.get R.ACQ_REJ_THI_TICK_HI u = h.now / 2 ^ 32 % 2 ^ 32 ∧ EventFires s t (896 + 4 * u + 2)) ∧
      (s.get R.ACQ_STATUS_REJ u ≠ 0 → t.get R.ACQ_REJ_FIRST_REASON u = s.get R.ACQ_REJ_FIRST_REASON u)) ∧
  (∀ (u : Fin 16) (codes : List (BitVec 12)) (s : State) (h : CapTick), CapEvaluates s u h → h.start = true → capState s u = 0 →
    tickMask s u h.tick h.now 1 = 0 →
    Runs (.captureEvaluate u codes) s (capPlaces u ++ eventPlaces) ([.caps] ++ eventParts) fun t =>
      capState t u = (if capPre s u = 0 then 2 else 1) ∧ (cap t u).armT = h.tick ∧ (cap t u).kept = 1 ∧ (cap t u).slot = capGiveSlot s u) ∧
  (∀ (u : Fin 16) (codes : List (BitVec 12)) (s : State), (cap s u).holdAt = 0 → (cap s u).hist.find? (fun h => h.tick + 24 == s.tick) = none →
    exec (.captureEvaluate u codes) s = .next s) ∧
  (∀ (u : Fin 16) (codes : List (BitVec 12)) (s : State), (cap s u).holdAt ≠ 0 → (cap s u).holdAt + 23 = s.tick →
    Runs (.captureEvaluate u codes) s (capPlaces u ++ [every R.GLB_RESULT_DROP_CNT_COUNT] ++ taintPlaces ++ eventPlaces) ([.caps, .taintTick] ++ eventParts)
      fun t => capState t u = 0 ∧ (cap t u).rec_ = none ∧ (cap t u).holdAt = 0 ∧ (cap t u).hist = [] ∧ (cap t u).sent = (cap s u).sent ∧
        ((cap s u).rec_ = none → (cap s u).tail = none → (cap t u).out = (cap s u).out)) ∧
  (∀ (u : Fin 16) (s : State) (r : CapRec) (k : Nat), (cap s u).rec_ = some r → r.endT + 24 = s.tick → capState s u = 3 → r.slot = some k →
    ((cap s u).out.filter (·.hdr)).length + (cap s u).sent.length < 16 →
    Runs (.captureRecordEnd u) s (capPlaces u ++ taintPlaces ++ eventPlaces) ([.caps, .taintTick] ++ eventParts) fun t =>
      capState t u = (if s.get R.ACQ_CTRL_REARM u = 3 then 5 else 4) ∧ (cap t u).rec_ = none ∧ (cap t u).prevEnd = some r.endT ∧
      (cap t u).ws = ((cap s u).ws + 1) % 2 ^ 32 ∧ (cap t u).lost = 0 ∧ EventFires s t (896 + 4 * u + 1) ∧ SameBut {} u s.caps t.caps ∧
      (cap t u).out.getLast?.map (fun o => (o.hdr, o.ws, o.words.map (·.1))) =
        some (true, ((cap s u).ws + 1) % 2 ^ 32, (List.range 16).map fun j => capSlotAddr s u k + 8 * j) ∧
      (cap t u).out.getLast?.map (fun o => ((o.words.map (·.2)).drop 1).take 5) =
        some [r.x % 2 ^ 36, r.x / 2 ^ 36 % 16 * 2 ^ 32 + r.shot % 2 ^ 32, r.x / 2 ^ 40, r.h4, r.number % 2 ^ 32]) ∧
  (∀ (u : Fin 16) (s : State) (r : CapRec), (cap s u).rec_ = some r → r.endT + 24 = s.tick → capState s u = 3 → r.slot = none →
    Runs (.captureRecordEnd u) s (capPlaces u ++ taintPlaces ++ eventPlaces) ([.caps, .taintTick] ++ eventParts) fun t =>
      capState t u = (if s.get R.ACQ_CTRL_REARM u = 3 then 5 else 4) ∧ (cap t u).rec_ = none ∧ (cap t u).prevEnd = some r.endT ∧
      (cap t u).ws = (cap s u).ws) ∧
  (∀ (u : Fin 16) (s : State) (e : Nat), capState s u = 4 → (cap s u).prevEnd = some e → 24 ≤ s.tick →
    ((s.get R.ACQ_CTRL_REARM u = 0 ∧ s.tick = e + s.get R.ACQ_HOLDOFF_TICKS u + 24) ∨
      (s.get R.ACQ_CTRL_REARM u = 1 ∧ e + s.get R.ACQ_HOLDOFF_TICKS u + 24 ≤ s.tick ∧
        (cap s u).hist.any (fun h => h.tick + 24 == s.tick && h.start) = true) ∨
      (s.get R.ACQ_CTRL_REARM u = 2 ∧ e + s.get R.ACQ_HOLDOFF_TICKS u + 24 ≤ s.tick ∧
        s.fired.any (fun f => f.tick + 24 == s.tick && f.ch == s.get R.ACQ_CTRL_ARM_CH u) = true)) →
    Runs (.captureRearm u) s [only R.ACQ_STATUS_STATE u] [.caps] fun t =>
      capState t u = 1 ∧ SameBut {} u s.caps t.caps ∧
      cap t u = { cap s u with armT := s.tick - 24, kept := 0, drops := [], blk := [],
                               slot := if ((cap s u).ws + 2 ^ 32 - s.get R.ACQ_RD_INDEX u) % 2 ^ 32 < s.get R.ACQ_SLOTS_NSLOT u then some (cap s u).ws
                                 else none }) ∧
  (∀ (u : Fin 16) (s : State), capState s u ≠ 4 → exec (.captureRearm u) s = .next s) ∧
  (∀ (u : Fin 16) (s : State), s.xtalFail = true → exec (.captureBlockWrite u) s = .next s ∧ exec (.captureHeaderWritten u) s = .next s) ∧
  (∀ (u : Fin 16) (s : State) (o : CapOut) (rest : List CapOut), s.xtalFail = false → (cap s u).out = o :: rest → o.hdr = true → (cap s u).tail = none →
    Runs (.captureBlockWrite u) s [] [.caps] fun t =>
      cap t u = { cap s u with out := rest, sent := (cap s u).sent ++ [o] } ∧ SameBut {} u s.caps t.caps) ∧
  (∀ (u : Fin 16) (s : State) (o : CapOut) (rest : List CapOut), s.xtalFail = false → (cap s u).out = o :: rest → o.hdr = false → (o.words.map (·.1 / 8)).Nodup →
    (∀ p ∈ o.words, p.1 % 8 = 0) → (∀ p ∈ o.words, Granted s (instSecure s (512 + u)) p.1 8) →
    Runs (.captureBlockWrite u) s [] [.caps, .hbm] fun t =>
      cap t u = { cap s u with out := rest } ∧ SameBut {} u s.caps t.caps ∧ (∀ p ∈ o.words, HbmSlot t p.1 p.2) ∧
      HbmBut s t (o.words.map fun p => (p.1, 8))) ∧
  (∀ (u : Fin 16) (s : State) (o : CapOut) (rest : List CapOut), s.xtalFail = false → (cap s u).sent = o :: rest → (o.words.map (·.1 / 8)).Nodup →
    (∀ p ∈ o.words, p.1 % 8 = 0) → (∀ p ∈ o.words, Granted s (instSecure s (512 + u)) p.1 8) →
    Runs (.captureHeaderWritten u) s [only R.ACQ_WR_INDEX u] [.caps, .hbm] fun t =>
      t.get R.ACQ_WR_INDEX u = o.ws % 2 ^ 32 ∧ cap t u = { cap s u with sent := rest } ∧ SameBut {} u s.caps t.caps ∧
      (∀ p ∈ o.words, HbmSlot t p.1 p.2) ∧ HbmBut s t (o.words.map fun p => (p.1, 8))) ∧
  ∀ (m : Master) (u : Fin 16) (v : BitVec 32) (s : State), reaches s m (0xB0001C + u.val * 0x100) true = true →
    Runs (.acqRdWrite m u v) s [only R.ACQ_RD_INDEX u] [] fun t =>
      ((v.toNat + 2 ^ 32 - s.get R.ACQ_RD_INDEX u) % 2 ^ 32 ≤ (s.get R.ACQ_WR_INDEX u + 2 ^ 32 - s.get R.ACQ_RD_INDEX u) % 2 ^ 32 →
        t.get R.ACQ_RD_INDEX u = v.toNat) ∧
      ((s.get R.ACQ_WR_INDEX u + 2 ^ 32 - s.get R.ACQ_RD_INDEX u) % 2 ^ 32 < (v.toNat + 2 ^ 32 - s.get R.ACQ_RD_INDEX u) % 2 ^ 32 →
        t.get R.ACQ_RD_INDEX u = s.get R.ACQ_RD_INDEX u % 2 ^ 32)

/-- R325 to R330. -/
def Obligations.TimingEdges : Prop :=
  (∀ (i : Fin 32) (b : Fin 512) (rising : Bool) (s : State) (e fine stamp : Nat), Stamped s i b rising e fine → (sget [] s.tinFifo i).length < 1024 →
    stamp = (s.now + 2 ^ 64 + e - s.tick) % 2 ^ 40 →
    Runs (.tinEdge i b rising) s (tinPlaces i ++ taintPlaces ++ eventPlaces) ([.tinSeen, .tinLast, .tinFifo, .ivls, .frqs, .taintTick] ++ eventParts) fun t =>
      t.get R.TIN_STATUS_LEVEL i = b2n rising ∧ Counted s t R.TIN_EDGE_CNT_COUNT i ∧ t.tinSeen = s.tinSeen ++ [⟨i, e, fine⟩] ∧
      sget 0 t.tinLast i = e + 1 ∧ SameBut 0 i s.tinLast t.tinLast ∧ t.get R.TIN_STATUS_FILL i = (sget [] s.tinFifo i).length + 1 ∧
      SameBut [] i s.tinFifo t.tinFifo ∧
      sget [] t.tinFifo i = sget [] s.tinFifo i ++ [(stamp % 2 ^ 27 * 2 ^ 9 + fine,
        b2n (clockTaintAt s e != []) * 2 ^ 35 + b2n rising * 2 ^ 27 + 2 ^ 26 + stamp / 2 ^ 27)]) ∧
  (∀ (i : Fin 32) (b : Fin 512) (rising : Bool) (s : State) (e fine : Nat), Stamped s i b rising e fine → clockTaintAt s e = [] →
    (sget [] s.tinFifo i).length < 1024 → s.ivls = [] → s.frqs = [] → s.get R.EVF_SRC_EN (960 + 2 * i) ≠ 0 →
    sget 0 s.chAny (s.get R.EVF_SRC_CH (960 + 2 * i)) = 0 → sget 0 s.chRt (s.get R.EVF_SRC_CH (960 + 2 * i)) = 0 →
    Runs (.tinEdge i b rising) s (tinPlaces i ++ eventPlaces) ([.tinSeen, .tinLast, .tinFifo] ++ eventParts) fun t =>
      sget 0 t.chRt (s.get R.EVF_SRC_CH (960 + 2 * i)) = s.clock + e - s.tick + 1) ∧
  (∀ (i : Fin 32) (b : Fin 512) (rising : Bool) (s : State), (qualified s i rising = false ∨ calibrating s i = true) → mainPowered s = true →
    Runs (.tinEdge i b rising) s [only R.TIN_STATUS_LEVEL i] [] fun t => t.get R.TIN_STATUS_LEVEL i = b2n rising) ∧
  (∀ (i : Fin 32) (b : Fin 512) (rising : Bool) (s : State), mainPowered s = false → exec (.tinEdge i b rising) s = .next s) ∧
  (∀ (i : Fin 32) (b : Fin 512) (rising : Bool) (s : State) (e fine : Nat), mainPowered s = true → qualified s i rising = true → calibrating s i = false →
    (512 * e + fine : Int) = 512 * (s.tick : Int) + tdcPosAt s i b - (s.get R.TIN_DELAY_FACTORY i + sgn 16 (s.get R.TIN_DELAY_USER i)) → fine < 512 →
    sget 0 s.tinLast i ≠ 0 → e ≤ sget 0 s.tinLast i →
    Runs (.tinEdge i b rising) s ([only R.TIN_STATUS_LEVEL i, only R.TIN_STATUS_MISS i, only R.TIN_MISS_CNT_COUNT i] ++ eventPlaces) eventParts fun t =>
      Counted s t R.TIN_MISS_CNT_COUNT i ∧ t.get R.TIN_STATUS_MISS i ≠ 0 ∧
      (s.get R.TIN_STATUS_MISS i = 0 → EventFires s t (960 + 2 * i + 1))) ∧
  (∀ (m : Master) (i : Fin 32) (s : State) (w : Nat × Nat) (rest : List (Nat × Nat)), reaches s m (0xB10018 + i.val * 0x40) false = true →
    sget [] s.tinFifo i = w :: rest → rest.length < 1024 →
    Runs (.tinStampPop m i) s [only R.TIN_STATUS_FILL i, only R.TIN_STAMP_WORD (2 * i), only R.TIN_STAMP_WORD (2 * i + 1)]
      [.tinFifo, .readData, .readPoison] fun t =>
      sget [] t.tinFifo i = rest ∧ SameBut [] i s.tinFifo t.tinFifo ∧ t.get R.TIN_STATUS_FILL i = rest.length ∧ t.readData = w.1 % 2 ^ 36 ∧
      t.get R.TIN_STAMP_WORD (2 * i) = w.1 % 2 ^ 36 ∧ t.get R.TIN_STAMP_WORD (2 * i + 1) = w.2 % 2 ^ 36) ∧
  (∀ (m : Master) (v : BitVec 32) (s : State), reaches s m 0xB38000 true = true → rtHeld s m = false → s.get R.TDC_CAL_STATUS_BUSY = 0 →
    bits v.toNat 5 0 ≤ 33 →
    Runs (.tdcCalibrate m v) s [only R.TDC_CAL_CTRL_SEL 0, only R.TDC_CAL_STATUS_BUSY 0] [.tdcCal] fun t =>
      t.get R.TDC_CAL_CTRL_SEL = bits v.toNat 5 0 ∧ t.get R.TDC_CAL_STATUS_BUSY = 1 ∧
      t.tdcCal = if bits v.toNat 5 0 = 33 then (1, true) else (bits v.toNat 5 0 + 1, false)) ∧
  (∀ (hits : List Nat) (s : State) (i : Nat), s.tdcCal.1 = i + 1 → hits.length = 512 → (∀ h ∈ hits, 512 ≤ h ∧ h ≤ 8192) →
    Runs (.tdcCalDone hits) s ([only R.TDC_CAL_STATUS_BUSY 0, only R.TDC_CAL_STATUS_DONE 0] ++ eventPlaces)
      ([.tdcPos, .tdcHits, .tdcCal] ++ eventParts) fun t =>
      (∀ b < 512, sget 0 t.tdcHits (512 * i + b) = hits.getD b 0) ∧
      (∀ b < 512, tdcPosAt t i b = (narrow ((2 * (hits.take b).sum + hits.getD b 0 : Nat) : Int) 12 11).1.toNat) ∧
      (∀ j < 33, j ≠ i → tdcPosAt t j 0 = tdcPosAt s j 0 ∧ tdcPosAt t j 511 = tdcPosAt s j 511) ∧
      ((s.tdcCal.2 = true ∧ i < 32) → t.tdcCal = (i + 2, true) ∧ t.get R.TDC_CAL_STATUS_BUSY = s.get R.TDC_CAL_STATUS_BUSY) ∧
      (¬ (s.tdcCal.2 = true ∧ i < 32) → t.tdcCal = (0, false) ∧ t.get R.TDC_CAL_STATUS_BUSY = 0 ∧ t.get R.TDC_CAL_STATUS_DONE = 1 ∧
        EventFires s t 1048)) ∧
  (∀ (hits : List Nat) (s : State) (i : Nat), s.tdcCal.1 = i + 1 → hits.length = 512 → (∃ h ∈ hits, h < 512 ∨ 8192 < h) →
    s.get R.TDC_CAL_STATUS_FAIL = 0 → i < 33 →
    Runs (.tdcCalDone hits) s ([only R.TDC_CAL_STATUS_BUSY 0, only R.TDC_CAL_STATUS_DONE 0, only R.TDC_CAL_STATUS_FAIL 0, only R.TDC_CAL_STATUS_FAIL_SEL 0] ++
        eventPlaces) ([.tdcHits, .tdcCal] ++ eventParts) fun t =>
      t.get R.TDC_CAL_STATUS_FAIL = 1 ∧ t.get R.TDC_CAL_STATUS_FAIL_SEL = i ∧ EventFires s t 1049) ∧
  (∀ (hits : List Nat) (s : State), s.tdcCal.1 = 0 → exec (.tdcCalDone hits) s = .next s) ∧
  ∀ (m : Master) (s : State) (i b : Nat), reaches s m 0xB3800C false = true → i = s.get R.TDC_BIN_INDEX_SEL → i ≤ 32 → b = s.get R.TDC_BIN_INDEX_BIN →
    Runs (.tdcBinDataRead m) s [only R.TDC_BIN_INDEX_BIN 0, only R.TDC_BIN_DATA_POS 0, only R.TDC_BIN_DATA_HITS 0] [.readData, .readPoison] fun t =>
      t.readData = tdcPosAt s i b % 2 ^ 11 * 2 ^ 21 + sget 0 s.tdcHits (512 * i + b) % 2 ^ 21 ∧
      t.get R.TDC_BIN_INDEX_BIN = if s.get R.TDC_BIN_INDEX_AUTOINC = 0 then b else (b + 1) % 2 ^ 9

/-- R331, R332. -/
def Obligations.IntervalsAndFrequencies : Prop :=
  (∀ (m : Master) (e : Fin 8) (v : BitVec 32) (s : State), reaches s m (0xB20000 + e.val * 0x100) true = true → s.get R.TDC_MSTATUS_BUSY e = 0 →
    bits v.toNat 29 28 = 0 → instSecure s (528 + bits v.toNat 12 8) = instSecure s (528 + e) →
    instSecure s (528 + bits v.toNat 20 16) = instSecure s (528 + e) → s.tinSeen = [] →
    Runs (.intervalGo m e v) s [only R.TDC_MCTRL_ARM e, only R.TDC_MCTRL_NSTOP e, only R.TDC_MCTRL_STOP e, only R.TDC_MCTRL_START e,
        only R.TDC_MSTATUS_BUSY e, only R.TDC_MSTATUS_CFG_ERR e] [.ivls] fun t =>
      t.get R.TDC_MSTATUS_BUSY e = 1 ∧ t.get R.TDC_MSTATUS_CFG_ERR e = 0 ∧ t.get R.TDC_MCTRL_START e = bits v.toNat 12 8 ∧
      t.get R.TDC_MCTRL_STOP e = bits v.toNat 20 16 ∧ t.get R.TDC_MCTRL_NSTOP e = bits v.toNat 27 24 ∧
      ivl t e = { ivl s e with st := 1, arm := s.tick, ivs := [] } ∧ SameBut {} e s.ivls t.ivls) ∧
  (∀ (m : Master) (e : Fin 8) (v : BitVec 32) (s : State), reaches s m (0xB20000 + e.val * 0x100) true = true → s.get R.TDC_MSTATUS_BUSY e = 0 →
    bits v.toNat 29 28 = 0 → instSecure s (528 + bits v.toNat 12 8) ≠ instSecure s (528 + e) →
    Runs (.intervalGo m e v) s [only R.TDC_MCTRL_ARM e, only R.TDC_MCTRL_NSTOP e, only R.TDC_MCTRL_STOP e, only R.TDC_MCTRL_START e,
        only R.TDC_MSTATUS_CFG_ERR e] [] fun t => t.get R.TDC_MSTATUS_CFG_ERR e = 1) ∧
  (∀ (m : Master) (e : Fin 8) (v : BitVec 32) (s : State), reaches s m (0xB20000 + e.val * 0x100) true = true → s.get R.TDC_MSTATUS_BUSY e ≠ 0 →
    Runs (.intervalGo m e v) s [only R.TDC_MCTRL_ARM e, only R.TDC_MCTRL_NSTOP e, only R.TDC_MCTRL_STOP e, only R.TDC_MCTRL_START e] [] fun t =>
      t.get R.TDC_MCTRL_ARM e = bits v.toNat 29 28 ∧ ivl t e = ivl s e) ∧
  (∀ (i : Fin 32) (b : Fin 512) (rising : Bool) (s : State) (e fine : Nat) (m : Fin 8) (d : Nat), Stamped s i b rising e fine → (ivl s m).st = 2 →
    s.get R.TDC_MCTRL_STOP m = i → e ≤ (ivl s m).e0 + max (s.get R.TDC_MTIMEOUT_TICKS m) 1 → (ivl s m).pos0 < 512 * e + fine → d = 512 * e + fine - (ivl s m).pos0 →
    (ivl s m).ivs.length + 1 = max (s.get R.TDC_MCTRL_NSTOP m) 1 → (ivl s m).ivs.length < 15 → s.get R.TDC_MCTRL_ARM m ≠ 2 →
    Runs (.tinEdge i b rising) s (tinPlaces i ++ taintPlaces ++ eventPlaces) ([.tinSeen, .tinLast, .tinFifo, .ivls, .frqs, .taintTick] ++ eventParts) fun t =>
      t.get R.TDC_MSTATUS_DONE m = 1 ∧ t.get R.TDC_MSTATUS_TIMEOUT m = 0 ∧ t.get R.TDC_MSTATUS_BUSY m = 0 ∧
      t.get R.TDC_MSTATUS_COUNT m = (ivl s m).ivs.length + 1 ∧ t.get R.TDC_MSTART_LO_STAMP_LO m = (ivl s m).stamp % 2 ^ 32 ∧
      (∀ k < 15, t.get R.TDC_MINT_LO_INT_LO (15 * m + k) = ((ivl s m).ivs ++ [d]).getD k 0 % 2 ^ 32) ∧ (ivl t m).st = 0 ∧
      (ivl t m).intHi = ((ivl s m).ivs ++ [d]).map fun x => x % 2 ^ 48 / 2 ^ 32) ∧
  (∀ (m : Fin 8) (s : State), (ivl s m).st = 2 → (ivl s m).e0 + max (s.get R.TDC_MTIMEOUT_TICKS m) 1 ≤ s.tick → s.get R.TDC_MCTRL_ARM m ≠ 2 →
    Runs (.intervalTimeout m) s ([only R.TDC_MSTATUS_DONE m, only R.TDC_MSTATUS_OVERRUN m, only R.TDC_MSTATUS_TIMEOUT m, only R.TDC_MSTATUS_COUNT m,
        only R.TDC_MSTATUS_BUSY m, only R.TDC_MSTART_LO_STAMP_LO m, every R.TDC_MINT_LO_INT_LO] ++ eventPlaces) ([.ivls] ++ eventParts) fun t =>
      t.get R.TDC_MSTATUS_DONE m = 1 ∧ t.get R.TDC_MSTATUS_TIMEOUT m = 1 ∧ t.get R.TDC_MSTATUS_BUSY m = 0 ∧
      t.get R.TDC_MSTATUS_COUNT m = (ivl s m).ivs.length % 2 ^ 4 ∧ (s.get R.TDC_MSTATUS_DONE m ≠ 0 → t.get R.TDC_MSTATUS_OVERRUN m = 1) ∧
      (∀ k < 15, t.get R.TDC_MINT_LO_INT_LO (15 * m + k) = (ivl s m).ivs.getD k 0 % 2 ^ 32) ∧ (ivl t m).st = 0 ∧ SameBut {} m s.ivls t.ivls ∧
      EventFires s t (1024 + m) ∧ EventFires s t (1032 + m)) ∧
  (∀ (m : Fin 8) (s : State), ((ivl s m).st ≠ 2 ∨ s.tick < (ivl s m).e0 + max (s.get R.TDC_MTIMEOUT_TICKS m) 1) → exec (.intervalTimeout m) s = .next s) ∧
  (∀ (m : Master) (f : Fin 4) (v : BitVec 32) (s : State), reaches s m (0xB30000 + f.val * 0x40) true = true → s.get R.TDC_FSTATUS_BUSY f = 0 →
    bits v.toNat 29 28 = 0 → instSecure s (528 + bits v.toNat 20 16) = instSecure s (536 + f) → s.tinSeen = [] →
    Runs (.freqGo m f v) s [only R.TDC_FCTRL_ARM f, only R.TDC_FCTRL_PRESCALE f, only R.TDC_FCTRL_TIN f, only R.TDC_FCTRL_CH f,
        only R.TDC_FSTATUS_BUSY f, only R.TDC_FSTATUS_TRUNC f, only R.TDC_FSTATUS_CFG_ERR f] [.frqs] fun t =>
      t.get R.TDC_FSTATUS_BUSY f = 1 ∧ t.get R.TDC_FSTATUS_CFG_ERR f = 0 ∧ t.get R.TDC_FSTATUS_TRUNC f = 0 ∧ t.get R.TDC_FCTRL_TIN f = bits v.toNat 20 16 ∧
      (frq t f).st = 1 ∧ (frq t f).g0 = s.tick ∧ (frq t f).g = min (max (s.get R.TDC_FGATE_TICKS f) 400) 4000000000 ∧ (frq t f).used = 0 ∧
      SameBut {} f s.frqs t.frqs) ∧
  (∀ (f : Fin 4) (s : State), s.get R.TDC_FCTRL_ARM f = 2 → s.now % (4000 * max (s.get R.CLK_SYNC_CTRL_PERIOD) 1) = 0 → ticking s = true →
    s.get R.TDC_FSTATUS_BUSY f = 0 → instSecure s (528 + s.get R.TDC_FCTRL_TIN f) = instSecure s (536 + f) → s.tinSeen = [] →
    Runs (.freqGateOpen f) s [only R.TDC_FSTATUS_BUSY f, only R.TDC_FSTATUS_TRUNC f, only R.TDC_FSTATUS_CFG_ERR f] [.frqs] fun t =>
      t.get R.TDC_FSTATUS_BUSY f = 1 ∧ (frq t f).st = 1 ∧ (frq t f).g0 = s.tick ∧
      (frq t f).g = min (max (s.get R.TDC_FGATE_TICKS f) 400) 4000000000 ∧ (frq t f).used = 0 ∧ SameBut {} f s.frqs t.frqs) ∧
  (∀ (f : Fin 4) (s : State), (s.get R.TDC_FCTRL_ARM f ≠ 2 ∨ s.now % (4000 * max (s.get R.CLK_SYNC_CTRL_PERIOD) 1) ≠ 0) →
    exec (.freqGateOpen f) s = .next s) ∧
  (∀ (f : Fin 4) (s : State), (frq s f).st = 1 → (frq s f).g0 + (frq s f).g ≤ s.tick →
    Runs (.freqGateEnd f) s [] [.frqs] fun t => frq t f = { frq s f with st := 2 } ∧ SameBut {} f s.frqs t.frqs) ∧
  (∀ (f : Fin 4) (s : State) (d : Nat), (frq s f).st = 2 → 3 ≤ (frq s f).used → d = (frq s f).used * (frq s f).smm - (frq s f).sm * (frq s f).sm → 0 < d →
    Runs (.freqResult f) s ([only R.TDC_FSTATUS_BUSY f, only R.TDC_FSTATUS_DONE f, only R.TDC_FSTATUS_FAULT f, only R.TDC_FSTATUS_N f,
        only R.TDC_FSTART_LO_VALUE f, only R.TDC_FPER_LO_VALUE f, only R.TDC_FFREQ_LO_VALUE f, only R.TDC_FRESID_VALUE f] ++ eventPlaces)
      ([.frqs] ++ eventParts) fun t =>
      t.get R.TDC_FSTATUS_BUSY f = 0 ∧ t.get R.TDC_FSTATUS_DONE f = 1 ∧ t.get R.TDC_FSTATUS_FAULT f = 0 ∧
      t.get R.TDC_FSTATUS_N f = (frq s f).used % 2 ^ 21 ∧ t.get R.TDC_FSTART_LO_VALUE f = (frq s f).start % 2 ^ 32 ∧
      t.get R.TDC_FPER_LO_VALUE f =
        (divEven ((((frq s f).used * (frq s f).smt - (frq s f).sm * (frq s f).st_) * 2 ^ 23 : Nat) : Int) d).toNat % 2 ^ 32 ∧
      EventFires s t (1040 + f) ∧ (frq t f).st = 0 ∧ (frq t f).startHi = (frq s f).start / 2 ^ 32 ∧ SameBut {} f s.frqs t.frqs) ∧
  (∀ (f : Fin 4) (s : State), (frq s f).st = 2 → (frq s f).used < 3 →
    Runs (.freqResult f) s ([only R.TDC_FSTATUS_BUSY f, only R.TDC_FSTATUS_FAULT f, only R.TDC_FSTATUS_N f] ++ eventPlaces) ([.frqs] ++ eventParts) fun t =>
      t.get R.TDC_FSTATUS_BUSY f = 0 ∧ t.get R.TDC_FSTATUS_FAULT f = 1 ∧ t.get R.TDC_FSTATUS_N f = (frq s f).used ∧ EventFires s t (1044 + f) ∧
      (frq t f).st = 0) ∧
  ∀ (f : Fin 4) (s : State), ((frq s f).st ≠ 1 → exec (.freqGateEnd f) s = .next s) ∧ ((frq s f).st ≠ 2 → exec (.freqResult f) s = .next s)

/-! ### The event fabric, mailboxes and locks (13_event_fabric_and_mailboxes.md) -/

namespace Sys2Proof.Machine

/-- What an activation, a delivery or a mailbox operation may write beside an event. -/
def taskPlaces (k : Nat) : List Place :=
  [only R.EVF_TASKST_PENDING k, only R.EVF_TASKST_OVERRUN k, only R.EVF_TASKST_COALESCE k, only R.EVF_STATUS_OVERRUN 0]

end Sys2Proof.Machine

/-- R25, R336 to R346. -/
def Obligations.EventFabric : Prop :=
  (∀ (src : Fin 1536) (s : State) (c : Nat), sourcePowered s src = true → rtSource s src = true → s.get R.EVF_SRC_EN src ≠ 0 → c = s.get R.EVF_SRC_CH src →
    sget 0 s.chRt c ≠ s.clock + 1 → (sget 0 s.chRt c = 0 ∨ sget 0 s.chRt c + 3 < s.clock + 1) →
    Runs (.eventFire src) s eventPlaces eventParts fun t =>
      sget 0 t.chRt c = s.clock + 1 ∧ sget 0 t.chAny c = s.clock + 1 ∧ SameBut 0 c s.chRt t.chRt ∧ SameBut 0 c s.chAny t.chAny ∧
      t.deliver = s.deliver ++ [⟨c, s.tick⟩] ∧ t.fired = s.fired ++ [⟨c, s.tick⟩] ∧
      ∀ k ∈ [c, c + 512], s.get R.EVF_TASK_DIRECT_EN k ≠ 0 → s.get R.EVF_TASK_MUX_EN k = 0 → (512 ≤ k ∨ s.get R.CLP_CTRL_MODE (k / 8) ≠ 1) →
        consumerPowered s k = true → c < 512 → sget [] t.arrivals k = sget [] s.arrivals k ++ [s.clock]) ∧
  (∀ (src : Fin 1536) (s : State) (c : Nat), src.val < 1493 → sourcePowered s src = true → rtSource s src = false → s.get R.EVF_SRC_EN src ≠ 0 → c = s.get R.EVF_SRC_CH src →
    (sget 0 s.chAny c = 0 ∨ sget 0 s.chAny c + 5 ≤ s.clock + 1) →
    Runs (.eventFire src) s eventPlaces eventParts fun t =>
      sget 0 t.chAny c = s.clock + 1 ∧ SameBut 0 c s.chAny t.chAny ∧ t.chRt = s.chRt ∧ t.deliver = s.deliver ∧ t.fired = s.fired) ∧
  (∀ (src : Fin 1536) (s : State) (c : Nat), src.val < 1493 → sourcePowered s src = true → s.get R.EVF_SRC_EN src ≠ 0 → c = s.get R.EVF_SRC_CH src →
    ((rtSource s src = true ∧ s.cyc.refused.contains c = false ∧ sget 0 s.chRt c ≠ s.clock + 1 ∧ sget 0 s.chRt c ≠ 0 ∧ s.clock + 1 ≤ sget 0 s.chRt c + 3) ∨
      (rtSource s src = false ∧ sget 0 s.chAny c ≠ 0 ∧ s.clock + 1 ≤ sget 0 s.chAny c + 2)) → s.get R.EVF_STATUS_REFUSED ≠ 0 →
    Runs (.eventFire src) s [only R.EVF_CHST_REFUSED c, only R.EVF_CHST_REFUSE_CNT c, only R.EVF_STATUS_REFUSED 0] [] fun t =>
      t.get R.EVF_CHST_REFUSED c = 1 ∧ t.get R.EVF_CHST_REFUSE_CNT c = min (s.get R.EVF_CHST_REFUSE_CNT c + 1) 0xFFFF ∧ t.get R.EVF_STATUS_REFUSED = 1) ∧
  (∀ (src : Fin 1536) (s : State) (c : Nat), sourcePowered s src = true → s.get R.EVF_SRC_EN src ≠ 0 → c = s.get R.EVF_SRC_CH src →
    rtSource s src = true → s.cyc.refused.contains c = false → sget 0 s.chRt c ≠ s.clock + 1 → sget 0 s.chRt c ≠ 0 → s.clock + 1 ≤ sget 0 s.chRt c + 3 → s.get R.EVF_STATUS_REFUSED = 0 →
    Runs (.eventFire src) s eventPlaces eventParts fun t =>
      t.get R.EVF_CHST_REFUSED c = 1 ∧ t.get R.EVF_STATUS_REFUSED = 1 ∧ t.chRt = s.chRt ∧ t.deliver = s.deliver ∧ EventFires s t 1485) ∧
  (∀ (src : Fin 1536) (s : State), (sourcePowered s src = false ∨ s.get R.EVF_SRC_EN src = 0 ∨ 1493 ≤ src.val) → exec (.eventFire src) s = .next s) ∧
  (∀ (m : Master) (c : Fin 512) (s : State), reaches s m 0x400010 true = true → (masterSecure m = true ∨ s.get R.EVF_CH_SECURE c = 0) →
    s.get R.EVF_CH_OWNER c = masterCode m → sget 0 s.chAny c = 0 →
    Runs (.softwareFire m c) s eventPlaces eventParts fun t =>
      sget 0 t.chAny c = s.clock + 1 ∧ SameBut 0 c s.chAny t.chAny ∧ t.chRt = s.chRt ∧ t.deliver = s.deliver) ∧
  (∀ (m : Master) (c : Fin 512) (s : State), reaches s m 0x400010 true = true → (masterSecure m = true ∨ s.get R.EVF_CH_SECURE c = 0) →
    s.get R.EVF_CH_OWNER c ≠ masterCode m →
    Runs (.softwareFire m c) s ([only R.EVF_STATUS_OWNER_REFUSED 0] ++ eventPlaces) eventParts fun t =>
      t.get R.EVF_STATUS_OWNER_REFUSED = 1 ∧ (s.get R.EVF_STATUS_OWNER_REFUSED = 0 → EventFires s t 1485)) ∧
  (∀ (m : Master) (c : Fin 512) (s : State), reaches s m 0x400010 true = true → masterSecure m = false → s.get R.EVF_CH_SECURE c ≠ 0 →
    Runs (.softwareFire m c) s (violationPlaces ++ eventPlaces) eventParts fun t => Counted s t R.SEC_VIOL_CNT_COUNT ∧ EventFires s t 1473) ∧
  (∀ (c : Fin 512) (s : State) (x : Nat), s.deliver = [⟨c, x⟩] → s.tick = x + 3 → s.slots = [] → s.get R.EVF_TASK_DIRECT_EN c ≠ 0 →
    s.listed R.EVF_TASK_MUX_EN = [] → s.get R.CLP_CTRL_MODE (c / 8) = 1 → sget 0 s.taskLast c ≠ s.tick + 1 → s.get R.EVF_TASKST_PENDING c = 0 →
    (∀ m < 8, s.get R.TDC_MCTRL_ARM m ≠ 1) → (∀ f < 4, s.get R.TDC_FCTRL_ARM f ≠ 1) →
    Runs (.eventDelivery c) s [only R.EVF_TASKST_PENDING c, only R.CLP_EVT_EPEND (c / 8), only R.CLP_EV_MERGE_CNT_COUNT (c / 8)] [.deliver, .taskLast] fun t =>
      t.deliver = [] ∧ t.get R.EVF_TASKST_PENDING c = 1 ∧ bit (t.get R.CLP_EVT_EPEND (c / 8)) (8 + c % 8) = true ∧ sget 0 t.taskLast c = s.tick + 1) ∧
  (∀ (c : Fin 512) (s : State) (x : Nat) (m : Fin 8), s.deliver = [⟨c, x⟩] → s.tick = x + 3 → s.slots = [] → s.get R.EVF_TASK_DIRECT_EN c = 0 →
    s.listed R.EVF_TASK_MUX_EN = [] → s.get R.TDC_MCTRL_ARM m = 1 → s.get R.TDC_MCH_CH m = c → (∀ k < 8, k ≠ m → s.get R.TDC_MCTRL_ARM k ≠ 1) →
    (∀ f < 4, s.get R.TDC_FCTRL_ARM f ≠ 1) → s.get R.TDC_MSTATUS_BUSY m = 0 → ivlWorldOk s m = true → s.tinSeen = [] →
    Runs (.eventDelivery c) s [only R.TDC_MSTATUS_BUSY m, only R.TDC_MSTATUS_CFG_ERR m] [.deliver, .ivls] fun t =>
      t.get R.TDC_MSTATUS_BUSY m = 1 ∧ (ivl t m).st = 1 ∧ (ivl t m).arm = x) ∧
  (∀ (c : Fin 512) (s : State), (s.deliver.all fun f => !(f.ch == c.val && decide (f.tick + 3 ≤ s.tick))) = true → exec (.eventDelivery c) s = .next s) ∧
  (∀ (k : Fin 1024) (s : State) (a : Nat) (rest : List Nat), s.xtalFail = false → sget [] s.arrivals k = a :: rest → (904 ≤ k.val ∨ consumerPowered s k = false) →
    rest.head? ≠ some a →
    Runs (.taskActivation k) s [] [.arrivals] fun t => sget [] t.arrivals k = rest ∧ SameBut [] k s.arrivals t.arrivals) ∧
  (∀ (k : Fin 1024) (s : State) (a : Nat) (rest : List Nat), s.xtalFail = false → sget [] s.arrivals k = a :: rest → k.val < 904 → consumerPowered s k = true →
    s.get R.EVF_TASKST_PENDING k = 0 → consumerBusy s k = false →
    Runs (.taskActivation k) s (taskPlaces k ++ [every R.GLB_PLN_STATUS_STATE, every R.CLP_EVT_EPEND, every R.CLP_EV_MERGE_CNT_COUNT] ++ eventPlaces)
      ([.arrivals, .msix] ++ eventParts) fun t =>
      sget [] t.arrivals k = (if rest.head? = some a then rest.drop 1 else rest) ∧ SameBut [] k s.arrivals t.arrivals ∧ t.get R.EVF_TASKST_PENDING k = 1 ∧
      t.get R.EVF_TASKST_COALESCE k = (if rest.head? = some a then min (s.get R.EVF_TASKST_COALESCE k + 1) 0xFFFF else s.get R.EVF_TASKST_COALESCE k) ∧
      (k.val < 512 → bit (t.get R.CLP_EVT_EPEND (k / 8)) (8 + k % 8) = true) ∧
      (∀ j < 8, t.get R.GLB_PLN_STATUS_STATE j =
        if 512 ≤ k.val ∧ k.val < 768 ∧ j = (k.val - 512) / 32 ∧ s.get R.EVF_TASK_WAKE k ≠ 0 ∧ s.get R.GLB_PLN_STATUS_STATE j = 3 then 2
        else s.get R.GLB_PLN_STATUS_STATE j) ∧
      (¬ (768 ≤ k.val ∧ k.val < 896) → t.msix = s.msix)) ∧
  (∀ (k : Fin 1024) (s : State) (a : Nat) (rest : List Nat), s.xtalFail = false → sget [] s.arrivals k = a :: rest → 512 ≤ k.val → k.val < 904 →
    consumerPowered s k = true → (s.get R.EVF_TASKST_PENDING k ≠ 0 ∨ consumerBusy s k = true) →
    Runs (.taskActivation k) s (taskPlaces k ++ [only R.MON_INJ_RES_OVERRUN (k.val - 896), only R.MON_STATUS_INJ_OVERRUN 0] ++ eventPlaces) ([.arrivals] ++ eventParts) fun t =>
      t.get R.EVF_TASKST_OVERRUN k = 1 ∧ t.get R.EVF_STATUS_OVERRUN = 1 ∧ t.get R.EVF_TASKST_PENDING k = s.get R.EVF_TASKST_PENDING k ∧
      (896 ≤ k.val → s.get R.MON_INJ_CTRL_SRC (k.val - 896) = 1 → t.get R.MON_INJ_RES_OVERRUN (k.val - 896) = 1 ∧ t.get R.MON_STATUS_INJ_OVERRUN = 1) ∧
      (s.get R.EVF_STATUS_OVERRUN = 0 → EventFires s t 1485)) ∧
  (∀ (k : Fin 1024) (s : State), (s.xtalFail = true ∨ sget [] s.arrivals k = []) → exec (.taskActivation k) s = .next s) ∧
  (∀ (p : BitVec 16) (s : State) (h : HPoint), s.xtalFail = false → sget none s.points p.toNat = some h → h.kind = 1 → running s = true → shotTick s = h.cut →
    Runs (.evhCut p) s [] [.fresh, .evhLatch, .evhSent] fun t =>
      sget false t.evhLatch p.toNat = (sget 0 s.cyc.evh p.toNat != 0) ∧ SameBut false p.toNat s.evhLatch t.evhLatch ∧ ∃ d < 7, t.evhSent = s.evhSent ++
        [⟨s.tick + 2 + d, h.queue, (s.get R.CLK_SHOT_COUNT * sget 0 s.nq h.queue + h.pos) % 65536,
          if sget 0 s.cyc.evh p.toNat = 0 then b2n (sget false s.evhLatch p.toNat) else sget 0 s.cyc.evh p.toNat - 1⟩]) ∧
  ∀ (p : BitVec 16) (s : State), (s.xtalFail = true ∨ sget none s.points p.toNat = none ∨ running s = false) → exec (.evhCut p) s = .next s

/-- R348 to R354, R356 to R358. -/
def Obligations.MailboxesAndLocks : Prop :=
  (∀ (m : Master) (k : Fin 32) (b : Bool) (v : BitVec 64) (s : State) (e : Nat), reaches s m (0x500000 + k.val * 0x100 + b2n b * 0x40) true = true →
    e = 2 * k.val + b2n b → s.get R.MBX_CFG_CFG_ERR k = 0 → (mbxIn s (partner e)).length < 8 →
    Runs (.mbxTxWrite m k b v) s [only R.MBX_RXSTAT_FILL (partner e), only R.MBX_TXSTAT_FILL e] [.mbxQ] fun t =>
      QueueIs s t (partner e) (mbxIn s (partner e) ++ [⟨v.toNat % 2 ^ 36, masterCode m, s.get R.MBX_EPOCH_EPOCH (masterCode m)⟩])) ∧
  (∀ (m : Master) (k : Fin 32) (b : Bool) (v : BitVec 64) (s : State) (e : Nat), reaches s m (0x500000 + k.val * 0x100 + b2n b * 0x40) true = true →
    e = 2 * k.val + b2n b → s.get R.MBX_CFG_CFG_ERR k = 0 → (mbxIn s (partner e)).length = 8 →
    Runs (.mbxTxWrite m k b v) s ([only R.MBX_RXSTAT_FILL (partner e), only R.MBX_TXSTAT_FILL e, only R.MBX_TXSTAT_COLLIDE e,
        only R.MBX_RXSTAT_COLLIDE (partner e), only R.MBX_COLLIDE_CNT_COUNT k] ++ eventPlaces) ([.mbxQ] ++ eventParts) fun t =>
      QueueIs s t (partner e) ((mbxIn s (partner e)).take 7 ++ [⟨v.toNat % 2 ^ 36, masterCode m, s.get R.MBX_EPOCH_EPOCH (masterCode m)⟩]) ∧
      t.get R.MBX_TXSTAT_COLLIDE e = 1 ∧ t.get R.MBX_RXSTAT_COLLIDE (partner e) = 1 ∧ Counted s t R.MBX_COLLIDE_CNT_COUNT k ∧
      (s.get R.MBX_TXSTAT_COLLIDE e = 0 → EventFires s t (1152 + e))) ∧
  (∀ (m : Master) (k : Fin 32) (b : Bool) (v : BitVec 64) (s : State), reaches s m (0x500000 + k.val * 0x100 + b2n b * 0x40) true = true →
    s.get R.MBX_CFG_CFG_ERR k ≠ 0 → exec (.mbxTxWrite m k b v) s = .next s) ∧
  (∀ (m : Master) (k : Fin 32) (b : Bool) (s : State) (e : Nat) (x : MbxEnt) (rest : List MbxEnt),
    reaches s m (0x500008 + k.val * 0x100 + b2n b * 0x40) false = true → e = 2 * k.val + b2n b → mbxIn s e = x :: rest → rest.length < 8 →
    Runs (.mbxRxPop m k b) s [only R.MBX_RX_WORD e, only R.MBX_TXSTAT_DB_PEND (partner e), only R.MBX_TXSTAT_FILL (partner e), only R.MBX_RXSTAT_FILL e,
        only R.MBX_RXMETA_VALID e, only R.MBX_RXMETA_ORPHAN e, only R.MBX_RXMETA_EPOCH e, only R.MBX_RXMETA_SENDER e]
      [.mbxQ, .mbxRing, .readData, .readPoison] fun t =>
      QueueIs s t e rest ∧ RingAccepted t e ∧ t.readData = x.word % 2 ^ 36 ∧ t.get R.MBX_RXMETA_VALID e = 1 ∧
      t.get R.MBX_RXMETA_ORPHAN e = (if x.epoch = s.get R.MBX_EPOCH_EPOCH x.sender then 0 else 1) ∧ t.get R.MBX_RXMETA_EPOCH e = x.epoch % 2 ^ 16 ∧
      t.get R.MBX_RXMETA_SENDER e = x.sender % 2 ^ 8) ∧
  (∀ (m : Master) (k : Fin 32) (b : Bool) (s : State) (e : Nat), reaches s m (0x500008 + k.val * 0x100 + b2n b * 0x40) false = true →
    e = 2 * k.val + b2n b → mbxIn s e = [] →
    Runs (.mbxRxPop m k b) s [only R.MBX_RX_WORD e, only R.MBX_TXSTAT_DB_PEND (partner e), only R.MBX_RXMETA_VALID e] [.mbxRing, .readData, .readPoison] fun t =>
      t.readData = 0 ∧ t.get R.MBX_RXMETA_VALID e = 0 ∧ RingAccepted t e) ∧
  (∀ (m : Master) (k : Fin 32) (b : Bool) (s : State) (e : Nat), reaches s m (0x500018 + k.val * 0x100 + b2n b * 0x40) false = true →
    e = 2 * k.val + b2n b →
    Runs (.rxstatRead m k b) s [only R.MBX_TXSTAT_DB_PEND (partner e)] [.mbxRing, .readData, .readPoison] fun t => RingAccepted t e ∧
      t.readData = (s.get R.MBX_RXSTAT_DB e * 2 ^ 31 + s.get R.MBX_RXSTAT_COLLIDE e * 2 ^ 30 + s.get R.MBX_RXSTAT_FILL e) % 2 ^ 32) ∧
  (∀ (m : Master) (k : Fin 32) (b : Bool) (s : State) (e : Nat), reaches s m (0x500010 + k.val * 0x100 + b2n b * 0x40) true = true →
    e = 2 * k.val + b2n b → s.get R.MBX_CFG_CFG_ERR k = 0 →
    Runs (.mbxDoorbell m k b) s ([only R.MBX_RXSTAT_DB (partner e), only R.MBX_TXSTAT_DB_PEND e, only R.GLB_PLN_STATUS_STATE 0, every R.CLP_EVT_EPEND,
        every R.CLP_EV_MERGE_CNT_COUNT] ++ eventPlaces) ([.mbxRing] ++ eventParts) fun t =>
      t.get R.MBX_RXSTAT_DB (partner e) = 1 ∧ EventFires s t (1152 + partner e) ∧
      (s.get R.MBX_TXSTAT_DB_PEND e = 0 → s.cyc.rxRead.contains (partner e) = false →
        t.get R.MBX_TXSTAT_DB_PEND e = 1 ∧ sget 0 t.mbxRing e = s.clock + 1 ∧ SameBut 0 e s.mbxRing t.mbxRing) ∧
      ((s.get R.MBX_TXSTAT_DB_PEND e ≠ 0 ∨ s.cyc.rxRead.contains (partner e) = true) →
        t.get R.MBX_TXSTAT_DB_PEND e = s.get R.MBX_TXSTAT_DB_PEND e ∧ t.mbxRing = s.mbxRing) ∧
      (partner e = 1 → s.get R.GLB_PLN_STATUS_STATE 0 = 3 → t.get R.GLB_PLN_STATUS_STATE 0 = 2) ∧
      (∀ n < 64, party s (partner e) = 0x40 + n → (s.get R.CLP_CTRL_MODE n = 1 ∨ s.get R.CLP_CTRL_MODE n = 2) → bit (t.get R.CLP_EVT_EPEND n) 4 = true)) ∧
  (∀ (k : Fin 32) (b : Bool) (s : State) (e : Nat), s.xtalFail = false → e = 2 * k.val + b2n b → s.get R.MBX_TXSTAT_DB_PEND e ≠ 0 → s.get R.MBX_TIMEOUT_MICROSECONDS k ≠ 0 →
    sget 0 s.mbxRing e + 400 * (s.get R.MBX_TIMEOUT_MICROSECONDS k - 1) ≤ s.clock + 1 →
    Runs (.mbxTimeout k b) s ([only R.MBX_TXSTAT_TIMEOUT e, only R.MBX_TXSTAT_DB_PEND e] ++ eventPlaces) ([.mbxRing] ++ eventParts) fun t =>
      t.get R.MBX_TXSTAT_TIMEOUT e = 1 ∧ t.get R.MBX_TXSTAT_DB_PEND e = 0 ∧ SameBut 0 e s.mbxRing t.mbxRing ∧ EventFires s t (1152 + e)) ∧
  (∀ (k : Fin 32) (b : Bool) (s : State), (s.xtalFail = true ∨ s.get R.MBX_TXSTAT_DB_PEND (2 * k.val + b2n b) = 0 ∨ s.get R.MBX_TIMEOUT_MICROSECONDS k = 0) →
    exec (.mbxTimeout k b) s = .next s) ∧
  (∀ (p : BitVec 8) (s : State), isParty p.toNat = true →
    Runs (.partyReset p) s ([only R.MBX_EPOCH_EPOCH p.toNat, every R.MBX_TXSTAT_FLUSH, every R.MBX_TXSTAT_DB_PEND, every R.MBX_TXSTAT_FLUSHED,
        every R.MBX_TXSTAT_FILL, every R.MBX_RXSTAT_FILL] ++ eventPlaces) ([.mbxQ, .mbxRing] ++ eventParts) fun t =>
      t.get R.MBX_EPOCH_EPOCH p.toNat = (s.get R.MBX_EPOCH_EPOCH p.toNat + 1) % 2 ^ 16 ∧
      (∀ e < 64, party s e = p.toNat → mbxIn t e = [] ∧ RingAccepted t e) ∧
      (∀ e < 64, party s e = p.toNat → t.get R.MBX_TXSTAT_FLUSH (partner e) = 1 ∧
        t.get R.MBX_TXSTAT_FLUSHED (partner e) = min (s.get R.MBX_TXSTAT_FLUSHED (partner e) + (mbxIn s e).length) 255) ∧
      (∀ e < 64, party s e = p.toNat → EventFires s t (1152 + partner e)) ∧
      ∀ e < 64, party s e ≠ p.toNat → mbxIn t e = mbxIn s e ∧ sget 0 t.mbxRing (partner e) = sget 0 s.mbxRing (partner e)) ∧
  (∀ (p : BitVec 8) (s : State), isParty p.toNat = false → exec (.partyReset p) s = .next s) ∧
  (∀ (m : Master) (k : Fin 32) (v : BitVec 32) (s : State) (a b : Nat), reaches s m (0x500080 + k.val * 0x100) true = true → k ≠ 0 → a = bits v.toNat 7 0 →
    b = bits v.toNat 15 8 →
    Runs (.mbxCfgWrite m k v) s ([only R.MBX_CFG_END_A k, only R.MBX_CFG_END_B k, only R.MBX_CFG_CFG_ERR k, every R.MBX_TXSTAT_FLUSH,
        every R.MBX_TXSTAT_DB_PEND, every R.MBX_TXSTAT_FLUSHED, every R.MBX_TXSTAT_FILL, every R.MBX_RXSTAT_FILL] ++ eventPlaces)
      ([.mbxQ, .mbxRing] ++ eventParts) fun t =>
      t.get R.MBX_CFG_END_A k = a ∧ t.get R.MBX_CFG_END_B k = b ∧ mbxIn t (2 * k) = [] ∧ mbxIn t (2 * k + 1) = [] ∧
      (∀ e < 64, e / 2 ≠ k → mbxIn t e = mbxIn s e) ∧
      (t.get R.MBX_CFG_CFG_ERR k = 1 ↔ ((a = b ∧ 0x40 ≤ a ∧ a < 0x80) ∨ ((List.range 64).any fun e => decide (e / 2 ≠ k.val) &&
        (decide (0x40 ≤ party s e ∧ party s e < 0x80) && (party s e == a || party s e == b))) = true))) ∧
  (∀ (m : Master) (v : BitVec 32) (s : State), reaches s m 0x500080 true = true →
    Runs (.mbxCfgWrite m 0 v) s [only R.MBX_CFG_END_A 0, only R.MBX_CFG_END_B 0] [] fun t =>
      t.get R.MBX_CFG_END_A 0 = s.get R.MBX_CFG_END_A 0 % 2 ^ 8 ∧ t.get R.MBX_CFG_END_B 0 = s.get R.MBX_CFG_END_B 0 % 2 ^ 8) ∧
  (∀ (m : Master) (r : Fin 63) (k : Fin 64) (s : State), reaches s m (0x580100 + r.val * 0x100 + k.val * 4) false = true → s.get R.LCK_STATE_HELD k = 0 →
    Runs (.lockAcquire m r k) s [only R.LCK_STATE_HELD k, only R.LCK_STATE_OWNER k, only R.LCK_ACQ_OWNER (64 * r + k)] [.readData, .readPoison] fun t =>
      t.readData = 0 ∧ t.get R.LCK_STATE_HELD k = 1 ∧ t.get R.LCK_STATE_OWNER k = r + 1) ∧
  (∀ (m : Master) (r : Fin 63) (k : Fin 64) (s : State), reaches s m (0x580100 + r.val * 0x100 + k.val * 4) false = true → s.get R.LCK_STATE_HELD k ≠ 0 →
    Runs (.lockAcquire m r k) s [only R.LCK_ACQ_OWNER (64 * r + k)] [.readData, .readPoison] fun t => t.readData = s.get R.LCK_STATE_OWNER k % 2 ^ 6) ∧
  (∀ (m : Master) (r : Fin 63) (k : Fin 64) (v : BitVec 32) (s : State), reaches s m (0x580100 + r.val * 0x100 + k.val * 4) true = true →
    s.get R.LCK_STATE_HELD k ≠ 0 → s.get R.LCK_STATE_OWNER k = r + 1 →
    Runs (.lockRelease m r k v) s [only R.LCK_STATE_HELD k, only R.LCK_STATE_OWNER k, only R.LCK_ACQ_OWNER (64 * r + k)] [] fun t =>
      t.get R.LCK_STATE_HELD k = 0 ∧ t.get R.LCK_STATE_OWNER k = 0) ∧
  (∀ (m : Master) (r : Fin 63) (k : Fin 64) (v : BitVec 32) (s : State), reaches s m (0x580100 + r.val * 0x100 + k.val * 4) true = true →
    (s.get R.LCK_STATE_HELD k = 0 ∨ s.get R.LCK_STATE_OWNER k ≠ r + 1) →
    Runs (.lockRelease m r k v) s [only R.LCK_STATUS_FOREIGN 0, only R.LCK_ACQ_OWNER (64 * r + k)] [] fun t => t.get R.LCK_STATUS_FOREIGN = 1) ∧
  ∀ (m : Master) (k : Fin 64) (v : BitVec 32) (s : State), reaches s m (0x580000 + k.val * 4) true = true →
    Runs (.lockForceRelease m k v) s [only R.LCK_STATE_HELD k, only R.LCK_STATE_OWNER k, only R.LCK_FORCE_CNT_COUNT 0] [] fun t =>
      t.get R.LCK_STATE_HELD k = 0 ∧ t.get R.LCK_STATE_OWNER k = 0 ∧ Counted s t R.LCK_FORCE_CNT_COUNT

/-! ### The service arbiters (14_service_plane_and_host.md) -/

namespace Sys2Proof.Machine

/-- What a cycle of an arbiter may write. -/
def arbPlaces : List Place :=
  [every R.GLB_PLN_HLOCK_EXPIRED, every R.GLB_PLN_HLOCK_NEST, every R.GLB_PLN_HLOCK_ACTIVE, every R.GLB_PLN_HLOCK_OPEN, every R.SVA_CTRL_PENDING,
    every R.SVA_OWED_MAX, every R.SVA_OWED_NOW, every R.SVA_LFSR_LFSR, every R.SVA_VOID_CNT_COUNT, every R.SVA_SKIP_CNT_COUNT,
    every R.SVA_NEST_CNT_COUNT, every R.SVA_EXPIRE_CNT_COUNT, every R.SVA_REQ_LOSSES, every R.SVA_ACT_ENTRY]

/-- The arbiter of stack `t` has a cycle: HBM is trained and the service clock runs (R98, R374). -/
abbrev ArbRuns (s : State) (t : Nat) : Prop := (arb s t).on = true ∧ s.xtalFail = false

/-- Lane bulk holds the locked sequence of stack `t` and asks for a second one (R372). -/
def arbSecond (s : State) (t : Nat) (lock : BitVec 16) : Bool := decide ((arb s t).lockOwner = some 10) && bit lock.toNat 10

/-- Requester `r` requests on stack `t` and is not refused: for holding a locked sequence on the other stack, or for asking for a second one here
(R372). -/
def arbReq (s : State) (t : Nat) (q lock : BitVec 16) (r : Nat) : Bool :=
  bit q.toNat r && (arb s (1 - t)).lockOwner != some r && !(decide (r = 10) && arbSecond s t lock)

/-- AGE of requester `r` in this cycle (R368). -/
def arbAged (s : State) (t : Nat) (q lock : BitVec 16) (r : Nat) : Nat :=
  if arbReq s t q lock r then min ((arb s t).age.getD r 0 + 1) 4096 else (arb s t).age.getD r 0

/-- The eligible requesters, E of R368. -/
def arbEligible (s : State) (t : Nat) (q lock : BitVec 16) : List Nat :=
  (List.range 16).filter fun r => arbReq s t q lock r && decide (0 < s.get R.SVA_REQ_TICKETS (16 * t + r)) && decide ((arb s t).backoff.getD r 0 = 0)

/-- Is the decision for the first cycle of a table (R374)? -/
def arbAtWrap (s : State) (t : Nat) : Bool := ((arb s t).cycle + 1) % 256 == 0

/-- The slot-table entry of the cycle decided (R368, R374). -/
def arbEntry (s : State) (t : Nat) : Nat :=
  if arbAtWrap s t && s.get R.SVA_CTRL_PENDING t != 0 then s.get R.SVA_SLOT_ENTRY (256 * t)
  else s.get R.SVA_ACT_ENTRY (256 * t + ((arb s t).cycle + 1) % 256)

/-- OWED once the entry of this cycle has been appended (R368). -/
def arbOwed (s : State) (t : Nat) : List (Nat × Nat) :=
  if bit (arbEntry s t) 15 then ((arb s t).owed ++ [(bits (arbEntry s t) 14 12, bits (arbEntry s t) 11 0)]).take 64 else (arb s t).owed

/-- The reserved owners that request. -/
def arbOwners (res : List (Fin 3 × Fin 512)) : List (Nat × Nat) := res.map fun p => (p.1.val, p.2.val)

/-- The grant for this cycle finds its owner not requesting (R369). -/
def arbVoided (s : State) (t : Nat) (q : BitVec 16) (res : List (Fin 3 × Fin 512)) : Bool :=
  match (arb s t).grant with
  | none => false
  | some r => if r = 16 then !(arbOwners res).contains (arb s t).resGrant else !bit q.toNat r

/-- The owner of the locked sequence goes on with it, for fewer than 64 beats so far (R372). -/
def arbHolds (s : State) (t : Nat) (lock : BitVec 16) (keep : Bool) : Bool :=
  match (arb s t).lockOwner with
  | none => false
  | some r => keep && !arbSecond s t lock && (decide (8 ≤ r) || s.get R.GLB_PLN_HLOCK_OPEN r != 0) && decide ((arb s t).lockBeats < 64)

/-- The draw register before a draw: a written seed enters at a wrap. -/
def arbLfsr (s : State) (t : Nat) : Nat := if arbAtWrap s t then (arb s t).seed.getD (arb s t).lfsr else (arb s t).lfsr

/-- The draw register moved on, by x^32 + x^22 + x^2 + x + 1 (R368). -/
def arbDraw (s : State) (t : Nat) : Nat :=
  let x := arbLfsr s t
  x * 2 % 2 ^ 32 + b2n (bit x 31 ^^ bit x 21 ^^ bit x 1 ^^ bit x 0)

/-- TICKETS of several requesters, summed. -/
def arbTickets (s : State) (t : Nat) (l : List Nat) : Nat := (l.map fun r => s.get R.SVA_REQ_TICKETS (16 * t + r)).sum

/-- The locked sequence that the winner `w` asked for has begun, and no other (R372). -/
abbrev ArbLocks (s u : State) (t : Nat) (lock : BitVec 16) (w : Nat) : Prop :=
  ((w < 8 ∧ s.get R.GLB_PLN_HLOCK_OPEN w ≠ 0 ∧ s.get R.GLB_PLN_HLOCK_ACTIVE w = 0) ∨ (w = 10 ∧ bit lock.toNat 10 = true) →
        (arb u t).lockOwner = some w ∧ (arb u t).lockBeats = 1 ∧ (w < 8 → u.get R.GLB_PLN_HLOCK_ACTIVE w = 1)) ∧
      ((w < 8 ∧ (s.get R.GLB_PLN_HLOCK_OPEN w = 0 ∨ s.get R.GLB_PLN_HLOCK_ACTIVE w ≠ 0)) ∨ (w = 10 ∧ bit lock.toNat 10 = false) ∨
        (8 ≤ w ∧ w ≠ 10) → (arb u t).lockOwner = none)

/-- Requester `w` has won against `others` (R368), a pool for the oldest of its sources that wait (R367); backoffs have counted down. -/
abbrev ArbWon (s u : State) (t : Nat) (q lock : BitVec 16) (w : Nat) (others : List Nat) : Prop :=
  (arb u t).grant = some w ∧ (arb u t).served = ((poolWait s t (arb s t).wait).find? fun p => p.1 == w).map (·.2) ∧ (arb u t).owed = [] ∧
    u.get R.SVA_REQ_LOSSES (16 * t + w) = 0 ∧ (arb u t).age.getD w 0 = 0 ∧
    (∀ r < 16, r ≠ w → (arb u t).age.getD r 0 = arbAged s t q lock r) ∧
    (∀ r ∈ others, u.get R.SVA_REQ_LOSSES (16 * t + r) = min (s.get R.SVA_REQ_LOSSES (16 * t + r) + 1) 10 ∧
      (arb u t).backoff.getD r 0 = 2 ^ min (s.get R.SVA_REQ_LOSSES (16 * t + r) + 1) 10) ∧
    (∀ r < 16, r ∉ others → (arb u t).backoff.getD r 0 = (arb s t).backoff.getD r 0 - 1) ∧
    (∀ r < 16, r ∉ w :: others → u.get R.SVA_REQ_LOSSES (16 * t + r) = s.get R.SVA_REQ_LOSSES (16 * t + r))

end Sys2Proof.Machine

/-- R367 to R374. Forms of a lock request beside a grant are operands of the command (the model's choice). -/
def Obligations.ArbiterDecisions : Prop :=
  (∀ (t : Fin 2) (q : BitVec 16) (res : List (Fin 3 × Fin 512)) (lock : BitVec 16) (keep : Bool) (s : State), ArbRuns s t →
    Runs (.arbiterCycle t q res lock keep) s arbPlaces [.arbs] fun u =>
      (arb u t).cycle = (arb s t).cycle + 1 ∧
      (¬ ((arb s (1 - t.val)).lockOwner = some 10 ∧ bit q.toNat 10 = true) → SameBut {} t.val s.arbs u.arbs) ∧
      ((arb s (1 - t.val)).lockOwner = some 10 → bit q.toNat 10 = true → (arb u (1 - t.val)).lockOwner = none) ∧
      (arbVoided s t q res = true → Counted s u R.SVA_VOID_CNT_COUNT t) ∧
      (arbVoided s t q res = false → u.get R.SVA_VOID_CNT_COUNT t = s.get R.SVA_VOID_CNT_COUNT t) ∧
      (∀ r < 16, (arb s (1 - t.val)).lockOwner = some r → bit q.toNat r = true →
        u.get R.SVA_NEST_CNT_COUNT t = min (s.get R.SVA_NEST_CNT_COUNT t + 1 + b2n (arbSecond s t lock)) 0xFFFFFFFF ∧
        (r < 8 → u.get R.GLB_PLN_HLOCK_NEST r = 1)) ∧
      ((∀ r, (arb s (1 - t.val)).lockOwner = some r → bit q.toNat r = false) → arbSecond s t lock = true → Counted s u R.SVA_NEST_CNT_COUNT t) ∧
      ((arbAtWrap s t = true ∧ s.get R.SVA_CTRL_PENDING t ≠ 0) → u.get R.SVA_CTRL_PENDING t = 0 ∧
        ∀ k < 256, u.get R.SVA_ACT_ENTRY (256 * t + k) = s.get R.SVA_SLOT_ENTRY (256 * t + k) % 2 ^ 16) ∧
      ((arbAtWrap s t = false ∨ s.get R.SVA_CTRL_PENDING t = 0) → u.get R.SVA_CTRL_PENDING t = s.get R.SVA_CTRL_PENDING t ∧
        ∀ k < 256, u.get R.SVA_ACT_ENTRY (256 * t + k) = s.get R.SVA_ACT_ENTRY (256 * t + k))) ∧
  (∀ (t : Fin 2) (q : BitVec 16) (res : List (Fin 3 × Fin 512)) (lock : BitVec 16) (keep : Bool) (s : State) (r : Nat), ArbRuns s t →
    (arb s t).lockOwner = some r → arbHolds s t lock keep = true →
    Runs (.arbiterCycle t q res lock keep) s arbPlaces [.arbs] fun u =>
      (arb u t).grant = some r ∧ (arb u t).lockOwner = some r ∧ (arb u t).lockBeats = (arb s t).lockBeats + 1 ∧ (arb u t).owed = arbOwed s t ∧
      (arb u t).lfsr = arbLfsr s t ∧ u.get R.SVA_SKIP_CNT_COUNT t = s.get R.SVA_SKIP_CNT_COUNT t ∧
      (∀ k < 16, u.get R.SVA_REQ_LOSSES (16 * t + k) = s.get R.SVA_REQ_LOSSES (16 * t + k) ∧ (arb u t).age.getD k 0 = arbAged s t q lock k ∧
        (arb u t).backoff.getD k 0 = (arb s t).backoff.getD k 0 - 1)) ∧
  (∀ (t : Fin 2) (q : BitVec 16) (res : List (Fin 3 × Fin 512)) (lock : BitVec 16) (keep : Bool) (s : State) (pre post : List (Nat × Nat)) (o : Nat × Nat), ArbRuns s t →
    arbHolds s t lock keep = false → arbOwed s t = pre ++ o :: post → (∀ p ∈ pre, p ∉ arbOwners res) → o ∈ arbOwners res →
    Runs (.arbiterCycle t q res lock keep) s arbPlaces [.arbs] fun u =>
      (arb u t).grant = some 16 ∧ (arb u t).resGrant = o ∧ (arb u t).owed = post ∧ (arb u t).lockOwner = none ∧ (arb u t).lfsr = arbLfsr s t ∧
      u.get R.SVA_SKIP_CNT_COUNT t = min (s.get R.SVA_SKIP_CNT_COUNT t + pre.length) 0xFFFFFFFF ∧
      (∀ k < 16, u.get R.SVA_REQ_LOSSES (16 * t + k) = s.get R.SVA_REQ_LOSSES (16 * t + k) ∧ (arb u t).age.getD k 0 = arbAged s t q lock k ∧
        (arb u t).backoff.getD k 0 = (arb s t).backoff.getD k 0 - 1)) ∧
  (∀ (t : Fin 2) (q : BitVec 16) (res : List (Fin 3 × Fin 512)) (lock : BitVec 16) (keep : Bool) (s : State), ArbRuns s t →
    arbHolds s t lock keep = false → (∀ p ∈ arbOwed s t, p ∉ arbOwners res) → arbEligible s t q lock = [] →
    Runs (.arbiterCycle t q res lock keep) s arbPlaces [.arbs] fun u =>
      (arb u t).grant = none ∧ (arb u t).owed = [] ∧ (arb u t).lockOwner = none ∧ (arb u t).lfsr = arbLfsr s t ∧
      u.get R.SVA_SKIP_CNT_COUNT t = min (s.get R.SVA_SKIP_CNT_COUNT t + (arbOwed s t).length) 0xFFFFFFFF) ∧
  (∀ (t : Fin 2) (q : BitVec 16) (res : List (Fin 3 × Fin 512)) (lock : BitVec 16) (keep : Bool) (s : State) (pre post : List Nat) (w : Nat), ArbRuns s t →
    arbHolds s t lock keep = false → (∀ p ∈ arbOwed s t, p ∉ arbOwners res) → arbEligible s t q lock = pre ++ w :: post →
    (∀ r ∈ pre, arbAged s t q lock r < 4096) → 4096 ≤ arbAged s t q lock w →
    Runs (.arbiterCycle t q res lock keep) s arbPlaces [.arbs] fun u => ArbWon s u t q lock w (pre ++ post) ∧ ((arb s t).lockOwner = none → ArbLocks s u t lock w) ∧ (arb u t).lfsr = arbLfsr s t) ∧
  (∀ (t : Fin 2) (q : BitVec 16) (res : List (Fin 3 × Fin 512)) (lock : BitVec 16) (keep : Bool) (s : State) (pre post : List Nat) (w x : Nat), ArbRuns s t →
    arbHolds s t lock keep = false → (∀ p ∈ arbOwed s t, p ∉ arbOwners res) → arbEligible s t q lock = pre ++ w :: post →
    (∀ r ∈ pre ++ w :: post, arbAged s t q lock r < 4096) → x = arbDraw s t * arbTickets s t (pre ++ w :: post) / 2 ^ 32 →
    arbTickets s t pre ≤ x → x < arbTickets s t (pre ++ [w]) →
    Runs (.arbiterCycle t q res lock keep) s arbPlaces [.arbs] fun u =>
      ArbWon s u t q lock w (pre ++ post) ∧ ((arb s t).lockOwner = none → ArbLocks s u t lock w) ∧ (arb u t).lfsr = arbDraw s t ∧ u.get R.SVA_LFSR_LFSR t = arbDraw s t) ∧
  (∀ (t : Fin 2) (q : BitVec 16) (res : List (Fin 3 × Fin 512)) (lock : BitVec 16) (s : State) (r : Nat), ArbRuns s t →
    (arb s t).lockOwner = some r → 64 ≤ (arb s t).lockBeats → arbSecond s t lock = false → (r < 8 → s.get R.GLB_PLN_HLOCK_OPEN r ≠ 0) →
    Runs (.arbiterCycle t q res lock true) s arbPlaces [.arbs] fun u =>
      Counted s u R.SVA_EXPIRE_CNT_COUNT t ∧ (bit q.toNat r = false → (arb u t).lockOwner ≠ some r) ∧
      (r < 8 → u.get R.GLB_PLN_HLOCK_EXPIRED r = 1 ∧ u.get R.GLB_PLN_HLOCK_ACTIVE r = 0 ∧ u.get R.GLB_PLN_HLOCK_OPEN r = 0)) ∧
  (∀ (t : Fin 2) (q : BitVec 16) (res : List (Fin 3 × Fin 512)) (lock : BitVec 16) (keep : Bool) (s : State) (r : Nat), ArbRuns s t →
    (arb s t).lockOwner = some r → (keep = false ∨ (r < 8 ∧ s.get R.GLB_PLN_HLOCK_OPEN r = 0)) →
    Runs (.arbiterCycle t q res lock keep) s arbPlaces [.arbs] fun u =>
      u.get R.SVA_EXPIRE_CNT_COUNT t = s.get R.SVA_EXPIRE_CNT_COUNT t ∧ (bit q.toNat r = false → (arb u t).lockOwner ≠ some r) ∧
      (r < 8 → u.get R.GLB_PLN_HLOCK_ACTIVE r = 0 ∧ u.get R.GLB_PLN_HLOCK_OPEN r = 0)) ∧
  (∀ (t : Fin 2) (q : BitVec 16) (res : List (Fin 3 × Fin 512)) (lock : BitVec 16) (keep : Bool) (s : State),
    ((arb s t).on = false ∨ s.xtalFail = true) → exec (.arbiterCycle t q res lock keep) s = .next s) ∧
  (∀ (m : Master) (k : Fin 8) (v : BitVec 32) (s : State), reaches s m (0x640 + k.val * 4) true = true → bit v.toNat 0 = true →
    (s.get R.GLB_PLN_HLOCK_OPEN k = 0 ∨ s.get R.GLB_PLN_HLOCK_ACTIVE k = 0) →
    Runs (.hlockOpen m k v) s [only R.GLB_PLN_HLOCK_EXPIRED k, only R.GLB_PLN_HLOCK_NEST k, only R.GLB_PLN_HLOCK_OPEN k] [] fun u =>
      u.get R.GLB_PLN_HLOCK_OPEN k = 1 ∧ (bit v.toNat 31 = true → s.heldBits R.GLB_PLN_HLOCK_EXPIRED k = 0 → bit (u.get R.GLB_PLN_HLOCK_EXPIRED k) 0 = false) ∧
      (bit v.toNat 30 = true → s.heldBits R.GLB_PLN_HLOCK_NEST k = 0 → bit (u.get R.GLB_PLN_HLOCK_NEST k) 0 = false)) ∧
  (∀ (m : Master) (k : Fin 8) (v : BitVec 32) (s : State) (x : Nat), reaches s m (0x640 + k.val * 4) true = true → bit v.toNat 0 = true →
    s.get R.GLB_PLN_HLOCK_OPEN k ≠ 0 → s.get R.GLB_PLN_HLOCK_ACTIVE k ≠ 0 → x < 2 → (arb s x).lockOwner = some k.val →
    (x = 0 → (arb s 1).lockOwner ≠ some k.val) →
    Runs (.hlockOpen m k v) s [only R.GLB_PLN_HLOCK_EXPIRED k, only R.GLB_PLN_HLOCK_NEST k, only R.GLB_PLN_HLOCK_OPEN k, only R.SVA_NEST_CNT_COUNT x]
      [] fun u => u.get R.GLB_PLN_HLOCK_OPEN k = 1 ∧ u.get R.GLB_PLN_HLOCK_NEST k = 1 ∧ Counted s u R.SVA_NEST_CNT_COUNT x) ∧
  (∀ (m : Master) (k : Fin 8) (v : BitVec 32) (s : State), reaches s m (0x640 + k.val * 4) true = true → bit v.toNat 0 = false →
    Runs (.hlockOpen m k v) s [only R.GLB_PLN_HLOCK_EXPIRED k, only R.GLB_PLN_HLOCK_NEST k, only R.GLB_PLN_HLOCK_OPEN k, only R.GLB_PLN_HLOCK_ACTIVE k]
      [.arbs] fun u =>
      u.get R.GLB_PLN_HLOCK_OPEN k = 0 ∧ ∀ x < 2, ((arb s x).lockOwner = some k.val →
        (arb u x).lockOwner = none ∧ u.get R.GLB_PLN_HLOCK_ACTIVE k = 0) ∧ ((arb s x).lockOwner ≠ some k.val → arb u x = arb s x)) ∧
  (∀ (m : Master) (t : Fin 2) (s : State), reaches s m (0x600000 + t.val * 0x10000) true = true → s.get R.SVA_CTRL_PENDING t = 0 →
    Runs (.slotTableCommit m t) s [only R.SVA_CTRL_PENDING t, only R.SVA_CTRL_CMT_REJECT t] [] fun u =>
      u.get R.SVA_CTRL_PENDING t = 1 ∧ bit (u.get R.SVA_CTRL_CMT_REJECT t) 0 = bit (s.get R.SVA_CTRL_CMT_REJECT t) 0) ∧
  ∀ (m : Master) (t : Fin 2) (s : State), reaches s m (0x600000 + t.val * 0x10000) true = true → s.get R.SVA_CTRL_PENDING t ≠ 0 →
    Runs (.slotTableCommit m t) s [only R.SVA_CTRL_CMT_REJECT t] [] fun u => u.get R.SVA_CTRL_CMT_REJECT t = 1

/-! ### Plinth cores, results and the host windows (14_service_plane_and_host.md) -/

namespace Sys2Proof.Machine

/-- What a reset of core `k` may write beside an event. -/
def corePlaces (k : Nat) : List Place :=
  [only R.GLB_PLN_STATUS_STATE k, only R.GLB_PLN_HLOCK_ACTIVE k, only R.GLB_PLN_HLOCK_OPEN k, every R.MBX_TXSTAT_FLUSH, every R.MBX_TXSTAT_DB_PEND,
    every R.MBX_TXSTAT_FLUSHED, every R.MBX_TXSTAT_FILL, every R.MBX_RXSTAT_FILL, only R.MBX_EPOCH_EPOCH (coreParty k)]

/-- The parts that a reset of a core may write beside an event. -/
def coreParts : List Part := [.mbxQ, .mbxRing, .arbs]

/-- Party `p` was reset: its epoch has moved on, what waited for it is gone, and no other queue has changed (R353). -/
abbrev PartyReset (s t : State) (p : Nat) : Prop :=
  t.get R.MBX_EPOCH_EPOCH p = (s.get R.MBX_EPOCH_EPOCH p + 1) % 2 ^ 16 ∧
    (∀ e < 64, party s e = p → mbxIn t e = [] ∧ t.get R.MBX_TXSTAT_FLUSH (partner e) = 1) ∧ (∀ e < 64, party s e = p → RingAccepted t e) ∧
    ∀ e < 64, party s e ≠ p → mbxIn t e = mbxIn s e

/-- Core `k` was reset, its STATE is `st` and its locked sequence has ended (R353, R363, R372). -/
abbrev CoreReset (s t : State) (k st : Nat) : Prop :=
  t.get R.GLB_PLN_STATUS_STATE k = st ∧ t.get R.GLB_PLN_HLOCK_OPEN k = 0 ∧ t.get R.GLB_PLN_HLOCK_ACTIVE k = 0 ∧ PartyReset s t (coreParty k) ∧
    ∀ x < 2, ((arb s x).lockOwner = some k → (arb t x).lockOwner = none) ∧ ((arb s x).lockOwner ≠ some k → arb t x = arb s x)

/-- The open block of queue `q` has closed with `flags`, the waiting records go on in order, and no other queue has changed (R377). -/
abbrev BlockClosed (s t : State) (q flags : Nat) : Prop :=
  (resQueue t q).closed = (resQueue s q).closed ++ [⟨(resQueue s q).openBlk, flags, (resQueue s q).dropped⟩] ∧
    (resQueue t q).openBlk ++ (resQueue t q).waiting = (resQueue s q).waiting ∧ (resQueue t q).dropped = 0 ∧
    t.get R.HST_RES_STAT_WAITING q = (resQueue s q).closed.length + 1 ∧ SameBut {} q s.rq t.rq

/-- HST_RES_FLUSH in ticks of 2.5 ns. -/
def flushTicks (s : State) : Nat := 400 * min (max (s.get R.HST_RES_FLUSH_MICROSECONDS) 10) 500

/-- The HBM address of byte `b` of ring `r`, whose index is at granule `w` (R382). -/
def apertureAt (s : State) (r b : Nat) : Nat :=
  s.get R.STM_RING_LO_ADDR r * 2 ^ 12 + s.get R.STM_RING_HI_ADDR r * 2 ^ 32 + (s.get R.STM_WR_INDEX r * 128 + b) % 2 ^ (ringLog2 s r + 7)

/-- HBM is powered and the service plane runs (R98). -/
abbrev hbmUp (s : State) : Bool := railsGood s && !s.xtalFail

end Sys2Proof.Machine

/-- R91, R353, R363, R364, R366, R372, R376 to R384. The free values of an unpowered or uncorrectable read are the model's form of an open value (log entry 30). -/
def Obligations.CoresAndHostWindows : Prop :=
  (∀ (m : Master) (k : Fin 8) (s : State), Canon s → reaches s m 0x620 true = true → k ≠ 0 → s.get R.GLB_PLN_STATUS_STATE k ≠ 0 →
    Runs (.coreReset m k) s (corePlaces k ++ [only R.GLB_PLN_CTRL_WDOG_EN 0, only R.GLB_PLN_CTRL_HOLD 0, every R.GLB_PLN_STATUS_WDOG_EN] ++ eventPlaces)
      (coreParts ++ eventParts) fun t =>
      CoreReset s t k (if bit (s.get R.GLB_PLN_CTRL_HOLD) k then 1 else 2) ∧
      ∀ j < 8, j ≠ 0 → bit (t.get R.GLB_PLN_CTRL_HOLD) j = bit (s.get R.GLB_PLN_CTRL_HOLD) j ∧
        t.get R.GLB_PLN_STATUS_WDOG_EN j = b2n (bit (s.get R.GLB_PLN_CTRL_WDOG_EN) j)) ∧
  (∀ (m : Master) (k : Fin 8) (s : State), Canon s → reaches s m 0x620 true = true → (k = 0 ∨ s.get R.GLB_PLN_STATUS_STATE k = 0) →
    Runs (.coreReset m k) s [only R.GLB_PLN_CTRL_WDOG_EN 0, only R.GLB_PLN_CTRL_HOLD 0, every R.GLB_PLN_STATUS_WDOG_EN] [] fun t =>
      ∀ j < 8, j ≠ 0 → bit (t.get R.GLB_PLN_CTRL_HOLD) j = bit (s.get R.GLB_PLN_CTRL_HOLD) j) ∧
  (∀ (k : Fin 8) (s : State), s.xtalFail = false → k ≠ 0 → s.get R.GLB_PLN_STATUS_WDOG_EN k ≠ 0 → (s.get R.GLB_PLN_STATUS_STATE k = 2 ∨ s.get R.GLB_PLN_STATUS_STATE k = 3) →
    Runs (.watchdogExpiry k) s (corePlaces k ++ eventPlaces) (coreParts ++ eventParts) fun t => CoreReset s t k 4) ∧
  (∀ (k : Fin 8) (s : State), (s.xtalFail = true ∨ s.get R.GLB_PLN_STATUS_WDOG_EN k = 0 ∨ k = 0 ∨ s.get R.GLB_PLN_STATUS_STATE k < 2 ∨ 3 < s.get R.GLB_PLN_STATUS_STATE k) →
    exec (.watchdogExpiry k) s = .next s) ∧
  (∀ (q : Fin 25) (s : State), s.xtalFail = false → (resQueue s q).openBlk.length = 82 → (resQueue s q).closed.length < 4 →
    Runs (.resultBlockClose q) s [only R.HST_RES_STAT_WAITING q] [.rq] fun t => BlockClosed s t q 0) ∧
  (∀ (q : Fin 25) (s : State) (o r : Rec) (os rs : List Rec), s.xtalFail = false → (resQueue s q).openBlk = o :: os → os.length < 81 → (resQueue s q).waiting = r :: rs →
    r.epoch ≠ o.epoch → (resQueue s q).closed.length < 4 →
    Runs (.resultBlockClose q) s [only R.HST_RES_STAT_WAITING q] [.rq] fun t => BlockClosed s t q 2) ∧
  (∀ (q : Fin 25) (s : State), s.xtalFail = false → (resQueue s q).openBlk ≠ [] → (resQueue s q).openBlk.length < 82 → (resQueue s q).waiting = [] →
    (resQueue s q).closed.length < 4 → s.get R.PWR_STATE_STATE ≠ 1 →
    Runs (.resultBlockClose q) s [only R.HST_RES_STAT_WAITING q] [.rq] fun t => BlockClosed s t q 4) ∧
  (∀ (q : Fin 25) (s : State), (s.xtalFail = true ∨ (resQueue s q).openBlk = [] ∨ 4 ≤ (resQueue s q).closed.length ∨
      ((resQueue s q).openBlk.length < 82 ∧ (resQueue s q).waiting = [] ∧ s.get R.PWR_STATE_STATE = 1)) →
    exec (.resultBlockClose q) s = .next s) ∧
  (∀ (q : Fin 25) (s : State), s.xtalFail = false → (resQueue s q).openBlk ≠ [] → (resQueue s q).closed.length < 4 → (resQueue s q).openedAt + flushTicks s ≤ s.clock →
    Runs (.resultFlushTimeout q) s [only R.HST_RES_STAT_WAITING q] [.rq] fun t => BlockClosed s t q 1) ∧
  (∀ (q : Fin 25) (s : State), (s.xtalFail = true ∨ (resQueue s q).openBlk = [] ∨ 4 ≤ (resQueue s q).closed.length ∨ s.clock < (resQueue s q).openedAt + flushTicks s) →
    exec (.resultFlushTimeout q) s = .next s) ∧
  (∀ (q : Fin 25) (s : State) (b : Block) (bs : List Block) (a : Nat), s.xtalFail = false → (resQueue s q).closed = b :: bs → bs.length < 4 → b.recs ≠ [] → b.recs.length ≤ 82 →
    ringFull s q = false → a = resAddr s q (s.get R.HST_RES_WR_INDEX q) → Granted s false a 4096 →
    Runs (.resultBlockWrite q) s [only R.HST_RES_WR_INDEX q, only R.HST_RES_STAT_WAITING q] [.rq, .hbm] fun t =>
      t.get R.HST_RES_WR_INDEX q = (s.get R.HST_RES_WR_INDEX q + 1) % 2 ^ 32 ∧ (resQueue t q).closed = bs ∧
      t.get R.HST_RES_STAT_WAITING q = bs.length ∧ SameBut {} q s.rq t.rq ∧ HbmBut s t [(a, 4096)] ∧
      HbmSlot t a (0x4B4C4253 + q.val * 2 ^ 32 + b.recs.length * 2 ^ 48) ∧ HbmSlot t (a + 8) (s.get R.HST_RES_WR_INDEX q) ∧
      (∀ r ∈ b.recs.head?, HbmSlot t (a + 16) (r.epoch % 2 ^ 24 + b.dropped % 2 ^ 32 * 2 ^ 32)) ∧ HbmSlot t (a + 24) b.flags ∧
      (∀ i < 12, HbmSlot t (a + 32 + 8 * i) 0) ∧
      (∀ i < b.recs.length, ∀ j < 6, HbmSlot t (a + 128 + 48 * i + 8 * j) ((b.recs.getD i ⟨0, []⟩).words.getD j 0)) ∧
      ∀ i < 496 - 6 * b.recs.length, HbmSlot t (a + 128 + 48 * b.recs.length + 8 * i) 0) ∧
  (∀ (q : Fin 25) (s : State), (s.xtalFail = true ∨ (resQueue s q).closed = [] ∨ s.get R.HST_RES_SIZE_ENABLE q = 0 ∨ ringFull s q = true) →
    exec (.resultBlockWrite q) s = .next s) ∧
  (∀ (m : Master) (q : Fin 25) (v : BitVec 32) (s : State) (old wr : Nat), reaches s m (0x701010 + q.val * 0x20) true = true →
    old = s.get R.HST_RES_RD_INDEX q → wr = s.get R.HST_RES_WR_INDEX q → old < 2 ^ 32 → wr < 2 ^ 32 →
    Runs (.resultRingRelease m q v) s [only R.HST_RES_RD_INDEX q] [] fun t =>
      t.get R.HST_RES_RD_INDEX q = if (v.toNat + 2 ^ 32 - old) % 2 ^ 32 ≤ (wr + 2 ^ 32 - old) % 2 ^ 32 then v.toNat else old) ∧
  (∀ (off : BitVec 32) (n : BitVec 13) (data : List (BitVec 8)) (ecc : Fin 3) (s : State) (a : Nat), a = w2Addr s off.toNat → hbmUp s = true →
    Granted s false a data.length →
    Runs (.w2Access true off n data ecc) s [] [.hbm] fun t =>
      (∀ i < data.length, hbmByte t (a + i) = data.getD i 0) ∧ HbmBut s t [(a, data.length)]) ∧
  (∀ (off : BitVec 32) (n : BitVec 13) (data : List (BitVec 8)) (ecc : Fin 3) (s : State) (a : Nat), a = w2Addr s off.toNat → hbmUp s = true →
    Granted s false a (min n.toNat 4096) → ecc ≠ 2 →
    Runs (.w2Access false off n data ecc) s [only R.SVA_ECC_COR_CNT_COUNT (if a < 24000000000 then 0 else 1)] [.readData, .readPoison] fun t =>
      t.readPoison = false ∧ (∀ i < min n.toNat 4096, t.readData / 256 ^ i % 256 = (hbmByte s (a + i)).toNat) ∧
      t.readData < 256 ^ min n.toNat 4096 ∧ (ecc = 1 → Counted s t R.SVA_ECC_COR_CNT_COUNT (if a < 24000000000 then 0 else 1))) ∧
  (∀ (off : BitVec 32) (n : BitVec 13) (data : List (BitVec 8)) (s : State) (a : Nat), a = w2Addr s off.toNat → hbmUp s = true →
    Granted s false a (min n.toNat 4096) →
    Runs (.w2Access false off n data 2) s [only R.SVA_ECC_UNC_CNT_COUNT (if a < 24000000000 then 0 else 1)] [.readData, .readPoison, .fresh] fun t =>
      t.readPoison = true ∧ Counted s t R.SVA_ECC_UNC_CNT_COUNT (if a < 24000000000 then 0 else 1)) ∧
  (∀ (w : Bool) (off : BitVec 32) (n : BitVec 13) (data : List (BitVec 8)) (ecc : Fin 3) (s : State) (a len : Nat), a = w2Addr s off.toNat →
    hbmUp s = true → len = (if w = true then data.length else min n.toNat 4096) → a + len ≤ hbmSize →
    ((hbmUnits a len).any fun u => hbmUnitSecure s u) = true →
    Runs (.w2Access w off n data ecc) s (violationPlaces ++ eventPlaces) ([.readData, .readPoison] ++ eventParts) fun t =>
      Counted s t R.SEC_VIOL_CNT_COUNT ∧ EventFires s t 1473 ∧ (w = false → t.readData = 0) ∧
      (s.get R.SEC_VIOL_SRC_VALID = 0 → t.get R.SEC_VIOL_SRC_VALID = 1 ∧ t.get R.SEC_VIOL_SRC_WRITE = b2n w ∧ t.get R.SEC_VIOL_SRC_MASTER = 0x20 ∧
        t.get R.SEC_VIOL_ADDR_LO_ADDR = a % 2 ^ 32)) ∧
  (∀ (w : Bool) (off : BitVec 32) (n : BitVec 13) (data : List (BitVec 8)) (ecc : Fin 3) (s : State) (a len : Nat), a = w2Addr s off.toNat →
    hbmUp s = true → len = (if w = true then data.length else min n.toNat 4096) → hbmSize < a + len →
    Runs (.w2Access w off n data ecc) s errorPlaces [.readData, .readPoison] fun t =>
      Counted s t R.HST_AERR_CNT_COUNT ∧ (w = false → t.readData = 0) ∧
      (s.get R.HST_AERR_SRC_VALID = 0 → t.get R.HST_AERR_SRC_VALID = 1 ∧ t.get R.HST_AERR_SRC_KIND = 5)) ∧
  (∀ (w : Bool) (off : BitVec 32) (n : BitVec 13) (data : List (BitVec 8)) (ecc : Fin 3) (s : State), s.xtalFail = false → railsGood s = false →
    Runs (.w2Access w off n data ecc) s [] [.readData, .readPoison, .fresh] fun t => w = false → t.readPoison = false) ∧
  (∀ (r : Fin 512) (o : Fin 16384) (data : List (BitVec 8)) (s : State), hbmUp s = true → data.length ≤ 2 ^ (ringLog2 s r + 7) →
    (∀ i < data.length, Granted s false (apertureAt s r (o + i)) 1) →
    Runs (.streamApertureWrite r o data) s [] [.hbm] fun t =>
      (∀ i < data.length, hbmByte t (apertureAt s r (o + i)) = data.getD i 0) ∧
      HbmBut s t ((List.range data.length).map fun i => (apertureAt s r (o + i), 1))) ∧
  (∀ (r : Fin 512) (o : Fin 16384) (data : List (BitVec 8)) (s : State) (i : Nat), hbmUp s = true → i < data.length →
    hbmUnitSecure s (apertureAt s r (o + i) / 0x200000) = true → (∀ j < data.length, apertureAt s r (o + j) < hbmSize) →
    Runs (.streamApertureWrite r o data) s (violationPlaces ++ eventPlaces) eventParts fun t =>
      Counted s t R.SEC_VIOL_CNT_COUNT ∧ EventFires s t 1473) ∧
  (∀ (r : Fin 512) (o : Fin 16384) (data : List (BitVec 8)) (s : State) (i : Nat), hbmUp s = true → i < data.length →
    hbmSize ≤ apertureAt s r (o + i) →
    Runs (.streamApertureWrite r o data) s errorPlaces [] fun t => Counted s t R.HST_AERR_CNT_COUNT) ∧
  (∀ (r : Fin 512) (o : Fin 16384) (data : List (BitVec 8)) (s : State), (railsGood s = false ∨ s.xtalFail = true) → exec (.streamApertureWrite r o data) s = .next s) ∧
  (∀ (w : Bool) (off : BitVec 32) (n : BitVec 13) (data : List (BitVec 8)) (ecc : Fin 3) (s : State), s.xtalFail = true →
    exec (.w2Access w off n data ecc) s = .next s) ∧
  (∀ (v : Fin 128) (s : State),
    Runs (.msixUnmask v) s [] [.msix] fun t =>
      SameBut {} v.val s.msix t.msix ∧ (msixAt t v).masked = false ∧ (msixAt t v).pend = false ∧ (msixAt t v).addr = (msixAt s v).addr ∧
      (msixAt t v).data = (msixAt s v).data ∧ (msixAt t v).sent = (msixAt s v).sent +
        if (msixAt s v).pend = true ∧ s.get R.EVF_TASKST_PENDING (768 + v.val) ≠ 0 then 1 else 0) ∧
  (∀ (sp w : Fin 3) (s : State), s.get R.HST_LINK_UP = 0 →
    Runs (.linkUp sp w) s ([only R.HST_LINK_UP 0, only R.HST_LINK_SPEED 0, only R.HST_LINK_WIDTH 0] ++ eventPlaces) eventParts fun t =>
      t.get R.HST_LINK_UP = 1 ∧ t.get R.HST_LINK_SPEED = 3 + sp ∧ t.get R.HST_LINK_WIDTH = 4 * 2 ^ w.val ∧ EventFires s t 1492) ∧
  (∀ (sp w : Fin 3) (s : State), s.get R.HST_LINK_UP ≠ 0 → exec (.linkUp sp w) s = .next s) ∧
  ∀ (flr : Bool) (s : State),
    Runs (.linkDown flr) s ([only R.HST_LINK_UP 0, only R.MBX_EPOCH_EPOCH 0x20, every R.MBX_TXSTAT_FLUSH, every R.MBX_TXSTAT_DB_PEND,
        every R.MBX_TXSTAT_FLUSHED, every R.MBX_TXSTAT_FILL, every R.MBX_RXSTAT_FILL, only R.HST_SESSION_OPEN 0] ++ eventPlaces ++
        if flr = true then [only R.HST_W2_BASE_LO_ADDR 0, only R.HST_W2_BASE_HI_ADDR 0, only R.HST_SESSION_RECOVERY 0, only R.HST_SESSION_MAJOR 0,
          only R.HST_SESSION_MINOR 0] else [])
      ([.mbxQ, .mbxRing, .hostA, .hostB, .hostBQ] ++ eventParts ++ if flr = true then [.msix] else []) fun t =>
      t.get R.HST_LINK_UP = 0 ∧ PartyReset s t 0x20 ∧ t.get R.HST_SESSION_OPEN = 0 ∧ t.hostA = none ∧ t.hostBQ = [] ∧ (s.get R.HST_LINK_UP ≠ 0 → EventFires s t 1492) ∧
      (s.hostB = none ↔ t.hostB = none) ∧
      (flr = true → t.msix = [] ∧ t.get R.HST_W2_BASE_LO_ADDR = 0 ∧ t.get R.HST_W2_BASE_HI_ADDR = 0 ∧ t.get R.HST_SESSION_MAJOR = 0 ∧
        t.get R.HST_SESSION_MINOR = 0)

/-! ### Host commands (14_service_plane_and_host.md) -/

namespace Sys2Proof.Machine

/-- The OP of the `i`-th host command (Table HST-7). -/
def hostOpOf (i : Fin 12) : Nat := [0x01, 0x02, 0x03, 0x05, 0x13, 0x10, 0x11, 0x12, 0x14, 0x15, 0x04, 0x16].getD i 0

/-- The `i`-th host command (Table HST-7). -/
def hostInstr (i : Fin 12) : BitVec 8 → List (BitVec 36) → Instr :=
  [.hello, .getStatus, .setRunstate, .telemetry, .recoveryCast, .stageImage, .recast, .stageFirmware, .calCommit, .pointingRun, .setPower,
    .loadNcode].getD i .hello

/-- The commands of class A (Table HST-7). -/
def classA : List Nat := [0x01, 0x02, 0x03, 0x05, 0x13]

/-- The recovery subset (R74, Table HST-7). -/
def recoverySubset : List Nat := [0x01, 0x02, 0x10, 0x12, 0x13]

/-- The minor version since which a command is served; 0 for those of minor 0 (Table HST-7). -/
def hostSince (op : Nat) : Nat :=
  match op with
  | 0x05 => 1
  | 0x14 | 0x15 => 2
  | 0x04 => 3
  | 0x16 => 4
  | _ => 0

/-- How many arguments a command takes (Table HST-7). -/
def hostNarg (op : Nat) : Nat :=
  match op with
  | 0x01 | 0x03 | 0x04 => 1
  | 0x10 | 0x11 | 0x12 | 0x15 | 0x16 => 2
  | _ => 0

/-- Something serves mailbox 0, and `n` words fit in its queue toward the host (R74, R98, R386). -/
abbrev HostListens (s : State) (n : Nat) : Prop := hostUp s = true ∧ s.get R.MBX_CFG_CFG_ERR 0 = 0 ∧ (mbxIn s 0).length + n ≤ 8

/-- The command is served: not outside the recovery subset in recovery, in a session where it needs one, of a minor version the session has. -/
abbrev HostServes (s : State) (op : Nat) : Prop :=
  (inRecovery s = true → op ∈ recoverySubset) ∧ (s.get R.HST_SESSION_OPEN ≠ 0 ∨ op ∈ [0x01, 0x02, 0x13]) ∧
    (hostSince op = 0 ∨ hostSince op ≤ s.get R.HST_SESSION_MINOR)

/-- No class-A command is outstanding, and load level 3 turns none away (R387, R389). -/
abbrev HostFree (s : State) : Prop := s.hostA = none ∧ (inRecovery s = true ∨ s.get R.GLB_PLN_LOAD_LEVEL ≠ 3)

/-- A class-B command starts at once: none waits or runs, and the load level permits it (R387, R389). -/
abbrev HostIdle (s : State) : Prop := s.hostBQ = [] ∧ s.hostB = none ∧ (inRecovery s = true ∨ s.get R.GLB_PLN_LOAD_LEVEL < 2)

/-- A response word (Table HST-6). -/
def hostWord (op seq n final status : Nat) : Nat := op * 2 ^ 28 + seq * 2 ^ 20 + n * 2 ^ 17 + final * 2 ^ 16 + status

/-- S0 has put the words `l` in the queue of mailbox 0 toward the host, as its own, and rings (R348, R351, R386). -/
abbrev Answers (s t : State) (l : List Nat) : Prop :=
  QueueIs s t 0 (mbxIn s 0 ++ l.map fun w => ⟨w % 2 ^ 36, 1, s.get R.MBX_EPOCH_EPOCH 1⟩) ∧ t.get R.MBX_RXSTAT_DB 0 = 1 ∧ EventFires s t 1152

/-- The newest word in the queue of mailbox 0 toward the host. -/
def lastWord (t : State) : Nat := ((mbxIn t 0).getLast?.map (·.word)).getD 0

/-- The places that taking the words of a frame may write. -/
def framePlaces : List Place :=
  [only R.MBX_RX_WORD 1, only R.MBX_RXMETA_VALID 1, only R.MBX_RXMETA_ORPHAN 1, only R.MBX_RXMETA_EPOCH 1, only R.MBX_RXMETA_SENDER 1]

/-- The frame in mailbox 0 is taken out, and S0 answers it with `l`. -/
abbrev FrameAnswered (s t : State) (l : List Nat) : Prop :=
  mbxIn t 1 = [] ∧ t.get R.MBX_RXSTAT_DB 1 = 0 ∧ mbxIn t 0 = mbxIn s 0 ++ l.map (fun w => ⟨w % 2 ^ 36, 1, s.get R.MBX_EPOCH_EPOCH 1⟩) ∧
    t.get R.MBX_RXSTAT_DB 0 = 1 ∧ EventFires s t 1152

/-- The answer of GET_STATUS (Table HST-7). -/
def statusWords (s : State) (seq : Nat) : List Nat :=
  [hostWord 2 seq 3 1 0, regWord s 0x100000, regWord s 0x624, s.hostBQ.length % 32 + (s.hostB.map (·.seq)).getD 0 % 256 * 2 ^ 5]

/-- The load level that an age of the oldest pending work calls for (R389, Table GLB-28). -/
def levelFor (age : Nat) : Nat := if 500 < age then 3 else if 250 < age then 2 else if 100 < age then 1 else 0

end Sys2Proof.Machine

/-- R74, R386 to R389, Tables HST-6 to HST-8. The retry hint and the words of TELEMETRY are free values. -/
def Obligations.HostAnswers : Prop :=
  (∀ (i : Fin 12) (seq : BitVec 8) (args : List (BitVec 36)) (s : State), hostUp s = false → exec (hostInstr i seq args) s = .next s) ∧
  (∀ (i : Fin 12) (seq : BitVec 8) (args : List (BitVec 36)) (s : State), HostListens s 1 → inRecovery s = true → hostOpOf i ∉ recoverySubset →
    Runs (hostInstr i seq args) s (mailPlaces ++ eventPlaces) (mailParts ++ eventParts) fun t => Answers s t [hostWord (hostOpOf i) seq.toNat 0 1 8]) ∧
  (∀ (i : Fin 12) (seq : BitVec 8) (args : List (BitVec 36)) (s : State), HostListens s 1 → (inRecovery s = true → hostOpOf i ∈ recoverySubset) →
    s.get R.HST_SESSION_OPEN = 0 → hostOpOf i ∉ [0x01, 0x02, 0x13] →
    Runs (hostInstr i seq args) s (mailPlaces ++ eventPlaces) (mailParts ++ eventParts) fun t => Answers s t [hostWord (hostOpOf i) seq.toNat 0 1 5]) ∧
  (∀ (i : Fin 12) (seq : BitVec 8) (args : List (BitVec 36)) (s : State), HostListens s 1 → (inRecovery s = true → hostOpOf i ∈ recoverySubset) →
    s.get R.HST_SESSION_OPEN ≠ 0 → hostSince (hostOpOf i) ≠ 0 → s.get R.HST_SESSION_MINOR < hostSince (hostOpOf i) →
    Runs (hostInstr i seq args) s (mailPlaces ++ eventPlaces) (mailParts ++ eventParts) fun t => Answers s t [hostWord (hostOpOf i) seq.toNat 0 1 3]) ∧
  (∀ (i : Fin 12) (seq : BitVec 8) (args : List (BitVec 36)) (s : State), (hostOpOf i) ∈ classA → HostListens s 2 → HostServes s (hostOpOf i) → ¬ HostFree s →
    Runs (hostInstr i seq args) s (mailPlaces ++ eventPlaces) (mailParts ++ eventParts) fun t =>
      100 ≤ lastWord t ∧ lastWord t ≤ 10000 ∧ Answers s t [hostWord (hostOpOf i) seq.toNat 1 1 2, lastWord t]) ∧
  (∀ (i : Fin 12) (seq : BitVec 8) (args : List (BitVec 36)) (s : State), HostListens s 1 → HostServes s (hostOpOf i) → ((hostOpOf i) ∈ classA → HostFree s) →
    (args.length ≠ hostNarg (hostOpOf i) ∨ ((hostOpOf i) ∈ [0x03, 0x04] ∧ 1 < (args.getD 0 0).toNat) ∨ ((hostOpOf i) = 0x11 ∧ 2 ^ 28 ≤ (args.getD 1 0).toNat) ∨
      ((hostOpOf i) = 0x15 ∧ (2 ^ 30 ≤ (args.getD 0 0).toNat ∨ pntArgsOk (args.getD 0 0).toNat (args.getD 1 0).toNat = false ∨ 1000000 < (args.getD 1 0).toNat))) →
    Runs (hostInstr i seq args) s (mailPlaces ++ eventPlaces) (mailParts ++ eventParts) fun t => Answers s t [hostWord (hostOpOf i) seq.toNat 0 1 4]) ∧
  (∀ (seq : BitVec 8) (a b : BitVec 36) (s : State), HostListens s 1 → HostServes s 0x15 → a.toNat < 2 ^ 30 → pntArgsOk a.toNat b.toNat = true →
    b.toNat ≤ 1000000 → pntSecure s a.toNat = true →
    Runs (.pointingRun seq [a, b]) s (mailPlaces ++ eventPlaces) (mailParts ++ eventParts) fun t => Answers s t [hostWord 0x15 seq.toNat 0 1 7]) ∧
  (∀ (seq : BitVec 8) (a : BitVec 36) (s : State) (major minor : Nat), HostListens s 2 → HostFree s → major = s.get R.GLB_IFVER_HOST_MAJOR →
    minor = s.get R.GLB_IFVER_HOST_MINOR → bits a.toNat 11 8 ≤ major → major ≤ bits a.toNat 7 4 →
    Runs (.hello seq [a]) s ([only R.HST_SESSION_OPEN 0, only R.HST_SESSION_RECOVERY 0, only R.HST_SESSION_MAJOR 0, only R.HST_SESSION_MINOR 0] ++
        mailPlaces ++ eventPlaces) (mailParts ++ eventParts) fun t =>
      t.get R.HST_SESSION_OPEN = 1 ∧ t.get R.HST_SESSION_RECOVERY = b2n (inRecovery s) ∧ t.get R.HST_SESSION_MAJOR = major % 2 ^ 4 ∧
      t.get R.HST_SESSION_MINOR = (if bits a.toNat 7 4 = major then min (bits a.toNat 3 0) minor else minor) % 2 ^ 4 ∧
      Answers s t [hostWord 1 seq.toNat 1 1 0, b2n (inRecovery s) * 2 ^ 8 + major * 2 ^ 4 +
        if bits a.toNat 7 4 = major then min (bits a.toNat 3 0) minor else minor]) ∧
  (∀ (seq : BitVec 8) (a : BitVec 36) (s : State) (major minor : Nat), HostListens s 2 → HostFree s → major = s.get R.GLB_IFVER_HOST_MAJOR →
    minor = s.get R.GLB_IFVER_HOST_MINOR → (major < bits a.toNat 11 8 ∨ bits a.toNat 7 4 < major) →
    Runs (.hello seq [a]) s (mailPlaces ++ eventPlaces) (mailParts ++ eventParts) fun t =>
      Answers s t [hostWord 1 seq.toNat 1 1 6, major * 2 ^ 4 + minor]) ∧
  (∀ (seq : BitVec 8) (s : State), HostListens s 4 → HostServes s 2 → HostFree s →
    Runs (.getStatus seq []) s (mailPlaces ++ eventPlaces) (mailParts ++ eventParts) fun t => Answers s t (statusWords s seq.toNat)) ∧
  (∀ (seq : BitVec 8) (s : State), HostListens s 8 → HostServes s 5 → HostFree s →
    Runs (.telemetry seq []) s (mailPlaces ++ eventPlaces) (mailParts ++ eventParts) fun t =>
      (mbxIn t 0).length ≤ (mbxIn s 0).length + 8 ∧ Answers s t (hostWord 5 seq.toNat ((mbxIn t 0).length - (mbxIn s 0).length - 1) 1 0 ::
        ((mbxIn t 0).drop ((mbxIn s 0).length + 1)).map (·.word))) ∧
  (∀ (i : Fin 12) (seq : BitVec 8) (args : List (BitVec 36)) (s : State), (hostOpOf i) ∉ classA → HostListens s 1 → HostServes s (hostOpOf i) →
    argsBad s (hostOpOf i) (args.map (·.toNat)) = none → 16 ≤ s.hostBQ.length →
    Runs (hostInstr i seq args) s (mailPlaces ++ eventPlaces) (mailParts ++ eventParts) fun t => Answers s t [hostWord (hostOpOf i) seq.toNat 0 1 0xB]) ∧
  (∀ (i : Fin 12) (seq : BitVec 8) (args : List (BitVec 36)) (s : State), (hostOpOf i) ∉ classA → HostListens s 1 → HostServes s (hostOpOf i) →
    argsBad s (hostOpOf i) (args.map (·.toNat)) = none → s.hostBQ.length < 16 → (¬ HostIdle s ∨ ((hostOpOf i) = 0x15 ∧ s.pnt.run ≠ none)) →
    Runs (hostInstr i seq args) s (mailPlaces ++ eventPlaces) ([.hostBQ] ++ mailParts ++ eventParts) fun t =>
      Answers s t [hostWord (hostOpOf i) seq.toNat 0 0 1] ∧ t.hostBQ = s.hostBQ ++ [⟨(hostOpOf i), seq.toNat, args.map (·.toNat)⟩]) ∧
  (∀ s : State, (hostUp s = false ∨ s.get R.MBX_RXSTAT_DB 1 = 0) → exec .hostCommandFrame s = .next s) ∧
  (∀ s : State, HostListens s 1 → s.get R.MBX_RXSTAT_DB 1 ≠ 0 →
    (s.get R.MBX_RXSTAT_COLLIDE 1 ≠ 0 ∨ hostFrames 8 ((mbxIn s 1).map (·.word)) = none ∨ mbxIn s 1 = []) →
    Runs .hostCommandFrame s (framePlaces ++ mailPlaces ++ eventPlaces) (mailParts ++ eventParts) fun t =>
      t.get R.MBX_RXSTAT_COLLIDE 1 = 0 ∧ FrameAnswered s t [hostWord 0 0 0 1 0xA]) ∧
  (∀ (seq : BitVec 8) (s : State), HostListens s 4 → HostServes s 2 → HostFree s → s.get R.MBX_RXSTAT_DB 1 ≠ 0 → s.get R.MBX_RXSTAT_COLLIDE 1 = 0 →
    (mbxIn s 1).map (·.word) = [hostWord 2 seq.toNat 0 0 0] →
    Runs .hostCommandFrame s (framePlaces ++ mailPlaces ++ eventPlaces) (mailParts ++ eventParts) fun t => FrameAnswered s t (statusWords s seq.toNat)) ∧
  (∀ (age : BitVec 32) (fall : Bool) (s : State) (cur : Nat), hostUp s = true → inRecovery s = false → cur = s.get R.GLB_PLN_LOAD_LEVEL → cur < 4 →
    Runs (.loadLevelChange age fall) s [only R.GLB_PLN_LOAD_LEVEL 0, only R.GLB_PLN_LOAD_AGE 0] [] fun t =>
      t.get R.GLB_PLN_LOAD_AGE = min age.toNat 0xFFFFF ∧ t.get R.GLB_PLN_LOAD_LEVEL =
        if cur < levelFor age.toNat then levelFor age.toNat
        else if fall = true ∧ 2 * age.toNat < [0, 100, 250, 500].getD cur 0 then cur - 1 else cur) ∧
  ∀ (age : BitVec 32) (fall : Bool) (s : State), (hostUp s = false ∨ inRecovery s = true) → exec (.loadLevelChange age fall) s = .next s

/-- R74, R84 to R86, R362, R387, R431, R434, R444. The premises on the ends of mailbox 0 hold in every run: they are fixed (R348). -/
def Obligations.HostWork : Prop :=
  (∀ (seq : BitVec 8) (a : BitVec 36) (s : State), a.toNat < 2 → HostListens s 1 → HostServes s 3 → HostFree s → s.get R.PWR_STATE_BUSY = 0 →
    s.get R.BOOT_STATUS_STATE ≠ 0 → s.get R.PWR_STATE_STATE = (if a = 0 then 2 else 1) →
    Runs (.setRunstate seq [a]) s ([only R.PWR_STATE_LAST_CODE 0] ++ mailPlaces ++ eventPlaces) (mailParts ++ eventParts) fun t =>
      t.get R.PWR_STATE_LAST_CODE = 0 ∧ Answers s t [hostWord 3 seq.toNat 0 1 0]) ∧
  (∀ (seq : BitVec 8) (a : BitVec 36) (s : State), a.toNat < 2 → HostListens s 1 → HostServes s 3 → HostFree s → s.get R.PWR_STATE_BUSY = 0 →
    s.get R.BOOT_STATUS_STATE ≠ 0 → s.get R.PWR_STATE_STATE = (if a = 0 then 1 else 2) → (a ≠ 0 → runRefused s = 0 ∧ s.pnt.run = none) →
    Runs (.setRunstate seq [a]) s [only R.PWR_STATE_BUSY 0] [.fresh, .pwr, .hostA] fun t =>
      t.get R.PWR_STATE_BUSY = 1 ∧ t.hostA = some ⟨3, seq.toNat, [a.toNat]⟩ ∧
      ∃ d < 2, t.pwr = { s.pwr with req := if a = 0 then 1 else 2, reqAt := s.tick + 2 + d, host := 1 }) ∧
  (∀ (seq : BitVec 8) (a : BitVec 36) (s : State) (code : Nat), a.toNat < 2 → HostListens s 2 → HostServes s 3 → HostFree s →
    code = (if s.get R.PWR_STATE_BUSY ≠ 0 then 0x42 else if s.get R.BOOT_STATUS_STATE = 0 then 0x40
      else if a ≠ 0 ∧ s.get R.PWR_STATE_STATE = 2 then runRefused s
      else if s.get R.PWR_STATE_STATE = 1 ∨ s.get R.PWR_STATE_STATE = 2 then 0 else 0x40) → code ≠ 0 →
    Runs (.setRunstate seq [a]) s ([only R.PWR_STATE_LAST_CODE 0] ++ mailPlaces ++ eventPlaces) (mailParts ++ eventParts) fun t =>
      t.get R.PWR_STATE_LAST_CODE = code ∧ Answers s t [hostWord 3 seq.toNat 1 1 9, code]) ∧
  (∀ (seq : BitVec 8) (s : State), HostListens s 1 → HostServes s 4 → HostIdle s → s.get R.PWR_STATE_BUSY = 0 → s.get R.BOOT_STATUS_STATE ≠ 0 →
    (s.get R.PWR_STATE_STATE = 1 ∨ s.get R.PWR_STATE_STATE = 2) → s.get R.BOOT_STATUS_OP = 0 → s.pnt.run = none →
    Runs (.setPower seq [0]) s ([only R.PWR_STATE_BUSY 0] ++ mailPlaces ++ eventPlaces) ([.pwr, .hostB] ++ mailParts ++ eventParts) fun t =>
      Answers s t [hostWord 4 seq.toNat 0 0 1] ∧ t.get R.PWR_STATE_BUSY = 1 ∧ t.hostB = some ⟨4, seq.toNat, [0]⟩ ∧
      ∃ d < 2, t.pwr = { s.pwr with req := 3, reqAt := s.tick + 2 + d, host := 2 }) ∧
  (∀ (seq : BitVec 8) (a : BitVec 36) (s : State) (code : Nat), a.toNat < 2 → HostListens s 3 → HostServes s 4 → HostIdle s →
    code = (if s.get R.PWR_STATE_BUSY ≠ 0 then 0x42 else if s.get R.BOOT_STATUS_STATE = 0 then 0x40 else if s.get R.PWR_STATE_STATE = 3 then 0
      else if a ≠ 0 ∨ (s.get R.PWR_STATE_STATE ≠ 1 ∧ s.get R.PWR_STATE_STATE ≠ 2) then 0x40
      else if s.get R.BOOT_STATUS_OP ≠ 0 ∨ s.pnt.run ≠ none then 0x42 else 0) → code ≠ 0 →
    Runs (.setPower seq [a]) s ([only R.PWR_STATE_LAST_CODE 0] ++ mailPlaces ++ eventPlaces) (mailParts ++ eventParts) fun t =>
      t.get R.PWR_STATE_LAST_CODE = code ∧ Answers s t [hostWord 4 seq.toNat 0 0 1, hostWord 4 seq.toNat 1 1 9, code]) ∧
  (∀ (seq : BitVec 8) (s : State), HostListens s 2 → HostServes s 4 → HostIdle s → s.get R.PWR_STATE_BUSY = 0 → s.get R.BOOT_STATUS_STATE ≠ 0 →
    s.get R.PWR_STATE_STATE = 3 →
    Runs (.setPower seq [1]) s ([only R.PWR_STATE_LAST_CODE 0, only R.PWR_STATE_STATE 0, only R.BOOT_STATUS_STATE 0, only R.BOOT_STATUS_OP 0,
        only R.HST_SESSION_RECOVERY 0] ++ mailPlaces ++ eventPlaces) ([.pwr, .boot] ++ mailParts ++ eventParts) fun t =>
      Answers s t [hostWord 4 seq.toNat 0 0 1, hostWord 4 seq.toNat 0 1 0] ∧ t.get R.PWR_STATE_STATE = 4 ∧ t.get R.PWR_STATE_LAST_CODE = 0 ∧
      t.get R.BOOT_STATUS_STATE = 1 ∧ t.get R.BOOT_STATUS_OP = 1 ∧ t.boot = { s.boot with cause := 0, castT0 := s.clock } ∧
      t.pwr = { s.pwr with railAt := s.clock } ∧ EventFires s t 1488) ∧
  (∀ (seq : BitVec 8) (a n : BitVec 36) (s : State), HostListens s 1 → HostServes s 0x10 → HostIdle s → s.get R.BOOT_STATUS_OP = 0 →
    ∀ p ∈ [(0x10, 0, Instr.stageImage seq [a, n]), (0x12, 1, Instr.stageFirmware seq [a, n])],
      Runs p.2.2 s ([only R.BOOT_STATUS_OP 0, only R.BOOT_STATUS_CMD_REJECT 0, only R.BOOT_STAGE_ADDR_LO_ADDR 0, only R.BOOT_STAGE_ADDR_HI_ADDR 0,
          only R.BOOT_STAGE_LEN_UNITS 0] ++ mailPlaces ++ eventPlaces) ([.hostB, .boot, .flash] ++ mailParts ++ eventParts) fun t =>
        Answers s t [hostWord p.1 seq.toNat 0 0 1] ∧ t.hostB = some ⟨p.1, seq.toNat, [a.toNat, n.toNat]⟩ ∧ t.get R.BOOT_STATUS_OP = 2 ∧
        t.get R.BOOT_STATUS_CMD_REJECT = 0 ∧ t.get R.BOOT_STAGE_ADDR_LO_ADDR = a.toNat / 2 ^ 12 % 2 ^ 20 ∧
        t.get R.BOOT_STAGE_ADDR_HI_ADDR = a.toNat / 2 ^ 32 % 2 ^ 4 ∧ t.get R.BOOT_STAGE_LEN_UNITS = n.toNat % 2 ^ 17 ∧
        t.boot = { s.boot with op := t.boot.op } ∧
        t.boot.op.map (fun o => (o.op, o.what, o.host, o.slot)) = some (2, p.2.1, true, slotTarget s (stagePair p.2.1)) ∧
        ((a.toNat % 4096 ≠ 0 ∨ 131071 < n.toNat) → t.boot.op.map (·.code) = some 0x21) ∧ (t.boot.op.map (·.code) ≠ some 0 → t.flash = s.flash)) ∧
  (∀ (seq : BitVec 8) (a b : BitVec 36) (s : State), HostListens s 1 → HostServes s 0x11 → HostIdle s → s.get R.BOOT_STATUS_OP = 0 → b.toNat < 2 ^ 28 →
    Runs (.recast seq [a, b]) s ([only R.BOOT_STATUS_OP 0, only R.BOOT_STATUS_CMD_REJECT 0, only R.BOOT_SWITCH_LO_TIME_LO 0, only R.BOOT_SWITCH_HI_TIME_HI 0] ++
        mailPlaces ++ eventPlaces) ([.hostB, .boot] ++ mailParts ++ eventParts) fun t =>
      Answers s t [hostWord 0x11 seq.toNat 0 0 1] ∧ t.hostB = some ⟨0x11, seq.toNat, [a.toNat, b.toNat]⟩ ∧ t.get R.BOOT_STATUS_OP = 3 ∧
      t.get R.BOOT_STATUS_CMD_REJECT = 0 ∧ t.boot = { s.boot with op := some { op := 3, host := true } } ∧
      t.get R.BOOT_SWITCH_LO_TIME_LO = a.toNat % 2 ^ 32 ∧ t.get R.BOOT_SWITCH_HI_TIME_HI = a.toNat / 2 ^ 32 + b.toNat * 2 ^ 4) ∧
  (∀ (seq : BitVec 8) (a b : BitVec 36) (s : State), HostListens s 3 → HostServes s 0x10 → HostIdle s → s.get R.BOOT_STATUS_OP ≠ 0 →
    ∀ p ∈ [(0x10, Instr.stageImage seq [a, b]), (0x12, Instr.stageFirmware seq [a, b])],
      Runs p.2 s ([only R.BOOT_STATUS_CMD_REJECT 0, only R.BOOT_STAGE_ADDR_LO_ADDR 0, only R.BOOT_STAGE_ADDR_HI_ADDR 0, only R.BOOT_STAGE_LEN_UNITS 0] ++
          mailPlaces ++ eventPlaces) (mailParts ++ eventParts) fun t =>
        t.get R.BOOT_STATUS_CMD_REJECT = 1 ∧ Answers s t [hostWord p.1 seq.toNat 0 0 1, hostWord p.1 seq.toNat 1 1 9, 0x20]) ∧
  (∀ (seq : BitVec 8) (s : State) (code : Nat), HostListens s 3 → HostServes s 0x14 → HostIdle s →
    code = (if s.get R.BOOT_STATUS_OP ≠ 0 then 0x20 else writeRefused s 2) →
    Runs (.calCommit seq []) s ([only R.BOOT_STATUS_LAST_CODE 0, only R.BOOT_STATUS_LOG_PENDING 0] ++ mailPlaces ++ eventPlaces)
      ([.flash, .bootUnwritten] ++ mailParts ++ eventParts) fun t =>
      Answers s t (if code = 0 then [hostWord 0x14 seq.toNat 0 0 1, hostWord 0x14 seq.toNat 0 1 0]
        else [hostWord 0x14 seq.toNat 0 0 1, hostWord 0x14 seq.toNat 1 1 9, code]) ∧
      (s.get R.BOOT_STATUS_OP = 0 → t.get R.BOOT_STATUS_LAST_CODE = code ∧ EventFires s t 1474)) ∧
  (∀ (seq : BitVec 8) (a b : BitVec 36) (s : State), HostListens s 1 → HostServes s 0x15 → HostIdle s → s.pnt.run = none → inHold s = true →
    a.toNat < 2 ^ 30 → b.toNat ≤ 1000000 → pntArgsOk a.toNat b.toNat = true → pntSecure s a.toNat = false →
    Runs (.pointingRun seq [a, b]) s ([only R.PNT_STATUS_STATE 0, only R.PNT_STATUS_ITEM 0, only R.PNT_COUNT_ACCEPTED 0, only R.PNT_COUNT_FAILED 0,
        only R.PNT_FAIL_VALID 0, only R.PNT_FAIL_REASON 0, only R.PNT_FAIL_INSTANCE 0, only R.MON_STATUS_BUSY 0, only R.MON_STATUS_USER 0,
        every R.MON_INJ_RES_LATE, every R.EVF_TASKST_PENDING] ++ mailPlaces ++ eventPlaces) ([.hostB, .pnt, .mon] ++ mailParts ++ eventParts) fun t =>
      Answers s t [hostWord 0x15 seq.toNat 0 0 1] ∧ t.hostB = some ⟨0x15, seq.toNat, [a.toNat, b.toNat]⟩ ∧ t.get R.PNT_STATUS_STATE = 1 ∧
      t.get R.PNT_STATUS_ITEM = bits a.toNat 27 24 ∧ t.get R.PNT_COUNT_ACCEPTED = 0 ∧ t.get R.PNT_COUNT_FAILED = 0 ∧ t.get R.PNT_FAIL_VALID = 0 ∧
      t.pnt = { s.pnt with run := t.pnt.run } ∧
      t.pnt.run.map (fun p => (p.mode, p.item, p.host, p.endCode, p.deadline)) =
        some (bits a.toNat 29 28, bits a.toNat 27 24, true, none, s.clock + b.toNat * 400000) ∧
      t.pnt.run.map (fun p => p.insts.map (·.n)) = some ((List.range (bits a.toNat 23 12)).map (bits a.toNat 11 0 + ·))) ∧
  (∀ (seq : BitVec 8) (a b : BitVec 36) (s : State) (n : Nat), HostListens s 3 → HostServes s 0x16 → HostIdle s →
    s.get R.MBX_CFG_END_A 0 = 0x20 → s.get R.MBX_CFG_END_B 0 = 1 → n = b.toNat * 4096 →
    Runs (.loadNcode seq [a, b]) s ([every R.GLB_PLN_CTRL_HOLD, every R.GLB_PLN_HLOCK_ACTIVE, every R.GLB_PLN_HLOCK_OPEN, every R.MBX_TXSTAT_FLUSH,
        every R.MBX_TXSTAT_FLUSHED, every R.MBX_EPOCH_EPOCH] ++ mailPlaces ++ eventPlaces) ([.hbm, .sram, .boot, .arbs] ++ mailParts ++ eventParts) fun t =>
      (sourceBad s a.toNat n = true → Answers s t [hostWord 0x16 seq.toNat 0 0 1, hostWord 0x16 seq.toNat 1 1 9, 0x21] ∧ t.hbm = s.hbm) ∧
      (sourceBad s a.toNat n = false → (railsGood s = false ∨ fwOk s true (hbmAcc s a.toNat) n (if s.boot.hasRun then some s.boot.userKey else none) = false) →
        Answers s t [hostWord 0x16 seq.toNat 0 0 1, hostWord 0x16 seq.toNat 1 1 9, 0x25] ∧ t.hbm = s.hbm) ∧
      (sourceBad s a.toNat n = false → railsGood s = true → fwOk s true (hbmAcc s a.toNat) n (if s.boot.hasRun then some s.boot.userKey else none) = true →
        mbxIn t 0 = mbxIn s 0 ++ [hostWord 0x16 seq.toNat 0 0 1, hostWord 0x16 seq.toNat 0 1 0].map (fun w => ⟨w, 1, s.get R.MBX_EPOCH_EPOCH 1⟩) ∧
        ∀ k < 8, bit (fwMask (hbmAcc s a.toNat)) k = true → t.get R.GLB_PLN_STATUS_STATE k = 2)) ∧
  (∀ (seq : BitVec 8) (s : State), hostUp s = true → HostFree s → ∃ t, exec (.recoveryCast seq []) s = .next t ∧
    t.get R.BOOT_STATUS_STATE = 0 ∧ t.get R.PWR_STATE_STATE = 4 ∧ t.boot.cause = 3 ∧ t.hostA = none ∧ mbxIn t 0 = [] ∧
    (∀ n < 256, t.get R.BIA_STATUS_STATE n = 0 ∧ (bias t n).closed = false) ∧
    Keeps [.pending, .tick, .xtalFail, .clock, .bootT0, .hbm, .quiesce, .msix, .flash, .i2c] s t) ∧
  (∀ (c : HostCmd) (l : List HostCmd) (s : State), hostUp s = true → s.hostBQ = c :: l → s.hostB = none →
    (inRecovery s = true ∨ s.get R.GLB_PLN_LOAD_LEVEL < 2) → c.op = 0x11 → s.get R.BOOT_STATUS_OP = 0 →
    Runs .classBStart s [only R.BOOT_STATUS_OP 0, only R.BOOT_STATUS_CMD_REJECT 0, only R.BOOT_SWITCH_LO_TIME_LO 0, only R.BOOT_SWITCH_HI_TIME_HI 0]
      [.hostB, .hostBQ, .boot] fun t =>
      t.hostBQ = l ∧ t.hostB = some c ∧ t.get R.BOOT_STATUS_OP = 3 ∧ t.boot = { s.boot with op := some { op := 3, host := true } }) ∧
  ∀ s : State, (hostUp s = false ∨ s.hostBQ = [] ∨ s.hostB ≠ none ∨ (inRecovery s = false ∧ 2 ≤ s.get R.GLB_PLN_LOAD_LEVEL)) →
    exec .classBStart s = .next s

/-! ### System lanes (15_system_lanes.md) -/

namespace Sys2Proof.Machine

/-- LAN_CTRL of lane `l` may be written: the access reaches it, and RT-locked fields are not held. -/
abbrev LaneWritable (s : State) (m : Master) (l : Fin 24) : Prop := reaches s m (0x800000 + l.val * 0x400) true = true ∧ rtHeld s m = false

/-- The places that a write of LAN_CTRL of lane `l`, beside an event, may write. -/
def laneCtrlPlaces (l : Nat) : List Place :=
  [only R.LAN_CTRL_ENABLE l, only R.LAN_CTRL_MODE l, only R.LAN_STATUS_STATE l, only R.LAN_STATUS_RES_EN l, only R.LAN_STATUS_LOCK l,
    only R.LAN_STATUS_PRBS_SYNC l]

/-- Lane `l` is in HUNT since this tick: nothing of its partner is kept, and what waits to be sent is (Table LAN-2, R397). -/
abbrev Hunts (s t : State) (l : Nat) : Prop :=
  t.get R.LAN_STATUS_STATE l = 1 ∧ t.get R.LAN_STATUS_LOCK l = 0 ∧ t.get R.LAN_STATUS_RES_EN l = 0 ∧ SameBut {} l s.lans t.lans ∧
    (s.get R.LAN_STATUS_RES_EN l ≠ 0 → EventFires s t (1058 + 4 * l)) ∧
    lan t l = { enAt := (lan t l).enAt, huntAt := s.clock, bulk := (lan t l).bulk, txSum := (lan t l).txSum, toks := (lan s l).toks }

/-- Lane `l` is OFF, or in TEST, as `st` says: its line is released and nothing of its partner is kept (Table LAN-2). -/
abbrev LaneStops (s t : State) (l st : Nat) : Prop :=
  t.get R.LAN_STATUS_STATE l = st ∧ t.get R.LAN_STATUS_LOCK l = 0 ∧ t.get R.LAN_STATUS_RES_EN l = 0 ∧ t.get R.LAN_STATUS_PRBS_SYNC l = 0 ∧
    SameBut {} l s.lans t.lans ∧ (s.get R.LAN_STATUS_RES_EN l ≠ 0 → EventFires s t (1058 + 4 * l)) ∧
    lan t l = { enAt := (lan t l).enAt, toks := (lan s l).toks }

end Sys2Proof.Machine

/-- R394, R396 to R403, R417, Tables LAN-2 and LAN-3. That an enabled lane that leaves TEST hunts is DEDUCED (log entry 46). -/
def Obligations.LaneTraining : Prop :=
  (∀ (m : Master) (l : Fin 24) (s : State), LaneWritable s m l → s.get R.LAN_CTRL_ENABLE l = 0 → s.get R.LAN_CTRL_MODE l % 4 ≠ 1 →
    s.get R.LAN_STATUS_STATE l = 0 → Runs (.laneEnable m l true) s (laneCtrlPlaces l ++ eventPlaces) ([.lans] ++ eventParts) fun t =>
      t.get R.LAN_CTRL_ENABLE l = 1 ∧ t.get R.LAN_CTRL_MODE l = s.get R.LAN_CTRL_MODE l % 4 ∧ Hunts s t l ∧ (lan t l).enAt = s.tick) ∧
  (∀ (m : Master) (l : Fin 24) (s : State), LaneWritable s m l → s.get R.LAN_CTRL_ENABLE l = 0 → s.get R.LAN_CTRL_MODE l % 4 = 1 →
    s.get R.LAN_STATUS_STATE l = 0 → Runs (.laneEnable m l true) s (laneCtrlPlaces l ++ eventPlaces) ([.lans] ++ eventParts) fun t =>
      t.get R.LAN_CTRL_ENABLE l = 1 ∧ LaneStops s t l 5 ∧ (lan t l).enAt = s.tick) ∧
  (∀ (m : Master) (l : Fin 24) (s : State), LaneWritable s m l → s.get R.LAN_CTRL_ENABLE l ≠ 0 →
    Runs (.laneEnable m l false) s (laneCtrlPlaces l ++ eventPlaces) ([.lans] ++ eventParts) fun t =>
      t.get R.LAN_CTRL_ENABLE l = 0 ∧ LaneStops s t l 0 ∧ (lan t l).enAt = (lan s l).enAt) ∧
  (∀ (m : Master) (l : Fin 24) (s : State) (on : Bool), LaneWritable s m l → (s.get R.LAN_CTRL_ENABLE l ≠ 0 ↔ on = true) →
    (on = true → (s.get R.LAN_CTRL_MODE l % 4 = 1 ↔ s.get R.LAN_STATUS_STATE l = 5)) →
    Runs (.laneEnable m l on) s [only R.LAN_CTRL_ENABLE l, only R.LAN_CTRL_MODE l] [] fun t => t.get R.LAN_CTRL_ENABLE l = b2n on) ∧
  (∀ (m : Master) (l : Fin 24) (s : State), LaneWritable s m l → s.get R.LAN_CTRL_ENABLE l = 1 → s.get R.LAN_CTRL_MODE l % 4 ≠ 1 →
    1 ≤ s.get R.LAN_STATUS_STATE l → s.get R.LAN_STATUS_STATE l ≤ 4 →
    Runs (.laneRetrain m l) s (laneCtrlPlaces l ++ eventPlaces) ([.lans] ++ eventParts) fun t =>
      Hunts s t l ∧ (lan t l).enAt = (lan s l).enAt ∧ (lan t l).bulk = (lan s l).bulk ∧ (lan t l).txSum = (lan s l).txSum) ∧
  (∀ (m : Master) (l : Fin 24) (s : State), LaneWritable s m l → s.get R.LAN_CTRL_ENABLE l = 0 →
    Runs (.laneRetrain m l) s [only R.LAN_CTRL_ENABLE l, only R.LAN_CTRL_MODE l] [] fun t => t.get R.LAN_CTRL_ENABLE l = 0) ∧
  (∀ (m : Master) (l : Fin 24) (s : State), LaneWritable s m l → s.get R.LAN_CTRL_ENABLE l = 1 → s.get R.LAN_STATUS_STATE l ≠ 5 →
    Runs (.laneTestMode m l 1) s (laneCtrlPlaces l ++ eventPlaces) ([.lans] ++ eventParts) fun t =>
      t.get R.LAN_CTRL_MODE l = 1 ∧ t.get R.LAN_CTRL_ENABLE l = 1 ∧ LaneStops s t l 5 ∧ (lan t l).enAt = (lan s l).enAt) ∧
  (∀ (m : Master) (l : Fin 24) (mode : Fin 4) (s : State), LaneWritable s m l → s.get R.LAN_CTRL_ENABLE l = 1 → s.get R.LAN_STATUS_STATE l = 5 →
    mode ≠ 1 → Runs (.laneTestMode m l mode) s (laneCtrlPlaces l ++ eventPlaces) ([.lans] ++ eventParts) fun t =>
      t.get R.LAN_CTRL_MODE l = mode ∧ Hunts s t l ∧ (lan t l).enAt = (lan s l).enAt) ∧
  (∀ (m : Master) (l : Fin 24) (mode : Fin 4) (s : State), LaneWritable s m l →
    (s.get R.LAN_CTRL_ENABLE l = 0 ∨ (s.get R.LAN_CTRL_ENABLE l = 1 ∧ (mode = 1 ↔ s.get R.LAN_STATUS_STATE l = 5))) →
    Runs (.laneTestMode m l mode) s [only R.LAN_CTRL_ENABLE l, only R.LAN_CTRL_MODE l] [] fun t => t.get R.LAN_CTRL_MODE l = mode) ∧
  (∀ (l : Fin 24) (s : State), s.get R.LAN_STATUS_STATE l = 1 →
    Runs (.laneLock l) s [only R.LAN_STATUS_LOCK l, only R.LAN_STATUS_STATE l] [] fun t =>
      t.get R.LAN_STATUS_LOCK l = 1 ∧ t.get R.LAN_STATUS_STATE l = 2) ∧
  (∀ (l : Fin 24) (s : State), s.get R.LAN_STATUS_STATE l ≠ 1 → exec (.laneLock l) s = .next s) ∧
  (∀ (l : Fin 24) (s : State), 1 ≤ s.get R.LAN_STATUS_STATE l → s.get R.LAN_STATUS_STATE l ≤ 3 → (lan s l).wasUp = false →
    (lan s l).huntAt + 40000000 ≤ s.clock →
    Runs (.trainTimeout l) s [only R.LAN_STATUS_TRAIN_FAIL l] [] fun t => t.get R.LAN_STATUS_TRAIN_FAIL l = 1) ∧
  (∀ (l : Fin 24) (s : State), (s.get R.LAN_STATUS_STATE l = 0 ∨ 4 ≤ s.get R.LAN_STATUS_STATE l ∨ (lan s l).wasUp = true ∨
    s.clock < (lan s l).huntAt + 40000000) →
    exec (.trainTimeout l) s = .next s) ∧
  (∀ (l : Fin 24) (s : State), mainPowered s = false → exec (.laneFrameTransmit l) s = .next s) ∧
  (∀ (l : Fin 24) (s : State), mainPowered s = true → s.get R.LAN_STATUS_STATE l = 0 →
    Runs (.laneFrameTransmit l) s [] [.lans] fun t => SameBut {} l.val s.lans t.lans ∧ lan t l = { lan s l with line := [] }) ∧
  (∀ (l : Fin 24) (s : State), mainPowered s = true → 1 ≤ s.get R.LAN_STATUS_STATE l → s.get R.LAN_STATUS_STATE l ≤ 3 →
    bits (trainFrame s l (lan s l).idx false) 63 56 = 1 →
    Runs (.laneFrameTransmit l) s [] [.lans] fun t =>
      SameBut {} l.val s.lans t.lans ∧ lan t l = { lan s l with
        line := lineBits true (trainFrame s l (lan s l).idx false), sent := (lan t l).sent, idx := ((lan s l).idx + 1) % 8
        ackSent := (lan s l).ackSent || ((lan s l).idx == 5 && (lan s l).ack) }) ∧
  (∀ (l : Fin 24) (s : State) (prior : List Bool), mainPowered s = true → s.get R.LAN_STATUS_STATE l = 5 →
    prior = (if (lan s l).line = [] then List.replicate 31 false else (lan s l).line.reverse) →
    Runs (.laneFrameTransmit l) s [] [.lans] fun t =>
      SameBut {} l.val s.lans t.lans ∧ lan t l = { lan s l with line := (lan t l).line } ∧ (lan t l).line.length = 68 ∧
      ∀ k < 68, (lan t l).line.getD k false = prbsNext (((lan t l).line.take k).reverse ++ prior)) ∧
  (∀ (l : Fin 24) (line : BitVec 68) (s : State),
    Runs (.laneFrameReceive l line) s (laneRxPlaces ++ eventPlaces) ([.lans] ++ eventParts) fun t => SameBut {} l.val s.lans t.lans) ∧
  (∀ (l : Fin 24) (line : BitVec 68) (s : State), s.get R.LAN_CTRL_MODE l ≠ 2 → s.get R.LAN_STATUS_STATE l ∈ [0, 1, 5] →
    exec (.laneFrameReceive l line) s = .next s) ∧
  (∀ (l : Fin 24) (line : BitVec 68) (s : State), s.get R.LAN_CTRL_MODE l ≠ 2 → s.get R.LAN_STATUS_STATE l ∈ [2, 3, 4] →
    s.get R.LAN_STATUS_LOCK l ≠ 0 → 16 ≤ ((rxHeaders s l line).filter (!·)).length →
    Runs (.laneFrameReceive l line) s (laneRxPlaces ++ eventPlaces) ([.lans] ++ eventParts) fun t =>
      t.get R.LAN_STATUS_LOCK_LOST l = 1 ∧ t.get R.LAN_STATUS_LOCK l = 0 ∧ t.get R.LAN_STATUS_STATE l = 1 ∧ t.get R.LAN_STATUS_RES_EN l = 0 ∧
      (lan t l).huntAt = s.clock ∧ EventFires s t (1057 + 4 * l)) ∧
  (∀ (l : Fin 24) (line : BitVec 68) (s : State), LaneSees s l line [2, 3, 4] none →
    Runs (.laneFrameReceive l line) s [only R.LAN_HDR_ERR_CNT_COUNT l] [.lans] fun t =>
      Counted s t R.LAN_HDR_ERR_CNT_COUNT l ∧ (lan t l).hdrs = rxHeaders s l line ∧ (lan t l).cur = (lan s l).cur) ∧
  (∀ (l : Fin 24) (line : BitVec 68) (s : State) (p st c : Nat), LaneSees s l line [2, 3, 4] (some (true, p)) → TrainIs p st 0 c →
    Runs (.laneFrameReceive l line) s [] [.lans] fun t => (lan t l).cur = [c] ∧ (lan t l).pfc = some (c % 2 ^ 32 + 1)) ∧
  (∀ (l : Fin 24) (line : BitVec 68) (s : State) (p st i c : Nat), LaneSees s l line [2, 3, 4] (some (true, p)) → TrainIs p st i c → 0 < i → i < 7 →
    (lan s l).cur.length = i → (i = 1 → s.get R.LAN_STATUS_STATE l ≠ 3) →
    Runs (.laneFrameReceive l line) s [] [.lans] fun t => (lan t l).cur = (lan s l).cur ++ [c] ∧ (i = 1 → (lan t l).aAt = timeDiff s c)) ∧
  (∀ (l : Fin 24) (line : BitVec 68) (s : State) (p st i c : Nat), LaneSees s l line [2, 3, 4] (some (true, p)) → TrainIs p st i c → 0 < i →
    (lan s l).cur.length ≠ i → Runs (.laneFrameReceive l line) s [] [.lans] fun t => (lan t l).cur = []) ∧
  (∀ (l : Fin 24) (line : BitVec 68) (s : State) (p st c : Nat) (b key : List Nat), LaneSees s l line [2] (some (true, p)) → TrainIs p st 7 c →
    b = (lan s l).cur → b.length = 7 → key = [b.getD 2 0, b.getD 3 0, b.getD 4 0] →
    Runs (.laneFrameReceive l line) s laneRxPlaces [.lans] fun t =>
      (lan t l).cur = [] ∧ (lan t l).prev = key ∧ (lan t l).ackGot = ((lan s l).ackGot || bit (b.getD 5 0) 0) ∧
      ((lan s l).prev ≠ key → (lan t l).ack = (lan s l).ack) ∧
      ((lan s l).prev = key → (lan t l).ack = true ∧ PartnerShown t l b) ∧
      (bits (b.getD 0 0) 39 36 = 15 → bits (b.getD 0 0) 35 32 = 15 → t.get R.LAN_STATUS_TRAIN_FAIL l = 1 ∧ t.get R.LAN_STATUS_STATE l = 2) ∧
      (((lan t l).ack = false ∨ (lan s l).ackSent = false ∨ (lan t l).ackGot = false) → t.get R.LAN_STATUS_STATE l = 2) ∧
      (bits (b.getD 0 0) 39 36 ≠ 15 → t.get R.LAN_STATUS_REV_MAJOR l = 2 ∧ t.get R.LAN_STATUS_REV_MINOR l = min (bits (b.getD 0 0) 39 36) 1) ∧
      (bits (b.getD 0 0) 39 36 = 15 → bits (b.getD 0 0) 35 32 ≠ 15 →
        t.get R.LAN_STATUS_REV_MAJOR l = 1 ∧ t.get R.LAN_STATUS_REV_MINOR l = min (bits (b.getD 0 0) 35 32) 3) ∧
      (¬ (bits (b.getD 0 0) 39 36 = 15 ∧ bits (b.getD 0 0) 35 32 = 15) → ((lan s l).prev = key ∨ (lan s l).ack = true) → (lan s l).ackSent = true →
        ((lan s l).ackGot = true ∨ bit (b.getD 5 0) 0 = true) → t.get R.LAN_STATUS_STATE l = 3 ∧ (lan t l).as_ = [] ∧ (lan t l).tries = 0)) ∧
  (∀ (l : Fin 24) (line : BitVec 68) (s : State) (p st c : Nat), LaneSees s l line [3] (some (true, p)) → TrainIs p st 1 c →
    (lan s l).cur.length = 1 →
    Runs (.laneFrameReceive l line) s (laneRxPlaces ++ eventPlaces) ([.lans] ++ eventParts) fun t =>
      ((lan s l).as_.length < 15 → t.get R.LAN_STATUS_STATE l = 3 ∧ (lan t l).as_ = timeDiff s c :: (lan s l).as_) ∧
      (15 ≤ (lan s l).as_.length → (lan s l).as_.any (fun a => a != timeDiff s c) = true → (lan s l).tries < 15 →
        t.get R.LAN_STATUS_STATE l = 3 ∧ (lan t l).as_ = [] ∧ (lan t l).tries = (lan s l).tries + 1) ∧
      (15 ≤ (lan s l).as_.length → (lan s l).as_.any (fun a => a != timeDiff s c) = true → 15 ≤ (lan s l).tries →
        t.get R.LAN_STATUS_TRAIN_FAIL l = 1 ∧ t.get R.LAN_STATUS_STATE l = 1 ∧ (lan t l).huntAt = s.clock) ∧
      (15 ≤ (lan s l).as_.length → (∀ a ∈ (lan s l).as_, a = timeDiff s c) →
        t.get R.LAN_STATUS_STATE l = 4 ∧ (lan t l).wasUp = true ∧ sgn 16 (t.get R.LAN_LATENCY_A l) = shownA (timeDiff s c) ∧
        t.get R.LAN_LATENCY_DEPTH l = (if 40 ≤ timeDiff s c ∧ timeDiff s c ≤ 50 then (52 - timeDiff s c).toNat else 0) ∧
        t.get R.LAN_STATUS_LAT_RANGE l = b2n (decide (timeDiff s c < 40 ∨ 50 < timeDiff s c)) ∧ (lan t l).cr0 = 64 ∧ (lan t l).cr1 = 64 ∧
        (lan t l).owe0 = 0 ∧ (lan t l).owe1 = 0 ∧ EventFires s t (1056 + 4 * l) ∧
        (t.get R.LAN_STATUS_RES_EN l ≠ 0 ↔ ResAgrees s t l (timeDiff s c)))) ∧
  (∀ (l : Fin 24) (s : State), exec (.prbsChecker l []) s = .next s) ∧
  (∀ (l : Fin 24) (rx : List Bool) (s : State), s.get R.LAN_STATUS_STATE l ≠ 5 → exec (.prbsChecker l rx) s = .next s) ∧
  (∀ (l : Fin 24) (b : Bool) (rx : List Bool) (s : State), s.get R.LAN_STATUS_STATE l = 5 → ∃ t, exec (.prbsChecker l [b]) s = .next t ∧
    t.get R.LAN_STATUS_STATE l = 5 ∧ exec (.prbsChecker l (b :: rx)) s = exec (.prbsChecker l rx) t) ∧
  (∀ (l : Fin 24) (b : Bool) (s : State), s.get R.LAN_STATUS_STATE l = 5 → s.get R.LAN_STATUS_PRBS_SYNC l = 0 →
    Runs (.prbsChecker l [b]) s [only R.LAN_STATUS_PRBS_SYNC l] [.lans] fun t =>
      SameBut {} l.val s.lans t.lans ∧ lan t l = { lan s l with prbs := b :: (lan s l).prbs, prbsErr := [] } ∧
      t.get R.LAN_STATUS_PRBS_SYNC l = b2n (decide (30 ≤ (lan s l).prbs.length))) ∧
  ∀ (l : Fin 24) (b err : Bool) (s : State) (w : List Bool), s.get R.LAN_STATUS_STATE l = 5 → s.get R.LAN_STATUS_PRBS_SYNC l ≠ 0 →
    err = (b != prbsNext (lan s l).prbs) → w = (err :: (lan s l).prbsErr).take 256 →
    Runs (.prbsChecker l [b]) s [only R.LAN_STATUS_PRBS_SYNC l, only R.LAN_PRBS_ERR_CNT_COUNT l, only R.LAN_PRBS_BITS_LO_BITS_LO l] [.lans] fun t =>
      SameBut {} l.val s.lans t.lans ∧ (err = true → Counted s t R.LAN_PRBS_ERR_CNT_COUNT l) ∧
      (err = false → t.get R.LAN_PRBS_ERR_CNT_COUNT l = s.get R.LAN_PRBS_ERR_CNT_COUNT l) ∧
      (lan t l).prbsBits = ((lan s l).prbsBits + 1) % 2 ^ 64 ∧ t.get R.LAN_PRBS_BITS_LO_BITS_LO l = ((lan s l).prbsBits + 1) % 2 ^ 32 ∧
      ((w.filter (·)).length < 64 → t.get R.LAN_STATUS_PRBS_SYNC l = s.get R.LAN_STATUS_PRBS_SYNC l ∧ (lan t l).prbsErr = w ∧
        (lan t l).prbs = (prbsNext (lan s l).prbs :: (lan s l).prbs).take 31) ∧
      (64 ≤ (w.filter (·)).length → t.get R.LAN_STATUS_PRBS_SYNC l = 0 ∧ (lan t l).prbs = [])

/-! ### Reserved and bulk traffic of the lanes (15_system_lanes.md) -/

namespace Sys2Proof.Machine

/-- Lane `l` puts this frame on its line, scrambled (R391 to R393). -/
abbrev LaneSends (s t : State) (l : Nat) (ctrl : Bool) (payload : Nat) : Prop :=
  (lan t l).line = lineBits ctrl (scramble payload (lanFc s l)) ∧ SameBut {} l s.lans t.lans

/-- Lane `l` is in UP, powered, and this tick is a reserved position of entry `e` that its session carries, with RES_EN 1 (R399, R403, R406). -/
abbrev LaneReserved (s : State) (l e : Nat) : Prop :=
  mainPowered s = true ∧ s.get R.LAN_STATUS_STATE l = 4 ∧ lanTxEntry s l = some e ∧ s.get R.LAN_STATUS_RES_EN l ≠ 0 ∧
    (bits e 30 28 = 0 ∨ 2 ≤ s.get R.LAN_STATUS_REV_MAJOR l)

/-- Schedule time was not set within the last 256 ticks (R404). -/
abbrev TimeSettled (s : State) : Prop := s.timeLoadedAt = 0 ∨ s.timeLoadedAt - 1 + 256 ≤ s.tick

/-- Lane `l` is in UP, powered, and this tick is a bulk position: not reserved, or a reserved one while RES_EN is 0 or of a KIND its session does not
carry (R399, R404, R406, R409). -/
abbrev BulkPosition (s : State) (l : Nat) : Prop :=
  mainPowered s = true ∧ s.get R.LAN_STATUS_STATE l = 4 ∧
    ∀ e ∈ lanTxEntry s l, TimeSettled s ∧ (s.get R.LAN_STATUS_RES_EN l = 0 ∨ lanCarries s l e = false)

/-- That, outside a gap window. -/
abbrev LaneBulk (s : State) (l : Nat) : Prop := BulkPosition s l ∧ (revAtLeast s l 2 1 = true → inGap s 3 l = none)

/-- What a lane in UP reads from a frame: it descrambles with the partner's counter `c`, and the frame stands in no reserved position. -/
abbrev BulkSees (s : State) (l : Fin 24) (line : BitVec 68) (ctrl : Bool) (p c : Nat) : Prop :=
  LaneSees s l line [4] (some (ctrl, p)) ∧ (lan s l).pfc = some c ∧ lanExpect s l (lanX (lan s l) c) = none ∧ (ctrl = true → bits p 63 56 ≠ 1)

/-- Age of a frame sent at schedule time `x`: how long ago that was (R405). -/
def frameAge (s : State) (x : Nat) : Int := sgn 32 ((s.now % 2 ^ 32 + 2 ^ 32 - x) % 2 ^ 32)

/-- The places that a reserved frame may write where it acts. -/
def resPlaces : List Place :=
  [every R.GLB_HARVEST_LATE_CNT_COUNT, every R.GLB_BAR_TOKENS, every R.LAN_STATUS_RES_LATE, every R.LAN_STATUS_RES_LOST,
    every R.LAN_RES_LOST_CNT_COUNT, every R.LAN_RES_LATE_CNT_COUNT, every R.DEC_STATUS_LANE_DEFAULT, every R.DEC_STATUS_LANE_LATE,
    every R.DEC_LANE_CNT_COUNT, every R.DEC_LATE_CNT_COUNT, every R.CHS_STATUS_SHOT_TAINT, every R.CLP_STATUS_SHOT_TAINT]

/-- The parts that a reserved frame may write where it acts. -/
def resParts : List Part := [.taintTick, .shotT, .decVal, .decPub, .decTaint, .pubSeen, .lans]

/-- On this tick the frame that lane `l`'s partner sent at schedule time `x` is due, in a position of receive entry `e` (R405). -/
abbrev FrameDue (s : State) (l x e : Nat) : Prop :=
  mainPowered s = true ∧ lanL s l ≠ 0 ∧ x = (s.now + 2 ^ 64 - 56) % 2 ^ 64 ∧ lanRxEntry s l (x % lanL s l) = some e

/-- That frame is lost: the lane is not in UP, or has nothing of it, or what it has says so (R405). -/
abbrev FrameLost (s : State) (l x e : Nat) : Prop :=
  s.get R.LAN_STATUS_STATE l ≠ 4 ∨ (lanCarries s l e = true ∧
    ((lan s l).due.find? fun d => d.1 == x % 2 ^ 32) ∈ ([none, some (x % 2 ^ 32, 1, 0)] : List (Option (Nat × Nat × Nat))))

/-- Decision word `w` is published with payload `v` (R294). -/
abbrev WordPublished (t : State) (w v : Nat) : Prop := ∀ i < 64, sget false t.decVal (64 * w + i) = bit v i ∧ sget false t.decPub (64 * w + i) = true

/-- A lost frame is counted at lane `l` and shown; ERROR fires when it was not shown yet (R405). -/
abbrev LossShown (s t : State) (l : Nat) : Prop :=
  Counted s t R.LAN_RES_LOST_CNT_COUNT l ∧ t.get R.LAN_STATUS_RES_LOST l ≠ 0 ∧
    (s.get R.LAN_STATUS_RES_LOST l = 0 → EventFires s t (1059 + 4 * l))

/-- Does Chisel `n` wait on barrier `b`? -/
def waitsBar (s : State) (n b : Nat) : Bool :=
  match (chs s n).wait with
  | .bar k _ => k == b
  | _ => false

/-- The places that bulk traffic, beside the checks of its HBM accesses, may write. -/
def bulkPlaces : List Place := [every R.LAN_STATUS_CRC_ERR, every R.LAN_BULK_CRC_CNT_COUNT, every R.LAN_BQ_RD_INDEX]

/-- Packet `p` waits on lane `o`, in virtual channel `vc`, behind those that waited there (R412, R413). -/
abbrev Queued (s t : State) (o : Nat) (p : Pkt) (vc : Nat) : Prop := (lan t o).bulk = (lan s o).bulk ++ [{ p with vc := vc }]

/-- The virtual channel of a packet at `own` that leaves in direction `dir` toward a lane, having come in dimension `d`: VC0 where it changes
dimension, VC1 once it crosses the dateline (R413). -/
def leavesOn (s : State) (p : Pkt) (dir : Nat) (d : Option Nat) : Nat :=
  if crossesDateline (s.get R.LAN_COORD_POS) dir (torus s) = true then 1 else if d = some (dir / 2) then p.vc else 0

/-- The packet at the head of what lane `l` has assembled is well-formed and is `p`; `rest` follows it. -/
abbrev PacketIs (s : State) (l : Nat) (p : Pkt) (rest : List (Nat × List Nat × Nat)) : Prop :=
  ((lan s l).pkts.head?.bind fun x => readPkt x.1 x.2.1 x.2.2) = some p ∧ (lan s l).pkts.drop 1 = rest

/-- Frames of a packet with payload `n` long have left their buffer in virtual channel `vc` of lane `l`: they are owed (R413). -/
abbrev Owed (s t : State) (l vc n : Nat) : Prop :=
  (lan t l).owe0 = (lan s l).owe0 + (if vc = 0 then n + 2 else 0) ∧ (lan t l).owe1 = (lan s l).owe1 + if vc = 0 then 0 else n + 2

/-- The lane bulk engine is idle with a descriptor to take, `v` the bytes of it (R414). -/
abbrev Descriptor (s : State) (v : Nat) : Prop :=
  s.xtalFail = false ∧ mainPowered s = true ∧ s.get R.LAN_BQ_SIZE_ENABLE ≠ 0 ∧ s.get R.LAN_BQ_RD_INDEX ≠ s.get R.LAN_BQ_WR_INDEX ∧ s.bqCur = none ∧
    Granted s (instSecure s 624) (bqAddr s) 32 ∧ v = hbmRead s (bqAddr s) 32

/-- The bulk engine has completed its descriptor with STATUS `st`: RD moves on, and the status byte is written where the world allows it
(R414). -/
abbrev Completed (s t : State) (st : Nat) : Prop :=
  t.get R.LAN_BQ_RD_INDEX = (s.get R.LAN_BQ_RD_INDEX + 1) % 2 ^ 32 ∧ t.bqCur = none ∧
    (Granted s (instSecure s 624) (bqAddr s + 1) 1 → hbmByte t (bqAddr s + 1) = BitVec.ofNat 8 st ∧ HbmBut s t [(bqAddr s + 1, 1)])

/-- Does a descriptor name an operation and a destination that exist, other than this module (R414)? -/
def descriptorOk (s : State) (v : Nat) : Bool :=
  (bits v 7 0 == 1 || bits v 7 0 == 2) && bits v 31 16 != s.get R.LAN_COORD_POS && inTorus s (bits v 31 16)

end Sys2Proof.Machine

/-- R59, R294, R391, R399, R403 to R414, R416, Table LAN-1. -/
def Obligations.LaneTraffic : Prop :=
  (∀ (l : Fin 24) (s : State), Runs (.laneFrameTransmit l) s [only R.DEC_STATUS_UNPUB_TX 0, only R.DEC_UNPUB_TX_CNT_COUNT 0] [.lans, .bqCur] fun _ => True) ∧
  (∀ (l : Fin 24) (s : State) (e : Nat), mainPowered s = true → s.get R.LAN_STATUS_STATE l = 4 → lanTxEntry s l = some e → ¬ TimeSettled s →
    Runs (.laneFrameTransmit l) s [] [.lans] fun t => LaneSends s t l true 0) ∧
  (∀ (l : Fin 24) (s : State) (e n : Nat), LaneReserved s l e → TimeSettled s → bits e 30 28 = 0 →
    n = ((List.range 64).filter fun i => !sget false s.decPub (64 * bits e 4 0 + i) && (decDeclared s (64 * bits e 4 0 + i)).isSome).length →
    Runs (.laneFrameTransmit l) s [only R.DEC_STATUS_UNPUB_TX 0, only R.DEC_UNPUB_TX_CNT_COUNT 0] [.lans] fun t =>
      LaneSends s t l false (decPayload s (bits e 4 0)) ∧ (0 < n → t.get R.DEC_STATUS_UNPUB_TX = 1 ∧
        t.get R.DEC_UNPUB_TX_CNT_COUNT = min (s.get R.DEC_UNPUB_TX_CNT_COUNT + n) 0xFFFFFFFF) ∧
      (n = 0 → t.get R.DEC_UNPUB_TX_CNT_COUNT = s.get R.DEC_UNPUB_TX_CNT_COUNT)) ∧
  (∀ (l : Fin 24) (s : State) (e : Nat), LaneReserved s l e → TimeSettled s → bits e 30 28 = 1 →
    Runs (.laneFrameTransmit l) s [] [.lans] fun t => LaneSends s t l false ((List.range 16).foldl (fun v b => v + s.get R.GLB_BAR_LOCAL b * 2 ^ b) 0)) ∧
  (∀ (l : Fin 24) (s : State) (e : Nat), LaneReserved s l e → TimeSettled s → 2 ≤ bits e 30 28 →
    Runs (.laneFrameTransmit l) s [] [.lans] fun t =>
      (∀ p ∈ ((lan s l).fwd.filter fun f => f.1 == s.tick).bind (·.2), LaneSends s t l false p) ∧
      (((lan s l).fwd.filter fun f => f.1 == s.tick).bind (·.2) = none → LaneSends s t l true (6 * 2 ^ 56))) ∧
  (∀ (l : Fin 24) (s : State) (g : Gap) (k : Nat), BulkPosition s l → revAtLeast s l 2 1 = true → inGap s 3 l = some k → s.gaps[k]? = some g →
    Runs (.laneFrameTransmit l) s [] [.lans] fun t =>
      LaneSends s t l true (5 * 2 ^ 56 + (g.start + g.length - shotTick s) % 2 ^ 24 * 2 ^ 32)) ∧
  (∀ (l : Fin 24) (s : State), LaneBulk s l → s.tick < (lan s l).gapTo →
    Runs (.laneFrameTransmit l) s [] [.lans] fun t => LaneSends s t l true 0 ∧ (lan t l).ctl = (lan s l).ctl) ∧
  (∀ (l : Fin 24) (s : State) (b : Bool) (x : Nat) (rest : List (Bool × Nat)), LaneBulk s l → (lan s l).gapTo ≤ s.tick →
    (lan s l).ctl.filter (ctlInTime s l) = (b, x) :: rest →
    Runs (.laneFrameTransmit l) s [] [.lans] fun t => (lan t l).ctl = rest ∧ SameBut {} l.val s.lans t.lans ∧
      (b = true → bits (trainFrame s l x true) 63 56 = 1 → (lan t l).line = lineBits true (trainFrame s l x true)) ∧
      (b = false → bits x 63 56 ≠ 1 → LaneSends s t l true x)) ∧
  (∀ (l : Fin 24) (s : State), LaneBulk s l → (lan s l).gapTo ≤ s.tick → (lan s l).ctl.filter (ctlInTime s l) = [] →
    Runs (.laneFrameTransmit l) s [] [.lans, .bqCur] fun t => SameBut {} l.val s.lans t.lans ∧
      ((lan s l).frames = [] → pktReady (lan s l) = none → LaneSends s t l true 0) ∧
      (∀ f ∈ (lan s l).frames.head?, bits f.2 63 56 ≠ 1 → LaneSends s t l f.1 f.2 ∧ (lan t l).frames = (lan s l).frames.drop 1) ∧
      ((lan s l).frames = [] → ∀ p ∈ pktReady (lan s l), LaneSends s t l true (pktHead p) ∧ (lan t l).frames = (pktFrames p).drop 1 ∧
        (lan t l).bulk = (lan s l).bulk.erase p ∧ (lan t l).cr0 = (lan s l).cr0 - (if p.vc = 0 then pktLen p.kind + 2 else 0) ∧
        (lan t l).cr1 = (lan s l).cr1 - if p.vc = 0 then 0 else pktLen p.kind + 2)) ∧
  (∀ (l : Fin 24) (s : State), s.get R.LAN_STATUS_STATE l = 4 → (lan s l).ctl.any (·.1) = false →
    Runs (.statusBlockSend l) s [] [.lans] fun t => SameBut {} l.val s.lans t.lans ∧
      lan t l = { lan s l with ctl := (lan s l).ctl ++ (List.range 8).map fun i => (true, i) }) ∧
  (∀ (l : Fin 24) (s : State), (s.get R.LAN_STATUS_STATE l ≠ 4 ∨ (lan s l).ctl.any (·.1) = true) → exec (.statusBlockSend l) s = .next s) ∧
  (∀ (l : Fin 24) (s : State) (p : Nat × Nat), s.get R.LAN_STATUS_STATE l = 4 → revAtLeast s l 2 1 = true →
    ((lan s l).txSum.find? fun p => p.1 + 1 == lanFc s l / 4096) = some p →
    Runs (.sumSend l) s [] [.lans] fun t => SameBut {} l.val s.lans t.lans ∧ lan t l = { lan s l with
      txSum := (lan s l).txSum.filter (fun q => q.1 != p.1), ctl := (false, 7 * 2 ^ 56 + (p.1 % 2 ^ 20 * 2 ^ 32 + crcOut p.2) % 2 ^ 56) :: (lan s l).ctl }) ∧
  (∀ (l : Fin 24) (s : State), (s.get R.LAN_STATUS_STATE l ≠ 4 ∨ revAtLeast s l 2 1 = false ∨
    ((lan s l).txSum.find? fun p => p.1 + 1 == lanFc s l / 4096) = none) → exec (.sumSend l) s = .next s) ∧
  (∀ (l : Fin 24) (s : State), s.get R.LAN_STATUS_STATE l = 4 → (16 ≤ (lan s l).owe0 ∨ 16 ≤ (lan s l).owe1 ∨
      (0 < (lan s l).owe0 + (lan s l).owe1 ∧ (lan s l).oweAt + 256 ≤ s.tick)) →
    Runs (.creditReturn l) s [] [.lans] fun t => SameBut {} l.val s.lans t.lans ∧ lan t l = { lan s l with
      ctl := (lan s l).ctl ++ [(false, 4 * 2 ^ 56 + (min (lan s l).owe0 255 * 2 ^ 48 + min (lan s l).owe1 255 * 2 ^ 40))]
      owe0 := (lan s l).owe0 - 255, owe1 := (lan s l).owe1 - 255, oweAt := s.tick }) ∧
  (∀ (l : Fin 24) (s : State), (s.get R.LAN_STATUS_STATE l ≠ 4 ∨ ((lan s l).owe0 < 16 ∧ (lan s l).owe1 < 16 ∧
    ((lan s l).owe0 + (lan s l).owe1 = 0 ∨ s.tick < (lan s l).oweAt + 256))) → exec (.creditReturn l) s = .next s) ∧
  (∀ (l : Fin 24) (line : BitVec 68) (s : State) (p c : Nat) (b : List Nat), LaneSees s l line [4] (some (true, p)) → TrainIs p 1 7 c →
    b = (lan s l).cur → b.length = 7 →
    Runs (.laneFrameReceive l line) s (laneRxPlaces ++ eventPlaces) ([.lans] ++ eventParts) fun t =>
      PartnerShown t l b ∧ (lan t l).cur = [] ∧
      (shownA (lan s l).aAt ≠ lanA s l → t.get R.LAN_STATUS_STATE l = 3 ∧ t.get R.LAN_STATUS_RES_EN l = 0 ∧ (lan t l).as_ = [] ∧ (lan t l).tries = 0) ∧
      (shownA (lan s l).aAt = lanA s l → t.get R.LAN_STATUS_STATE l = 4 ∧ (t.get R.LAN_STATUS_RES_EN l ≠ 0 ↔ ResAgrees s t l (lanA s l)))) ∧
  (∀ (l : Fin 24) (line : BitVec 68) (s : State) (f : Bool × Nat) (c e x : Nat), LaneSees s l line [4] (some f) → (f.1 = true → bits f.2 63 56 ≠ 1) →
    (lan s l).pfc = some c → x = lanX (lan s l) c → lanExpect s l x = some e →
    Runs (.laneFrameReceive l line) s (laneRxPlaces ++ eventPlaces) ([.lans] ++ eventParts) fun t =>
      (52 < frameAge s x → (lan t l).rel = (lan s l).rel) ∧
      (frameAge s x ≤ 52 → (lan t l).rel = (lan s l).rel ++ [(x, if f.1 = true ∨ s.get R.LAN_STATUS_RES_EN l = 0 ∨ frameAge s x < 36 then none
        else some (scramble f.2 c))])) ∧
  (∀ (l : Fin 24) (line : BitVec 68) (s : State) (p c : Nat), BulkSees s l line false p c →
    Runs (.laneFrameReceive l line) s ([only R.LAN_BULK_CRC_CNT_COUNT l, only R.LAN_STATUS_CRC_ERR l] ++ eventPlaces) ([.lans] ++ eventParts) fun t =>
      (∀ q ∈ (lan s l).rx, (lan t l).rx = some (q.1, q.2 ++ [scramble p c])) ∧
      ((lan s l).rx = none → Counted s t R.LAN_BULK_CRC_CNT_COUNT l ∧ t.get R.LAN_STATUS_CRC_ERR l ≠ 0 ∧
        (s.get R.LAN_STATUS_CRC_ERR l = 0 → EventFires s t (1059 + 4 * l)))) ∧
  (∀ (l : Fin 24) (line : BitVec 68) (s : State) (p c w : Nat), BulkSees s l line true p c → w = scramble p c →
    Runs (.laneFrameReceive l line) s ([only R.LAN_BULK_CRC_CNT_COUNT l, only R.LAN_STATUS_CRC_ERR l, only R.LAN_SUM_ERR_CNT_COUNT l,
        only R.LAN_STATUS_SUM_ERR l, only R.LAN_SUM_TICK_TICK_LO l, only R.LAN_HDR_ERR_CNT_COUNT l] ++ eventPlaces) ([.lans] ++ eventParts) fun t =>
      (bits w 63 56 = 2 → (lan t l).rx = some (w, []) ∧ ((lan s l).rx ≠ none → Counted s t R.LAN_BULK_CRC_CNT_COUNT l)) ∧
      (bits w 63 56 = 3 → (lan t l).rx = none ∧ (∀ q ∈ (lan s l).rx, (lan t l).pkts = (lan s l).pkts ++ [(q.1, q.2, w)]) ∧
        ((lan s l).rx = none → Counted s t R.LAN_BULK_CRC_CNT_COUNT l)) ∧
      (bits w 63 56 = 4 → (lan t l).cr0 = (lan s l).cr0 + bits w 55 48 ∧ (lan t l).cr1 = (lan s l).cr1 + bits w 47 40) ∧
      (bits w 63 56 = 5 → revAtLeast s l 2 1 = true → (lan t l).gapTo = s.tick + bits w 55 32) ∧
      ((bits w 63 56 ≠ 5 ∨ revAtLeast s l 2 1 = false) → (lan t l).gapTo = (lan s l).gapTo) ∧
      (8 ≤ bits w 63 56 → Counted s t R.LAN_HDR_ERR_CNT_COUNT l) ∧
      (bits w 63 56 = 7 → revAtLeast s l 2 1 = true → ∀ r ∈ (lan s l).rxSum.head?, ((lan s l).rxSum.drop 1).map (·.interval) = [c / 4096] → r.interval + 1 = c / 4096 →
        bits w 51 32 = r.interval % 2 ^ 20 → r.ok = true → crcOut r.crc ≠ bits w 31 0 →
        Counted s t R.LAN_SUM_ERR_CNT_COUNT l ∧ t.get R.LAN_STATUS_SUM_ERR l ≠ 0 ∧ (s.get R.LAN_STATUS_SUM_ERR l = 0 →
          t.get R.LAN_SUM_TICK_TICK_LO l = r.first.getD 0 % 2 ^ 32 ∧ EventFires s t (1059 + 4 * l)))) ∧
  (∀ (l : Fin 24) (s : State) (x k : Nat), s.get R.LAN_STATUS_STATE l = 4 → x = (s.now + 2 ^ 32 - 52) % 2 ^ 32 → (lanExpect s l x).isSome = true →
    k = (if s.get R.LAN_STATUS_RES_EN l = 0 ∨ ((lan s l).rel.find? fun r => r.1 == x) = some (x, none) then 1
      else if ((lan s l).rel.find? fun r => r.1 == x) = none then 2 else 0) →
    Runs (.reservedRelease l) s [] [.lans] fun t => SameBut {} l.val s.lans t.lans ∧ lan t l = { lan s l with
      rel := (lan s l).rel.filter (fun r => r.1 != x)
      due := ((lan s l).due.filter fun r => r.1 != x) ++
        [(x, k, if k = 0 then ((((lan s l).rel.find? fun r => r.1 == x).bind (·.2)).getD 0) else 0)] }) ∧
  (∀ (l : Fin 24) (s : State), (s.get R.LAN_STATUS_STATE l ≠ 4 ∨ lanExpect s l ((s.now + 2 ^ 32 - 52) % 2 ^ 32) = none) →
    exec (.reservedRelease l) s = .next s) ∧
  (∀ (l : Fin 24) (s : State), (mainPowered s = false ∨ lanL s l = 0 ∨ lanRxEntry s l ((s.now + 2 ^ 64 - 56) % 2 ^ 64 % lanL s l) = none) →
    exec (.lanePublish l) s = .next s) ∧
  (∀ (l : Fin 24) (s : State) (x e p : Nat), FrameDue s l x e → s.get R.LAN_STATUS_STATE l = 4 → bits e 30 28 = 0 →
    ((lan s l).due.find? fun d => d.1 == x % 2 ^ 32) = some (x % 2 ^ 32, 0, p) →
    Runs (.lanePublish l) s (taintPlaces ++ eventPlaces) ([.decVal, .decPub, .decTaint, .pubSeen, .lans, .taintTick] ++ eventParts) fun t =>
      WordPublished t (28 + bits e 1 0) p ∧ (lan t l).due = (lan s l).due.filter (fun d => d.1 != x % 2 ^ 32)) ∧
  (∀ (l : Fin 24) (s : State) (x e : Nat), FrameDue s l x e → bits e 30 28 = 0 → FrameLost s l x e →
    Runs (.lanePublish l) s (resPlaces ++ taintPlaces ++ eventPlaces) (resParts ++ eventParts) fun t =>
      WordPublished t (28 + bits e 1 0) (sget 0 s.lanDef (l * 4096 + x % lanL s l)) ∧ LossShown s t l ∧ t.get R.DEC_STATUS_LANE_DEFAULT = 1 ∧
      Counted s t R.DEC_LANE_CNT_COUNT ∧ Counted s t R.GLB_HARVEST_LATE_CNT_COUNT ∧ bit (t.get R.GLB_TAINT_STICKY_TAINT) tLANE = true ∧
      bit (taintMask (sget [] t.decTaint (28 + bits e 1 0))) tLANE = true) ∧
  (∀ (l : Fin 24) (s : State) (x e : Nat), FrameDue s l x e → bits e 30 28 = 0 → s.get R.LAN_STATUS_STATE l = 4 →
    ((lan s l).due.find? fun d => d.1 == x % 2 ^ 32) = some (x % 2 ^ 32, 2, 0) →
    Runs (.lanePublish l) s (resPlaces ++ taintPlaces ++ eventPlaces) (resParts ++ eventParts) fun t =>
      WordPublished t (28 + bits e 1 0) (sget 0 s.lanDef (l * 4096 + x % lanL s l)) ∧ Counted s t R.LAN_RES_LATE_CNT_COUNT l ∧
      t.get R.LAN_STATUS_RES_LATE l = 1 ∧ t.get R.DEC_STATUS_LANE_LATE = 1 ∧ Counted s t R.DEC_LATE_CNT_COUNT ∧
      Counted s t R.GLB_HARVEST_LATE_CNT_COUNT ∧ bit (t.get R.GLB_TAINT_STICKY_TAINT) tLATE = true) ∧
  (∀ (l : Fin 24) (s : State) (x e p : Nat), FrameDue s l x e → s.get R.LAN_STATUS_STATE l = 4 → 2 ≤ s.get R.LAN_STATUS_REV_MAJOR l →
    bits e 30 28 = 1 → ((lan s l).due.find? fun d => d.1 == x % 2 ^ 32) = some (x % 2 ^ 32, 0, p) →
    Runs (.lanePublish l) s [every R.GLB_BAR_TOKENS] [.lans] fun t => ∀ b < 16,
      (bit p b = true → b ∉ (lan s l).toks → t.get R.GLB_BAR_TOKENS b = min (s.get R.GLB_BAR_TOKENS b + 1) 31) ∧ (bit p b = true → b ∈ (lan t l).toks) ∧
      ((bit p b = false ∨ b ∈ (lan s l).toks) → t.get R.GLB_BAR_TOKENS b = s.get R.GLB_BAR_TOKENS b)) ∧
  (∀ (l : Fin 24) (s : State) (x e : Nat), FrameDue s l x e → bits e 30 28 = 1 → FrameLost s l x e →
    Runs (.lanePublish l) s (resPlaces ++ taintPlaces ++ eventPlaces) (resParts ++ eventParts) fun t => LossShown s t l ∧
      ∀ n < 128, ∀ b < 16, waitsBar s n b = true → 0 < s.get R.GLB_BAR_REMOTE b → s.get R.GLB_BAR_COMPLETE b = 0 →
        bit (t.get R.CHS_STATUS_SHOT_TAINT n) tLANE = true) ∧
  (∀ (l : Fin 24) (s : State) (x e p : Nat), FrameDue s l x e → s.get R.LAN_STATUS_STATE l = 4 → 2 ≤ s.get R.LAN_STATUS_REV_MAJOR l →
    bits e 30 28 = 2 → ((lan s l).due.find? fun d => d.1 == x % 2 ^ 32) = some (x % 2 ^ 32, 0, p) →
    Runs (.lanePublish l) s [] [.lans] fun t => (lan t (bits e 9 5)).fwd = some (s.tick, some p)) ∧
  (∀ (l : Fin 24) (s : State) (x e : Nat), FrameDue s l x e → bits e 30 28 = 2 → FrameLost s l x e →
    Runs (.lanePublish l) s (resPlaces ++ eventPlaces) (resParts ++ eventParts) fun t => LossShown s t l ∧ (lan t (bits e 9 5)).fwd = some (s.tick, none)) ∧
  (∀ (l : Fin 24) (s : State) (x e : Nat), FrameDue s l x e → s.get R.LAN_STATUS_STATE l = 4 → s.get R.LAN_STATUS_REV_MAJOR l < 2 → bits e 30 28 ≠ 0 →
    Runs (.lanePublish l) s [] [.lans] fun t => (bits e 30 28 = 2 → (lan t (bits e 9 5)).fwd = some (s.tick, none)) ∧
      ∀ k < 24, (lan t k).due = (lan s k).due ∧ (lan t k).toks = (lan s k).toks) ∧
  (∀ (l : Fin 24) (s : State), (s.xtalFail = true ∨ (lan s l).pkts = []) → exec (.bulkPacketReceive l) s = .next s) ∧
  (∀ (l : Fin 24) (s : State), Runs (.bulkPacketReceive l) s (bulkPlaces ++ violationPlaces ++ errorPlaces ++ eventPlaces)
    ([.hbm, .lans, .bqCur] ++ eventParts) fun t =>
      (lan t l).pkts = (lan s l).pkts.drop 1 ∨ (lan t l).pkts = (lan s l).pkts) ∧
  (∀ (l : Fin 24) (s : State) (h tl : Nat) (d : List Nat), s.xtalFail = false → (lan s l).pkts.head? = some (h, d, tl) → readPkt h d tl = none →
    Runs (.bulkPacketReceive l) s ([only R.LAN_BULK_CRC_CNT_COUNT l, only R.LAN_STATUS_CRC_ERR l] ++ eventPlaces) ([.lans] ++ eventParts) fun t =>
      Counted s t R.LAN_BULK_CRC_CNT_COUNT l ∧ t.get R.LAN_STATUS_CRC_ERR l ≠ 0 ∧ Owed s t l (bits h 55 55) d.length ∧
      (s.get R.LAN_STATUS_CRC_ERR l = 0 → EventFires s t (1059 + 4 * l))) ∧
  (∀ (l : Fin 24) (s : State) (p : Pkt) (rest : List (Nat × List Nat × Nat)) (dir o : Nat), s.xtalFail = false → PacketIs s l p rest →
    routeDir (s.get R.LAN_COORD_POS) p.dest (torus s) = some dir → outLane s dir p.dest = some o →
    Runs (.bulkPacketReceive l) s [] [.lans] fun t => Queued s t o p (leavesOn s p dir (some (l / 8))) ∧ Owed s t l p.vc p.data.length) ∧
  (∀ (l : Fin 24) (s : State) (p : Pkt) (rest : List (Nat × List Nat × Nat)) (dir o : Nat), s.xtalFail = false → PacketIs s l p rest →
    routeDir (s.get R.LAN_COORD_POS) p.dest (torus s) = none → p.kind = 0 → responses s < 256 → Granted s (instSecure s (624 + l)) p.addr 128 →
    routeDir (s.get R.LAN_COORD_POS) p.src (torus s) = some dir → outLane s dir p.src = some o →
    Runs (.bulkPacketReceive l) s [] [.hbm, .lans] fun t =>
      (∀ j < 16, HbmSlot t (p.addr + 8 * j) (p.data.getD j 0)) ∧ HbmBut s t [(p.addr, 128)] ∧ Owed s t l p.vc p.data.length ∧
      Queued s t o ⟨0, 1, p.src, p.addr, [], s.get R.LAN_COORD_POS, p.tag % 2048⟩ (leavesOn s ⟨0, 1, 0, 0, [], 0, 0⟩ dir none)) ∧
  (∀ (l : Fin 24) (s : State) (p : Pkt) (rest : List (Nat × List Nat × Nat)) (dir o : Nat), s.xtalFail = false → PacketIs s l p rest →
    routeDir (s.get R.LAN_COORD_POS) p.dest (torus s) = none → p.kind = 2 → responses s < 256 → Granted s (instSecure s (624 + l)) p.addr 128 →
    routeDir (s.get R.LAN_COORD_POS) p.src (torus s) = some dir → outLane s dir p.src = some o →
    Runs (.bulkPacketReceive l) s [] [.lans] fun t => Owed s t l p.vc p.data.length ∧
      Queued s t o ⟨0, 3, p.src, p.addr, (List.range 16).map (fun j => hbmRead s (p.addr + 8 * j) 8), s.get R.LAN_COORD_POS, p.tag % 2048⟩
        (leavesOn s ⟨0, 3, 0, 0, [], 0, 0⟩ dir none)) ∧
  (∀ (l : Fin 24) (s : State) (p : Pkt) (rest : List (Nat × List Nat × Nat)), s.xtalFail = false → PacketIs s l p rest →
    routeDir (s.get R.LAN_COORD_POS) p.dest (torus s) = none → (p.kind = 0 ∨ p.kind = 2) → 256 ≤ responses s →
    Runs (.bulkPacketReceive l) s [only R.LAN_BULK_CRC_CNT_COUNT l] [.lans] fun t =>
      Counted s t R.LAN_BULK_CRC_CNT_COUNT l ∧ Owed s t l p.vc p.data.length) ∧
  (∀ (l : Fin 24) (s : State) (p : Pkt) (rest : List (Nat × List Nat × Nat)) (c : BqCur), s.xtalFail = false → PacketIs s l p rest →
    routeDir (s.get R.LAN_COORD_POS) p.dest (torus s) = none → p.kind = 1 → s.bqCur = some c → p.tag / 256 % 8 = s.get R.LAN_BQ_RD_INDEX % 8 →
    Runs (.bulkPacketReceive l) s (bulkPlaces ++ violationPlaces ++ errorPlaces ++ eventPlaces) ([.hbm, .lans, .bqCur] ++ eventParts) fun t =>
      Owed s t l p.vc p.data.length ∧ (bit p.tag 11 = true → Completed s t 3) ∧
      (bit p.tag 11 = false → c.answered + 1 = c.beats → Completed s t 1) ∧
      (bit p.tag 11 = false → c.answered + 1 ≠ c.beats → t.bqCur = some { c with answered := c.answered + 1 } ∧ t.hbm = s.hbm)) ∧
  (∀ (l : Fin 24) (s : State) (p : Pkt) (rest : List (Nat × List Nat × Nat)) (c : BqCur), s.xtalFail = false → PacketIs s l p rest →
    routeDir (s.get R.LAN_COORD_POS) p.dest (torus s) = none → p.kind = 3 → s.bqCur = some c → p.tag / 256 % 8 = s.get R.LAN_BQ_RD_INDEX % 8 → bit p.tag 11 = false →
    Granted s (instSecure s 624) (c.local_ + (p.addr - c.remote)) 128 → c.answered + 1 ≠ c.beats →
    Runs (.bulkPacketReceive l) s [] [.hbm, .lans, .bqCur] fun t =>
      Owed s t l p.vc p.data.length ∧ t.bqCur = some { c with answered := c.answered + 1 } ∧ HbmBut s t [(c.local_ + (p.addr - c.remote), 128)] ∧
      ∀ j < 16, HbmSlot t (c.local_ + (p.addr - c.remote) + 8 * j) (p.data.getD j 0)) ∧
  (∀ s : State, (s.xtalFail = true ∨ mainPowered s = false ∨ s.get R.LAN_BQ_SIZE_ENABLE = 0 ∨ s.get R.LAN_BQ_RD_INDEX = s.get R.LAN_BQ_WR_INDEX ∨
    s.bqCur ≠ none) → exec .bulkDescriptor s = .next s) ∧
  (∀ (s : State) (v : Nat), Descriptor s v → descriptorOk s v = false →
    Runs .bulkDescriptor s (bulkPlaces ++ violationPlaces ++ errorPlaces ++ eventPlaces) ([.hbm, .bqCur] ++ eventParts) fun t => Completed s t 4) ∧
  (∀ (s : State) (v : Nat), Descriptor s v → descriptorOk s v = true → hbmSize < bits v 127 64 + 128 * bits v 63 32 →
    Runs .bulkDescriptor s (bulkPlaces ++ violationPlaces ++ errorPlaces ++ eventPlaces) ([.hbm, .bqCur] ++ eventParts) fun t => Completed s t 3) ∧
  (∀ (s : State) (v : Nat), Descriptor s v → descriptorOk s v = true → bits v 127 64 ≤ hbmSize → bits v 63 32 = 0 →
    Runs .bulkDescriptor s (bulkPlaces ++ violationPlaces ++ errorPlaces ++ eventPlaces) ([.hbm, .bqCur] ++ eventParts) fun t => Completed s t 1) ∧
  (∀ (s : State) (v dir o : Nat), Descriptor s v → descriptorOk s v = true → bits v 127 64 + 128 * bits v 63 32 ≤ hbmSize → 0 < bits v 63 32 →
    (bits v 7 0 = 1 → Granted s (instSecure s 624) (bits v 127 64) (128 * bits v 63 32)) →
    routeDir (s.get R.LAN_COORD_POS) (bits v 31 16) (torus s) = some dir → outLane s dir (bits v 31 16) = some o →
    Runs .bulkDescriptor s [] [.lans, .bqCur] fun t =>
      t.bqCur = some ⟨bits v 7 0, bits v 31 16, bits v 63 32, bits v 127 64, bits v 191 128, 0, s.clock⟩ ∧ SameBut {} o s.lans t.lans ∧
      (lan t o).bulk = (lan s o).bulk ++ (List.range (bits v 63 32)).map fun i =>
        ⟨leavesOn s ⟨0, 0, 0, 0, [], 0, 0⟩ dir none, if bits v 7 0 = 1 then 0 else 2, bits v 31 16, bits v 191 128 + 128 * i,
          if bits v 7 0 = 1 then (List.range 16).map (fun j => hbmRead s (bits v 127 64 + 128 * i + 8 * j) 8) else [], s.get R.LAN_COORD_POS,
          s.get R.LAN_BQ_RD_INDEX % 8 * 256 + i % 256⟩) ∧
  (∀ (s : State) (c : BqCur), s.xtalFail = false → s.bqCur = some c → bqUnsent s = false →
    c.sentAt + 400 * max (s.get R.LAN_BQ_TIMEOUT_MICROSECONDS) 10 ≤ s.clock →
    Runs .bulkTimeout s (bulkPlaces ++ violationPlaces ++ errorPlaces ++ eventPlaces) ([.hbm, .bqCur] ++ eventParts) fun t => Completed s t 2) ∧
  (∀ s : State, (s.xtalFail = true ∨ s.bqCur = none ∨ bqUnsent s = true ∨
    (∀ c ∈ s.bqCur, s.clock < c.sentAt + 400 * max (s.get R.LAN_BQ_TIMEOUT_MICROSECONDS) 10)) → exec .bulkTimeout s = .next s) ∧
  (∀ (l : Fin 24) (line : BitVec 68) (s : State) (p c e : Nat), LaneSees s l line [4] (some (true, p)) → (lan s l).pfc = some c →
    lanExpect s l (lanX (lan s l) c) = some e → s.get R.LAN_STATUS_RES_EN l ≠ 0 → bits p 63 56 ≠ 1 → bits (scramble p c) 63 56 ∈ [2, 3] →
    Runs (.laneFrameReceive l line) s [] [.lans] fun t => (lan t l).rx = (lan s l).rx ∧ (lan t l).pkts = (lan s l).pkts) ∧
  (∀ (l : Fin 24) (s : State) (p : Pkt) (rest : List (Nat × List Nat × Nat)), PacketIs s l p rest → laneWaits s p.dest = true →
    exec (.bulkPacketReceive l) s = .next s) ∧
  (∀ (l : Fin 24) (s : State) (p : Pkt) (rest : List (Nat × List Nat × Nat)), PacketIs s l p rest →
    routeDir (s.get R.LAN_COORD_POS) p.dest (torus s) = none → (p.kind = 0 ∨ p.kind = 2) → responses s < 256 → laneWaits s p.src = true →
    exec (.bulkPacketReceive l) s = .next s) ∧
  ∀ (s : State) (v : Nat), Descriptor s v → descriptorOk s v = true → bits v 127 64 + 128 * bits v 63 32 ≤ hbmSize → 0 < bits v 63 32 →
    laneWaits s (bits v 31 16) = true → exec .bulkDescriptor s = .next s

/-! ### Pointing and the monitor ADC (16_pointing_calibration_and_monitoring.md) -/

namespace Sys2Proof.Machine

/-- The places that a run at work, beside an event and an answer of S0, may write. -/
def pntPlaces : List Place :=
  [every R.CLK_SYNC_PATH_TAPS, every R.EVF_TASKST_PENDING, every R.LAN_RX_TAP_TAP, every R.PNT_STATUS_STATE, every R.PNT_STATUS_CLAMPED,
    every R.PNT_STATUS_CODE, every R.PNT_COUNT_FAILED, every R.PNT_COUNT_ACCEPTED, every R.PNT_FAIL_VALID, every R.PNT_FAIL_REASON,
    every R.PNT_FAIL_INSTANCE, every R.PNT_LOG_FILL_NEXT, every R.PNT_LOG_FILL_ENTRIES, every R.PNT_LOG_TLO_WORD, every R.PNT_LOG_THI_WORD,
    every R.PNT_LOG_ID_WORD, every R.PNT_LOG_VAL_WORD, every R.MON_STATUS_BUSY, every R.MON_STATUS_USER, every R.MON_INJ_RES_LATE,
    every R.LIN_FSC_CODE, every R.LIN_STATUS_LIVE, every R.INP_SLC_OFF_DELTA, every R.INP_SLC_OFF_BASE, every R.INP_SLC_GAIN_DELTA,
    every R.INP_SLC_GAIN_BASE, every R.INP_SLC_SKEW_TAPS]

/-- The parts beside them. -/
def pntParts : List Part := [.lines, .biases, .patinas, .hostB, .mon, .pnt]

/-- The fields of PNT_CTRL that hold the arguments of a run. -/
def pntArgPlaces : List Place := [only R.PNT_CTRL_MODE 0, only R.PNT_CTRL_ITEM 0, only R.PNT_CTRL_COUNT 0, only R.PNT_CTRL_FIRST 0]

/-- The places that an assignment of the converter may write. -/
def monPlaces : List Place := [only R.MON_STATUS_BUSY 0, only R.MON_STATUS_USER 0, every R.MON_INJ_RES_LATE, every R.EVF_TASKST_PENDING]

/-- The places that the start of a run shows it in. -/
def pntShownPlaces : List Place :=
  [only R.PNT_STATUS_STATE 0, only R.PNT_STATUS_CODE 0, only R.PNT_STATUS_ITEM 0, only R.PNT_COUNT_ACCEPTED 0, only R.PNT_COUNT_FAILED 0,
    only R.PNT_FAIL_VALID 0, only R.PNT_FAIL_REASON 0, only R.PNT_FAIL_INSTANCE 0]

/-- The instances of a run with arguments `v` that no gap record covers (R421). -/
def gapless (s : State) (v : Nat) : List Nat :=
  ((List.range (bits v 23 12)).map (bits v 11 0 + ·)).filter fun n => pntGaps s (bits v 27 24) n == []

/-- The run has ended with code `c`, and PNT_DONE fires (R432). -/
abbrev RunEnds (s t : State) (c : Nat) : Prop :=
  t.pnt.run = none ∧ t.get R.PNT_STATUS_CODE = c ∧ t.get R.PNT_STATUS_STATE = 0 ∧ EventFires s t 1489

/-- Run `p` is in progress, of an item that exists, and `i` is its instance `k`. -/
abbrev PntActs (s : State) (k : Nat) (p : Pnt) (i : PInst) : Prop :=
  s.xtalFail = false ∧ s.pnt.run = some p ∧ pntInst s k = some i ∧ 1 ≤ p.item ∧ p.item ≤ 8

/-- It may start an action on instance `k`, whose resource is idle and whose occurrence lasts `l` ticks more (R421, R422). -/
abbrev PntReady (s : State) (k : Nat) (p : Pnt) (i : PInst) (l : Nat) : Prop :=
  PntActs s k p i ∧ occLeft s p.item k = some l ∧ p.endCode = none ∧ p.refOk = true ∧ i.act = false ∧ i.barred = false ∧ pntIdle s p.item k = true

/-- A measurement of instance `i` is complete, and nothing interrupted it (R424). -/
abbrev PntMeasured (s : State) (k : Nat) (p : Pnt) (i : PInst) : Prop :=
  PntActs s k p i ∧ i.stage = 1 ∧ pntMeasured s p.item i = true ∧ pntInterrupted s p.item i = false

/-- Instance `n` has failed for reason `r`: counted, and the lowest failed instance shown (R425, R432). -/
abbrev FailShown (s t : State) (n r : Nat) : Prop :=
  t.get R.PNT_COUNT_FAILED = min (s.get R.PNT_COUNT_FAILED + 1) 4095 ∧ t.get R.PNT_FAIL_VALID ≠ 0 ∧
    (s.get R.PNT_FAIL_VALID = 0 ∨ n < s.get R.PNT_FAIL_INSTANCE → t.get R.PNT_FAIL_REASON = r ∧ t.get R.PNT_FAIL_INSTANCE = n) ∧
    ∀ j ∈ pntInst t n, j.stage = 5

/-- Entries have entered the Pointing log, one per SUB (R430). -/
abbrev PntLogged (s t : State) (item : Nat) : Prop :=
  t.get R.PNT_LOG_FILL_NEXT = (s.get R.PNT_LOG_FILL_NEXT + pntSubs item) % 64 ∧
    t.get R.PNT_LOG_FILL_ENTRIES = min (s.get R.PNT_LOG_FILL_ENTRIES + pntSubs item) 64

/-- An applied value and the deltas of an instance are within the ranges of their registers. -/
abbrev PntInRange (s : State) (item n : Nat) (d : List Int) : Prop :=
  ∀ k < pntSubs item, -32768 ≤ d.getD k 0 ∧ d.getD k 0 < 32768 ∧ (pntRange item k).1 ≤ pntApplied s item k n ∧
    pntApplied s item k n ≤ (pntRange item k).2

/-- One step from `a` toward `b` (R426). -/
def stepTo (a b : Int) : Int := if a < b then a + 1 else if b < a then a - 1 else a

/-- The deltas `d` of instance `n` are committed: kept, logged and counted; the applied values move, in steps or at once (R420, R426). -/
abbrev Commits (s t : State) (item n : Nat) (d : List Int) : Prop :=
  t.get R.PNT_COUNT_ACCEPTED = min (s.get R.PNT_COUNT_ACCEPTED + 1) 4095 ∧ PntLogged s t item ∧
    ∀ k < pntSubs item, pntDelta t item (pntZone s item n) k n = d.getD k 0 ∧ pntApplied t item k n =
      if pntStepped item = true then stepTo (pntApplied s item k n) (pntTarget s item k n (d.getD k 0)).1 else (pntTarget s item k n (d.getD k 0)).1

/-- Do two measurements of every SUB agree within TOL (R425)? -/
def pntAgree (item : Nat) (m1 m2 : List Int) : Bool := (List.range (pntSubs item)).all fun k => decide ((m1.getD k 0 - m2.getD k 0).natAbs ≤ pntTol item)

/-- The deltas that the two measurements call for (R425). -/
def pntNew (s : State) (item n : Nat) (m1 m2 : List Int) : List Int :=
  (List.range (pntSubs item)).map fun k => pntDelta s item (pntZone s item n) k n - (narrow (m1.getD k 0 + m2.getD k 0) 5 16).1

/-- Is one of them out of the range of the item (Table PNT-1)? -/
def pntOut (item : Nat) (d : List Int) : Bool := d.any fun x => decide (x < pntLo item ∨ pntHi item < x)

/-- Another measurement fits in what is left of the occurrence (R113, R424). -/
abbrev PntFits (s : State) (item n : Nat) : Prop :=
  pntTicks item + pntTail item ≤ (occLeft s item n).getD 0 ∧ (item = 8 → syncClear s (pntTicks item) = true)

/-- The value that enters the average: a reserved channel converts as 0 (Table MON-1). -/
def monValue (chan : Nat) (v : BitVec 16) : Int := if (38 < chan ∧ chan < 64) ∨ 576 ≤ chan then 0 else v.toInt

/-- The conversion `c` of user `u` is over. -/
abbrev MonDue (s : State) (c : MonConv) (u : Nat) : Prop := s.xtalFail = false ∧ s.mon.cur = some c ∧ c.due ≤ s.clock ∧ c.user = u

end Sys2Proof.Machine

/-- R418 to R433, R436 to R441, Tables PNT-1 and MON-1. Measured values are operands (log entry 15); how the overhead of an occurrence divides is log entry 22. -/
def Obligations.PointingAndMonitor : Prop :=
  (∀ (m : Master) (v : BitVec 30) (s : State), reaches s m 0x900000 true = true →
    (s.pnt.run ≠ none ∨ pntArgsOk v.toNat (s.get R.PNT_TIMEOUT_MS) = false) →
    Runs (.pointingGo m v) s pntArgPlaces [] fun t =>
      t.get R.PNT_CTRL_MODE = bits v.toNat 29 28 ∧ t.get R.PNT_CTRL_ITEM = bits v.toNat 27 24 ∧ t.get R.PNT_CTRL_COUNT = bits v.toNat 23 12 ∧
      t.get R.PNT_CTRL_FIRST = bits v.toNat 11 0) ∧
  (∀ (m : Master) (v : BitVec 30) (s : State), reaches s m 0x900000 true = true → s.pnt.run = none →
    pntArgsOk v.toNat (s.get R.PNT_TIMEOUT_MS) = true → (inHold s = true ∨ (inRun s = true ∧ gapless s v.toNat = [])) →
    Runs (.pointingGo m v) s (pntArgPlaces ++ pntShownPlaces ++ monPlaces) [.pnt, .mon] fun t =>
      t.get R.PNT_STATUS_STATE = 1 ∧ t.get R.PNT_STATUS_ITEM = bits v.toNat 27 24 ∧ t.get R.PNT_COUNT_ACCEPTED = 0 ∧ t.get R.PNT_COUNT_FAILED = 0 ∧
      t.get R.PNT_FAIL_VALID = 0 ∧ t.get R.PNT_STATUS_CODE = s.get R.PNT_STATUS_CODE ∧
      t.pnt = { s.pnt with run := some ⟨bits v.toNat 29 28, bits v.toNat 27 24, false, s.clock + s.get R.PNT_TIMEOUT_MS * 400000,
        bits v.toNat 29 28 == 2, false, none, (List.range (bits v.toNat 23 12)).map fun k =>
          { n := bits v.toNat 11 0 + k, stage := if bits v.toNat 29 28 = 2 then 2 else 0 }⟩ }) ∧
  (∀ (m : Master) (v : BitVec 30) (s : State), reaches s m 0x900000 true = true → s.pnt.run = none →
    pntArgsOk v.toNat (s.get R.PNT_TIMEOUT_MS) = true → inHold s = false → inRun s = true → gapless s v.toNat ≠ [] →
    Runs (.pointingGo m v) s (pntArgPlaces ++ pntShownPlaces ++ monPlaces ++ eventPlaces) ([.pnt, .mon] ++ eventParts) fun t =>
      t.get R.PNT_COUNT_FAILED = (gapless s v.toNat).length ∧ t.get R.PNT_FAIL_VALID = 1 ∧ t.get R.PNT_FAIL_REASON = 4 ∧
      t.get R.PNT_FAIL_INSTANCE = (gapless s v.toNat).headD 0 ∧ ((gapless s v.toNat).length = bits v.toNat 23 12 → RunEnds s t 0x30) ∧
      ((gapless s v.toNat).length ≠ bits v.toNat 23 12 → t.get R.PNT_STATUS_STATE = 1 ∧ t.pnt.run.map (fun p => (p.item, p.insts.length)) =
        some (bits v.toNat 27 24, bits v.toNat 23 12))) ∧
  (∀ (m : Master) (v : BitVec 30) (s : State), reaches s m 0x900000 true = true → s.pnt.run = none →
    pntArgsOk v.toNat (s.get R.PNT_TIMEOUT_MS) = true → inHold s = false → inRun s = false →
    Runs (.pointingGo m v) s (pntArgPlaces ++ pntShownPlaces ++ eventPlaces) ([.pnt] ++ eventParts) fun t => RunEnds s t 0x34) ∧
  (∀ (m : Master) (s : State), reaches s m 0x900000 true = true → s.pnt.run = none → Runs (.pointingAbort m) s pntArgPlaces [] fun t => t.pnt = s.pnt) ∧
  (∀ (m : Master) (s : State) (p : Pnt), reaches s m 0x900000 true = true → s.pnt.run = some p → (∀ i ∈ p.insts, i.stage ≠ 1) →
    Runs (.pointingAbort m) s (pntArgPlaces ++ pntShownPlaces ++ mailPlaces ++ eventPlaces) ([.pnt, .hostB] ++ mailParts ++ eventParts) fun t =>
      (p.insts.any (·.act) = false → RunEnds s t 0x35) ∧
      (p.insts.any (·.act) = true → t.pnt = { s.pnt with run := some { p with endCode := some 0x35 } } ∧
        t.get R.PNT_STATUS_STATE = if p.insts.any (·.stage == 3) = true then 3 else 1)) ∧
  (∀ (m : Master) (s : State) (p : Pnt) (i : PInst), reaches s m 0x900000 true = true → s.pnt.run = some p → p.insts = [i] → i.stage = 1 →
    i.act = true → p.item ≤ 2 →
    Runs (.pointingAbort m) s (pntArgPlaces ++ pntShownPlaces ++ [only R.LIN_STATUS_LIVE i.n] ++ mailPlaces ++ eventPlaces)
      ([.pnt, .hostB, .lines] ++ mailParts ++ eventParts) fun t =>
      RunEnds s t 0x35 ∧ (s.get R.LIN_STATUS_MUTE_CAUSE i.n = 0 → s.get R.LIN_STATUS_LIVE i.n = 0 →
        t.get R.LIN_STATUS_LIVE i.n = 1 ∧ (line t i.n).live = true ∧ (line t i.n).passFrom = s.tick + 36)) ∧
  (∀ (k : Fin 256) (s : State), Runs (.pointingOccurrence k) s (pntPlaces ++ mailPlaces ++ eventPlaces) (pntParts ++ mailParts ++ eventParts) fun _ => True) ∧
  (∀ (k : Fin 256) (s : State), (s.xtalFail = true ∨ s.pnt.run = none ∨ pntInst s k = none) → exec (.pointingOccurrence k) s = .next s) ∧
  (∀ (k : Fin 256) (s : State) (p : Pnt) (i : PInst), PntActs s k p i → (occLeft s p.item k = none ∨ p.endCode ≠ none ∨ p.refOk = false ∨
    i.act = true ∨ i.barred = true ∨ pntIdle s p.item k = false ∨ (i.stage ≠ 0 ∧ i.stage ≠ 2) ∨
    (i.stage = 0 ∧ (occLeft s p.item k).getD 0 < pntOverhead p.item + pntTicks p.item)) → exec (.pointingOccurrence k) s = .next s) ∧
  (∀ (k : Fin 256) (s : State) (p : Pnt) (i : PInst) (l : Nat), PntReady s k p i l → i.stage = 0 → pntOverhead p.item + pntTicks p.item ≤ l →
    Runs (.pointingOccurrence k) s ([only R.PNT_STATUS_STATE 0, only R.LIN_STATUS_LIVE k] ++ monPlaces) [.lines, .biases, .mon, .pnt] fun t =>
      pntInst t k = some { i with stage := 1, act := true, t0 := s.clock + (if p.item ≤ 2 then 824 else 0)
                                  conv := if p.item ∈ [1, 2, 4] then pntTicks p.item / 200 else 0, snap := if p.item = 8 then 0 else pntCauses s p.item k } ∧
      (p.item ≤ 2 → t.get R.LIN_STATUS_LIVE k = 0) ∧ (p.item = 3 → (bias t k).closed = false) ∧ (p.item = 8 → t.pnt.syncOff = (s.tick + 1, 0)) ∧
      (p.insts.any (·.stage == 3) = false → t.get R.PNT_STATUS_STATE = 2)) ∧
  (∀ (k : Fin 256) (s : State) (p : Pnt) (i : PInst) (l : Nat), PntReady s k p i l → i.stage = 2 → pntCommitTicks s p.item k i.d ≤ l →
    PntInRange s p.item k i.d →
    Runs (.pointingOccurrence k) s (pntPlaces ++ mailPlaces ++ eventPlaces) (pntParts ++ mailParts ++ eventParts) fun t => Commits s t p.item k i.d) ∧
  (∀ (k : Fin 256) (s : State) (p : Pnt) (i : PInst) (l : Nat), PntReady s k p i l → i.stage = 2 → l < pntCommitTicks s p.item k i.d →
    (pntGaps s p.item k).all (fun g => decide (g.length < pntCommitTicks s p.item k i.d)) = true →
    Runs (.pointingOccurrence k) s (pntPlaces ++ mailPlaces ++ eventPlaces) (pntParts ++ mailParts ++ eventParts) fun t => FailShown s t k 3) ∧
  (∀ (k : Fin 256) (ms : List (BitVec 16)) (s : State),
    Runs (.pointingMeasurement k ms) s (pntPlaces ++ mailPlaces ++ eventPlaces) (pntParts ++ mailParts ++ eventParts) fun _ => True) ∧
  (∀ (k : Fin 256) (ms : List (BitVec 16)) (s : State), (s.xtalFail = true ∨ s.pnt.run = none ∨ pntInst s k = none) →
    exec (.pointingMeasurement k ms) s = .next s) ∧
  (∀ (k : Fin 256) (ms : List (BitVec 16)) (s : State) (p : Pnt) (i : PInst), PntActs s k p i →
    (i.stage ≠ 1 ∨ pntMeasured s p.item i = false) → exec (.pointingMeasurement k ms) s = .next s) ∧
  (∀ (k : Fin 256) (ms : List (BitVec 16)) (s : State) (p : Pnt) (i : PInst), PntActs s k p i → i.stage = 1 → pntMeasured s p.item i = true →
    pntInterrupted s p.item i = true →
    Runs (.pointingMeasurement k ms) s [only R.PNT_STATUS_STATE 0, only R.LIN_STATUS_LIVE k] [.lines, .biases, .pnt] fun t =>
      (pntInst t k).map (fun j => (j.stage, j.m1, j.conv, j.pts, j.barred)) = some (0, i.m1, 0, 0, p.item == 3)) ∧
  (∀ (k : Fin 256) (ms : List (BitVec 16)) (s : State) (p : Pnt) (i : PInst), PntMeasured s k p i → i.m1 = none →
    Runs (.pointingMeasurement k ms) s ([only R.PNT_STATUS_STATE 0, only R.LIN_STATUS_LIVE k] ++ monPlaces) [.lines, .biases, .mon, .pnt] fun t =>
      (pntInst t k).map (fun j => (j.m1, j.pts, j.try_)) = some (some (ms.map (·.toInt)), 0, i.try_) ∧
      (PntFits s p.item k → (pntInst t k).map (fun j => (j.stage, j.t0, j.act)) = some (1, s.clock, i.act)) ∧
      (¬ PntFits s p.item k → (pntInst t k).map (fun j => (j.stage, j.conv)) = some (0, 0))) ∧
  (∀ (k : Fin 256) (ms : List (BitVec 16)) (s : State) (p : Pnt) (i : PInst) (m1 m2 : List Int), PntMeasured s k p i → i.m1 = some m1 →
    m2 = ms.map (·.toInt) → pntAgree p.item m1 m2 = false → i.try_ < 4 →
    Runs (.pointingMeasurement k ms) s ([only R.PNT_STATUS_STATE 0, only R.LIN_STATUS_LIVE k] ++ monPlaces) [.lines, .biases, .mon, .pnt] fun t =>
      (pntInst t k).map (fun j => (j.m1, j.pts, j.try_)) = some (none, 0, i.try_ + 1) ∧
      (PntFits s p.item k → (pntInst t k).map (fun j => (j.stage, j.t0, j.act)) = some (1, s.clock, i.act)) ∧
      (¬ PntFits s p.item k → (pntInst t k).map (fun j => (j.stage, j.conv)) = some (0, 0))) ∧
  (∀ (k : Fin 256) (ms : List (BitVec 16)) (s : State) (p : Pnt) (i : PInst) (m1 m2 : List Int), PntMeasured s k p i → i.m1 = some m1 →
    m2 = ms.map (·.toInt) →
    Runs (.pointingMeasurement k ms) s (pntPlaces ++ mailPlaces ++ eventPlaces) (pntParts ++ mailParts ++ eventParts) fun t =>
      (pntAgree p.item m1 m2 = false → 4 ≤ i.try_ → FailShown s t k 1) ∧
      (pntAgree p.item m1 m2 = true → p.mode = 1 → PntLogged s t p.item ∧ t.pnt.delta = s.pnt.delta ∧ (∀ j ∈ pntInst t k, j.stage = 4) ∧
        t.get R.PNT_COUNT_ACCEPTED = min (s.get R.PNT_COUNT_ACCEPTED + 1) 4095) ∧
      (pntAgree p.item m1 m2 = true → p.mode ≠ 1 → pntOut p.item (pntNew s p.item k m1 m2) = true → FailShown s t k 2) ∧
      (pntAgree p.item m1 m2 = true → p.mode ≠ 1 → pntOut p.item (pntNew s p.item k m1 m2) = false →
        PntInRange s p.item k (pntNew s p.item k m1 m2) →
        (∀ l ∈ occLeft s p.item k, pntCommitTicks s p.item k (pntNew s p.item k m1 m2) ≤ l → Commits s t p.item k (pntNew s p.item k m1 m2)) ∧
        (occLeft s p.item k = none → t.pnt.delta = s.pnt.delta ∧ (pntInst t k).map (fun j => (j.stage, j.d)) = some (2, pntNew s p.item k m1 m2)))) ∧
  (∀ (k : Fin 256) (s : State), (s.xtalFail = true ∨ s.pnt.run = none ∨ pntInst s k = none ∨
    (pntInst s k).any (fun i => i.stage != 3 || decide (s.clock < i.step)) = true) → exec (.commitStep k) s = .next s) ∧
  (∀ (k : Fin 256) (s : State) (p : Pnt) (i : PInst), PntActs s k p i → i.stage = 3 → i.step ≤ s.clock → pntMove s p.item k i.d ≠ 0 →
    PntInRange s p.item k i.d →
    Runs (.commitStep k) s [every R.CLK_SYNC_PATH_TAPS, every R.LAN_RX_TAP_TAP, every R.LIN_FSC_CODE, every R.INP_SLC_OFF_BASE,
        every R.INP_SLC_GAIN_BASE, every R.INP_SLC_SKEW_TAPS] [.pnt] fun t =>
      pntInst t k = some { i with step := s.clock + 40 } ∧
      ∀ j < pntSubs p.item, pntApplied t p.item j k = stepTo (pntApplied s p.item j k) (pntTarget s p.item j k (i.d.getD j 0)).1) ∧
  (∀ (k : Fin 256) (s : State) (p : Pnt) (i : PInst), PntActs s k p i → i.stage = 3 → i.step ≤ s.clock → pntMove s p.item k i.d = 0 →
    Runs (.commitStep k) s ([only R.PNT_STATUS_STATE 0, only R.PNT_STATUS_CODE 0, only R.LIN_STATUS_LIVE k] ++ mailPlaces ++ eventPlaces)
      ([.lines, .biases, .hostB, .pnt] ++ mailParts ++ eventParts) fun t =>
      (∀ j ∈ pntInst t k, j.stage = 4) ∧ (p.insts = [i] → p.endCode = none → p.timed = false → p.item ≤ 2 → RunEnds s t 0)) ∧
  (∀ s : State, (s.xtalFail = true ∨ s.pnt.run = none ∨ s.pnt.run.any (fun p => decide (s.clock < p.deadline) || p.endCode.isSome) = true) →
    exec .pointingTimeout s = .next s) ∧
  (∀ (s : State) (p : Pnt), s.xtalFail = false → s.pnt.run = some p → p.deadline ≤ s.clock → p.endCode = none →
    Runs .pointingTimeout s (pntShownPlaces ++ [every R.LIN_STATUS_LIVE] ++ mailPlaces ++ eventPlaces) ([.lines, .biases, .hostB, .pnt] ++ mailParts ++ eventParts)
      fun t => t.get R.PNT_COUNT_FAILED = min (s.get R.PNT_COUNT_FAILED + (p.insts.filter fun i => decide (i.stage ≤ 2)).length) 4095 ∧
        (p.insts ≠ [] → (∀ i ∈ p.insts, i.stage ≤ 2 ∧ i.act = false) → RunEnds s t 0x31 ∧ t.get R.PNT_FAIL_VALID ≠ 0 ∧
          (s.get R.PNT_FAIL_VALID = 0 → t.get R.PNT_FAIL_REASON = 5))) ∧
  (∀ (m : Master) (v : BitVec 32) (s : State), reaches s m 0x900030 true = true →
    Runs (.pntLogClear m v) s [only R.PNT_LOG_FILL_NEXT 0, only R.PNT_LOG_FILL_ENTRIES 0] [] fun t =>
      t.get R.PNT_LOG_FILL_NEXT = 0 ∧ t.get R.PNT_LOG_FILL_ENTRIES = 0) ∧
  (∀ (m : Master) (s : State) (item sub n zone d f : Nat), reaches s m 0x900024 false = true → item = s.get R.PNT_TRIM_INDEX_ITEM →
    sub = s.get R.PNT_TRIM_INDEX_SUB → n = s.get R.PNT_TRIM_INDEX_INSTANCE →
    zone = (if item = 5 ∨ item = 6 then s.get R.PNT_TRIM_INDEX_ZONE else 0) →
    d = (if 1 ≤ item ∧ item ≤ 8 ∧ sub < pntSubs item ∧ n < pntInstances item then wrapI (pntDelta s item zone sub n) 16 else 0) →
    f = (if 1 ≤ item ∧ item ≤ 8 ∧ sub < pntSubs item ∧ n < pntInstances item then wrapI (pntFactory s item sub n) 16 else 0) →
    Runs (.pntTrimDataRead m) s [only R.PNT_TRIM_DATA_DELTA 0, only R.PNT_TRIM_DATA_FACTORY 0, only R.PNT_TRIM_INDEX_SUB 0] [.readData, .readPoison] fun t =>
      t.readData = d * 2 ^ 16 + f ∧ t.readPoison = false ∧
      t.get R.PNT_TRIM_INDEX_SUB = if s.get R.PNT_TRIM_INDEX_AUTOINC = 0 then sub else (sub + 1) % 128) ∧
  (∀ (m : Master) (v : BitVec 32) (s : State), reaches s m 0x901000 true = true →
    Runs (.monSeqEnable m v) s ([only R.MON_SEQ_CTRL_ENABLE 0, only R.MON_SEQ_CTRL_ONCE 0, only R.MON_SEQ_CTRL_LAST 0, only R.MON_SEQ_CTRL_PERIOD 0,
        only R.MON_STATUS_SEQ_OVERRUN 0] ++ monPlaces) [.mon] fun t =>
      t.get R.MON_SEQ_CTRL_ENABLE = 1 ∧ t.get R.MON_SEQ_CTRL_ONCE = bits v.toNat 30 30 ∧ t.get R.MON_SEQ_CTRL_LAST = bits v.toNat 29 24 ∧
      t.get R.MON_SEQ_CTRL_PERIOD = bits v.toNat 19 0 ∧
      t.mon.nextPass = (if bit v.toNat 30 = true then 0 else s.clock + 400 * max (bits v.toNat 19 0) 1 + 1) ∧
      (∀ x ∈ s.mon.seq, t.get R.MON_STATUS_SEQ_OVERRUN = 1 ∧ t.mon.seq = some x) ∧
      (s.mon.seq = none → t.mon.seq = some ⟨0, s.clock, 0, 0⟩ ∧ t.get R.MON_STATUS_SEQ_OVERRUN = s.get R.MON_STATUS_SEQ_OVERRUN ∧
        (s.mon.cur = none → s.mon.inj = [] → s.pnt.run = none → t.mon.cur = some ⟨1, 0, s.get R.MON_ENT_CHANNEL 0, s.clock + 200⟩ ∧
          t.get R.MON_STATUS_BUSY = 1 ∧ t.get R.MON_STATUS_USER = 1))) ∧
  (∀ s : State, (s.xtalFail = true ∨ s.mon.nextPass = 0 ∨ s.clock + 1 < s.mon.nextPass) → exec .monPassStart s = .next s) ∧
  (∀ s : State, s.xtalFail = false → s.mon.nextPass ≠ 0 → s.mon.nextPass ≤ s.clock + 1 →
    Runs .monPassStart s ([only R.MON_STATUS_SEQ_OVERRUN 0] ++ monPlaces) [.mon] fun t =>
      t.mon.nextPass = s.mon.nextPass + 400 * max (s.get R.MON_SEQ_CTRL_PERIOD) 1 ∧ t.mon.inj = s.mon.inj ∧
      (∀ x ∈ s.mon.seq, t.get R.MON_STATUS_SEQ_OVERRUN = 1 ∧ t.mon.seq = some x) ∧
      (s.mon.seq = none → t.mon.seq = some ⟨0, s.clock, 0, 0⟩ ∧ t.get R.MON_STATUS_SEQ_OVERRUN = s.get R.MON_STATUS_SEQ_OVERRUN)) ∧
  (∀ (j : Fin 8) (s : State), s.xtalFail = false → s.mon.inj.any (fun x => x.idx == j.val) = false →
    ((s.get R.MON_INJ_CTRL_SRC j = 1 ∧ s.get R.EVF_TASKST_PENDING (896 + j) ≠ 0) ∨ (s.get R.MON_INJ_CTRL_SRC j = 2 ∧ monPlayDue s j = true)) →
    Runs (.monInjectStart j) s monPlaces [.mon] fun t =>
      t.mon.inj = s.mon.inj ++ [⟨j, s.clock, 0, 0⟩] ∧ t.mon.seq = s.mon.seq ∧ t.mon.nextPass = s.mon.nextPass ∧
      (s.mon.cur = none → s.mon.inj = [] → t.mon.cur = some ⟨2, j, s.get R.MON_INJ_CTRL_CHANNEL j, s.clock + 200⟩ ∧ t.get R.MON_STATUS_BUSY = 1 ∧
        t.get R.MON_STATUS_USER = 2 ∧ t.get R.MON_INJ_RES_LATE j = 0 ∧ (s.get R.MON_INJ_CTRL_SRC j = 1 → t.get R.EVF_TASKST_PENDING (896 + j) = 0))) ∧
  (∀ (j : Fin 8) (s : State), s.xtalFail = false → s.mon.inj.any (fun x => x.idx == j.val) = true → s.get R.MON_INJ_CTRL_SRC j = 2 →
    monPlayDue s j = true → Runs (.monInjectStart j) s [only R.MON_INJ_RES_OVERRUN j, only R.MON_STATUS_INJ_OVERRUN 0] [] fun t =>
      t.get R.MON_INJ_RES_OVERRUN j = 1 ∧ t.get R.MON_STATUS_INJ_OVERRUN = 1) ∧
  (∀ (j : Fin 8) (s : State), (s.xtalFail = true ∨ (s.get R.MON_INJ_CTRL_SRC j ≠ 1 ∧ s.get R.MON_INJ_CTRL_SRC j ≠ 2) ∨
    (s.get R.MON_INJ_CTRL_SRC j = 1 ∧ (s.get R.EVF_TASKST_PENDING (896 + j) = 0 ∨ s.mon.inj.any (fun x => x.idx == j.val) = true)) ∨
    (s.get R.MON_INJ_CTRL_SRC j = 2 ∧ monPlayDue s j = false)) → exec (.monInjectStart j) s = .next s) ∧
  (∀ (v : BitVec 16) (s : State), (s.xtalFail = true ∨ s.mon.cur = none ∨ s.mon.cur.any (fun c => decide (s.clock < c.due)) = true) →
    exec (.monConversionDone v) s = .next s) ∧
  (∀ (v : BitVec 16) (s : State) (c : MonConv) (x : MonJob), MonDue s c 1 → s.mon.seq = some x → x.n + 1 < 2 ^ min (s.get R.MON_ENT_AVG_LOG2 x.idx) 8 →
    Runs (.monConversionDone v) s monPlaces [.mon] fun t => t.mon.seq = some { x with n := x.n + 1, sum := x.sum + monValue c.chan v }) ∧
  (∀ (v : BitVec 16) (s : State) (c : MonConv) (x : MonJob) (y : Int), MonDue s c 1 → s.mon.seq = some x →
    2 ^ min (s.get R.MON_ENT_AVG_LOG2 x.idx) 8 ≤ x.n + 1 →
    y = (narrow (x.sum + monValue c.chan v) (min (s.get R.MON_ENT_AVG_LOG2 x.idx) 8) 16).1 →
    Runs (.monConversionDone v) s ([only R.MON_RES_VALID x.idx, only R.MON_RES_VALUE x.idx, only R.MON_RES_PASS x.idx, only R.MON_RES_OUT x.idx,
        only R.MON_STATUS_PASSES 0] ++ monPlaces ++ eventPlaces) ([.mon] ++ eventParts) fun t =>
      t.get R.MON_RES_VALID x.idx = b2n (monValid s c.chan) ∧ t.get R.MON_RES_VALUE x.idx = wrapI y 16 ∧
      t.get R.MON_RES_PASS x.idx = s.get R.MON_STATUS_PASSES % 2 ^ 8 ∧
      (s.get R.MON_ENT_LIMIT_EN x.idx ≠ 0 → s.get R.MON_RES_OUT x.idx = 0 → (y < sgn 16 (s.get R.MON_LIM_LO x.idx) ∨ sgn 16 (s.get R.MON_LIM_HI x.idx) < y) →
        t.get R.MON_RES_OUT x.idx = 1 ∧ EventFires s t 1491) ∧
      (s.get R.MON_ENT_LIMIT_EN x.idx = 0 ∨ (sgn 16 (s.get R.MON_LIM_LO x.idx) ≤ y ∧ y ≤ sgn 16 (s.get R.MON_LIM_HI x.idx)) →
        t.get R.MON_RES_OUT x.idx = s.get R.MON_RES_OUT x.idx) ∧
      (x.idx < s.get R.MON_SEQ_CTRL_LAST → t.mon.seq = some ⟨x.idx + 1, s.clock, 0, 0⟩ ∧ t.get R.MON_STATUS_PASSES = s.get R.MON_STATUS_PASSES) ∧
      (s.get R.MON_SEQ_CTRL_LAST ≤ x.idx → t.mon.seq = none ∧ t.get R.MON_STATUS_PASSES = (s.get R.MON_STATUS_PASSES + 1) % 2 ^ 16 ∧ EventFires s t 1490)) ∧
  (∀ (v : BitVec 16) (s : State) (c : MonConv) (x : MonJob), MonDue s c 2 → (s.mon.inj.find? fun x => x.idx == c.idx) = some x →
    x.n + 1 < 2 ^ min (s.get R.MON_INJ_CTRL_AVG_LOG2 c.idx) 8 →
    Runs (.monConversionDone v) s monPlaces [.mon] fun t =>
      (t.mon.inj.find? fun x => x.idx == c.idx) = some { x with n := x.n + 1, sum := x.sum + monValue c.chan v }) ∧
  (∀ (v : BitVec 16) (s : State) (c : MonConv) (x : MonJob), MonDue s c 2 → (s.mon.inj.find? fun x => x.idx == c.idx) = some x →
    2 ^ min (s.get R.MON_INJ_CTRL_AVG_LOG2 c.idx) 8 ≤ x.n + 1 →
    Runs (.monConversionDone v) s ([only R.MON_INJ_RES_VALID c.idx, only R.MON_INJ_RES_VALUE c.idx] ++ monPlaces) [.mon] fun t =>
      t.mon.inj = s.mon.inj.filter (fun y => y.idx != c.idx) ∧ t.get R.MON_INJ_RES_VALID c.idx = b2n (monValid s c.chan) ∧
      t.get R.MON_INJ_RES_VALUE c.idx = wrapI (narrow (x.sum + monValue c.chan v) (min (s.get R.MON_INJ_CTRL_AVG_LOG2 c.idx) 8) 16).1 16) ∧
  (∀ (v : BitVec 16) (s : State) (c : MonConv) (p : Pnt), MonDue s c 3 → s.pnt.run = some p → p.refOk = false →
    Runs (.monConversionDone v) s (pntPlaces ++ mailPlaces ++ eventPlaces) ([.mon, .pnt, .hostB] ++ mailParts ++ eventParts) fun t =>
      (1990 * 16 ≤ monValue c.chan v → monValue c.chan v ≤ 2010 * 16 → p.endCode = none → p.insts.any (fun i => decide (i.stage < 4)) = true →
        t.pnt.run = some { p with refOk := true }) ∧
      (monValue c.chan v < 1990 * 16 ∨ 2010 * 16 < monValue c.chan v → p.insts.any (·.act) = false → RunEnds s t 0x36)) ∧
  ∀ (v : BitVec 16) (s : State) (c : MonConv) (p : Pnt) (i : PInst), MonDue s c 3 → s.pnt.run = some p → p.refOk = true → p.endCode = none →
    pntInst s c.idx = some i → i.stage < 4 →
    Runs (.monConversionDone v) s ([only R.PNT_STATUS_STATE 0] ++ monPlaces) [.mon, .pnt] fun t =>
      pntInst t c.idx = some { i with conv := i.conv - 1 }

/-! ### Power, thermal protection and the management responder (17, 18) -/

namespace Sys2Proof.Machine

/-- The places that a shutdown, beside its own registers, may write (R445, R451, R452). -/
def shutdownPlaces : List Place :=
  [only R.BOOT_STATUS_OP 0, only R.BOOT_STATUS_STATE 0, every R.BIA_CODE_SPAN, every R.BIA_CODE_CODE, every R.BIA_STATUS_STATE, every R.BIA_STATUS_CAUSE] ++
    clockFlds.map every ++ holdPlaces

/-- Table THM-1 up to the trip's own tick: the loader is in RESET, where the PLL is off, and no boot operation runs; a powered module's fast
outputs are muted and its bias outputs parked; the switches open 10 µs and the rails drop 20 µs after it. -/
abbrev ShutDown (s t : State) (p : PwrSt) : Prop :=
  t.get R.BOOT_STATUS_STATE = 0 ∧ t.get R.BOOT_STATUS_OP = 0 ∧ t.boot = { s.boot with op := none, otpOp := none } ∧
    t.now = 0 ∧ t.clk = {} ∧ (∀ f ∈ clockFlds, ∀ i, t.get f i = fldReset f i) ∧
    t.pwr = { p with openAt := s.clock + 4001, dropAt := s.clock + 8001 } ∧
    (railsGood s = true → ∀ n < 256, t.get R.LIN_STATUS_LIVE n = 0 ∧ bit (t.get R.LIN_STATUS_MUTE_CAUSE n) 4 = true ∧
      bit (t.get R.BIA_STATUS_CAUSE n) 2 = true ∧ t.get R.BIA_STATUS_STATE n ≠ 2) ∧
    (inRun s = true → t.get R.GLB_SCHED_STATUS_STATE = 0 ∧ ∀ n < 128, t.get R.CHS_STATUS_STATE n = 0)

/-- The warning comparator of die `i`, at `x` in 1/128 °C, is tripped: it trips at the threshold and clears 5 °C below it (R452). -/
abbrev Warns (s : State) (i : Nat) (x : Int) : Prop :=
  diePowered s i = true ∧ (warnThresh s ≤ x ∨ (bit (s.get R.THM_WARN_DIE_DIES) i = true ∧ warnThresh s - 640 < x))

/-- The request in progress has ended with `code` (Table PWR-3). -/
abbrev RequestEnds (t : State) (code : Nat) (p : PwrSt) : Prop :=
  t.get R.PWR_STATE_LAST_CODE = code ∧ t.get R.PWR_STATE_BUSY = 0 ∧ t.pwr = { p with req := 0, reqAt := 0, host := 0 }

/-- What the always-on domain may change as the main rails go: the cores' and the Calipers' parties are reset, and the request ends (R447, R353). -/
def railPlaces : List Place :=
  [every R.GLB_PLN_STATUS_STATE, every R.GLB_PLN_HLOCK_ACTIVE, every R.GLB_PLN_HLOCK_OPEN, every R.BOOT_STATUS_STATE, every R.MBX_TXSTAT_FLUSH,
    every R.MBX_TXSTAT_FLUSHED, every R.MBX_EPOCH_EPOCH, every R.PWR_STATE_BUSY, every R.PWR_STATE_LAST_CODE, every R.PWR_STATE_STATE,
    every R.PWR_STATUS_RAILS_GOOD] ++ mailPlaces ++ eventPlaces

/-- What stood on the main rails is lost; the always-on domain keeps the rest (R443, R447). -/
abbrev RailsLost (s t : State) (ps : List Place) : Prop :=
  t.get R.PWR_STATUS_RAILS_GOOD = 0 ∧ (∀ k < 7, t.get R.GLB_PLN_STATUS_STATE (k + 1) = 0) ∧ (∀ l < 24, t.get R.LAN_STATUS_STATE l = 0) ∧
    (∀ n < 256, t.get R.BIA_STATUS_STATE n = 0 ∧ (bias t n).closed = false) ∧
    t.hbm = [] ∧ t.chsProg = [] ∧ t.clpMem = [] ∧ t.frmLive = [] ∧ t.now = 0 ∧ t.get R.CLK_STATUS_PLL_LOCK = 0 ∧
    (∀ f i, f.id < fldCount → f.id ∉ ps.map (·.1.id) → t.get f i = if alwaysOn f.id = true then s.get f i else fldReset f i) ∧
    Keeps [.pending, .readData, .tick, .xtalFail, .clock, .bootT0, .quiesce, .msix, .flash, .i2c] s t

end Sys2Proof.Machine

/-- R443 to R448, R450 to R453, R466, R467. The tick on which a request is visible is a free value of R18's two. -/
def Obligations.PowerAndThermal : Prop :=
  (∀ (m : Master) (s : State) (code : Nat), reaches s m 0x903004 true = true →
    code = (if s.get R.PWR_STATE_BUSY ≠ 0 then 0x42 else 0x40) → (s.get R.PWR_STATE_BUSY ≠ 0 ∨ s.get R.BOOT_STATUS_STATE = 0) →
    ∀ c ∈ [Instr.holdRequest m, .runRequest m, .standbyRequest m, .standbyExit m],
      Runs c s [only R.PWR_STATE_LAST_CODE 0] [] fun t => t.get R.PWR_STATE_LAST_CODE = code) ∧
  (∀ (m : Master) (s : State), reaches s m 0x903004 true = true → s.get R.PWR_STATE_BUSY = 0 → s.get R.BOOT_STATUS_STATE ≠ 0 →
    ∀ p ∈ [(Instr.holdRequest m, 2, [1]), (.runRequest m, 1, [2]), (.standbyRequest m, 3, [1, 2]), (.standbyExit m, 4, [3])],
      s.get R.PWR_STATE_STATE ∉ p.2.2 → Runs p.1 s [only R.PWR_STATE_LAST_CODE 0] [] fun t =>
        t.get R.PWR_STATE_LAST_CODE = if s.get R.PWR_STATE_STATE = p.2.1 ∧ p.2.1 ≠ 4 then 0 else 0x40) ∧
  (∀ (m : Master) (s : State), reaches s m 0x903004 true = true → s.get R.PWR_STATE_BUSY = 0 → s.get R.BOOT_STATUS_STATE ≠ 0 →
    s.get R.PWR_STATE_STATE = 1 →
    Runs (.holdRequest m) s [only R.PWR_STATE_BUSY 0] [.fresh, .pwr] fun t =>
      t.get R.PWR_STATE_BUSY = 1 ∧ ∃ d < 2, t.pwr = { s.pwr with req := 1, reqAt := s.tick + 2 + d, host := 0 }) ∧
  (∀ (m : Master) (s : State), reaches s m 0x903004 true = true → s.get R.PWR_STATE_BUSY = 0 → s.get R.BOOT_STATUS_STATE ≠ 0 →
    s.get R.PWR_STATE_STATE = 2 → runRefused s ≠ 0 →
    Runs (.runRequest m) s [only R.PWR_STATE_LAST_CODE 0] [] fun t => t.get R.PWR_STATE_LAST_CODE = runRefused s) ∧
  (∀ (m : Master) (s : State), reaches s m 0x903004 true = true → s.get R.PWR_STATE_BUSY = 0 → s.get R.BOOT_STATUS_STATE ≠ 0 →
    s.get R.PWR_STATE_STATE = 2 → runRefused s = 0 →
    Runs (.runRequest m) s [only R.PWR_STATE_BUSY 0, every R.LIN_STATUS_LIVE] [.fresh, .pwr, .lines, .biases, .pnt] fun t =>
      t.get R.PWR_STATE_BUSY = 1 ∧ (∃ d < 2, t.pwr = { s.pwr with req := 2, reqAt := s.tick + 2 + d, host := 0 }) ∧
      (s.pnt.run = none → t.pnt = s.pnt ∧ t.lines = s.lines ∧ t.biases = s.biases)) ∧
  (∀ (m : Master) (s : State), reaches s m 0x903004 true = true → s.get R.PWR_STATE_BUSY = 0 → s.get R.BOOT_STATUS_STATE ≠ 0 →
    (s.get R.PWR_STATE_STATE = 1 ∨ s.get R.PWR_STATE_STATE = 2) → (s.get R.BOOT_STATUS_OP ≠ 0 ∨ s.pnt.run ≠ none) →
    Runs (.standbyRequest m) s [only R.PWR_STATE_LAST_CODE 0] [] fun t => t.get R.PWR_STATE_LAST_CODE = 0x42) ∧
  (∀ (m : Master) (s : State), reaches s m 0x903004 true = true → s.get R.PWR_STATE_BUSY = 0 → s.get R.BOOT_STATUS_STATE ≠ 0 →
    (s.get R.PWR_STATE_STATE = 1 ∨ s.get R.PWR_STATE_STATE = 2) → s.get R.BOOT_STATUS_OP = 0 → s.pnt.run = none →
    Runs (.standbyRequest m) s [only R.PWR_STATE_BUSY 0] [.fresh, .pwr] fun t =>
      t.get R.PWR_STATE_BUSY = 1 ∧ ∃ d < 2, t.pwr = { s.pwr with req := 3, reqAt := s.tick + 2 + d, host := 0 }) ∧
  (∀ (m : Master) (s : State), reaches s m 0x903004 true = true → s.get R.PWR_STATE_BUSY = 0 → s.get R.BOOT_STATUS_STATE ≠ 0 →
    s.get R.PWR_STATE_STATE = 3 →
    Runs (.standbyExit m) s ([only R.PWR_STATE_LAST_CODE 0, only R.PWR_STATE_STATE 0, only R.BOOT_STATUS_STATE 0, only R.BOOT_STATUS_OP 0,
        only R.HST_SESSION_RECOVERY 0] ++ eventPlaces) ([.pwr, .boot] ++ eventParts) fun t =>
      t.get R.PWR_STATE_STATE = 4 ∧ t.get R.PWR_STATE_LAST_CODE = 0 ∧ t.get R.BOOT_STATUS_STATE = 1 ∧ t.get R.BOOT_STATUS_OP = 1 ∧
      t.get R.HST_SESSION_RECOVERY = 1 ∧ t.boot = { s.boot with cause := 0, castT0 := s.clock } ∧ t.pwr = { s.pwr with railAt := s.clock } ∧
      EventFires s t 1488) ∧
  (∀ s : State, inRun s = true → (s.pwr.req = 1 ∨ s.pwr.req = 3) → s.pwr.reqAt ≤ s.tick → s.get R.BOOT_STATUS_STATE ≠ 0 →
    Runs .holdEntry s ([only R.PWR_STATE_BUSY 0, only R.PWR_STATE_LAST_CODE 0] ++ holdPlaces ++ mailPlaces ++ eventPlaces)
      ([.hostA, .hostB, .pwr] ++ holdParts ++ mailParts ++ eventParts) fun t =>
      t.get R.PWR_STATE_STATE = 2 ∧ t.get R.GLB_SCHED_STATUS_STATE = 0 ∧ EventFires s t 1488 ∧ (∀ n < 128, t.get R.CHS_STATUS_STATE n = 0) ∧
      (∀ n < 256, t.get R.LIN_STATUS_LIVE n = 0 ∧ bit (t.get R.LIN_STATUS_MUTE_CAUSE n) 0 = true ∧
        t.get R.BIA_TARGET_CODE n = s.get R.BIA_PARK_LATCH_CODE n % 2 ^ 20) ∧
      (∀ p ∈ s.windows, t.get R.DMD_STATUS_OPEN p.1 = 0) ∧ (∀ p ∈ s.slots, t.get R.SEG_SLOT_MODE p.1 = 0) ∧
      (s.pwr.req = 1 → RequestEnds t 0 s.pwr) ∧ (s.pwr.req = 3 → t.pwr = s.pwr ∧ t.get R.PWR_STATE_BUSY = s.get R.PWR_STATE_BUSY)) ∧
  (∀ s : State, inHold s = true → s.pwr.req = 1 → s.get R.BOOT_STATUS_STATE ≠ 0 →
    Runs .holdEntry s ([only R.PWR_STATE_BUSY 0, only R.PWR_STATE_LAST_CODE 0] ++ mailPlaces ++ eventPlaces)
      ([.hostA, .hostB, .pwr] ++ mailParts ++ eventParts) fun t => RequestEnds t 0 s.pwr) ∧
  (∀ s : State, (s.get R.BOOT_STATUS_STATE = 0 ∨ (inRun s = true ∧ s.tick < s.pwr.reqAt) ∨ (s.pwr.req ≠ 1 ∧ s.pwr.req ≠ 3)) →
    exec .holdEntry s = .next s) ∧
  (∀ s : State, inHold s = true → s.pwr.req = 2 → s.pwr.reqAt ≤ s.tick → (s.pnt.run.any fun p => p.insts.any (·.act)) = false →
    (s.calipers.any fun p => p.2.restoring) = false → s.get R.BOOT_STATUS_STATE ≠ 0 → runRefused s ≠ 0 →
    Runs .runEntry s ([only R.PWR_STATE_BUSY 0, only R.PWR_STATE_LAST_CODE 0] ++ mailPlaces ++ eventPlaces)
      ([.hostA, .hostB, .pwr] ++ mailParts ++ eventParts) fun t => RequestEnds t (runRefused s) s.pwr) ∧
  (∀ s : State, inHold s = true → s.pwr.req = 2 → s.pwr.reqAt ≤ s.tick → (s.pnt.run.any fun p => p.insts.any (·.act)) = false →
    (s.calipers.any fun p => p.2.restoring) = false → s.get R.BOOT_STATUS_STATE ≠ 0 → runRefused s = 0 →
    Runs .runEntry s ([only R.PWR_STATE_BUSY 0, only R.PWR_STATE_LAST_CODE 0] ++ runPlaces ++ mailPlaces ++ eventPlaces)
      ([.hostA, .hostB] ++ runParts ++ mailParts ++ eventParts) fun t =>
      t.get R.PWR_STATE_STATE = 1 ∧ t.get R.GLB_SCHED_STATUS_STATE = 1 ∧ t.get R.CLK_SHOT_COUNT = 0 ∧ t.get R.CLK_SHOT_EPOCH_EPOCH = 0 ∧
      EventFires s t 1488 ∧ RequestEnds t 0 { s.pwr with runE := s.tick } ∧
      (∀ n ∈ chsEnabled s, t.get R.CHS_STATUS_STATE n = 1) ∧ ∀ n < 256, bit (t.get R.LIN_STATUS_MUTE_CAUSE n) 0 = false) ∧
  (∀ s : State, (inHold s = false ∨ s.pwr.req ≠ 2 ∨ s.tick < s.pwr.reqAt ∨ (s.pnt.run.any fun p => p.insts.any (·.act)) = true ∨
      (s.calipers.any fun p => p.2.restoring) = true ∨ s.get R.BOOT_STATUS_STATE = 0) → exec .runEntry s = .next s) ∧
  (∀ s : State, inHold s = true → s.pwr.req = 3 → s.get R.BOOT_STATUS_STATE ≠ 0 → (∀ n < 256, s.get R.BIA_STATUS_GLIDING n = 0) →
    ∃ t, exec .standbyEntry s = .next t ∧ t.get R.PWR_STATE_STATE = 3 ∧ t.get R.BOOT_STATUS_STATE = 10 ∧ EventFires s t 1488 ∧
      RequestEnds t 0 { s.pwr with govSave := t.pwr.govSave } ∧ t.boot = s.boot ∧ t.sram = s.sram ∧ RailsLost s t railPlaces ∧
      ∀ n < 256, (sget none t.pwr.govSave n).getD ⟨0, [], [], [], 65536, 65536, false⟩ =
        ⟨(line s n).energy, (line s n).sub, (line s n).ms, (line s n).dms, s.get R.GOV_TGT_TGT n, s.get R.GOV_STATUS_FG n,
          s.flag R.GOV_STATUS_TRIPPED n⟩) ∧
  (∀ s : State, (inHold s = false ∨ s.pwr.req ≠ 3 ∨ s.get R.BOOT_STATUS_STATE = 0 ∨ ∃ n < 256, s.get R.BIA_STATUS_GLIDING n ≠ 0) →
    exec .standbyEntry s = .next s) ∧
  (∀ (temps : List (BitVec 16)) (s : State), s.xtalFail = true → exec (.thermalEvaluate temps) s = .next s) ∧
  (∀ (temps : List (BitVec 16)) (s : State), s.xtalFail = false →
    Runs (.thermalEvaluate temps) s ([only R.THM_STATUS_WARN 0, only R.THM_STATUS_WARN_SEEN 0, only R.THM_STATUS_WARN_DIE 0,
        only R.THM_WARN_DIE_DIES 0] ++ eventPlaces) ([.pwr, .boot] ++ eventParts) fun t =>
      (∀ i < 29, bit (t.get R.THM_WARN_DIE_DIES) i = true ↔ Warns s i (temps.getD i 0).toInt) ∧
      t.get R.THM_STATUS_WARN = b2n (t.get R.THM_WARN_DIE_DIES != 0) ∧
      (∀ i ∈ (List.range 29).find? (fun i => bit (t.get R.THM_WARN_DIE_DIES) i && !bit (s.get R.THM_WARN_DIE_DIES) i),
        t.get R.THM_STATUS_WARN_SEEN = 1 ∧ (s.get R.THM_STATUS_WARN_SEEN = 0 → t.get R.THM_STATUS_WARN_DIE = i)) ∧
      (s.get R.THM_WARN_DIE_DIES = 0 → t.get R.THM_WARN_DIE_DIES ≠ 0 → EventFires s t 1486) ∧
      (s.get R.THM_WARN_DIE_DIES ≠ 0 → t.get R.THM_WARN_DIE_DIES = 0 → EventFires s t 1487) ∧
      ∃ b : Bool, t.pwr = { s.pwr with cool := b } ∧
        (b = true ↔ ∀ i < 29, 0 ≤ (temps.getD i 0).toInt ∧ (temps.getD i 0).toInt ≤ 11520) ∧
        t.boot = if b then s.boot else { s.boot with op := s.boot.op.map fun o => { o with hot := true } }) ∧
  (∀ (dies : BitVec 29) (i : Fin 29) (s : State), s.get R.PWR_STATE_STATE ≠ 0 → s.get R.THM_STATUS_SHUTDOWN = 0 → dies.getLsbD i = true →
    diePowered s i = true → (∀ j < i.val, dies.getLsbD j = true → diePowered s j = false) →
    Runs (.thermalShutdown dies) s ([only R.THM_STATUS_SHUTDOWN 0, only R.THM_CAUSE_VALID 0, only R.THM_CAUSE_DIE 0] ++ shutdownPlaces)
      ([.boot, .pwr] ++ clockParts ++ holdParts) fun t =>
      t.get R.THM_STATUS_SHUTDOWN = 1 ∧ t.get R.THM_CAUSE_VALID = 1 ∧ t.get R.THM_CAUSE_DIE = i ∧ ShutDown s t s.pwr) ∧
  (∀ (dies : BitVec 29) (s : State), (s.get R.PWR_STATE_STATE = 0 ∨ s.get R.THM_STATUS_SHUTDOWN ≠ 0 ∨
      ∀ j < 29, dies.getLsbD j = true → diePowered s j = false) → exec (.thermalShutdown dies) s = .next s) ∧
  (∀ s : State, s.pwr.dropAt ≠ 0 → s.pwr.dropAt ≤ s.clock + 1 → hubHeld s = false →
    ∃ t, exec .railsDown s = .next t ∧ t.get R.PWR_STATE_STATE = 0 ∧ EventFires s t 1488 ∧ t.pwr.openAt = 0 ∧ t.pwr.dropAt = 0 ∧ t.pwr.req = 0 ∧
      (s.pwr.req ≠ 0 → t.get R.PWR_STATE_LAST_CODE = 0x40 ∧ t.get R.PWR_STATE_BUSY = 0) ∧
      t.get R.THM_WARN_DIE_DIES = s.get R.THM_WARN_DIE_DIES % 2 ∧
      RailsLost s t ([every R.THM_WARN_DIE_DIES, every R.THM_STATUS_WARN, every R.THM_STATUS_WARN_DIE, every R.THM_STATUS_WARN_SEEN] ++ railPlaces)) ∧
  (∀ s : State, s.pwr.dropAt ≠ 0 → s.pwr.dropAt ≤ s.clock + 1 → hubHeld s = true →
    ∃ t, exec .railsDown s = .next t ∧ t.get R.PWR_STATE_STATE = 0 ∧ t.pwr.openAt = 0 ∧ t.pwr.dropAt = 0 ∧ t.pwr.req = 0 ∧
      t.get R.THM_STATUS_SHUTDOWN = s.get R.THM_STATUS_SHUTDOWN ∧ t.get R.THM_CAUSE_DIE = 0 ∧ t.get R.PWR_STATUS_RAILS_GOOD = 0 ∧
      t.get R.BOOT_STATUS_STATE = 0 ∧ t.get R.HST_SESSION_OPEN = 0 ∧ t.hostA = none ∧ t.hostBQ = [] ∧ t.hbm = [] ∧ t.sram = [] ∧
      Keeps [.pending, .readData, .tick, .xtalFail, .clock, .bootT0, .quiesce, .msix, .flash, .i2c] s t) ∧
  (∀ s : State, (s.pwr.dropAt = 0 ∨ s.clock + 1 < s.pwr.dropAt) → exec .railsDown s = .next s) ∧
  (∀ (mv : BitVec 16) (s : State), 38000 ≤ mv.toNat → mv.toNat ≤ 58000 → exec (.supplyFault mv false) s = .next s) ∧
  (∀ (mv : BitVec 16) (out : Bool) (s : State), (out = true ∨ mv.toNat < 38000 ∨ 58000 < mv.toNat) → s.get R.PWR_STATE_STATE = 0 →
    exec (.supplyFault mv out) s = .next { s with pwr := { s.pwr with mv48 := mv.toNat, railHeld := s.pwr.railHeld && decide (20000 ≤ mv.toNat) } }) ∧
  (∀ (mv : BitVec 16) (out : Bool) (s : State), (out = true ∨ mv.toNat < 38000 ∨ 58000 < mv.toNat) → s.get R.PWR_STATE_STATE ≠ 0 →
    Runs (.supplyFault mv out) s (only R.PWR_STATUS_SUPPLY_FAULT 0 :: shutdownPlaces) ([.boot, .pwr] ++ clockParts ++ holdParts) fun t =>
      t.get R.PWR_STATUS_SUPPLY_FAULT = 1 ∧
      ShutDown s t { s.pwr with mv48 := mv.toNat, railHeld := s.pwr.railHeld && decide (20000 ≤ mv.toNat), fault := true }) ∧
  (∀ (mv : BitVec 16) (s : State), (mv.toNat < 40000 ∨ 56000 < mv.toNat) → exec (.supplyReturn mv) s = .next s) ∧
  (∀ (mv : BitVec 16) (s : State), 40000 ≤ mv.toNat → mv.toNat ≤ 56000 →
    (s.get R.PWR_STATE_STATE ≠ 0 ∨ s.get R.THM_STATUS_SHUTDOWN ≠ 0 ∨ s.pwr.dropAt ≠ 0 ∨ s.pwr.railHeld = true) →
    exec (.supplyReturn mv) s = .next { s with pwr := { s.pwr with mv48 := mv.toNat, fault := false } }) ∧
  (∀ (mv : BitVec 16) (s : State), 40000 ≤ mv.toNat → mv.toNat ≤ 56000 → s.get R.PWR_STATE_STATE = 0 → s.get R.THM_STATUS_SHUTDOWN = 0 →
    s.pwr.dropAt = 0 → s.pwr.railHeld = false →
    Runs (.supplyReturn mv) s ([only R.PWR_STATE_STATE 0, only R.BOOT_STATUS_STATE 0, only R.BOOT_STATUS_OP 0, only R.HST_SESSION_RECOVERY 0] ++
        eventPlaces) ([.pwr, .boot] ++ eventParts) fun t =>
      t.get R.PWR_STATE_STATE = 4 ∧ EventFires s t 1488 ∧
      (s.pwr.resetLow = true → t.get R.BOOT_STATUS_STATE = s.get R.BOOT_STATUS_STATE ∧ t.boot = { s.boot with cause := 1 } ∧
        t.pwr = { s.pwr with mv48 := mv.toNat, fault := false }) ∧
      (s.pwr.resetLow = false → t.get R.BOOT_STATUS_STATE = 1 ∧ t.get R.BOOT_STATUS_OP = 1 ∧ t.get R.HST_SESSION_RECOVERY = 1 ∧
        t.boot = { s.boot with cause := 1, castT0 := s.clock } ∧ t.pwr = { s.pwr with mv48 := mv.toNat, fault := false, railAt := s.clock })) ∧
  (∀ (mv48 mv33 : BitVec 16) (s : State), mv48.toNat < 20000 → mv33.toNat < 1000 →
    ∃ t, exec (.thermalLatchClear mv48 mv33) s = .next t ∧ t.get R.PWR_STATE_STATE = 0 ∧ t.get R.THM_STATUS_SHUTDOWN = 0 ∧
      t.get R.THM_CAUSE_VALID = 0 ∧ t.get R.THM_CAUSE_DIE = 0 ∧ t.get R.PWR_STATUS_RAILS_GOOD = 0 ∧ t.get R.BOOT_STATUS_STATE = 0 ∧
      t.boot.cause = 1 ∧ t.pwr.mv48 = mv48.toNat ∧ t.pwr.mv33 = mv33.toNat ∧ t.pwr.openAt = 0 ∧ t.pwr.dropAt = 0 ∧ t.pwr.railHeld = false ∧
      Keeps [.pending, .tick, .xtalFail, .clock, .quiesce, .flash] s t) ∧
  (∀ (mv48 mv33 : BitVec 16) (s : State), (20000 ≤ mv48.toNat ∨ 1000 ≤ mv33.toNat) → exec (.thermalLatchClear mv48 mv33) s = .next s) ∧
  (∀ (data : List (BitVec 8)) (s : State), exec (.i2cPointerWrite data) s = .next (match data with
    | [] => s
    | p :: _ => { s with i2c := { s.i2c with ptr := p.toNat } })) ∧
  (∀ (s : State) (p : Nat), p = s.i2c.ptr →
    Runs .i2cRead s [] [.readData, .i2c] fun t =>
      t.i2c = { s.i2c with ptr := (p + 1) % 256 } ∧ t.readData =
        if p < 4 then regWord s (4 * p) else if p < 10 then s.i2c.copy.getD (p - 4) 0
        else if p = 10 then s.pwr.mv33 else if p = 11 then s.pwr.mv48 / 10
        else if p = 12 then (s.clock - s.i2c.t0) / 400000000 % 2 ^ 32
        else if p = 13 then b2n (hubHeld s) + 2 * b2n (s.flag R.THM_STATUS_SHUTDOWN) + 4 * b2n (decide (3200 ≤ s.pwr.mv33 ∧ s.pwr.mv33 ≤ 3400)) +
          8 * b2n (decide (40000 ≤ s.pwr.mv48 ∧ s.pwr.mv48 ≤ 56000))
        else 0) ∧
  (∀ (mv48 mv33 : BitVec 16) (s : State),
    Runs (.i2cRefresh mv48 mv33) s [] [.pwr, .i2c] fun t =>
      t.pwr = { s.pwr with mv48 := mv48.toNat, mv33 := mv33.toNat } ∧
      t.i2c = if hubHeld s = true ∨ s.xtalFail = true then s.i2c
        else { s.i2c with copy := [0x902000, 0x902008, 0x902004, 0x903000, 0x903008, 0x100000].map (regWord s) })
end

