-- ==== Sys2Proof/Laws/State.lean ====
section
/-! SUPPORT. One lemma per part of the state per register update, each true by rfl: a register write changes no other part of the state. -/

set_option Elab.async false

namespace Sys2Proof.Machine

variable (s : State) (f : Fld) (v i n : Nat)

/-! ### State.put -/

@[simp] theorem State.put_pending : (s.put f v i).pending = s.pending := rfl
@[simp] theorem State.put_readData : (s.put f v i).readData = s.readData := rfl
@[simp] theorem State.put_readPoison : (s.put f v i).readPoison = s.readPoison := rfl
@[simp] theorem State.put_now : (s.put f v i).now = s.now := rfl
@[simp] theorem State.put_tick : (s.put f v i).tick = s.tick := rfl
@[simp] theorem State.put_fresh : (s.put f v i).fresh = s.fresh := rfl
@[simp] theorem State.put_xtalFail : (s.put f v i).xtalFail = s.xtalFail := rfl
@[simp] theorem State.put_epochDue : (s.put f v i).epochDue = s.epochDue := rfl
@[simp] theorem State.put_armVis : (s.put f v i).armVis = s.armVis := rfl
@[simp] theorem State.put_phaseNow : (s.put f v i).phaseNow = s.phaseNow := rfl
@[simp] theorem State.put_syncErrs : (s.put f v i).syncErrs = s.syncErrs := rfl
@[simp] theorem State.put_slipRun : (s.put f v i).slipRun = s.slipRun := rfl
@[simp] theorem State.put_lastGoodL : (s.put f v i).lastGoodL = s.lastGoodL := rfl
@[simp] theorem State.put_skew : (s.put f v i).skew = s.skew := rfl
@[simp] theorem State.put_syncOut : (s.put f v i).syncOut = s.syncOut := rfl
@[simp] theorem State.put_alarmLast : (s.put f v i).alarmLast = s.alarmLast := rfl
@[simp] theorem State.put_taintTick : (s.put f v i).taintTick = s.taintTick := rfl
@[simp] theorem State.put_shotT : (s.put f v i).shotT = s.shotT := rfl
@[simp] theorem State.put_harvest : (s.put f v i).harvest = s.harvest := rfl
@[simp] theorem State.put_hNext : (s.put f v i).hNext = s.hNext := rfl
@[simp] theorem State.put_hLast : (s.put f v i).hLast = s.hLast := rfl
@[simp] theorem State.put_nq : (s.put f v i).nq = s.nq := rfl
@[simp] theorem State.put_points : (s.put f v i).points = s.points := rfl
@[simp] theorem State.put_evhLatch : (s.put f v i).evhLatch = s.evhLatch := rfl
@[simp] theorem State.put_arrivals : (s.put f v i).arrivals = s.arrivals := rfl
@[simp] theorem State.put_chAny : (s.put f v i).chAny = s.chAny := rfl
@[simp] theorem State.put_chRt : (s.put f v i).chRt = s.chRt := rfl
@[simp] theorem State.put_deliver : (s.put f v i).deliver = s.deliver := rfl
@[simp] theorem State.put_rq : (s.put f v i).rq = s.rq := rfl
@[simp] theorem State.put_clock : (s.put f v i).clock = s.clock := rfl
@[simp] theorem State.put_bootT0 : (s.put f v i).bootT0 = s.bootT0 := rfl
@[simp] theorem State.put_bootUnwritten : (s.put f v i).bootUnwritten = s.bootUnwritten := rfl
@[simp] theorem State.put_gaps : (s.put f v i).gaps = s.gaps := rfl
@[simp] theorem State.put_mkOps : (s.put f v i).mkOps = s.mkOps := rfl
@[simp] theorem State.put_mkEnd : (s.put f v i).mkEnd = s.mkEnd := rfl
@[simp] theorem State.put_shotStart : (s.put f v i).shotStart = s.shotStart := rfl
@[simp] theorem State.put_dmap : (s.put f v i).dmap = s.dmap := rfl
@[simp] theorem State.put_decDecl : (s.put f v i).decDecl = s.decDecl := rfl
@[simp] theorem State.put_decVal : (s.put f v i).decVal = s.decVal := rfl
@[simp] theorem State.put_decPub : (s.put f v i).decPub = s.decPub := rfl
@[simp] theorem State.put_decTaint : (s.put f v i).decTaint = s.decTaint := rfl
@[simp] theorem State.put_pfuMem : (s.put f v i).pfuMem = s.pfuMem := rfl
@[simp] theorem State.put_pfuCnt : (s.put f v i).pfuCnt = s.pfuCnt := rfl
@[simp] theorem State.put_pfuPrev : (s.put f v i).pfuPrev = s.pfuPrev := rfl
@[simp] theorem State.put_pfuRec : (s.put f v i).pfuRec = s.pfuRec := rfl
@[simp] theorem State.put_pfuNext : (s.put f v i).pfuNext = s.pfuNext := rfl
@[simp] theorem State.put_rounds : (s.put f v i).rounds = s.rounds := rfl
@[simp] theorem State.put_hbm : (s.put f v i).hbm = s.hbm := rfl
@[simp] theorem State.put_chsProg : (s.put f v i).chsProg = s.chsProg := rfl
@[simp] theorem State.put_chsEnv : (s.put f v i).chsEnv = s.chsEnv := rfl
@[simp] theorem State.put_chisels : (s.put f v i).chisels = s.chisels := rfl
@[simp] theorem State.put_barArr : (s.put f v i).barArr = s.barArr := rfl
@[simp] theorem State.put_barSeen : (s.put f v i).barSeen = s.barSeen := rfl
@[simp] theorem State.put_tinSeen : (s.put f v i).tinSeen = s.tinSeen := rfl
@[simp] theorem State.put_playSeen : (s.put f v i).playSeen = s.playSeen := rfl
@[simp] theorem State.put_slots : (s.put f v i).slots = s.slots := rfl
@[simp] theorem State.put_stmFetch : (s.put f v i).stmFetch = s.stmFetch := rfl
@[simp] theorem State.put_stmBuf : (s.put f v i).stmBuf = s.stmBuf := rfl
@[simp] theorem State.put_frmInit : (s.put f v i).frmInit = s.frmInit := rfl
@[simp] theorem State.put_frmLive : (s.put f v i).frmLive = s.frmLive := rfl
@[simp] theorem State.put_frmOps : (s.put f v i).frmOps = s.frmOps := rfl
@[simp] theorem State.put_lines : (s.put f v i).lines = s.lines := rfl
@[simp] theorem State.put_biases : (s.put f v i).biases = s.biases := rfl
@[simp] theorem State.put_quiesce : (s.put f v i).quiesce = s.quiesce := rfl
@[simp] theorem State.put_quiesceEnd : (s.put f v i).quiesceEnd = s.quiesceEnd := rfl
@[simp] theorem State.put_patinas : (s.put f v i).patinas = s.patinas := rfl
@[simp] theorem State.put_zoneSets : (s.put f v i).zoneSets = s.zoneSets := rfl
@[simp] theorem State.put_ovrs : (s.put f v i).ovrs = s.ovrs := rfl
@[simp] theorem State.put_windows : (s.put f v i).windows = s.windows := rfl
@[simp] theorem State.put_kmem : (s.put f v i).kmem = s.kmem := rfl
@[simp] theorem State.put_calipers : (s.put f v i).calipers = s.calipers := rfl
@[simp] theorem State.put_clpProg : (s.put f v i).clpProg = s.clpProg := rfl
@[simp] theorem State.put_clpMem : (s.put f v i).clpMem = s.clpMem := rfl
@[simp] theorem State.put_clpInit : (s.put f v i).clpInit = s.clpInit := rfl
@[simp] theorem State.put_clpEmask : (s.put f v i).clpEmask = s.clpEmask := rfl
@[simp] theorem State.put_depWPrev : (s.put f v i).depWPrev = s.depWPrev := rfl
@[simp] theorem State.put_mbxQ : (s.put f v i).mbxQ = s.mbxQ := rfl
@[simp] theorem State.put_mbxRing : (s.put f v i).mbxRing = s.mbxRing := rfl
@[simp] theorem State.put_taskLast : (s.put f v i).taskLast = s.taskLast := rfl
@[simp] theorem State.put_evhSent : (s.put f v i).evhSent = s.evhSent := rfl
@[simp] theorem State.put_fired : (s.put f v i).fired = s.fired := rfl
@[simp] theorem State.put_pubSeen : (s.put f v i).pubSeen = s.pubSeen := rfl
@[simp] theorem State.put_caps : (s.put f v i).caps = s.caps := rfl
@[simp] theorem State.put_tinFifo : (s.put f v i).tinFifo = s.tinFifo := rfl
@[simp] theorem State.put_tinLast : (s.put f v i).tinLast = s.tinLast := rfl
@[simp] theorem State.put_tdcPos : (s.put f v i).tdcPos = s.tdcPos := rfl
@[simp] theorem State.put_tdcHits : (s.put f v i).tdcHits = s.tdcHits := rfl
@[simp] theorem State.put_tdcCal : (s.put f v i).tdcCal = s.tdcCal := rfl
@[simp] theorem State.put_ivls : (s.put f v i).ivls = s.ivls := rfl
@[simp] theorem State.put_arbs : (s.put f v i).arbs = s.arbs := rfl
@[simp] theorem State.put_hostA : (s.put f v i).hostA = s.hostA := rfl
@[simp] theorem State.put_hostB : (s.put f v i).hostB = s.hostB := rfl
@[simp] theorem State.put_hostBQ : (s.put f v i).hostBQ = s.hostBQ := rfl
@[simp] theorem State.put_msix : (s.put f v i).msix = s.msix := rfl
@[simp] theorem State.put_lans : (s.put f v i).lans = s.lans := rfl
@[simp] theorem State.put_lanTx : (s.put f v i).lanTx = s.lanTx := rfl
@[simp] theorem State.put_lanRx : (s.put f v i).lanRx = s.lanRx := rfl
@[simp] theorem State.put_lanDef : (s.put f v i).lanDef = s.lanDef := rfl
@[simp] theorem State.put_lanLen : (s.put f v i).lanLen = s.lanLen := rfl
@[simp] theorem State.put_bqCur : (s.put f v i).bqCur = s.bqCur := rfl
@[simp] theorem State.put_timeLoadedAt : (s.put f v i).timeLoadedAt = s.timeLoadedAt := rfl
@[simp] theorem State.put_systemTag : (s.put f v i).systemTag = s.systemTag := rfl
@[simp] theorem State.put_frqs : (s.put f v i).frqs = s.frqs := rfl
@[simp] theorem State.put_mon : (s.put f v i).mon = s.mon := rfl
@[simp] theorem State.put_pnt : (s.put f v i).pnt = s.pnt := rfl
@[simp] theorem State.put_pwr : (s.put f v i).pwr = s.pwr := rfl
@[simp] theorem State.put_boot : (s.put f v i).boot = s.boot := rfl
@[simp] theorem State.put_flash : (s.put f v i).flash = s.flash := rfl
@[simp] theorem State.put_sram : (s.put f v i).sram = s.sram := rfl
@[simp] theorem State.put_i2c : (s.put f v i).i2c = s.i2c := rfl
@[simp] theorem State.put_cyc : (s.put f v i).cyc = s.cyc := rfl
@[simp] theorem State.put_clk : (s.put f v i).clk = s.clk := rfl

/-! ### State.set -/

@[simp] theorem State.set_pending : (s.set f v i).pending = s.pending := rfl
@[simp] theorem State.set_readData : (s.set f v i).readData = s.readData := rfl
@[simp] theorem State.set_readPoison : (s.set f v i).readPoison = s.readPoison := rfl
@[simp] theorem State.set_now : (s.set f v i).now = s.now := rfl
@[simp] theorem State.set_tick : (s.set f v i).tick = s.tick := rfl
@[simp] theorem State.set_fresh : (s.set f v i).fresh = s.fresh := rfl
@[simp] theorem State.set_xtalFail : (s.set f v i).xtalFail = s.xtalFail := rfl
@[simp] theorem State.set_epochDue : (s.set f v i).epochDue = s.epochDue := rfl
@[simp] theorem State.set_armVis : (s.set f v i).armVis = s.armVis := rfl
@[simp] theorem State.set_phaseNow : (s.set f v i).phaseNow = s.phaseNow := rfl
@[simp] theorem State.set_syncErrs : (s.set f v i).syncErrs = s.syncErrs := rfl
@[simp] theorem State.set_slipRun : (s.set f v i).slipRun = s.slipRun := rfl
@[simp] theorem State.set_lastGoodL : (s.set f v i).lastGoodL = s.lastGoodL := rfl
@[simp] theorem State.set_skew : (s.set f v i).skew = s.skew := rfl
@[simp] theorem State.set_syncOut : (s.set f v i).syncOut = s.syncOut := rfl
@[simp] theorem State.set_alarmLast : (s.set f v i).alarmLast = s.alarmLast := rfl
@[simp] theorem State.set_taintTick : (s.set f v i).taintTick = s.taintTick := rfl
@[simp] theorem State.set_shotT : (s.set f v i).shotT = s.shotT := rfl
@[simp] theorem State.set_harvest : (s.set f v i).harvest = s.harvest := rfl
@[simp] theorem State.set_hNext : (s.set f v i).hNext = s.hNext := rfl
@[simp] theorem State.set_hLast : (s.set f v i).hLast = s.hLast := rfl
@[simp] theorem State.set_nq : (s.set f v i).nq = s.nq := rfl
@[simp] theorem State.set_points : (s.set f v i).points = s.points := rfl
@[simp] theorem State.set_evhLatch : (s.set f v i).evhLatch = s.evhLatch := rfl
@[simp] theorem State.set_arrivals : (s.set f v i).arrivals = s.arrivals := rfl
@[simp] theorem State.set_chAny : (s.set f v i).chAny = s.chAny := rfl
@[simp] theorem State.set_chRt : (s.set f v i).chRt = s.chRt := rfl
@[simp] theorem State.set_deliver : (s.set f v i).deliver = s.deliver := rfl
@[simp] theorem State.set_rq : (s.set f v i).rq = s.rq := rfl
@[simp] theorem State.set_clock : (s.set f v i).clock = s.clock := rfl
@[simp] theorem State.set_bootT0 : (s.set f v i).bootT0 = s.bootT0 := rfl
@[simp] theorem State.set_bootUnwritten : (s.set f v i).bootUnwritten = s.bootUnwritten := rfl
@[simp] theorem State.set_gaps : (s.set f v i).gaps = s.gaps := rfl
@[simp] theorem State.set_mkOps : (s.set f v i).mkOps = s.mkOps := rfl
@[simp] theorem State.set_mkEnd : (s.set f v i).mkEnd = s.mkEnd := rfl
@[simp] theorem State.set_shotStart : (s.set f v i).shotStart = s.shotStart := rfl
@[simp] theorem State.set_dmap : (s.set f v i).dmap = s.dmap := rfl
@[simp] theorem State.set_decDecl : (s.set f v i).decDecl = s.decDecl := rfl
@[simp] theorem State.set_decVal : (s.set f v i).decVal = s.decVal := rfl
@[simp] theorem State.set_decPub : (s.set f v i).decPub = s.decPub := rfl
@[simp] theorem State.set_decTaint : (s.set f v i).decTaint = s.decTaint := rfl
@[simp] theorem State.set_pfuMem : (s.set f v i).pfuMem = s.pfuMem := rfl
@[simp] theorem State.set_pfuCnt : (s.set f v i).pfuCnt = s.pfuCnt := rfl
@[simp] theorem State.set_pfuPrev : (s.set f v i).pfuPrev = s.pfuPrev := rfl
@[simp] theorem State.set_pfuRec : (s.set f v i).pfuRec = s.pfuRec := rfl
@[simp] theorem State.set_pfuNext : (s.set f v i).pfuNext = s.pfuNext := rfl
@[simp] theorem State.set_rounds : (s.set f v i).rounds = s.rounds := rfl
@[simp] theorem State.set_hbm : (s.set f v i).hbm = s.hbm := rfl
@[simp] theorem State.set_chsProg : (s.set f v i).chsProg = s.chsProg := rfl
@[simp] theorem State.set_chsEnv : (s.set f v i).chsEnv = s.chsEnv := rfl
@[simp] theorem State.set_chisels : (s.set f v i).chisels = s.chisels := rfl
@[simp] theorem State.set_barArr : (s.set f v i).barArr = s.barArr := rfl
@[simp] theorem State.set_barSeen : (s.set f v i).barSeen = s.barSeen := rfl
@[simp] theorem State.set_tinSeen : (s.set f v i).tinSeen = s.tinSeen := rfl
@[simp] theorem State.set_playSeen : (s.set f v i).playSeen = s.playSeen := rfl
@[simp] theorem State.set_slots : (s.set f v i).slots = s.slots := rfl
@[simp] theorem State.set_stmFetch : (s.set f v i).stmFetch = s.stmFetch := rfl
@[simp] theorem State.set_stmBuf : (s.set f v i).stmBuf = s.stmBuf := rfl
@[simp] theorem State.set_frmInit : (s.set f v i).frmInit = s.frmInit := rfl
@[simp] theorem State.set_frmLive : (s.set f v i).frmLive = s.frmLive := rfl
@[simp] theorem State.set_frmOps : (s.set f v i).frmOps = s.frmOps := rfl
@[simp] theorem State.set_lines : (s.set f v i).lines = s.lines := rfl
@[simp] theorem State.set_biases : (s.set f v i).biases = s.biases := rfl
@[simp] theorem State.set_quiesce : (s.set f v i).quiesce = s.quiesce := rfl
@[simp] theorem State.set_quiesceEnd : (s.set f v i).quiesceEnd = s.quiesceEnd := rfl
@[simp] theorem State.set_patinas : (s.set f v i).patinas = s.patinas := rfl
@[simp] theorem State.set_zoneSets : (s.set f v i).zoneSets = s.zoneSets := rfl
@[simp] theorem State.set_ovrs : (s.set f v i).ovrs = s.ovrs := rfl
@[simp] theorem State.set_windows : (s.set f v i).windows = s.windows := rfl
@[simp] theorem State.set_kmem : (s.set f v i).kmem = s.kmem := rfl
@[simp] theorem State.set_calipers : (s.set f v i).calipers = s.calipers := rfl
@[simp] theorem State.set_clpProg : (s.set f v i).clpProg = s.clpProg := rfl
@[simp] theorem State.set_clpMem : (s.set f v i).clpMem = s.clpMem := rfl
@[simp] theorem State.set_clpInit : (s.set f v i).clpInit = s.clpInit := rfl
@[simp] theorem State.set_clpEmask : (s.set f v i).clpEmask = s.clpEmask := rfl
@[simp] theorem State.set_depWPrev : (s.set f v i).depWPrev = s.depWPrev := rfl
@[simp] theorem State.set_mbxQ : (s.set f v i).mbxQ = s.mbxQ := rfl
@[simp] theorem State.set_mbxRing : (s.set f v i).mbxRing = s.mbxRing := rfl
@[simp] theorem State.set_taskLast : (s.set f v i).taskLast = s.taskLast := rfl
@[simp] theorem State.set_evhSent : (s.set f v i).evhSent = s.evhSent := rfl
@[simp] theorem State.set_fired : (s.set f v i).fired = s.fired := rfl
@[simp] theorem State.set_pubSeen : (s.set f v i).pubSeen = s.pubSeen := rfl
@[simp] theorem State.set_caps : (s.set f v i).caps = s.caps := rfl
@[simp] theorem State.set_tinFifo : (s.set f v i).tinFifo = s.tinFifo := rfl
@[simp] theorem State.set_tinLast : (s.set f v i).tinLast = s.tinLast := rfl
@[simp] theorem State.set_tdcPos : (s.set f v i).tdcPos = s.tdcPos := rfl
@[simp] theorem State.set_tdcHits : (s.set f v i).tdcHits = s.tdcHits := rfl
@[simp] theorem State.set_tdcCal : (s.set f v i).tdcCal = s.tdcCal := rfl
@[simp] theorem State.set_ivls : (s.set f v i).ivls = s.ivls := rfl
@[simp] theorem State.set_arbs : (s.set f v i).arbs = s.arbs := rfl
@[simp] theorem State.set_hostA : (s.set f v i).hostA = s.hostA := rfl
@[simp] theorem State.set_hostB : (s.set f v i).hostB = s.hostB := rfl
@[simp] theorem State.set_hostBQ : (s.set f v i).hostBQ = s.hostBQ := rfl
@[simp] theorem State.set_msix : (s.set f v i).msix = s.msix := rfl
@[simp] theorem State.set_lans : (s.set f v i).lans = s.lans := rfl
@[simp] theorem State.set_lanTx : (s.set f v i).lanTx = s.lanTx := rfl
@[simp] theorem State.set_lanRx : (s.set f v i).lanRx = s.lanRx := rfl
@[simp] theorem State.set_lanDef : (s.set f v i).lanDef = s.lanDef := rfl
@[simp] theorem State.set_lanLen : (s.set f v i).lanLen = s.lanLen := rfl
@[simp] theorem State.set_bqCur : (s.set f v i).bqCur = s.bqCur := rfl
@[simp] theorem State.set_timeLoadedAt : (s.set f v i).timeLoadedAt = s.timeLoadedAt := rfl
@[simp] theorem State.set_systemTag : (s.set f v i).systemTag = s.systemTag := rfl
@[simp] theorem State.set_frqs : (s.set f v i).frqs = s.frqs := rfl
@[simp] theorem State.set_mon : (s.set f v i).mon = s.mon := rfl
@[simp] theorem State.set_pnt : (s.set f v i).pnt = s.pnt := rfl
@[simp] theorem State.set_pwr : (s.set f v i).pwr = s.pwr := rfl
@[simp] theorem State.set_boot : (s.set f v i).boot = s.boot := rfl
@[simp] theorem State.set_flash : (s.set f v i).flash = s.flash := rfl
@[simp] theorem State.set_sram : (s.set f v i).sram = s.sram := rfl
@[simp] theorem State.set_i2c : (s.set f v i).i2c = s.i2c := rfl
@[simp] theorem State.set_clk : (s.set f v i).clk = s.clk := rfl

/-! ### State.inc -/

@[simp] theorem State.inc_pending : (s.inc f i n).pending = s.pending := rfl
@[simp] theorem State.inc_readData : (s.inc f i n).readData = s.readData := rfl
@[simp] theorem State.inc_readPoison : (s.inc f i n).readPoison = s.readPoison := rfl
@[simp] theorem State.inc_now : (s.inc f i n).now = s.now := rfl
@[simp] theorem State.inc_tick : (s.inc f i n).tick = s.tick := rfl
@[simp] theorem State.inc_fresh : (s.inc f i n).fresh = s.fresh := rfl
@[simp] theorem State.inc_xtalFail : (s.inc f i n).xtalFail = s.xtalFail := rfl
@[simp] theorem State.inc_epochDue : (s.inc f i n).epochDue = s.epochDue := rfl
@[simp] theorem State.inc_armVis : (s.inc f i n).armVis = s.armVis := rfl
@[simp] theorem State.inc_phaseNow : (s.inc f i n).phaseNow = s.phaseNow := rfl
@[simp] theorem State.inc_syncErrs : (s.inc f i n).syncErrs = s.syncErrs := rfl
@[simp] theorem State.inc_slipRun : (s.inc f i n).slipRun = s.slipRun := rfl
@[simp] theorem State.inc_lastGoodL : (s.inc f i n).lastGoodL = s.lastGoodL := rfl
@[simp] theorem State.inc_skew : (s.inc f i n).skew = s.skew := rfl
@[simp] theorem State.inc_syncOut : (s.inc f i n).syncOut = s.syncOut := rfl
@[simp] theorem State.inc_alarmLast : (s.inc f i n).alarmLast = s.alarmLast := rfl
@[simp] theorem State.inc_taintTick : (s.inc f i n).taintTick = s.taintTick := rfl
@[simp] theorem State.inc_shotT : (s.inc f i n).shotT = s.shotT := rfl
@[simp] theorem State.inc_harvest : (s.inc f i n).harvest = s.harvest := rfl
@[simp] theorem State.inc_hNext : (s.inc f i n).hNext = s.hNext := rfl
@[simp] theorem State.inc_hLast : (s.inc f i n).hLast = s.hLast := rfl
@[simp] theorem State.inc_nq : (s.inc f i n).nq = s.nq := rfl
@[simp] theorem State.inc_points : (s.inc f i n).points = s.points := rfl
@[simp] theorem State.inc_evhLatch : (s.inc f i n).evhLatch = s.evhLatch := rfl
@[simp] theorem State.inc_arrivals : (s.inc f i n).arrivals = s.arrivals := rfl
@[simp] theorem State.inc_chAny : (s.inc f i n).chAny = s.chAny := rfl
@[simp] theorem State.inc_chRt : (s.inc f i n).chRt = s.chRt := rfl
@[simp] theorem State.inc_deliver : (s.inc f i n).deliver = s.deliver := rfl
@[simp] theorem State.inc_rq : (s.inc f i n).rq = s.rq := rfl
@[simp] theorem State.inc_clock : (s.inc f i n).clock = s.clock := rfl
@[simp] theorem State.inc_bootT0 : (s.inc f i n).bootT0 = s.bootT0 := rfl
@[simp] theorem State.inc_bootUnwritten : (s.inc f i n).bootUnwritten = s.bootUnwritten := rfl
@[simp] theorem State.inc_gaps : (s.inc f i n).gaps = s.gaps := rfl
@[simp] theorem State.inc_mkOps : (s.inc f i n).mkOps = s.mkOps := rfl
@[simp] theorem State.inc_mkEnd : (s.inc f i n).mkEnd = s.mkEnd := rfl
@[simp] theorem State.inc_shotStart : (s.inc f i n).shotStart = s.shotStart := rfl
@[simp] theorem State.inc_dmap : (s.inc f i n).dmap = s.dmap := rfl
@[simp] theorem State.inc_decDecl : (s.inc f i n).decDecl = s.decDecl := rfl
@[simp] theorem State.inc_decVal : (s.inc f i n).decVal = s.decVal := rfl
@[simp] theorem State.inc_decPub : (s.inc f i n).decPub = s.decPub := rfl
@[simp] theorem State.inc_decTaint : (s.inc f i n).decTaint = s.decTaint := rfl
@[simp] theorem State.inc_pfuMem : (s.inc f i n).pfuMem = s.pfuMem := rfl
@[simp] theorem State.inc_pfuCnt : (s.inc f i n).pfuCnt = s.pfuCnt := rfl
@[simp] theorem State.inc_pfuPrev : (s.inc f i n).pfuPrev = s.pfuPrev := rfl
@[simp] theorem State.inc_pfuRec : (s.inc f i n).pfuRec = s.pfuRec := rfl
@[simp] theorem State.inc_pfuNext : (s.inc f i n).pfuNext = s.pfuNext := rfl
@[simp] theorem State.inc_rounds : (s.inc f i n).rounds = s.rounds := rfl
@[simp] theorem State.inc_hbm : (s.inc f i n).hbm = s.hbm := rfl
@[simp] theorem State.inc_chsProg : (s.inc f i n).chsProg = s.chsProg := rfl
@[simp] theorem State.inc_chsEnv : (s.inc f i n).chsEnv = s.chsEnv := rfl
@[simp] theorem State.inc_chisels : (s.inc f i n).chisels = s.chisels := rfl
@[simp] theorem State.inc_barArr : (s.inc f i n).barArr = s.barArr := rfl
@[simp] theorem State.inc_barSeen : (s.inc f i n).barSeen = s.barSeen := rfl
@[simp] theorem State.inc_tinSeen : (s.inc f i n).tinSeen = s.tinSeen := rfl
@[simp] theorem State.inc_playSeen : (s.inc f i n).playSeen = s.playSeen := rfl
@[simp] theorem State.inc_slots : (s.inc f i n).slots = s.slots := rfl
@[simp] theorem State.inc_stmFetch : (s.inc f i n).stmFetch = s.stmFetch := rfl
@[simp] theorem State.inc_stmBuf : (s.inc f i n).stmBuf = s.stmBuf := rfl
@[simp] theorem State.inc_frmInit : (s.inc f i n).frmInit = s.frmInit := rfl
@[simp] theorem State.inc_frmLive : (s.inc f i n).frmLive = s.frmLive := rfl
@[simp] theorem State.inc_frmOps : (s.inc f i n).frmOps = s.frmOps := rfl
@[simp] theorem State.inc_lines : (s.inc f i n).lines = s.lines := rfl
@[simp] theorem State.inc_biases : (s.inc f i n).biases = s.biases := rfl
@[simp] theorem State.inc_quiesce : (s.inc f i n).quiesce = s.quiesce := rfl
@[simp] theorem State.inc_quiesceEnd : (s.inc f i n).quiesceEnd = s.quiesceEnd := rfl
@[simp] theorem State.inc_patinas : (s.inc f i n).patinas = s.patinas := rfl
@[simp] theorem State.inc_zoneSets : (s.inc f i n).zoneSets = s.zoneSets := rfl
@[simp] theorem State.inc_ovrs : (s.inc f i n).ovrs = s.ovrs := rfl
@[simp] theorem State.inc_windows : (s.inc f i n).windows = s.windows := rfl
@[simp] theorem State.inc_kmem : (s.inc f i n).kmem = s.kmem := rfl
@[simp] theorem State.inc_calipers : (s.inc f i n).calipers = s.calipers := rfl
@[simp] theorem State.inc_clpProg : (s.inc f i n).clpProg = s.clpProg := rfl
@[simp] theorem State.inc_clpMem : (s.inc f i n).clpMem = s.clpMem := rfl
@[simp] theorem State.inc_clpInit : (s.inc f i n).clpInit = s.clpInit := rfl
@[simp] theorem State.inc_clpEmask : (s.inc f i n).clpEmask = s.clpEmask := rfl
@[simp] theorem State.inc_depWPrev : (s.inc f i n).depWPrev = s.depWPrev := rfl
@[simp] theorem State.inc_mbxQ : (s.inc f i n).mbxQ = s.mbxQ := rfl
@[simp] theorem State.inc_mbxRing : (s.inc f i n).mbxRing = s.mbxRing := rfl
@[simp] theorem State.inc_taskLast : (s.inc f i n).taskLast = s.taskLast := rfl
@[simp] theorem State.inc_evhSent : (s.inc f i n).evhSent = s.evhSent := rfl
@[simp] theorem State.inc_fired : (s.inc f i n).fired = s.fired := rfl
@[simp] theorem State.inc_pubSeen : (s.inc f i n).pubSeen = s.pubSeen := rfl
@[simp] theorem State.inc_caps : (s.inc f i n).caps = s.caps := rfl
@[simp] theorem State.inc_tinFifo : (s.inc f i n).tinFifo = s.tinFifo := rfl
@[simp] theorem State.inc_tinLast : (s.inc f i n).tinLast = s.tinLast := rfl
@[simp] theorem State.inc_tdcPos : (s.inc f i n).tdcPos = s.tdcPos := rfl
@[simp] theorem State.inc_tdcHits : (s.inc f i n).tdcHits = s.tdcHits := rfl
@[simp] theorem State.inc_tdcCal : (s.inc f i n).tdcCal = s.tdcCal := rfl
@[simp] theorem State.inc_ivls : (s.inc f i n).ivls = s.ivls := rfl
@[simp] theorem State.inc_arbs : (s.inc f i n).arbs = s.arbs := rfl
@[simp] theorem State.inc_hostA : (s.inc f i n).hostA = s.hostA := rfl
@[simp] theorem State.inc_hostB : (s.inc f i n).hostB = s.hostB := rfl
@[simp] theorem State.inc_hostBQ : (s.inc f i n).hostBQ = s.hostBQ := rfl
@[simp] theorem State.inc_msix : (s.inc f i n).msix = s.msix := rfl
@[simp] theorem State.inc_lans : (s.inc f i n).lans = s.lans := rfl
@[simp] theorem State.inc_lanTx : (s.inc f i n).lanTx = s.lanTx := rfl
@[simp] theorem State.inc_lanRx : (s.inc f i n).lanRx = s.lanRx := rfl
@[simp] theorem State.inc_lanDef : (s.inc f i n).lanDef = s.lanDef := rfl
@[simp] theorem State.inc_lanLen : (s.inc f i n).lanLen = s.lanLen := rfl
@[simp] theorem State.inc_bqCur : (s.inc f i n).bqCur = s.bqCur := rfl
@[simp] theorem State.inc_timeLoadedAt : (s.inc f i n).timeLoadedAt = s.timeLoadedAt := rfl
@[simp] theorem State.inc_systemTag : (s.inc f i n).systemTag = s.systemTag := rfl
@[simp] theorem State.inc_frqs : (s.inc f i n).frqs = s.frqs := rfl
@[simp] theorem State.inc_mon : (s.inc f i n).mon = s.mon := rfl
@[simp] theorem State.inc_pnt : (s.inc f i n).pnt = s.pnt := rfl
@[simp] theorem State.inc_pwr : (s.inc f i n).pwr = s.pwr := rfl
@[simp] theorem State.inc_boot : (s.inc f i n).boot = s.boot := rfl
@[simp] theorem State.inc_flash : (s.inc f i n).flash = s.flash := rfl
@[simp] theorem State.inc_sram : (s.inc f i n).sram = s.sram := rfl
@[simp] theorem State.inc_i2c : (s.inc f i n).i2c = s.i2c := rfl
@[simp] theorem State.inc_clk : (s.inc f i n).clk = s.clk := rfl

/-! ### State.clr -/

@[simp] theorem State.clr_pending : (s.clr f i).pending = s.pending := rfl
@[simp] theorem State.clr_readData : (s.clr f i).readData = s.readData := rfl
@[simp] theorem State.clr_readPoison : (s.clr f i).readPoison = s.readPoison := rfl
@[simp] theorem State.clr_now : (s.clr f i).now = s.now := rfl
@[simp] theorem State.clr_tick : (s.clr f i).tick = s.tick := rfl
@[simp] theorem State.clr_fresh : (s.clr f i).fresh = s.fresh := rfl
@[simp] theorem State.clr_xtalFail : (s.clr f i).xtalFail = s.xtalFail := rfl
@[simp] theorem State.clr_epochDue : (s.clr f i).epochDue = s.epochDue := rfl
@[simp] theorem State.clr_armVis : (s.clr f i).armVis = s.armVis := rfl
@[simp] theorem State.clr_phaseNow : (s.clr f i).phaseNow = s.phaseNow := rfl
@[simp] theorem State.clr_syncErrs : (s.clr f i).syncErrs = s.syncErrs := rfl
@[simp] theorem State.clr_slipRun : (s.clr f i).slipRun = s.slipRun := rfl
@[simp] theorem State.clr_lastGoodL : (s.clr f i).lastGoodL = s.lastGoodL := rfl
@[simp] theorem State.clr_skew : (s.clr f i).skew = s.skew := rfl
@[simp] theorem State.clr_syncOut : (s.clr f i).syncOut = s.syncOut := rfl
@[simp] theorem State.clr_alarmLast : (s.clr f i).alarmLast = s.alarmLast := rfl
@[simp] theorem State.clr_taintTick : (s.clr f i).taintTick = s.taintTick := rfl
@[simp] theorem State.clr_shotT : (s.clr f i).shotT = s.shotT := rfl
@[simp] theorem State.clr_harvest : (s.clr f i).harvest = s.harvest := rfl
@[simp] theorem State.clr_hNext : (s.clr f i).hNext = s.hNext := rfl
@[simp] theorem State.clr_hLast : (s.clr f i).hLast = s.hLast := rfl
@[simp] theorem State.clr_nq : (s.clr f i).nq = s.nq := rfl
@[simp] theorem State.clr_points : (s.clr f i).points = s.points := rfl
@[simp] theorem State.clr_evhLatch : (s.clr f i).evhLatch = s.evhLatch := rfl
@[simp] theorem State.clr_arrivals : (s.clr f i).arrivals = s.arrivals := rfl
@[simp] theorem State.clr_chAny : (s.clr f i).chAny = s.chAny := rfl
@[simp] theorem State.clr_chRt : (s.clr f i).chRt = s.chRt := rfl
@[simp] theorem State.clr_deliver : (s.clr f i).deliver = s.deliver := rfl
@[simp] theorem State.clr_rq : (s.clr f i).rq = s.rq := rfl
@[simp] theorem State.clr_clock : (s.clr f i).clock = s.clock := rfl
@[simp] theorem State.clr_bootT0 : (s.clr f i).bootT0 = s.bootT0 := rfl
@[simp] theorem State.clr_bootUnwritten : (s.clr f i).bootUnwritten = s.bootUnwritten := rfl
@[simp] theorem State.clr_gaps : (s.clr f i).gaps = s.gaps := rfl
@[simp] theorem State.clr_mkOps : (s.clr f i).mkOps = s.mkOps := rfl
@[simp] theorem State.clr_mkEnd : (s.clr f i).mkEnd = s.mkEnd := rfl
@[simp] theorem State.clr_shotStart : (s.clr f i).shotStart = s.shotStart := rfl
@[simp] theorem State.clr_dmap : (s.clr f i).dmap = s.dmap := rfl
@[simp] theorem State.clr_decDecl : (s.clr f i).decDecl = s.decDecl := rfl
@[simp] theorem State.clr_decVal : (s.clr f i).decVal = s.decVal := rfl
@[simp] theorem State.clr_decPub : (s.clr f i).decPub = s.decPub := rfl
@[simp] theorem State.clr_decTaint : (s.clr f i).decTaint = s.decTaint := rfl
@[simp] theorem State.clr_pfuMem : (s.clr f i).pfuMem = s.pfuMem := rfl
@[simp] theorem State.clr_pfuCnt : (s.clr f i).pfuCnt = s.pfuCnt := rfl
@[simp] theorem State.clr_pfuPrev : (s.clr f i).pfuPrev = s.pfuPrev := rfl
@[simp] theorem State.clr_pfuRec : (s.clr f i).pfuRec = s.pfuRec := rfl
@[simp] theorem State.clr_pfuNext : (s.clr f i).pfuNext = s.pfuNext := rfl
@[simp] theorem State.clr_rounds : (s.clr f i).rounds = s.rounds := rfl
@[simp] theorem State.clr_hbm : (s.clr f i).hbm = s.hbm := rfl
@[simp] theorem State.clr_chsProg : (s.clr f i).chsProg = s.chsProg := rfl
@[simp] theorem State.clr_chsEnv : (s.clr f i).chsEnv = s.chsEnv := rfl
@[simp] theorem State.clr_chisels : (s.clr f i).chisels = s.chisels := rfl
@[simp] theorem State.clr_barArr : (s.clr f i).barArr = s.barArr := rfl
@[simp] theorem State.clr_barSeen : (s.clr f i).barSeen = s.barSeen := rfl
@[simp] theorem State.clr_tinSeen : (s.clr f i).tinSeen = s.tinSeen := rfl
@[simp] theorem State.clr_playSeen : (s.clr f i).playSeen = s.playSeen := rfl
@[simp] theorem State.clr_slots : (s.clr f i).slots = s.slots := rfl
@[simp] theorem State.clr_stmFetch : (s.clr f i).stmFetch = s.stmFetch := rfl
@[simp] theorem State.clr_stmBuf : (s.clr f i).stmBuf = s.stmBuf := rfl
@[simp] theorem State.clr_frmInit : (s.clr f i).frmInit = s.frmInit := rfl
@[simp] theorem State.clr_frmLive : (s.clr f i).frmLive = s.frmLive := rfl
@[simp] theorem State.clr_frmOps : (s.clr f i).frmOps = s.frmOps := rfl
@[simp] theorem State.clr_lines : (s.clr f i).lines = s.lines := rfl
@[simp] theorem State.clr_biases : (s.clr f i).biases = s.biases := rfl
@[simp] theorem State.clr_quiesce : (s.clr f i).quiesce = s.quiesce := rfl
@[simp] theorem State.clr_quiesceEnd : (s.clr f i).quiesceEnd = s.quiesceEnd := rfl
@[simp] theorem State.clr_patinas : (s.clr f i).patinas = s.patinas := rfl
@[simp] theorem State.clr_zoneSets : (s.clr f i).zoneSets = s.zoneSets := rfl
@[simp] theorem State.clr_ovrs : (s.clr f i).ovrs = s.ovrs := rfl
@[simp] theorem State.clr_windows : (s.clr f i).windows = s.windows := rfl
@[simp] theorem State.clr_kmem : (s.clr f i).kmem = s.kmem := rfl
@[simp] theorem State.clr_calipers : (s.clr f i).calipers = s.calipers := rfl
@[simp] theorem State.clr_clpProg : (s.clr f i).clpProg = s.clpProg := rfl
@[simp] theorem State.clr_clpMem : (s.clr f i).clpMem = s.clpMem := rfl
@[simp] theorem State.clr_clpInit : (s.clr f i).clpInit = s.clpInit := rfl
@[simp] theorem State.clr_clpEmask : (s.clr f i).clpEmask = s.clpEmask := rfl
@[simp] theorem State.clr_depWPrev : (s.clr f i).depWPrev = s.depWPrev := rfl
@[simp] theorem State.clr_mbxQ : (s.clr f i).mbxQ = s.mbxQ := rfl
@[simp] theorem State.clr_mbxRing : (s.clr f i).mbxRing = s.mbxRing := rfl
@[simp] theorem State.clr_taskLast : (s.clr f i).taskLast = s.taskLast := rfl
@[simp] theorem State.clr_evhSent : (s.clr f i).evhSent = s.evhSent := rfl
@[simp] theorem State.clr_fired : (s.clr f i).fired = s.fired := rfl
@[simp] theorem State.clr_pubSeen : (s.clr f i).pubSeen = s.pubSeen := rfl
@[simp] theorem State.clr_caps : (s.clr f i).caps = s.caps := rfl
@[simp] theorem State.clr_tinFifo : (s.clr f i).tinFifo = s.tinFifo := rfl
@[simp] theorem State.clr_tinLast : (s.clr f i).tinLast = s.tinLast := rfl
@[simp] theorem State.clr_tdcPos : (s.clr f i).tdcPos = s.tdcPos := rfl
@[simp] theorem State.clr_tdcHits : (s.clr f i).tdcHits = s.tdcHits := rfl
@[simp] theorem State.clr_tdcCal : (s.clr f i).tdcCal = s.tdcCal := rfl
@[simp] theorem State.clr_ivls : (s.clr f i).ivls = s.ivls := rfl
@[simp] theorem State.clr_arbs : (s.clr f i).arbs = s.arbs := rfl
@[simp] theorem State.clr_hostA : (s.clr f i).hostA = s.hostA := rfl
@[simp] theorem State.clr_hostB : (s.clr f i).hostB = s.hostB := rfl
@[simp] theorem State.clr_hostBQ : (s.clr f i).hostBQ = s.hostBQ := rfl
@[simp] theorem State.clr_msix : (s.clr f i).msix = s.msix := rfl
@[simp] theorem State.clr_lans : (s.clr f i).lans = s.lans := rfl
@[simp] theorem State.clr_lanTx : (s.clr f i).lanTx = s.lanTx := rfl
@[simp] theorem State.clr_lanRx : (s.clr f i).lanRx = s.lanRx := rfl
@[simp] theorem State.clr_lanDef : (s.clr f i).lanDef = s.lanDef := rfl
@[simp] theorem State.clr_lanLen : (s.clr f i).lanLen = s.lanLen := rfl
@[simp] theorem State.clr_bqCur : (s.clr f i).bqCur = s.bqCur := rfl
@[simp] theorem State.clr_timeLoadedAt : (s.clr f i).timeLoadedAt = s.timeLoadedAt := rfl
@[simp] theorem State.clr_systemTag : (s.clr f i).systemTag = s.systemTag := rfl
@[simp] theorem State.clr_frqs : (s.clr f i).frqs = s.frqs := rfl
@[simp] theorem State.clr_mon : (s.clr f i).mon = s.mon := rfl
@[simp] theorem State.clr_pnt : (s.clr f i).pnt = s.pnt := rfl
@[simp] theorem State.clr_pwr : (s.clr f i).pwr = s.pwr := rfl
@[simp] theorem State.clr_boot : (s.clr f i).boot = s.boot := rfl
@[simp] theorem State.clr_flash : (s.clr f i).flash = s.flash := rfl
@[simp] theorem State.clr_sram : (s.clr f i).sram = s.sram := rfl
@[simp] theorem State.clr_i2c : (s.clr f i).i2c = s.i2c := rfl
@[simp] theorem State.clr_clk : (s.clr f i).clk = s.clk := rfl

/-! ### State.orf -/

@[simp] theorem State.orf_pending : (s.orf f v i).pending = s.pending := rfl
@[simp] theorem State.orf_readData : (s.orf f v i).readData = s.readData := rfl
@[simp] theorem State.orf_readPoison : (s.orf f v i).readPoison = s.readPoison := rfl
@[simp] theorem State.orf_now : (s.orf f v i).now = s.now := rfl
@[simp] theorem State.orf_tick : (s.orf f v i).tick = s.tick := rfl
@[simp] theorem State.orf_fresh : (s.orf f v i).fresh = s.fresh := rfl
@[simp] theorem State.orf_xtalFail : (s.orf f v i).xtalFail = s.xtalFail := rfl
@[simp] theorem State.orf_epochDue : (s.orf f v i).epochDue = s.epochDue := rfl
@[simp] theorem State.orf_armVis : (s.orf f v i).armVis = s.armVis := rfl
@[simp] theorem State.orf_phaseNow : (s.orf f v i).phaseNow = s.phaseNow := rfl
@[simp] theorem State.orf_syncErrs : (s.orf f v i).syncErrs = s.syncErrs := rfl
@[simp] theorem State.orf_slipRun : (s.orf f v i).slipRun = s.slipRun := rfl
@[simp] theorem State.orf_lastGoodL : (s.orf f v i).lastGoodL = s.lastGoodL := rfl
@[simp] theorem State.orf_skew : (s.orf f v i).skew = s.skew := rfl
@[simp] theorem State.orf_syncOut : (s.orf f v i).syncOut = s.syncOut := rfl
@[simp] theorem State.orf_alarmLast : (s.orf f v i).alarmLast = s.alarmLast := rfl
@[simp] theorem State.orf_taintTick : (s.orf f v i).taintTick = s.taintTick := rfl
@[simp] theorem State.orf_shotT : (s.orf f v i).shotT = s.shotT := rfl
@[simp] theorem State.orf_harvest : (s.orf f v i).harvest = s.harvest := rfl
@[simp] theorem State.orf_hNext : (s.orf f v i).hNext = s.hNext := rfl
@[simp] theorem State.orf_hLast : (s.orf f v i).hLast = s.hLast := rfl
@[simp] theorem State.orf_nq : (s.orf f v i).nq = s.nq := rfl
@[simp] theorem State.orf_points : (s.orf f v i).points = s.points := rfl
@[simp] theorem State.orf_evhLatch : (s.orf f v i).evhLatch = s.evhLatch := rfl
@[simp] theorem State.orf_arrivals : (s.orf f v i).arrivals = s.arrivals := rfl
@[simp] theorem State.orf_chAny : (s.orf f v i).chAny = s.chAny := rfl
@[simp] theorem State.orf_chRt : (s.orf f v i).chRt = s.chRt := rfl
@[simp] theorem State.orf_deliver : (s.orf f v i).deliver = s.deliver := rfl
@[simp] theorem State.orf_rq : (s.orf f v i).rq = s.rq := rfl
@[simp] theorem State.orf_clock : (s.orf f v i).clock = s.clock := rfl
@[simp] theorem State.orf_bootT0 : (s.orf f v i).bootT0 = s.bootT0 := rfl
@[simp] theorem State.orf_bootUnwritten : (s.orf f v i).bootUnwritten = s.bootUnwritten := rfl
@[simp] theorem State.orf_gaps : (s.orf f v i).gaps = s.gaps := rfl
@[simp] theorem State.orf_mkOps : (s.orf f v i).mkOps = s.mkOps := rfl
@[simp] theorem State.orf_mkEnd : (s.orf f v i).mkEnd = s.mkEnd := rfl
@[simp] theorem State.orf_shotStart : (s.orf f v i).shotStart = s.shotStart := rfl
@[simp] theorem State.orf_dmap : (s.orf f v i).dmap = s.dmap := rfl
@[simp] theorem State.orf_decDecl : (s.orf f v i).decDecl = s.decDecl := rfl
@[simp] theorem State.orf_decVal : (s.orf f v i).decVal = s.decVal := rfl
@[simp] theorem State.orf_decPub : (s.orf f v i).decPub = s.decPub := rfl
@[simp] theorem State.orf_decTaint : (s.orf f v i).decTaint = s.decTaint := rfl
@[simp] theorem State.orf_pfuMem : (s.orf f v i).pfuMem = s.pfuMem := rfl
@[simp] theorem State.orf_pfuCnt : (s.orf f v i).pfuCnt = s.pfuCnt := rfl
@[simp] theorem State.orf_pfuPrev : (s.orf f v i).pfuPrev = s.pfuPrev := rfl
@[simp] theorem State.orf_pfuRec : (s.orf f v i).pfuRec = s.pfuRec := rfl
@[simp] theorem State.orf_pfuNext : (s.orf f v i).pfuNext = s.pfuNext := rfl
@[simp] theorem State.orf_rounds : (s.orf f v i).rounds = s.rounds := rfl
@[simp] theorem State.orf_hbm : (s.orf f v i).hbm = s.hbm := rfl
@[simp] theorem State.orf_chsProg : (s.orf f v i).chsProg = s.chsProg := rfl
@[simp] theorem State.orf_chsEnv : (s.orf f v i).chsEnv = s.chsEnv := rfl
@[simp] theorem State.orf_chisels : (s.orf f v i).chisels = s.chisels := rfl
@[simp] theorem State.orf_barArr : (s.orf f v i).barArr = s.barArr := rfl
@[simp] theorem State.orf_barSeen : (s.orf f v i).barSeen = s.barSeen := rfl
@[simp] theorem State.orf_tinSeen : (s.orf f v i).tinSeen = s.tinSeen := rfl
@[simp] theorem State.orf_playSeen : (s.orf f v i).playSeen = s.playSeen := rfl
@[simp] theorem State.orf_slots : (s.orf f v i).slots = s.slots := rfl
@[simp] theorem State.orf_stmFetch : (s.orf f v i).stmFetch = s.stmFetch := rfl
@[simp] theorem State.orf_stmBuf : (s.orf f v i).stmBuf = s.stmBuf := rfl
@[simp] theorem State.orf_frmInit : (s.orf f v i).frmInit = s.frmInit := rfl
@[simp] theorem State.orf_frmLive : (s.orf f v i).frmLive = s.frmLive := rfl
@[simp] theorem State.orf_frmOps : (s.orf f v i).frmOps = s.frmOps := rfl
@[simp] theorem State.orf_lines : (s.orf f v i).lines = s.lines := rfl
@[simp] theorem State.orf_biases : (s.orf f v i).biases = s.biases := rfl
@[simp] theorem State.orf_quiesce : (s.orf f v i).quiesce = s.quiesce := rfl
@[simp] theorem State.orf_quiesceEnd : (s.orf f v i).quiesceEnd = s.quiesceEnd := rfl
@[simp] theorem State.orf_patinas : (s.orf f v i).patinas = s.patinas := rfl
@[simp] theorem State.orf_zoneSets : (s.orf f v i).zoneSets = s.zoneSets := rfl
@[simp] theorem State.orf_ovrs : (s.orf f v i).ovrs = s.ovrs := rfl
@[simp] theorem State.orf_windows : (s.orf f v i).windows = s.windows := rfl
@[simp] theorem State.orf_kmem : (s.orf f v i).kmem = s.kmem := rfl
@[simp] theorem State.orf_calipers : (s.orf f v i).calipers = s.calipers := rfl
@[simp] theorem State.orf_clpProg : (s.orf f v i).clpProg = s.clpProg := rfl
@[simp] theorem State.orf_clpMem : (s.orf f v i).clpMem = s.clpMem := rfl
@[simp] theorem State.orf_clpInit : (s.orf f v i).clpInit = s.clpInit := rfl
@[simp] theorem State.orf_clpEmask : (s.orf f v i).clpEmask = s.clpEmask := rfl
@[simp] theorem State.orf_depWPrev : (s.orf f v i).depWPrev = s.depWPrev := rfl
@[simp] theorem State.orf_mbxQ : (s.orf f v i).mbxQ = s.mbxQ := rfl
@[simp] theorem State.orf_mbxRing : (s.orf f v i).mbxRing = s.mbxRing := rfl
@[simp] theorem State.orf_taskLast : (s.orf f v i).taskLast = s.taskLast := rfl
@[simp] theorem State.orf_evhSent : (s.orf f v i).evhSent = s.evhSent := rfl
@[simp] theorem State.orf_fired : (s.orf f v i).fired = s.fired := rfl
@[simp] theorem State.orf_pubSeen : (s.orf f v i).pubSeen = s.pubSeen := rfl
@[simp] theorem State.orf_caps : (s.orf f v i).caps = s.caps := rfl
@[simp] theorem State.orf_tinFifo : (s.orf f v i).tinFifo = s.tinFifo := rfl
@[simp] theorem State.orf_tinLast : (s.orf f v i).tinLast = s.tinLast := rfl
@[simp] theorem State.orf_tdcPos : (s.orf f v i).tdcPos = s.tdcPos := rfl
@[simp] theorem State.orf_tdcHits : (s.orf f v i).tdcHits = s.tdcHits := rfl
@[simp] theorem State.orf_tdcCal : (s.orf f v i).tdcCal = s.tdcCal := rfl
@[simp] theorem State.orf_ivls : (s.orf f v i).ivls = s.ivls := rfl
@[simp] theorem State.orf_arbs : (s.orf f v i).arbs = s.arbs := rfl
@[simp] theorem State.orf_hostA : (s.orf f v i).hostA = s.hostA := rfl
@[simp] theorem State.orf_hostB : (s.orf f v i).hostB = s.hostB := rfl
@[simp] theorem State.orf_hostBQ : (s.orf f v i).hostBQ = s.hostBQ := rfl
@[simp] theorem State.orf_msix : (s.orf f v i).msix = s.msix := rfl
@[simp] theorem State.orf_lans : (s.orf f v i).lans = s.lans := rfl
@[simp] theorem State.orf_lanTx : (s.orf f v i).lanTx = s.lanTx := rfl
@[simp] theorem State.orf_lanRx : (s.orf f v i).lanRx = s.lanRx := rfl
@[simp] theorem State.orf_lanDef : (s.orf f v i).lanDef = s.lanDef := rfl
@[simp] theorem State.orf_lanLen : (s.orf f v i).lanLen = s.lanLen := rfl
@[simp] theorem State.orf_bqCur : (s.orf f v i).bqCur = s.bqCur := rfl
@[simp] theorem State.orf_timeLoadedAt : (s.orf f v i).timeLoadedAt = s.timeLoadedAt := rfl
@[simp] theorem State.orf_systemTag : (s.orf f v i).systemTag = s.systemTag := rfl
@[simp] theorem State.orf_frqs : (s.orf f v i).frqs = s.frqs := rfl
@[simp] theorem State.orf_mon : (s.orf f v i).mon = s.mon := rfl
@[simp] theorem State.orf_pnt : (s.orf f v i).pnt = s.pnt := rfl
@[simp] theorem State.orf_pwr : (s.orf f v i).pwr = s.pwr := rfl
@[simp] theorem State.orf_boot : (s.orf f v i).boot = s.boot := rfl
@[simp] theorem State.orf_flash : (s.orf f v i).flash = s.flash := rfl
@[simp] theorem State.orf_sram : (s.orf f v i).sram = s.sram := rfl
@[simp] theorem State.orf_i2c : (s.orf f v i).i2c = s.i2c := rfl
@[simp] theorem State.orf_clk : (s.orf f v i).clk = s.clk := rfl

/-! ### State.free -/

@[simp] theorem State.free_fresh : s.free.2.fresh = s.fresh + 1 := rfl
@[simp] theorem State.free_pending : s.free.2.pending = s.pending := rfl
@[simp] theorem State.free_regs : s.free.2.regs = s.regs := rfl
@[simp] theorem State.free_readData : s.free.2.readData = s.readData := rfl
@[simp] theorem State.free_readPoison : s.free.2.readPoison = s.readPoison := rfl
@[simp] theorem State.free_now : s.free.2.now = s.now := rfl
@[simp] theorem State.free_tick : s.free.2.tick = s.tick := rfl
@[simp] theorem State.free_xtalFail : s.free.2.xtalFail = s.xtalFail := rfl
@[simp] theorem State.free_epochDue : s.free.2.epochDue = s.epochDue := rfl
@[simp] theorem State.free_armVis : s.free.2.armVis = s.armVis := rfl
@[simp] theorem State.free_phaseNow : s.free.2.phaseNow = s.phaseNow := rfl
@[simp] theorem State.free_syncErrs : s.free.2.syncErrs = s.syncErrs := rfl
@[simp] theorem State.free_slipRun : s.free.2.slipRun = s.slipRun := rfl
@[simp] theorem State.free_lastGoodL : s.free.2.lastGoodL = s.lastGoodL := rfl
@[simp] theorem State.free_skew : s.free.2.skew = s.skew := rfl
@[simp] theorem State.free_syncOut : s.free.2.syncOut = s.syncOut := rfl
@[simp] theorem State.free_alarmLast : s.free.2.alarmLast = s.alarmLast := rfl
@[simp] theorem State.free_taintTick : s.free.2.taintTick = s.taintTick := rfl
@[simp] theorem State.free_shotT : s.free.2.shotT = s.shotT := rfl
@[simp] theorem State.free_harvest : s.free.2.harvest = s.harvest := rfl
@[simp] theorem State.free_hNext : s.free.2.hNext = s.hNext := rfl
@[simp] theorem State.free_hLast : s.free.2.hLast = s.hLast := rfl
@[simp] theorem State.free_nq : s.free.2.nq = s.nq := rfl
@[simp] theorem State.free_points : s.free.2.points = s.points := rfl
@[simp] theorem State.free_evhLatch : s.free.2.evhLatch = s.evhLatch := rfl
@[simp] theorem State.free_arrivals : s.free.2.arrivals = s.arrivals := rfl
@[simp] theorem State.free_chAny : s.free.2.chAny = s.chAny := rfl
@[simp] theorem State.free_chRt : s.free.2.chRt = s.chRt := rfl
@[simp] theorem State.free_deliver : s.free.2.deliver = s.deliver := rfl
@[simp] theorem State.free_rq : s.free.2.rq = s.rq := rfl
@[simp] theorem State.free_clock : s.free.2.clock = s.clock := rfl
@[simp] theorem State.free_bootT0 : s.free.2.bootT0 = s.bootT0 := rfl
@[simp] theorem State.free_bootUnwritten : s.free.2.bootUnwritten = s.bootUnwritten := rfl
@[simp] theorem State.free_gaps : s.free.2.gaps = s.gaps := rfl
@[simp] theorem State.free_mkOps : s.free.2.mkOps = s.mkOps := rfl
@[simp] theorem State.free_mkEnd : s.free.2.mkEnd = s.mkEnd := rfl
@[simp] theorem State.free_shotStart : s.free.2.shotStart = s.shotStart := rfl
@[simp] theorem State.free_dmap : s.free.2.dmap = s.dmap := rfl
@[simp] theorem State.free_decDecl : s.free.2.decDecl = s.decDecl := rfl
@[simp] theorem State.free_decVal : s.free.2.decVal = s.decVal := rfl
@[simp] theorem State.free_decPub : s.free.2.decPub = s.decPub := rfl
@[simp] theorem State.free_decTaint : s.free.2.decTaint = s.decTaint := rfl
@[simp] theorem State.free_pfuMem : s.free.2.pfuMem = s.pfuMem := rfl
@[simp] theorem State.free_pfuCnt : s.free.2.pfuCnt = s.pfuCnt := rfl
@[simp] theorem State.free_pfuPrev : s.free.2.pfuPrev = s.pfuPrev := rfl
@[simp] theorem State.free_pfuRec : s.free.2.pfuRec = s.pfuRec := rfl
@[simp] theorem State.free_pfuNext : s.free.2.pfuNext = s.pfuNext := rfl
@[simp] theorem State.free_rounds : s.free.2.rounds = s.rounds := rfl
@[simp] theorem State.free_hbm : s.free.2.hbm = s.hbm := rfl
@[simp] theorem State.free_chsProg : s.free.2.chsProg = s.chsProg := rfl
@[simp] theorem State.free_chsEnv : s.free.2.chsEnv = s.chsEnv := rfl
@[simp] theorem State.free_chisels : s.free.2.chisels = s.chisels := rfl
@[simp] theorem State.free_barArr : s.free.2.barArr = s.barArr := rfl
@[simp] theorem State.free_barSeen : s.free.2.barSeen = s.barSeen := rfl
@[simp] theorem State.free_tinSeen : s.free.2.tinSeen = s.tinSeen := rfl
@[simp] theorem State.free_playSeen : s.free.2.playSeen = s.playSeen := rfl
@[simp] theorem State.free_slots : s.free.2.slots = s.slots := rfl
@[simp] theorem State.free_stmFetch : s.free.2.stmFetch = s.stmFetch := rfl
@[simp] theorem State.free_stmBuf : s.free.2.stmBuf = s.stmBuf := rfl
@[simp] theorem State.free_frmInit : s.free.2.frmInit = s.frmInit := rfl
@[simp] theorem State.free_frmLive : s.free.2.frmLive = s.frmLive := rfl
@[simp] theorem State.free_frmOps : s.free.2.frmOps = s.frmOps := rfl
@[simp] theorem State.free_lines : s.free.2.lines = s.lines := rfl
@[simp] theorem State.free_biases : s.free.2.biases = s.biases := rfl
@[simp] theorem State.free_quiesce : s.free.2.quiesce = s.quiesce := rfl
@[simp] theorem State.free_quiesceEnd : s.free.2.quiesceEnd = s.quiesceEnd := rfl
@[simp] theorem State.free_patinas : s.free.2.patinas = s.patinas := rfl
@[simp] theorem State.free_zoneSets : s.free.2.zoneSets = s.zoneSets := rfl
@[simp] theorem State.free_ovrs : s.free.2.ovrs = s.ovrs := rfl
@[simp] theorem State.free_windows : s.free.2.windows = s.windows := rfl
@[simp] theorem State.free_kmem : s.free.2.kmem = s.kmem := rfl
@[simp] theorem State.free_calipers : s.free.2.calipers = s.calipers := rfl
@[simp] theorem State.free_clpProg : s.free.2.clpProg = s.clpProg := rfl
@[simp] theorem State.free_clpMem : s.free.2.clpMem = s.clpMem := rfl
@[simp] theorem State.free_clpInit : s.free.2.clpInit = s.clpInit := rfl
@[simp] theorem State.free_clpEmask : s.free.2.clpEmask = s.clpEmask := rfl
@[simp] theorem State.free_depWPrev : s.free.2.depWPrev = s.depWPrev := rfl
@[simp] theorem State.free_mbxQ : s.free.2.mbxQ = s.mbxQ := rfl
@[simp] theorem State.free_mbxRing : s.free.2.mbxRing = s.mbxRing := rfl
@[simp] theorem State.free_taskLast : s.free.2.taskLast = s.taskLast := rfl
@[simp] theorem State.free_evhSent : s.free.2.evhSent = s.evhSent := rfl
@[simp] theorem State.free_fired : s.free.2.fired = s.fired := rfl
@[simp] theorem State.free_pubSeen : s.free.2.pubSeen = s.pubSeen := rfl
@[simp] theorem State.free_caps : s.free.2.caps = s.caps := rfl
@[simp] theorem State.free_tinFifo : s.free.2.tinFifo = s.tinFifo := rfl
@[simp] theorem State.free_tinLast : s.free.2.tinLast = s.tinLast := rfl
@[simp] theorem State.free_tdcPos : s.free.2.tdcPos = s.tdcPos := rfl
@[simp] theorem State.free_tdcHits : s.free.2.tdcHits = s.tdcHits := rfl
@[simp] theorem State.free_tdcCal : s.free.2.tdcCal = s.tdcCal := rfl
@[simp] theorem State.free_ivls : s.free.2.ivls = s.ivls := rfl
@[simp] theorem State.free_arbs : s.free.2.arbs = s.arbs := rfl
@[simp] theorem State.free_hostA : s.free.2.hostA = s.hostA := rfl
@[simp] theorem State.free_hostB : s.free.2.hostB = s.hostB := rfl
@[simp] theorem State.free_hostBQ : s.free.2.hostBQ = s.hostBQ := rfl
@[simp] theorem State.free_msix : s.free.2.msix = s.msix := rfl
@[simp] theorem State.free_lans : s.free.2.lans = s.lans := rfl
@[simp] theorem State.free_lanTx : s.free.2.lanTx = s.lanTx := rfl
@[simp] theorem State.free_lanRx : s.free.2.lanRx = s.lanRx := rfl
@[simp] theorem State.free_lanDef : s.free.2.lanDef = s.lanDef := rfl
@[simp] theorem State.free_lanLen : s.free.2.lanLen = s.lanLen := rfl
@[simp] theorem State.free_bqCur : s.free.2.bqCur = s.bqCur := rfl
@[simp] theorem State.free_timeLoadedAt : s.free.2.timeLoadedAt = s.timeLoadedAt := rfl
@[simp] theorem State.free_systemTag : s.free.2.systemTag = s.systemTag := rfl
@[simp] theorem State.free_frqs : s.free.2.frqs = s.frqs := rfl
@[simp] theorem State.free_mon : s.free.2.mon = s.mon := rfl
@[simp] theorem State.free_pnt : s.free.2.pnt = s.pnt := rfl
@[simp] theorem State.free_pwr : s.free.2.pwr = s.pwr := rfl
@[simp] theorem State.free_boot : s.free.2.boot = s.boot := rfl
@[simp] theorem State.free_flash : s.free.2.flash = s.flash := rfl
@[simp] theorem State.free_sram : s.free.2.sram = s.sram := rfl
@[simp] theorem State.free_i2c : s.free.2.i2c = s.i2c := rfl
@[simp] theorem State.free_cyc : s.free.2.cyc = s.cyc := rfl
@[simp] theorem State.free_clk : s.free.2.clk = s.clk := rfl

end Sys2Proof.Machine
end

