-- ==== Sys2Proof/Laws/Store.lean ====
section
/-! SUPPORT. What the sparse maps of the state do: a read after a write, and that a write keeps the canonical form. -/

set_option Elab.async false

namespace Sys2Proof.Machine

variable {α : Type}

/-! ### A read after a write -/

theorem sget_sput_self (d : α) (i : Nat) (v : α) : ∀ m : SMap α, sget d (sput i v m) i = v
  | [] => by simp [sput, sget]
  | (k, w) :: m => by
    have ih := sget_sput_self d i v m
    simp only [sput]
    split
    · simp [sget]
    · split <;> simp_all [sget]

theorem sget_sput_ne (d : α) {i j : Nat} (v : α) (h : j ≠ i) : ∀ m : SMap α, sget d (sput i v m) j = sget d m j
  | [] => by simp [sput, sget, h]
  | (k, w) :: m => by
    have ih := sget_sput_ne d v h m
    simp only [sput]
    split
    · simp [sget, h]
    · split
      · subst_vars; simp [sget, h]
      · simp [sget, ih]

theorem sget_sdel_self (d : α) (i : Nat) : ∀ m : SMap α, sget d (sdel i m) i = d
  | [] => rfl
  | (k, w) :: m => by
    have ih := sget_sdel_self d i m
    simp only [sdel]
    split <;> simp_all [sget]

theorem sget_sdel_ne (d : α) {i j : Nat} (h : j ≠ i) : ∀ m : SMap α, sget d (sdel i m) j = sget d m j
  | [] => rfl
  | (k, w) :: m => by
    have ih := sget_sdel_ne d h m
    simp only [sdel]
    split
    · subst_vars; simp [sget, h, ih]
    · simp [sget, ih]

/-- A read of the index just written gives the value written. -/
@[simp] theorem sget_sset_self [DecidableEq α] (d : α) (m : SMap α) (i : Nat) (v : α) : sget d (sset d m i v) i = v := by
  unfold sset
  split
  · subst_vars; exact sget_sdel_self v i m
  · exact sget_sput_self d i v m

/-- A write leaves every other index alone. -/
theorem sget_sset_ne [DecidableEq α] (d d' : α) (m : SMap α) {i j : Nat} (v : α) (h : j ≠ i) :
    sget d (sset d' m i v) j = sget d m j := by
  unfold sset
  split
  · exact sget_sdel_ne d h m
  · exact sget_sput_ne d v h m

/-! ### Membership -/

theorem mem_sput {i : Nat} {v : α} {p : Nat × α} : ∀ {m : SMap α}, p ∈ sput i v m → p = (i, v) ∨ p ∈ m
  | [], h => by simp_all [sput]
  | (k, w) :: m, h => by
    simp only [sput] at h
    split at h
    · simpa using h
    · split at h
      · rcases List.mem_cons.1 h with h | h
        · exact .inl h
        · exact .inr (List.mem_cons_of_mem _ h)
      · rcases List.mem_cons.1 h with h | h
        · exact .inr (h ▸ List.mem_cons_self)
        · rcases mem_sput h with h | h
          · exact .inl h
          · exact .inr (List.mem_cons_of_mem _ h)

theorem mem_sdel {i : Nat} {p : Nat × α} : ∀ {m : SMap α}, p ∈ sdel i m → p ∈ m
  | [], h => h
  | (k, w) :: m, h => by
    simp only [sdel] at h
    split at h
    · exact List.mem_cons_of_mem _ (mem_sdel h)
    · rcases List.mem_cons.1 h with h | h
      · exact h ▸ List.mem_cons_self
      · exact List.mem_cons_of_mem _ (mem_sdel h)

/-- What is listed after a write is what was written, and is not the default, or was listed before. -/
theorem mem_sset [DecidableEq α] {d : α} {m : SMap α} {i : Nat} {v : α} {p : Nat × α} (h : p ∈ sset d m i v) :
    (p = (i, v) ∧ v ≠ d) ∨ p ∈ m := by
  unfold sset at h
  split at h
  · exact .inr (mem_sdel h)
  · rcases mem_sput h with h | h
    · exact .inl ⟨h, ‹_›⟩
    · exact .inr h

/-! ### The canonical form -/

theorem srisingFrom_weaken {lo lo' : Nat} (h : lo' ≤ lo) : ∀ {m : SMap α}, srisingFrom lo m = true → srisingFrom lo' m = true
  | [], _ => rfl
  | (k, w) :: m, hm => by
    simp only [srisingFrom, Bool.and_eq_true, decide_eq_true_eq] at hm ⊢
    exact ⟨by omega, hm.2⟩

theorem srisingFrom_sdel (i : Nat) : ∀ {lo : Nat} {m : SMap α}, srisingFrom lo m = true → srisingFrom lo (sdel i m) = true
  | _, [], _ => rfl
  | lo, (k, w) :: m, hm => by
    simp only [srisingFrom, Bool.and_eq_true, decide_eq_true_eq] at hm
    simp only [sdel]
    split
    · exact srisingFrom_weaken (by omega) (srisingFrom_sdel i hm.2)
    · simp [srisingFrom, hm.1, srisingFrom_sdel i hm.2]

theorem srisingFrom_sput {i : Nat} (v : α) : ∀ {lo : Nat} {m : SMap α}, lo < i → srisingFrom lo m = true → srisingFrom lo (sput i v m) = true
  | _, [], h, _ => by simp [sput, srisingFrom, h]
  | lo, (k, w) :: m, h, hm => by
    simp only [srisingFrom, Bool.and_eq_true, decide_eq_true_eq] at hm
    simp only [sput]
    split
    · simp [srisingFrom, hm.2, *]
    · split
      · subst_vars; simp [srisingFrom, hm]
      · simp [srisingFrom, hm.1, srisingFrom_sput v (by omega : k < i) hm.2]

theorem srising_sdel (i : Nat) {m : SMap α} (h : srising m = true) : srising (sdel i m) = true := by
  cases m with
  | nil => rfl
  | cons p m =>
    obtain ⟨k, w⟩ := p
    simp only [sdel]
    split
    · have := srisingFrom_sdel i h
      cases hs : sdel i m with
      | nil => rfl
      | cons q m' => rw [hs] at this; simp_all [srising, srisingFrom]
    · exact srisingFrom_sdel i h

theorem srising_sput (i : Nat) (v : α) {m : SMap α} (h : srising m = true) : srising (sput i v m) = true := by
  cases m with
  | nil => rfl
  | cons p m =>
    obtain ⟨k, w⟩ := p
    simp only [sput]
    split
    · simp_all [srising, srisingFrom]
    · split
      · subst_vars; exact h
      · exact srisingFrom_sput v (by omega) h

theorem srising_sset [DecidableEq α] (d : α) (i : Nat) (v : α) {m : SMap α} (h : srising m = true) : srising (sset d m i v) = true := by
  unfold sset
  split
  · exact srising_sdel i h
  · exact srising_sput i v h

theorem srisingFrom_filter (f : Nat × α → Bool) : ∀ {lo : Nat} {m : SMap α}, srisingFrom lo m = true → srisingFrom lo (m.filter f) = true
  | _, [], _ => rfl
  | lo, (k, w) :: m, hm => by
    simp only [srisingFrom, Bool.and_eq_true, decide_eq_true_eq] at hm
    have ih := srisingFrom_filter f hm.2
    simp only [List.filter]
    split
    · simp [srisingFrom, hm.1, ih]
    · exact srisingFrom_weaken (by omega) ih

theorem srising_filter (f : Nat × α → Bool) {m : SMap α} (h : srising m = true) : srising (m.filter f) = true := by
  cases m with
  | nil => rfl
  | cons p m =>
    obtain ⟨k, w⟩ := p
    have := srisingFrom_filter f h
    simp only [List.filter]
    split
    · exact this
    · cases hs : m.filter f with
      | nil => rfl
      | cons q m' => rw [hs] at this; simp_all [srising, srisingFrom]

/-- A write keeps the canonical form. -/
theorem swf_sset [DecidableEq α] {d : α} {m : SMap α} (i : Nat) (v : α) (h : swf d m = true) : swf d (sset d m i v) = true := by
  simp only [swf, Bool.and_eq_true, List.all_eq_true, decide_eq_true_eq] at h ⊢
  refine ⟨srising_sset d i v h.1, fun p hp => ?_⟩
  rcases mem_sset hp with ⟨rfl, hv⟩ | hp
  · exact hv
  · exact h.2 p hp

/-- Forgetting entries keeps the canonical form. -/
theorem swf_filter [DecidableEq α] {d : α} {m : SMap α} (f : Nat × α → Bool) (h : swf d m = true) : swf d (m.filter f) = true := by
  simp only [swf, Bool.and_eq_true, List.all_eq_true, decide_eq_true_eq] at h ⊢
  exact ⟨srising_filter f h.1, fun p hp => h.2 p (List.mem_filter.1 hp).1⟩

/-! ### Equal maps are equal data -/

theorem sget_of_lt {d : α} : ∀ {lo j : Nat} {m : SMap α}, srisingFrom lo m = true → j ≤ lo → sget d m j = d
  | _, _, [], _, _ => rfl
  | lo, j, (k, w) :: m, h, hj => by
    simp only [srisingFrom, Bool.and_eq_true, decide_eq_true_eq] at h
    simp only [sget]
    rw [if_neg (by omega)]
    exact sget_of_lt h.2 (by omega)

end Sys2Proof.Machine
end

