-- ==== Sys2Proof/Laws/Regs.lean ====
section
/-! SUPPORT. What reading a register field after a register update gives. -/

set_option Elab.async false

namespace Sys2Proof.Machine

/-- Two fields of different numbers never share a key. -/
theorem fldKey_ne_of_id {f g : Fld} (i j : Nat) (h : f.id ≠ g.id) : fldKey f i ≠ fldKey g j := by
  unfold fldKey; omega

/-- Two instances of a field share a key only if their numbers agree modulo 2^22. -/
theorem fldKey_ne_of_index {f g : Fld} {i j : Nat} (h : i % 0x400000 ≠ j % 0x400000) : fldKey f i ≠ fldKey g j := by
  unfold fldKey; omega

/-- The number of the field that a key belongs to. -/
theorem fldKey_div (f : Fld) (i : Nat) : fldKey f i / 0x400000 = f.id := by
  unfold fldKey; omega

/-- A read of the field instance just written gives the value, cut to the field's width. -/
@[simp] theorem State.get_put_self (s : State) (f : Fld) (v i : Nat) : (s.put f v i).get f i = v % 2 ^ f.width := by
  simp [State.get, State.put]

/-- A write of one field leaves every field of another number alone. -/
theorem State.get_put_ne (s : State) {f g : Fld} (v i j : Nat) (h : f.id ≠ g.id) : (s.put g v j).get f i = s.get f i := by
  simp only [State.get, State.put]
  exact sget_sset_ne _ _ _ _ (fldKey_ne_of_id i j h)

/-- A write of one instance leaves every other instance alone. -/
theorem State.get_put_ne_index (s : State) {f g : Fld} (v : Nat) {i j : Nat} (h : i % 0x400000 ≠ j % 0x400000) :
    (s.put g v j).get f i = s.get f i := by
  simp only [State.get, State.put]
  exact sget_sset_ne _ _ _ _ (fldKey_ne_of_index h)

@[simp] theorem State.get_set_self (s : State) (f : Fld) (v i : Nat) : (s.set f v i).get f i = v % 2 ^ f.width := s.get_put_self f v i

theorem State.get_set_ne (s : State) {f g : Fld} (v i j : Nat) (h : f.id ≠ g.id) : (s.set g v j).get f i = s.get f i :=
  s.get_put_ne v i j h

theorem State.get_set_ne_index (s : State) {f g : Fld} (v : Nat) {i j : Nat} (h : i % 0x400000 ≠ j % 0x400000) :
    (s.set g v j).get f i = s.get f i := s.get_put_ne_index v h

@[simp] theorem State.get_inc_self (s : State) (f : Fld) (i n : Nat) :
    (s.inc f i n).get f i = min (s.get f i + n) (2 ^ f.width - 1) := by
  have : min (s.get f i + n) (2 ^ f.width - 1) < 2 ^ f.width :=
    lt_of_le_of_lt (min_le_right _ _) (Nat.sub_lt (Nat.two_pow_pos _) Nat.one_pos)
  simp [State.inc, Nat.mod_eq_of_lt this]

theorem State.get_inc_ne (s : State) {f g : Fld} (i j n : Nat) (h : f.id ≠ g.id) : (s.inc g j n).get f i = s.get f i :=
  s.get_set_ne _ _ _ h

theorem State.get_clr_ne (s : State) {f g : Fld} (i j : Nat) (h : f.id ≠ g.id) : (s.clr g j).get f i = s.get f i :=
  s.get_set_ne _ _ _ h

theorem State.get_orf_ne (s : State) {f g : Fld} (m i j : Nat) (h : f.id ≠ g.id) : (s.orf g m j).get f i = s.get f i :=
  s.get_put_ne _ _ _ h

/-- A one-bit field that has been set reads as true. -/
theorem State.flag_set_one (s : State) (f : Fld) (i : Nat) (h : 0 < f.width) : (s.set f 1 i).flag f i = true := by
  simp [State.flag, Nat.mod_eq_of_lt (Nat.one_lt_two_pow (Nat.pos_iff_ne_zero.1 h))]

end Sys2Proof.Machine
end

