-- ==== Sys2Proof/Laws/Within.lean ====
section
/-! SUPPORT. The relation that says once what an operation can do: `Within K s t` holds when a canonical `s` gives a canonical `t`, and nothing
differs but the register fields and the parts whose bits are set in the footprint `K` (field number `id` at bit `id`, part number k at bit
1000 + k). Every operation of the model has one such lemma, `<operation>_within`. -/

set_option Elab.async false

namespace Sys2Proof.Machine

/-- The bit of a part in a footprint. -/
def Part.bit (p : Part) : Nat := 1000 + p.ctorIdx

/-- `t` differs from `s` only within the footprint `K`, and is canonical if `s` is. -/
structure Within (K : Nat) (s t : State) : Prop where
  canon : Canon s → Canon t
  regs : ∀ f i, f.id < fldCount → K.testBit f.id = false → t.get f i = s.get f i
  parts : ∀ p : Part, K.testBit p.bit = false → p.same s t

/-- The footprint of a list of fields and a list of parts. -/
def footprint (fs : List Fld) (ps : List Part) : Nat :=
  ps.foldr (fun p k => 2 ^ p.bit ||| k) (fs.foldr (fun f k => 2 ^ f.id ||| k) 0)

theorem Part.same_refl (p : Part) (s : State) : p.same s s := by cases p <;> rfl

theorem Part.same_trans {p : Part} {s t u : State} (h : p.same s t) (h' : p.same t u) : p.same s u := by
  cases p <;> exact Eq.trans h' h

theorem Within.refl (K : Nat) (s : State) : Within K s s := ⟨id, fun _ _ _ _ => rfl, fun p _ => p.same_refl s⟩

theorem Within.trans {K : Nat} {s t u : State} (h : Within K s t) (h' : Within K t u) : Within K s u :=
  ⟨fun c => h'.canon (h.canon c), fun f i hn hf => (h'.regs f i hn hf).trans (h.regs f i hn hf), fun p hp => Part.same_trans (h.parts p hp) (h'.parts p hp)⟩

theorem Within.mono {K L : Nat} {s t : State} (h : Within L s t) (hk : L &&& K = L) : Within K s t := by
  have sub : ∀ n, K.testBit n = false → L.testBit n = false := fun n hn => by
    rw [← hk, Nat.testBit_and, hn, Bool.and_false]
  exact ⟨h.canon, fun f i hn hf => h.regs f i hn (sub _ hf), fun p hp => h.parts p (sub _ hp)⟩

/-- A footprint inside another that is inside a third. -/
theorem mask_trans {K L M : Nat} (h : L &&& M = L) (hk : M &&& K = M) : L &&& K = L := by
  calc L &&& K = L &&& M &&& K := by rw [h]
    _ = L := by rw [Nat.and_assoc, hk, h]

/-- One more operation of a smaller footprint. -/
theorem Within.step {K L : Nat} {s t u : State} (h : Within K s t) (h' : Within L t u) (hk : L &&& K = L) : Within K s u :=
  h.trans (h'.mono hk)

theorem Within.ite {K : Nat} {s t u : State} {c : Prop} [Decidable c] (h : Within K s t) (h' : Within K s u) : Within K s (if c then t else u) := by
  split <;> assumption

theorem Within.when {K : Nat} {s t : State} {c : Bool} {f : State → State} (h : Within K s t) (hf : ∀ t, Within K t (f t)) :
    Within K s (t.when c f) := by
  unfold State.when; split
  · exact h.trans (hf t)
  · exact h

theorem Within.forAll_mem {α : Type} {K : Nat} {s t : State} {f : State → α → State} (l : List α) (h : Within K s t)
    (hf : ∀ t, ∀ a ∈ l, Within K t (f t a)) : Within K s (forAll l t f) := by
  unfold Sys2Proof.Machine.forAll
  induction l generalizing t with
  | nil => exact h
  | cons a l ih => exact ih (h.trans (hf t a List.mem_cons_self)) fun t b hb => hf t b (List.mem_cons_of_mem _ hb)

theorem Within.forAll {α : Type} {K : Nat} {s t : State} {f : State → α → State} (l : List α) (h : Within K s t)
    (hf : ∀ t a, Within K t (f t a)) : Within K s (forAll l t f) :=
  Within.forAll_mem l h fun t a _ => hf t a

theorem Within.foldlSnd {α β : Type} {K : Nat} {s : State} {f : β × State → α → β × State} (l : List α) {p : β × State} (h : Within K s p.2)
    (hf : ∀ p a, Within K p.2 (f p a).2) : Within K s (l.foldl f p).2 := by
  induction l generalizing p with
  | nil => exact h
  | cons a l ih => exact ih (h.trans (hf p a))

/-- The state that a pair holds, taken out of it. -/
theorem Within.ofSnd {α : Type} {K : Nat} {s t : State} {p : α × State} {v : α} (h : Within K s p.2) (e : p = (v, t)) : Within K s t := by
  subst e; exact h

/-- The state that a triple holds, taken out of it. -/
theorem Within.ofSnd2 {α β : Type} {K : Nat} {s t : State} {p : α × β × State} {v : α} {w : β} (h : Within K s p.2.2) (e : p = (v, w, t)) :
    Within K s t := by
  subst e; exact h

/-- The state that an optional state holds. -/
theorem Within.ofSome {K : Nat} {s t : State} {o : Option State} (h : ∀ t, o = some t → Within K s t) (e : o = some t) : Within K s t := h t e

theorem Within.getD {K : Nat} {s d : State} {o : Option State} (h : Within K s d) (ho : ∀ t, o = some t → Within K s t) :
    Within K s (o.getD d) := by
  cases o with
  | none => exact h
  | some t => exact ho t rfl

/-- A meaning answers a next state, within a footprint. -/
def Completes (K : Nat) (s : State) (o : Host.Outcome State Fault Refusal) : Prop := ∃ t, o = .next t ∧ Within K s t

theorem Completes.next {K : Nat} {s t : State} (h : Within K s t) : Completes K s (.next t) := ⟨t, rfl, h⟩

theorem Completes.ite {K : Nat} {s : State} {c : Prop} [Decidable c] {o o' : Host.Outcome State Fault Refusal} (h : Completes K s o)
    (h' : Completes K s o') : Completes K s (if c then o else o') := by
  split <;> assumption

/-! ### The widths of the register fields -/

/-- The widths of the fields of W0, in the order of their numbers. -/
def fldWidths : List Nat :=
    [16, 8, 8, 8, 6, 6, 6, 6, 8, 8, 4, 4, 4, 4, 32, 16, 8, 32, 32, 1, 12, 8, 3, 32, 32, 32, 32, 8, 7, 32, 5, 8, 8, 16, 2, 32, 32, 32, 1, 12, 8, 5, 16, 2, 12, 32, 32, 16] ++
    [32, 32, 1, 3, 32, 32, 1, 1, 5, 5, 3, 1, 8, 8, 8, 2, 20, 1, 1, 1, 1, 8, 1, 1, 4, 2, 2, 1, 4, 4, 20, 4, 17, 32, 32, 32, 32, 16, 16, 32, 32, 9, 10, 32, 32, 32, 32, 1] ++
    [1, 1, 1, 16, 16, 32, 1, 1, 12, 8, 2, 32, 4, 2, 8, 1, 2, 2, 1, 8, 32, 1, 1, 1, 1, 1, 1, 1, 1, 1, 1, 1, 1, 1, 1, 1, 1, 1, 1, 1, 5, 1, 1, 1, 2, 1, 12, 20] ++
    [11, 16, 16, 11, 1, 1, 4, 16, 11, 8, 32, 32, 1, 32, 24, 8, 32, 16, 32, 32, 17, 1, 1, 1, 9, 16, 32, 1, 9, 1, 8, 1, 16, 1, 1, 1, 9, 1, 1, 16, 36, 36, 1, 1, 1, 1, 1, 8] ++
    [4, 1, 1, 4, 1, 1, 16, 8, 1, 8, 8, 16, 32, 16, 1, 6, 6, 1, 32, 1, 1, 1, 7, 7, 32, 32, 32, 32, 32, 32, 32, 32, 4, 8, 16, 16, 1, 4, 5, 11, 4, 32, 1, 1, 8, 3, 32, 1] ++
    [1, 4, 4, 10, 20, 4, 1, 5, 32, 32, 1, 3, 1, 1, 2, 3, 1, 1, 1, 1, 1, 4, 4, 1, 1, 1, 1, 1, 1, 8, 16, 32, 13, 16, 1, 5, 12, 32, 32, 32, 32, 32, 32, 32, 32, 8, 8, 32] ++
    [4, 4, 4, 12, 20, 4, 1, 4, 32, 32, 16, 1, 1, 2, 4, 12, 12, 20, 3, 1, 8, 4, 12, 12, 1, 4, 12, 1, 7, 4, 2, 12, 16, 16, 6, 7, 32, 32, 32, 32, 1, 1, 6, 20, 1, 2, 1, 1] ++
    [16, 1, 4, 10, 16, 16, 1, 1, 8, 16, 2, 4, 10, 7, 15, 16, 1, 1, 12, 16, 1, 1, 1, 5, 29, 1, 5, 8, 1, 8, 3, 3, 1, 1, 3, 7, 1, 1, 1, 32, 32, 32, 32, 32, 8, 2, 1, 13] ++
    [32, 1, 1, 1, 1, 32, 32, 32, 17, 1, 16, 8, 6, 1, 1, 1, 3, 1, 20, 32, 1, 2, 2, 3, 9, 11, 21, 22, 24, 20, 4, 5, 16, 32, 32, 3, 1, 1, 1, 1, 32, 32, 32, 32, 32, 1, 2, 5] ++
    [32, 32, 3, 2, 1, 1, 11, 32, 2, 2, 1, 12, 16, 16, 1, 11, 1, 1, 32, 32, 36, 1, 2, 4, 5, 5, 32, 9, 1, 1, 1, 1, 1, 4, 32, 17, 32, 16, 1, 2, 4, 5, 9, 32, 1, 1, 1, 1] ++
    [1, 21, 32, 32, 32, 32, 32, 32, 32, 1, 6, 1, 1, 1, 6, 1, 6, 9, 11, 21, 1, 1, 1, 1, 1, 7, 11, 11, 15, 1, 3, 1, 1, 1, 8, 15, 8, 32, 32, 32, 16, 2, 1, 18, 36, 36, 24, 2] ++
    [1, 1, 1, 10, 16, 32, 32, 32, 1, 1, 11, 10, 20, 4, 5, 32, 32, 32, 1, 1, 1, 32, 32, 32, 32, 32, 16, 1, 1, 1, 1, 16, 8, 8, 10, 10, 1, 1, 1, 1, 7, 5, 32, 1, 2, 1, 11, 16] ++
    [1, 11, 1, 32, 16, 32, 32, 32, 20, 3, 20, 20, 3, 20, 3, 20, 2, 8, 1, 1, 1, 1, 1, 1, 3, 1, 1, 17, 17, 32, 32, 20, 20, 32, 32, 32, 1, 1, 1, 2, 1, 1, 1, 1, 1, 1, 1, 1] ++
    [32, 32, 32, 32, 32, 8, 1, 4, 12, 36, 9, 16, 9, 16, 12, 8, 18, 32, 16, 32, 2, 3, 18, 36, 1, 1, 1, 1, 32, 36, 14, 2, 3, 1, 1, 1, 1, 1, 8, 14, 8, 32, 16, 16, 14, 2, 4, 2] ++
    [8, 16, 16, 14, 2, 1, 16, 36, 36, 32, 16, 36, 32, 32, 32, 32]

theorem fldWidths_eq : (allRegs.flatMap (·.flds)).map (·.width) = fldWidths := by decide +kernel

theorem fldIds_eq : (allRegs.flatMap (·.flds)).map (·.id) = List.range fldCount := by decide +kernel

/-- The field is one of W0: its number and its width agree with its heading. -/
abbrev Fits (f : Fld) : Prop := fldWidths[f.id]? = some f.width

theorem Fits.width {f : Fld} (h : Fits f) : fldWidth f.id = f.width := by
  unfold fldWidth
  rw [← List.getElem?_map, fldWidths_eq, h]; rfl

/-- Every field of W0 fits. -/
theorem fits_of_mem {f : Fld} (h : f ∈ allRegs.flatMap (·.flds)) : Fits f := by
  obtain ⟨n, hn⟩ := List.mem_iff_getElem?.1 h
  have hl := congrArg (·[n]?) fldIds_eq
  simp only [List.getElem?_map, hn, Option.map_some] at hl
  have hid : n = f.id := by
    rcases (List.getElem?_eq_some_iff.1 hl.symm) with ⟨_, e⟩
    simpa using e
  show fldWidths[f.id]? = _
  rw [← fldWidths_eq, List.getElem?_map, ← hid, hn]; rfl

/-! ### Register updates -/

theorem Canon.put {s : State} (hs : Canon s) (f : Fld) (v i : Nat) (h : Fits f) : Canon (s.put f v i) := by
  have hf := h.width
  refine ⟨⟨srising_sset _ _ _ hs.1.1, fun p hp => ?_⟩, hs.2⟩
  rcases mem_sset hp with ⟨rfl, -⟩ | hp
  · simp only [fldKey_div, hf]
    exact Nat.mod_lt _ (Nat.two_pow_pos _)
  · exact hs.1.2 p hp

theorem testBit_two_pow_false {m n : Nat} (h : (2 ^ m).testBit n = false) : n ≠ m := fun e => by
  subst e; simp [Nat.testBit_two_pow_self] at h

theorem Canon.set {s : State} (hs : Canon s) (f : Fld) (v i : Nat) (h : Fits f) : Canon (s.set f v i) := hs.put f v i h

theorem put_within (s : State) {f : Fld} (v i : Nat) (hf : Fits f) : Within (2 ^ f.id) s (s.put f v i) :=
  ⟨fun c => c.put f v i hf, fun _ _ _ h => s.get_put_ne _ _ _ (testBit_two_pow_false h), fun p _ => by cases p <;> rfl⟩

theorem set_within (s : State) {f : Fld} (v i : Nat) (hf : Fits f) : Within (2 ^ f.id) s (s.set f v i) :=
  ⟨fun c => c.set f v i hf, fun _ _ _ h => s.get_set_ne _ _ _ (testBit_two_pow_false h), fun p _ => by cases p <;> rfl⟩

theorem inc_within (s : State) {f : Fld} (i n : Nat) (hf : Fits f) : Within (2 ^ f.id) s (s.inc f i n) := set_within s _ _ hf

theorem clr_within (s : State) {f : Fld} (i : Nat) (hf : Fits f) : Within (2 ^ f.id) s (s.clr f i) := set_within s _ _ hf

theorem hwClear_within (s : State) {f : Fld} (i : Nat) (hf : Fits f) : Within (2 ^ f.id) s (s.hwClear f i) := by
  unfold State.hwClear
  exact Within.ite (put_within s _ _ hf) (Within.refl _ _)

theorem orf_within (s : State) {f : Fld} (m i : Nat) (hf : Fits f) : Within (2 ^ f.id) s (s.orf f m i) :=
  ⟨fun c => c.put f _ i hf, fun _ _ _ h => s.get_put_ne _ _ _ (testBit_two_pow_false h), fun p _ => by cases p <;> rfl⟩

/-- The footprint of forgetting every register field whose number does not satisfy `keep`. -/
def fpLost (keep : Nat → Bool) : Nat := ((List.range fldCount).filter fun n => !keep n).foldr (fun n k => 2 ^ n ||| k) 0

theorem testBit_fpLost {keep : Nat → Bool} {n : Nat} (h : n < fldCount) (hk : keep n = false) : (fpLost keep).testBit n = true := by
  have : ∀ l : List Nat, n ∈ l → (l.foldr (fun n k => 2 ^ n ||| k) 0).testBit n = true := fun l hl => by
    induction l with
    | nil => cases hl
    | cons a l ih =>
      simp only [List.foldr_cons, Nat.testBit_or, Bool.or_eq_true]
      rcases List.mem_cons.1 hl with rfl | hl
      · exact .inl Nat.testBit_two_pow_self
      · exact .inr (ih hl)
  exact this _ (List.mem_filter.2 ⟨List.mem_range.2 h, by simp [hk]⟩)

theorem sget_filter {α : Type} (d : α) (f : Nat × α → Bool) (i : Nat) (hf : ∀ v, f (i, v) = true) : ∀ m : SMap α, sget d (m.filter f) i = sget d m i
  | [] => rfl
  | (k, w) :: m => by
    have ih := sget_filter d f i hf m
    by_cases hk : i = k
    · subst hk; simp [List.filter, hf, sget]
    · simp only [List.filter]
      split <;> simp [sget, hk, ih]

/-- Forgetting register fields. -/
theorem regsFilter_within (s : State) (keep : Nat → Bool) : Within (fpLost keep) s { s with regs := s.regs.filter fun p => keep (p.1 / 0x400000) } := by
  refine ⟨fun c => ⟨⟨srising_filter _ c.1.1, fun p hp => c.1.2 p (List.mem_filter.1 hp).1⟩, c.2⟩, fun f i hn hf => ?_, fun p _ => by cases p <;> rfl⟩
  have hk : keep f.id = true := by
    cases h : keep f.id with
    | true => rfl
    | false => rw [testBit_fpLost hn h] at hf; cases hf
  exact sget_filter _ _ _ (fun v => by simp only [fldKey_div, hk]) s.regs

/-! ### Updates of one part -/

theorem pending_within (s : State) (x : List Instr) : Within (2 ^ Part.pending.bit) s { s with pending := x } :=
  ⟨id, fun _ _ _ _ => rfl, fun p hp => by cases p <;> first | with_reducible rfl | exact absurd rfl (testBit_two_pow_false hp)⟩

theorem readData_within (s : State) (x : Nat) : Within (2 ^ Part.readData.bit) s { s with readData := x } :=
  ⟨id, fun _ _ _ _ => rfl, fun p hp => by cases p <;> first | with_reducible rfl | exact absurd rfl (testBit_two_pow_false hp)⟩

theorem readPoison_within (s : State) (x : Bool) : Within (2 ^ Part.readPoison.bit) s { s with readPoison := x } :=
  ⟨id, fun _ _ _ _ => rfl, fun p hp => by cases p <;> first | with_reducible rfl | exact absurd rfl (testBit_two_pow_false hp)⟩

theorem now_within (s : State) (x : Nat) : Within (2 ^ Part.now.bit) s { s with now := x } :=
  ⟨id, fun _ _ _ _ => rfl, fun p hp => by cases p <;> first | with_reducible rfl | exact absurd rfl (testBit_two_pow_false hp)⟩

theorem tick_within (s : State) (x : Nat) : Within (2 ^ Part.tick.bit) s { s with tick := x } :=
  ⟨id, fun _ _ _ _ => rfl, fun p hp => by cases p <;> first | with_reducible rfl | exact absurd rfl (testBit_two_pow_false hp)⟩

theorem fresh_within (s : State) (x : Nat) : Within (2 ^ Part.fresh.bit) s { s with fresh := x } :=
  ⟨id, fun _ _ _ _ => rfl, fun p hp => by cases p <;> first | with_reducible rfl | exact absurd rfl (testBit_two_pow_false hp)⟩

theorem xtalFail_within (s : State) (x : Bool) : Within (2 ^ Part.xtalFail.bit) s { s with xtalFail := x } :=
  ⟨id, fun _ _ _ _ => rfl, fun p hp => by cases p <;> first | with_reducible rfl | exact absurd rfl (testBit_two_pow_false hp)⟩

theorem epochDue_within (s : State) (x : Bool) : Within (2 ^ Part.epochDue.bit) s { s with epochDue := x } :=
  ⟨id, fun _ _ _ _ => rfl, fun p hp => by cases p <;> first | with_reducible rfl | exact absurd rfl (testBit_two_pow_false hp)⟩

theorem armVis_within (s : State) (x : Nat) : Within (2 ^ Part.armVis.bit) s { s with armVis := x } :=
  ⟨id, fun _ _ _ _ => rfl, fun p hp => by cases p <;> first | with_reducible rfl | exact absurd rfl (testBit_two_pow_false hp)⟩

theorem phaseNow_within (s : State) (x : Nat) : Within (2 ^ Part.phaseNow.bit) s { s with phaseNow := x } :=
  ⟨id, fun _ _ _ _ => rfl, fun p hp => by cases p <;> first | with_reducible rfl | exact absurd rfl (testBit_two_pow_false hp)⟩

theorem syncErrs_within (s : State) (x : List Int) : Within (2 ^ Part.syncErrs.bit) s { s with syncErrs := x } :=
  ⟨id, fun _ _ _ _ => rfl, fun p hp => by cases p <;> first | with_reducible rfl | exact absurd rfl (testBit_two_pow_false hp)⟩

theorem slipRun_within (s : State) (x : Nat) : Within (2 ^ Part.slipRun.bit) s { s with slipRun := x } :=
  ⟨id, fun _ _ _ _ => rfl, fun p hp => by cases p <;> first | with_reducible rfl | exact absurd rfl (testBit_two_pow_false hp)⟩

theorem lastGoodL_within (s : State) (x : Nat) : Within (2 ^ Part.lastGoodL.bit) s { s with lastGoodL := x } :=
  ⟨id, fun _ _ _ _ => rfl, fun p hp => by cases p <;> first | with_reducible rfl | exact absurd rfl (testBit_two_pow_false hp)⟩

theorem skew_within (s : State) (x : Skew) : Within (2 ^ Part.skew.bit) s { s with skew := x } :=
  ⟨id, fun _ _ _ _ => rfl, fun p hp => by cases p <;> first | with_reducible rfl | exact absurd rfl (testBit_two_pow_false hp)⟩

theorem syncOut_within (s : State) (x : Option (Nat × Bool)) : Within (2 ^ Part.syncOut.bit) s { s with syncOut := x } :=
  ⟨id, fun _ _ _ _ => rfl, fun p hp => by cases p <;> first | with_reducible rfl | exact absurd rfl (testBit_two_pow_false hp)⟩

theorem alarmLast_within (s : State) (x : Nat) : Within (2 ^ Part.alarmLast.bit) s { s with alarmLast := x } :=
  ⟨id, fun _ _ _ _ => rfl, fun p hp => by cases p <;> first | with_reducible rfl | exact absurd rfl (testBit_two_pow_false hp)⟩

theorem taintTick_within (s : State) (x : Nat) : Within (2 ^ Part.taintTick.bit) s { s with taintTick := x } :=
  ⟨id, fun _ _ _ _ => rfl, fun p hp => by cases p <;> first | with_reducible rfl | exact absurd rfl (testBit_two_pow_false hp)⟩

theorem shotT_within (s : State) (x : SMap Taint) : Within (2 ^ Part.shotT.bit) s { s with shotT := x } :=
  ⟨id, fun _ _ _ _ => rfl, fun p hp => by cases p <;> first | with_reducible rfl | exact absurd rfl (testBit_two_pow_false hp)⟩

theorem harvest_within (s : State) (x : SMap (List HEntry)) : Within (2 ^ Part.harvest.bit) s { s with harvest := x } :=
  ⟨id, fun _ _ _ _ => rfl, fun p hp => by cases p <;> first | with_reducible rfl | exact absurd rfl (testBit_two_pow_false hp)⟩

theorem hNext_within (s : State) (x : SMap Nat) : Within (2 ^ Part.hNext.bit) s { s with hNext := x } :=
  ⟨id, fun _ _ _ _ => rfl, fun p hp => by cases p <;> first | with_reducible rfl | exact absurd rfl (testBit_two_pow_false hp)⟩

theorem hLast_within (s : State) (x : SMap Nat) : Within (2 ^ Part.hLast.bit) s { s with hLast := x } :=
  ⟨id, fun _ _ _ _ => rfl, fun p hp => by cases p <;> first | with_reducible rfl | exact absurd rfl (testBit_two_pow_false hp)⟩

theorem nq_within (s : State) (x : SMap Nat) : Within (2 ^ Part.nq.bit) s { s with nq := x } :=
  ⟨id, fun _ _ _ _ => rfl, fun p hp => by cases p <;> first | with_reducible rfl | exact absurd rfl (testBit_two_pow_false hp)⟩

theorem points_within (s : State) (x : SMap (Option HPoint)) : Within (2 ^ Part.points.bit) s { s with points := x } :=
  ⟨id, fun _ _ _ _ => rfl, fun p hp => by cases p <;> first | with_reducible rfl | exact absurd rfl (testBit_two_pow_false hp)⟩

theorem evhLatch_within (s : State) (x : SMap Bool) : Within (2 ^ Part.evhLatch.bit) s { s with evhLatch := x } :=
  ⟨id, fun _ _ _ _ => rfl, fun p hp => by cases p <;> first | with_reducible rfl | exact absurd rfl (testBit_two_pow_false hp)⟩

theorem arrivals_within (s : State) (x : SMap (List Nat)) : Within (2 ^ Part.arrivals.bit) s { s with arrivals := x } :=
  ⟨id, fun _ _ _ _ => rfl, fun p hp => by cases p <;> first | with_reducible rfl | exact absurd rfl (testBit_two_pow_false hp)⟩

theorem chAny_within (s : State) (x : SMap Nat) : Within (2 ^ Part.chAny.bit) s { s with chAny := x } :=
  ⟨id, fun _ _ _ _ => rfl, fun p hp => by cases p <;> first | with_reducible rfl | exact absurd rfl (testBit_two_pow_false hp)⟩

theorem chRt_within (s : State) (x : SMap Nat) : Within (2 ^ Part.chRt.bit) s { s with chRt := x } :=
  ⟨id, fun _ _ _ _ => rfl, fun p hp => by cases p <;> first | with_reducible rfl | exact absurd rfl (testBit_two_pow_false hp)⟩

theorem deliver_within (s : State) (x : List Firing) : Within (2 ^ Part.deliver.bit) s { s with deliver := x } :=
  ⟨id, fun _ _ _ _ => rfl, fun p hp => by cases p <;> first | with_reducible rfl | exact absurd rfl (testBit_two_pow_false hp)⟩

theorem rq_within (s : State) (x : SMap RQueue) : Within (2 ^ Part.rq.bit) s { s with rq := x } :=
  ⟨id, fun _ _ _ _ => rfl, fun p hp => by cases p <;> first | with_reducible rfl | exact absurd rfl (testBit_two_pow_false hp)⟩

theorem clock_within (s : State) (x : Nat) : Within (2 ^ Part.clock.bit) s { s with clock := x } :=
  ⟨id, fun _ _ _ _ => rfl, fun p hp => by cases p <;> first | with_reducible rfl | exact absurd rfl (testBit_two_pow_false hp)⟩

theorem bootT0_within (s : State) (x : Nat) : Within (2 ^ Part.bootT0.bit) s { s with bootT0 := x } :=
  ⟨id, fun _ _ _ _ => rfl, fun p hp => by cases p <;> first | with_reducible rfl | exact absurd rfl (testBit_two_pow_false hp)⟩

theorem bootUnwritten_within (s : State) (x : Nat) : Within (2 ^ Part.bootUnwritten.bit) s { s with bootUnwritten := x } :=
  ⟨id, fun _ _ _ _ => rfl, fun p hp => by cases p <;> first | with_reducible rfl | exact absurd rfl (testBit_two_pow_false hp)⟩

theorem gaps_within (s : State) (x : List Gap) : Within (2 ^ Part.gaps.bit) s { s with gaps := x } :=
  ⟨id, fun _ _ _ _ => rfl, fun p hp => by cases p <;> first | with_reducible rfl | exact absurd rfl (testBit_two_pow_false hp)⟩

theorem mkOps_within (s : State) (x : List MkOp) : Within (2 ^ Part.mkOps.bit) s { s with mkOps := x } :=
  ⟨id, fun _ _ _ _ => rfl, fun p hp => by cases p <;> first | with_reducible rfl | exact absurd rfl (testBit_two_pow_false hp)⟩

theorem mkEnd_within (s : State) (x : SMap Nat) : Within (2 ^ Part.mkEnd.bit) s { s with mkEnd := x } :=
  ⟨id, fun _ _ _ _ => rfl, fun p hp => by cases p <;> first | with_reducible rfl | exact absurd rfl (testBit_two_pow_false hp)⟩

theorem shotStart_within (s : State) (x : Nat) : Within (2 ^ Part.shotStart.bit) s { s with shotStart := x } :=
  ⟨id, fun _ _ _ _ => rfl, fun p hp => by cases p <;> first | with_reducible rfl | exact absurd rfl (testBit_two_pow_false hp)⟩

theorem dmap_within (s : State) (x : SMap Nat) : Within (2 ^ Part.dmap.bit) s { s with dmap := x } :=
  ⟨id, fun _ _ _ _ => rfl, fun p hp => by cases p <;> first | with_reducible rfl | exact absurd rfl (testBit_two_pow_false hp)⟩

theorem decDecl_within (s : State) (x : SMap Nat) : Within (2 ^ Part.decDecl.bit) s { s with decDecl := x } :=
  ⟨id, fun _ _ _ _ => rfl, fun p hp => by cases p <;> first | with_reducible rfl | exact absurd rfl (testBit_two_pow_false hp)⟩

theorem decVal_within (s : State) (x : SMap Bool) : Within (2 ^ Part.decVal.bit) s { s with decVal := x } :=
  ⟨id, fun _ _ _ _ => rfl, fun p hp => by cases p <;> first | with_reducible rfl | exact absurd rfl (testBit_two_pow_false hp)⟩

theorem decPub_within (s : State) (x : SMap Bool) : Within (2 ^ Part.decPub.bit) s { s with decPub := x } :=
  ⟨id, fun _ _ _ _ => rfl, fun p hp => by cases p <;> first | with_reducible rfl | exact absurd rfl (testBit_two_pow_false hp)⟩

theorem decTaint_within (s : State) (x : SMap Taint) : Within (2 ^ Part.decTaint.bit) s { s with decTaint := x } :=
  ⟨id, fun _ _ _ _ => rfl, fun p hp => by cases p <;> first | with_reducible rfl | exact absurd rfl (testBit_two_pow_false hp)⟩

theorem pfuMem_within (s : State) (x : SMap Nat) : Within (2 ^ Part.pfuMem.bit) s { s with pfuMem := x } :=
  ⟨id, fun _ _ _ _ => rfl, fun p hp => by cases p <;> first | with_reducible rfl | exact absurd rfl (testBit_two_pow_false hp)⟩

theorem pfuCnt_within (s : State) (x : List Nat) : Within (2 ^ Part.pfuCnt.bit) s { s with pfuCnt := x } :=
  ⟨id, fun _ _ _ _ => rfl, fun p hp => by cases p <;> first | with_reducible rfl | exact absurd rfl (testBit_two_pow_false hp)⟩

theorem pfuPrev_within (s : State) (x : SMap Nat) : Within (2 ^ Part.pfuPrev.bit) s { s with pfuPrev := x } :=
  ⟨id, fun _ _ _ _ => rfl, fun p hp => by cases p <;> first | with_reducible rfl | exact absurd rfl (testBit_two_pow_false hp)⟩

theorem pfuRec_within (s : State) (x : SMap Nat) : Within (2 ^ Part.pfuRec.bit) s { s with pfuRec := x } :=
  ⟨id, fun _ _ _ _ => rfl, fun p hp => by cases p <;> first | with_reducible rfl | exact absurd rfl (testBit_two_pow_false hp)⟩

theorem pfuNext_within (s : State) (x : Nat) : Within (2 ^ Part.pfuNext.bit) s { s with pfuNext := x } :=
  ⟨id, fun _ _ _ _ => rfl, fun p hp => by cases p <;> first | with_reducible rfl | exact absurd rfl (testBit_two_pow_false hp)⟩

theorem rounds_within (s : State) (x : SMap (Option Round)) : Within (2 ^ Part.rounds.bit) s { s with rounds := x } :=
  ⟨id, fun _ _ _ _ => rfl, fun p hp => by cases p <;> first | with_reducible rfl | exact absurd rfl (testBit_two_pow_false hp)⟩

theorem hbm_within (s : State) (x : List Host.Cell) (h : (swf 0 s.hbm = true ∧ ∀ p ∈ s.hbm, p.1 < hbmSize) → swf 0 x = true ∧ ∀ p ∈ x, p.1 < hbmSize) :
    Within (2 ^ Part.hbm.bit) s { s with hbm := x } :=
  ⟨fun c => ⟨c.1, by
    have := c.2.1
    simp only [Memory.wf, Bool.and_eq_true, List.all_eq_true, decide_eq_true_eq] at this ⊢
    exact h this, c.2.2⟩, fun _ _ _ _ => rfl, fun p hp => by cases p <;> first | with_reducible rfl | exact absurd rfl (testBit_two_pow_false hp)⟩

theorem chsProg_within (s : State) (x : SMap Nat) : Within (2 ^ Part.chsProg.bit) s { s with chsProg := x } :=
  ⟨id, fun _ _ _ _ => rfl, fun p hp => by cases p <;> first | with_reducible rfl | exact absurd rfl (testBit_two_pow_false hp)⟩

theorem chsEnv_within (s : State) (x : SMap Nat) : Within (2 ^ Part.chsEnv.bit) s { s with chsEnv := x } :=
  ⟨id, fun _ _ _ _ => rfl, fun p hp => by cases p <;> first | with_reducible rfl | exact absurd rfl (testBit_two_pow_false hp)⟩

theorem chisels_within (s : State) (x : SMap Chs) : Within (2 ^ Part.chisels.bit) s { s with chisels := x } :=
  ⟨id, fun _ _ _ _ => rfl, fun p hp => by cases p <;> first | with_reducible rfl | exact absurd rfl (testBit_two_pow_false hp)⟩

theorem barArr_within (s : State) (x : List (Nat × Nat × Nat)) : Within (2 ^ Part.barArr.bit) s { s with barArr := x } :=
  ⟨id, fun _ _ _ _ => rfl, fun p hp => by cases p <;> first | with_reducible rfl | exact absurd rfl (testBit_two_pow_false hp)⟩

theorem barSeen_within (s : State) (x : SMap (List Nat)) : Within (2 ^ Part.barSeen.bit) s { s with barSeen := x } :=
  ⟨id, fun _ _ _ _ => rfl, fun p hp => by cases p <;> first | with_reducible rfl | exact absurd rfl (testBit_two_pow_false hp)⟩

theorem tinSeen_within (s : State) (x : List Edge) : Within (2 ^ Part.tinSeen.bit) s { s with tinSeen := x } :=
  ⟨id, fun _ _ _ _ => rfl, fun p hp => by cases p <;> first | with_reducible rfl | exact absurd rfl (testBit_two_pow_false hp)⟩

theorem playSeen_within (s : State) (x : List (Nat × Nat × Nat)) : Within (2 ^ Part.playSeen.bit) s { s with playSeen := x } :=
  ⟨id, fun _ _ _ _ => rfl, fun p hp => by cases p <;> first | with_reducible rfl | exact absurd rfl (testBit_two_pow_false hp)⟩

theorem slots_within (s : State) (x : SMap Slot) : Within (2 ^ Part.slots.bit) s { s with slots := x } :=
  ⟨id, fun _ _ _ _ => rfl, fun p hp => by cases p <;> first | with_reducible rfl | exact absurd rfl (testBit_two_pow_false hp)⟩

theorem stmFetch_within (s : State) (x : SMap (List StmGran)) : Within (2 ^ Part.stmFetch.bit) s { s with stmFetch := x } :=
  ⟨id, fun _ _ _ _ => rfl, fun p hp => by cases p <;> first | with_reducible rfl | exact absurd rfl (testBit_two_pow_false hp)⟩

theorem stmBuf_within (s : State) (x : SMap (List StmGran)) : Within (2 ^ Part.stmBuf.bit) s { s with stmBuf := x } :=
  ⟨id, fun _ _ _ _ => rfl, fun p hp => by cases p <;> first | with_reducible rfl | exact absurd rfl (testBit_two_pow_false hp)⟩

theorem frmInit_within (s : State) (x : SMap Frm) : Within (2 ^ Part.frmInit.bit) s { s with frmInit := x } :=
  ⟨id, fun _ _ _ _ => rfl, fun p hp => by cases p <;> first | with_reducible rfl | exact absurd rfl (testBit_two_pow_false hp)⟩

theorem frmLive_within (s : State) (x : SMap Frm) : Within (2 ^ Part.frmLive.bit) s { s with frmLive := x } :=
  ⟨id, fun _ _ _ _ => rfl, fun p hp => by cases p <;> first | with_reducible rfl | exact absurd rfl (testBit_two_pow_false hp)⟩

theorem frmOps_within (s : State) (x : List FrmOp) : Within (2 ^ Part.frmOps.bit) s { s with frmOps := x } :=
  ⟨id, fun _ _ _ _ => rfl, fun p hp => by cases p <;> first | with_reducible rfl | exact absurd rfl (testBit_two_pow_false hp)⟩

theorem lines_within (s : State) (x : SMap Line) : Within (2 ^ Part.lines.bit) s { s with lines := x } :=
  ⟨id, fun _ _ _ _ => rfl, fun p hp => by cases p <;> first | with_reducible rfl | exact absurd rfl (testBit_two_pow_false hp)⟩

theorem biases_within (s : State) (x : SMap Bias) : Within (2 ^ Part.biases.bit) s { s with biases := x } :=
  ⟨id, fun _ _ _ _ => rfl, fun p hp => by cases p <;> first | with_reducible rfl | exact absurd rfl (testBit_two_pow_false hp)⟩

theorem quiesce_within (s : State) (x : Bool) : Within (2 ^ Part.quiesce.bit) s { s with quiesce := x } :=
  ⟨id, fun _ _ _ _ => rfl, fun p hp => by cases p <;> first | with_reducible rfl | exact absurd rfl (testBit_two_pow_false hp)⟩

theorem quiesceEnd_within (s : State) (x : Nat) : Within (2 ^ Part.quiesceEnd.bit) s { s with quiesceEnd := x } :=
  ⟨id, fun _ _ _ _ => rfl, fun p hp => by cases p <;> first | with_reducible rfl | exact absurd rfl (testBit_two_pow_false hp)⟩

theorem patinas_within (s : State) (x : SMap Patina) : Within (2 ^ Part.patinas.bit) s { s with patinas := x } :=
  ⟨id, fun _ _ _ _ => rfl, fun p hp => by cases p <;> first | with_reducible rfl | exact absurd rfl (testBit_two_pow_false hp)⟩

theorem zoneSets_within (s : State) (x : SMap Nat) : Within (2 ^ Part.zoneSets.bit) s { s with zoneSets := x } :=
  ⟨id, fun _ _ _ _ => rfl, fun p hp => by cases p <;> first | with_reducible rfl | exact absurd rfl (testBit_two_pow_false hp)⟩

theorem ovrs_within (s : State) (x : List (Nat × Nat)) : Within (2 ^ Part.ovrs.bit) s { s with ovrs := x } :=
  ⟨id, fun _ _ _ _ => rfl, fun p hp => by cases p <;> first | with_reducible rfl | exact absurd rfl (testBit_two_pow_false hp)⟩

theorem windows_within (s : State) (x : SMap (List Win)) : Within (2 ^ Part.windows.bit) s { s with windows := x } :=
  ⟨id, fun _ _ _ _ => rfl, fun p hp => by cases p <;> first | with_reducible rfl | exact absurd rfl (testBit_two_pow_false hp)⟩

theorem kmem_within (s : State) (x : SMap Nat) : Within (2 ^ Part.kmem.bit) s { s with kmem := x } :=
  ⟨id, fun _ _ _ _ => rfl, fun p hp => by cases p <;> first | with_reducible rfl | exact absurd rfl (testBit_two_pow_false hp)⟩

theorem calipers_within (s : State) (x : SMap Clp) : Within (2 ^ Part.calipers.bit) s { s with calipers := x } :=
  ⟨id, fun _ _ _ _ => rfl, fun p hp => by cases p <;> first | with_reducible rfl | exact absurd rfl (testBit_two_pow_false hp)⟩

theorem clpProg_within (s : State) (x : SMap Nat) : Within (2 ^ Part.clpProg.bit) s { s with clpProg := x } :=
  ⟨id, fun _ _ _ _ => rfl, fun p hp => by cases p <;> first | with_reducible rfl | exact absurd rfl (testBit_two_pow_false hp)⟩

theorem clpMem_within (s : State) (x : SMap Nat) : Within (2 ^ Part.clpMem.bit) s { s with clpMem := x } :=
  ⟨id, fun _ _ _ _ => rfl, fun p hp => by cases p <;> first | with_reducible rfl | exact absurd rfl (testBit_two_pow_false hp)⟩

theorem clpInit_within (s : State) (x : SMap Nat) : Within (2 ^ Part.clpInit.bit) s { s with clpInit := x } :=
  ⟨id, fun _ _ _ _ => rfl, fun p hp => by cases p <;> first | with_reducible rfl | exact absurd rfl (testBit_two_pow_false hp)⟩

theorem clpEmask_within (s : State) (x : SMap Nat) : Within (2 ^ Part.clpEmask.bit) s { s with clpEmask := x } :=
  ⟨id, fun _ _ _ _ => rfl, fun p hp => by cases p <;> first | with_reducible rfl | exact absurd rfl (testBit_two_pow_false hp)⟩

theorem depWPrev_within (s : State) (x : SMap Nat) : Within (2 ^ Part.depWPrev.bit) s { s with depWPrev := x } :=
  ⟨id, fun _ _ _ _ => rfl, fun p hp => by cases p <;> first | with_reducible rfl | exact absurd rfl (testBit_two_pow_false hp)⟩

theorem mbxQ_within (s : State) (x : SMap (List MbxEnt)) : Within (2 ^ Part.mbxQ.bit) s { s with mbxQ := x } :=
  ⟨id, fun _ _ _ _ => rfl, fun p hp => by cases p <;> first | with_reducible rfl | exact absurd rfl (testBit_two_pow_false hp)⟩

theorem mbxRing_within (s : State) (x : SMap Nat) : Within (2 ^ Part.mbxRing.bit) s { s with mbxRing := x } :=
  ⟨id, fun _ _ _ _ => rfl, fun p hp => by cases p <;> first | with_reducible rfl | exact absurd rfl (testBit_two_pow_false hp)⟩

theorem taskLast_within (s : State) (x : SMap Nat) : Within (2 ^ Part.taskLast.bit) s { s with taskLast := x } :=
  ⟨id, fun _ _ _ _ => rfl, fun p hp => by cases p <;> first | with_reducible rfl | exact absurd rfl (testBit_two_pow_false hp)⟩

theorem evhSent_within (s : State) (x : List EvhEnt) : Within (2 ^ Part.evhSent.bit) s { s with evhSent := x } :=
  ⟨id, fun _ _ _ _ => rfl, fun p hp => by cases p <;> first | with_reducible rfl | exact absurd rfl (testBit_two_pow_false hp)⟩

theorem fired_within (s : State) (x : List Firing) : Within (2 ^ Part.fired.bit) s { s with fired := x } :=
  ⟨id, fun _ _ _ _ => rfl, fun p hp => by cases p <;> first | with_reducible rfl | exact absurd rfl (testBit_two_pow_false hp)⟩

theorem pubSeen_within (s : State) (x : List (Nat × Nat × Bool × Taint)) : Within (2 ^ Part.pubSeen.bit) s { s with pubSeen := x } :=
  ⟨id, fun _ _ _ _ => rfl, fun p hp => by cases p <;> first | with_reducible rfl | exact absurd rfl (testBit_two_pow_false hp)⟩

theorem caps_within (s : State) (x : SMap Cap) : Within (2 ^ Part.caps.bit) s { s with caps := x } :=
  ⟨id, fun _ _ _ _ => rfl, fun p hp => by cases p <;> first | with_reducible rfl | exact absurd rfl (testBit_two_pow_false hp)⟩

theorem tinFifo_within (s : State) (x : SMap (List (Nat × Nat))) : Within (2 ^ Part.tinFifo.bit) s { s with tinFifo := x } :=
  ⟨id, fun _ _ _ _ => rfl, fun p hp => by cases p <;> first | with_reducible rfl | exact absurd rfl (testBit_two_pow_false hp)⟩

theorem tinLast_within (s : State) (x : SMap Nat) : Within (2 ^ Part.tinLast.bit) s { s with tinLast := x } :=
  ⟨id, fun _ _ _ _ => rfl, fun p hp => by cases p <;> first | with_reducible rfl | exact absurd rfl (testBit_two_pow_false hp)⟩

theorem tdcPos_within (s : State) (x : SMap Nat) : Within (2 ^ Part.tdcPos.bit) s { s with tdcPos := x } :=
  ⟨id, fun _ _ _ _ => rfl, fun p hp => by cases p <;> first | with_reducible rfl | exact absurd rfl (testBit_two_pow_false hp)⟩

theorem tdcHits_within (s : State) (x : SMap Nat) : Within (2 ^ Part.tdcHits.bit) s { s with tdcHits := x } :=
  ⟨id, fun _ _ _ _ => rfl, fun p hp => by cases p <;> first | with_reducible rfl | exact absurd rfl (testBit_two_pow_false hp)⟩

theorem tdcCal_within (s : State) (x : Nat × Bool) : Within (2 ^ Part.tdcCal.bit) s { s with tdcCal := x } :=
  ⟨id, fun _ _ _ _ => rfl, fun p hp => by cases p <;> first | with_reducible rfl | exact absurd rfl (testBit_two_pow_false hp)⟩

theorem ivls_within (s : State) (x : SMap Ivl) : Within (2 ^ Part.ivls.bit) s { s with ivls := x } :=
  ⟨id, fun _ _ _ _ => rfl, fun p hp => by cases p <;> first | with_reducible rfl | exact absurd rfl (testBit_two_pow_false hp)⟩

theorem arbs_within (s : State) (x : SMap Arb) : Within (2 ^ Part.arbs.bit) s { s with arbs := x } :=
  ⟨id, fun _ _ _ _ => rfl, fun p hp => by cases p <;> first | with_reducible rfl | exact absurd rfl (testBit_two_pow_false hp)⟩

theorem hostA_within (s : State) (x : Option HostCmd) : Within (2 ^ Part.hostA.bit) s { s with hostA := x } :=
  ⟨id, fun _ _ _ _ => rfl, fun p hp => by cases p <;> first | with_reducible rfl | exact absurd rfl (testBit_two_pow_false hp)⟩

theorem hostB_within (s : State) (x : Option HostCmd) : Within (2 ^ Part.hostB.bit) s { s with hostB := x } :=
  ⟨id, fun _ _ _ _ => rfl, fun p hp => by cases p <;> first | with_reducible rfl | exact absurd rfl (testBit_two_pow_false hp)⟩

theorem hostBQ_within (s : State) (x : List HostCmd) : Within (2 ^ Part.hostBQ.bit) s { s with hostBQ := x } :=
  ⟨id, fun _ _ _ _ => rfl, fun p hp => by cases p <;> first | with_reducible rfl | exact absurd rfl (testBit_two_pow_false hp)⟩

theorem msix_within (s : State) (x : SMap Msix) : Within (2 ^ Part.msix.bit) s { s with msix := x } :=
  ⟨id, fun _ _ _ _ => rfl, fun p hp => by cases p <;> first | with_reducible rfl | exact absurd rfl (testBit_two_pow_false hp)⟩

theorem lans_within (s : State) (x : SMap Lan) : Within (2 ^ Part.lans.bit) s { s with lans := x } :=
  ⟨id, fun _ _ _ _ => rfl, fun p hp => by cases p <;> first | with_reducible rfl | exact absurd rfl (testBit_two_pow_false hp)⟩

theorem lanTx_within (s : State) (x : SMap Nat) : Within (2 ^ Part.lanTx.bit) s { s with lanTx := x } :=
  ⟨id, fun _ _ _ _ => rfl, fun p hp => by cases p <;> first | with_reducible rfl | exact absurd rfl (testBit_two_pow_false hp)⟩

theorem lanRx_within (s : State) (x : SMap Nat) : Within (2 ^ Part.lanRx.bit) s { s with lanRx := x } :=
  ⟨id, fun _ _ _ _ => rfl, fun p hp => by cases p <;> first | with_reducible rfl | exact absurd rfl (testBit_two_pow_false hp)⟩

theorem lanDef_within (s : State) (x : SMap Nat) : Within (2 ^ Part.lanDef.bit) s { s with lanDef := x } :=
  ⟨id, fun _ _ _ _ => rfl, fun p hp => by cases p <;> first | with_reducible rfl | exact absurd rfl (testBit_two_pow_false hp)⟩

theorem lanLen_within (s : State) (x : SMap Nat) : Within (2 ^ Part.lanLen.bit) s { s with lanLen := x } :=
  ⟨id, fun _ _ _ _ => rfl, fun p hp => by cases p <;> first | with_reducible rfl | exact absurd rfl (testBit_two_pow_false hp)⟩

theorem bqCur_within (s : State) (x : Option BqCur) : Within (2 ^ Part.bqCur.bit) s { s with bqCur := x } :=
  ⟨id, fun _ _ _ _ => rfl, fun p hp => by cases p <;> first | with_reducible rfl | exact absurd rfl (testBit_two_pow_false hp)⟩

theorem timeLoadedAt_within (s : State) (x : Nat) : Within (2 ^ Part.timeLoadedAt.bit) s { s with timeLoadedAt := x } :=
  ⟨id, fun _ _ _ _ => rfl, fun p hp => by cases p <;> first | with_reducible rfl | exact absurd rfl (testBit_two_pow_false hp)⟩

theorem systemTag_within (s : State) (x : Nat) : Within (2 ^ Part.systemTag.bit) s { s with systemTag := x } :=
  ⟨id, fun _ _ _ _ => rfl, fun p hp => by cases p <;> first | with_reducible rfl | exact absurd rfl (testBit_two_pow_false hp)⟩

theorem frqs_within (s : State) (x : SMap Frq) : Within (2 ^ Part.frqs.bit) s { s with frqs := x } :=
  ⟨id, fun _ _ _ _ => rfl, fun p hp => by cases p <;> first | with_reducible rfl | exact absurd rfl (testBit_two_pow_false hp)⟩

theorem mon_within (s : State) (x : Mon) : Within (2 ^ Part.mon.bit) s { s with mon := x } :=
  ⟨id, fun _ _ _ _ => rfl, fun p hp => by cases p <;> first | with_reducible rfl | exact absurd rfl (testBit_two_pow_false hp)⟩

theorem pnt_within (s : State) (x : PntSt) : Within (2 ^ Part.pnt.bit) s { s with pnt := x } :=
  ⟨id, fun _ _ _ _ => rfl, fun p hp => by cases p <;> first | with_reducible rfl | exact absurd rfl (testBit_two_pow_false hp)⟩

theorem pwr_within (s : State) (x : PwrSt) : Within (2 ^ Part.pwr.bit) s { s with pwr := x } :=
  ⟨id, fun _ _ _ _ => rfl, fun p hp => by cases p <;> first | with_reducible rfl | exact absurd rfl (testBit_two_pow_false hp)⟩

theorem boot_within (s : State) (x : BootSt) : Within (2 ^ Part.boot.bit) s { s with boot := x } :=
  ⟨id, fun _ _ _ _ => rfl, fun p hp => by cases p <;> first | with_reducible rfl | exact absurd rfl (testBit_two_pow_false hp)⟩

theorem flash_within (s : State) (x : SMap Nat) (h : swf 0 s.flash = true → swf 0 x = true) :
    Within (2 ^ Part.flash.bit) s { s with flash := x } :=
  ⟨fun c => ⟨c.1, c.2.1, h c.2.2.1, c.2.2.2⟩, fun _ _ _ _ => rfl, fun p hp => by cases p <;> first | with_reducible rfl | exact absurd rfl (testBit_two_pow_false hp)⟩

theorem sram_within (s : State) (x : SMap Nat) (h : swf 0 s.sram = true → swf 0 x = true) :
    Within (2 ^ Part.sram.bit) s { s with sram := x } :=
  ⟨fun c => ⟨c.1, c.2.1, c.2.2.1, h c.2.2.2⟩, fun _ _ _ _ => rfl, fun p hp => by cases p <;> first | with_reducible rfl | exact absurd rfl (testBit_two_pow_false hp)⟩

theorem i2c_within (s : State) (x : I2cSt) : Within (2 ^ Part.i2c.bit) s { s with i2c := x } :=
  ⟨id, fun _ _ _ _ => rfl, fun p hp => by cases p <;> first | with_reducible rfl | exact absurd rfl (testBit_two_pow_false hp)⟩

theorem clk_within (s : State) (x : ClkSt) : Within (2 ^ Part.clk.bit) s { s with clk := x } :=
  ⟨id, fun _ _ _ _ => rfl, fun p hp => by cases p <;> first | with_reducible rfl | exact absurd rfl (testBit_two_pow_false hp)⟩

/-- The bookkeeping of the present cycle is no part. -/
theorem cyc_within (s : State) (x : Cycle) : Within 0 s { s with cyc := x } :=
  ⟨id, fun _ _ _ _ => rfl, fun p _ => by cases p <;> rfl⟩

/-- Taking a free value counts it. -/
theorem free_within (s : State) : Within (2 ^ Part.fresh.bit) s s.free.2 := fresh_within s _

end Sys2Proof.Machine
end

