-- ==== Sys2Proof/Laws/Parts.lean ====
section
/-! SUPPORT. The footprints of the updates that change several parts of the state at once. -/

set_option Elab.async false

namespace Sys2Proof.Machine

theorem upd_readData_readPoison_within (s : State) (x0 : Nat) (x1 : Bool) :
    Within (footprint [] [.readData, .readPoison]) s { s with readData := x0, readPoison := x1 } :=
  ((Within.refl _ s).step (readData_within _ x0) (by decide +kernel)).step (readPoison_within _ x1) (by decide +kernel)

theorem upd_readData_i2c_within (s : State) (x0 : Nat) (x1 : I2cSt) :
    Within (footprint [] [.readData, .i2c]) s { s with readData := x0, i2c := x1 } :=
  ((Within.refl _ s).step (readData_within _ x0) (by decide +kernel)).step (i2c_within _ x1) (by decide +kernel)

theorem upd_now_tick_epochDue_within (s : State) (x0 : Nat) (x1 : Nat) (x2 : Bool) :
    Within (footprint [] [.now, .tick, .epochDue]) s { s with now := x0, tick := x1, epochDue := x2 } :=
  (((Within.refl _ s).step (now_within _ x0) (by decide +kernel)).step (tick_within _ x1) (by decide +kernel)).step (epochDue_within _ x2) (by decide +kernel)

theorem upd_now_tick_clock_within (s : State) (x0 : Nat) (x1 : Nat) (x2 : Nat) :
    Within (footprint [] [.now, .tick, .clock]) s { s with now := x0, tick := x1, clock := x2 } :=
  (((Within.refl _ s).step (now_within _ x0) (by decide +kernel)).step (tick_within _ x1) (by decide +kernel)).step (clock_within _ x2) (by decide +kernel)

theorem upd_now_epochDue_armVis_phaseNow_syncErrs_slipRun_lastGoodL_skew_clk_within (s : State) (x0 : Nat) (x1 : Bool) (x2 : Nat) (x3 : Nat) (x4 : List Int) (x5 : Nat) (x6 : Nat) (x7 : Skew) (x8 : ClkSt) :
    Within (footprint [] [.now, .epochDue, .armVis, .phaseNow, .syncErrs, .slipRun, .lastGoodL, .skew, .clk]) s { s with now := x0, epochDue := x1, armVis := x2, phaseNow := x3, syncErrs := x4, slipRun := x5, lastGoodL := x6, skew := x7, clk := x8 } :=
  (((((((((Within.refl _ s).step (now_within _ x0) (by decide +kernel)).step (epochDue_within _ x1) (by decide +kernel)).step (armVis_within _ x2) (by decide +kernel)).step (phaseNow_within _ x3) (by decide +kernel)).step (syncErrs_within _ x4) (by decide +kernel)).step (slipRun_within _ x5) (by decide +kernel)).step (lastGoodL_within _ x6) (by decide +kernel)).step (skew_within _ x7) (by decide +kernel)).step (clk_within _ x8) (by decide +kernel)

theorem upd_now_epochDue_timeLoadedAt_within (s : State) (x0 : Nat) (x1 : Bool) (x2 : Nat) :
    Within (footprint [] [.now, .epochDue, .timeLoadedAt]) s { s with now := x0, epochDue := x1, timeLoadedAt := x2 } :=
  (((Within.refl _ s).step (now_within _ x0) (by decide +kernel)).step (epochDue_within _ x1) (by decide +kernel)).step (timeLoadedAt_within _ x2) (by decide +kernel)

theorem upd_now_syncErrs_within (s : State) (x0 : Nat) (x1 : List Int) :
    Within (footprint [] [.now, .syncErrs]) s { s with now := x0, syncErrs := x1 } :=
  ((Within.refl _ s).step (now_within _ x0) (by decide +kernel)).step (syncErrs_within _ x1) (by decide +kernel)

theorem upd_phaseNow_skew_within (s : State) (x0 : Nat) (x1 : Skew) :
    Within (footprint [] [.phaseNow, .skew]) s { s with phaseNow := x0, skew := x1 } :=
  ((Within.refl _ s).step (phaseNow_within _ x0) (by decide +kernel)).step (skew_within _ x1) (by decide +kernel)

theorem upd_phaseNow_clk_within (s : State) (x0 : Nat) (x1 : ClkSt) :
    Within (footprint [] [.phaseNow, .clk]) s { s with phaseNow := x0, clk := x1 } :=
  ((Within.refl _ s).step (phaseNow_within _ x0) (by decide +kernel)).step (clk_within _ x1) (by decide +kernel)

theorem upd_alarmLast_clk_within (s : State) (x0 : Nat) (x1 : ClkSt) :
    Within (footprint [] [.alarmLast, .clk]) s { s with alarmLast := x0, clk := x1 } :=
  ((Within.refl _ s).step (alarmLast_within _ x0) (by decide +kernel)).step (clk_within _ x1) (by decide +kernel)

theorem upd_harvest_hNext_within (s : State) (x0 : SMap (List HEntry)) (x1 : SMap Nat) :
    Within (footprint [] [.harvest, .hNext]) s { s with harvest := x0, hNext := x1 } :=
  ((Within.refl _ s).step (harvest_within _ x0) (by decide +kernel)).step (hNext_within _ x1) (by decide +kernel)

theorem upd_harvest_hNext_hLast_within (s : State) (x0 : SMap (List HEntry)) (x1 : SMap Nat) (x2 : SMap Nat) :
    Within (footprint [] [.harvest, .hNext, .hLast]) s { s with harvest := x0, hNext := x1, hLast := x2 } :=
  (((Within.refl _ s).step (harvest_within _ x0) (by decide +kernel)).step (hNext_within _ x1) (by decide +kernel)).step (hLast_within _ x2) (by decide +kernel)

theorem upd_hNext_nq_points_gaps_dmap_decDecl_pfuMem_pfuCnt_chsProg_chsEnv_frmInit_frmLive_frmOps_kmem_clpProg_clpMem_clpInit_clpEmask_lanTx_lanRx_lanDef_lanLen_systemTag_boot_within (s : State) (x0 : SMap Nat) (x1 : SMap Nat) (x2 : SMap (Option HPoint)) (x3 : List Gap) (x4 : SMap Nat) (x5 : SMap Nat) (x6 : SMap Nat) (x7 : List Nat) (x8 : SMap Nat) (x9 : SMap Nat) (x10 : SMap Frm) (x11 : SMap Frm) (x12 : List FrmOp) (x13 : SMap Nat) (x14 : SMap Nat) (x15 : SMap Nat) (x16 : SMap Nat) (x17 : SMap Nat) (x18 : SMap Nat) (x19 : SMap Nat) (x20 : SMap Nat) (x21 : SMap Nat) (x22 : Nat) (x23 : BootSt) :
    Within (footprint [] [.hNext, .nq, .points, .gaps, .dmap, .decDecl, .pfuMem, .pfuCnt, .chsProg, .chsEnv, .frmInit, .frmLive, .frmOps, .kmem, .clpProg, .clpMem, .clpInit, .clpEmask, .lanTx, .lanRx, .lanDef, .lanLen, .systemTag, .boot]) s { s with hNext := x0, nq := x1, points := x2, gaps := x3, dmap := x4, decDecl := x5, pfuMem := x6, pfuCnt := x7, chsProg := x8, chsEnv := x9, frmInit := x10, frmLive := x11, frmOps := x12, kmem := x13, clpProg := x14, clpMem := x15, clpInit := x16, clpEmask := x17, lanTx := x18, lanRx := x19, lanDef := x20, lanLen := x21, systemTag := x22, boot := x23 } :=
  ((((((((((((((((((((((((Within.refl _ s).step (hNext_within _ x0) (by decide +kernel)).step (nq_within _ x1) (by decide +kernel)).step (points_within _ x2) (by decide +kernel)).step (gaps_within _ x3) (by decide +kernel)).step (dmap_within _ x4) (by decide +kernel)).step (decDecl_within _ x5) (by decide +kernel)).step (pfuMem_within _ x6) (by decide +kernel)).step (pfuCnt_within _ x7) (by decide +kernel)).step (chsProg_within _ x8) (by decide +kernel)).step (chsEnv_within _ x9) (by decide +kernel)).step (frmInit_within _ x10) (by decide +kernel)).step (frmLive_within _ x11) (by decide +kernel)).step (frmOps_within _ x12) (by decide +kernel)).step (kmem_within _ x13) (by decide +kernel)).step (clpProg_within _ x14) (by decide +kernel)).step (clpMem_within _ x15) (by decide +kernel)).step (clpInit_within _ x16) (by decide +kernel)).step (clpEmask_within _ x17) (by decide +kernel)).step (lanTx_within _ x18) (by decide +kernel)).step (lanRx_within _ x19) (by decide +kernel)).step (lanDef_within _ x20) (by decide +kernel)).step (lanLen_within _ x21) (by decide +kernel)).step (systemTag_within _ x22) (by decide +kernel)).step (boot_within _ x23) (by decide +kernel)

theorem upd_nq_points_within (s : State) (x0 : SMap Nat) (x1 : SMap (Option HPoint)) :
    Within (footprint [] [.nq, .points]) s { s with nq := x0, points := x1 } :=
  ((Within.refl _ s).step (nq_within _ x0) (by decide +kernel)).step (points_within _ x1) (by decide +kernel)

theorem upd_evhLatch_evhSent_within (s : State) (x0 : SMap Bool) (x1 : List EvhEnt) :
    Within (footprint [] [.evhLatch, .evhSent]) s { s with evhLatch := x0, evhSent := x1 } :=
  ((Within.refl _ s).step (evhLatch_within _ x0) (by decide +kernel)).step (evhSent_within _ x1) (by decide +kernel)

theorem upd_evhLatch_evhSent_pwr_within (s : State) (x0 : SMap Bool) (x1 : List EvhEnt) (x2 : PwrSt) :
    Within (footprint [] [.evhLatch, .evhSent, .pwr]) s { s with evhLatch := x0, evhSent := x1, pwr := x2 } :=
  (((Within.refl _ s).step (evhLatch_within _ x0) (by decide +kernel)).step (evhSent_within _ x1) (by decide +kernel)).step (pwr_within _ x2) (by decide +kernel)

theorem upd_evhLatch_cyc_within (s : State) (x0 : SMap Bool) (x1 : Cycle) :
    Within (footprint [] [.evhLatch]) s { s with evhLatch := x0, cyc := x1 } :=
  ((Within.refl _ s).step (evhLatch_within _ x0) (by decide +kernel)).step (cyc_within _ x1) (by decide +kernel)

theorem upd_chRt_deliver_fired_within (s : State) (x0 : SMap Nat) (x1 : List Firing) (x2 : List Firing) :
    Within (footprint [] [.chRt, .deliver, .fired]) s { s with chRt := x0, deliver := x1, fired := x2 } :=
  (((Within.refl _ s).step (chRt_within _ x0) (by decide +kernel)).step (deliver_within _ x1) (by decide +kernel)).step (fired_within _ x2) (by decide +kernel)

theorem upd_mkOps_mkEnd_within (s : State) (x0 : List MkOp) (x1 : SMap Nat) :
    Within (footprint [] [.mkOps, .mkEnd]) s { s with mkOps := x0, mkEnd := x1 } :=
  ((Within.refl _ s).step (mkOps_within _ x0) (by decide +kernel)).step (mkEnd_within _ x1) (by decide +kernel)

theorem upd_dmap_decDecl_within (s : State) (x0 : SMap Nat) (x1 : SMap Nat) :
    Within (footprint [] [.dmap, .decDecl]) s { s with dmap := x0, decDecl := x1 } :=
  ((Within.refl _ s).step (dmap_within _ x0) (by decide +kernel)).step (decDecl_within _ x1) (by decide +kernel)

theorem upd_decVal_decPub_decTaint_pubSeen_within (s : State) (x0 : SMap Bool) (x1 : SMap Bool) (x2 : SMap Taint) (x3 : List (Nat × Nat × Bool × Taint)) :
    Within (footprint [] [.decVal, .decPub, .decTaint, .pubSeen]) s { s with decVal := x0, decPub := x1, decTaint := x2, pubSeen := x3 } :=
  ((((Within.refl _ s).step (decVal_within _ x0) (by decide +kernel)).step (decPub_within _ x1) (by decide +kernel)).step (decTaint_within _ x2) (by decide +kernel)).step (pubSeen_within _ x3) (by decide +kernel)

theorem upd_decPub_decTaint_within (s : State) (x0 : SMap Bool) (x1 : SMap Taint) :
    Within (footprint [] [.decPub, .decTaint]) s { s with decPub := x0, decTaint := x1 } :=
  ((Within.refl _ s).step (decPub_within _ x0) (by decide +kernel)).step (decTaint_within _ x1) (by decide +kernel)

theorem upd_pfuMem_pfuCnt_within (s : State) (x0 : SMap Nat) (x1 : List Nat) :
    Within (footprint [] [.pfuMem, .pfuCnt]) s { s with pfuMem := x0, pfuCnt := x1 } :=
  ((Within.refl _ s).step (pfuMem_within _ x0) (by decide +kernel)).step (pfuCnt_within _ x1) (by decide +kernel)

theorem upd_pfuPrev_pfuRec_within (s : State) (x0 : SMap Nat) (x1 : SMap Nat) :
    Within (footprint [] [.pfuPrev, .pfuRec]) s { s with pfuPrev := x0, pfuRec := x1 } :=
  ((Within.refl _ s).step (pfuPrev_within _ x0) (by decide +kernel)).step (pfuRec_within _ x1) (by decide +kernel)

theorem upd_pfuPrev_pfuRec_pfuNext_rounds_within (s : State) (x0 : SMap Nat) (x1 : SMap Nat) (x2 : Nat) (x3 : SMap (Option Round)) :
    Within (footprint [] [.pfuPrev, .pfuRec, .pfuNext, .rounds]) s { s with pfuPrev := x0, pfuRec := x1, pfuNext := x2, rounds := x3 } :=
  ((((Within.refl _ s).step (pfuPrev_within _ x0) (by decide +kernel)).step (pfuRec_within _ x1) (by decide +kernel)).step (pfuNext_within _ x2) (by decide +kernel)).step (rounds_within _ x3) (by decide +kernel)

theorem upd_pfuPrev_rounds_within (s : State) (x0 : SMap Nat) (x1 : SMap (Option Round)) :
    Within (footprint [] [.pfuPrev, .rounds]) s { s with pfuPrev := x0, rounds := x1 } :=
  ((Within.refl _ s).step (pfuPrev_within _ x0) (by decide +kernel)).step (rounds_within _ x1) (by decide +kernel)

theorem upd_pfuNext_rounds_within (s : State) (x0 : Nat) (x1 : SMap (Option Round)) :
    Within (footprint [] [.pfuNext, .rounds]) s { s with pfuNext := x0, rounds := x1 } :=
  ((Within.refl _ s).step (pfuNext_within _ x0) (by decide +kernel)).step (rounds_within _ x1) (by decide +kernel)

theorem upd_barArr_barSeen_within (s : State) (x0 : List (Nat × Nat × Nat)) (x1 : SMap (List Nat)) :
    Within (footprint [] [.barArr, .barSeen]) s { s with barArr := x0, barSeen := x1 } :=
  ((Within.refl _ s).step (barArr_within _ x0) (by decide +kernel)).step (barSeen_within _ x1) (by decide +kernel)

theorem upd_tinSeen_fired_pubSeen_within (s : State) (x0 : List Edge) (x1 : List Firing) (x2 : List (Nat × Nat × Bool × Taint)) :
    Within (footprint [] [.tinSeen, .fired, .pubSeen]) s { s with tinSeen := x0, fired := x1, pubSeen := x2 } :=
  (((Within.refl _ s).step (tinSeen_within _ x0) (by decide +kernel)).step (fired_within _ x1) (by decide +kernel)).step (pubSeen_within _ x2) (by decide +kernel)

theorem upd_tinSeen_tinLast_within (s : State) (x0 : List Edge) (x1 : SMap Nat) :
    Within (footprint [] [.tinSeen, .tinLast]) s { s with tinSeen := x0, tinLast := x1 } :=
  ((Within.refl _ s).step (tinSeen_within _ x0) (by decide +kernel)).step (tinLast_within _ x1) (by decide +kernel)

theorem upd_stmFetch_stmBuf_within (s : State) (x0 : SMap (List StmGran)) (x1 : SMap (List StmGran)) :
    Within (footprint [] [.stmFetch, .stmBuf]) s { s with stmFetch := x0, stmBuf := x1 } :=
  ((Within.refl _ s).step (stmFetch_within _ x0) (by decide +kernel)).step (stmBuf_within _ x1) (by decide +kernel)

theorem upd_frmInit_frmLive_within (s : State) (x0 : SMap Frm) (x1 : SMap Frm) :
    Within (footprint [] [.frmInit, .frmLive]) s { s with frmInit := x0, frmLive := x1 } :=
  ((Within.refl _ s).step (frmInit_within _ x0) (by decide +kernel)).step (frmLive_within _ x1) (by decide +kernel)

theorem upd_frmInit_frmLive_frmOps_within (s : State) (x0 : SMap Frm) (x1 : SMap Frm) (x2 : List FrmOp) :
    Within (footprint [] [.frmInit, .frmLive, .frmOps]) s { s with frmInit := x0, frmLive := x1, frmOps := x2 } :=
  (((Within.refl _ s).step (frmInit_within _ x0) (by decide +kernel)).step (frmLive_within _ x1) (by decide +kernel)).step (frmOps_within _ x2) (by decide +kernel)

theorem upd_frmLive_frmOps_within (s : State) (x0 : SMap Frm) (x1 : List FrmOp) :
    Within (footprint [] [.frmLive, .frmOps]) s { s with frmLive := x0, frmOps := x1 } :=
  ((Within.refl _ s).step (frmLive_within _ x0) (by decide +kernel)).step (frmOps_within _ x1) (by decide +kernel)

theorem upd_quiesce_quiesceEnd_within (s : State) (x0 : Bool) (x1 : Nat) :
    Within (footprint [] [.quiesce, .quiesceEnd]) s { s with quiesce := x0, quiesceEnd := x1 } :=
  ((Within.refl _ s).step (quiesce_within _ x0) (by decide +kernel)).step (quiesceEnd_within _ x1) (by decide +kernel)

theorem upd_patinas_pnt_within (s : State) (x0 : SMap Patina) (x1 : PntSt) :
    Within (footprint [] [.patinas, .pnt]) s { s with patinas := x0, pnt := x1 } :=
  ((Within.refl _ s).step (patinas_within _ x0) (by decide +kernel)).step (pnt_within _ x1) (by decide +kernel)

theorem upd_clpProg_clpMem_clpInit_clpEmask_within (s : State) (x0 : SMap Nat) (x1 : SMap Nat) (x2 : SMap Nat) (x3 : SMap Nat) :
    Within (footprint [] [.clpProg, .clpMem, .clpInit, .clpEmask]) s { s with clpProg := x0, clpMem := x1, clpInit := x2, clpEmask := x3 } :=
  ((((Within.refl _ s).step (clpProg_within _ x0) (by decide +kernel)).step (clpMem_within _ x1) (by decide +kernel)).step (clpInit_within _ x2) (by decide +kernel)).step (clpEmask_within _ x3) (by decide +kernel)

theorem upd_hostA_hostB_hostBQ_within (s : State) (x0 : Option HostCmd) (x1 : Option HostCmd) (x2 : List HostCmd) :
    Within (footprint [] [.hostA, .hostB, .hostBQ]) s { s with hostA := x0, hostB := x1, hostBQ := x2 } :=
  (((Within.refl _ s).step (hostA_within _ x0) (by decide +kernel)).step (hostB_within _ x1) (by decide +kernel)).step (hostBQ_within _ x2) (by decide +kernel)

theorem upd_lanTx_lanRx_lanDef_lanLen_within (s : State) (x0 : SMap Nat) (x1 : SMap Nat) (x2 : SMap Nat) (x3 : SMap Nat) :
    Within (footprint [] [.lanTx, .lanRx, .lanDef, .lanLen]) s { s with lanTx := x0, lanRx := x1, lanDef := x2, lanLen := x3 } :=
  ((((Within.refl _ s).step (lanTx_within _ x0) (by decide +kernel)).step (lanRx_within _ x1) (by decide +kernel)).step (lanDef_within _ x2) (by decide +kernel)).step (lanLen_within _ x3) (by decide +kernel)

theorem upd_systemTag_boot_within (s : State) (x0 : Nat) (x1 : BootSt) :
    Within (footprint [] [.systemTag, .boot]) s { s with systemTag := x0, boot := x1 } :=
  ((Within.refl _ s).step (systemTag_within _ x0) (by decide +kernel)).step (boot_within _ x1) (by decide +kernel)

theorem upd_pwr_boot_within (s : State) (x0 : PwrSt) (x1 : BootSt) :
    Within (footprint [] [.pwr, .boot]) s { s with pwr := x0, boot := x1 } :=
  ((Within.refl _ s).step (pwr_within _ x0) (by decide +kernel)).step (boot_within _ x1) (by decide +kernel)

end Sys2Proof.Machine
end

