-- ==== Sys2Proof/Laws/Ops.lean ====
section
/-! SUPPORT. What each operation of Sys2Proof/Machine/Ops.lean can change. -/

set_option Elab.async false

namespace Sys2Proof.Machine

/-- What `arriveAt` can change. -/
def fpArriveAt : Nat := footprint [R.CLP_EV_IGNORE_CNT_COUNT] [.arrivals]

theorem arriveAt_within (rt : Bool) (s : State) (t : Nat) : Within fpArriveAt s (arriveAt rt s t) := by
  unfold arriveAt
  refine Within.ite ?_ ?_
  · refine Within.ite ?_ ?_
    · exact Within.refl _ _
    · refine Within.step ?_ (inc_within _ _ _ (by decide +kernel)) (by decide +kernel)
      exact Within.refl _ _
  · refine Within.ite ?_ ?_
    · refine Within.step ?_ (arrivals_within _ _) (by decide +kernel)
      exact Within.refl _ _
    · exact Within.refl _ _

/-- What `evhSet` can change. -/
def fpEvhSet : Nat := footprint [] [.evhLatch]

theorem evhSet_within (s : State) (c : Nat) : Within fpEvhSet s (evhSet s c) := by
  unfold evhSet
  extract_lets -lift +onlyGivenNames a1
  clear_value a1
  refine Within.step ?_ (upd_evhLatch_cyc_within _ _ _) (by decide +kernel)
  exact Within.refl _ _

/-- What `acceptFiring` can change. -/
def fpAcceptFiring : Nat :=
  0x10000000000000f8000000000000000000000000000000000000000000000000000000000000000000000000000000000008000000000000000000000000000000000000000000000000000000000000000000000000000000000000000000000000000000000000000000000000000000000000000000000000000000000000000000000000000

theorem fpAcceptFiring_eq : fpAcceptFiring =
    footprint [] [.chAny, .chRt, .deliver, .fired] ||| fpArriveAt ||| fpEvhSet := by decide +kernel

theorem acceptFiring_within (s : State) (c : Nat) (rt : Bool) : Within fpAcceptFiring s (acceptFiring s c rt) := by
  unfold acceptFiring
  extract_lets -lift +onlyGivenNames a1
  have h1 : Within fpAcceptFiring s a1 := by
    unfold a1
    refine Within.step ?_ (chAny_within _ _) (by decide +kernel)
    exact Within.refl _ _
  clear_value a1
  extract_lets -lift +onlyGivenNames a2
  have h2 : Within fpAcceptFiring s a2 := by
    unfold a2
    refine Within.ite ?_ ?_
    · refine Within.step ?_ (upd_chRt_deliver_fired_within _ _ _ _) (by decide +kernel)
      exact h1
    · exact h1
  clear_value a2
  extract_lets -lift +onlyGivenNames a3
  have h3 : Within fpAcceptFiring s a3 := by
    unfold a3
    refine Within.step ?_ (evhSet_within ..) (by decide +kernel)
    exact h2
  clear_value a3
  extract_lets -lift +onlyGivenNames a4
  clear_value a4
  extract_lets -lift +onlyGivenNames a5
  clear_value a5
  refine Within.forAll _ ?_ fun a6 _ => ?_
  · exact h3
  · refine Within.step ?_ (arriveAt_within ..) (by decide +kernel)
    exact Within.refl _ _

/-- What `refuseFiring` can change. -/
def fpRefuseFiring : Nat := footprint [R.EVF_STATUS_REFUSED, R.EVF_CHST_REFUSED, R.EVF_CHST_REFUSE_CNT] []

theorem refuseFiring_within (s : State) (c : Nat) : Within fpRefuseFiring s (refuseFiring s c) := by
  unfold refuseFiring
  refine Within.step ?_ (set_within _ _ _ (by decide +kernel)) (by decide +kernel)
  refine Within.step ?_ (inc_within _ _ _ (by decide +kernel)) (by decide +kernel)
  refine Within.step ?_ (set_within _ _ _ (by decide +kernel)) (by decide +kernel)
  exact Within.refl _ _

/-- What `guardFiring` can change. -/
def fpGuardFiring : Nat :=
  0x10000000000000f8000200000000000000000000000000000000000000000000000000000000000000000000000000000008000000000000000000000000000000000000000000000000000000000000000000000000000000000000000000000000000000000000000000000000000000180800000000000000000000000000000000000000000

theorem fpGuardFiring_eq : fpGuardFiring =
    footprint [] [.fresh] ||| fpAcceptFiring ||| fpRefuseFiring := by decide +kernel

theorem guardFiring_within (s : State) (c : Nat) (rt : Bool) : Within fpGuardFiring s (guardFiring s c rt) := by
  unfold guardFiring
  refine Within.ite ?_ ?_
  · extract_lets -lift +onlyGivenNames a1
    clear_value a1
    refine Within.ite ?_ ?_
    · exact Within.refl _ _
    · refine Within.ite ?_ ?_
      · refine Within.ite ?_ ?_
        · exact Within.refl _ _
        · refine Within.step ?_ (refuseFiring_within ..) (by decide +kernel)
          refine Within.step ?_ (cyc_within _ _) (by decide +kernel)
          exact Within.refl _ _
      · refine Within.step ?_ (acceptFiring_within ..) (by decide +kernel)
        exact Within.refl _ _
  · extract_lets -lift +onlyGivenNames a1
    clear_value a1
    refine Within.ite ?_ ?_
    · refine Within.step ?_ (acceptFiring_within ..) (by decide +kernel)
      exact Within.refl _ _
    · refine Within.ite ?_ ?_
      · refine Within.step ?_ (refuseFiring_within ..) (by decide +kernel)
        exact Within.refl _ _
      · split
        refine Within.ite ?_ ?_
        · refine Within.step ?_ (refuseFiring_within ..) (by decide +kernel)
          refine Within.ofSnd ?_ (by assumption)
          refine Within.step ?_ (free_within ..) (by decide +kernel)
          exact Within.refl _ _
        · refine Within.step ?_ (acceptFiring_within ..) (by decide +kernel)
          refine Within.ofSnd ?_ (by assumption)
          refine Within.step ?_ (free_within ..) (by decide +kernel)
          exact Within.refl _ _

/-- What `fireBound` can change. -/
def fpFireBound : Nat :=
  0x10000000000000f8000200000000000000000000000000000000000000000000000000000000000000000000000000000008000000000000000000000000000000000000000000000000000000000000000000000000000000000000000000000000000000000000000000000000000000180800000000000000000000000000000000000000000

theorem fpFireBound_eq : fpFireBound =
    fpGuardFiring := by decide +kernel

theorem fireBound_within (s : State) (src : Nat) : Within fpFireBound s (fireBound s src) := by
  unfold fireBound
  refine Within.ite ?_ ?_
  · refine Within.step ?_ (guardFiring_within ..) (by decide +kernel)
    exact Within.refl _ _
  · exact Within.refl _ _

/-- What `evfNotice` can change. -/
def fpEvfNotice : Nat :=
  0x10000000000000f8000200000000000000000000000000000000000000000000000000000000000000000000000000000008000000000000000000000000000000000000000000000000000000000000000000000000000000000000000000000000000000000000000000000000000000180800000000000000000000000000000000000000000

theorem fpEvfNotice_eq : fpEvfNotice =
    fpFireBound := by decide +kernel

theorem evfNotice_within (before s : State) : Within fpEvfNotice s (evfNotice before s) := by
  unfold evfNotice
  extract_lets -lift +onlyGivenNames a1
  clear_value a1
  refine Within.when ?_ fun a2 => ?_
  · exact Within.refl _ _
  · refine Within.step ?_ (fireBound_within ..) (by decide +kernel)
    exact Within.refl _ _

/-- What `fire` can change. -/
def fpFire : Nat :=
  0x10000000000000f8000200000000000000000000000000000000000000000000000000000000000000000000000000000008000000000000000000000000000000000000000000000000000000000000000000000000000000000000000000000000000000000000000000000000000000180800000000000000000000000000000000000000000

theorem fpFire_eq : fpFire =
    fpFireBound ||| fpEvfNotice := by decide +kernel

theorem fire_within (s : State) (src : Nat) : Within fpFire s (fire s src) := by
  unfold fire
  refine Within.step ?_ (evfNotice_within ..) (by decide +kernel)
  refine Within.step ?_ (fireBound_within ..) (by decide +kernel)
  exact Within.refl _ _

/-- What `fireChannel` can change. -/
def fpFireChannel : Nat :=
  0x10000000000000f8000200000000000000000000000000000000000000000000000000000000000000000000000000000008000000000000000000000000000000000000000000000000000000000000000000000000000000000000000000000000000000000000000000000000000000180800000000000000000000000000000000000000000

theorem fpFireChannel_eq : fpFireChannel =
    fpGuardFiring ||| fpEvfNotice := by decide +kernel

theorem fireChannel_within (s : State) (c : Nat) : Within fpFireChannel s (fireChannel s c) := by
  unfold fireChannel
  refine Within.step ?_ (evfNotice_within ..) (by decide +kernel)
  refine Within.step ?_ (guardFiring_within ..) (by decide +kernel)
  exact Within.refl _ _

/-- What `globalEvent` can change. -/
def fpGlobalEvent : Nat :=
  0x10000000000000f8000200000000000000000000000000000000000000000000000000000000000000000000000000000008000000000000000000000000000000000000000000000000000000000000000000000000000000000000000000000000000000000000000000000000000000180800000000000000000000000000000000000000000

theorem fpGlobalEvent_eq : fpGlobalEvent =
    fpFire := by decide +kernel

theorem globalEvent_within (s : State) (g : Nat) : Within fpGlobalEvent s (globalEvent s g) := by
  unfold globalEvent
  refine Within.step ?_ (fire_within ..) (by decide +kernel)
  exact Within.refl _ _

/-- What `pushRec` can change. -/
def fpPushRec : Nat :=
  0x10000000000001f8000200000000000000000000000000000000000000000000000000000000000000000000000000000008000000000000000000000000000000000000000000000000000000000000000000000000000000000000000000000000000000000000400000000000000000180800000000000000000000000000000000004000000

theorem fpPushRec_eq : fpPushRec =
    footprint [R.GLB_RESULT_DROP_CNT_COUNT, R.HST_RES_STAT_FULL] [.rq] ||| fpGlobalEvent := by decide +kernel

theorem pushRec_within (s : State) (q : Nat) (r : Rec) : Within fpPushRec s (pushRec s q r) := by
  unfold pushRec
  extract_lets -lift +onlyGivenNames a1
  clear_value a1
  refine Within.ite ?_ ?_
  · refine Within.step ?_ (rq_within _ _) (by decide +kernel)
    exact Within.refl _ _
  · extract_lets -lift +onlyGivenNames a2
    have h2 : Within fpPushRec s a2 := by
      unfold a2
      refine Within.step ?_ (rq_within _ _) (by decide +kernel)
      exact Within.refl _ _
    clear_value a2
    extract_lets -lift +onlyGivenNames a3
    have h3 : Within fpPushRec s a3 := by
      unfold a3
      refine Within.when ?_ fun a4 => ?_
      · exact h2
      · refine Within.step ?_ (set_within _ _ _ (by decide +kernel)) (by decide +kernel)
        exact Within.refl _ _
    clear_value a3
    refine Within.step ?_ (globalEvent_within ..) (by decide +kernel)
    refine Within.step ?_ (inc_within _ _ _ (by decide +kernel)) (by decide +kernel)
    exact h3

/-- What `bootLog` can change. -/
def fpBootLog : Nat :=
  0x8000000000000000000000000000000000000000000000000000000000000000000000000000000000000000000000000000000000000000000000000000000000000000000000000000000000000000000000000000000000000000000000000000000000000000000000000000000000000000007e0000000000000000000000

theorem fpBootLog_eq : fpBootLog =
    footprint [R.BOOT_LOG_FILL_NEXT, R.BOOT_LOG_FILL_ENTRIES, R.BOOT_LOG_W0_WORD, R.BOOT_LOG_W1_WORD, R.BOOT_LOG_W2_WORD,
  R.BOOT_LOG_W3_WORD] [.bootUnwritten] := by decide +kernel

theorem bootLog_within (s : State) (kind code slot data : Nat) : Within fpBootLog s (bootLog s kind code slot data) := by
  unfold bootLog
  extract_lets -lift +onlyGivenNames a1
  clear_value a1
  extract_lets -lift +onlyGivenNames a2
  have h2 : Within fpBootLog s a2 := by
    unfold a2
    refine Within.step ?_ (set_within _ _ _ (by decide +kernel)) (by decide +kernel)
    exact Within.refl _ _
  clear_value a2
  extract_lets -lift +onlyGivenNames a3
  have h3 : Within fpBootLog s a3 := by
    unfold a3
    refine Within.step ?_ (set_within _ _ _ (by decide +kernel)) (by decide +kernel)
    exact h2
  clear_value a3
  extract_lets -lift +onlyGivenNames a4
  have h4 : Within fpBootLog s a4 := by
    unfold a4
    refine Within.step ?_ (set_within _ _ _ (by decide +kernel)) (by decide +kernel)
    exact h3
  clear_value a4
  extract_lets -lift +onlyGivenNames a5
  have h5 : Within fpBootLog s a5 := by
    unfold a5
    refine Within.step ?_ (set_within _ _ _ (by decide +kernel)) (by decide +kernel)
    exact h4
  clear_value a5
  extract_lets -lift +onlyGivenNames a6
  have h6 : Within fpBootLog s a6 := by
    unfold a6
    refine Within.step ?_ (set_within _ _ _ (by decide +kernel)) (by decide +kernel)
    exact h5
  clear_value a6
  extract_lets -lift +onlyGivenNames a7
  have h7 : Within fpBootLog s a7 := by
    unfold a7
    refine Within.step ?_ (set_within _ _ _ (by decide +kernel)) (by decide +kernel)
    exact h6
  clear_value a7
  refine Within.step ?_ (bootUnwritten_within _ _) (by decide +kernel)
  exact h7

end Sys2Proof.Machine
end

