-- ==== Sys2Proof/Laws/Flags.lean ====
section
/-! SUPPORT. What each operation of Sys2Proof/Machine/Flags.lean can change. -/

set_option Elab.async false

namespace Sys2Proof.Machine

/-- What `noteTaintBit` can change. -/
def fpNoteTaintBit : Nat :=
  0x10000000000000f81002000000000000000000000000000000000000000000000000000000000000000000000000000000080000000000000000000000000000000000000000000000000000000000000000000000000000000000000000000000000000000000000000000000000000001808000000000000000000000000000000000007f0000

theorem fpNoteTaintBit_eq : fpNoteTaintBit =
    footprint [R.GLB_TAINT_STICKY_TAINT, R.GLB_TAINT_FIRST_LO_TICK_LO, R.GLB_TAINT_FIRST_HI_TICK_HI,
  R.GLB_TAINT_FIRST_SRC_VALID, R.GLB_TAINT_FIRST_SRC_INSTANCE, R.GLB_TAINT_FIRST_SRC_BLOCK, R.GLB_TAINT_FIRST_SRC_BIT] [.taintTick] |||
  fpGlobalEvent := by decide +kernel

theorem noteTaintBit_within (s : State) (p : Nat × Nat) : Within fpNoteTaintBit s (noteTaintBit s p) := by
  unfold noteTaintBit
  extract_lets -lift +onlyGivenNames a1
  clear_value a1
  refine Within.ite ?_ ?_
  · refine Within.ite ?_ ?_
    · refine Within.step ?_ (set_within _ _ _ (by decide +kernel)) (by decide +kernel)
      refine Within.step ?_ (set_within _ _ _ (by decide +kernel)) (by decide +kernel)
      exact Within.refl _ _
    · exact Within.refl _ _
  · extract_lets -lift +onlyGivenNames a2
    have h2 : Within fpNoteTaintBit s a2 := by
      unfold a2
      refine Within.step ?_ (orf_within _ _ _ (by decide +kernel)) (by decide +kernel)
      exact Within.refl _ _
    clear_value a2
    extract_lets -lift +onlyGivenNames a3
    clear_value a3
    extract_lets -lift +onlyGivenNames a4
    have h4 : Within fpNoteTaintBit s a4 := by
      unfold a4
      refine Within.when ?_ fun a5 => ?_
      · exact h2
      · extract_lets -lift +onlyGivenNames a6
        have h6 : Within fpNoteTaintBit a5 a6 := by
          unfold a6
          refine Within.step ?_ (set_within _ _ _ (by decide +kernel)) (by decide +kernel)
          refine Within.step ?_ (set_within _ _ _ (by decide +kernel)) (by decide +kernel)
          exact Within.refl _ _
        clear_value a6
        extract_lets -lift +onlyGivenNames a7
        have h7 : Within fpNoteTaintBit a5 a7 := by
          unfold a7
          refine Within.step ?_ (set_within _ _ _ (by decide +kernel)) (by decide +kernel)
          refine Within.step ?_ (set_within _ _ _ (by decide +kernel)) (by decide +kernel)
          exact h6
        clear_value a7
        extract_lets -lift +onlyGivenNames a8
        have h8 : Within fpNoteTaintBit a5 a8 := by
          unfold a8
          refine Within.step ?_ (set_within _ _ _ (by decide +kernel)) (by decide +kernel)
          refine Within.step ?_ (set_within _ _ _ (by decide +kernel)) (by decide +kernel)
          exact h7
        clear_value a8
        refine Within.step ?_ (taintTick_within _ _) (by decide +kernel)
        exact h8
    clear_value a4
    refine Within.step ?_ (globalEvent_within ..) (by decide +kernel)
    exact h4

/-- What `noteTaint` can change. -/
def fpNoteTaint : Nat :=
  0x10000000000000f81002000000000000000000000000000000000000000000000000000000000000000000000000000000080000000000000000000000000000000000000000000000000000000000000000000000000000000000000000000000000000000000000000000000000000001808000000000000000000000000000000000007f0000

theorem fpNoteTaint_eq : fpNoteTaint =
    fpNoteTaintBit := by decide +kernel

theorem noteTaint_within (s : State) (t : Taint) : Within fpNoteTaint s (noteTaint s t) := by
  unfold noteTaint
  refine Within.forAll _ ?_ fun a1 _ => ?_
  · exact Within.refl _ _
  · refine Within.step ?_ (noteTaintBit_within ..) (by decide +kernel)
    exact Within.refl _ _

/-- What `setShotTaint` can change. -/
def fpSetShotTaint : Nat := footprint [R.CHS_STATUS_SHOT_TAINT, R.CLP_STATUS_SHOT_TAINT] [.shotT]

theorem setShotTaint_within (s : State) (eng : Nat) (t : Taint) : Within fpSetShotTaint s (setShotTaint s eng t) := by
  unfold setShotTaint
  extract_lets -lift +onlyGivenNames a1
  have h1 : Within fpSetShotTaint s a1 := by
    unfold a1
    refine Within.step ?_ (shotT_within _ _) (by decide +kernel)
    exact Within.refl _ _
  clear_value a1
  refine Within.ite ?_ ?_
  · refine Within.step ?_ (set_within _ _ _ (by decide +kernel)) (by decide +kernel)
    exact h1
  · refine Within.step ?_ (set_within _ _ _ (by decide +kernel)) (by decide +kernel)
    exact h1

/-- What `addShotTaint` can change. -/
def fpAddShotTaint : Nat :=
  0x10000000000000f83002000000000000000000000000000000000000000000000000000000000000000000000000000000080000040000000000000000000000000000000000004000000000000000000000000000000000000000000000000000000000000000000000000000000000001808000000000000000000000000000000000007f0000

theorem fpAddShotTaint_eq : fpAddShotTaint =
    fpNoteTaint ||| fpSetShotTaint := by decide +kernel

theorem addShotTaint_within (s : State) (eng : Nat) (t : Taint) : Within fpAddShotTaint s (addShotTaint s eng t) := by
  unfold addShotTaint
  extract_lets -lift +onlyGivenNames a1
  clear_value a1
  refine Within.step ?_ (noteTaint_within ..) (by decide +kernel)
  refine Within.step ?_ (setShotTaint_within ..) (by decide +kernel)
  exact Within.refl _ _

/-- What `contractWrite` can change. -/
def fpContractWrite : Nat :=
  0x7f000000000

theorem fpContractWrite_eq : fpContractWrite =
    footprint [R.GLB_CONTRACT_LOG_TLO_TICK_LO, R.GLB_CONTRACT_LOG_THI_TICK_HI, R.GLB_CONTRACT_LOG_SRC_VALID,
  R.GLB_CONTRACT_LOG_SRC_INSTANCE, R.GLB_CONTRACT_LOG_SRC_BLOCK, R.GLB_CONTRACT_LOG_SRC_CODE, R.GLB_CONTRACT_LOG_PC_PC] [] := by decide +kernel

theorem contractWrite_within (s : State) (p : (Nat × Nat × Nat × Nat × Nat) × Nat) : Within fpContractWrite s (contractWrite s p) := by
  unfold contractWrite
  split
  extract_lets -lift +onlyGivenNames a1
  have h1 : Within fpContractWrite s a1 := by
    unfold a1
    refine Within.step ?_ (set_within _ _ _ (by decide +kernel)) (by decide +kernel)
    refine Within.step ?_ (set_within _ _ _ (by decide +kernel)) (by decide +kernel)
    exact Within.refl _ _
  clear_value a1
  extract_lets -lift +onlyGivenNames a2
  have h2 : Within fpContractWrite s a2 := by
    unfold a2
    refine Within.step ?_ (set_within _ _ _ (by decide +kernel)) (by decide +kernel)
    refine Within.step ?_ (set_within _ _ _ (by decide +kernel)) (by decide +kernel)
    exact h1
  clear_value a2
  extract_lets -lift +onlyGivenNames a3
  have h3 : Within fpContractWrite s a3 := by
    unfold a3
    refine Within.step ?_ (set_within _ _ _ (by decide +kernel)) (by decide +kernel)
    refine Within.step ?_ (set_within _ _ _ (by decide +kernel)) (by decide +kernel)
    exact h2
  clear_value a3
  refine Within.step ?_ (set_within _ _ _ (by decide +kernel)) (by decide +kernel)
  exact h3

/-- What `contractLog` can change. -/
def fpContractLog : Nat :=
  0x7f060000000

theorem fpContractLog_eq : fpContractLog =
    footprint [R.GLB_CONTRACT_CNT_COUNT, R.GLB_CONTRACT_FILL_ENTRIES] [] ||| fpContractWrite := by decide +kernel

theorem contractLog_within (s : State) (code blk inst pc : Nat) : Within fpContractLog s (contractLog s code blk inst pc) := by
  unfold contractLog
  extract_lets -lift +onlyGivenNames a1
  clear_value a1
  extract_lets -lift +onlyGivenNames a2
  have h2 : Within fpContractLog s a2 := by
    unfold a2
    refine Within.forAll _ ?_ fun a3 _ => ?_
    · exact Within.refl _ _
    · refine Within.step ?_ (contractWrite_within ..) (by decide +kernel)
      exact Within.refl _ _
  clear_value a2
  refine Within.step ?_ (inc_within _ _ _ (by decide +kernel)) (by decide +kernel)
  refine Within.step ?_ (set_within _ _ _ (by decide +kernel)) (by decide +kernel)
  exact h2

/-- What `chiselViolation` can change. -/
def fpChiselViolation : Nat :=
  0x10000000000000f830020000000000000000000000000000000000000000000000000000000000000000000000000000000800000400000000000000000000000000000000000040000000000000000000000000000000000000000000000000000000000000000000000000000000000018080000000000000000000000000000007f0707f0000

theorem fpChiselViolation_eq : fpChiselViolation =
    footprint [R.GLB_CONTRACT_STICKY_CHS_CODES] [] ||| fpFire ||| fpAddShotTaint ||| fpContractLog := by decide +kernel

theorem chiselViolation_within (s : State) (n : Nat) (codes : List Nat) (pc : Nat) : Within fpChiselViolation s (chiselViolation s n codes pc) :=
    by
  unfold chiselViolation
  split
  · exact Within.refl _ _
  · extract_lets -lift +onlyGivenNames a1
    have h1 : Within fpChiselViolation s a1 := by
      unfold a1
      refine Within.step ?_ (orf_within _ _ _ (by decide +kernel)) (by decide +kernel)
      exact Within.refl _ _
    clear_value a1
    extract_lets -lift +onlyGivenNames a2
    have h2 : Within fpChiselViolation s a2 := by
      unfold a2
      refine Within.step ?_ (contractLog_within ..) (by decide +kernel)
      exact h1
    clear_value a2
    refine Within.step ?_ (fire_within ..) (by decide +kernel)
    refine Within.step ?_ (addShotTaint_within ..) (by decide +kernel)
    exact h2

/-- What `caliperViolation` can change. -/
def fpCaliperViolation : Nat :=
  0x10000000000000f830020000000000000000000000000000000000000000000000000000000000000000000000000000000800000400000000000000000000000000000000000040000000000000000000000000000000000000000000000000000000000000000000000000000000000018080000000000000000000000000000007f0687f0000

theorem fpCaliperViolation_eq : fpCaliperViolation =
    footprint [R.GLB_CONTRACT_STICKY_CLP_CODES] [] ||| fpFire ||| fpAddShotTaint ||| fpContractLog := by decide +kernel

theorem caliperViolation_within (s : State) (n : Nat) (codes : List Nat) (pc : Nat) : Within fpCaliperViolation s (caliperViolation s n codes pc)
    := by
  unfold caliperViolation
  split
  · exact Within.refl _ _
  · extract_lets -lift +onlyGivenNames a1
    have h1 : Within fpCaliperViolation s a1 := by
      unfold a1
      refine Within.step ?_ (orf_within _ _ _ (by decide +kernel)) (by decide +kernel)
      exact Within.refl _ _
    clear_value a1
    extract_lets -lift +onlyGivenNames a2
    have h2 : Within fpCaliperViolation s a2 := by
      unfold a2
      refine Within.step ?_ (contractLog_within ..) (by decide +kernel)
      exact h1
    clear_value a2
    refine Within.step ?_ (fire_within ..) (by decide +kernel)
    refine Within.step ?_ (addShotTaint_within ..) (by decide +kernel)
    exact h2

end Sys2Proof.Machine
end

