-- ==== Sys2Proof/Laws/Harvest.lean ====
section
/-! SUPPORT. What each operation of Sys2Proof/Machine/Harvest.lean can change. -/

set_option Elab.async false

namespace Sys2Proof.Machine

/-- What `countDiscards` can change. -/
def fpCountDiscards : Nat := footprint [R.GLB_HARVEST_DISCARD_CNT_COUNT] []

theorem countDiscards_within (s : State) (k : Nat) : Within fpCountDiscards s (countDiscards s k) := by
  unfold countDiscards
  refine Within.step ?_ (inc_within _ _ _ (by decide +kernel)) (by decide +kernel)
  exact Within.refl _ _

/-- What `harvestMove` can change. -/
def fpHarvestMove : Nat :=
  0xc00000000000000000000000000000000000000000000000000000000000000000000000000000000000000000000000000000000000000000000000000000000000000000000000000000000000000000000000000000000000000000000000000000000000000000000000000000000000000000000000000000002000000

theorem fpHarvestMove_eq : fpHarvestMove =
    footprint [] [.harvest, .hNext] ||| fpCountDiscards := by decide +kernel

theorem harvestMove_within (s : State) (q t : Nat) : Within fpHarvestMove s (harvestMove s q t) := by
  unfold harvestMove
  extract_lets -lift +onlyGivenNames a1
  clear_value a1
  extract_lets -lift +onlyGivenNames a2
  clear_value a2
  refine Within.step ?_ (countDiscards_within ..) (by decide +kernel)
  refine Within.step ?_ (upd_harvest_hNext_within _ _ _) (by decide +kernel)
  exact Within.refl _ _

/-- What `harvestVisible` can change. -/
def fpHarvestVisible : Nat :=
  0x400200000000000000000000000000000000000000000000000000000000000000000000000000000000000000000000000000000000000000000000000000000000000000000000000000000000000000000000000000000000000000000000000000000000000000000000000000000000000000000000000000802000000

theorem fpHarvestVisible_eq : fpHarvestVisible =
    footprint [R.GLB_HARVEST_FULL_CNT_COUNT] [.harvest, .fresh] ||| fpCountDiscards := by decide +kernel

theorem harvestVisible_within (s : State) (q tag value : Nat) : Within fpHarvestVisible s (harvestVisible s q tag value) := by
  unfold harvestVisible
  extract_lets -lift +onlyGivenNames a1
  clear_value a1
  extract_lets -lift +onlyGivenNames a2
  clear_value a2
  extract_lets -lift +onlyGivenNames a3
  clear_value a3
  extract_lets -lift +onlyGivenNames a4
  refine Within.ite ?_ ?_
  · refine Within.step ?_ (countDiscards_within ..) (by decide +kernel)
    exact Within.refl _ _
  · refine Within.ite ?_ ?_
    · refine Within.step ?_ (inc_within _ _ _ (by decide +kernel)) (by decide +kernel)
      exact Within.refl _ _
    · refine Within.ite ?_ ?_
      · split
        refine Within.ite ?_ ?_
        · refine Within.step ?_ (countDiscards_within ..) (by decide +kernel)
          refine Within.ofSnd ?_ (by assumption)
          refine Within.step ?_ (free_within ..) (by decide +kernel)
          exact Within.refl _ _
        · unfold a4
          beta_reduce
          refine Within.step ?_ (harvest_within _ _) (by decide +kernel)
          refine Within.ofSnd ?_ (by assumption)
          refine Within.step ?_ (free_within ..) (by decide +kernel)
          exact Within.refl _ _
      · refine Within.ite ?_ ?_
        · refine Within.step ?_ (countDiscards_within ..) (by decide +kernel)
          exact Within.refl _ _
        · unfold a4
          beta_reduce
          refine Within.step ?_ (harvest_within _ _) (by decide +kernel)
          exact Within.refl _ _

/-- What `harvestTake` can change. -/
def fpHarvestTake : Nat :=
  0x10000000000000f9f00200000000000000000000000000000000000000000000000000000000000000000000000000000008000004000000000000000000000000000000000000400000000000000000000000000000000000000000000000000000000000000000000000000000000000180800000000000000000000000000000000003ff0000

theorem fpHarvestTake_eq : fpHarvestTake =
    footprint [R.GLB_HARVEST_LATE_CNT_COUNT, R.GLB_HARVEST_THIN_CNT_COUNT] [.harvest, .hLast] ||| fpAddShotTaint |||
  fpHarvestMove := by decide +kernel

theorem harvestTake_within (s : State) (p : HPoint) : Within fpHarvestTake s (harvestTake s p).2 := by
  unfold harvestTake
  extract_lets +onlyGivenNames a1
  clear_value a1
  extract_lets +onlyGivenNames a2
  clear_value a2
  extract_lets +onlyGivenNames a3
  clear_value a3
  extract_lets +onlyGivenNames a4
  have h4 : Within fpHarvestTake s a4 := by
    unfold a4
    refine Within.step ?_ (hLast_within _ _) (by decide +kernel)
    exact Within.refl _ _
  clear_value a4
  split
  · extract_lets +onlyGivenNames a5
    have h5 : Within fpHarvestTake s a5 := by
      unfold a5
      refine Within.step ?_ (harvest_within _ _) (by decide +kernel)
      exact h4
    clear_value a5
    extract_lets +onlyGivenNames a6
    have h6 : Within fpHarvestTake s a6 := by
      unfold a6
      refine Within.when ?_ fun a7 => ?_
      · exact h5
      · refine Within.step ?_ (inc_within _ _ _ (by decide +kernel)) (by decide +kernel)
        exact Within.refl _ _
    clear_value a6
    dsimp only
    refine Within.step ?_ (harvestMove_within ..) (by decide +kernel)
    exact h6
  · extract_lets +onlyGivenNames a5
    have h5 : Within fpHarvestTake s a5 := by
      unfold a5
      refine Within.step ?_ (inc_within _ _ _ (by decide +kernel)) (by decide +kernel)
      exact h4
    clear_value a5
    extract_lets +onlyGivenNames a6
    have h6 : Within fpHarvestTake s a6 := by
      unfold a6
      refine Within.step ?_ (addShotTaint_within ..) (by decide +kernel)
      exact h5
    clear_value a6
    dsimp only
    refine Within.step ?_ (harvestMove_within ..) (by decide +kernel)
    exact h6

/-- What `harvestShotStart` can change. -/
def fpHarvestShotStart : Nat :=
  0x1c00000000000000000000000000000000000000000000000000000000000000000000000000000000000000000000000000000000000000000000000000000000000000000000000000000000000000000000000000000000000000000000000000000000000000000000000000000000000000000000000000000002000000

theorem fpHarvestShotStart_eq : fpHarvestShotStart =
    footprint [] [.hLast] ||| fpHarvestMove := by decide +kernel

theorem harvestShotStart_within (s : State) : Within fpHarvestShotStart s (harvestShotStart s) := by
  unfold harvestShotStart
  refine Within.forAll _ ?_ fun a1 _ => ?_
  · refine Within.step ?_ (hLast_within _ _) (by decide +kernel)
    exact Within.refl _ _
  · refine Within.step ?_ (harvestMove_within ..) (by decide +kernel)
    exact Within.refl _ _

/-- What `harvestFlush` can change. -/
def fpHarvestFlush : Nat := footprint [] [.harvest, .hNext, .hLast]

theorem harvestFlush_within (s : State) : Within fpHarvestFlush s (harvestFlush s) := by
  unfold harvestFlush
  refine Within.step ?_ (upd_harvest_hNext_hLast_within _ _ _ _) (by decide +kernel)
  exact Within.refl _ _

/-- What `execQueueEntryVisible` can change. -/
def fpExecQueueEntryVisible : Nat :=
  0x400200000000000000000000000000000000000000000000000000000000000000000000000000000000000000000000000000000000000000000000000000000000000000000000000000000000000000000000000000000000000000000000000000000000000000000000000000000000000000000000000000802000000

theorem fpExecQueueEntryVisible_eq : fpExecQueueEntryVisible =
    fpHarvestVisible := by decide +kernel

theorem execQueueEntryVisible_within (q : Fin 192) (tag : BitVec 16) (value : Word36) (s : State) : Completes fpExecQueueEntryVisible s
    (execQueueEntryVisible q tag value s) := by
  unfold execQueueEntryVisible
  refine Completes.next ?_
  refine Within.step ?_ (harvestVisible_within ..) (by decide +kernel)
  exact Within.refl _ _

end Sys2Proof.Machine
end

