-- ==== Sys2Proof/Laws/Mailbox.lean ====
section
/-! SUPPORT. What each operation of Sys2Proof/Machine/Mailbox.lean can change. -/

set_option Elab.async false

namespace Sys2Proof.Machine

/-- What `clpEvent` can change. -/
def fpClpEvent : Nat := footprint [R.CLP_EVT_EPEND, R.CLP_EV_MERGE_CNT_COUNT] []

theorem clpEvent_within (s : State) (n k : Nat) : Within fpClpEvent s (clpEvent s n k) := by
  unfold clpEvent
  refine Within.ite ?_ ?_
  · refine Within.step ?_ (inc_within _ _ _ (by decide +kernel)) (by decide +kernel)
    exact Within.refl _ _
  · refine Within.step ?_ (orf_within _ _ _ (by decide +kernel)) (by decide +kernel)
    exact Within.refl _ _

/-- What `mbxAttn` can change. -/
def fpMbxAttn : Nat :=
  0x10000000000000f8000200000000000000000000000000000000000000000000000000000000000000000000000000000008000000000000000000000000000000000000000000000000000000000000000000000000000000000000000000000000000000000000000000000000000000180800000000000000000000000000000000000000000

theorem fpMbxAttn_eq : fpMbxAttn =
    fpFire := by decide +kernel

theorem mbxAttn_within (s : State) (e : Nat) : Within fpMbxAttn s (mbxAttn s e) := by
  unfold mbxAttn
  refine Within.step ?_ (fire_within ..) (by decide +kernel)
  exact Within.refl _ _

/-- What `setMbxIn` can change. -/
def fpSetMbxIn : Nat := footprint [R.MBX_TXSTAT_FILL, R.MBX_RXSTAT_FILL] [.mbxQ]

theorem setMbxIn_within (s : State) (e : Nat) (l : List MbxEnt) : Within fpSetMbxIn s (setMbxIn s e l) := by
  unfold setMbxIn
  refine Within.step ?_ (set_within _ _ _ (by decide +kernel)) (by decide +kernel)
  refine Within.step ?_ (set_within _ _ _ (by decide +kernel)) (by decide +kernel)
  refine Within.step ?_ (mbxQ_within _ _) (by decide +kernel)
  exact Within.refl _ _

/-- What `mbxPush` can change. -/
def fpMbxPush : Nat :=
  0x11000000000000f800020000000000000000000000000000000000000000000000000000000000000000000000000000000800000000000000000000000000000000000000000000000000000000000000000000000000000000000000000000000000000000000000000000000100d100180800000000000000000000000000000000000000000

theorem fpMbxPush_eq : fpMbxPush =
    footprint [R.MBX_TXSTAT_COLLIDE, R.MBX_RXSTAT_COLLIDE, R.MBX_COLLIDE_CNT_COUNT] [] ||| fpMbxAttn ||| fpSetMbxIn := by decide +kernel

theorem mbxPush_within (s : State) (e word p : Nat) : Within fpMbxPush s (mbxPush s e word p) := by
  unfold mbxPush
  refine Within.ite ?_ ?_
  · exact Within.refl _ _
  · extract_lets -lift +onlyGivenNames a1
    clear_value a1
    extract_lets -lift +onlyGivenNames a2
    clear_value a2
    refine Within.ite ?_ ?_
    · refine Within.step ?_ (setMbxIn_within ..) (by decide +kernel)
      exact Within.refl _ _
    · extract_lets -lift +onlyGivenNames a3
      clear_value a3
      extract_lets -lift +onlyGivenNames a4
      have h4 : Within fpMbxPush s a4 := by
        unfold a4
        refine Within.step ?_ (setMbxIn_within ..) (by decide +kernel)
        exact Within.refl _ _
      clear_value a4
      extract_lets -lift +onlyGivenNames a5
      have h5 : Within fpMbxPush s a5 := by
        unfold a5
        refine Within.step ?_ (inc_within _ _ _ (by decide +kernel)) (by decide +kernel)
        refine Within.step ?_ (set_within _ _ _ (by decide +kernel)) (by decide +kernel)
        refine Within.step ?_ (set_within _ _ _ (by decide +kernel)) (by decide +kernel)
        exact h4
      clear_value a5
      refine Within.when ?_ fun a6 => ?_
      · exact h5
      · refine Within.step ?_ (mbxAttn_within ..) (by decide +kernel)
        exact Within.refl _ _

/-- What `mbxAccept` can change. -/
def fpMbxAccept : Nat := footprint [R.MBX_TXSTAT_DB_PEND] [.mbxRing]

theorem mbxAccept_within (s : State) (e : Nat) : Within fpMbxAccept s (mbxAccept s e) := by
  unfold mbxAccept
  refine Within.step ?_ (set_within _ _ _ (by decide +kernel)) (by decide +kernel)
  refine Within.step ?_ (mbxRing_within _ _) (by decide +kernel)
  exact Within.refl _ _

/-- What `mbxReadAccept` can change. -/
def fpMbxReadAccept : Nat :=
  0x200000000000000000000000000000000000000000000000000000000000000000000000000000000000000000000000000000000000000000000000000000000000000000000000000000000000000000000000000000000000000000000000000000000000000000000000000000400000000000000000000000000000000000000000000000

theorem fpMbxReadAccept_eq : fpMbxReadAccept =
    fpMbxAccept := by decide +kernel

theorem mbxReadAccept_within (s : State) (e : Nat) : Within fpMbxReadAccept s (mbxReadAccept s e) := by
  unfold mbxReadAccept
  refine Within.step ?_ (mbxAccept_within ..) (by decide +kernel)
  refine Within.step ?_ (cyc_within _ _) (by decide +kernel)
  exact Within.refl _ _

/-- What `mbxPop` can change. -/
def fpMbxPop : Nat :=
  0x3000000000000000000000000000000000000000000000000000000000000000000000000000000000000000000000000000000000000000000000000000000000000000000000000000000000000000000000000000000000000000000000000000000000000000000000000000f9420000000000000000000000000000000000000000000000

theorem fpMbxPop_eq : fpMbxPop =
    footprint [R.MBX_RX_WORD, R.MBX_RXMETA_VALID, R.MBX_RXMETA_ORPHAN, R.MBX_RXMETA_EPOCH, R.MBX_RXMETA_SENDER] [] |||
  fpSetMbxIn ||| fpMbxReadAccept := by decide +kernel

theorem mbxPop_within (s : State) (e : Nat) : Within fpMbxPop s (mbxPop s e) := by
  unfold mbxPop
  extract_lets -lift +onlyGivenNames a1
  have h1 : Within fpMbxPop s a1 := by
    unfold a1
    refine Within.step ?_ (mbxReadAccept_within ..) (by decide +kernel)
    exact Within.refl _ _
  clear_value a1
  split
  · refine Within.step ?_ (set_within _ _ _ (by decide +kernel)) (by decide +kernel)
    refine Within.step ?_ (set_within _ _ _ (by decide +kernel)) (by decide +kernel)
    exact h1
  · extract_lets -lift +onlyGivenNames a2
    have h2 : Within fpMbxPop s a2 := by
      unfold a2
      refine Within.step ?_ (set_within _ _ _ (by decide +kernel)) (by decide +kernel)
      refine Within.step ?_ (setMbxIn_within ..) (by decide +kernel)
      exact h1
    clear_value a2
    extract_lets -lift +onlyGivenNames a3
    have h3 : Within fpMbxPop s a3 := by
      unfold a3
      refine Within.step ?_ (set_within _ _ _ (by decide +kernel)) (by decide +kernel)
      refine Within.step ?_ (set_within _ _ _ (by decide +kernel)) (by decide +kernel)
      exact h2
    clear_value a3
    refine Within.step ?_ (set_within _ _ _ (by decide +kernel)) (by decide +kernel)
    refine Within.step ?_ (set_within _ _ _ (by decide +kernel)) (by decide +kernel)
    exact h3

/-- What `doorbellWire` can change. -/
def fpDoorbellWire : Nat := footprint [R.GLB_PLN_STATUS_STATE] []

theorem doorbellWire_within (s : State) (p : Nat) : Within fpDoorbellWire s (doorbellWire s p) := by
  unfold doorbellWire
  refine Within.when ?_ fun a1 => ?_
  · exact Within.refl _ _
  · refine Within.step ?_ (set_within _ _ _ (by decide +kernel)) (by decide +kernel)
    exact Within.refl _ _

/-- What `mbxRingFrom` can change. -/
def fpMbxRingFrom : Nat :=
  0x12000000000000f800020000000000000000000000000000000000000000000000000000000000000000000000000000000c000040000000000000000000000000000000000000000000000000000000000000000000000000000000000000000000000000000000000000000000002400180800000000000000000000000000400000000000000

theorem fpMbxRingFrom_eq : fpMbxRingFrom =
    footprint [R.MBX_TXSTAT_DB_PEND, R.MBX_RXSTAT_DB] [.mbxRing] ||| fpClpEvent ||| fpMbxAttn ||| fpDoorbellWire := by decide +kernel

theorem mbxRingFrom_within (s : State) (e : Nat) : Within fpMbxRingFrom s (mbxRingFrom s e) := by
  unfold mbxRingFrom
  refine Within.ite ?_ ?_
  · exact Within.refl _ _
  · extract_lets -lift +onlyGivenNames a1
    clear_value a1
    extract_lets -lift +onlyGivenNames a2
    have h2 : Within fpMbxRingFrom s a2 := by
      unfold a2
      refine Within.step ?_ (mbxAttn_within ..) (by decide +kernel)
      refine Within.step ?_ (set_within _ _ _ (by decide +kernel)) (by decide +kernel)
      exact Within.refl _ _
    clear_value a2
    extract_lets -lift +onlyGivenNames a3
    clear_value a3
    extract_lets -lift +onlyGivenNames a4
    have h4 : Within fpMbxRingFrom s a4 := by
      unfold a4
      refine Within.when ?_ fun a5 => ?_
      · exact h2
      · refine Within.step ?_ (clpEvent_within ..) (by decide +kernel)
        exact Within.refl _ _
    clear_value a4
    extract_lets -lift +onlyGivenNames a5
    have h5 : Within fpMbxRingFrom s a5 := by
      unfold a5
      refine Within.step ?_ (doorbellWire_within ..) (by decide +kernel)
      exact h4
    clear_value a5
    refine Within.ite ?_ ?_
    · exact h5
    · refine Within.step ?_ (set_within _ _ _ (by decide +kernel)) (by decide +kernel)
      refine Within.step ?_ (mbxRing_within _ _) (by decide +kernel)
      exact h5

/-- What `execMbxTimeout` can change. -/
def fpExecMbxTimeout : Nat :=
  0x12000000000000f8000200000000000000000000000000000000000000000000000000000000000000000000000000000008000000000000000000000000000000000000000000000000000000000000000000000000000000000000000000000000000000000000000000000000000480180800000000000000000000000000000000000000000

theorem fpExecMbxTimeout_eq : fpExecMbxTimeout =
    footprint [R.MBX_TXSTAT_TIMEOUT, R.MBX_TXSTAT_DB_PEND] [.mbxRing] ||| fpMbxAttn := by decide +kernel

theorem execMbxTimeout_within (m : Fin 32) (b : Bool) (s : State) : Completes fpExecMbxTimeout s (execMbxTimeout m b s) := by
  unfold execMbxTimeout
  extract_lets -lift +onlyGivenNames a1
  clear_value a1
  extract_lets -lift +onlyGivenNames a2
  clear_value a2
  refine Completes.next ?_
  refine Within.ite ?_ ?_
  · exact Within.refl _ _
  · refine Within.ite ?_ ?_
    · extract_lets -lift +onlyGivenNames a3
      have h3 : Within fpExecMbxTimeout s a3 := by
        unfold a3
        refine Within.step ?_ (set_within _ _ _ (by decide +kernel)) (by decide +kernel)
        refine Within.step ?_ (mbxRing_within _ _) (by decide +kernel)
        exact Within.refl _ _
      clear_value a3
      refine Within.step ?_ (mbxAttn_within ..) (by decide +kernel)
      refine Within.step ?_ (set_within _ _ _ (by decide +kernel)) (by decide +kernel)
      exact h3
    · exact Within.refl _ _

/-- What `mbxFlush` can change. -/
def fpMbxFlush : Nat :=
  0x13000000000000f8000200000000000000000000000000000000000000000000000000000000000000000000000000000008000000000000000000000000000000000000000000000000000000000000000000000000000000000000000000000000000000000000000000000000009e00180800000000000000000000000000000000000000000

theorem fpMbxFlush_eq : fpMbxFlush =
    footprint [R.MBX_TXSTAT_FLUSH, R.MBX_TXSTAT_FLUSHED] [] ||| fpMbxAttn ||| fpSetMbxIn ||| fpMbxAccept := by decide +kernel

theorem mbxFlush_within (s : State) (e : Nat) : Within fpMbxFlush s (mbxFlush s e) := by
  unfold mbxFlush
  extract_lets -lift +onlyGivenNames a1
  clear_value a1
  extract_lets -lift +onlyGivenNames a2
  have h2 : Within fpMbxFlush s a2 := by
    unfold a2
    refine Within.step ?_ (mbxAccept_within ..) (by decide +kernel)
    refine Within.step ?_ (setMbxIn_within ..) (by decide +kernel)
    exact Within.refl _ _
  clear_value a2
  extract_lets -lift +onlyGivenNames a3
  have h3 : Within fpMbxFlush s a3 := by
    unfold a3
    refine Within.step ?_ (inc_within _ _ _ (by decide +kernel)) (by decide +kernel)
    exact h2
  clear_value a3
  refine Within.step ?_ (mbxAttn_within ..) (by decide +kernel)
  refine Within.step ?_ (set_within _ _ _ (by decide +kernel)) (by decide +kernel)
  exact h3

/-- What `partyReset` can change. -/
def fpPartyReset : Nat :=
  0x13000000000000f8000200000000000000000000000000000000000000000000000000000000000000000000000000000008000000000000000000000000000000000000000000000000000000000000000000000000000000000000000000000000000000000000000000000002009e00180800000000000000000000000000000000000000000

theorem fpPartyReset_eq : fpPartyReset =
    footprint [R.MBX_EPOCH_EPOCH] [] ||| fpMbxFlush := by decide +kernel

theorem partyReset_within (s : State) (p : Nat) : Within fpPartyReset s (partyReset s p) := by
  unfold partyReset
  extract_lets -lift +onlyGivenNames a1
  have h1 : Within fpPartyReset s a1 := by
    unfold a1
    refine Within.step ?_ (set_within _ _ _ (by decide +kernel)) (by decide +kernel)
    exact Within.refl _ _
  clear_value a1
  refine Within.forAll _ ?_ fun a2 _ => ?_
  · exact h1
  · refine Within.step ?_ (mbxFlush_within ..) (by decide +kernel)
    exact Within.refl _ _

/-- What `execPartyReset` can change. -/
def fpExecPartyReset : Nat :=
  0x13000000000000f8000200000000000000000000000000000000000000000000000000000000000000000000000000000008000000000000000000000000000000000000000000000000000000000000000000000000000000000000000000000000000000000000000000000002009e00180800000000000000000000000000000000000000000

theorem fpExecPartyReset_eq : fpExecPartyReset =
    fpPartyReset := by decide +kernel

theorem execPartyReset_within (p : BitVec 8) (s : State) : Completes fpExecPartyReset s (execPartyReset p s) := by
  unfold execPartyReset
  refine Completes.next ?_
  refine Within.ite ?_ ?_
  · refine Within.step ?_ (partyReset_within ..) (by decide +kernel)
    exact Within.refl _ _
  · exact Within.refl _ _

/-- What `mbxCfgWritten` can change. -/
def fpMbxCfgWritten : Nat :=
  0x13000000000000f8000200000000000000000000000000000000000000000000000000000000000000000000000000000008000000000000000000000000000000000000000000000000000000000000000000000000000000000000000000000000000000000000000000000000709e00180800000000000000000000000000000000000000000

theorem fpMbxCfgWritten_eq : fpMbxCfgWritten =
    footprint [R.MBX_CFG_CFG_ERR, R.MBX_CFG_END_B, R.MBX_CFG_END_A] [] ||| fpMbxFlush := by decide +kernel

theorem mbxCfgWritten_within (before s : State) (m : Nat) : Within fpMbxCfgWritten s (mbxCfgWritten before s m) := by
  unfold mbxCfgWritten
  refine Within.ite ?_ ?_
  · refine Within.step ?_ (set_within _ _ _ (by decide +kernel)) (by decide +kernel)
    refine Within.step ?_ (set_within _ _ _ (by decide +kernel)) (by decide +kernel)
    exact Within.refl _ _
  · extract_lets -lift +onlyGivenNames a1
    clear_value a1
    extract_lets -lift +onlyGivenNames a2
    clear_value a2
    extract_lets -lift +onlyGivenNames a3
    clear_value a3
    extract_lets -lift +onlyGivenNames a4
    have h4 : Within fpMbxCfgWritten s a4 := by
      unfold a4
      refine Within.step ?_ (mbxFlush_within ..) (by decide +kernel)
      refine Within.step ?_ (mbxFlush_within ..) (by decide +kernel)
      exact Within.refl _ _
    clear_value a4
    refine Within.step ?_ (set_within _ _ _ (by decide +kernel)) (by decide +kernel)
    exact h4

/-- What `mbxTxstatWritten` can change. -/
def fpMbxTxstatWritten : Nat := footprint [R.MBX_TXSTAT_FLUSHED] []

theorem mbxTxstatWritten_within (s : State) (e v : Nat) : Within fpMbxTxstatWritten s (mbxTxstatWritten s e v) := by
  unfold mbxTxstatWritten
  refine Within.ite ?_ ?_
  · exact Within.refl _ _
  · refine Within.step ?_ (set_within _ _ _ (by decide +kernel)) (by decide +kernel)
    exact Within.refl _ _

/-- What `mbxLoad` can change. -/
def fpMbxLoad : Nat :=
  0x3000000000000000002000000000000000000000000000000000000000000000000000000000000000000000000000000000000000000000000000000000000000000000000000000000000000000000000000000000000000000000000000000000000000000000000000000000f9420000000000000000000000000000000000000000000000

theorem fpMbxLoad_eq : fpMbxLoad =
    footprint [] [.fresh] ||| fpMbxReadAccept ||| fpMbxPop := by decide +kernel

theorem mbxLoad_within (s : State) (n a : Nat) : Within fpMbxLoad s (mbxLoad s n a).2 := by
  unfold mbxLoad
  split
  · dsimp only
    exact Within.refl _ _
  · split
    · extract_lets +onlyGivenNames a1
      have h1 : Within fpMbxLoad s a1 := by
        unfold a1
        refine Within.step ?_ (mbxPop_within ..) (by decide +kernel)
        exact Within.refl _ _
      clear_value a1
      dsimp only
      exact h1
    · split
      · extract_lets +onlyGivenNames a1
        clear_value a1
        dsimp only
        refine Within.step ?_ (mbxReadAccept_within ..) (by decide +kernel)
        exact Within.refl _ _
      · split
        dsimp only
        refine Within.ofSnd ?_ (by assumption)
        refine Within.step ?_ (free_within ..) (by decide +kernel)
        exact Within.refl _ _

/-- What `mbxStore` can change. -/
def fpMbxStore : Nat :=
  0x13000000000000f800020000000000000000000000000000000000000000000000000000000000000000000000000000000c00004000000000000000000000000000000000000000000000000000000000000000000000000000000000000000000000000000000000000000000100f500180800000000000000000000000000400000000000000

theorem fpMbxStore_eq : fpMbxStore =
    fpMbxPush ||| fpMbxRingFrom := by decide +kernel

theorem mbxStore_within (s : State) (n a v : Nat) : Within fpMbxStore s (mbxStore s n a v) := by
  unfold mbxStore
  split
  · exact Within.refl _ _
  · refine Within.ite ?_ ?_
    · refine Within.step ?_ (mbxPush_within ..) (by decide +kernel)
      exact Within.refl _ _
    · refine Within.ite ?_ ?_
      · refine Within.step ?_ (mbxRingFrom_within ..) (by decide +kernel)
        exact Within.refl _ _
      · exact Within.refl _ _

/-- What `mbxClpAccept` can change. -/
def fpMbxClpAccept : Nat :=
  0x200000000000000000000000000000000000000000000000000000000000000000000000000000000000000000000000000000000000000000000000000000000000000000000000000000000000000000000000000000000000000000000000000000000000000000000000000000400000000000000000000000000000000000000000000000

theorem fpMbxClpAccept_eq : fpMbxClpAccept =
    fpMbxAccept := by decide +kernel

theorem mbxClpAccept_within (s : State) (n : Nat) : Within fpMbxClpAccept s (mbxClpAccept s n) := by
  unfold mbxClpAccept
  split
  · refine Within.step ?_ (mbxAccept_within ..) (by decide +kernel)
    exact Within.refl _ _
  · exact Within.refl _ _

end Sys2Proof.Machine
end

