-- ==== Sys2Proof/Laws/Access.lean ====
section
/-! SUPPORT. What each operation of Sys2Proof/Machine/Access.lean can change. -/

set_option Elab.async false

namespace Sys2Proof.Machine

/-- What `worldViolation` can change. -/
def fpWorldViolation : Nat :=
  0x10000000000000f8000200000000000000000000000000000000000000000000000000000000000000000000000000000008000000000000000000000000000000000000000000000000000000000000000000000000000000000000000000000000000000000000000000000000000000180800000000000001fe0000000000000000000000000

theorem fpWorldViolation_eq : fpWorldViolation =
    footprint [R.SEC_VIOL_CNT_COUNT, R.SEC_VIOL_SRC_VALID, R.SEC_VIOL_SRC_WRITE, R.SEC_VIOL_SRC_INSTANCE,
  R.SEC_VIOL_SRC_MASTER, R.SEC_VIOL_SRC_KIND, R.SEC_VIOL_ADDR_LO_ADDR, R.SEC_VIOL_ADDR_HI_ADDR] [] ||| fpGlobalEvent := by decide +kernel

theorem worldViolation_within (s : State) (m : Master) (write : Bool) (kind inst addr : Nat) : Within fpWorldViolation s (worldViolation s m
    write kind inst addr) := by
  unfold worldViolation
  extract_lets -lift +onlyGivenNames a1
  have h1 : Within fpWorldViolation s a1 := by
    unfold a1
    refine Within.step ?_ (inc_within _ _ _ (by decide +kernel)) (by decide +kernel)
    exact Within.refl _ _
  clear_value a1
  extract_lets -lift +onlyGivenNames a2
  have h2 : Within fpWorldViolation s a2 := by
    unfold a2
    refine Within.when ?_ fun a3 => ?_
    · exact h1
    · extract_lets -lift +onlyGivenNames a4
      clear_value a4
      extract_lets -lift +onlyGivenNames a5
      have h5 : Within fpWorldViolation a3 a5 := by
        unfold a5
        refine Within.step ?_ (cyc_within _ _) (by decide +kernel)
        exact Within.refl _ _
      clear_value a5
      extract_lets -lift +onlyGivenNames a6
      have h6 : Within fpWorldViolation a3 a6 := by
        unfold a6
        refine Within.step ?_ (set_within _ _ _ (by decide +kernel)) (by decide +kernel)
        refine Within.step ?_ (set_within _ _ _ (by decide +kernel)) (by decide +kernel)
        exact h5
      clear_value a6
      extract_lets -lift +onlyGivenNames a7
      have h7 : Within fpWorldViolation a3 a7 := by
        unfold a7
        refine Within.step ?_ (set_within _ _ _ (by decide +kernel)) (by decide +kernel)
        refine Within.step ?_ (set_within _ _ _ (by decide +kernel)) (by decide +kernel)
        exact h6
      clear_value a7
      extract_lets -lift +onlyGivenNames a8
      have h8 : Within fpWorldViolation a3 a8 := by
        unfold a8
        refine Within.step ?_ (set_within _ _ _ (by decide +kernel)) (by decide +kernel)
        exact h7
      clear_value a8
      refine Within.step ?_ (set_within _ _ _ (by decide +kernel)) (by decide +kernel)
      refine Within.step ?_ (set_within _ _ _ (by decide +kernel)) (by decide +kernel)
      exact h8
  clear_value a2
  refine Within.step ?_ (globalEvent_within ..) (by decide +kernel)
  exact h2

/-- What `accessError` can change. -/
def fpAccessError : Nat :=
  0x7e0000000000000000000000000000000000000000000000000000000000

theorem fpAccessError_eq : fpAccessError =
    footprint [R.HST_AERR_CNT_COUNT, R.HST_AERR_SRC_VALID, R.HST_AERR_SRC_WRITE, R.HST_AERR_SRC_MASTER,
  R.HST_AERR_SRC_KIND, R.HST_AERR_ADDR_ADDR] [] := by decide +kernel

theorem accessError_within (s : State) (m : Master) (write : Bool) (kind addr : Nat) : Within fpAccessError s (accessError s m write kind addr)
    := by
  unfold accessError
  extract_lets -lift +onlyGivenNames a1
  have h1 : Within fpAccessError s a1 := by
    unfold a1
    refine Within.step ?_ (inc_within _ _ _ (by decide +kernel)) (by decide +kernel)
    exact Within.refl _ _
  clear_value a1
  refine Within.when ?_ fun a2 => ?_
  · exact h1
  · extract_lets -lift +onlyGivenNames a3
    have h3 : Within fpAccessError a2 a3 := by
      unfold a3
      refine Within.step ?_ (set_within _ _ _ (by decide +kernel)) (by decide +kernel)
      refine Within.step ?_ (set_within _ _ _ (by decide +kernel)) (by decide +kernel)
      exact Within.refl _ _
    clear_value a3
    extract_lets -lift +onlyGivenNames a4
    have h4 : Within fpAccessError a2 a4 := by
      unfold a4
      refine Within.step ?_ (set_within _ _ _ (by decide +kernel)) (by decide +kernel)
      refine Within.step ?_ (set_within _ _ _ (by decide +kernel)) (by decide +kernel)
      exact h3
    clear_value a4
    refine Within.step ?_ (set_within _ _ _ (by decide +kernel)) (by decide +kernel)
    exact h4

/-- `noteWorld` changes no part: it notes the field's value at the start of the cycle. -/
theorem noteWorld_within (s : State) (f : Fld) (i : Nat) : Within 0 s (noteWorld s f i) := by
  unfold noteWorld
  exact Within.ite (cyc_within _ _) (Within.refl _ _)

/-- What `fieldWrite` can change: its field. -/
theorem fieldWrite_within (s : State) {f : Fld} (i v : Nat) (hf : Fits f) : Within (2 ^ f.id) s (fieldWrite s f i v) := by
  have h0 : ∀ t, Within (2 ^ f.id) t (noteWorld t f i) := fun t => (noteWorld_within t f i).mono (Nat.zero_and _)
  unfold fieldWrite
  extract_lets -lift +onlyGivenNames a1
  clear_value a1
  refine Within.ite (Within.refl _ _) ?_
  split
  · exact Within.refl _ _
  · exact Within.refl _ _
  · exact (h0 _).trans (put_within _ _ _ hf)
  · exact (h0 _).trans (put_within _ _ _ hf)
  · exact put_within s _ _ hf
  · exact Within.ite (Within.refl _ _) ((put_within s _ _ hf).step (cyc_within _ _) (Nat.zero_and _))

/-- What `regStore` can change: the fields of the register, and the access-error log. -/
theorem regStore_within {K : Nat} (s : State) (m : Master) (r : Reg) (i off v : Nat)
    (hr : ∀ f ∈ r.flds, Fits f ∧ 2 ^ f.id &&& K = 2 ^ f.id) (hk : fpAccessError &&& K = fpAccessError) :
    Within K s (regStore s m r i off v) := by
  unfold regStore
  extract_lets -lift +onlyGivenNames a1
  clear_value a1
  extract_lets -lift +onlyGivenNames a2
  have h2 : Within K s a2 := by
    unfold a2
    refine Within.when (Within.refl _ _) fun a3 => ?_
    exact Within.step (Within.refl _ _) (accessError_within ..) hk
  clear_value a2
  refine Within.ite ?_ ?_
  · exact Within.forAll_mem _ h2 fun t f hf => Within.step (Within.refl _ _) (clr_within _ _ (hr f hf).1) (hr f hf).2
  · refine Within.forAll_mem _ h2 fun t f hf => ?_
    have hf' := hr f (List.mem_filter.1 hf).1
    exact Within.step (Within.refl _ _) (fieldWrite_within _ _ _ hf'.1) hf'.2

end Sys2Proof.Machine
end

