-- ==== Sys2Proof/Laws/Hbm.lean ====
section
/-! SUPPORT. What each operation of Sys2Proof/Machine/Hbm.lean can change. -/

set_option Elab.async false

namespace Sys2Proof.Machine

/-- What `hbmPut` can change. -/
def fpHbmPut : Nat := footprint [] [.hbm]

theorem hbmPut_within (s : State) (a : Nat) (b : BitVec 8) : Within fpHbmPut s (hbmPut s a b) := by
  unfold hbmPut
  split
  · refine Within.step (Within.refl _ _) (hbm_within _ _ fun c => ⟨swf_sset _ _ c.1, fun p hp => ?_⟩) (by decide +kernel)
    rcases mem_sset hp with ⟨rfl, -⟩ | hp
    · assumption
    · exact c.2 p hp
  · exact Within.refl _ _

/-- What `hbmWrite` can change. -/
def fpHbmWrite : Nat :=
  0x8000000000000000000000000000000000000000000000000000000000000000000000000000000000000000000000000000000000000000000000000000000000000000000000000000000000000000000000000000000000000000000000000000000000000000000000000000000000000000000000000000000000000000000000

theorem fpHbmWrite_eq : fpHbmWrite =
    fpHbmPut := by decide +kernel

theorem hbmWrite_within (s : State) (a n v : Nat) : Within fpHbmWrite s (hbmWrite s a n v) := by
  unfold hbmWrite
  refine Within.forAll _ ?_ fun a1 _ => ?_
  · exact Within.refl _ _
  · refine Within.step ?_ (hbmPut_within ..) (by decide +kernel)
    exact Within.refl _ _

/-- What `hbmWriteSlots` can change. -/
def fpHbmWriteSlots : Nat :=
  0x8000000000000000000000000000000000000000000000000000000000000000000000000000000000000000000000000000000000000000000000000000000000000000000000000000000000000000000000000000000000000000000000000000000000000000000000000000000000000000000000000000000000000000000000

theorem fpHbmWriteSlots_eq : fpHbmWriteSlots =
    fpHbmWrite := by decide +kernel

theorem hbmWriteSlots_within (s : State) (a : Nat) (l : List Nat) : Within fpHbmWriteSlots s (hbmWriteSlots s a l) := by
  unfold hbmWriteSlots
  refine Within.forAll _ ?_ fun a1 _ => ?_
  · exact Within.refl _ _
  · refine Within.step ?_ (hbmWrite_within ..) (by decide +kernel)
    exact Within.refl _ _

/-- What `hbmGate` can change. -/
def fpHbmGate : Nat :=
  0x10000000000000f80002000000000000000000000000000000000000000000000000000000000000000000000000000000080000000000000000000000000000000000000000000000000000000000000000000000000000000000000000000000000000000000000007e0000000000000180800000000000001fe0000000000000000000000000

theorem fpHbmGate_eq : fpHbmGate =
    fpWorldViolation ||| fpAccessError := by decide +kernel

theorem hbmGate_within (s : State) (m : Master) (secure write : Bool) (kind a n : Nat) : Within fpHbmGate s (hbmGate s m secure write kind a n).2
    := by
  unfold hbmGate
  split
  · dsimp only
    refine Within.step ?_ (accessError_within ..) (by decide +kernel)
    exact Within.refl _ _
  · split
    · dsimp only
      refine Within.step ?_ (worldViolation_within ..) (by decide +kernel)
      exact Within.refl _ _
    · dsimp only
      exact Within.refl _ _

/-- What `dataWrite` can change. -/
def fpDataWrite : Nat :=
  0x10000000080000f80002000000000000000000000000000000000000000000000000000000000000000000000000000000080000000000000000000000000000000000000000000000000000000000000000000000000000000000000000000000000000000000000007e0000000000000180800000000000001fe0000000000000000000000000

theorem fpDataWrite_eq : fpDataWrite =
    fpHbmWrite ||| fpHbmGate := by decide +kernel

theorem dataWrite_within (s : State) (secure : Bool) (a v : Nat) : Within fpDataWrite s (dataWrite s secure a v) := by
  unfold dataWrite
  split
  · refine Within.step ?_ (hbmWrite_within ..) (by decide +kernel)
    refine Within.ofSnd ?_ (by assumption)
    refine Within.step ?_ (hbmGate_within ..) (by decide +kernel)
    exact Within.refl _ _
  · refine Within.ofSnd ?_ (by assumption)
    refine Within.step ?_ (hbmGate_within ..) (by decide +kernel)
    exact Within.refl _ _

/-- What `dataDeliver` can change. -/
def fpDataDeliver : Nat :=
  0x10000000080000f80002000000000000000000000000000000000000000000000000000000000000000000000000000000080000000000000000000000000000000000000000000000000000000000000000000000000000000000000000000000000000000000000007e0000000000000180800000000000001fe0000000000000000000000000

theorem fpDataDeliver_eq : fpDataDeliver =
    fpWorldViolation ||| fpAccessError ||| fpHbmWriteSlots := by decide +kernel

theorem dataDeliver_within (s : State) (secure : Bool) (a : Nat) (l : List Nat) (n : Nat) : Within fpDataDeliver s (dataDeliver s secure a l n)
    := by
  unfold dataDeliver
  refine Within.ite ?_ ?_
  · refine Within.step ?_ (accessError_within ..) (by decide +kernel)
    exact Within.refl _ _
  · refine Within.ite ?_ ?_
    · refine Within.forAll _ ?_ fun a1 _ => ?_
      · exact Within.refl _ _
      · refine Within.step ?_ (worldViolation_within ..) (by decide +kernel)
        exact Within.refl _ _
    · refine Within.step ?_ (hbmWriteSlots_within ..) (by decide +kernel)
      exact Within.refl _ _

/-- What `dataBeat` can change. -/
def fpDataBeat : Nat :=
  0x10000000080000f80002000000000000000000000000000000000000000000000000000000000000000000000000000000080000000000000000000000000000000000000000000000000000000000000000000000000000000000000000000000000000000000000007e0000000000000180800000000000001fe0000000000000000000000000

theorem fpDataBeat_eq : fpDataBeat =
    fpWorldViolation ||| fpDataWrite := by decide +kernel

theorem dataBeat_within (s : State) (secure : Bool) (l : List (Nat × Nat)) : Within fpDataBeat s (dataBeat s secure l) := by
  unfold dataBeat
  split
  · refine Within.step ?_ (worldViolation_within ..) (by decide +kernel)
    exact Within.refl _ _
  · refine Within.forAll _ ?_ fun a1 _ => ?_
    · exact Within.refl _ _
    · refine Within.step ?_ (dataWrite_within ..) (by decide +kernel)
      exact Within.refl _ _

/-- What `dataRead` can change. -/
def fpDataRead : Nat :=
  0x10000000000000f80002000000000000000000000000000000000000000000000000000000000000000000000000000000080000000000000000000000000000000000000000000000000000000000000000000000000000000000000000000000000000000000000007e0000000000000180800000000000001fe0000000000000000000000000

theorem fpDataRead_eq : fpDataRead =
    fpHbmGate := by decide +kernel

theorem dataRead_within (s : State) (secure : Bool) (a n : Nat) : Within fpDataRead s (dataRead s secure a n).2 := by
  unfold dataRead
  split
  · dsimp only
    refine Within.ofSnd ?_ (by assumption)
    refine Within.step ?_ (hbmGate_within ..) (by decide +kernel)
    exact Within.refl _ _
  · dsimp only
    refine Within.ofSnd ?_ (by assumption)
    refine Within.step ?_ (hbmGate_within ..) (by decide +kernel)
    exact Within.refl _ _

/-- What `eccCount` can change. -/
def fpEccCount : Nat := footprint [R.SVA_ECC_COR_CNT_COUNT, R.SVA_ECC_UNC_CNT_COUNT] []

theorem eccCount_within (s : State) (a ecc : Nat) : Within fpEccCount s (eccCount s a ecc) := by
  unfold eccCount
  extract_lets -lift +onlyGivenNames a1
  clear_value a1
  split
  · refine Within.step ?_ (inc_within _ _ _ (by decide +kernel)) (by decide +kernel)
    exact Within.refl _ _
  · refine Within.step ?_ (inc_within _ _ _ (by decide +kernel)) (by decide +kernel)
    exact Within.refl _ _
  · exact Within.refl _ _

end Sys2Proof.Machine
end

