-- ==== Sys2Proof/Laws/Results.lean ====
section
/-! SUPPORT. What each operation of Sys2Proof/Machine/Results.lean can change. -/

set_option Elab.async false

namespace Sys2Proof.Machine

/-- What `setResQueue` can change. -/
def fpSetResQueue : Nat := footprint [R.HST_RES_STAT_WAITING] [.rq]

theorem setResQueue_within (s : State) (q : Nat) (z : RQueue) : Within fpSetResQueue s (setResQueue s q z) := by
  unfold setResQueue
  refine Within.step ?_ (set_within _ _ _ (by decide +kernel)) (by decide +kernel)
  refine Within.step ?_ (rq_within _ _) (by decide +kernel)
  exact Within.refl _ _

/-- What `resClose` can change. -/
def fpResClose : Nat :=
  0x100000000000000000000000000000000000000000000000000000000000000000000000000000000000000000000000000000000000000000000000000000000000000000000000000000000000000000000000000000000000000000000000000800000000000000000000000000000000000000000000000000000000000000

theorem fpResClose_eq : fpResClose =
    fpSetResQueue := by decide +kernel

theorem resClose_within (s : State) (q flags : Nat) : Within fpResClose s (resClose s q flags) := by
  unfold resClose
  extract_lets -lift +onlyGivenNames a1
  clear_value a1
  refine Within.ite ?_ ?_
  · exact Within.refl _ _
  · refine Within.step ?_ (setResQueue_within ..) (by decide +kernel)
    exact Within.refl _ _

/-- What `execResultBlockClose` can change. -/
def fpExecResultBlockClose : Nat :=
  0x100000000000000000000000000000000000000000000000000000000000000000000000000000000000000000000000000000000000000000000000000000000000000000000000000000000000000000000000000000000000000000000000000800000000000000000000000000000000000000000000000000000000000000

theorem fpExecResultBlockClose_eq : fpExecResultBlockClose =
    fpResClose := by decide +kernel

theorem execResultBlockClose_within (q : Fin 25) (s : State) : Completes fpExecResultBlockClose s (execResultBlockClose q s) := by
  unfold execResultBlockClose
  extract_lets -lift +onlyGivenNames a1
  clear_value a1
  refine Completes.next ?_
  refine Within.ite ?_ ?_
  · exact Within.refl _ _
  · refine Within.ite ?_ ?_
    · refine Within.step ?_ (resClose_within ..) (by decide +kernel)
      exact Within.refl _ _
    · refine Within.ite ?_ ?_
      · refine Within.step ?_ (resClose_within ..) (by decide +kernel)
        exact Within.refl _ _
      · refine Within.ite ?_ ?_
        · refine Within.step ?_ (resClose_within ..) (by decide +kernel)
          exact Within.refl _ _
        · exact Within.refl _ _

/-- What `execResultFlushTimeout` can change. -/
def fpExecResultFlushTimeout : Nat :=
  0x100000000000000000000000000000000000000000000000000000000000000000000000000000000000000000000000000000000000000000000000000000000000000000000000000000000000000000000000000000000000000000000000000800000000000000000000000000000000000000000000000000000000000000

theorem fpExecResultFlushTimeout_eq : fpExecResultFlushTimeout =
    fpResClose := by decide +kernel

theorem execResultFlushTimeout_within (q : Fin 25) (s : State) : Completes fpExecResultFlushTimeout s (execResultFlushTimeout q s) := by
  unfold execResultFlushTimeout
  extract_lets -lift +onlyGivenNames a1
  clear_value a1
  refine Completes.next ?_
  refine Within.ite ?_ ?_
  · exact Within.refl _ _
  · refine Within.ite ?_ ?_
    · refine Within.step ?_ (resClose_within ..) (by decide +kernel)
      exact Within.refl _ _
    · exact Within.refl _ _

/-- What `resLeaveRun` can change. -/
def fpResLeaveRun : Nat :=
  0x100000000000000000000000000000000000000000000000000000000000000000000000000000000000000000000000000000000000000000000000000000000000000000000000000000000000000000000000000000000000000000000000000800000000000000000000000000000000000000000000000000000000000000

theorem fpResLeaveRun_eq : fpResLeaveRun =
    fpResClose := by decide +kernel

theorem resLeaveRun_within (s : State) : Within fpResLeaveRun s (resLeaveRun s) := by
  unfold resLeaveRun
  refine Within.forAll _ ?_ fun a1 _ => ?_
  · exact Within.refl _ _
  · refine Within.step ?_ (resClose_within ..) (by decide +kernel)
    exact Within.refl _ _

/-- What `resRun` can change. -/
def fpResRun : Nat := footprint [R.HST_RES_WR_INDEX, R.HST_RES_RD_INDEX] []

theorem resRun_within (s : State) : Within fpResRun s (resRun s) := by
  unfold resRun
  refine Within.forAll _ ?_ fun a1 _ => ?_
  · exact Within.refl _ _
  · refine Within.step ?_ (set_within _ _ _ (by decide +kernel)) (by decide +kernel)
    refine Within.step ?_ (set_within _ _ _ (by decide +kernel)) (by decide +kernel)
    exact Within.refl _ _

/-- What `execResultBlockWrite` can change. -/
def fpExecResultBlockWrite : Nat :=
  0x10000000080001f80002000000000000000000000000000000000000000000000000000000000000000000000000000000080000000000000000000000000000000000000000000000000000000000000000000000000000000000000000000000000000000000009007e0000000000000180800000000000001fe0000000000000000000000000

theorem fpExecResultBlockWrite_eq : fpExecResultBlockWrite =
    footprint [R.HST_RES_WR_INDEX] [] ||| fpDataDeliver ||| fpSetResQueue := by decide +kernel

theorem execResultBlockWrite_within (q : Fin 25) (s : State) : Completes fpExecResultBlockWrite s (execResultBlockWrite q s) := by
  unfold execResultBlockWrite
  extract_lets -lift +onlyGivenNames a1
  clear_value a1
  refine Completes.next ?_
  refine Within.ite ?_ ?_
  · exact Within.refl _ _
  · split
    · exact Within.refl _ _
    · refine Within.ite ?_ ?_
      · exact Within.refl _ _
      · extract_lets -lift +onlyGivenNames a2
        clear_value a2
        extract_lets -lift +onlyGivenNames a3
        have h3 : Within fpExecResultBlockWrite s a3 := by
          unfold a3
          refine Within.step ?_ (dataDeliver_within ..) (by decide +kernel)
          exact Within.refl _ _
        clear_value a3
        refine Within.step ?_ (setResQueue_within ..) (by decide +kernel)
        refine Within.step ?_ (set_within _ _ _ (by decide +kernel)) (by decide +kernel)
        exact h3

/-- What `resRdWritten` can change. -/
def fpResRdWritten : Nat := footprint [R.HST_RES_RD_INDEX] []

theorem resRdWritten_within (before s : State) (q : Nat) : Within fpResRdWritten s (resRdWritten before s q) := by
  unfold resRdWritten
  extract_lets -lift +onlyGivenNames a1
  clear_value a1
  extract_lets -lift +onlyGivenNames a2
  clear_value a2
  refine Within.ite ?_ ?_
  · exact Within.refl _ _
  · refine Within.step ?_ (set_within _ _ _ (by decide +kernel)) (by decide +kernel)
    exact Within.refl _ _

/-- What `resCfgWritten` can change. -/
def fpResCfgWritten : Nat := footprint [R.HST_RES_BASE_LO_ADDR, R.HST_RES_BASE_HI_ADDR, R.HST_RES_SIZE_ENABLE, R.HST_RES_SIZE_BLOCKS_LOG2] []

theorem resCfgWritten_within (before s : State) (q : Nat) : Within fpResCfgWritten s (resCfgWritten before s q) := by
  unfold resCfgWritten
  refine Within.ite ?_ (Within.refl _ _)
  refine Within.forAll_mem _ (Within.refl _ _) fun t f hf => ?_
  have h : ∀ f ∈ [R.HST_RES_BASE_LO_ADDR, R.HST_RES_BASE_HI_ADDR, R.HST_RES_SIZE_BLOCKS_LOG2, R.HST_RES_SIZE_ENABLE],
    Fits f ∧ 2 ^ f.id &&& fpResCfgWritten = 2 ^ f.id := by decide +kernel
  exact Within.step (Within.refl _ _) (set_within _ _ _ (h f hf).1) (h f hf).2

end Sys2Proof.Machine
end

