-- ==== Sys2Proof/Laws/Markers.lean ====
section
/-! SUPPORT. What each operation of Sys2Proof/Machine/Markers.lean can change. -/

set_option Elab.async false

namespace Sys2Proof.Machine

/-- What `setLevel` can change. -/
def fpSetLevel : Nat := footprint [R.MKO_CTRL_PIN, R.MKO_CTRL_LEVEL] []

theorem setLevel_within (s : State) (m : Nat) (b : Bool) : Within fpSetLevel s (setLevel s m b) := by
  unfold setLevel
  refine Within.step ?_ (set_within _ _ _ (by decide +kernel)) (by decide +kernel)
  refine Within.step ?_ (set_within _ _ _ (by decide +kernel)) (by decide +kernel)
  exact Within.refl _ _

/-- What `applyMark` can change. -/
def fpApplyMark : Nat :=
  0x4000000000000000000000000000000000000000000000000000000000000000000000000000000000000000000000000000000000000000000000000000000000000300000000000000000000000000000000000000000000000000000000000000000000000000000000000000000000000000000000000000000000000000000

theorem fpApplyMark_eq : fpApplyMark =
    footprint [] [.mkEnd] ||| fpSetLevel := by decide +kernel

theorem applyMark_within (s : State) (o : MkOp) : Within fpApplyMark s (applyMark s o) := by
  unfold applyMark
  extract_lets -lift +onlyGivenNames a1
  have h1 : Within fpApplyMark s a1 := by
    unfold a1
    refine Within.step ?_ (mkEnd_within _ _) (by decide +kernel)
    exact Within.refl _ _
  clear_value a1
  split
  · refine Within.step ?_ (setLevel_within ..) (by decide +kernel)
    exact h1
  · refine Within.step ?_ (setLevel_within ..) (by decide +kernel)
    exact h1
  · extract_lets -lift +onlyGivenNames a2
    have h2 : Within fpApplyMark s a2 := by
      unfold a2
      refine Within.step ?_ (setLevel_within ..) (by decide +kernel)
      exact h1
    clear_value a2
    refine Within.step ?_ (mkEnd_within _ _) (by decide +kernel)
    exact h2
  · refine Within.step ?_ (setLevel_within ..) (by decide +kernel)
    exact h1

/-- What `marksDue` can change. -/
def fpMarksDue : Nat :=
  0x6000000000000000000000000000000000000000000000000000000000000000000000000000000000000000000000000000000000000000000000000000000000000300000000000000000000000000000000000000000000000000000000000000000000000000000000000000000000000000000000000000000000000000000

theorem fpMarksDue_eq : fpMarksDue =
    footprint [] [.mkOps] ||| fpApplyMark := by decide +kernel

theorem marksDue_within (s : State) : Within fpMarksDue s (marksDue s) := by
  unfold marksDue
  extract_lets -lift +onlyGivenNames a1
  clear_value a1
  extract_lets -lift +onlyGivenNames a2
  have h2 : Within fpMarksDue s a2 := by
    unfold a2
    refine Within.step ?_ (mkOps_within _ _) (by decide +kernel)
    exact Within.refl _ _
  clear_value a2
  refine Within.forAll _ ?_ fun a3 _ => ?_
  · exact h2
  · refine Within.step ?_ (applyMark_within ..) (by decide +kernel)
    exact Within.refl _ _

/-- What `orderMark` can change. -/
def fpOrderMark : Nat := footprint [] [.mkOps]

theorem orderMark_within (s : State) (m t act width : Nat) (mark : Bool) : Within fpOrderMark s (orderMark s m t act width mark) := by
  unfold orderMark
  refine Within.step ?_ (mkOps_within _ _) (by decide +kernel)
  exact Within.refl _ _

/-- What `execMarkerPulseEnd` can change. -/
def fpExecMarkerPulseEnd : Nat :=
  0x4000000000000000000000000000000000000000000000000000000000000000000000000000000000000000000000000000000000000000000000000000000000000300000000000000000000000000000000000000000000000000000000000000000000000000000000000000000000000000000000000000000000000000000

theorem fpExecMarkerPulseEnd_eq : fpExecMarkerPulseEnd =
    footprint [] [.mkEnd] ||| fpSetLevel := by decide +kernel

theorem execMarkerPulseEnd_within (m : Fin 64) (s : State) : Completes fpExecMarkerPulseEnd s (execMarkerPulseEnd m s) := by
  unfold execMarkerPulseEnd
  refine Completes.next ?_
  refine Within.ite ?_ ?_
  · extract_lets -lift +onlyGivenNames a1
    have h1 : Within fpExecMarkerPulseEnd s a1 := by
      unfold a1
      refine Within.step ?_ (setLevel_within ..) (by decide +kernel)
      exact Within.refl _ _
    clear_value a1
    refine Within.step ?_ (mkEnd_within _ _) (by decide +kernel)
    exact h1
  · exact Within.refl _ _

/-- What `markersHold` can change. -/
def fpMarkersHold : Nat := footprint [] [.mkOps, .mkEnd]

theorem markersHold_within (s : State) : Within fpMarkersHold s (markersHold s) := by
  unfold markersHold
  refine Within.step ?_ (upd_mkOps_mkEnd_within _ _ _) (by decide +kernel)
  exact Within.refl _ _

/-- What `markersRun` can change. -/
def fpMarkersRun : Nat :=
  0x6000000000000000000000000000000000000000000000000000000000000000000000000000000000000000000000000000000000000000000000000000000000000300000000000000000000000000000000000000000000000000000000000000000000000000000000000000000000000000000000000000000000000000000

theorem fpMarkersRun_eq : fpMarkersRun =
    footprint [] [.mkOps, .mkEnd] ||| fpSetLevel := by decide +kernel

theorem markersRun_within (s : State) : Within fpMarkersRun s (markersRun s) := by
  unfold markersRun
  refine Within.forAll _ ?_ fun a1 _ => ?_
  · refine Within.step ?_ (upd_mkOps_mkEnd_within _ _ _) (by decide +kernel)
    exact Within.refl _ _
  · refine Within.step ?_ (setLevel_within ..) (by decide +kernel)
    exact Within.refl _ _

/-- What `markerWritten` can change. -/
def fpMarkerWritten : Nat :=
  0x700000000000000000000000000000000000000000000000000000000000000000000000000000000000000000000000000000000000000000000000000000

theorem fpMarkerWritten_eq : fpMarkerWritten =
    footprint [R.MKO_CTRL_CLAMP] [] ||| fpSetLevel := by decide +kernel

theorem markerWritten_within (s : State) (m : Nat) : Within fpMarkerWritten s (markerWritten s m) := by
  unfold markerWritten
  extract_lets -lift +onlyGivenNames a1
  clear_value a1
  refine Within.step ?_ (setLevel_within ..) (by decide +kernel)
  refine Within.step ?_ (set_within _ _ _ (by decide +kernel)) (by decide +kernel)
  exact Within.refl _ _

end Sys2Proof.Machine
end

