-- ==== Sys2Proof/Laws/Segments.lean ====
section
/-! SUPPORT. What each operation of Sys2Proof/Machine/Segments.lean can change. -/

set_option Elab.async false

namespace Sys2Proof.Machine

/-- What `setSlot` can change. -/
def fpSetSlot : Nat := footprint [] [.slots]

theorem setSlot_within (s : State) (z : Nat) (x : Slot) : Within fpSetSlot s (setSlot s z x) := by
  unfold setSlot
  refine Within.step ?_ (slots_within _ _) (by decide +kernel)
  exact Within.refl _ _

/-- What `setMode` can change. -/
def fpSetMode : Nat := footprint [R.SEG_SLOT_MODE, R.TON_SLOT_BUSY, R.TON_SLOT_MODE] []

theorem setMode_within (s : State) (z m : Nat) : Within fpSetMode s (setMode s z m) := by
  unfold setMode
  extract_lets -lift +onlyGivenNames a1
  have h1 : Within fpSetMode s a1 := by
    unfold a1
    refine Within.step ?_ (set_within _ _ _ (by decide +kernel)) (by decide +kernel)
    refine Within.step ?_ (set_within _ _ _ (by decide +kernel)) (by decide +kernel)
    exact Within.refl _ _
  clear_value a1
  refine Within.step ?_ (set_within _ _ _ (by decide +kernel)) (by decide +kernel)
  exact h1

/-- What `showBind` can change. -/
def fpShowBind : Nat := footprint [R.TON_SLOT_PT, R.TON_SLOT_FRAME, R.TON_SLOT_AMP] []

theorem showBind_within (s : State) (z : Nat) (b : Bind) : Within fpShowBind s (showBind s z b) := by
  unfold showBind
  refine Within.step ?_ (set_within _ _ _ (by decide +kernel)) (by decide +kernel)
  refine Within.step ?_ (set_within _ _ _ (by decide +kernel)) (by decide +kernel)
  refine Within.step ?_ (set_within _ _ _ (by decide +kernel)) (by decide +kernel)
  exact Within.refl _ _

/-- What `fireMarkers` can change. -/
def fpFireMarkers : Nat :=
  0x2000000000000000000000000000000000000000000000000000000000000000000000000000000000000000000000000000000000000000000000000000000000000000000000000000000000000000000000000000000000000000000000000000000000000000000000000000000000000000000000000000000000000000000

theorem fpFireMarkers_eq : fpFireMarkers =
    fpOrderMark := by decide +kernel

theorem fireMarkers_within (s : State) (n t mask width : Nat) : Within fpFireMarkers s (fireMarkers s n t mask width) := by
  unfold fireMarkers
  refine Within.forAll _ ?_ fun a1 _ => ?_
  · exact Within.refl _ _
  · refine Within.step ?_ (orderMark_within ..) (by decide +kernel)
    exact Within.refl _ _

/-- What `slotReturn` can change. -/
def fpSlotReturn : Nat :=
  0x80000000000000000000000000000000000000000000000000000000000000000000000000000000000000000000000000000000000000000000000018000000001f800000000000000000000000000000000000000000000000000000000000000000000000000000000000000000000000000000000000000000000000000000000000

theorem fpSlotReturn_eq : fpSlotReturn =
    footprint [R.SEG_SLOT_LATCH, R.SEG_SLOT_STOP_PEND, R.SEG_SLOT_REPOINT_PEND, R.SEG_SLOT_ENTRY, R.SEG_SLOT_REMAIN] [] |||
  fpSetSlot ||| fpSetMode := by decide +kernel

theorem slotReturn_within (s : State) (z : Nat) : Within fpSlotReturn s (slotReturn s z) := by
  unfold slotReturn
  extract_lets -lift +onlyGivenNames a1
  clear_value a1
  extract_lets -lift +onlyGivenNames a2
  have h2 : Within fpSlotReturn s a2 := by
    unfold a2
    refine Within.step ?_ (setSlot_within ..) (by decide +kernel)
    exact Within.refl _ _
  clear_value a2
  extract_lets -lift +onlyGivenNames a3
  have h3 : Within fpSlotReturn s a3 := by
    unfold a3
    refine Within.step ?_ (set_within _ _ _ (by decide +kernel)) (by decide +kernel)
    refine Within.step ?_ (set_within _ _ _ (by decide +kernel)) (by decide +kernel)
    refine Within.step ?_ (set_within _ _ _ (by decide +kernel)) (by decide +kernel)
    exact h2
  clear_value a3
  refine Within.step ?_ (setMode_within ..) (by decide +kernel)
  refine Within.step ?_ (set_within _ _ _ (by decide +kernel)) (by decide +kernel)
  refine Within.step ?_ (set_within _ _ _ (by decide +kernel)) (by decide +kernel)
  exact h3

/-- What `occStart` can change. -/
def fpOccStart : Nat :=
  0x10000008000020f8300200000000000000000000000000000000000000000000000000000000000000000000000000000008000004000000000000000000000f8000000001f80040000000000000000000000000000000000000000000000000000000000000000000000000000000000018080000000000000000000000000000007f0707f0000

theorem fpOccStart_eq : fpOccStart =
    footprint [R.SEG_SLOT_ENTRY, R.SEG_SLOT_REMAIN] [] ||| fpChiselViolation ||| fpSetSlot ||| fpSetMode ||| fpShowBind |||
  fpFireMarkers ||| fpSlotReturn := by decide +kernel

theorem occStart_within (s : State) (z : Nat) (q : TabReq) (entry remain : Nat) (first : Bool) : Within fpOccStart s (occStart s z q entry remain
    first) := by
  unfold occStart
  extract_lets -lift +onlyGivenNames a1
  clear_value a1
  refine Within.ite ?_ ?_
  · refine Within.step ?_ (chiselViolation_within ..) (by decide +kernel)
    refine Within.step ?_ (slotReturn_within ..) (by decide +kernel)
    exact Within.refl _ _
  · extract_lets -lift +onlyGivenNames a2
    clear_value a2
    extract_lets -lift +onlyGivenNames a3
    clear_value a3
    extract_lets -lift +onlyGivenNames a4
    clear_value a4
    extract_lets -lift +onlyGivenNames a5
    have h5 : Within fpOccStart s a5 := by
      unfold a5
      refine Within.step ?_ (setSlot_within ..) (by decide +kernel)
      exact Within.refl _ _
    clear_value a5
    extract_lets -lift +onlyGivenNames a6
    have h6 : Within fpOccStart s a6 := by
      unfold a6
      refine Within.step ?_ (setMode_within ..) (by decide +kernel)
      refine Within.step ?_ (set_within _ _ _ (by decide +kernel)) (by decide +kernel)
      refine Within.step ?_ (set_within _ _ _ (by decide +kernel)) (by decide +kernel)
      exact h5
    clear_value a6
    extract_lets -lift +onlyGivenNames a7
    have h7 : Within fpOccStart s a7 := by
      unfold a7
      refine Within.step ?_ (showBind_within ..) (by decide +kernel)
      exact h6
    clear_value a7
    refine Within.when ?_ fun a8 => ?_
    · exact h7
    · refine Within.step ?_ (fireMarkers_within ..) (by decide +kernel)
      exact Within.refl _ _

/-- What `runStart` can change. -/
def fpRunStart : Nat :=
  0x10000008000020f8300200000000000000000000000000000000000000000000000000000000000000000000000000000008000004000000000000000000000f8000000001f80040000000000000000000000000000000000000000000000000000000000000000000000000000000000018080000000000000000000000000000007f0707f0000

theorem fpRunStart_eq : fpRunStart =
    fpOccStart := by decide +kernel

theorem runStart_within (s : State) (z : Nat) (q : TabReq) (entry : Nat) : Within fpRunStart s (runStart s z q entry) := by
  unfold runStart
  refine Within.step ?_ (occStart_within ..) (by decide +kernel)
  exact Within.refl _ _

/-- What `execTableHandover` can change. -/
def fpExecTableHandover : Nat :=
  0x10000008000020f8300200000000000000000000000000000000000000000000000000000000000000000000000000000008000004000000000000000000000f8000000001f80040000000000000000000000000000000000000000000000000000000000000000000000000000000000018080000000000000000000000000000007f0707f0000

theorem fpExecTableHandover_eq : fpExecTableHandover =
    footprint [R.SEG_SLOT_LATCH] [] ||| fpSetSlot ||| fpRunStart := by decide +kernel

theorem execTableHandover_within (n : Fin 128) (k : Fin 8) (s : State) : Completes fpExecTableHandover s (execTableHandover n k s) := by
  unfold execTableHandover
  extract_lets -lift +onlyGivenNames a1
  clear_value a1
  extract_lets -lift +onlyGivenNames a2
  clear_value a2
  refine Completes.next ?_
  split
  · refine Within.ite ?_ ?_
    · refine Within.step ?_ (runStart_within ..) (by decide +kernel)
      refine Within.step ?_ (setSlot_within ..) (by decide +kernel)
      refine Within.step ?_ (set_within _ _ _ (by decide +kernel)) (by decide +kernel)
      exact Within.refl _ _
    · exact Within.refl _ _
  · exact Within.refl _ _

/-- What `execTableDecisionPoint` can change. -/
def fpExecTableDecisionPoint : Nat :=
  0x10000008000000f83002000000000000000000000000000000000000000000000000000000000000000000000000000000080000040000000000000000000000000000000070004000000000000000000000000000000000000000000000000000000000000000000000000000000000001808000000000000000000000000000000000007f0000

theorem fpExecTableDecisionPoint_eq : fpExecTableDecisionPoint =
    footprint [R.SEG_SLOT_LATCH, R.SEG_SLOT_STOP_PEND, R.SEG_SLOT_REPOINT_PEND] [] ||| fpAddShotTaint |||
  fpSetSlot := by decide +kernel

theorem execTableDecisionPoint_within (n : Fin 128) (k : Fin 8) (s : State) : Completes fpExecTableDecisionPoint s (execTableDecisionPoint n k s)
    := by
  unfold execTableDecisionPoint
  extract_lets -lift +onlyGivenNames a1
  clear_value a1
  extract_lets -lift +onlyGivenNames a2
  clear_value a2
  extract_lets -lift +onlyGivenNames a3
  clear_value a3
  refine Completes.ite ?_ ?_
  · extract_lets -lift +onlyGivenNames a4
    clear_value a4
    extract_lets -lift +onlyGivenNames a5
    have h5 : Within fpExecTableDecisionPoint s a5 := by
      unfold a5
      refine Within.when ?_ fun a6 => ?_
      · exact Within.refl _ _
      · refine Within.step ?_ (addShotTaint_within ..) (by decide +kernel)
        exact Within.refl _ _
    clear_value a5
    extract_lets -lift +onlyGivenNames a6
    clear_value a6
    refine Completes.next ?_
    refine Within.ite ?_ ?_
    · refine Within.step ?_ (setSlot_within ..) (by decide +kernel)
      refine Within.step ?_ (set_within _ _ _ (by decide +kernel)) (by decide +kernel)
      exact h5
    · split
      · refine Within.step ?_ (setSlot_within ..) (by decide +kernel)
        refine Within.step ?_ (set_within _ _ _ (by decide +kernel)) (by decide +kernel)
        exact h5
      · refine Within.ite ?_ ?_
        · refine Within.step ?_ (setSlot_within ..) (by decide +kernel)
          refine Within.step ?_ (set_within _ _ _ (by decide +kernel)) (by decide +kernel)
          exact h5
        · refine Within.ite ?_ ?_
          · refine Within.step ?_ (setSlot_within ..) (by decide +kernel)
            exact h5
          · refine Within.ite ?_ ?_
            · refine Within.step ?_ (setSlot_within ..) (by decide +kernel)
              exact h5
            · refine Within.ite ?_ ?_
              · refine Within.step ?_ (setSlot_within ..) (by decide +kernel)
                exact h5
              · refine Within.step ?_ (setSlot_within ..) (by decide +kernel)
                exact h5
  · refine Completes.next ?_
    exact Within.refl _ _

/-- What `execOccurrenceStart` can change. -/
def fpExecOccurrenceStart : Nat :=
  0x10000008000020f8300200000000000000000000000000000000000000000000000000000000000000000000000000000008000004000000000000000000000f8000000003f80040000000000000000000000000000000000000000000000000000000000000000000000000000000000018080000000000000000000000000000007f0707f0000

theorem fpExecOccurrenceStart_eq : fpExecOccurrenceStart =
    footprint [R.SEG_JUMP_CNT_COUNT] [] ||| fpSlotReturn ||| fpOccStart ||| fpRunStart := by decide +kernel

theorem execOccurrenceStart_within (n : Fin 128) (k : Fin 8) (s : State) : Completes fpExecOccurrenceStart s (execOccurrenceStart n k s) := by
  unfold execOccurrenceStart
  extract_lets -lift +onlyGivenNames a1
  clear_value a1
  extract_lets -lift +onlyGivenNames a2
  clear_value a2
  refine Completes.ite ?_ ?_
  · extract_lets -lift +onlyGivenNames a3
    clear_value a3
    refine Completes.next ?_
    refine Within.ite ?_ ?_
    · refine Within.step ?_ (slotReturn_within ..) (by decide +kernel)
      exact Within.refl _ _
    · split
      · exact Within.refl _ _
      · refine Within.step ?_ (slotReturn_within ..) (by decide +kernel)
        exact Within.refl _ _
      · refine Within.step ?_ (runStart_within ..) (by decide +kernel)
        exact Within.refl _ _
      · refine Within.step ?_ (runStart_within ..) (by decide +kernel)
        refine Within.step ?_ (inc_within _ _ _ (by decide +kernel)) (by decide +kernel)
        exact Within.refl _ _
      · refine Within.step ?_ (occStart_within ..) (by decide +kernel)
        exact Within.refl _ _
      · refine Within.step ?_ (runStart_within ..) (by decide +kernel)
        exact Within.refl _ _
  · refine Completes.next ?_
    exact Within.refl _ _

/-- What `latchFiring` can change. -/
def fpLatchFiring : Nat :=
  0x800000000000000000000000000000000000000000000000000000000000000000000000000000000000000000000000000000000000000000000000000000000041000000000000000000000000000000000000000000000000000000000000000000000000000000000000000000000000000000000000000000000000000000000000

theorem fpLatchFiring_eq : fpLatchFiring =
    footprint [R.SEG_SLOT_LATCH, R.SEG_MERGE_CNT_COUNT] [] ||| fpSetSlot := by decide +kernel

theorem latchFiring_within (c : Nat) (s : State) (z : Nat) : Within fpLatchFiring s (latchFiring c s z) := by
  unfold latchFiring
  extract_lets -lift +onlyGivenNames a1
  clear_value a1
  extract_lets -lift +onlyGivenNames a2
  clear_value a2
  extract_lets -lift +onlyGivenNames a3
  clear_value a3
  refine Within.ite ?_ ?_
  · refine Within.ite ?_ ?_
    · refine Within.step ?_ (inc_within _ _ _ (by decide +kernel)) (by decide +kernel)
      exact Within.refl _ _
    · refine Within.step ?_ (setSlot_within ..) (by decide +kernel)
      refine Within.step ?_ (set_within _ _ _ (by decide +kernel)) (by decide +kernel)
      exact Within.refl _ _
  · exact Within.refl _ _

/-- What `slotsDone` can change. -/
def fpSlotsDone : Nat :=
  0x800000000000000000000000000000000000000000000000000000000000000000000000000000000000000000000000000000000000000000000000180000000000800000000000000000000000000000000000000000000000000000000000000000000000000000000000000000000000000000000000000000000000000000000000

theorem fpSlotsDone_eq : fpSlotsDone =
    fpSetSlot ||| fpSetMode := by decide +kernel

theorem slotsDone_within (s : State) : Within fpSlotsDone s (slotsDone s) := by
  unfold slotsDone
  refine Within.forAll _ ?_ fun a1 _ => ?_
  · exact Within.refl _ _
  · split
    · refine Within.step ?_ (setMode_within ..) (by decide +kernel)
      refine Within.step ?_ (setSlot_within ..) (by decide +kernel)
      exact Within.refl _ _
    · refine Within.step ?_ (setSlot_within ..) (by decide +kernel)
      exact Within.refl _ _
    · exact Within.refl _ _

/-- What `slotsHold` can change. -/
def fpSlotsHold : Nat :=
  0x80000000000000000000000000000000000000000000000000000000000000000000000000000000000000000000000000000000000000000000000018000000001f800000000000000000000000000000000000000000000000000000000000000000000000000000000000000000000000000000000000000000000000000000000000

theorem fpSlotsHold_eq : fpSlotsHold =
    fpSetSlot ||| fpSetMode ||| fpSlotReturn := by decide +kernel

theorem slotsHold_within (s : State) : Within fpSlotsHold s (slotsHold s) := by
  unfold slotsHold
  refine Within.forAll _ ?_ fun a1 _ => ?_
  · exact Within.refl _ _
  · extract_lets -lift +onlyGivenNames a2
    clear_value a2
    extract_lets -lift +onlyGivenNames a3
    clear_value a3
    extract_lets -lift +onlyGivenNames a4
    have h4 : Within fpSlotsHold a1 a4 := by
      unfold a4
      refine Within.step ?_ (slotReturn_within ..) (by decide +kernel)
      exact Within.refl _ _
    clear_value a4
    extract_lets -lift +onlyGivenNames a5
    clear_value a5
    refine Within.step ?_ (setMode_within ..) (by decide +kernel)
    refine Within.step ?_ (setSlot_within ..) (by decide +kernel)
    exact h4

/-- What `stmCheck` can change. -/
def fpStmCheck : Nat := footprint [R.STM_STATUS_CFG_ERR] []

theorem stmCheck_within (s : State) (n : Nat) : Within fpStmCheck s (stmCheck s n) := by
  unfold stmCheck
  refine Within.forAll _ ?_ fun a1 _ => ?_
  · exact Within.refl _ _
  · extract_lets -lift +onlyGivenNames a2
    clear_value a2
    extract_lets -lift +onlyGivenNames a3
    clear_value a3
    extract_lets -lift +onlyGivenNames a4
    clear_value a4
    extract_lets -lift +onlyGivenNames a5
    clear_value a5
    refine Within.step ?_ (set_within _ _ _ (by decide +kernel)) (by decide +kernel)
    exact Within.refl _ _

/-- What `stmStore` can change. -/
def fpStmStore : Nat := footprint [] [.stmFetch, .stmBuf]

theorem stmStore_within (s : State) (c : Nat) (g : StmGran) : Within fpStmStore s (stmStore s c g) := by
  unfold stmStore
  extract_lets -lift +onlyGivenNames a1
  clear_value a1
  refine Within.step ?_ (upd_stmFetch_stmBuf_within _ _ _) (by decide +kernel)
  exact Within.refl _ _

/-- What `stmShow` can change. -/
def fpStmShow : Nat := footprint [R.STM_DISCARD_CNT_COUNT] [.stmFetch, .stmBuf]

theorem stmShow_within (s : State) (c : Nat) : Within fpStmShow s (stmShow s c) := by
  unfold stmShow
  split
  · exact Within.refl _ _
  · extract_lets -lift +onlyGivenNames a1
    have h1 : Within fpStmShow s a1 := by
      unfold a1
      refine Within.step ?_ (stmFetch_within _ _) (by decide +kernel)
      exact Within.refl _ _
    clear_value a1
    refine Within.ite ?_ ?_
    · refine Within.step ?_ (inc_within _ _ _ (by decide +kernel)) (by decide +kernel)
      exact h1
    · refine Within.step ?_ (stmBuf_within _ _) (by decide +kernel)
      exact h1

/-- What `stmVisible` can change. -/
def fpStmVisible : Nat :=
  0x3000000000000000000000000000000000000000000000000000000000000000000000000000000000000000000000000000000000000000000000000000002000000000000000000000000000000000000000000000000000000000000000000000000000000000000000000000000000000000000000000000000000000000000000000

theorem fpStmVisible_eq : fpStmVisible =
    fpStmShow := by decide +kernel

theorem stmVisible_within (s : State) : Within fpStmVisible s (stmVisible s) := by
  unfold stmVisible
  refine Within.forAll _ ?_ fun a1 _ => ?_
  · exact Within.refl _ _
  · refine Within.forAll _ ?_ fun a2 _ => ?_
    · exact Within.refl _ _
    · refine Within.ite ?_ ?_
      · refine Within.step ?_ (stmShow_within ..) (by decide +kernel)
        exact Within.refl _ _
      · exact Within.refl _ _

/-- What `stmDrop` can change. -/
def fpStmDrop : Nat := footprint [] [.stmFetch, .stmBuf]

theorem stmDrop_within (s : State) (c : Nat) : Within fpStmDrop s (stmDrop s c) := by
  unfold stmDrop
  refine Within.step ?_ (upd_stmFetch_stmBuf_within _ _ _) (by decide +kernel)
  exact Within.refl _ _

/-- What `stmSweep` can change. -/
def fpStmSweep : Nat :=
  0x3000000000000000000000000000000000000000000000000000000000000000000000000000000000000000000000000000000000000000000000000000000000000000000000000000000000000000000000000000000000000000000000000000000000000000000000000000000000000000000000000000000000000000000000000

theorem fpStmSweep_eq : fpStmSweep =
    fpStmDrop := by decide +kernel

theorem stmSweep_within (s : State) : Within fpStmSweep s (stmSweep s) := by
  unfold stmSweep
  refine Within.forAll _ ?_ fun a1 _ => ?_
  · exact Within.refl _ _
  · refine Within.step ?_ (stmDrop_within ..) (by decide +kernel)
    exact Within.refl _ _

/-- What `stmConfig` can change. -/
def fpStmConfig : Nat :=
  0x3000000000000000000000000000000000000000000000000000000000000000000000000000000000000000000000000000000000000000000000000000000040000000000000000000000000000000000000000000000000000000000000000000000000000000000000000000000000000000000000000000000000000000000000000

theorem fpStmConfig_eq : fpStmConfig =
    fpStmCheck ||| fpStmDrop := by decide +kernel

theorem stmConfig_within (s : State) (n : Nat) : Within fpStmConfig s (stmConfig s n) := by
  unfold stmConfig
  extract_lets -lift +onlyGivenNames a1
  have h1 : Within fpStmConfig s a1 := by
    unfold a1
    refine Within.step ?_ (stmCheck_within ..) (by decide +kernel)
    exact Within.refl _ _
  clear_value a1
  refine Within.forAll _ ?_ fun a2 _ => ?_
  · exact h1
  · refine Within.ite ?_ ?_
    · exact Within.refl _ _
    · refine Within.step ?_ (stmDrop_within ..) (by decide +kernel)
      exact Within.refl _ _

/-- What `stmReset` can change. -/
def fpStmReset : Nat :=
  0x3000000000000000000000000000000000000000000000000000000000000000000000000000000000000000000000000000000000000000000000000000000038000000000000000000000000000000000000000000000000000000000000000000000000000000000000000000000000000000000000000000000000000000000000000

theorem fpStmReset_eq : fpStmReset =
    footprint [R.STM_WR_INDEX, R.STM_RD_INDEX, R.STM_CONS_INDEX] [] ||| fpStmDrop := by decide +kernel

theorem stmReset_within (s : State) (c : Nat) : Within fpStmReset s (stmReset s c) := by
  unfold stmReset
  refine Within.step ?_ (stmDrop_within ..) (by decide +kernel)
  refine Within.step ?_ (set_within _ _ _ (by decide +kernel)) (by decide +kernel)
  refine Within.step ?_ (set_within _ _ _ (by decide +kernel)) (by decide +kernel)
  refine Within.step ?_ (set_within _ _ _ (by decide +kernel)) (by decide +kernel)
  exact Within.refl _ _

/-- What `stmResetAll` can change. -/
def fpStmResetAll : Nat :=
  0x3000000000000000000000000000000000000000000000000000000000000000000000000000000000000000000000000000000000000000000000000000000038000000000000000000000000000000000000000000000000000000000000000000000000000000000000000000000000000000000000000000000000000000000000000

theorem fpStmResetAll_eq : fpStmResetAll =
    fpStmReset := by decide +kernel

theorem stmResetAll_within (s : State) : Within fpStmResetAll s (stmResetAll s) := by
  unfold stmResetAll
  refine Within.forAll _ ?_ fun a1 _ => ?_
  · exact Within.refl _ _
  · refine Within.step ?_ (stmReset_within ..) (by decide +kernel)
    exact Within.refl _ _

/-- What `stmWrite` can change. -/
def fpStmWrite : Nat := footprint [R.STM_WR_INDEX, R.STM_STATUS_OVERFILL] []

theorem stmWrite_within (s : State) (c v : Nat) : Within fpStmWrite s (stmWrite s c v) := by
  unfold stmWrite
  refine Within.ite ?_ ?_
  · refine Within.step ?_ (set_within _ _ _ (by decide +kernel)) (by decide +kernel)
    exact Within.refl _ _
  · refine Within.step ?_ (set_within _ _ _ (by decide +kernel)) (by decide +kernel)
    exact Within.refl _ _

/-- What `stmRewind` can change. -/
def fpStmRewind : Nat :=
  0x3000000000000000000000000000000000000000000000000000000000000000000000000000000000000000000000000000000000000000000000000000000050000000000000000000000000000000000000000000000000000000000000000000000000000000000000000000000000000000000000000000000000000000000000000

theorem fpStmRewind_eq : fpStmRewind =
    footprint [R.STM_RD_INDEX] [] ||| fpStmDrop ||| fpStmConfig := by decide +kernel

theorem stmRewind_within (s : State) (c : Nat) : Within fpStmRewind s (stmRewind s c) := by
  unfold stmRewind
  refine Within.step ?_ (stmConfig_within ..) (by decide +kernel)
  refine Within.step ?_ (stmDrop_within ..) (by decide +kernel)
  refine Within.step ?_ (set_within _ _ _ (by decide +kernel)) (by decide +kernel)
  exact Within.refl _ _

/-- What `execStreamFetch` can change. -/
def fpExecStreamFetch : Nat :=
  0x10000030000000f80002000000000000000000000000000000000000000000000000000000000000000000000000000000080000000000000000000000000000000020100000000000000000000000000000000000000000000000000000000000000000000000000007e00c0000000000180800000000000001fe0000000000000000000000000

theorem fpExecStreamFetch_eq : fpExecStreamFetch =
    footprint [R.STM_RD_INDEX, R.STM_DISCARD_CNT_COUNT] [] ||| fpDataRead ||| fpEccCount ||| fpStmStore := by decide +kernel

theorem execStreamFetch_within (c : Fin 512) (ecc : Fin 3) (s : State) : Completes fpExecStreamFetch s (execStreamFetch c ecc s) := by
  unfold execStreamFetch
  extract_lets -lift +onlyGivenNames a1
  clear_value a1
  extract_lets -lift +onlyGivenNames a2
  clear_value a2
  refine Completes.ite ?_ ?_
  · refine Completes.next ?_
    exact Within.refl _ _
  · extract_lets -lift +onlyGivenNames a3
    have h3 : Within fpExecStreamFetch s a3 := by
      unfold a3
      refine Within.when ?_ fun a4 => ?_
      · exact Within.refl _ _
      · refine Within.step ?_ (set_within _ _ _ (by decide +kernel)) (by decide +kernel)
        refine Within.step ?_ (inc_within _ _ _ (by decide +kernel)) (by decide +kernel)
        exact Within.refl _ _
    clear_value a3
    extract_lets -lift +onlyGivenNames a4
    clear_value a4
    refine Completes.next ?_
    refine Within.ite ?_ ?_
    · split
      extract_lets -lift +onlyGivenNames a5
      clear_value a5
      extract_lets -lift +onlyGivenNames a6
      have h6 : Within fpExecStreamFetch s a6 := by
        unfold a6
        refine Within.step ?_ (eccCount_within ..) (by decide +kernel)
        refine Within.ofSnd ?_ (by assumption)
        refine Within.step ?_ (dataRead_within ..) (by decide +kernel)
        exact h3
      clear_value a6
      extract_lets -lift +onlyGivenNames a7
      have h7 : Within fpExecStreamFetch s a7 := by
        unfold a7
        refine Within.ite ?_ ?_
        · exact h6
        · refine Within.step ?_ (stmStore_within ..) (by decide +kernel)
          exact h6
      clear_value a7
      refine Within.step ?_ (set_within _ _ _ (by decide +kernel)) (by decide +kernel)
      exact h7
    · exact h3

/-- What `execGranuleVisible` can change. -/
def fpExecGranuleVisible : Nat :=
  0x3000000000000000000000000000000000000000000000000000000000000000000000000000000000000000000000000000000000000000000000000000002000000000000000000000000000000000000000000000000000000000000000000000000000000000000000000000000000000000000000000000000000000000000000000

theorem fpExecGranuleVisible_eq : fpExecGranuleVisible =
    fpStmShow := by decide +kernel

theorem execGranuleVisible_within (c : Fin 512) (s : State) : Completes fpExecGranuleVisible s (execGranuleVisible c s) := by
  unfold execGranuleVisible
  refine Completes.next ?_
  refine Within.ite ?_ ?_
  · refine Within.step ?_ (stmShow_within ..) (by decide +kernel)
    exact Within.refl _ _
  · exact Within.refl _ _

/-- What `addGran` can change. -/
def fpAddGran : Nat :=
  0x800000000000000000000000000000000000000000000000000000000000000000000000000000000000000000000000000000000000000000000000000000000000000000000000000000000000000000000000000000000000000000000000000000000000000000000000000000000000000000000000000000000000000000000000

theorem fpAddGran_eq : fpAddGran =
    fpSetSlot := by decide +kernel

theorem addGran_within (s : State) (z : Nat) (words : List Nat) (amp : Nat) : Within fpAddGran s (addGran s z words amp) := by
  unfold addGran
  extract_lets -lift +onlyGivenNames a1
  clear_value a1
  refine Within.step ?_ (setSlot_within ..) (by decide +kernel)
  exact Within.refl _ _

/-- What `gapGranule` can change. -/
def fpGapGranule : Nat :=
  0x10000008000000f830020000000000000000000000000000000000000000000000000000000000000000000000000000000800000400000000000000000000000000000000000040000000000000000000000000000000000000000000000000000000000000000000000000000000000018080000000000000000000000000000007f0707f0000

theorem fpGapGranule_eq : fpGapGranule =
    fpChiselViolation ||| fpSetSlot := by decide +kernel

theorem gapGranule_within (s : State) (z w pc : Nat) : Within fpGapGranule s (gapGranule s z w pc) := by
  unfold gapGranule
  extract_lets -lift +onlyGivenNames a1
  clear_value a1
  extract_lets -lift +onlyGivenNames a2
  clear_value a2
  refine Within.ite ?_ ?_
  · exact Within.refl _ _
  · refine Within.step ?_ (chiselViolation_within ..) (by decide +kernel)
    refine Within.step ?_ (setSlot_within ..) (by decide +kernel)
    exact Within.refl _ _

/-- What `underrun` can change. -/
def fpUnderrun : Nat :=
  0x10000000000000f8300200000000000000000000000000000000000000000000000000000000000000000000000000000008000004000000000000000000000000001f00000000400000000000000000000000000000000000000000000000000000000000000000000000000000000000180800000000000000000000000000000000000ff0000

theorem fpUnderrun_eq : fpUnderrun =
    footprint [R.GLB_HARVEST_LATE_CNT_COUNT, R.STM_STATUS_UNDERRUN, R.STM_UR_INDEX_INDEX, R.STM_UR_TICK_LO_TICK_LO,
  R.STM_UR_TICK_HI_TICK_HI, R.STM_UR_CNT_COUNT] [] ||| fpGlobalEvent ||| fpAddShotTaint := by decide +kernel

theorem underrun_within (s : State) (c k : Nat) : Within fpUnderrun s (underrun s c k) := by
  unfold underrun
  extract_lets -lift +onlyGivenNames a1
  have h1 : Within fpUnderrun s a1 := by
    unfold a1
    refine Within.step ?_ (addShotTaint_within ..) (by decide +kernel)
    exact Within.refl _ _
  clear_value a1
  extract_lets -lift +onlyGivenNames a2
  have h2 : Within fpUnderrun s a2 := by
    unfold a2
    refine Within.step ?_ (inc_within _ _ _ (by decide +kernel)) (by decide +kernel)
    refine Within.step ?_ (inc_within _ _ _ (by decide +kernel)) (by decide +kernel)
    exact h1
  clear_value a2
  refine Within.ite ?_ ?_
  · exact h2
  · extract_lets -lift +onlyGivenNames a3
    have h3 : Within fpUnderrun s a3 := by
      unfold a3
      refine Within.step ?_ (set_within _ _ _ (by decide +kernel)) (by decide +kernel)
      refine Within.step ?_ (set_within _ _ _ (by decide +kernel)) (by decide +kernel)
      exact h2
    clear_value a3
    refine Within.step ?_ (globalEvent_within ..) (by decide +kernel)
    refine Within.step ?_ (set_within _ _ _ (by decide +kernel)) (by decide +kernel)
    refine Within.step ?_ (set_within _ _ _ (by decide +kernel)) (by decide +kernel)
    exact h3

/-- What `harvestSlot` can change. -/
def fpHarvestSlot : Nat :=
  0x10000028000000f8300200000000000000000000000000000000000000000000000000000000000000000000000000000008000004000000000000000000000000005f2000000040000000000000000000000000000000000000000000000000000000000000000000000000000000000018080000000000000000000000000000007f070ff0000

theorem fpHarvestSlot_eq : fpHarvestSlot =
    footprint [R.STM_CONS_INDEX, R.STM_MIN_SLACK_TICKS] [.stmBuf] ||| fpAddGran ||| fpGapGranule ||| fpUnderrun := by decide +kernel

theorem harvestSlot_within (s : State) (z : Nat) : Within fpHarvestSlot s (harvestSlot s z) := by
  unfold harvestSlot
  split
  · exact Within.refl _ _
  · extract_lets -lift +onlyGivenNames a1
    clear_value a1
    extract_lets -lift +onlyGivenNames a2
    clear_value a2
    extract_lets -lift +onlyGivenNames a3
    clear_value a3
    extract_lets -lift +onlyGivenNames a4
    clear_value a4
    extract_lets -lift +onlyGivenNames a5
    have h5 : Within fpHarvestSlot s a5 := by
      unfold a5
      refine Within.step ?_ (stmBuf_within _ _) (by decide +kernel)
      exact Within.refl _ _
    clear_value a5
    extract_lets -lift +onlyGivenNames a6
    have h6 : Within fpHarvestSlot s a6 := by
      unfold a6
      refine Within.step ?_ (set_within _ _ _ (by decide +kernel)) (by decide +kernel)
      exact h5
    clear_value a6
    split
    · refine Within.step ?_ (addGran_within ..) (by decide +kernel)
      refine Within.step ?_ (gapGranule_within ..) (by decide +kernel)
      exact h6
    · extract_lets -lift +onlyGivenNames a7
      have h7 : Within fpHarvestSlot s a7 := by
        unfold a7
        refine Within.step ?_ (set_within _ _ _ (by decide +kernel)) (by decide +kernel)
        exact h6
      clear_value a7
      refine Within.step ?_ (addGran_within ..) (by decide +kernel)
      exact h7
    · refine Within.step ?_ (addGran_within ..) (by decide +kernel)
      refine Within.step ?_ (underrun_within ..) (by decide +kernel)
      exact h6

/-- What `execStreamHarvest` can change. -/
def fpExecStreamHarvest : Nat :=
  0x10000028000000f8300200000000000000000000000000000000000000000000000000000000000000000000000000000008000004000000000000000000000000005f2000000040000000000000000000000000000000000000000000000000000000000000000000000000000000000018080000000000000000000000000000007f070ff0000

theorem fpExecStreamHarvest_eq : fpExecStreamHarvest =
    fpHarvestSlot := by decide +kernel

theorem execStreamHarvest_within (n : Fin 128) (k : Fin 8) (s : State) : Completes fpExecStreamHarvest s (execStreamHarvest n k s) := by
  unfold execStreamHarvest
  refine Completes.next ?_
  refine Within.forAll _ ?_ fun a1 _ => ?_
  · exact Within.refl _ _
  · refine Within.step ?_ (harvestSlot_within ..) (by decide +kernel)
    exact Within.refl _ _

/-- What `envGranule` can change. -/
def fpEnvGranule : Nat :=
  0x10000008000000f830020000000000000000000000000000000000000000000000000000000000000000000000000000000800000400000000000000000000000000000000000040000000000000000000000000000000000000000000000000000000000000000000000000000000000018080000000000000000000000000000007f0707f0000

theorem fpEnvGranule_eq : fpEnvGranule =
    fpAddGran ||| fpGapGranule := by decide +kernel

theorem envGranule_within (s : State) (z : Nat) : Within fpEnvGranule s (envGranule s z) := by
  unfold envGranule
  split
  · exact Within.refl _ _
  · extract_lets -lift +onlyGivenNames a1
    clear_value a1
    split
    · refine Within.step ?_ (addGran_within ..) (by decide +kernel)
      refine Within.step ?_ (gapGranule_within ..) (by decide +kernel)
      exact Within.refl _ _
    · refine Within.step ?_ (addGran_within ..) (by decide +kernel)
      exact Within.refl _ _

end Sys2Proof.Machine
end

