-- ==== Sys2Proof/Laws/Arbiter.lean ====
section
/-! SUPPORT. What each operation of Sys2Proof/Machine/Arbiter.lean can change. -/

set_option Elab.async false

namespace Sys2Proof.Machine

/-- What `setArb` can change. -/
def fpSetArb : Nat := footprint [] [.arbs]

theorem setArb_within (s : State) (t : Nat) (a : Arb) : Within fpSetArb s (setArb s t a) := by
  unfold setArb
  refine Within.step ?_ (arbs_within _ _) (by decide +kernel)
  exact Within.refl _ _

/-- What `lockEnd` can change. -/
def fpLockEnd : Nat :=
  0x200000000000000000000000000000000000000000000000000000000000000000000000000000000000000000000000000000000000000000000000000000000000000000000000000000000000000000000000000000000000000000000000000000000000000000000000000000000000000000000000000000000000000180000000000000000

theorem fpLockEnd_eq : fpLockEnd =
    footprint [R.GLB_PLN_HLOCK_ACTIVE, R.GLB_PLN_HLOCK_OPEN] [] ||| fpSetArb := by decide +kernel

theorem lockEnd_within (s : State) (t : Nat) (r : Nat) : Within fpLockEnd s (lockEnd s t r) := by
  unfold lockEnd
  extract_lets -lift +onlyGivenNames a1
  clear_value a1
  extract_lets -lift +onlyGivenNames a2
  have h2 : Within fpLockEnd s a2 := by
    unfold a2
    refine Within.step ?_ (setArb_within ..) (by decide +kernel)
    exact Within.refl _ _
  clear_value a2
  refine Within.when ?_ fun a3 => ?_
  · exact h2
  · refine Within.step ?_ (set_within _ _ _ (by decide +kernel)) (by decide +kernel)
    refine Within.step ?_ (set_within _ _ _ (by decide +kernel)) (by decide +kernel)
    exact Within.refl _ _

/-- What `arbVoid` can change. -/
def fpArbVoid : Nat := footprint [R.SVA_VOID_CNT_COUNT] []

theorem arbVoid_within (s : State) (t q : Nat) (res : List (Nat × Nat)) : Within fpArbVoid s (arbVoid s t q res) := by
  unfold arbVoid
  extract_lets -lift +onlyGivenNames a1
  clear_value a1
  extract_lets -lift +onlyGivenNames a2
  clear_value a2
  refine Within.when ?_ fun a3 => ?_
  · exact Within.refl _ _
  · refine Within.step ?_ (inc_within _ _ _ (by decide +kernel)) (by decide +kernel)
    exact Within.refl _ _

/-- What `arbNested` can change. -/
def fpArbNested : Nat :=
  0x2000000000000000000000000000000000000000000000000000000000000000000000000000000000000000000000000000000000000000000000000000000000000000000000000000000000000000000000000000000000000000000000000000000000000000000000000100000000000000000000000000000000000001c0000000000000000

theorem fpArbNested_eq : fpArbNested =
    footprint [R.GLB_PLN_HLOCK_NEST, R.SVA_NEST_CNT_COUNT] [] ||| fpLockEnd := by decide +kernel

theorem arbNested_within (s : State) (t own r : Nat) : Within fpArbNested s (arbNested s t own r) := by
  unfold arbNested
  extract_lets -lift +onlyGivenNames a1
  have h1 : Within fpArbNested s a1 := by
    unfold a1
    refine Within.step ?_ (inc_within _ _ _ (by decide +kernel)) (by decide +kernel)
    exact Within.refl _ _
  clear_value a1
  refine Within.ite ?_ ?_
  · refine Within.step ?_ (set_within _ _ _ (by decide +kernel)) (by decide +kernel)
    exact h1
  · refine Within.step ?_ (lockEnd_within ..) (by decide +kernel)
    exact h1

/-- What `arbNest` can change. -/
def fpArbNest : Nat :=
  0x2000000000000000000000000000000000000000000000000000000000000000000000000000000000000000000000000000000000000000000000000000000000000000000000000000000000000000000000000000000000000000000000000000000000000000000000000100000000000000000000000000000000000001c0000000000000000

theorem fpArbNest_eq : fpArbNest =
    fpArbNested := by decide +kernel

theorem arbNest_within (s : State) (t q : Nat) : Within fpArbNest s (arbNest s t q).2 := by
  unfold arbNest
  split
  · split
    · dsimp only
      refine Within.step ?_ (arbNested_within ..) (by decide +kernel)
      exact Within.refl _ _
    · dsimp only
      exact Within.refl _ _
  · dsimp only
    exact Within.refl _ _

/-- What `arbAgain` can change. -/
def fpArbAgain : Nat :=
  0x2000000000000000000000000000000000000000000000000000000000000000000000000000000000000000000000000000000000000000000000000000000000000000000000000000000000000000000000000000000000000000000000000000000000000000000000000100000000000000000000000000000000000001c0000000000000000

theorem fpArbAgain_eq : fpArbAgain =
    fpArbNested := by decide +kernel

theorem arbAgain_within (s : State) (t lock : Nat) : Within fpArbAgain s (arbAgain s t lock) := by
  unfold arbAgain
  refine Within.when ?_ fun a1 => ?_
  · exact Within.refl _ _
  · refine Within.step ?_ (arbNested_within ..) (by decide +kernel)
    exact Within.refl _ _

/-- What `arbWrap` can change. -/
def fpArbWrap : Nat :=
  0x200000000000000000000000000000000000000000000000000000000000000000000000000000000000000000000000000000000000000000000000000000000000000000000000000000000000000000000000000000000000000000000000000000000000000000000000802100000000000000000000000000000000000000000000000000000

theorem fpArbWrap_eq : fpArbWrap =
    footprint [R.SVA_CTRL_PENDING, R.SVA_LFSR_LFSR, R.SVA_ACT_ENTRY] [] ||| fpSetArb := by decide +kernel

theorem arbWrap_within (s : State) (t : Nat) : Within fpArbWrap s (arbWrap s t) := by
  unfold arbWrap
  extract_lets -lift +onlyGivenNames a1
  clear_value a1
  refine Within.ite ?_ ?_
  · exact Within.refl _ _
  · extract_lets -lift +onlyGivenNames a2
    have h2 : Within fpArbWrap s a2 := by
      unfold a2
      split
      · refine Within.step ?_ (set_within _ _ _ (by decide +kernel)) (by decide +kernel)
        refine Within.step ?_ (setArb_within ..) (by decide +kernel)
        exact Within.refl _ _
      · exact Within.refl _ _
    clear_value a2
    refine Within.when ?_ fun a3 => ?_
    · exact h2
    · refine Within.step ?_ (set_within _ _ _ (by decide +kernel)) (by decide +kernel)
      refine Within.forAll _ ?_ fun a4 _ => ?_
      · exact Within.refl _ _
      · refine Within.step ?_ (set_within _ _ _ (by decide +kernel)) (by decide +kernel)
        exact Within.refl _ _

/-- What `lottery` can change. -/
def fpLottery : Nat :=
  0x200000000000000000000000000000000000000000000000000000000000000000000000000000000000000000000000000000000000000000000000000000000000000000000000000000000000000000000000000000000000000000000000000000000000000000000000002000000000000000000000000000000000000000000000000000000

theorem fpLottery_eq : fpLottery =
    footprint [R.SVA_LFSR_LFSR] [] ||| fpSetArb := by decide +kernel

theorem lottery_within (s : State) (t : Nat) (e : List Nat) : Within fpLottery s (lottery s t e).2 := by
  unfold lottery
  extract_lets +onlyGivenNames a1
  clear_value a1
  split
  · dsimp only
    exact Within.refl _ _
  · extract_lets +onlyGivenNames a2
    clear_value a2
    extract_lets +onlyGivenNames a3
    clear_value a3
    dsimp only
    refine Within.step ?_ (set_within _ _ _ (by decide +kernel)) (by decide +kernel)
    refine Within.step ?_ (setArb_within ..) (by decide +kernel)
    exact Within.refl _ _

/-- What `lotteryWon` can change. -/
def fpLotteryWon : Nat :=
  0x200000000000000000000000000000000000000000000000000000000000000000000000000000000000000000000000000000000000000000000000000000000000000000000000000000000000000000000000000000000000000000000000000000000000000000000000100000000000000000000000000000000000000000000000000000000

theorem fpLotteryWon_eq : fpLotteryWon =
    footprint [R.SVA_REQ_LOSSES] [] ||| fpSetArb := by decide +kernel

theorem lotteryWon_within (s : State) (t w : Nat) (e : List Nat) : Within fpLotteryWon s (lotteryWon s t w e) := by
  unfold lotteryWon
  extract_lets -lift +onlyGivenNames a1
  clear_value a1
  extract_lets -lift +onlyGivenNames a2
  have h2 : Within fpLotteryWon s a2 := by
    unfold a2
    refine Within.step ?_ (set_within _ _ _ (by decide +kernel)) (by decide +kernel)
    refine Within.step ?_ (setArb_within ..) (by decide +kernel)
    exact Within.refl _ _
  clear_value a2
  refine Within.forAll _ ?_ fun a3 _ => ?_
  · exact h2
  · extract_lets -lift +onlyGivenNames a4
    clear_value a4
    refine Within.step ?_ (setArb_within ..) (by decide +kernel)
    refine Within.step ?_ (set_within _ _ _ (by decide +kernel)) (by decide +kernel)
    exact Within.refl _ _

/-- What `lockStart` can change. -/
def fpLockStart : Nat :=
  0x200000000000000000000000000000000000000000000000000000000000000000000000000000000000000000000000000000000000000000000000000000000000000000000000000000000000000000000000000000000000000000000000000000000000000000000000000000000000000000000000000000000000000080000000000000000

theorem fpLockStart_eq : fpLockStart =
    footprint [R.GLB_PLN_HLOCK_ACTIVE] [] ||| fpSetArb := by decide +kernel

theorem lockStart_within (s : State) (t w lock : Nat) : Within fpLockStart s (lockStart s t w lock) := by
  unfold lockStart
  extract_lets -lift +onlyGivenNames a1
  clear_value a1
  refine Within.ite ?_ ?_
  · extract_lets -lift +onlyGivenNames a2
    clear_value a2
    extract_lets -lift +onlyGivenNames a3
    have h3 : Within fpLockStart s a3 := by
      unfold a3
      refine Within.step ?_ (setArb_within ..) (by decide +kernel)
      exact Within.refl _ _
    clear_value a3
    refine Within.when ?_ fun a4 => ?_
    · exact h3
    · refine Within.step ?_ (set_within _ _ _ (by decide +kernel)) (by decide +kernel)
      exact Within.refl _ _
  · exact Within.refl _ _

/-- What `arbLottery` can change. -/
def fpArbLottery : Nat :=
  0x200000000000000000000000000000000000000000000000000000000000000000000000000000000000000000000000000000000000000000000000000000000000000000000000000000000000000000000000000000000000000000000000000000000000000000000000102000000000000000000000000000000000000080000000000000000

theorem fpArbLottery_eq : fpArbLottery =
    fpSetArb ||| fpLottery ||| fpLotteryWon ||| fpLockStart := by decide +kernel

theorem arbLottery_within (s : State) (t q lock : Nat) : Within fpArbLottery s (arbLottery s t q lock) := by
  unfold arbLottery
  extract_lets -lift +onlyGivenNames a1
  clear_value a1
  extract_lets -lift +onlyGivenNames a2
  clear_value a2
  refine Within.ite ?_ ?_
  · refine Within.step ?_ (setArb_within ..) (by decide +kernel)
    exact Within.refl _ _
  · split
    refine Within.step ?_ (lockStart_within ..) (by decide +kernel)
    refine Within.step ?_ (lotteryWon_within ..) (by decide +kernel)
    refine Within.ofSnd ?_ (by assumption)
    refine Within.step ?_ (lottery_within ..) (by decide +kernel)
    exact Within.refl _ _

/-- What `arbServe` can change. -/
def fpArbServe : Nat :=
  0x20000000000000000000000000000000000000000000000000000000000000000000000000000000000000000000000000000000000000000000000000000000000000000000000000000000000000000000000000000000000000000000000000000000000000000000000010a000000000000000000000000000000000000080000000000000000

theorem fpArbServe_eq : fpArbServe =
    footprint [R.SVA_SKIP_CNT_COUNT] [] ||| fpSetArb ||| fpArbLottery := by decide +kernel

theorem arbServe_within (s : State) (t q lock : Nat) (res : List (Nat × Nat)) : Within fpArbServe s (arbServe s t q lock res) := by
  unfold arbServe
  extract_lets -lift +onlyGivenNames a1
  clear_value a1
  split
  extract_lets -lift +onlyGivenNames a2
  have h2 : Within fpArbServe s a2 := by
    unfold a2
    refine Within.step ?_ (inc_within _ _ _ (by decide +kernel)) (by decide +kernel)
    refine Within.step ?_ (setArb_within ..) (by decide +kernel)
    exact Within.refl _ _
  clear_value a2
  split
  · refine Within.step ?_ (setArb_within ..) (by decide +kernel)
    exact h2
  · refine Within.step ?_ (arbLottery_within ..) (by decide +kernel)
    exact h2

/-- What `arbLocked` can change. -/
def fpArbLocked : Nat :=
  0x2000000000000000000000000000000000000000000000000000000000000000000000000000000000000000000000000000000000000000000000000000000000000000000000000000000000000000000000000000000000000000000000000000000000000000000000000200000000000000000000000000000000000001a0000000000000000

theorem fpArbLocked_eq : fpArbLocked =
    footprint [R.GLB_PLN_HLOCK_EXPIRED, R.SVA_EXPIRE_CNT_COUNT] [] ||| fpSetArb ||| fpLockEnd := by decide +kernel

theorem arbLocked_within (s : State) (t r : Nat) (keep : Bool) : Within fpArbLocked s (arbLocked s t r keep).2 := by
  unfold arbLocked
  extract_lets +onlyGivenNames a1
  clear_value a1
  split
  · dsimp only
    refine Within.step ?_ (lockEnd_within ..) (by decide +kernel)
    exact Within.refl _ _
  · split
    · extract_lets +onlyGivenNames a2
      have h2 : Within fpArbLocked s a2 := by
        unfold a2
        refine Within.step ?_ (lockEnd_within ..) (by decide +kernel)
        refine Within.step ?_ (inc_within _ _ _ (by decide +kernel)) (by decide +kernel)
        exact Within.refl _ _
      clear_value a2
      dsimp only
      refine Within.when ?_ fun a3 => ?_
      · exact h2
      · refine Within.step ?_ (set_within _ _ _ (by decide +kernel)) (by decide +kernel)
        exact Within.refl _ _
    · dsimp only
      refine Within.step ?_ (setArb_within ..) (by decide +kernel)
      exact Within.refl _ _

/-- What `arbCycle` can change. -/
def fpArbCycle : Nat :=
  0x20000000000000000000000000000000000000000000000000000000000000000000000000000000000000000000000000000000000000000000000000000000000000000000000000000000000000000000000000000000000000000000000000000000000000000000000093ed000000000000000000000000000000000001e0000000000000000

theorem fpArbCycle_eq : fpArbCycle =
    footprint [R.SVA_OWED_MAX, R.SVA_OWED_NOW] [] ||| fpSetArb ||| fpArbVoid ||| fpArbNest ||| fpArbAgain ||| fpArbWrap |||
  fpArbServe ||| fpArbLocked := by decide +kernel

theorem arbCycle_within (s : State) (t q : Nat) (owners : List (Nat × Nat)) (lock : Nat) (keep : Bool) : Within fpArbCycle s (arbCycle s t q
    owners lock keep) := by
  unfold arbCycle
  extract_lets -lift +onlyGivenNames a1
  have h1 : Within fpArbCycle s a1 := by
    unfold a1
    refine Within.step ?_ (arbVoid_within ..) (by decide +kernel)
    exact Within.refl _ _
  clear_value a1
  split
  extract_lets -lift +onlyGivenNames a0
  clear_value a0
  extract_lets -lift +onlyGivenNames a2
  have h2 : Within fpArbCycle s a2 := by
    unfold a2
    refine Within.step ?_ (arbAgain_within ..) (by decide +kernel)
    refine Within.ofSnd ?_ (by assumption)
    refine Within.step ?_ (arbNest_within ..) (by decide +kernel)
    exact h1
  clear_value a2
  extract_lets -lift +onlyGivenNames a3
  clear_value a3
  extract_lets -lift +onlyGivenNames a4
  have h4 : Within fpArbCycle s a4 := by
    unfold a4
    refine Within.step ?_ (setArb_within ..) (by decide +kernel)
    exact h2
  clear_value a4
  extract_lets -lift +onlyGivenNames a5
  have h5 : Within fpArbCycle s a5 := by
    unfold a5
    refine Within.step ?_ (arbWrap_within ..) (by decide +kernel)
    exact h4
  clear_value a5
  extract_lets -lift +onlyGivenNames a6
  clear_value a6
  extract_lets -lift +onlyGivenNames a7
  clear_value a7
  extract_lets -lift +onlyGivenNames a8
  have h8 : Within fpArbCycle s a8 := by
    unfold a8
    refine Within.when ?_ fun a9 => ?_
    · exact h5
    · refine Within.step ?_ (setArb_within ..) (by decide +kernel)
      exact Within.refl _ _
  clear_value a8
  extract_lets -lift +onlyGivenNames a9
  have h9 : Within fpArbCycle s a9 := by
    unfold a9
    refine Within.step ?_ (set_within _ _ _ (by decide +kernel)) (by decide +kernel)
    exact h8
  clear_value a9
  extract_lets -lift +onlyGivenNames a10
  have h10 : Within fpArbCycle s a10 := by
    unfold a10
    split
    · split
      · refine Within.ofSnd ?_ (by assumption)
        refine Within.step ?_ (arbLocked_within ..) (by decide +kernel)
        exact h9
      · refine Within.step ?_ (arbServe_within ..) (by decide +kernel)
        refine Within.ofSnd ?_ (by assumption)
        refine Within.step ?_ (arbLocked_within ..) (by decide +kernel)
        exact h9
    · refine Within.step ?_ (arbServe_within ..) (by decide +kernel)
      exact h9
  clear_value a10
  extract_lets -lift +onlyGivenNames a11
  have h11 : Within fpArbCycle s a11 := by
    unfold a11
    refine Within.step ?_ (setArb_within ..) (by decide +kernel)
    exact h10
  clear_value a11
  refine Within.step ?_ (set_within _ _ _ (by decide +kernel)) (by decide +kernel)
  exact h11

/-- What `execArbiterCycle` can change. -/
def fpExecArbiterCycle : Nat :=
  0x20000000000000000000000000000000000000000000000000000000000000000000000000000000000000000000000000000000000000000000000000000000000000000000000000000000000000000000000000000000000000000000000000000000000000000000000093ed000000000000000000000000000000000001e0000000000000000

theorem fpExecArbiterCycle_eq : fpExecArbiterCycle =
    fpArbCycle := by decide +kernel

theorem execArbiterCycle_within (t : Fin 2) (q : BitVec 16) (res : List (Fin 3 × Fin 512)) (lock : BitVec 16) (keep : Bool) (s : State) :
    Completes fpExecArbiterCycle s (execArbiterCycle t q res lock keep s) := by
  unfold execArbiterCycle
  refine Completes.next ?_
  refine Within.ite ?_ ?_
  · refine Within.step ?_ (arbCycle_within ..) (by decide +kernel)
    exact Within.refl _ _
  · exact Within.refl _ _

/-- What `arbTrained` can change. -/
def fpArbTrained : Nat :=
  0x200000000000000000000000000000000000000000000000000000000000000000000000000000000000000000000000000000000000000000000000000000000000000000000000000000000000000000000000000000000000000000000000000000000000000000000000000000000000000000000000000000000000000000000000000000000

theorem fpArbTrained_eq : fpArbTrained =
    fpSetArb := by decide +kernel

theorem arbTrained_within (s : State) : Within fpArbTrained s (arbTrained s) := by
  unfold arbTrained
  refine Within.forAll _ ?_ fun a1 _ => ?_
  · exact Within.refl _ _
  · refine Within.step ?_ (setArb_within ..) (by decide +kernel)
    exact Within.refl _ _

/-- What `hlockWritten` can change. -/
def fpHlockWritten : Nat :=
  0x2000000000000000000000000000000000000000000000000000000000000000000000000000000000000000000000000000000000000000000000000000000000000000000000000000000000000000000000000000000000000000000000000000000000000000000000000100000000000000000000000000000000000001c0000000000000000

theorem fpHlockWritten_eq : fpHlockWritten =
    footprint [R.GLB_PLN_HLOCK_NEST, R.SVA_NEST_CNT_COUNT] [] ||| fpLockEnd := by decide +kernel

theorem hlockWritten_within (s : State) (k : Nat) (before : Bool) : Within fpHlockWritten s (hlockWritten s k before) := by
  unfold hlockWritten
  refine Within.ite ?_ ?_
  · refine Within.ite ?_ ?_
    · extract_lets -lift +onlyGivenNames a1
      clear_value a1
      refine Within.step ?_ (set_within _ _ _ (by decide +kernel)) (by decide +kernel)
      refine Within.step ?_ (inc_within _ _ _ (by decide +kernel)) (by decide +kernel)
      exact Within.refl _ _
    · exact Within.refl _ _
  · refine Within.forAll _ ?_ fun a1 _ => ?_
    · exact Within.refl _ _
    · refine Within.when ?_ fun a2 => ?_
      · exact Within.refl _ _
      · refine Within.step ?_ (lockEnd_within ..) (by decide +kernel)
        exact Within.refl _ _

/-- What `commitGo` can change. -/
def fpCommitGo : Nat := footprint [R.SVA_CTRL_PENDING, R.SVA_CTRL_CMT_REJECT] []

theorem commitGo_within (s : State) (t : Nat) : Within fpCommitGo s (commitGo s t) := by
  unfold commitGo
  refine Within.ite ?_ ?_
  · refine Within.step ?_ (set_within _ _ _ (by decide +kernel)) (by decide +kernel)
    exact Within.refl _ _
  · refine Within.step ?_ (set_within _ _ _ (by decide +kernel)) (by decide +kernel)
    exact Within.refl _ _

/-- What `shadowWritten` can change. -/
def fpShadowWritten : Nat := footprint [R.SVA_CTRL_CMT_REJECT, R.SVA_SLOT_ENTRY] []

theorem shadowWritten_within (before s : State) (i : Nat) : Within fpShadowWritten s (shadowWritten before s i) := by
  unfold shadowWritten
  extract_lets -lift +onlyGivenNames a1
  clear_value a1
  refine Within.ite ?_ ?_
  · refine Within.step ?_ (set_within _ _ _ (by decide +kernel)) (by decide +kernel)
    refine Within.step ?_ (set_within _ _ _ (by decide +kernel)) (by decide +kernel)
    exact Within.refl _ _
  · exact Within.refl _ _

/-- What `ticketsWritten` can change. -/
def fpTicketsWritten : Nat := footprint [R.SVA_REQ_TICKETS] []

theorem ticketsWritten_within (before s : State) (i : Nat) : Within fpTicketsWritten s (ticketsWritten before s i) := by
  unfold ticketsWritten
  refine Within.ite ?_ ?_
  · refine Within.step ?_ (set_within _ _ _ (by decide +kernel)) (by decide +kernel)
    exact Within.refl _ _
  · exact Within.refl _ _

/-- What `seedWritten` can change. -/
def fpSeedWritten : Nat :=
  0x200000000000000000000000000000000000000000000000000000000000000000000000000000000000000000000000000000000000000000000000000000000000000000000000000000000000000000000000000000000000000000000000000000000000000000000000000000000000000000000000000000000000000000000000000000000

theorem fpSeedWritten_eq : fpSeedWritten =
    fpSetArb := by decide +kernel

theorem seedWritten_within (s : State) (t : Nat) : Within fpSeedWritten s (seedWritten s t) := by
  unfold seedWritten
  refine Within.step ?_ (setArb_within ..) (by decide +kernel)
  exact Within.refl _ _

end Sys2Proof.Machine
end

