-- ==== Sys2Proof/Laws/Host.lean ====
section
/-! SUPPORT. What each operation of Sys2Proof/Machine/Host.lean can change. -/

set_option Elab.async false

namespace Sys2Proof.Machine

/-- What `coreReset` can change. -/
def fpCoreReset : Nat :=
  0x2013000000000000f8000200000000000000000000000000000000000000000000000000000000000000000000000000000008000000000000000000000000000000000000000000000000000000000000000000000000000000000000000000000000000000000000000000000002009e00180800000000000000000000000180400000000000000

theorem fpCoreReset_eq : fpCoreReset =
    footprint [R.GLB_PLN_STATUS_STATE, R.GLB_PLN_HLOCK_ACTIVE, R.GLB_PLN_HLOCK_OPEN] [] ||| fpPartyReset ||| fpLockEnd := by decide +kernel

theorem coreReset_within (s : State) (k st : Nat) : Within fpCoreReset s (coreReset s k st) := by
  unfold coreReset
  extract_lets -lift +onlyGivenNames a1
  have h1 : Within fpCoreReset s a1 := by
    unfold a1
    refine Within.step ?_ (set_within _ _ _ (by decide +kernel)) (by decide +kernel)
    exact Within.refl _ _
  clear_value a1
  extract_lets -lift +onlyGivenNames a2
  have h2 : Within fpCoreReset s a2 := by
    unfold a2
    refine Within.forAll _ ?_ fun a3 _ => ?_
    · exact h1
    · refine Within.when ?_ fun a4 => ?_
      · exact Within.refl _ _
      · refine Within.step ?_ (lockEnd_within ..) (by decide +kernel)
        exact Within.refl _ _
  clear_value a2
  refine Within.step ?_ (partyReset_within ..) (by decide +kernel)
  refine Within.step ?_ (set_within _ _ _ (by decide +kernel)) (by decide +kernel)
  refine Within.step ?_ (set_within _ _ _ (by decide +kernel)) (by decide +kernel)
  exact h2

/-- What `plnCtrlWritten` can change. -/
def fpPlnCtrlWritten : Nat :=
  0x2013000000000000f8000200000000000000000000000000000000000000000000000000000000000000000000000000000008000000000000000000000000000000000000000000000000000000000000000000000000000000000000000000000000000000000000000000000002009e00180800000000000000000000000183c00000000000000

theorem fpPlnCtrlWritten_eq : fpPlnCtrlWritten =
    footprint [R.GLB_PLN_STATUS_STATE, R.GLB_PLN_STATUS_WDOG_EN, R.GLB_PLN_CTRL_WDOG_EN, R.GLB_PLN_CTRL_HOLD] [] |||
  fpCoreReset := by decide +kernel

theorem plnCtrlWritten_within (before s : State) (once : Nat) : Within fpPlnCtrlWritten s (plnCtrlWritten before s once) := by
  unfold plnCtrlWritten
  extract_lets -lift +onlyGivenNames a1
  have h1 : Within fpPlnCtrlWritten s a1 := by
    unfold a1
    refine Within.step ?_ (set_within _ _ _ (by decide +kernel)) (by decide +kernel)
    exact Within.refl _ _
  clear_value a1
  extract_lets -lift +onlyGivenNames a2
  have h2 : Within fpPlnCtrlWritten s a2 := by
    unfold a2
    refine Within.step ?_ (set_within _ _ _ (by decide +kernel)) (by decide +kernel)
    exact h1
  clear_value a2
  refine Within.forAll _ ?_ fun a3 _ => ?_
  · exact h2
  · extract_lets -lift +onlyGivenNames a4
    have h4 : Within fpPlnCtrlWritten a3 a4 := by
      unfold a4
      refine Within.step ?_ (set_within _ _ _ (by decide +kernel)) (by decide +kernel)
      exact Within.refl _ _
    clear_value a4
    extract_lets -lift +onlyGivenNames a5
    clear_value a5
    extract_lets -lift +onlyGivenNames a6
    clear_value a6
    refine Within.ite ?_ ?_
    · exact h4
    · refine Within.ite ?_ ?_
      · refine Within.step ?_ (coreReset_within ..) (by decide +kernel)
        exact h4
      · refine Within.ite ?_ ?_
        · refine Within.step ?_ (set_within _ _ _ (by decide +kernel)) (by decide +kernel)
          exact h4
        · exact h4

/-- What `execWatchdogExpiry` can change. -/
def fpExecWatchdogExpiry : Nat :=
  0x2013000000000000f8000200000000000000000000000000000000000000000000000000000000000000000000000000000008000000000000000000000000000000000000000000000000000000000000000000000000000000000000000000000000000000000000000000000002009e00180800000000000000000000000180400000000000000

theorem fpExecWatchdogExpiry_eq : fpExecWatchdogExpiry =
    fpCoreReset := by decide +kernel

theorem execWatchdogExpiry_within (k : Fin 8) (s : State) : Completes fpExecWatchdogExpiry s (execWatchdogExpiry k s) := by
  unfold execWatchdogExpiry
  refine Completes.next ?_
  refine Within.ite ?_ ?_
  · exact Within.refl _ _
  · refine Within.ite ?_ ?_
    · refine Within.step ?_ (coreReset_within ..) (by decide +kernel)
      exact Within.refl _ _
    · exact Within.refl _ _

/-- What `hbmBytes` can change. -/
def fpHbmBytes : Nat :=
  0x8000000000000000000000000000000000000000000000000000000000000000000000000000000000000000000000000000000000000000000000000000000000000000000000000000000000000000000000000000000000000000000000000000000000000000000000000000000000000000000000000000000000000000000000

theorem fpHbmBytes_eq : fpHbmBytes =
    fpHbmPut := by decide +kernel

theorem hbmBytes_within (s : State) (a : Nat) (l : List (BitVec 8)) : Within fpHbmBytes s (hbmBytes s a l) := by
  unfold hbmBytes
  refine Within.forAll _ ?_ fun a1 _ => ?_
  · exact Within.refl _ _
  · refine Within.step ?_ (hbmPut_within ..) (by decide +kernel)
    exact Within.refl _ _

/-- What `execW2Access` can change. -/
def fpExecW2Access : Nat :=
  0x10000000080000f80002600000000000000000000000000000000000000000000000000000000000000000000000000000080000000000000000000000000000000000000000000000000000000000000000000000000000000000000000000000000000000000000007e00c0000000000180800000000000001fe0000000000000000000000000

theorem fpExecW2Access_eq : fpExecW2Access =
    footprint [] [.readData, .readPoison, .fresh] ||| fpHbmGate ||| fpEccCount ||| fpHbmBytes := by decide +kernel

theorem execW2Access_within (write : Bool) (off : BitVec 32) (n : BitVec 13) (data : List (BitVec 8)) (ecc : Fin 3) (s : State) : Completes
    fpExecW2Access s (execW2Access write off n data ecc s) := by
  unfold execW2Access
  extract_lets -lift +onlyGivenNames a1
  clear_value a1
  refine Completes.next ?_
  refine Within.ite ?_ ?_
  · exact Within.refl _ _
  · refine Within.ite ?_ ?_
    · refine Within.ite ?_ ?_
      · exact Within.refl _ _
      · split
        · refine Within.step ?_ (hbmBytes_within ..) (by decide +kernel)
          refine Within.ofSnd ?_ (by assumption)
          refine Within.step ?_ (hbmGate_within ..) (by decide +kernel)
          exact Within.refl _ _
        · refine Within.ofSnd ?_ (by assumption)
          refine Within.step ?_ (hbmGate_within ..) (by decide +kernel)
          exact Within.refl _ _
    · refine Within.ite ?_ ?_
      · split
        refine Within.step ?_ (upd_readData_readPoison_within _ _ _) (by decide +kernel)
        refine Within.ofSnd ?_ (by assumption)
        refine Within.step ?_ (free_within ..) (by decide +kernel)
        exact Within.refl _ _
      · split
        · extract_lets -lift +onlyGivenNames a2
          have h2 : Within fpExecW2Access s a2 := by
            unfold a2
            refine Within.step ?_ (eccCount_within ..) (by decide +kernel)
            refine Within.ofSnd ?_ (by assumption)
            refine Within.step ?_ (hbmGate_within ..) (by decide +kernel)
            exact Within.refl _ _
          clear_value a2
          refine Within.ite ?_ ?_
          · split
            refine Within.step ?_ (upd_readData_readPoison_within _ _ _) (by decide +kernel)
            refine Within.ofSnd ?_ (by assumption)
            refine Within.step ?_ (free_within ..) (by decide +kernel)
            exact h2
          · refine Within.step ?_ (upd_readData_readPoison_within _ _ _) (by decide +kernel)
            exact h2
        · refine Within.step ?_ (upd_readData_readPoison_within _ _ _) (by decide +kernel)
          refine Within.ofSnd ?_ (by assumption)
          refine Within.step ?_ (hbmGate_within ..) (by decide +kernel)
          exact Within.refl _ _

/-- What `apertureWrite` can change. -/
def fpApertureWrite : Nat :=
  0x10000000080000f80002000000000000000000000000000000000000000000000000000000000000000000000000000000080000000000000000000000000000000000000000000000000000000000000000000000000000000000000000000000000000000000000007e0000000000000180800000000000001fe0000000000000000000000000

theorem fpApertureWrite_eq : fpApertureWrite =
    fpWorldViolation ||| fpAccessError ||| fpHbmPut := by decide +kernel

theorem apertureWrite_within (s : State) (r o : Nat) (data : List (BitVec 8)) : Within fpApertureWrite s (apertureWrite s r o data) := by
  unfold apertureWrite
  extract_lets -lift +onlyGivenNames a1
  clear_value a1
  extract_lets -lift +onlyGivenNames a2
  clear_value a2
  refine Within.ite ?_ ?_
  · exact Within.refl _ _
  · split
    · refine Within.step ?_ (accessError_within ..) (by decide +kernel)
      exact Within.refl _ _
    · split
      · refine Within.step ?_ (worldViolation_within ..) (by decide +kernel)
        exact Within.refl _ _
      · refine Within.forAll _ ?_ fun a3 _ => ?_
        · exact Within.refl _ _
        · refine Within.step ?_ (hbmPut_within ..) (by decide +kernel)
          exact Within.refl _ _

/-- What `execStreamApertureWrite` can change. -/
def fpExecStreamApertureWrite : Nat :=
  0x10000000080000f80002000000000000000000000000000000000000000000000000000000000000000000000000000000080000000000000000000000000000000000000000000000000000000000000000000000000000000000000000000000000000000000000007e0000000000000180800000000000001fe0000000000000000000000000

theorem fpExecStreamApertureWrite_eq : fpExecStreamApertureWrite =
    fpApertureWrite := by decide +kernel

theorem execStreamApertureWrite_within (r : Fin 512) (o : Fin 16384) (data : List (BitVec 8)) (s : State) : Completes fpExecStreamApertureWrite s
    (execStreamApertureWrite r o data s) := by
  unfold execStreamApertureWrite
  refine Completes.next ?_
  refine Within.step ?_ (apertureWrite_within ..) (by decide +kernel)
  exact Within.refl _ _

/-- What `setMsix` can change. -/
def fpSetMsix : Nat := footprint [] [.msix]

theorem setMsix_within (s : State) (v : Nat) (x : Msix) : Within fpSetMsix s (setMsix s v x) := by
  unfold setMsix
  refine Within.step ?_ (msix_within _ _) (by decide +kernel)
  exact Within.refl _ _

/-- What `msixSignal` can change. -/
def fpMsixSignal : Nat :=
  0x2000000000000000000000000000000000000000000000000000000000000000000000000000000000000000000000000000000000000000000000000000000000000000000000000000000000000000000000000000000000000000000000000000000000000000000000000000000000000000000000000000000000000000000000000000000000

theorem fpMsixSignal_eq : fpMsixSignal =
    fpSetMsix := by decide +kernel

theorem msixSignal_within (s : State) (v : Nat) : Within fpMsixSignal s (msixSignal s v) := by
  unfold msixSignal
  extract_lets -lift +onlyGivenNames a1
  clear_value a1
  refine Within.step ?_ (setMsix_within ..) (by decide +kernel)
  exact Within.refl _ _

/-- What `msixMask` can change. -/
def fpMsixMask : Nat :=
  0x2000000000000000000000000000000000000000000000000000000000000000000000000000000000000000000000000000000000000000000000000000000000000000000000000000000000000000000000000000000000000000000000000000000000000000000000000000000000000000000000000000000000000000000000000000000000

theorem fpMsixMask_eq : fpMsixMask =
    fpSetMsix := by decide +kernel

theorem msixMask_within (s : State) (v : Nat) (m : Bool) : Within fpMsixMask s (msixMask s v m) := by
  unfold msixMask
  extract_lets -lift +onlyGivenNames a1
  clear_value a1
  refine Within.ite ?_ ?_
  · refine Within.step ?_ (setMsix_within ..) (by decide +kernel)
    exact Within.refl _ _
  · refine Within.step ?_ (setMsix_within ..) (by decide +kernel)
    exact Within.refl _ _

/-- What `execMsixUnmask` can change. -/
def fpExecMsixUnmask : Nat :=
  0x2000000000000000000000000000000000000000000000000000000000000000000000000000000000000000000000000000000000000000000000000000000000000000000000000000000000000000000000000000000000000000000000000000000000000000000000000000000000000000000000000000000000000000000000000000000000

theorem fpExecMsixUnmask_eq : fpExecMsixUnmask =
    fpMsixMask := by decide +kernel

theorem execMsixUnmask_within (v : Fin 128) (s : State) : Completes fpExecMsixUnmask s (execMsixUnmask v s) := by
  unfold execMsixUnmask
  refine Completes.next ?_
  refine Within.step ?_ (msixMask_within ..) (by decide +kernel)
  exact Within.refl _ _

/-- What `execLinkUp` can change. -/
def fpExecLinkUp : Nat :=
  0x10000000000000f8000200000000000000000000000000000000000000000000000000000000000000000000000000000008000000000000000000000000000000000000000000000000000000000000000000000000000000000000000000000000000000000000000007000000000000180800000000000000000000000000000000000000000

theorem fpExecLinkUp_eq : fpExecLinkUp =
    footprint [R.HST_LINK_UP, R.HST_LINK_SPEED, R.HST_LINK_WIDTH] [] ||| fpGlobalEvent := by decide +kernel

theorem execLinkUp_within (speed : Fin 3) (width : Fin 3) (s : State) : Completes fpExecLinkUp s (execLinkUp speed width s) := by
  unfold execLinkUp
  refine Completes.next ?_
  refine Within.ite ?_ ?_
  · exact Within.refl _ _
  · refine Within.step ?_ (globalEvent_within ..) (by decide +kernel)
    refine Within.step ?_ (set_within _ _ _ (by decide +kernel)) (by decide +kernel)
    refine Within.step ?_ (set_within _ _ _ (by decide +kernel)) (by decide +kernel)
    refine Within.step ?_ (set_within _ _ _ (by decide +kernel)) (by decide +kernel)
    exact Within.refl _ _

/-- What `closeSession` can change. -/
def fpCloseSession : Nat := footprint [R.HST_SESSION_OPEN] [.hostA, .hostB, .hostBQ]

theorem closeSession_within (s : State) : Within fpCloseSession s (closeSession s) := by
  unfold closeSession
  extract_lets -lift +onlyGivenNames a1
  have h1 : Within fpCloseSession s a1 := by
    unfold a1
    refine Within.step ?_ (set_within _ _ _ (by decide +kernel)) (by decide +kernel)
    exact Within.refl _ _
  clear_value a1
  refine Within.step ?_ (upd_hostA_hostB_hostBQ_within _ _ _ _) (by decide +kernel)
  exact h1

/-- What `execLinkDown` can change. -/
def fpExecLinkDown : Nat :=
  0x3c013000000000000f8000200000000000000000000000000000000000000000000000000000000000000000000000000000008000000000000000000000000000000000000000000000000000000000000000000000000000000000000000000000000000000000000007819000002009e00180800000000000000000000000000000000000000000

theorem fpExecLinkDown_eq : fpExecLinkDown =
    footprint [R.HST_LINK_UP, R.HST_W2_BASE_LO_ADDR, R.HST_W2_BASE_HI_ADDR, R.HST_SESSION_RECOVERY, R.HST_SESSION_MAJOR,
  R.HST_SESSION_MINOR] [.msix] ||| fpGlobalEvent ||| fpPartyReset ||| fpCloseSession := by decide +kernel

theorem execLinkDown_within (flr : Bool) (s : State) : Completes fpExecLinkDown s (execLinkDown flr s) := by
  unfold execLinkDown
  extract_lets -lift +onlyGivenNames a1
  clear_value a1
  extract_lets -lift +onlyGivenNames a2
  have h2 : Within fpExecLinkDown s a2 := by
    unfold a2
    refine Within.step ?_ (closeSession_within ..) (by decide +kernel)
    refine Within.step ?_ (partyReset_within ..) (by decide +kernel)
    refine Within.step ?_ (set_within _ _ _ (by decide +kernel)) (by decide +kernel)
    exact Within.refl _ _
  clear_value a2
  extract_lets -lift +onlyGivenNames a3
  have h3 : Within fpExecLinkDown s a3 := by
    unfold a3
    refine Within.when ?_ fun a4 => ?_
    · exact h2
    · refine Within.step ?_ (globalEvent_within ..) (by decide +kernel)
      exact Within.refl _ _
  clear_value a3
  refine Completes.next ?_
  refine Within.ite ?_ ?_
  · extract_lets -lift +onlyGivenNames a4
    have h4 : Within fpExecLinkDown s a4 := by
      unfold a4
      refine Within.step ?_ (clr_within _ _ (by decide +kernel)) (by decide +kernel)
      refine Within.step ?_ (clr_within _ _ (by decide +kernel)) (by decide +kernel)
      exact h3
    clear_value a4
    extract_lets -lift +onlyGivenNames a5
    have h5 : Within fpExecLinkDown s a5 := by
      unfold a5
      refine Within.step ?_ (clr_within _ _ (by decide +kernel)) (by decide +kernel)
      refine Within.step ?_ (clr_within _ _ (by decide +kernel)) (by decide +kernel)
      refine Within.step ?_ (clr_within _ _ (by decide +kernel)) (by decide +kernel)
      exact h4
    clear_value a5
    refine Within.step ?_ (msix_within _ _) (by decide +kernel)
    exact h5
  · exact h3

/-- What `hostRespond` can change. -/
def fpHostRespond : Nat :=
  0x13000000000000f800020000000000000000000000000000000000000000000000000000000000000000000000000000000c00004000000000000000000000000000000000000000000000000000000000000000000000000000000000000000000000000000000000000000000100f500180800000000000000000000000000400000000000000

theorem fpHostRespond_eq : fpHostRespond =
    fpMbxPush ||| fpMbxRingFrom := by decide +kernel

theorem hostRespond_within (s : State) (op seq : Nat) (final : Bool) (status : Nat) (results : List Nat) : Within fpHostRespond s (hostRespond s
    op seq final status results) := by
  unfold hostRespond
  extract_lets -lift +onlyGivenNames a1
  clear_value a1
  refine Within.step ?_ (mbxRingFrom_within ..) (by decide +kernel)
  refine Within.forAll _ ?_ fun a2 _ => ?_
  · exact Within.refl _ _
  · refine Within.step ?_ (mbxPush_within ..) (by decide +kernel)
    exact Within.refl _ _

/-- What `hostDoneA` can change. -/
def fpHostDoneA : Nat :=
  0x4013000000000000f800020000000000000000000000000000000000000000000000000000000000000000000000000000000c00004000000000000000000000000000000000000000000000000000000000000000000000000000000000000000000000000000000000000000000100f500180800000000000000000000000000400000000000000

theorem fpHostDoneA_eq : fpHostDoneA =
    footprint [] [.hostA] ||| fpHostRespond := by decide +kernel

theorem hostDoneA_within (s : State) (status : Nat) (results : List Nat) : Within fpHostDoneA s (hostDoneA s status results) := by
  unfold hostDoneA
  split
  · refine Within.step ?_ (hostRespond_within ..) (by decide +kernel)
    refine Within.step ?_ (hostA_within _ _) (by decide +kernel)
    exact Within.refl _ _
  · exact Within.refl _ _

/-- What `hostDoneB` can change. -/
def fpHostDoneB : Nat :=
  0x8013000000000000f800020000000000000000000000000000000000000000000000000000000000000000000000000000000c00004000000000000000000000000000000000000000000000000000000000000000000000000000000000000000000000000000000000000000000100f500180800000000000000000000000000400000000000000

theorem fpHostDoneB_eq : fpHostDoneB =
    footprint [] [.hostB] ||| fpHostRespond := by decide +kernel

theorem hostDoneB_within (s : State) (status : Nat) (results : List Nat) : Within fpHostDoneB s (hostDoneB s status results) := by
  unfold hostDoneB
  split
  · refine Within.ite ?_ ?_
    · refine Within.step ?_ (hostRespond_within ..) (by decide +kernel)
      refine Within.step ?_ (hostB_within _ _) (by decide +kernel)
      exact Within.refl _ _
    · refine Within.step ?_ (hostB_within _ _) (by decide +kernel)
      exact Within.refl _ _
  · exact Within.refl _ _

end Sys2Proof.Machine
end

