-- ==== Sys2Proof/Laws/Synth.lean ====
section
/-! SUPPORT. What each operation of Sys2Proof/Machine/Synth.lean can change. -/

set_option Elab.async false

namespace Sys2Proof.Machine

/-- What `frmSettle` can change. -/
def fpFrmSettle : Nat := footprint [] [.frmLive, .frmOps]

theorem frmSettle_within (s : State) : Within fpFrmSettle s (frmSettle s) := by
  unfold frmSettle
  extract_lets -lift +onlyGivenNames a1
  clear_value a1
  extract_lets -lift +onlyGivenNames a2
  clear_value a2
  refine Within.step ?_ (upd_frmLive_frmOps_within _ _ _) (by decide +kernel)
  exact Within.refl _ _

/-- What `frmOp` can change. -/
def fpFrmOp : Nat := footprint [] [.frmOps]

theorem frmOp_within (s : State) (key t : Nat) (fn : FrmFn) : Within fpFrmOp s (frmOp s key t fn) := by
  unfold frmOp
  extract_lets -lift +onlyGivenNames a1
  clear_value a1
  refine Within.step ?_ (frmOps_within _ _) (by decide +kernel)
  exact Within.refl _ _

/-- What `framesRun` can change. -/
def fpFramesRun : Nat := footprint [] [.frmLive, .frmOps]

theorem framesRun_within (s : State) : Within fpFramesRun s (framesRun s) := by
  unfold framesRun
  refine Within.step ?_ (upd_frmLive_frmOps_within _ _ _) (by decide +kernel)
  exact Within.refl _ _

/-- What `setLine` can change. -/
def fpSetLine : Nat := footprint [] [.lines]

theorem setLine_within (s : State) (n : Nat) (l : Line) : Within fpSetLine s (setLine s n l) := by
  unfold setLine
  refine Within.step ?_ (lines_within _ _) (by decide +kernel)
  exact Within.refl _ _

/-- What `slotSettle` can change. -/
def fpSlotSettle : Nat :=
  0x800000000000000000000000000000000000000000000000000000000000000000000000000000000000000000000000000000000000000000000000000000000000000000000000000000000000000000000000000000000000000000000000000000000000000000000000000000000000000000000000000000000000000000000000

theorem fpSlotSettle_eq : fpSlotSettle =
    fpSetSlot := by decide +kernel

theorem slotSettle_within (s : State) (z : Nat) : Within fpSlotSettle s (slotSettle s z) := by
  unfold slotSettle
  extract_lets -lift +onlyGivenNames a1
  extract_lets -lift +onlyGivenNames a2
  clear_value a2
  extract_lets -lift +onlyGivenNames a3
  refine Within.step ?_ (setSlot_within ..) (by decide +kernel)
  exact Within.refl _ _

/-- What `lineChain` can change. -/
def fpLineChain : Nat :=
  0x20000000000000000000000000000000000000000000000000000000000000000000000000000000000000000000000000000000000000000000000000000000000000000000000000000000000000000000000000000000000000000000000000000000000000000000000000000000000000000000000000000000000000000000000000

theorem fpLineChain_eq : fpLineChain =
    fpSetLine := by decide +kernel

theorem lineChain_within (s : State) (n : Nat) : Within fpLineChain s (lineChain s n) := by
  unfold lineChain
  extract_lets -lift +onlyGivenNames a1
  clear_value a1
  extract_lets -lift +onlyGivenNames a2
  clear_value a2
  refine Within.ite ?_ ?_
  · exact Within.refl _ _
  · extract_lets -lift +onlyGivenNames a3
    clear_value a3
    extract_lets -lift +onlyGivenNames a4
    clear_value a4
    extract_lets -lift +onlyGivenNames a5
    clear_value a5
    extract_lets -lift +onlyGivenNames a6
    clear_value a6
    extract_lets -lift +onlyGivenNames a7
    clear_value a7
    extract_lets -lift +onlyGivenNames a8
    clear_value a8
    extract_lets -lift +onlyGivenNames a9
    clear_value a9
    refine Within.step ?_ (setLine_within ..) (by decide +kernel)
    exact Within.refl _ _

/-- What `lineOut` can change. -/
def fpLineOut : Nat :=
  0x20000000000000000000000000000000000000000000000000000000000000000000000000000000000000000000000000000000000000000000000000060000000000000000000000000000000000000000000000000000000000000000000000000000000000000000000000000000000000000000000000000000000000000000000000

theorem fpLineOut_eq : fpLineOut =
    footprint [R.LIN_STATUS_SAT, R.LIN_SAT_CNT_COUNT] [] ||| fpSetLine := by decide +kernel

theorem lineOut_within (s : State) (n : Nat) : Within fpLineOut s (lineOut s n) := by
  unfold lineOut
  extract_lets -lift +onlyGivenNames a1
  clear_value a1
  split
  extract_lets -lift +onlyGivenNames a2
  have h2 : Within fpLineOut s a2 := by
    unfold a2
    refine Within.when ?_ fun a3 => ?_
    · exact Within.refl _ _
    · refine Within.step ?_ (inc_within _ _ _ (by decide +kernel)) (by decide +kernel)
      refine Within.step ?_ (orf_within _ _ _ (by decide +kernel)) (by decide +kernel)
      exact Within.refl _ _
  clear_value a2
  extract_lets -lift +onlyGivenNames a3
  clear_value a3
  refine Within.step ?_ (setLine_within ..) (by decide +kernel)
  exact h2

/-- What `playStart` can change. -/
def fpPlayStart : Nat :=
  0x800002000000000000000000000000000000000000000000000000000000000000000000000000000000000000000000000000000000000000000000e00000000000000000000000000000000000000000000000000000000000000000000000000000000000000000000000000000000000000000000000000000000000000000000000

theorem fpPlayStart_eq : fpPlayStart =
    fpSetSlot ||| fpShowBind ||| fpFireMarkers := by decide +kernel

theorem playStart_within (s : State) (z : Nat) (g : Seg) : Within fpPlayStart s (playStart s z g) := by
  unfold playStart
  extract_lets -lift +onlyGivenNames a1
  clear_value a1
  extract_lets -lift +onlyGivenNames a2
  clear_value a2
  extract_lets -lift +onlyGivenNames a3
  clear_value a3
  extract_lets -lift +onlyGivenNames a4
  have h4 : Within fpPlayStart s a4 := by
    unfold a4
    refine Within.step ?_ (showBind_within ..) (by decide +kernel)
    refine Within.step ?_ (setSlot_within ..) (by decide +kernel)
    exact Within.refl _ _
  clear_value a4
  refine Within.step ?_ (fireMarkers_within ..) (by decide +kernel)
  exact h4

/-- What `slotTickEnd` can change. -/
def fpSlotTickEnd : Nat :=
  0x10000008000020f8300200000000000000000000000000000000000000000000000000000000000000000000000000000008000004000000000000000000000e0000000000000040000000000000000000000000000000000000000000000000000000000000000000000000000000000018080000000000000000000000000000007f0707f0000

theorem fpSlotTickEnd_eq : fpSlotTickEnd =
    fpEnvGranule ||| fpSlotSettle ||| fpPlayStart := by decide +kernel

theorem slotTickEnd_within (s : State) (z : Nat) : Within fpSlotTickEnd s (slotTickEnd s z) := by
  unfold slotTickEnd
  extract_lets -lift +onlyGivenNames a1
  have h1 : Within fpSlotTickEnd s a1 := by
    unfold a1
    refine Within.forAll _ ?_ fun a2 _ => ?_
    · exact Within.refl _ _
    · refine Within.step ?_ (playStart_within ..) (by decide +kernel)
      exact Within.refl _ _
  clear_value a1
  refine Within.step ?_ (slotSettle_within ..) (by decide +kernel)
  refine Within.step ?_ (envGranule_within ..) (by decide +kernel)
  exact h1

/-- What `slotTickStart` can change. -/
def fpSlotTickStart : Nat := footprint [R.TON_SLOT_BUSY] []

theorem slotTickStart_within (s : State) (z : Nat) : Within fpSlotTickStart s (slotTickStart s z) := by
  unfold slotTickStart
  refine Within.step ?_ (set_within _ _ _ (by decide +kernel)) (by decide +kernel)
  exact Within.refl _ _

/-- What `muteOn` can change. -/
def fpMuteOn : Nat :=
  0x20000000000000000000000000000000000000000000000000000000000000000000000000000000000000000000000000000000000000000000000000011000000000000000000000000000000000000000000000000000000000000000000000000000000000000000000000000000000000000000000000000000000000000000000000

theorem fpMuteOn_eq : fpMuteOn =
    footprint [R.LIN_STATUS_LIVE, R.LIN_STATUS_MUTE_CAUSE] [] ||| fpSetLine := by decide +kernel

theorem muteOn_within (s : State) (n k : Nat) : Within fpMuteOn s (muteOn s n k) := by
  unfold muteOn
  extract_lets -lift +onlyGivenNames a1
  have h1 : Within fpMuteOn s a1 := by
    unfold a1
    refine Within.step ?_ (orf_within _ _ _ (by decide +kernel)) (by decide +kernel)
    exact Within.refl _ _
  clear_value a1
  extract_lets -lift +onlyGivenNames a2
  clear_value a2
  refine Within.ite ?_ ?_
  · refine Within.step ?_ (setLine_within ..) (by decide +kernel)
    refine Within.step ?_ (set_within _ _ _ (by decide +kernel)) (by decide +kernel)
    exact h1
  · exact h1

/-- What `muteOff` can change. -/
def fpMuteOff : Nat := footprint [R.LIN_STATUS_MUTE_CAUSE] []

theorem muteOff_within (s : State) (n k : Nat) : Within fpMuteOff s (muteOff s n k) := by
  unfold muteOff
  refine Within.step ?_ (set_within _ _ _ (by decide +kernel)) (by decide +kernel)
  exact Within.refl _ _

/-- What `muteAll` can change. -/
def fpMuteAll : Nat :=
  0x20000000000000000000000000000000000000000000000000000000000000000000000000000000000000000000000000000000000000000000000000011000000000000000000000000000000000000000000000000000000000000000000000000000000000000000000000000000000000000000000000000000000000000000000000

theorem fpMuteAll_eq : fpMuteAll =
    fpMuteOn := by decide +kernel

theorem muteAll_within (s : State) (k : Nat) : Within fpMuteAll s (muteAll s k) := by
  unfold muteAll
  refine Within.forAll _ ?_ fun a1 _ => ?_
  · exact Within.refl _ _
  · refine Within.step ?_ (muteOn_within ..) (by decide +kernel)
    exact Within.refl _ _

/-- What `unmuteAll` can change. -/
def fpUnmuteAll : Nat :=
  0x10000000000000000000000000000000000000000000000000000000000000000000000000000000000000000000000000000000000000000000000000000000000000000000000

theorem fpUnmuteAll_eq : fpUnmuteAll =
    fpMuteOff := by decide +kernel

theorem unmuteAll_within (s : State) (k : Nat) : Within fpUnmuteAll s (unmuteAll s k) := by
  unfold unmuteAll
  refine Within.forAll _ ?_ fun a1 _ => ?_
  · exact Within.refl _ _
  · refine Within.step ?_ (muteOff_within ..) (by decide +kernel)
    exact Within.refl _ _

/-- What `execLineUnmute` can change. -/
def fpExecLineUnmute : Nat :=
  0x20000000000000000000000000000000000000000000000000000000000000000000000000000000000000000000000000000000000000000000000000001000000000000000000000000000000000000000000000000000000000000000000000000000000000000000000000000000000000000000000000000000000000000000000000

theorem fpExecLineUnmute_eq : fpExecLineUnmute =
    footprint [R.LIN_STATUS_LIVE] [] ||| fpSetLine := by decide +kernel

theorem execLineUnmute_within (n : Fin 256) (s : State) : Completes fpExecLineUnmute s (execLineUnmute n s) := by
  unfold execLineUnmute
  refine Completes.next ?_
  refine Within.ite ?_ ?_
  · refine Within.step ?_ (setLine_within ..) (by decide +kernel)
    refine Within.step ?_ (set_within _ _ _ (by decide +kernel)) (by decide +kernel)
    exact Within.refl _ _
  · exact Within.refl _ _

/-- What `execPathSettleEnd` can change. -/
def fpExecPathSettleEnd : Nat :=
  0x20000000000000000000000000000000000000000000000000000000000000000000000000000000000000000000000000000000000000000000000000012000000000000000000000000000000000000000000000000000000000000000000000000000000000000000000000000000000000000000000000000000000000000000000000

theorem fpExecPathSettleEnd_eq : fpExecPathSettleEnd =
    footprint [R.LIN_STATUS_PATH_SETTLE] [] ||| fpSetLine ||| fpMuteOff := by decide +kernel

theorem execPathSettleEnd_within (n : Fin 256) (s : State) : Completes fpExecPathSettleEnd s (execPathSettleEnd n s) := by
  unfold execPathSettleEnd
  extract_lets -lift +onlyGivenNames a1
  clear_value a1
  refine Completes.next ?_
  refine Within.ite ?_ ?_
  · refine Within.step ?_ (muteOff_within ..) (by decide +kernel)
    refine Within.step ?_ (setLine_within ..) (by decide +kernel)
    refine Within.step ?_ (set_within _ _ _ (by decide +kernel)) (by decide +kernel)
    exact Within.refl _ _
  · exact Within.refl _ _

/-- What `linCfgWritten` can change. -/
def fpLinCfgWritten : Nat :=
  0x2000000000000000000000000000000000000000000000000000000000000000000000000000000000000000000000000000000000000000000000000001b000000000000000000000000000000000000000000000000000000000000000000000000000000000000000000000000000000000000000000000000000000000000000000000

theorem fpLinCfgWritten_eq : fpLinCfgWritten =
    footprint [R.LIN_STATUS_PATH_SETTLE, R.LIN_STATUS_CFG_FIX] [] ||| fpSetLine ||| fpMuteOn ||| fpMuteOff := by decide +kernel

theorem linCfgWritten_within (before s : State) (n : Nat) : Within fpLinCfgWritten s (linCfgWritten before s n) := by
  unfold linCfgWritten
  extract_lets -lift +onlyGivenNames a1
  have h1 : Within fpLinCfgWritten s a1 := by
    unfold a1
    refine Within.when ?_ fun a2 => ?_
    · exact Within.refl _ _
    · refine Within.step ?_ (set_within _ _ _ (by decide +kernel)) (by decide +kernel)
      exact Within.refl _ _
  clear_value a1
  extract_lets -lift +onlyGivenNames a2
  have h2 : Within fpLinCfgWritten s a2 := by
    unfold a2
    refine Within.when ?_ fun a3 => ?_
    · exact h1
    · refine Within.step ?_ (set_within _ _ _ (by decide +kernel)) (by decide +kernel)
      exact Within.refl _ _
  clear_value a2
  extract_lets -lift +onlyGivenNames a3
  have h3 : Within fpLinCfgWritten s a3 := by
    unfold a3
    refine Within.ite ?_ ?_
    · refine Within.step ?_ (muteOn_within ..) (by decide +kernel)
      exact h2
    · refine Within.step ?_ (muteOff_within ..) (by decide +kernel)
      exact h2
  clear_value a3
  refine Within.ite ?_ ?_
  · extract_lets -lift +onlyGivenNames a4
    have h4 : Within fpLinCfgWritten s a4 := by
      unfold a4
      refine Within.step ?_ (muteOn_within ..) (by decide +kernel)
      refine Within.step ?_ (set_within _ _ _ (by decide +kernel)) (by decide +kernel)
      exact h3
    clear_value a4
    refine Within.step ?_ (setLine_within ..) (by decide +kernel)
    exact h4
  · exact h3

/-- What `linSkewWritten` can change. -/
def fpLinSkewWritten : Nat := footprint [R.LIN_STATUS_SKEW_CLAMP] []

theorem linSkewWritten_within (s : State) (n : Nat) : Within fpLinSkewWritten s (linSkewWritten s n) := by
  unfold linSkewWritten
  extract_lets -lift +onlyGivenNames a1
  clear_value a1
  refine Within.step ?_ (set_within _ _ _ (by decide +kernel)) (by decide +kernel)
  exact Within.refl _ _

/-- What `frmCopy` can change. -/
def fpFrmCopy : Nat :=
  0xf8000000000000000000000000000000000000000000000000000000000000000000000000000000000000000000000000000000000000000000000000000000000000000000000000

theorem fpFrmCopy_eq : fpFrmCopy =
    footprint [R.TON_FRM_FREQ_LO_F_LO, R.TON_FRM_FREQ_HI_F_HI, R.TON_FRM_PHASE_PHI, R.TON_FRM_T0_LO_T0_LO,
  R.TON_FRM_T0_HI_T0_HI] [] := by decide +kernel

theorem frmCopy_within (s : State) (n : Nat) : Within fpFrmCopy s (frmCopy s n) := by
  unfold frmCopy
  extract_lets -lift +onlyGivenNames a1
  clear_value a1
  extract_lets -lift +onlyGivenNames a2
  have h2 : Within fpFrmCopy s a2 := by
    unfold a2
    refine Within.step ?_ (set_within _ _ _ (by decide +kernel)) (by decide +kernel)
    refine Within.step ?_ (set_within _ _ _ (by decide +kernel)) (by decide +kernel)
    exact Within.refl _ _
  clear_value a2
  extract_lets -lift +onlyGivenNames a3
  have h3 : Within fpFrmCopy s a3 := by
    unfold a3
    refine Within.step ?_ (set_within _ _ _ (by decide +kernel)) (by decide +kernel)
    exact h2
  clear_value a3
  refine Within.step ?_ (set_within _ _ _ (by decide +kernel)) (by decide +kernel)
  refine Within.step ?_ (set_within _ _ _ (by decide +kernel)) (by decide +kernel)
  exact h3

/-- What `frmCommit` can change. -/
def fpFrmCommit : Nat :=
  0x1c0000000000000000000000000000000000000000000000000000000000000000000000000000000000000000000000000000000000000000000000fa000000000000000000000000000000000000000000000000000000000000000000000000000000000000000000000000000000000000000000000000000000000000000000000000

theorem fpFrmCommit_eq : fpFrmCommit =
    footprint [R.TON_FRM_INDEX_INDEX] [.frmInit, .frmLive, .frmOps] ||| fpFrmCopy := by decide +kernel

theorem frmCommit_within (s : State) (n : Nat) : Within fpFrmCommit s (frmCommit s n) := by
  unfold frmCommit
  extract_lets -lift +onlyGivenNames a1
  clear_value a1
  extract_lets -lift +onlyGivenNames a2
  clear_value a2
  extract_lets -lift +onlyGivenNames a3
  have h3 : Within fpFrmCommit s a3 := by
    unfold a3
    refine Within.step ?_ (upd_frmInit_frmLive_frmOps_within _ _ _ _) (by decide +kernel)
    exact Within.refl _ _
  clear_value a3
  refine Within.ite ?_ ?_
  · refine Within.step ?_ (frmCopy_within ..) (by decide +kernel)
    refine Within.step ?_ (set_within _ _ _ (by decide +kernel)) (by decide +kernel)
    exact h3
  · exact h3

end Sys2Proof.Machine
end

