-- ==== Sys2Proof/Laws/Bias.lean ====
section
/-! SUPPORT. What each operation of Sys2Proof/Machine/Bias.lean can change. -/

set_option Elab.async false

namespace Sys2Proof.Machine

/-- What `setBias` can change. -/
def fpSetBias : Nat := footprint [] [.biases]

theorem setBias_within (s : State) (n : Nat) (b : Bias) : Within fpSetBias s (setBias s n b) := by
  unfold setBias
  refine Within.step ?_ (biases_within _ _) (by decide +kernel)
  exact Within.refl _ _

/-- What `biasGliding` can change. -/
def fpBiasGliding : Nat := footprint [R.BIA_STATUS_GLIDING] []

theorem biasGliding_within (s : State) (n : Nat) : Within fpBiasGliding s (biasGliding s n) := by
  unfold biasGliding
  refine Within.step ?_ (set_within _ _ _ (by decide +kernel)) (by decide +kernel)
  exact Within.refl _ _

/-- What `biasTarget` can change. -/
def fpBiasTarget : Nat :=
  0x40000000000000000000000000000000000000000000000000000000000000000000000000000000000000000000000000000000000000000000040100000000000000000000000000000000000000000000000000000000000000000000000000000000000000000000000000000000000000000000000000000000000000000000000000

theorem fpBiasTarget_eq : fpBiasTarget =
    footprint [R.BIA_TARGET_CODE] [] ||| fpSetBias ||| fpBiasGliding := by decide +kernel

theorem biasTarget_within (s : State) (n code : Nat) : Within fpBiasTarget s (biasTarget s n code) := by
  unfold biasTarget
  extract_lets -lift +onlyGivenNames a1
  clear_value a1
  extract_lets -lift +onlyGivenNames a2
  have h2 : Within fpBiasTarget s a2 := by
    unfold a2
    refine Within.ite ?_ ?_
    · exact Within.refl _ _
    · refine Within.step ?_ (setBias_within ..) (by decide +kernel)
      exact Within.refl _ _
  clear_value a2
  refine Within.step ?_ (biasGliding_within ..) (by decide +kernel)
  refine Within.step ?_ (set_within _ _ _ (by decide +kernel)) (by decide +kernel)
  exact h2

/-- What `biasCode` can change. -/
def fpBiasCode : Nat :=
  0x40000000000000000000000000000000000000000000000000000000000000000000000000000000000000000000000000000000000000000000040400000000000000000000000000000000000000000000000000000000000000000000000000000000000000000000000000000000000000000000000000000000000000000000000000

theorem fpBiasCode_eq : fpBiasCode =
    footprint [R.BIA_CODE_CODE] [] ||| fpSetBias ||| fpBiasGliding := by decide +kernel

theorem biasCode_within (s : State) (n code d : Nat) : Within fpBiasCode s (biasCode s n code d) := by
  unfold biasCode
  extract_lets -lift +onlyGivenNames a1
  clear_value a1
  extract_lets -lift +onlyGivenNames a2
  have h2 : Within fpBiasCode s a2 := by
    unfold a2
    refine Within.step ?_ (set_within _ _ _ (by decide +kernel)) (by decide +kernel)
    exact Within.refl _ _
  clear_value a2
  refine Within.step ?_ (biasGliding_within ..) (by decide +kernel)
  refine Within.step ?_ (setBias_within ..) (by decide +kernel)
  exact h2

/-- What `biasLadders` can change. -/
def fpBiasLadders : Nat := footprint [] [.biases]

theorem biasLadders_within (s : State) : Within fpBiasLadders s (biasLadders s) := by
  unfold biasLadders
  refine Within.step ?_ (biases_within _ _) (by decide +kernel)
  exact Within.refl _ _

/-- What `govTaint` can change. -/
def fpGovTaint : Nat :=
  0x10000000000000f83002000000000000000000000000000000000000000000000000000000000000000000000000000000080000040000000000000000000000000000000000004000000000000000000000000000000000000000000000000000000000000000000000000000000000001808000000000000000000000000000000000007f0000

theorem fpGovTaint_eq : fpGovTaint =
    fpAddShotTaint := by decide +kernel

theorem govTaint_within (s : State) (n : Nat) : Within fpGovTaint s (govTaint s n) := by
  unfold govTaint
  refine Within.step ?_ (addShotTaint_within ..) (by decide +kernel)
  exact Within.refl _ _

/-- What `biasOrder` can change. -/
def fpBiasOrder : Nat :=
  0x10000400000000f83002000000000000000000000000000000000000000000000000000000000000000000000000000000080000040000000000000000c01000000000000000004000000000000000000000000000000000000000000000000000000000000000000000000000000000001808000000000000000000000000000000000007f0000

theorem fpBiasOrder_eq : fpBiasOrder =
    footprint [R.BIA_STATUS_CLAMP] [] ||| fpFire ||| fpBiasTarget ||| fpGovTaint := by decide +kernel

theorem biasOrder_within (s : State) (n code : Nat) : Within fpBiasOrder s (biasOrder s n code) := by
  unfold biasOrder
  extract_lets -lift +onlyGivenNames a1
  clear_value a1
  extract_lets -lift +onlyGivenNames a2
  clear_value a2
  refine Within.ite ?_ ?_
  · extract_lets -lift +onlyGivenNames a3
    have h3 : Within fpBiasOrder s a3 := by
      unfold a3
      refine Within.step ?_ (biasTarget_within ..) (by decide +kernel)
      exact Within.refl _ _
    clear_value a3
    extract_lets -lift +onlyGivenNames a4
    have h4 : Within fpBiasOrder s a4 := by
      unfold a4
      refine Within.step ?_ (govTaint_within ..) (by decide +kernel)
      exact h3
    clear_value a4
    refine Within.ite ?_ ?_
    · exact h4
    · refine Within.step ?_ (fire_within ..) (by decide +kernel)
      refine Within.step ?_ (set_within _ _ _ (by decide +kernel)) (by decide +kernel)
      exact h4
  · refine Within.step ?_ (biasTarget_within ..) (by decide +kernel)
    exact Within.refl _ _

/-- What `biasArrive` can change. -/
def fpBiasArrive : Nat :=
  0x4000000000000000000000000000000000000000000000000000000000000000000000000000000000000000000000000000000000000000000004c100000000000000000000000000000000000000000000000000000000000000000000000000000000000000000000000000000000000000000000000000000000000000000000000000

theorem fpBiasArrive_eq : fpBiasArrive =
    footprint [R.BIA_PARK_LATCH_SPAN, R.BIA_PARK_LATCH_CODE] [] ||| fpSetBias ||| fpBiasTarget := by decide +kernel

theorem biasArrive_within (s : State) (n : Nat) : Within fpBiasArrive s (biasArrive s n) := by
  unfold biasArrive
  extract_lets -lift +onlyGivenNames a1
  have h1 : Within fpBiasArrive s a1 := by
    unfold a1
    refine Within.step ?_ (set_within _ _ _ (by decide +kernel)) (by decide +kernel)
    refine Within.step ?_ (set_within _ _ _ (by decide +kernel)) (by decide +kernel)
    exact Within.refl _ _
  clear_value a1
  refine Within.step ?_ (biasTarget_within ..) (by decide +kernel)
  refine Within.step ?_ (setBias_within ..) (by decide +kernel)
  exact h1

/-- What `biasUpdate` can change. -/
def fpBiasUpdate : Nat :=
  0x4000000000000000000000000000000000000000000000000000000000000000000000000000000000000000000000000000000000000000000005c700000000000000000000000000000000000000000000000000000000000000000000000000000000000000000000000000000000000000000000000000000000000000000000000000

theorem fpBiasUpdate_eq : fpBiasUpdate =
    footprint [R.BIA_CODE_SPAN, R.BIA_STATUS_STATE] [] ||| fpSetBias ||| fpBiasGliding ||| fpBiasCode ||| fpBiasArrive := by decide +kernel

theorem biasUpdate_within (s : State) (n : Nat) : Within fpBiasUpdate s (biasUpdate s n) := by
  unfold biasUpdate
  extract_lets -lift +onlyGivenNames a1
  clear_value a1
  refine Within.ite ?_ ?_
  · extract_lets -lift +onlyGivenNames a2
    clear_value a2
    extract_lets -lift +onlyGivenNames a3
    clear_value a3
    extract_lets -lift +onlyGivenNames a4
    clear_value a4
    extract_lets -lift +onlyGivenNames a5
    have h5 : Within fpBiasUpdate s a5 := by
      unfold a5
      refine Within.ite ?_ ?_
      · exact Within.refl _ _
      · refine Within.step ?_ (biasCode_within ..) (by decide +kernel)
        exact Within.refl _ _
    clear_value a5
    refine Within.ite ?_ ?_
    · extract_lets -lift +onlyGivenNames a6
      have h6 : Within fpBiasUpdate s a6 := by
        unfold a6
        refine Within.step ?_ (set_within _ _ _ (by decide +kernel)) (by decide +kernel)
        refine Within.step ?_ (set_within _ _ _ (by decide +kernel)) (by decide +kernel)
        exact h5
      clear_value a6
      refine Within.step ?_ (biasGliding_within ..) (by decide +kernel)
      refine Within.step ?_ (setBias_within ..) (by decide +kernel)
      exact h6
    · refine Within.ite ?_ ?_
      · refine Within.step ?_ (setBias_within ..) (by decide +kernel)
        exact h5
      · refine Within.ite ?_ ?_
        · refine Within.step ?_ (biasArrive_within ..) (by decide +kernel)
          exact h5
        · exact h5
  · exact Within.refl _ _

/-- What `execBiasUpdate` can change. -/
def fpExecBiasUpdate : Nat :=
  0x4000000000000000000000000000000000000000000000000000000000000000000000000000000000000000000000000000000000000000000005c700000000000000000000000000000000000000000000000000000000000000000000000000000000000000000000000000000000000000000000000000000000000000000000000000

theorem fpExecBiasUpdate_eq : fpExecBiasUpdate =
    fpBiasUpdate := by decide +kernel

theorem execBiasUpdate_within (s : State) : Completes fpExecBiasUpdate s (execBiasUpdate s) := by
  unfold execBiasUpdate
  refine Completes.next ?_
  refine Within.ite ?_ ?_
  · refine Within.forAll _ ?_ fun a1 _ => ?_
    · exact Within.refl _ _
    · refine Within.step ?_ (biasUpdate_within ..) (by decide +kernel)
      exact Within.refl _ _
  · exact Within.refl _ _

/-- What `biasFree` can change. -/
def fpBiasFree : Nat :=
  0x40000000000000000000000000000000000000000000000000000000000000000000000000000000000000000000000000000000000000000000050400000000000000000000000000000000000000000000000000000000000000000000000000000000000000000000000000000000000000000000000000000000000000000000000000

theorem fpBiasFree_eq : fpBiasFree =
    footprint [R.BIA_STATUS_STATE] [] ||| fpSetBias ||| fpBiasGliding ||| fpBiasCode := by decide +kernel

theorem biasFree_within (s : State) (n : Nat) : Within fpBiasFree s (biasFree s n) := by
  unfold biasFree
  refine Within.ite ?_ ?_
  · extract_lets -lift +onlyGivenNames a1
    clear_value a1
    extract_lets -lift +onlyGivenNames a2
    have h2 : Within fpBiasFree s a2 := by
      unfold a2
      refine Within.ite ?_ ?_
      · exact Within.refl _ _
      · refine Within.step ?_ (biasCode_within ..) (by decide +kernel)
        refine Within.step ?_ (setBias_within ..) (by decide +kernel)
        exact Within.refl _ _
    clear_value a2
    extract_lets -lift +onlyGivenNames a3
    clear_value a3
    extract_lets -lift +onlyGivenNames a4
    have h4 : Within fpBiasFree s a4 := by
      unfold a4
      refine Within.ite ?_ ?_
      · exact h2
      · refine Within.step ?_ (setBias_within ..) (by decide +kernel)
        exact h2
    clear_value a4
    refine Within.step ?_ (biasGliding_within ..) (by decide +kernel)
    refine Within.step ?_ (set_within _ _ _ (by decide +kernel)) (by decide +kernel)
    exact h4
  · exact Within.refl _ _

/-- What `parkOn` can change. -/
def fpParkOn : Nat :=
  0x40000000000000000000000000000000000000000000000000000000000000000000000000000000000000000000000000000000000000000000070600000000000000000000000000000000000000000000000000000000000000000000000000000000000000000000000000000000000000000000000000000000000000000000000000

theorem fpParkOn_eq : fpParkOn =
    footprint [R.BIA_CODE_SPAN, R.BIA_STATUS_STATE, R.BIA_STATUS_CAUSE] [] ||| fpSetBias ||| fpBiasCode := by decide +kernel

theorem parkOn_within (s : State) (n k d : Nat) : Within fpParkOn s (parkOn s n k d) := by
  unfold parkOn
  extract_lets -lift +onlyGivenNames a1
  have h1 : Within fpParkOn s a1 := by
    unfold a1
    refine Within.step ?_ (orf_within _ _ _ (by decide +kernel)) (by decide +kernel)
    exact Within.refl _ _
  clear_value a1
  refine Within.ite ?_ ?_
  · extract_lets -lift +onlyGivenNames a2
    have h2 : Within fpParkOn s a2 := by
      unfold a2
      refine Within.step ?_ (set_within _ _ _ (by decide +kernel)) (by decide +kernel)
      exact h1
    clear_value a2
    extract_lets -lift +onlyGivenNames a3
    clear_value a3
    refine Within.ite ?_ ?_
    · extract_lets -lift +onlyGivenNames a4
      have h4 : Within fpParkOn s a4 := by
        unfold a4
        refine Within.step ?_ (biasCode_within ..) (by decide +kernel)
        refine Within.step ?_ (set_within _ _ _ (by decide +kernel)) (by decide +kernel)
        exact h2
      clear_value a4
      refine Within.step ?_ (setBias_within ..) (by decide +kernel)
      exact h4
    · refine Within.step ?_ (biasCode_within ..) (by decide +kernel)
      refine Within.step ?_ (setBias_within ..) (by decide +kernel)
      exact h2
  · exact h1

/-- What `parkOff` can change. -/
def fpParkOff : Nat :=
  0x40000000000000000000000000000000000000000000000000000000000000000000000000000000000000000000000000000000000000000000070400000000000000000000000000000000000000000000000000000000000000000000000000000000000000000000000000000000000000000000000000000000000000000000000000

theorem fpParkOff_eq : fpParkOff =
    footprint [R.BIA_STATUS_CAUSE] [] ||| fpBiasFree := by decide +kernel

theorem parkOff_within (s : State) (n k : Nat) : Within fpParkOff s (parkOff s n k) := by
  unfold parkOff
  refine Within.step ?_ (biasFree_within ..) (by decide +kernel)
  refine Within.step ?_ (set_within _ _ _ (by decide +kernel)) (by decide +kernel)
  exact Within.refl _ _

/-- What `execSpanHoldEnd` can change. -/
def fpExecSpanHoldEnd : Nat :=
  0x40000000000000000000000000000000000000000000000000000000000000000000000000000000000000000000000000000000000000000000050400000000000000000000000000000000000000000000000000000000000000000000000000000000000000000000000000000000000000000000000000000000000000000000000000

theorem fpExecSpanHoldEnd_eq : fpExecSpanHoldEnd =
    footprint [R.BIA_STATUS_STATE] [] ||| fpSetBias ||| fpBiasGliding ||| fpBiasCode := by decide +kernel

theorem execSpanHoldEnd_within (n : Fin 256) (s : State) : Completes fpExecSpanHoldEnd s (execSpanHoldEnd n s) := by
  unfold execSpanHoldEnd
  extract_lets -lift +onlyGivenNames a1
  clear_value a1
  refine Completes.next ?_
  refine Within.ite ?_ ?_
  · refine Within.step ?_ (biasGliding_within ..) (by decide +kernel)
    refine Within.step ?_ (setBias_within ..) (by decide +kernel)
    refine Within.step ?_ (set_within _ _ _ (by decide +kernel)) (by decide +kernel)
    exact Within.refl _ _
  · refine Within.ite ?_ ?_
    · refine Within.step ?_ (biasCode_within ..) (by decide +kernel)
      refine Within.step ?_ (setBias_within ..) (by decide +kernel)
      exact Within.refl _ _
    · exact Within.refl _ _

/-- What `biasHold` can change. -/
def fpBiasHold : Nat :=
  0x40000000000000000000000000000000000000000000000000000000000000000000000000000000000000000000000000000000000000000000040100000000000000000000000000000000000000000000000000000000000000000000000000000000000000000000000000000000000000000000000000000000000000000000000000

theorem fpBiasHold_eq : fpBiasHold =
    fpBiasTarget := by decide +kernel

theorem biasHold_within (s : State) : Within fpBiasHold s (biasHold s) := by
  unfold biasHold
  refine Within.forAll _ ?_ fun a1 _ => ?_
  · exact Within.refl _ _
  · refine Within.step ?_ (biasTarget_within ..) (by decide +kernel)
    exact Within.refl _ _

/-- What `biasOpen` can change. -/
def fpBiasOpen : Nat :=
  0x40000000000000000000000000000000000000000000000000000000000000000000000000000000000000000000000000000000000000000000050000000000000000000000000000000000000000000000000000000000000000000000000000000000000000000000000000000000000000000000000000000000000000000000000000

theorem fpBiasOpen_eq : fpBiasOpen =
    footprint [R.BIA_STATUS_STATE] [] ||| fpSetBias ||| fpBiasGliding := by decide +kernel

theorem biasOpen_within (s : State) : Within fpBiasOpen s (biasOpen s) := by
  unfold biasOpen
  refine Within.forAll _ ?_ fun a1 _ => ?_
  · exact Within.refl _ _
  · refine Within.step ?_ (biasGliding_within ..) (by decide +kernel)
    refine Within.step ?_ (setBias_within ..) (by decide +kernel)
    refine Within.step ?_ (set_within _ _ _ (by decide +kernel)) (by decide +kernel)
    exact Within.refl _ _

/-- What `execQuiesceFall` can change. -/
def fpExecQuiesceFall : Nat :=
  0x1e0000000000000000000000000000000000000000000000000000000000000000000000000000000000000000000000000000000000000000000070600011000000000000000000000000000000000000000000000000000000000000000000000000000000000000000000000000000000000000000000000000000000000000000000000

theorem fpExecQuiesceFall_eq : fpExecQuiesceFall =
    footprint [] [.quiesce, .quiesceEnd] ||| fpMuteAll ||| fpParkOn := by decide +kernel

theorem execQuiesceFall_within (s : State) : Completes fpExecQuiesceFall s (execQuiesceFall s) := by
  unfold execQuiesceFall
  extract_lets -lift +onlyGivenNames a1
  have h1 : Within fpExecQuiesceFall s a1 := by
    unfold a1
    refine Within.step ?_ (upd_quiesce_quiesceEnd_within _ _ _) (by decide +kernel)
    exact Within.refl _ _
  clear_value a1
  refine Completes.next ?_
  refine Within.forAll _ ?_ fun a2 _ => ?_
  · refine Within.step ?_ (muteAll_within ..) (by decide +kernel)
    exact h1
  · refine Within.step ?_ (parkOn_within ..) (by decide +kernel)
    exact Within.refl _ _

/-- What `execQuiesceRise` can change. -/
def fpExecQuiesceRise : Nat :=
  0x1c0000000000000000000000000000000000000000000000000000000000000000000000000000000000000000000000000000000000000000000070400010000000000000000000000000000000000000000000000000000000000000000000000000000000000000000000000000000000000000000000000000000000000000000000000

theorem fpExecQuiesceRise_eq : fpExecQuiesceRise =
    footprint [] [.quiesce, .quiesceEnd] ||| fpUnmuteAll ||| fpParkOff := by decide +kernel

theorem execQuiesceRise_within (s : State) : Completes fpExecQuiesceRise s (execQuiesceRise s) := by
  unfold execQuiesceRise
  refine Completes.next ?_
  refine Within.ite ?_ ?_
  · refine Within.forAll _ ?_ fun a1 _ => ?_
    · refine Within.step ?_ (unmuteAll_within ..) (by decide +kernel)
      refine Within.step ?_ (upd_quiesce_quiesceEnd_within _ _ _) (by decide +kernel)
      exact Within.refl _ _
    · refine Within.step ?_ (parkOff_within ..) (by decide +kernel)
      exact Within.refl _ _
  · exact Within.refl _ _

/-- What `execGovernorBoundary` can change. -/
def fpExecGovernorBoundary : Nat :=
  0x20000000000000000000000000000000000000000000000000000000000000000000000000000000000000000000000000000000000000000000000000000000000000000000000000000000000000000000000000000000000000000000000000000000000000000000000000000000000000000000000000000000000000000000000000

theorem fpExecGovernorBoundary_eq : fpExecGovernorBoundary =
    fpSetLine := by decide +kernel

theorem execGovernorBoundary_within (n : Fin 256) (s : State) : Completes fpExecGovernorBoundary s (execGovernorBoundary n s) := by
  unfold execGovernorBoundary
  refine Completes.ite ?_ ?_
  · extract_lets -lift +onlyGivenNames a1
    clear_value a1
    extract_lets -lift +onlyGivenNames a2
    clear_value a2
    extract_lets -lift +onlyGivenNames a3
    clear_value a3
    extract_lets -lift +onlyGivenNames a4
    clear_value a4
    extract_lets -lift +onlyGivenNames a5
    clear_value a5
    extract_lets -lift +onlyGivenNames a6
    clear_value a6
    extract_lets -lift +onlyGivenNames a7
    clear_value a7
    refine Completes.next ?_
    refine Within.step ?_ (setLine_within ..) (by decide +kernel)
    exact Within.refl _ _
  · refine Completes.next ?_
    exact Within.refl _ _

/-- What `setFg` can change. -/
def fpSetFg : Nat :=
  0x20000000000000000000000000000000000000000000000000000000000000000000000000000000000000000000000000000000000000000008800000000000000000000000000000000000000000000000000000000000000000000000000000000000000000000000000000000000000000000000000000000000000000000000000000

theorem fpSetFg_eq : fpSetFg =
    footprint [R.GOV_STATUS_CLIPPING, R.GOV_STATUS_FG] [] ||| fpSetLine := by decide +kernel

theorem setFg_within (s : State) (n fg : Nat) : Within fpSetFg s (setFg s n fg) := by
  unfold setFg
  extract_lets -lift +onlyGivenNames a1
  clear_value a1
  extract_lets -lift +onlyGivenNames a2
  clear_value a2
  extract_lets -lift +onlyGivenNames a3
  clear_value a3
  extract_lets -lift +onlyGivenNames a4
  have h4 : Within fpSetFg s a4 := by
    unfold a4
    refine Within.step ?_ (set_within _ _ _ (by decide +kernel)) (by decide +kernel)
    refine Within.step ?_ (set_within _ _ _ (by decide +kernel)) (by decide +kernel)
    exact Within.refl _ _
  clear_value a4
  refine Within.step ?_ (setLine_within ..) (by decide +kernel)
  exact h4

/-- What `govTick` can change. -/
def fpGovTick : Nat :=
  0x10000200000000f83002000000000000000000000000000000000000000000000000000000000000000000000000000000080000040000000000000088000000000000000000004000000000000000000000000000000000000000000000000000000000000000000000000000000000001808000000000000000000000000000000000007f0000

theorem fpGovTick_eq : fpGovTick =
    fpGovTaint ||| fpSetFg := by decide +kernel

theorem govTick_within (s : State) (n : Nat) : Within fpGovTick s (govTick s n) := by
  unfold govTick
  extract_lets -lift +onlyGivenNames a1
  have h1 : Within fpGovTick s a1 := by
    unfold a1
    refine Within.step ?_ (setFg_within ..) (by decide +kernel)
    exact Within.refl _ _
  clear_value a1
  refine Within.when ?_ fun a2 => ?_
  · exact h1
  · refine Within.step ?_ (govTaint_within ..) (by decide +kernel)
    exact Within.refl _ _

/-- What `govSeen` can change beside its field. -/
def fpGovSeen : Nat :=
  0x10000000000000f8000200000000000000000000000000000000000000000000000000000000000000000000000000000008000000000000000000000000000000000000000000000000000000000000000000000000000000000000000000000000000000000000000000000000000000180800000000000000000000000000000000000000000

theorem fpGovSeen_eq : fpGovSeen =
    fpFire := by decide +kernel

theorem govSeen_within {K : Nat} {s : State} {n : Nat} {f : Fld} (hf : Fits f) (hb : 2 ^ f.id &&& K = 2 ^ f.id)
    (hk : fpGovSeen &&& K = fpGovSeen) : Within K s (govSeen s n f) := by
  unfold govSeen
  refine Within.ite (Within.refl _ _) ?_
  exact Within.step (Within.step (Within.refl _ _) (set_within _ _ _ hf) hb) (fire_within ..) hk

/-- What `govTrip` can change. -/
def fpGovTrip : Nat :=
  0x10000600000000f83002000000000000000000000000000000000000000000000000000000000000000000000000000000080000040000000000000024706000110000000000004000000000000000000000000000000000000000000000000000000000000000000000000000000000001808000000000000000000000000000000000007f0000

theorem fpGovTrip_eq : fpGovTrip =
    footprint [R.GOV_STATUS_TRIPPED, R.GOV_STATUS_TRIP_SEEN] [] ||| fpMuteOn ||| fpGovTaint ||| fpParkOn ||| fpGovSeen := by decide +kernel

theorem govTrip_within (s : State) (n : Nat) : Within fpGovTrip s (govTrip s n) := by
  unfold govTrip
  refine Within.ite ?_ ?_
  · exact Within.refl _ _
  · extract_lets -lift +onlyGivenNames a1
    have h1 : Within fpGovTrip s a1 := by
      unfold a1
      refine Within.trans ?_ (govSeen_within (by decide +kernel) (by decide +kernel) (by decide +kernel) ..)
      refine Within.step ?_ (set_within _ _ _ (by decide +kernel)) (by decide +kernel)
      exact Within.refl _ _
    clear_value a1
    refine Within.step ?_ (govTaint_within ..) (by decide +kernel)
    refine Within.step ?_ (parkOn_within ..) (by decide +kernel)
    refine Within.step ?_ (muteOn_within ..) (by decide +kernel)
    exact h1

/-- What `govClip` can change. -/
def fpGovClip : Nat :=
  0x10000200000000f830020000000000000000000000000000000000000000000000000000000000000000000000000000000800000400000000000001c8000000000000000000004000000000000000000000000000000000000000000000000000000000000000000000000000000000001808000000000000000000000000000000000007f0000

theorem fpGovClip_eq : fpGovClip =
    footprint [R.GOV_STATUS_CLIP_SEEN, R.GOV_TGT_TGT] [] ||| fpGovTaint ||| fpSetFg ||| fpGovSeen := by decide +kernel

theorem govClip_within (s : State) (n : Nat) (ovr under : Bool) : Within fpGovClip s (govClip s n ovr under) := by
  unfold govClip
  extract_lets -lift +onlyGivenNames a1
  clear_value a1
  extract_lets -lift +onlyGivenNames a2
  clear_value a2
  extract_lets -lift +onlyGivenNames a3
  have h3 : Within fpGovClip s a3 := by
    unfold a3
    refine Within.step ?_ (set_within _ _ _ (by decide +kernel)) (by decide +kernel)
    exact Within.refl _ _
  clear_value a3
  extract_lets -lift +onlyGivenNames a4
  have h4 : Within fpGovClip s a4 := by
    unfold a4
    refine Within.when ?_ fun a5 => ?_
    · exact h3
    · refine Within.trans ?_ (govSeen_within (by decide +kernel) (by decide +kernel) (by decide +kernel) ..)
      exact Within.refl _ _
  clear_value a4
  extract_lets -lift +onlyGivenNames a5
  clear_value a5
  extract_lets -lift +onlyGivenNames a6
  clear_value a6
  extract_lets -lift +onlyGivenNames a7
  clear_value a7
  extract_lets -lift +onlyGivenNames a8
  have h8 : Within fpGovClip s a8 := by
    unfold a8
    refine Within.step ?_ (setFg_within ..) (by decide +kernel)
    exact h4
  clear_value a8
  refine Within.when ?_ fun a9 => ?_
  · exact h8
  · refine Within.step ?_ (govTaint_within ..) (by decide +kernel)
    exact Within.refl _ _

/-- What `execGovernorAction` can change. -/
def fpExecGovernorAction : Nat :=
  0x10000600000000f830020000000000000000000000000000000000000000000000000000000000000000000000000000000800000400000000000081fc706000110000000000004000000000000000000000000000000000000000000000000000000000000000000000000000000000001808000000000000000000000000000000000007f0000

theorem fpExecGovernorAction_eq : fpExecGovernorAction =
    footprint [R.GOV_STATUS_OVER, R.GOV_OVER_CNT_COUNT] [] ||| fpSetLine ||| fpGovTrip ||| fpGovClip := by decide +kernel

theorem execGovernorAction_within (n : Fin 256) (s : State) : Completes fpExecGovernorAction s (execGovernorAction n s) := by
  unfold execGovernorAction
  extract_lets -lift +onlyGivenNames a1
  clear_value a1
  refine Completes.ite ?_ ?_
  · extract_lets -lift +onlyGivenNames a2
    have h2 : Within fpExecGovernorAction s a2 := by
      unfold a2
      refine Within.step ?_ (setLine_within ..) (by decide +kernel)
      exact Within.refl _ _
    clear_value a2
    extract_lets -lift +onlyGivenNames a3
    have h3 : Within fpExecGovernorAction s a3 := by
      unfold a3
      refine Within.when ?_ fun a4 => ?_
      · exact h2
      · refine Within.step ?_ (inc_within _ _ _ (by decide +kernel)) (by decide +kernel)
        refine Within.step ?_ (orf_within _ _ _ (by decide +kernel)) (by decide +kernel)
        exact Within.refl _ _
    clear_value a3
    refine Completes.next ?_
    refine Within.ite ?_ ?_
    · refine Within.ite ?_ ?_
      · refine Within.step ?_ (govTrip_within ..) (by decide +kernel)
        exact h3
      · exact h3
    · refine Within.step ?_ (govClip_within ..) (by decide +kernel)
      exact h3
  · refine Completes.next ?_
    exact Within.refl _ _

/-- What `govRelease` can change. -/
def fpGovRelease : Nat :=
  0x40000000000000000000000000000000000000000000000000000000000000000000000000000000000000000000000000000000000000000000470400010000000000000000000000000000000000000000000000000000000000000000000000000000000000000000000000000000000000000000000000000000000000000000000000

theorem fpGovRelease_eq : fpGovRelease =
    footprint [R.GOV_STATUS_TRIPPED] [] ||| fpMuteOff ||| fpParkOff := by decide +kernel

theorem govRelease_within (s : State) (n : Nat) : Within fpGovRelease s (govRelease s n) := by
  unfold govRelease
  refine Within.ite ?_ ?_
  · refine Within.step ?_ (parkOff_within ..) (by decide +kernel)
    refine Within.step ?_ (muteOff_within ..) (by decide +kernel)
    refine Within.step ?_ (set_within _ _ _ (by decide +kernel)) (by decide +kernel)
    exact Within.refl _ _
  · exact Within.refl _ _

end Sys2Proof.Machine
end

