-- ==== Sys2Proof/Laws/Decide.lean ====
section
/-! SUPPORT. What each operation of Sys2Proof/Machine/Decide.lean can change. -/

set_option Elab.async false

namespace Sys2Proof.Machine

/-- What `decPublish` can change. -/
def fpDecPublish : Nat :=
  0x30000000001c00f81002000000000000000000000000000000000000000000000000000000000000000000000000000000080000000000000000000000000000000000000000000000000000000000000000000000000000000000000000000000000000000000000000000000000000001808000000000000000000000000000000000007f0000

theorem fpDecPublish_eq : fpDecPublish =
    footprint [] [.decVal, .decPub, .decTaint, .pubSeen] ||| fpNoteTaint := by decide +kernel

theorem decPublish_within (s : State) (b : Nat) (v : Bool) (t : Taint) : Within fpDecPublish s (decPublish s b v t) := by
  unfold decPublish
  extract_lets -lift +onlyGivenNames a1
  clear_value a1
  extract_lets -lift +onlyGivenNames a2
  clear_value a2
  extract_lets -lift +onlyGivenNames a3
  clear_value a3
  extract_lets -lift +onlyGivenNames a4
  have h4 : Within fpDecPublish s a4 := by
    unfold a4
    refine Within.step ?_ (upd_decVal_decPub_decTaint_pubSeen_within _ _ _ _ _) (by decide +kernel)
    exact Within.refl _ _
  clear_value a4
  refine Within.step ?_ (noteTaint_within ..) (by decide +kernel)
  exact h4

/-- What `decPublishWord` can change. -/
def fpDecPublishWord : Nat :=
  0x30000000001c00f81002000000000000000000000000000000000000000000000000000000000000000000000000000000080000000000000000000000000000000000000000000000000000000000000000000000000000000000000000000000000000000000000000000000000000001808000000000000000000000000000000000007f0000

theorem fpDecPublishWord_eq : fpDecPublishWord =
    fpNoteTaint ||| fpDecPublish := by decide +kernel

theorem decPublishWord_within (s : State) (w payload : Nat) (t : Taint) : Within fpDecPublishWord s (decPublishWord s w payload t) := by
  unfold decPublishWord
  extract_lets -lift +onlyGivenNames a1
  have h1 : Within fpDecPublishWord s a1 := by
    unfold a1
    refine Within.step ?_ (noteTaint_within ..) (by decide +kernel)
    exact Within.refl _ _
  clear_value a1
  refine Within.forAll _ ?_ fun a2 _ => ?_
  · exact h1
  · refine Within.step ?_ (decPublish_within ..) (by decide +kernel)
    exact Within.refl _ _

/-- What `decShotStart` can change. -/
def fpDecShotStart : Nat := footprint [] [.decPub, .decTaint]

theorem decShotStart_within (s : State) : Within fpDecShotStart s (decShotStart s) := by
  unfold decShotStart
  refine Within.step ?_ (upd_decPub_decTaint_within _ _ _) (by decide +kernel)
  exact Within.refl _ _

/-- What `decTransmit` can change. -/
def fpDecTransmit : Nat := footprint [R.DEC_STATUS_UNPUB_TX, R.DEC_UNPUB_TX_CNT_COUNT] []

theorem decTransmit_within (s : State) (w : Nat) : Within fpDecTransmit s (decTransmit s w).2 := by
  unfold decTransmit
  extract_lets +onlyGivenNames a1
  clear_value a1
  dsimp only
  refine Within.when ?_ fun a2 => ?_
  · exact Within.refl _ _
  · refine Within.step ?_ (set_within _ _ _ (by decide +kernel)) (by decide +kernel)
    refine Within.step ?_ (inc_within _ _ _ (by decide +kernel)) (by decide +kernel)
    exact Within.refl _ _

/-- What `execRoundEvaluate` can change. -/
def fpExecRoundEvaluate : Nat :=
  0x10000000060000f81002000000000000000000000000000000000000000000000000000000000000000000000000000000080000000000000000000000000000000000000000000000000000000000000000000000000780000000000000000000000000000000000000000000000000001808000000000000000000000000000000000007f0000

theorem fpExecRoundEvaluate_eq : fpExecRoundEvaluate =
    footprint [R.PFU_STATUS_UNPUB, R.PFU_STATUS_FIRST, R.PFU_ROUND_ROUND, R.PFU_UNPUB_CNT_COUNT] [.pfuNext, .rounds]
  ||| fpNoteTaint := by decide +kernel

theorem execRoundEvaluate_within (r : Fin 16) (s : State) : Completes fpExecRoundEvaluate s (execRoundEvaluate r s) := by
  unfold execRoundEvaluate
  refine Completes.ite ?_ ?_
  · extract_lets -lift +onlyGivenNames a1
    clear_value a1
    extract_lets -lift +onlyGivenNames a2
    clear_value a2
    extract_lets -lift +onlyGivenNames a3
    clear_value a3
    extract_lets -lift +onlyGivenNames a4
    clear_value a4
    extract_lets -lift +onlyGivenNames a5
    clear_value a5
    extract_lets -lift +onlyGivenNames a6
    clear_value a6
    extract_lets -lift +onlyGivenNames a7
    clear_value a7
    extract_lets -lift +onlyGivenNames a8
    have h8 : Within fpExecRoundEvaluate s a8 := by
      unfold a8
      refine Within.step ?_ (upd_pfuNext_rounds_within _ _ _) (by decide +kernel)
      exact Within.refl _ _
    clear_value a8
    extract_lets -lift +onlyGivenNames a9
    have h9 : Within fpExecRoundEvaluate s a9 := by
      unfold a9
      refine Within.step ?_ (noteTaint_within ..) (by decide +kernel)
      exact h8
    clear_value a9
    extract_lets -lift +onlyGivenNames a10
    have h10 : Within fpExecRoundEvaluate s a10 := by
      unfold a10
      refine Within.step ?_ (set_within _ _ _ (by decide +kernel)) (by decide +kernel)
      refine Within.step ?_ (set_within _ _ _ (by decide +kernel)) (by decide +kernel)
      exact h9
    clear_value a10
    extract_lets -lift +onlyGivenNames a11
    have h11 : Within fpExecRoundEvaluate s a11 := by
      unfold a11
      refine Within.when ?_ fun a12 => ?_
      · exact h10
      · refine Within.step ?_ (set_within _ _ _ (by decide +kernel)) (by decide +kernel)
        refine Within.step ?_ (inc_within _ _ _ (by decide +kernel)) (by decide +kernel)
        exact Within.refl _ _
    clear_value a11
    refine Completes.next ?_
    exact h11
  · refine Completes.next ?_
    exact Within.refl _ _

/-- What `execRoundChecks` can change. -/
def fpExecRoundChecks : Nat :=
  0x30000000049c00f81002000000000000000000000000000000000000000000000000000000000000000000000000000000080000000000000000000000000000000000000000000000000000000000000000000000000000000000000000000000000000000000000000000000000000001808000000000000000000000000000000000007f0000

theorem fpExecRoundChecks_eq : fpExecRoundChecks =
    footprint [] [.pfuPrev, .rounds] ||| fpDecPublish := by decide +kernel

theorem execRoundChecks_within (r : Fin 16) (s : State) : Completes fpExecRoundChecks s (execRoundChecks r s) := by
  unfold execRoundChecks
  split
  · refine Completes.next ?_
    exact Within.refl _ _
  · refine Completes.ite ?_ ?_
    · refine Completes.next ?_
      exact Within.refl _ _
    · extract_lets -lift +onlyGivenNames a1
      clear_value a1
      extract_lets -lift +onlyGivenNames a2
      clear_value a2
      extract_lets -lift +onlyGivenNames a3
      clear_value a3
      extract_lets -lift +onlyGivenNames a4
      clear_value a4
      extract_lets -lift +onlyGivenNames a5
      clear_value a5
      extract_lets -lift +onlyGivenNames a6
      clear_value a6
      extract_lets -lift +onlyGivenNames a7
      have h7 : Within fpExecRoundChecks s a7 := by
        unfold a7
        refine Within.step ?_ (upd_pfuPrev_rounds_within _ _ _) (by decide +kernel)
        exact Within.refl _ _
      clear_value a7
      extract_lets -lift +onlyGivenNames a8
      clear_value a8
      refine Completes.next ?_
      refine Within.forAll _ ?_ fun a9 _ => ?_
      · exact h7
      · split
        · refine Within.ite ?_ ?_
          · refine Within.step ?_ (decPublish_within ..) (by decide +kernel)
            exact Within.refl _ _
          · refine Within.ite ?_ ?_
            · refine Within.step ?_ (decPublish_within ..) (by decide +kernel)
              exact Within.refl _ _
            · exact Within.refl _ _
        · exact Within.refl _ _

/-- What `pfuPending` can change. -/
def fpPfuPending : Nat := footprint [R.PFU_PENDING_COUNT] []

theorem pfuPending_within (s : State) : Within fpPfuPending s (pfuPending s) := by
  unfold pfuPending
  refine Within.step ?_ (set_within _ _ _ (by decide +kernel)) (by decide +kernel)
  exact Within.refl _ _

/-- What `execRoundApply` can change. -/
def fpExecRoundApply : Nat :=
  0x30000000051c01f81002000000000000000000000000000000000000000000000000000000000000000000000000000000080000000000000000000000000000000000000000000000000000000000000000000000001840000000000000000000000000000000004000000000000000001808000000000000000000000000000000000047f0000

theorem fpExecRoundApply_eq : fpExecRoundApply =
    footprint [R.PFU_STATUS_ESC, R.PFU_ESC_CNT_COUNT] [.pfuRec, .rounds] ||| fpGlobalEvent ||| fpPushRec |||
  fpNoteTaint ||| fpDecPublish ||| fpPfuPending := by decide +kernel

theorem execRoundApply_within (r : Fin 16) (s : State) : Completes fpExecRoundApply s (execRoundApply r s) := by
  unfold execRoundApply
  split
  · refine Completes.next ?_
    exact Within.refl _ _
  · refine Completes.ite ?_ ?_
    · refine Completes.next ?_
      exact Within.refl _ _
    · extract_lets -lift +onlyGivenNames a1
      have h1 : Within fpExecRoundApply s a1 := by
        unfold a1
        refine Within.step ?_ (rounds_within _ _) (by decide +kernel)
        exact Within.refl _ _
      clear_value a1
      extract_lets -lift +onlyGivenNames a2
      clear_value a2
      extract_lets -lift +onlyGivenNames a3
      clear_value a3
      extract_lets -lift +onlyGivenNames a4
      clear_value a4
      extract_lets -lift +onlyGivenNames a5
      have h5 : Within fpExecRoundApply s a5 := by
        unfold a5
        refine Within.step ?_ (pfuRec_within _ _) (by decide +kernel)
        exact h1
      clear_value a5
      extract_lets -lift +onlyGivenNames a6
      have h6 : Within fpExecRoundApply s a6 := by
        unfold a6
        refine Within.step ?_ (pfuPending_within ..) (by decide +kernel)
        exact h5
      clear_value a6
      extract_lets -lift +onlyGivenNames a7
      clear_value a7
      extract_lets -lift +onlyGivenNames a8
      clear_value a8
      extract_lets -lift +onlyGivenNames a9
      have h9 : Within fpExecRoundApply s a9 := by
        unfold a9
        refine Within.when ?_ fun a10 => ?_
        · exact h6
        · refine Within.step ?_ (set_within _ _ _ (by decide +kernel)) (by decide +kernel)
          refine Within.step ?_ (inc_within _ _ _ (by decide +kernel)) (by decide +kernel)
          exact Within.refl _ _
      clear_value a9
      extract_lets -lift +onlyGivenNames a10
      have h10 : Within fpExecRoundApply s a10 := by
        unfold a10
        refine Within.forAll _ ?_ fun a11 _ => ?_
        · exact h9
        · split
          · refine Within.ite ?_ ?_
            · refine Within.step ?_ (decPublish_within ..) (by decide +kernel)
              exact Within.refl _ _
            · refine Within.ite ?_ ?_
              · refine Within.step ?_ (decPublish_within ..) (by decide +kernel)
                exact Within.refl _ _
              · exact Within.refl _ _
          · exact Within.refl _ _
      clear_value a10
      extract_lets -lift +onlyGivenNames a11
      have h11 : Within fpExecRoundApply s a11 := by
        unfold a11
        refine Within.step ?_ (noteTaint_within ..) (by decide +kernel)
        exact h10
      clear_value a11
      extract_lets -lift +onlyGivenNames a12
      clear_value a12
      extract_lets -lift +onlyGivenNames a13
      clear_value a13
      extract_lets -lift +onlyGivenNames a14
      have h14 : Within fpExecRoundApply s a14 := by
        unfold a14
        refine Within.step ?_ (pushRec_within ..) (by decide +kernel)
        exact h11
      clear_value a14
      extract_lets -lift +onlyGivenNames a15
      have h15 : Within fpExecRoundApply s a15 := by
        unfold a15
        refine Within.forAll _ ?_ fun a16 _ => ?_
        · exact h14
        · extract_lets -lift +onlyGivenNames a17
          clear_value a17
          refine Within.step ?_ (pushRec_within ..) (by decide +kernel)
          exact Within.refl _ _
      clear_value a15
      refine Completes.next ?_
      refine Within.when ?_ fun a16 => ?_
      · exact h15
      · refine Within.step ?_ (globalEvent_within ..) (by decide +kernel)
        exact Within.refl _ _

/-- What `pfuReset` can change. -/
def fpPfuReset : Nat :=
  0x7800000000000000000000000000000000000000000000000000000000000000000000000000000000000000000000000000000000000000000000000000000000000000000000000000000000000000000130000000000000000000000000000000000000000000000000000000000000000000000000000000000000000000000000

theorem fpPfuReset_eq : fpPfuReset =
    footprint [R.PFU_STATUS_FIRST, R.PFU_ROUND_ROUND, R.PFU_PENDING_COUNT] [.pfuPrev, .pfuRec, .pfuNext, .rounds] := by decide +kernel

theorem pfuReset_within (s : State) : Within fpPfuReset s (pfuReset s) := by
  unfold pfuReset
  refine Within.step ?_ (set_within _ _ _ (by decide +kernel)) (by decide +kernel)
  refine Within.step ?_ (set_within _ _ _ (by decide +kernel)) (by decide +kernel)
  refine Within.step ?_ (set_within _ _ _ (by decide +kernel)) (by decide +kernel)
  refine Within.step ?_ (upd_pfuPrev_pfuRec_pfuNext_rounds_within _ _ _ _ _) (by decide +kernel)
  exact Within.refl _ _

/-- What `pfuShotStart` can change. -/
def fpPfuShotStart : Nat := footprint [R.PFU_STATUS_FIRST, R.PFU_PENDING_COUNT] [.pfuPrev, .pfuRec]

theorem pfuShotStart_within (s : State) : Within fpPfuShotStart s (pfuShotStart s) := by
  unfold pfuShotStart
  refine Within.ite ?_ ?_
  · refine Within.step ?_ (set_within _ _ _ (by decide +kernel)) (by decide +kernel)
    refine Within.step ?_ (set_within _ _ _ (by decide +kernel)) (by decide +kernel)
    refine Within.step ?_ (upd_pfuPrev_pfuRec_within _ _ _) (by decide +kernel)
    exact Within.refl _ _
  · exact Within.refl _ _

/-- What `decMemRead` can change. -/
def fpDecMemRead : Nat := footprint [R.DEC_MEM_CTRL_ADDR] []

theorem decMemRead_within (s : State) : Within fpDecMemRead s (decMemRead s).2 := by
  unfold decMemRead
  extract_lets +onlyGivenNames a1
  clear_value a1
  extract_lets +onlyGivenNames a2
  clear_value a2
  dsimp only
  refine Within.when ?_ fun a3 => ?_
  · exact Within.refl _ _
  · refine Within.step ?_ (set_within _ _ _ (by decide +kernel)) (by decide +kernel)
    exact Within.refl _ _

/-- What `pfuMemRead` can change. -/
def fpPfuMemRead : Nat := footprint [R.PFU_MEM_CTRL_ADDR] []

theorem pfuMemRead_within (s : State) : Within fpPfuMemRead s (pfuMemRead s).2 := by
  unfold pfuMemRead
  extract_lets +onlyGivenNames a1
  clear_value a1
  extract_lets +onlyGivenNames a2
  clear_value a2
  dsimp only
  refine Within.when ?_ fun a3 => ?_
  · exact Within.refl _ _
  · refine Within.step ?_ (set_within _ _ _ (by decide +kernel)) (by decide +kernel)
    exact Within.refl _ _

/-- What `pfuRecRead` can change. -/
def fpPfuRecRead : Nat := footprint [R.PFU_REC_INDEX_INDEX] []

theorem pfuRecRead_within (s : State) : Within fpPfuRecRead s (pfuRecRead s).2 := by
  unfold pfuRecRead
  extract_lets +onlyGivenNames a1
  clear_value a1
  dsimp only
  refine Within.when ?_ fun a2 => ?_
  · exact Within.refl _ _
  · refine Within.step ?_ (set_within _ _ _ (by decide +kernel)) (by decide +kernel)
    exact Within.refl _ _

end Sys2Proof.Machine
end

