-- ==== Sys2Proof/Laws/Inputs.lean ====
section
/-! SUPPORT. What each operation of Sys2Proof/Machine/Inputs.lean can change. -/

set_option Elab.async false

namespace Sys2Proof.Machine

/-- What `setPatina` can change. -/
def fpSetPatina : Nat := footprint [] [.patinas]

theorem setPatina_within (s : State) (n : Nat) (p : Patina) : Within fpSetPatina s (setPatina s n p) := by
  unfold setPatina
  refine Within.step ?_ (patinas_within _ _) (by decide +kernel)
  exact Within.refl _ _

/-- What `zoneSwap` can change. -/
def fpZoneSwap : Nat :=
  0x40000000000000000000000000000000000000000000000000000000000000000000000000000000000000000000000000000000001a800000000000000000000000000000000000000000000000000000000000000000000000000000000000000000000000000000000000000000000000000000000000000000000000000000000000000

theorem fpZoneSwap_eq : fpZoneSwap =
    footprint [R.INP_SLC_OFF_BASE, R.INP_SLC_GAIN_BASE, R.INP_SLC_SKEW_TAPS, R.INP_FIR_H] [.zoneSets] := by decide +kernel

theorem zoneSwap_within (s : State) (n zOld zNew : Nat) : Within fpZoneSwap s (zoneSwap s n zOld zNew) := by
  unfold zoneSwap
  have hm : ∀ p ∈ zoneFields n, Fits p.2.1 ∧ 2 ^ p.2.1.id &&& fpZoneSwap = 2 ^ p.2.1.id := fun p hp => by
    have h4 : ∀ f ∈ [R.INP_SLC_OFF_BASE, R.INP_SLC_GAIN_BASE, R.INP_SLC_SKEW_TAPS, R.INP_FIR_H],
      Fits f ∧ 2 ^ f.id &&& fpZoneSwap = 2 ^ f.id := by decide +kernel
    simp only [zoneFields, List.mem_append, List.mem_map] at hp
    rcases hp with ((⟨_, -, rfl⟩ | ⟨_, -, rfl⟩) | ⟨_, -, rfl⟩) | ⟨_, -, rfl⟩ <;> exact h4 _ (by simp)
  refine Within.forAll_mem _ (Within.step (Within.refl _ _) (zoneSets_within _ _) (by decide +kernel)) fun t p hp => ?_
  split
  · exact Within.step (Within.refl _ _) (clr_within _ _ (hm p hp).1) (hm p hp).2
  · exact Within.step (Within.refl _ _) (set_within _ _ _ (hm p hp).1) (hm p hp).2

/-- What `corrNote` can change. -/
def fpCorrNote : Nat :=
  0x200000000000000000000000000000000000000000000000000000000000000000000000000000000000000000000000000000000000000000000000000000000000000000000000000000000000000000000000000000000000000000000000000000000000000000000000000000000000000000000000000000000000000000000000000

theorem fpCorrNote_eq : fpCorrNote =
    fpSetPatina := by decide +kernel

theorem corrNote_within (before s : State) (n : Nat) : Within fpCorrNote s (corrNote before s n) := by
  unfold corrNote
  extract_lets -lift +onlyGivenNames a1
  clear_value a1
  refine Within.ite ?_ ?_
  · exact Within.refl _ _
  · extract_lets -lift +onlyGivenNames a2
    clear_value a2
    refine Within.ite ?_ ?_
    · exact Within.refl _ _
    · refine Within.step ?_ (setPatina_within ..) (by decide +kernel)
      exact Within.refl _ _

/-- What `setWins` can change. -/
def fpSetWins : Nat := footprint [] [.windows]

theorem setWins_within (s : State) (d : Nat) (l : List Win) : Within fpSetWins s (setWins s d l) := by
  unfold setWins
  refine Within.step ?_ (windows_within _ _) (by decide +kernel)
  exact Within.refl _ _

/-- What `winDisplace` can change. -/
def fpWinDisplace : Nat :=
  0x10010000000000f830020000000000000000000000000000000000000000000000000000000000000000000000000000000800000400000000000000000000000000000000000040000000000000000000000000000000000000000000000000000000000000000000000000000000000018080000000000000000000000000000007f0707f0000

theorem fpWinDisplace_eq : fpWinDisplace =
    fpChiselViolation ||| fpSetWins := by decide +kernel

theorem winDisplace_within (s : State) (n d : Nat) : Within fpWinDisplace s (winDisplace s n d) := by
  unfold winDisplace
  extract_lets -lift +onlyGivenNames a1
  clear_value a1
  refine Within.forAll _ ?_ fun a2 _ => ?_
  · refine Within.step ?_ (setWins_within ..) (by decide +kernel)
    exact Within.refl _ _
  · refine Within.step ?_ (chiselViolation_within ..) (by decide +kernel)
    exact Within.refl _ _

/-- What `orderWindow` can change. -/
def fpOrderWindow : Nat :=
  0x10010000000000f830020000000000000000000000000000000000000000000000000000000000000000000000000000000800000400000000000000000000000000000000000040000000000000000000000000000000000000000000000000000000000000000000000000000000000018080000000000000000000000000000007f0707f0000

theorem fpOrderWindow_eq : fpOrderWindow =
    fpSetWins ||| fpWinDisplace := by decide +kernel

theorem orderWindow_within (s : State) (n d len pc : Nat) : Within fpOrderWindow s (orderWindow s n d len pc) := by
  unfold orderWindow
  extract_lets -lift +onlyGivenNames a1
  have h1 : Within fpOrderWindow s a1 := by
    unfold a1
    refine Within.step ?_ (winDisplace_within ..) (by decide +kernel)
    exact Within.refl _ _
  clear_value a1
  refine Within.step ?_ (setWins_within ..) (by decide +kernel)
  exact h1

/-- What `winTick` can change. -/
def fpWinTick : Nat :=
  0x1000000000000000000000000000000000000000000000000000000000000000000000000000000000000000000000000000000001000000000000000000000000000000000000000000000000000000000000000000000000000000000000000000000000000000000000000000000000000000000000000000000000000000000000000000

theorem fpWinTick_eq : fpWinTick =
    footprint [R.DMD_STATUS_OPEN] [] ||| fpSetWins := by decide +kernel

theorem winTick_within (s : State) (d : Nat) : Within fpWinTick s (winTick s d) := by
  unfold winTick
  extract_lets -lift +onlyGivenNames a1
  clear_value a1
  refine Within.step ?_ (set_within _ _ _ (by decide +kernel)) (by decide +kernel)
  refine Within.step ?_ (setWins_within ..) (by decide +kernel)
  exact Within.refl _ _

/-- What `execWindowOpen` can change. -/
def fpExecWindowOpen : Nat :=
  0x1000000000000000000000000000000000000000000000000000000000000000000000000000000000000000000000000000000001000000000000000000000000000000000000000000000000000000000000000000000000000000000000000000000000000000000000000000000000000000000000000000000000000000000000000000

theorem fpExecWindowOpen_eq : fpExecWindowOpen =
    footprint [R.DMD_STATUS_OPEN] [] ||| fpSetWins := by decide +kernel

theorem execWindowOpen_within (n : Fin 64) (k : Fin 16) (s : State) : Completes fpExecWindowOpen s (execWindowOpen n k s) := by
  unfold execWindowOpen
  extract_lets -lift +onlyGivenNames a1
  clear_value a1
  refine Completes.next ?_
  refine Within.ite ?_ ?_
  · refine Within.step ?_ (set_within _ _ _ (by decide +kernel)) (by decide +kernel)
    refine Within.step ?_ (setWins_within ..) (by decide +kernel)
    exact Within.refl _ _
  · exact Within.refl _ _

/-- What `winHold` can change. -/
def fpWinHold : Nat :=
  0x1000000000000000000000000000000000000000000000000000000000000000000000000000000000000000000000000000000001000000000000000000000000000000000000000000000000000000000000000000000000000000000000000000000000000000000000000000000000000000000000000000000000000000000000000000

theorem fpWinHold_eq : fpWinHold =
    footprint [R.DMD_STATUS_OPEN] [] ||| fpSetWins := by decide +kernel

theorem winHold_within (s : State) : Within fpWinHold s (winHold s) := by
  unfold winHold
  refine Within.forAll _ ?_ fun a1 _ => ?_
  · exact Within.refl _ _
  · refine Within.step ?_ (set_within _ _ _ (by decide +kernel)) (by decide +kernel)
    refine Within.step ?_ (setWins_within ..) (by decide +kernel)
    exact Within.refl _ _

/-- What `dmdSat` can change. -/
def fpDmdSat : Nat :=
  0x10000000000000f800020000000000000000000000000000000000000000000000000000000000000000000000000000000800000000e000000000000000000000000000000000000000000000000000000000000000000000000000000000000000000000000000000000000000000000180800000000000000000000000000000000000000000

theorem fpDmdSat_eq : fpDmdSat =
    footprint [R.DMD_STATUS_SAT_PROJ, R.DMD_STATUS_SAT_INT, R.DMD_STATUS_SAT_DEC] [] ||| fpFire := by decide +kernel

theorem dmdSat_within (s : State) (d : Nat) (dec int proj : Bool) : Within fpDmdSat s (dmdSat s d dec int proj) := by
  unfold dmdSat
  extract_lets -lift +onlyGivenNames a1
  extract_lets -lift +onlyGivenNames a2
  clear_value a2
  extract_lets -lift +onlyGivenNames a3
  have h3 : Within fpDmdSat s a3 := by
    unfold a3
    unfold a1
    beta_reduce
    refine Within.ite ?_ ?_
    · refine Within.step ?_ (set_within _ _ _ (by decide +kernel)) (by decide +kernel)
      refine Within.ite ?_ ?_
      · refine Within.step ?_ (set_within _ _ _ (by decide +kernel)) (by decide +kernel)
        refine Within.ite ?_ ?_
        · refine Within.step ?_ (set_within _ _ _ (by decide +kernel)) (by decide +kernel)
          exact Within.refl _ _
        · exact Within.refl _ _
      · refine Within.ite ?_ ?_
        · refine Within.step ?_ (set_within _ _ _ (by decide +kernel)) (by decide +kernel)
          exact Within.refl _ _
        · exact Within.refl _ _
    · refine Within.ite ?_ ?_
      · refine Within.step ?_ (set_within _ _ _ (by decide +kernel)) (by decide +kernel)
        refine Within.ite ?_ ?_
        · refine Within.step ?_ (set_within _ _ _ (by decide +kernel)) (by decide +kernel)
          exact Within.refl _ _
        · exact Within.refl _ _
      · refine Within.ite ?_ ?_
        · refine Within.step ?_ (set_within _ _ _ (by decide +kernel)) (by decide +kernel)
          exact Within.refl _ _
        · exact Within.refl _ _
  clear_value a3
  refine Within.when ?_ fun a4 => ?_
  · exact h3
  · refine Within.step ?_ (fire_within ..) (by decide +kernel)
    exact Within.refl _ _

/-- What `satCor` can change. -/
def fpSatCor : Nat := footprint [R.INP_STATUS_SAT_COR] []

theorem satCor_within (s : State) (n : Nat) (b : Bool) : Within fpSatCor s (satCor s n b) := by
  unfold satCor
  refine Within.when ?_ fun a1 => ?_
  · exact Within.refl _ _
  · refine Within.step ?_ (set_within _ _ _ (by decide +kernel)) (by decide +kernel)
    exact Within.refl _ _

/-- What `execWindowResult` can change. -/
def fpExecWindowResult : Nat :=
  0x10010000000001f810020000000000000000000000000000000000000000000000000000000000000000000000000000000800000003e0000000400000000000000000000000000000000000000000000000000000000000000000000000000000000000000000004000000000000000001808000000000000000000000000000000000047f0000

theorem fpExecWindowResult_eq : fpExecWindowResult =
    footprint [R.DMD_WIN_CNT_COUNT, R.DMD_LAST_VALUE] [] ||| fpPushRec ||| fpNoteTaint ||| fpSetWins ||| fpDmdSat |||
  fpSatCor := by decide +kernel

theorem execWindowResult_within (n : Fin 64) (k : Fin 16) (codes : List (BitVec 12)) (s : State) : Completes fpExecWindowResult s
    (execWindowResult n k codes s) := by
  unfold execWindowResult
  extract_lets -lift +onlyGivenNames a1
  clear_value a1
  split
  · refine Completes.next ?_
    exact Within.refl _ _
  · extract_lets -lift +onlyGivenNames a2
    clear_value a2
    extract_lets -lift +onlyGivenNames a3
    clear_value a3
    extract_lets -lift +onlyGivenNames a4
    clear_value a4
    extract_lets -lift +onlyGivenNames a5
    clear_value a5
    extract_lets -lift +onlyGivenNames a6
    clear_value a6
    extract_lets -lift +onlyGivenNames a7
    clear_value a7
    extract_lets -lift +onlyGivenNames a8
    clear_value a8
    extract_lets -lift +onlyGivenNames a9
    clear_value a9
    extract_lets -lift +onlyGivenNames a10
    clear_value a10
    extract_lets -lift +onlyGivenNames a11
    clear_value a11
    extract_lets -lift +onlyGivenNames a12
    have h12 : Within fpExecWindowResult s a12 := by
      unfold a12
      refine Within.step ?_ (satCor_within ..) (by decide +kernel)
      exact Within.refl _ _
    clear_value a12
    extract_lets -lift +onlyGivenNames a13
    have h13 : Within fpExecWindowResult s a13 := by
      unfold a13
      refine Within.step ?_ (dmdSat_within ..) (by decide +kernel)
      exact h12
    clear_value a13
    extract_lets -lift +onlyGivenNames a14
    have h14 : Within fpExecWindowResult s a14 := by
      unfold a14
      refine Within.step ?_ (set_within _ _ _ (by decide +kernel)) (by decide +kernel)
      refine Within.step ?_ (inc_within _ _ _ (by decide +kernel)) (by decide +kernel)
      exact h13
    clear_value a14
    extract_lets -lift +onlyGivenNames a15
    have h15 : Within fpExecWindowResult s a15 := by
      unfold a15
      refine Within.step ?_ (set_within _ _ _ (by decide +kernel)) (by decide +kernel)
      exact h14
    clear_value a15
    extract_lets -lift +onlyGivenNames a16
    have h16 : Within fpExecWindowResult s a16 := by
      unfold a16
      refine Within.step ?_ (setWins_within ..) (by decide +kernel)
      exact h15
    clear_value a16
    extract_lets -lift +onlyGivenNames a17
    have h17 : Within fpExecWindowResult s a17 := by
      unfold a17
      refine Within.step ?_ (noteTaint_within ..) (by decide +kernel)
      exact h16
    clear_value a17
    extract_lets -lift +onlyGivenNames a18
    clear_value a18
    refine Completes.next ?_
    refine Within.step ?_ (pushRec_within ..) (by decide +kernel)
    exact h17

/-- What `execDemodPublish` can change. -/
def fpExecDemodPublish : Nat :=
  0x30000000001c00f81002000000000000000000000000000000000000000000000000000000000000000000000000000000080000000000000000000000000000000000000000000000000000000000000000000000000000000000000000000000000000000000000000000000000000001808000000000000000000000000000000000007f0000

theorem fpExecDemodPublish_eq : fpExecDemodPublish =
    fpDecPublish := by decide +kernel

theorem execDemodPublish_within (n : Fin 64) (k : Fin 16) (s : State) : Completes fpExecDemodPublish s (execDemodPublish n k s) := by
  unfold execDemodPublish
  extract_lets -lift +onlyGivenNames a1
  clear_value a1
  split
  · refine Completes.next ?_
    exact Within.refl _ _
  · split
    · refine Completes.next ?_
      exact Within.refl _ _
    · refine Completes.next ?_
      split
      · refine Within.step ?_ (decPublish_within ..) (by decide +kernel)
        exact Within.refl _ _
      · refine Within.step ?_ (decPublish_within ..) (by decide +kernel)
        refine Within.step ?_ (decPublish_within ..) (by decide +kernel)
        exact Within.refl _ _
      · exact Within.refl _ _

/-- What `tagRecord` can change. -/
def fpTagRecord : Nat :=
  0x10000000000001f81002000000000000000000000000000000000000000000000000000000000000000000000000000000080000000000000000000000000000000000000000000000000000000000000000000000000000000000000000000000000000000000004000000000000000001808000000000000000000000000000000000047f0000

theorem fpTagRecord_eq : fpTagRecord =
    fpPushRec ||| fpNoteTaint := by decide +kernel

theorem tagRecord_within (s : State) (n pc g tag : Nat) : Within fpTagRecord s (tagRecord s n pc g tag) := by
  unfold tagRecord
  extract_lets -lift +onlyGivenNames a1
  clear_value a1
  refine Within.step ?_ (pushRec_within ..) (by decide +kernel)
  refine Within.step ?_ (noteTaint_within ..) (by decide +kernel)
  exact Within.refl _ _

/-- What `ovrFirst` can change. -/
def fpOvrFirst : Nat :=
  0x10000000000000f8000200000000000000000000000000000000000000000000000000000000000000000000000000000008000000000000018800000000000000000000000000000000000000000000000000000000000000000000000000000000000000000000000000000000000000180800000000000000000000000000000000000000000

theorem fpOvrFirst_eq : fpOvrFirst =
    footprint [R.INP_STATUS_OVR, R.INP_OVR_FIRST_LO_TICK_LO, R.INP_OVR_FIRST_HI_TICK_HI] [] ||| fpFire := by decide +kernel

theorem ovrFirst_within (s : State) (n c : Nat) : Within fpOvrFirst s (ovrFirst s n c) := by
  unfold ovrFirst
  refine Within.ite ?_ ?_
  · exact Within.refl _ _
  · extract_lets -lift +onlyGivenNames a1
    clear_value a1
    extract_lets -lift +onlyGivenNames a2
    have h2 : Within fpOvrFirst s a2 := by
      unfold a2
      refine Within.step ?_ (set_within _ _ _ (by decide +kernel)) (by decide +kernel)
      refine Within.step ?_ (set_within _ _ _ (by decide +kernel)) (by decide +kernel)
      exact Within.refl _ _
    clear_value a2
    refine Within.step ?_ (fire_within ..) (by decide +kernel)
    refine Within.step ?_ (set_within _ _ _ (by decide +kernel)) (by decide +kernel)
    exact h2

/-- What `inpStatusWritten` can change. -/
def fpInpStatusWritten : Nat :=
  0x10000000000000f8000200000000000000000000000000000000000000000000000000000000000000000000000000000008000000000000018800000000000000000000000000000000000000000000000000000000000000000000000000000000000000000000000000000000000000180800000000000000000000000000000000000000000

theorem fpInpStatusWritten_eq : fpInpStatusWritten =
    fpOvrFirst := by decide +kernel

theorem inpStatusWritten_within (s : State) (n : Nat) : Within fpInpStatusWritten s (inpStatusWritten s n) := by
  unfold inpStatusWritten
  refine Within.ite ?_ ?_
  · refine Within.step ?_ (ovrFirst_within ..) (by decide +kernel)
    exact Within.refl _ _
  · exact Within.refl _ _

/-- What `execOverrange` can change. -/
def fpExecOverrange : Nat :=
  0x10008000000000f800020000000000000000000000000000000000000000000000000000000000000000000000000000000800000000000001cc00000000000000000000000000000000000000000000000000000000000000000000000000000000000000000000000000000000000000180800000000000000000000000000000000000000000

theorem fpExecOverrange_eq : fpExecOverrange =
    footprint [R.INP_STATUS_OVR_NEIGH, R.INP_OVR_CNT_COUNT] [.ovrs] ||| fpOvrFirst := by decide +kernel

theorem execOverrange_within (n : Fin 64) (mask : BitVec 16) (s : State) : Completes fpExecOverrange s (execOverrange n mask s) := by
  unfold execOverrange
  refine Completes.ite ?_ ?_
  · refine Completes.next ?_
    exact Within.refl _ _
  · extract_lets -lift +onlyGivenNames a1
    clear_value a1
    extract_lets -lift +onlyGivenNames a2
    clear_value a2
    extract_lets -lift +onlyGivenNames a3
    have h3 : Within fpExecOverrange s a3 := by
      unfold a3
      refine Within.step ?_ (ovrs_within _ _) (by decide +kernel)
      exact Within.refl _ _
    clear_value a3
    extract_lets -lift +onlyGivenNames a4
    have h4 : Within fpExecOverrange s a4 := by
      unfold a4
      refine Within.step ?_ (inc_within _ _ _ (by decide +kernel)) (by decide +kernel)
      exact h3
    clear_value a4
    extract_lets -lift +onlyGivenNames a5
    have h5 : Within fpExecOverrange s a5 := by
      unfold a5
      refine Within.forAll _ ?_ fun a6 _ => ?_
      · exact h4
      · refine Within.step ?_ (set_within _ _ _ (by decide +kernel)) (by decide +kernel)
        exact Within.refl _ _
    clear_value a5
    refine Completes.next ?_
    refine Within.step ?_ (ovrFirst_within ..) (by decide +kernel)
    exact h5

/-- What `patinaBit` can change beside its field. -/
def fpPatinaBit : Nat :=
  0x10000000000000f8000200000000000000000000000000000000000000000000000000000000000000000000000000000008000000000000000000000000000000000000000000000000000000000000000000000000000000000000000000000000000000000000000000000000000000180800000000000000000000000000000000000000000

theorem fpPatinaBit_eq : fpPatinaBit =
    fpFire := by decide +kernel

theorem patinaBit_within {K : Nat} {s : State} {n : Nat} {f : Fld} (hf : Fits f) (hb : 2 ^ f.id &&& K = 2 ^ f.id)
    (hk : fpPatinaBit &&& K = fpPatinaBit) : Within K s (patinaBit s n f) := by
  unfold patinaBit
  refine Within.ite (Within.refl _ _) ?_
  exact Within.step (Within.step (Within.refl _ _) (set_within _ _ _ hf) hb) (fire_within ..) hk

/-- What `showDeltas` can change. -/
def fpShowDeltas : Nat := footprint [R.INP_SLC_OFF_DELTA, R.INP_SLC_GAIN_DELTA] []

theorem showDeltas_within (s : State) (n : Nat) (off gain : List Int) : Within fpShowDeltas s (showDeltas s n off gain) := by
  unfold showDeltas
  refine Within.forAll _ ?_ fun a1 _ => ?_
  · exact Within.refl _ _
  · refine Within.step ?_ (set_within _ _ _ (by decide +kernel)) (by decide +kernel)
    refine Within.step ?_ (set_within _ _ _ (by decide +kernel)) (by decide +kernel)
    exact Within.refl _ _

/-- What `patinaRestart` can change. -/
def fpPatinaRestart : Nat :=
  0x200000000000000000000000000000000000000000000000000000000000000000000000000000000000000000000000000000000001400010000000000000000000000000000000000000000000000000000000000000000000000000000000000000000000000000000000000000000000000000000000000000000000000000000000000

theorem fpPatinaRestart_eq : fpPatinaRestart =
    footprint [R.INP_STATUS_CONV] [] ||| fpSetPatina ||| fpShowDeltas := by decide +kernel

theorem patinaRestart_within (s : State) (n : Nat) : Within fpPatinaRestart s (patinaRestart s n) := by
  unfold patinaRestart
  extract_lets -lift +onlyGivenNames a1
  clear_value a1
  refine Within.step ?_ (showDeltas_within ..) (by decide +kernel)
  refine Within.step ?_ (setPatina_within ..) (by decide +kernel)
  refine Within.step ?_ (set_within _ _ _ (by decide +kernel)) (by decide +kernel)
  exact Within.refl _ _

/-- What `patinaRecords` can change. -/
def fpPatinaRecords : Nat :=
  0x10000000000001f8000200000000000000000000000000000000000000000000000000000000000000000000000000000008000000000000000000000000000000000000000000000000000000000000000000000000000000000000000000000000000000000000400000000000000000180800000000000000000000000000000000004000000

theorem fpPatinaRecords_eq : fpPatinaRecords =
    fpPushRec := by decide +kernel

theorem patinaRecords_within (s : State) (n : Nat) (off gain : List Int) : Within fpPatinaRecords s (patinaRecords s n off gain) := by
  unfold patinaRecords
  extract_lets -lift +onlyGivenNames a1
  clear_value a1
  refine Within.step ?_ (pushRec_within ..) (by decide +kernel)
  refine Within.step ?_ (pushRec_within ..) (by decide +kernel)
  exact Within.refl _ _

/-- What `patinaFree` can change. -/
def fpPatinaFree : Nat := footprint [] [.fresh]

theorem patinaFree_within (s : State) (n : Nat) (hs : List (List (BitVec 12 × Nat))) (gain : List Int) : Within fpPatinaFree s (patinaFree s n hs
    gain).2 := by
  unfold patinaFree
  refine Within.foldlSnd _ (Within.refl _ _) fun p q => ?_
  dsimp only
  split
  · exact Within.step (Within.refl _ _) (free_within _) (by decide +kernel)
  · exact Within.refl _ _

/-- What `patinaSkew` can change. -/
def fpPatinaSkew : Nat :=
  0x10000000000000f8000200000000000000000000000000000000000000000000000000000000000000000000000000000008000000000004000080000000000000000000000000000000000000000000000000000000000000000000000000000000000000000000000000000000000000180800000000000000000000000000000000000000000

theorem fpPatinaSkew_eq : fpPatinaSkew =
    footprint [R.INP_STATUS_SKEW_DRIFT, R.INP_SLC_SKEW_ESTIMATE] [.fresh] ||| fpPatinaBit := by decide +kernel

theorem patinaSkew_within (s : State) (n : Nat) : Within fpPatinaSkew s (patinaSkew s n) := by
  unfold patinaSkew
  extract_lets -lift +onlyGivenNames a1
  have h1 : Within fpPatinaSkew s a1 := by
    unfold a1
    refine Within.forAll _ ?_ fun a2 _ => ?_
    · exact Within.refl _ _
    · split
      refine Within.step ?_ (set_within _ _ _ (by decide +kernel)) (by decide +kernel)
      refine Within.ofSnd ?_ (by assumption)
      refine Within.step ?_ (free_within ..) (by decide +kernel)
      exact Within.refl _ _
  clear_value a1
  extract_lets -lift +onlyGivenNames a2
  clear_value a2
  refine Within.when ?_ fun a3 => ?_
  · exact h1
  · refine Within.trans ?_ (patinaBit_within (by decide +kernel) (by decide +kernel) (by decide +kernel) ..)
    exact Within.refl _ _

/-- What `execPatinaUpdate` can change. -/
def fpExecPatinaUpdate : Nat :=
  0x10002000000001f8000200000000000000000000000000000000000000000000000000000000000000000000000000000008000000000005403390000000000000000000000000000000000000000000000000000000000000000000000000000000000000000000400000000000000000180800000000000000000000000000000000004000000

theorem fpExecPatinaUpdate_eq : fpExecPatinaUpdate =
    footprint [R.INP_STATUS_CONV, R.INP_STATUS_PATINA_SKIP, R.INP_STATUS_PATINA_LIMIT, R.INP_CONV_LO_TICK_LO,
  R.INP_CONV_HI_TICK_HI] [] ||| fpFire ||| fpSetPatina ||| fpPatinaBit ||| fpShowDeltas ||| fpPatinaRecords ||| fpPatinaFree ||| fpPatinaSkew := by decide +kernel

theorem execPatinaUpdate_within (n : Fin 64) (hs : List (List (BitVec 12 × Nat))) (ovr : Bool) (s : State) : Completes fpExecPatinaUpdate s
    (execPatinaUpdate n hs ovr s) := by
  unfold execPatinaUpdate
  refine Completes.ite ?_ ?_
  · refine Completes.next ?_
    exact Within.refl _ _
  · extract_lets -lift +onlyGivenNames a1
    clear_value a1
    extract_lets -lift +onlyGivenNames a2
    clear_value a2
    extract_lets -lift +onlyGivenNames a3
    clear_value a3
    extract_lets -lift +onlyGivenNames a4
    clear_value a4
    extract_lets -lift +onlyGivenNames a5
    clear_value a5
    split
    extract_lets -lift +onlyGivenNames a6
    clear_value a6
    extract_lets -lift +onlyGivenNames a7
    have h7 : Within fpExecPatinaUpdate s a7 := by
      unfold a7
      refine Within.when ?_ fun a8 => ?_
      · refine Within.ofSnd ?_ (by assumption)
        split
        · dsimp only
          exact Within.refl _ _
        · refine Within.step ?_ (patinaFree_within ..) (by decide +kernel)
          exact Within.refl _ _
      · refine Within.trans ?_ (patinaBit_within (by decide +kernel) (by decide +kernel) (by decide +kernel) ..)
        exact Within.refl _ _
    clear_value a7
    extract_lets -lift +onlyGivenNames a8
    have h8 : Within fpExecPatinaUpdate s a8 := by
      unfold a8
      refine Within.when ?_ fun a9 => ?_
      · exact h7
      · refine Within.trans ?_ (patinaBit_within (by decide +kernel) (by decide +kernel) (by decide +kernel) ..)
        exact Within.refl _ _
    clear_value a8
    extract_lets -lift +onlyGivenNames a9
    clear_value a9
    extract_lets -lift +onlyGivenNames a10
    clear_value a10
    extract_lets -lift +onlyGivenNames a11
    have h11 : Within fpExecPatinaUpdate s a11 := by
      unfold a11
      refine Within.step ?_ (setPatina_within ..) (by decide +kernel)
      exact h8
    clear_value a11
    extract_lets -lift +onlyGivenNames a12
    have h12 : Within fpExecPatinaUpdate s a12 := by
      unfold a12
      refine Within.when ?_ fun a13 => ?_
      · exact h11
      · extract_lets -lift +onlyGivenNames a14
        have h14 : Within fpExecPatinaUpdate a13 a14 := by
          unfold a14
          refine Within.step ?_ (set_within _ _ _ (by decide +kernel)) (by decide +kernel)
          refine Within.step ?_ (set_within _ _ _ (by decide +kernel)) (by decide +kernel)
          exact Within.refl _ _
        clear_value a14
        refine Within.step ?_ (fire_within ..) (by decide +kernel)
        refine Within.step ?_ (set_within _ _ _ (by decide +kernel)) (by decide +kernel)
        exact h14
    clear_value a12
    extract_lets -lift +onlyGivenNames a13
    have h13 : Within fpExecPatinaUpdate s a13 := by
      unfold a13
      refine Within.when ?_ fun a14 => ?_
      · exact h12
      · refine Within.step ?_ (showDeltas_within ..) (by decide +kernel)
        exact Within.refl _ _
    clear_value a13
    extract_lets -lift +onlyGivenNames a14
    have h14 : Within fpExecPatinaUpdate s a14 := by
      unfold a14
      refine Within.step ?_ (patinaSkew_within ..) (by decide +kernel)
      exact h13
    clear_value a14
    extract_lets -lift +onlyGivenNames a15
    clear_value a15
    extract_lets -lift +onlyGivenNames a16
    clear_value a16
    refine Completes.next ?_
    refine Within.when ?_ fun a17 => ?_
    · exact h14
    · refine Within.step ?_ (patinaRecords_within ..) (by decide +kernel)
      exact Within.refl _ _

/-- What `inpCfgWritten` can change. -/
def fpInpCfgWritten : Nat :=
  0x60000000000000000000000000000000000000000000000000000000000000000000000000000000000000000000000000000000001bc00030000000000000000000000000000000000000000000000000000000000000000000000000000000000000000000000000000000000000000000000000000000000000000000000000000000000

theorem fpInpCfgWritten_eq : fpInpCfgWritten =
    footprint [R.INP_STATUS_SETTLE] [] ||| fpSetPatina ||| fpZoneSwap ||| fpCorrNote ||| fpPatinaRestart := by decide +kernel

theorem inpCfgWritten_within (before s : State) (n : Nat) : Within fpInpCfgWritten s (inpCfgWritten before s n) := by
  unfold inpCfgWritten
  extract_lets -lift +onlyGivenNames a1
  clear_value a1
  extract_lets -lift +onlyGivenNames a2
  clear_value a2
  extract_lets -lift +onlyGivenNames a3
  clear_value a3
  extract_lets -lift +onlyGivenNames a4
  clear_value a4
  extract_lets -lift +onlyGivenNames a5
  have h5 : Within fpInpCfgWritten s a5 := by
    unfold a5
    refine Within.when ?_ fun a6 => ?_
    · exact Within.refl _ _
    · refine Within.step ?_ (zoneSwap_within ..) (by decide +kernel)
      exact Within.refl _ _
  clear_value a5
  extract_lets -lift +onlyGivenNames a6
  have h6 : Within fpInpCfgWritten s a6 := by
    unfold a6
    refine Within.when ?_ fun a7 => ?_
    · exact h5
    · refine Within.step ?_ (setPatina_within ..) (by decide +kernel)
      refine Within.step ?_ (set_within _ _ _ (by decide +kernel)) (by decide +kernel)
      exact Within.refl _ _
  clear_value a6
  extract_lets -lift +onlyGivenNames a7
  have h7 : Within fpInpCfgWritten s a7 := by
    unfold a7
    refine Within.step ?_ (corrNote_within ..) (by decide +kernel)
    exact h6
  clear_value a7
  refine Within.when ?_ fun a8 => ?_
  · exact h7
  · refine Within.step ?_ (patinaRestart_within ..) (by decide +kernel)
    exact Within.refl _ _

/-- What `execInputSettleEnd` can change. -/
def fpExecInputSettleEnd : Nat := footprint [R.INP_STATUS_SETTLE] []

theorem execInputSettleEnd_within (n : Fin 64) (s : State) : Completes fpExecInputSettleEnd s (execInputSettleEnd n s) := by
  unfold execInputSettleEnd
  refine Completes.next ?_
  refine Within.ite ?_ ?_
  · refine Within.step ?_ (set_within _ _ _ (by decide +kernel)) (by decide +kernel)
    exact Within.refl _ _
  · exact Within.refl _ _

/-- What `kmemNext` can change. -/
def fpKmemNext : Nat := footprint [R.INP_KMEM_CTRL_ADDR] []

theorem kmemNext_within (s : State) (n : Nat) : Within fpKmemNext s (kmemNext s n) := by
  unfold kmemNext
  refine Within.when ?_ fun a1 => ?_
  · exact Within.refl _ _
  · refine Within.step ?_ (set_within _ _ _ (by decide +kernel)) (by decide +kernel)
    exact Within.refl _ _

/-- What `kmemRead` can change. -/
def fpKmemRead : Nat :=
  0x100000000000000000000000000000000000000000000000000000000000000000000000000000000000000000000000000000000000000000000000000000000000000000000000000000000000000

theorem fpKmemRead_eq : fpKmemRead =
    fpKmemNext := by decide +kernel

theorem kmemRead_within (s : State) (n : Nat) : Within fpKmemRead s (kmemRead s n).2 := by
  unfold kmemRead
  dsimp only
  refine Within.step ?_ (kmemNext_within ..) (by decide +kernel)
  exact Within.refl _ _

/-- What `kmemWrite` can change. -/
def fpKmemWrite : Nat :=
  0x2000000000000000000000000000000000000000000000000000000000000000000000000000000000000000000000000000000000000100000000000000000000000000000000000000000000000000000000000000000000000000000000000000000000000000000000000000000000000000000000000000000000000000000000000000

theorem fpKmemWrite_eq : fpKmemWrite =
    footprint [] [.kmem] ||| fpKmemNext := by decide +kernel

theorem kmemWrite_within (s : State) (n v : Nat) : Within fpKmemWrite s (kmemWrite s n v) := by
  unfold kmemWrite
  refine Within.step ?_ (kmemNext_within ..) (by decide +kernel)
  refine Within.step ?_ (kmem_within _ _) (by decide +kernel)
  exact Within.refl _ _

end Sys2Proof.Machine
end

