-- ==== Sys2Proof/Laws/Clock.lean ====
section
/-! SUPPORT. What each operation of Sys2Proof/Machine/Clock.lean can change. -/

set_option Elab.async false

namespace Sys2Proof.Machine

/-- What `stickyAlarm` can change. -/
def fpStickyAlarm : Nat :=
  0x10000000000000f8000200000000000000000000000000000000000000000000000000000000000000000000000000000008000000000000000000000000000000000000000000000000000000000000000000000000000000000000000000000000000000000000000000000000000000180800000010000000000000000000000000000000000

theorem fpStickyAlarm_eq : fpStickyAlarm =
    footprint [R.CLK_ALARM_ALARMS] [] ||| fpGlobalEvent := by decide +kernel

theorem stickyAlarm_within (s : State) (k : Nat) : Within fpStickyAlarm s (stickyAlarm s k) := by
  unfold stickyAlarm
  refine Within.ite ?_ ?_
  · exact Within.refl _ _
  · refine Within.step ?_ (globalEvent_within ..) (by decide +kernel)
    refine Within.step ?_ (orf_within _ _ _ (by decide +kernel)) (by decide +kernel)
    exact Within.refl _ _

/-- What `raiseAlarm` can change. -/
def fpRaiseAlarm : Nat :=
  0x10000000000000f80002000000000000000000000000000000000000000000000000000000000000000000000000000000080000000000000000000000000000000000000000000000000000000000000000000000000000000000000000000000000000000000000000000000000000001808000000103e0000000000000000000000000000000

theorem fpRaiseAlarm_eq : fpRaiseAlarm =
    footprint [R.CLK_STATUS_REF_LOSS, R.CLK_STATUS_REF_RANGE, R.CLK_STATUS_PLL_UNLOCK, R.CLK_STATUS_SYNC_MISSING,
  R.CLK_STATUS_SYNC_SLIP] [] ||| fpStickyAlarm := by decide +kernel

theorem alarmFld_mem (k : Nat) : alarmFld k ∈ [R.CLK_STATUS_REF_LOSS, R.CLK_STATUS_REF_RANGE, R.CLK_STATUS_PLL_UNLOCK,
    R.CLK_STATUS_SYNC_MISSING, R.CLK_STATUS_SYNC_SLIP] := by
  unfold alarmFld; split <;> simp

theorem raiseAlarm_within (s : State) (k : Nat) : Within fpRaiseAlarm s (raiseAlarm s k) := by
  unfold raiseAlarm
  have h : ∀ f ∈ [R.CLK_STATUS_REF_LOSS, R.CLK_STATUS_REF_RANGE, R.CLK_STATUS_PLL_UNLOCK, R.CLK_STATUS_SYNC_MISSING, R.CLK_STATUS_SYNC_SLIP],
    Fits f ∧ 2 ^ f.id &&& fpRaiseAlarm = 2 ^ f.id := by decide +kernel
  have hf := h _ (alarmFld_mem k)
  refine Within.ite (Within.refl _ _) ?_
  refine Within.step ?_ (stickyAlarm_within ..) (by decide +kernel)
  exact Within.step (Within.refl _ _) (set_within _ _ _ hf.1) hf.2

/-- What `clockNotice` can change beside its field. -/
def fpClockNotice : Nat :=
  0x10000000000000f8000200000000000000000000000000000000000000000000000000000000000000000000000000000008000000000000000000000000000000000000000000000000000000000000000000000000000000000000000000000000000000000000000000000000000000180800000000000000000000000000000000000000000

theorem fpClockNotice_eq : fpClockNotice =
    fpGlobalEvent := by decide +kernel

theorem clockNotice_within {K : Nat} {s : State} {f : Fld} (hf : Fits f) (hb : 2 ^ f.id &&& K = 2 ^ f.id)
    (hk : fpClockNotice &&& K = fpClockNotice) : Within K s (clockNotice s f) := by
  unfold clockNotice
  refine Within.ite (Within.refl _ _) ?_
  exact Within.step (Within.step (Within.refl _ _) (set_within _ _ _ hf) hb) (globalEvent_within ..) hk

/-- What `loseTime` can change. -/
def fpLoseTime : Nat :=
  0x10000000000000f8000200000000000000000000000000000000000000000000000000000000000000000000000000000008000000000000000000000000000000000000000000000000000000000000000000000000000000000000000000000000000000000000000000000000000000180800000002010000000000000000000000000000000

theorem fpLoseTime_eq : fpLoseTime =
    footprint [R.CLK_STATUS_TIME_VALID, R.CLK_ALARM_TIME_LOST] [] ||| fpClockNotice := by decide +kernel

theorem loseTime_within (s : State) : Within fpLoseTime s (loseTime s) := by
  unfold loseTime
  refine Within.step ?_ (set_within _ _ _ (by decide +kernel)) (by decide +kernel)
  refine Within.trans ?_ (clockNotice_within (by decide +kernel) (by decide +kernel) (by decide +kernel) ..)
  exact Within.refl _ _

/-- What `clockReset` can change: the CLK registers and what stands behind them. -/
def fpClockReset : Nat :=
  0x4000000000000000000000003f8800000000000000000000000000000000000000000000000000000000000000000000000000000000000000000000000000000000000000000000000000000000000000000000000000000000000000000000000000000000000000000000000000000000000000001fffffffffffe00000000000000000000000000000

theorem fpClockReset_eq : fpClockReset =
    fpLost (fun n => decide (n < R.CLK_STATUS_RELOCK_BUSY.id ∨ R.CLK_REF_COUNT_COUNT.id < n)) |||
  footprint [] [.now, .epochDue, .armVis, .phaseNow, .syncErrs, .slipRun, .lastGoodL, .skew, .clk] := by decide +kernel

theorem clockReset_within (s : State) : Within fpClockReset s (clockReset s) := by
  have h := regsFilter_within s fun n => decide (n < R.CLK_STATUS_RELOCK_BUSY.id ∨ R.CLK_REF_COUNT_COUNT.id < n)
  have h' := upd_now_epochDue_armVis_phaseNow_syncErrs_slipRun_lastGoodL_skew_clk_within
    { s with regs := s.regs.filter fun p => decide (p.1 / 0x400000 < R.CLK_STATUS_RELOCK_BUSY.id ∨ R.CLK_REF_COUNT_COUNT.id < p.1 / 0x400000) }
    0 false 0 0 [] 0 0 {} {}
  exact (h.mono (by decide +kernel)).step h' (by decide +kernel)

/-- What `execPllLock` can change. -/
def fpExecPllLock : Nat := footprint [R.CLK_STATUS_PLL_LOCK] [.now, .syncErrs]

theorem execPllLock_within (s : State) : Completes fpExecPllLock s (execPllLock s) := by
  unfold execPllLock
  refine Completes.next ?_
  refine Within.ite ?_ ?_
  · exact Within.refl _ _
  · extract_lets -lift +onlyGivenNames a1
    have h1 : Within fpExecPllLock s a1 := by
      unfold a1
      refine Within.step ?_ (set_within _ _ _ (by decide +kernel)) (by decide +kernel)
      exact Within.refl _ _
    clear_value a1
    refine Within.step ?_ (upd_now_syncErrs_within _ _ _) (by decide +kernel)
    exact h1

/-- What `execXtalFail` can change. -/
def fpExecXtalFail : Nat := footprint [] [.xtalFail]

theorem execXtalFail_within (s : State) : Completes fpExecXtalFail s (execXtalFail s) := by
  unfold execXtalFail
  refine Completes.next ?_
  refine Within.step ?_ (xtalFail_within _ _) (by decide +kernel)
  exact Within.refl _ _

/-- What `enterHoldover` can change. -/
def fpEnterHoldover : Nat := footprint [R.CLK_STATUS_HOLDOVER] []

theorem enterHoldover_within (s : State) : Within fpEnterHoldover s (enterHoldover s) := by
  unfold enterHoldover
  refine Within.when ?_ fun a1 => ?_
  · exact Within.refl _ _
  · refine Within.step ?_ (set_within _ _ _ (by decide +kernel)) (by decide +kernel)
    exact Within.refl _ _

/-- What `execRefLoss` can change. -/
def fpExecRefLoss : Nat :=
  0x10000000000000f80002000000000000000000000000000000000000000000000000000000000000000000000000000000080000000000000000000000000000000000000000000000000000000000000000000000000000000000000000000000000000000000000000000000000000001808000000103e0800000000000000000000000000000

theorem fpExecRefLoss_eq : fpExecRefLoss =
    fpRaiseAlarm ||| fpEnterHoldover := by decide +kernel

theorem execRefLoss_within (s : State) : Completes fpExecRefLoss s (execRefLoss s) := by
  unfold execRefLoss
  refine Completes.next ?_
  refine Within.step ?_ (enterHoldover_within ..) (by decide +kernel)
  refine Within.step ?_ (raiseAlarm_within ..) (by decide +kernel)
  exact Within.refl _ _

/-- What `execRefGate` can change. -/
def fpExecRefGate : Nat :=
  0x10000000000000f80002000000000000000000000000000000000000000000000000000000000000000000000000000000080000000000000000000000000000000000000000000000000000000000000000000000000000000000000000000000000000000000000000000000000000001809000000103e0800000000000000000000000000000

theorem fpExecRefGate_eq : fpExecRefGate =
    footprint [R.CLK_REF_COUNT_COUNT] [] ||| fpRaiseAlarm ||| fpEnterHoldover := by decide +kernel

theorem execRefGate_within (count : BitVec 17) (s : State) : Completes fpExecRefGate s (execRefGate count s) := by
  unfold execRefGate
  extract_lets -lift +onlyGivenNames a1
  have h1 : Within fpExecRefGate s a1 := by
    unfold a1
    refine Within.step ?_ (set_within _ _ _ (by decide +kernel)) (by decide +kernel)
    exact Within.refl _ _
  clear_value a1
  refine Completes.next ?_
  refine Within.ite ?_ ?_
  · refine Within.step ?_ (enterHoldover_within ..) (by decide +kernel)
    refine Within.step ?_ (raiseAlarm_within ..) (by decide +kernel)
    exact h1
  · exact h1

/-- What `execEpoch` can change. -/
def fpExecEpoch : Nat :=
  0x10000000000000f8000a00000000000000000000000000000000000000000000000000000000000000000000000000000008000000000000000000000000000000000000000000000000000000000000000000000000000000000000000000000000000000000000000000000000000000180800000000000000000000000000000000000000000

theorem fpExecEpoch_eq : fpExecEpoch =
    footprint [] [.epochDue] ||| fpGlobalEvent := by decide +kernel

theorem execEpoch_within (s : State) : Completes fpExecEpoch s (execEpoch s) := by
  unfold execEpoch
  refine Completes.next ?_
  refine Within.ite ?_ ?_
  · refine Within.step ?_ (globalEvent_within ..) (by decide +kernel)
    refine Within.step ?_ (epochDue_within _ _) (by decide +kernel)
    exact Within.refl _ _
  · exact Within.refl _ _

/-- What `syncPhase` can change. -/
def fpSyncPhase : Nat := footprint [R.CLK_SYNC_PHASE_ERR, R.CLK_SYNC_PHASE_LAST] [.syncErrs]

theorem syncPhase_within (s : State) (fine : Nat) (err : Int) : Within fpSyncPhase s (syncPhase s fine err) := by
  unfold syncPhase
  extract_lets -lift +onlyGivenNames a1
  clear_value a1
  extract_lets -lift +onlyGivenNames a2
  have h2 : Within fpSyncPhase s a2 := by
    unfold a2
    refine Within.step ?_ (syncErrs_within _ _) (by decide +kernel)
    exact Within.refl _ _
  clear_value a2
  refine Within.step ?_ (set_within _ _ _ (by decide +kernel)) (by decide +kernel)
  refine Within.step ?_ (set_within _ _ _ (by decide +kernel)) (by decide +kernel)
  exact h2

/-- What `syncCheck` can change. -/
def fpSyncCheck : Nat :=
  0x10000000000000f80182000000000000000000000000000000000000000000000000000000000000000000000000000000080000000000000000000000000000000000000000000000000000000000000000000000000000000000000000000000000000000000000000000000000000001808000000103e0000000000000000000000000000000

theorem fpSyncCheck_eq : fpSyncCheck =
    footprint [R.CLK_STATUS_SYNC_SLIP, R.CLK_STATUS_SYNC_MISSING] [.slipRun, .lastGoodL] ||| fpRaiseAlarm := by decide +kernel

theorem syncCheck_within (s : State) (l : Int) : Within fpSyncCheck s (syncCheck s l) := by
  unfold syncCheck
  extract_lets -lift +onlyGivenNames a1
  clear_value a1
  extract_lets -lift +onlyGivenNames a2
  have h2 : Within fpSyncCheck s a2 := by
    unfold a2
    refine Within.ite ?_ ?_
    · refine Within.step ?_ (lastGoodL_within _ _) (by decide +kernel)
      exact Within.refl _ _
    · exact Within.refl _ _
  clear_value a2
  refine Within.ite ?_ ?_
  · refine Within.ite ?_ ?_
    · extract_lets -lift +onlyGivenNames a3
      have h3 : Within fpSyncCheck s a3 := by
        unfold a3
        refine Within.step ?_ (set_within _ _ _ (by decide +kernel)) (by decide +kernel)
        exact h2
      clear_value a3
      extract_lets -lift +onlyGivenNames a4
      have h4 : Within fpSyncCheck s a4 := by
        unfold a4
        refine Within.step ?_ (slipRun_within _ _) (by decide +kernel)
        exact h3
      clear_value a4
      refine Within.when ?_ fun a5 => ?_
      · exact h4
      · refine Within.step ?_ (set_within _ _ _ (by decide +kernel)) (by decide +kernel)
        exact Within.refl _ _
    · refine Within.step ?_ (raiseAlarm_within ..) (by decide +kernel)
      refine Within.step ?_ (slipRun_within _ _) (by decide +kernel)
      exact h2
  · exact h2

/-- What `driftCheck` can change. -/
def fpDriftCheck : Nat :=
  0x400000010000000000000f8000200000000000000000000000000000000000000000000000000000000000000000000000000000008000000000000000000000000000000000000000000000000000000000000000000000000000000000000000000000000000000000000000000000000000000180800000004000000000000000000000000000000000

theorem fpDriftCheck_eq : fpDriftCheck =
    footprint [R.CLK_ALARM_SYNC_DRIFT] [.clk] ||| fpClockNotice := by decide +kernel

theorem driftCheck_within (s : State) : Within fpDriftCheck s (driftCheck s) := by
  unfold driftCheck
  extract_lets -lift +onlyGivenNames a1
  clear_value a1
  extract_lets -lift +onlyGivenNames a2
  clear_value a2
  refine Within.when ?_ fun a3 => ?_
  · refine Within.step ?_ (clk_within _ _) (by decide +kernel)
    exact Within.refl _ _
  · refine Within.trans ?_ (clockNotice_within (by decide +kernel) (by decide +kernel) (by decide +kernel) ..)
    exact Within.refl _ _

/-- What `timeLoad` can change. -/
def fpTimeLoad : Nat :=
  0x1000010000000000000f8000a80000000000000000000000000000000000000000000000000000000000000000000000000000008000000000000000000000000000000000000000000000000000000000000000000000000000000000000000000000000000000000000000000000000000000180801000001018000000000000000000000000000000

theorem fpTimeLoad_eq : fpTimeLoad =
    footprint [R.CLK_STATUS_TIME_PENDING, R.CLK_STATUS_TIME_VALID, R.CLK_ALARM_LOAD_BAD, R.CLK_TIME_CTRL_ARM] [.now,
  .epochDue, .timeLoadedAt] ||| fpGlobalEvent ||| fpClockNotice := by decide +kernel

theorem timeLoad_within (s : State) (l : Int) : Within fpTimeLoad s (timeLoad s l) := by
  unfold timeLoad
  extract_lets -lift +onlyGivenNames a1
  have h1 : Within fpTimeLoad s a1 := by
    unfold a1
    refine Within.step ?_ (set_within _ _ _ (by decide +kernel)) (by decide +kernel)
    refine Within.step ?_ (hwClear_within _ _ (by decide +kernel)) (by decide +kernel)
    exact Within.refl _ _
  clear_value a1
  refine Within.ite ?_ ?_
  · refine Within.trans ?_ (clockNotice_within (by decide +kernel) (by decide +kernel) (by decide +kernel) ..)
    exact h1
  · refine Within.step ?_ (globalEvent_within ..) (by decide +kernel)
    extract_lets -lift +onlyGivenNames a2
    have h2 : Within fpTimeLoad s a2 := by
      unfold a2
      refine Within.step ?_ (set_within _ _ _ (by decide +kernel)) (by decide +kernel)
      exact h1
    clear_value a2
    refine Within.step ?_ (upd_now_epochDue_timeLoadedAt_within _ _ _ _) (by decide +kernel)
    exact h2

/-- What `skewMean` can change. -/
def fpSkewMean : Nat :=
  0x20000000000000000000000000000000000000000000000000000000000000000000000000000000000000000000000000000000000000000000000000000000000000000000000000000000000000000000000000000000000000000000000000000000000000000000000080000007000000000000000000000000000000

theorem fpSkewMean_eq : fpSkewMean =
    footprint [R.CLK_STATUS_SKEW_FAIL, R.CLK_STATUS_SKEW_DONE, R.CLK_STATUS_SKEW_BUSY, R.CLK_SYNC_PHASE_ERR] [.skew] := by decide +kernel

theorem skewMean_within (s : State) (e : Int) : Within fpSkewMean s (skewMean s e) := by
  unfold skewMean
  extract_lets -lift +onlyGivenNames a1
  have h1 : Within fpSkewMean s a1 := by
    unfold a1
    refine Within.step ?_ (set_within _ _ _ (by decide +kernel)) (by decide +kernel)
    exact Within.refl _ _
  clear_value a1
  extract_lets -lift +onlyGivenNames a2
  refine Within.ite ?_ ?_
  · unfold a2
    beta_reduce
    extract_lets -lift +onlyGivenNames a3
    have h3 : Within fpSkewMean s a3 := by
      unfold a3
      refine Within.step ?_ (set_within _ _ _ (by decide +kernel)) (by decide +kernel)
      refine Within.step ?_ (set_within _ _ _ (by decide +kernel)) (by decide +kernel)
      exact h1
    clear_value a3
    refine Within.step ?_ (skew_within _ _) (by decide +kernel)
    exact h3
  · refine Within.step ?_ (skew_within _ _) (by decide +kernel)
    exact h1

/-- What `skewPulse` can change. -/
def fpSkewPulse : Nat :=
  0x20000000000000000000000000000000000000000000000000000000000000000000000000000000000000000000000000000000000000000000000000000000000000000000000000000000000000000000000000000000000000000000000000000000000000000000000080000007000000000000000000000000000000

theorem fpSkewPulse_eq : fpSkewPulse =
    footprint [] [.skew] ||| fpSkewMean := by decide +kernel

theorem skewPulse_within (s : State) (l err : Int) : Within fpSkewPulse s (skewPulse s l err) := by
  unfold skewPulse
  refine Within.ite ?_ ?_
  · extract_lets -lift +onlyGivenNames a1
    clear_value a1
    extract_lets -lift +onlyGivenNames a2
    extract_lets -lift +onlyGivenNames a3
    extract_lets -lift +onlyGivenNames a4
    have h4 : Within fpSkewPulse s a4 := by
      unfold a4
      refine Within.step ?_ (skew_within _ _) (by decide +kernel)
      exact Within.refl _ _
    clear_value a4
    refine Within.ite ?_ ?_
    · refine Within.step ?_ (skewMean_within ..) (by decide +kernel)
      exact h4
    · exact h4
  · exact Within.refl _ _

/-- What `syncMalformed` can change. -/
def fpSyncMalformed : Nat :=
  0x10000000000000f8000200000000000000000000000000000000000000000000000000000000000000000000000000000008000000000000000000000000000000000000000000000000000000000000000000000000000000000000000000000000000000000000000000000000000000180880000008000000000000000000000000000000000

theorem fpSyncMalformed_eq : fpSyncMalformed =
    footprint [R.CLK_ALARM_SYNC_FORM, R.CLK_SYNC_FORM_CNT_COUNT] [] ||| fpClockNotice := by decide +kernel

theorem syncMalformed_within (s : State) : Within fpSyncMalformed s (syncMalformed s) := by
  unfold syncMalformed
  refine Within.trans ?_ (clockNotice_within (by decide +kernel) (by decide +kernel) (by decide +kernel) ..)
  refine Within.step ?_ (inc_within _ _ _ (by decide +kernel)) (by decide +kernel)
  exact Within.refl _ _

/-- What `syncValid` can change. -/
def fpSyncValid : Nat :=
  0x401000010000000000000f803ca800000000000000000000000000000000000000000000000000000000000000000000000000000080000000000000000000000000000000000000000000000000000000000000000000000000000000000000000000000000000000000000000000000000000001808411800153ff000000000000000000000000000000

theorem fpSyncValid_eq : fpSyncValid =
    footprint [R.CLK_SYNC_CNT_COUNT] [] ||| fpSyncPhase ||| fpSyncCheck ||| fpDriftCheck ||| fpTimeLoad ||| fpSkewPulse := by decide +kernel

theorem syncValid_within (s : State) (c fine : Nat) (marked : Bool) : Within fpSyncValid s (syncValid s c fine marked) := by
  unfold syncValid
  split
  extract_lets -lift +onlyGivenNames a1
  clear_value a1
  extract_lets -lift +onlyGivenNames a2
  have h2 : Within fpSyncValid s a2 := by
    unfold a2
    refine Within.step ?_ (syncPhase_within ..) (by decide +kernel)
    refine Within.step ?_ (inc_within _ _ _ (by decide +kernel)) (by decide +kernel)
    exact Within.refl _ _
  clear_value a2
  extract_lets -lift +onlyGivenNames a3
  have h3 : Within fpSyncValid s a3 := by
    unfold a3
    refine Within.ite ?_ ?_
    · refine Within.step ?_ (timeLoad_within ..) (by decide +kernel)
      exact h2
    · exact h2
  clear_value a3
  extract_lets -lift +onlyGivenNames a4
  clear_value a4
  refine Within.step ?_ (driftCheck_within ..) (by decide +kernel)
  refine Within.step ?_ (skewPulse_within ..) (by decide +kernel)
  refine Within.step ?_ (driftCheck_within ..) (by decide +kernel)
  refine Within.step ?_ (syncCheck_within ..) (by decide +kernel)
  exact h3

/-- What `syncPulse` can change. -/
def fpSyncPulse : Nat :=
  0x401000010000000000000f803ca800000000000000000000000000000000000000000000000000000000000000000000000000000080000000000000000000000000000000000000000000000000000000000000000000000000000000000000000000000000000000000000000000000000000001808c118001d3ff000000000000000000000000000000

theorem fpSyncPulse_eq : fpSyncPulse =
    footprint [] [.clk] ||| fpSyncMalformed ||| fpSyncValid := by decide +kernel

theorem syncPulse_within (s : State) (r fine width : Nat) : Within fpSyncPulse s (syncPulse s r fine width) := by
  unfold syncPulse
  refine Within.ite ?_ ?_
  · refine Within.step ?_ (syncMalformed_within ..) (by decide +kernel)
    exact Within.refl _ _
  · refine Within.ite ?_ ?_
    · exact Within.refl _ _
    · extract_lets -lift +onlyGivenNames a1
      clear_value a1
      extract_lets -lift +onlyGivenNames a2
      have h2 : Within fpSyncPulse s a2 := by
        unfold a2
        refine Within.step ?_ (clk_within _ _) (by decide +kernel)
        exact Within.refl _ _
      clear_value a2
      split
      · refine Within.step ?_ (syncMalformed_within ..) (by decide +kernel)
        exact h2
      · refine Within.step ?_ (syncValid_within ..) (by decide +kernel)
        exact h2

/-- What `execSyncClassify` can change. -/
def fpExecSyncClassify : Nat :=
  0x411000010000000000000f803ca800000000000000000000000000000000000000000000000000000000000000000000000000000080000000000000000000000000000000000000000000000000000000000000000000000000000000000000000000000000000000000000000000000000000001808c118001d3ff000000000000000000000000000000

theorem fpExecSyncClassify_eq : fpExecSyncClassify =
    footprint [] [.pnt] ||| fpSyncPulse := by decide +kernel

theorem execSyncClassify_within (c : BitVec 64) (fine : Fin 2048) (width : BitVec 8) (s : State) : Completes fpExecSyncClassify s
    (execSyncClassify c fine width s) := by
  unfold execSyncClassify
  extract_lets -lift +onlyGivenNames a1
  clear_value a1
  refine Completes.next ?_
  refine Within.ite ?_ ?_
  · exact Within.refl _ _
  · refine Within.ite ?_ ?_
    · refine Within.step ?_ (pnt_within _ _) (by decide +kernel)
      exact Within.refl _ _
    · refine Within.step ?_ (syncPulse_within ..) (by decide +kernel)
      exact Within.refl _ _

/-- What `execSyncMissing` can change. -/
def fpExecSyncMissing : Nat :=
  0x10000000000000f80002000000000000000000000000000000000000000000000000000000000000000000000000000000080000000000000000000000000000000000000000000000000000000000000000000000000000000000000000000000000000000000000000000000000000001808000000103e0000000000000000000000000000000

theorem fpExecSyncMissing_eq : fpExecSyncMissing =
    fpRaiseAlarm := by decide +kernel

theorem execSyncMissing_within (s : State) : Completes fpExecSyncMissing s (execSyncMissing s) := by
  unfold execSyncMissing
  extract_lets -lift +onlyGivenNames a1
  clear_value a1
  extract_lets -lift +onlyGivenNames a2
  clear_value a2
  refine Completes.next ?_
  refine Within.ite ?_ ?_
  · refine Within.step ?_ (raiseAlarm_within ..) (by decide +kernel)
    exact Within.refl _ _
  · exact Within.refl _ _

/-- What `execSyncMasterPulse` can change. -/
def fpExecSyncMasterPulse : Nat := footprint [R.CLK_SYNC_CTRL_MARK_NEXT] [.syncOut]

theorem execSyncMasterPulse_within (s : State) : Completes fpExecSyncMasterPulse s (execSyncMasterPulse s) := by
  unfold execSyncMasterPulse
  refine Completes.next ?_
  refine Within.ite ?_ ?_
  · extract_lets -lift +onlyGivenNames a1
    have h1 : Within fpExecSyncMasterPulse s a1 := by
      unfold a1
      refine Within.step ?_ (hwClear_within _ _ (by decide +kernel)) (by decide +kernel)
      exact Within.refl _ _
    clear_value a1
    refine Within.step ?_ (syncOut_within _ _) (by decide +kernel)
    exact h1
  · exact Within.refl _ _

/-- What `timeArmed` can change. -/
def fpTimeArmed : Nat := footprint [] [.armVis, .fresh]

theorem timeArmed_within (before s : State) : Within fpTimeArmed s (timeArmed before s) := by
  unfold timeArmed
  refine Within.ite ?_ ?_
  · split
    refine Within.step ?_ (armVis_within _ _) (by decide +kernel)
    refine Within.ofSnd ?_ (by assumption)
    refine Within.step ?_ (free_within ..) (by decide +kernel)
    exact Within.refl _ _
  · exact Within.refl _ _

/-- What `cancelLoad` can change. -/
def fpCancelLoad : Nat :=
  0x10000000000000f8000200000000000000000000000000000000000000000000000000000000000000000000000000000008000000000000000000000000000000000000000000000000000000000000000000000000000000000000000000000000000000000000000000000000000000180801000000808000000000000000000000000000000

theorem fpCancelLoad_eq : fpCancelLoad =
    footprint [R.CLK_STATUS_TIME_PENDING, R.CLK_ALARM_LOAD_CANCELLED, R.CLK_TIME_CTRL_ARM] [] ||| fpClockNotice := by decide +kernel

theorem cancelLoad_within (s : State) : Within fpCancelLoad s (cancelLoad s) := by
  unfold cancelLoad
  refine Within.ite ?_ ?_
  · refine Within.trans ?_ (clockNotice_within (by decide +kernel) (by decide +kernel) (by decide +kernel) ..)
    refine Within.step ?_ (set_within _ _ _ (by decide +kernel)) (by decide +kernel)
    refine Within.step ?_ (hwClear_within _ _ (by decide +kernel)) (by decide +kernel)
    exact Within.refl _ _
  · exact Within.refl _ _

/-- What `execPhaseTapStep` can change. -/
def fpExecPhaseTapStep : Nat := footprint [] [.phaseNow, .clk]

theorem execPhaseTapStep_within (s : State) : Completes fpExecPhaseTapStep s (execPhaseTapStep s) := by
  unfold execPhaseTapStep
  extract_lets -lift +onlyGivenNames a1
  clear_value a1
  refine Completes.next ?_
  refine Within.ite ?_ ?_
  · exact Within.refl _ _
  · refine Within.step ?_ (upd_phaseNow_clk_within _ _ _) (by decide +kernel)
    exact Within.refl _ _

/-- What `skewGo` can change. -/
def fpSkewGo : Nat := footprint [R.CLK_STATUS_SKEW_FAIL, R.CLK_STATUS_SKEW_DONE, R.CLK_STATUS_SKEW_BUSY] [.skew]

theorem skewGo_within (s : State) : Within fpSkewGo s (skewGo s) := by
  unfold skewGo
  refine Within.ite ?_ ?_
  · refine Within.step ?_ (set_within _ _ _ (by decide +kernel)) (by decide +kernel)
    exact Within.refl _ _
  · refine Within.ite ?_ ?_
    · exact Within.refl _ _
    · extract_lets -lift +onlyGivenNames a1
      have h1 : Within fpSkewGo s a1 := by
        unfold a1
        refine Within.step ?_ (set_within _ _ _ (by decide +kernel)) (by decide +kernel)
        refine Within.step ?_ (set_within _ _ _ (by decide +kernel)) (by decide +kernel)
        refine Within.step ?_ (set_within _ _ _ (by decide +kernel)) (by decide +kernel)
        exact Within.refl _ _
      clear_value a1
      refine Within.step ?_ (skew_within _ _) (by decide +kernel)
      exact h1

/-- What `skewTick` can change. -/
def fpSkewTick : Nat := footprint [R.CLK_STATUS_SKEW_FAIL, R.CLK_STATUS_SKEW_BUSY] [.skew]

theorem skewTick_within (s : State) : Within fpSkewTick s (skewTick s) := by
  unfold skewTick
  refine Within.ite ?_ ?_
  · extract_lets -lift +onlyGivenNames a1
    have h1 : Within fpSkewTick s a1 := by
      unfold a1
      refine Within.step ?_ (set_within _ _ _ (by decide +kernel)) (by decide +kernel)
      refine Within.step ?_ (set_within _ _ _ (by decide +kernel)) (by decide +kernel)
      exact Within.refl _ _
    clear_value a1
    refine Within.step ?_ (skew_within _ _) (by decide +kernel)
    exact h1
  · exact Within.refl _ _

/-- What `relockGo` can change. -/
def fpRelockGo : Nat := footprint [R.CLK_STATUS_RELOCK_BUSY] [.clk]

theorem relockGo_within (s : State) : Within fpRelockGo s (relockGo s) := by
  unfold relockGo
  refine Within.ite ?_ ?_
  · exact Within.refl _ _
  · extract_lets -lift +onlyGivenNames a1
    have h1 : Within fpRelockGo s a1 := by
      unfold a1
      refine Within.step ?_ (set_within _ _ _ (by decide +kernel)) (by decide +kernel)
      exact Within.refl _ _
    clear_value a1
    refine Within.step ?_ (clk_within _ _) (by decide +kernel)
    exact h1

end Sys2Proof.Machine
end

