-- ==== Sys2Proof/Laws/Capture.lean ====
section
/-! SUPPORT. What each operation of Sys2Proof/Machine/Capture.lean can change. -/

set_option Elab.async false

namespace Sys2Proof.Machine

/-- What `setCap` can change. -/
def fpSetCap : Nat := footprint [] [.caps]

theorem setCap_within (s : State) (u : Nat) (c : Cap) : Within fpSetCap s (setCap s u c) := by
  unfold setCap
  refine Within.step ?_ (caps_within _ _) (by decide +kernel)
  exact Within.refl _ _

/-- What `updCap` can change. -/
def fpUpdCap : Nat :=
  0x4000000000000000000000000000000000000000000000000000000000000000000000000000000000000000000000000000000000000000000000000000000000000000000000000000000000000000000000000000000000000000000000000000000000000000000000000000000000000000000000000000000000000000000000000000000

theorem fpUpdCap_eq : fpUpdCap =
    fpSetCap := by decide +kernel

theorem updCap_within (s : State) (u : Nat) (f : Cap → Cap) : Within fpUpdCap s (updCap s u f) := by
  unfold updCap
  refine Within.step ?_ (setCap_within ..) (by decide +kernel)
  exact Within.refl _ _

/-- What `capFire` can change. -/
def fpCapFire : Nat :=
  0x10000000000000f8000200000000000000000000000000000000000000000000000000000000000000000000000000000008000000000000000000000000000000000000000000000000000000000000000000000000000000000000000000000000000000000000000000000000000000180800000000000000000000000000000000000000000

theorem fpCapFire_eq : fpCapFire =
    fpFire := by decide +kernel

theorem capFire_within (s : State) (u k : Nat) : Within fpCapFire s (capFire s u k) := by
  unfold capFire
  refine Within.step ?_ (fire_within ..) (by decide +kernel)
  exact Within.refl _ _

/-- What `capRun` can change. -/
def fpCapRun : Nat :=
  0x4000000000000000000000000000000000000000000000000000000000000000000000000000000000000000000000000000000000000000000000000000000000000000000000000000000000000000000011e00000000000000000000000000000000000000000000000000000000000000000000000000000000000000000000000000000000

theorem fpCapRun_eq : fpCapRun =
    footprint [R.ACQ_RD_INDEX, R.ACQ_WR_INDEX, R.ACQ_STATUS_STATE, R.ACQ_STATUS_CFG_ERR, R.ACQ_REC_CNT_COUNT] [] ||| fpUpdCap := by decide +kernel

theorem capRun_within (s : State) : Within fpCapRun s (capRun s) := by
  unfold capRun
  refine Within.forAll _ ?_ fun a1 _ => ?_
  · exact Within.refl _ _
  · extract_lets -lift +onlyGivenNames a2
    have h2 : Within fpCapRun a1 a2 := by
      unfold a2
      refine Within.step ?_ (set_within _ _ _ (by decide +kernel)) (by decide +kernel)
      refine Within.step ?_ (set_within _ _ _ (by decide +kernel)) (by decide +kernel)
      refine Within.step ?_ (set_within _ _ _ (by decide +kernel)) (by decide +kernel)
      exact Within.refl _ _
    clear_value a2
    extract_lets -lift +onlyGivenNames a3
    have h3 : Within fpCapRun a1 a3 := by
      unfold a3
      refine Within.step ?_ (set_within _ _ _ (by decide +kernel)) (by decide +kernel)
      exact h2
    clear_value a3
    refine Within.step ?_ (updCap_within ..) (by decide +kernel)
    refine Within.step ?_ (set_within _ _ _ (by decide +kernel)) (by decide +kernel)
    exact h3

/-- What `capHold` can change. -/
def fpCapHold : Nat :=
  0x4000000000000000000000000000000000000000000000000000000000000000000000000000000000000000000000000000000000000000000000000000000000000000000000000000000000000000000000000000000000000000000000000000000000000000000000000000000000000000000000000000000000000000000000000000000

theorem fpCapHold_eq : fpCapHold =
    fpUpdCap := by decide +kernel

theorem capHold_within (s : State) : Within fpCapHold s (capHold s) := by
  unfold capHold
  refine Within.forAll _ ?_ fun a1 _ => ?_
  · exact Within.refl _ _
  · refine Within.when ?_ fun a2 => ?_
    · exact Within.refl _ _
    · refine Within.step ?_ (updCap_within ..) (by decide +kernel)
      exact Within.refl _ _

/-- What `capTickEnd` can change. -/
def fpCapTickEnd : Nat :=
  0x4000000000000000000000000000000000000000000000000000000000000000000000000000000000000000000000000000000000000000000000000000000000000000000000000000000000000000000000000000000000000000000000000000000000000000000000000000000000000000000000000000000000000000000000000000000

theorem fpCapTickEnd_eq : fpCapTickEnd =
    fpUpdCap := by decide +kernel

theorem capTickEnd_within (s : State) (u : Nat) : Within fpCapTickEnd s (capTickEnd s u) := by
  unfold capTickEnd
  refine Within.ite ?_ ?_
  · exact Within.refl _ _
  · extract_lets -lift +onlyGivenNames a1
    clear_value a1
    split
    extract_lets -lift +onlyGivenNames a2
    clear_value a2
    refine Within.step ?_ (updCap_within ..) (by decide +kernel)
    exact Within.refl _ _

/-- What `capDrop` can change. -/
def fpCapDrop : Nat :=
  0x10000000000000f8000200000000000000000000000000000000000000000000000000000000000000000000000000000008000000000000000000000000000000000000000000000000000000000000000108000000000000000000000000000000000000000000000000000000000000180800000000000000000000000000000000000000000

theorem fpCapDrop_eq : fpCapDrop =
    footprint [R.ACQ_STATUS_GAP, R.ACQ_GAP_CNT_COUNT] [] ||| fpCapFire := by decide +kernel

theorem capDrop_within (s : State) (u : Nat) : Within fpCapDrop s (capDrop s u) := by
  unfold capDrop
  refine Within.step ?_ (capFire_within ..) (by decide +kernel)
  refine Within.step ?_ (set_within _ _ _ (by decide +kernel)) (by decide +kernel)
  refine Within.step ?_ (inc_within _ _ _ (by decide +kernel)) (by decide +kernel)
  exact Within.refl _ _

/-- What `capFlush` can change. -/
def fpCapFlush : Nat :=
  0x50000000000000f8000200000000000000000000000000000000000000000000000000000000000000000000000000000008000000000000000000000000000000000000000000000000000000000000000108000000000000000000000000000000000000000000000000000000000000180800000000000000000000000000000000000000000

theorem fpCapFlush_eq : fpCapFlush =
    fpSetCap ||| fpCapDrop := by decide +kernel

theorem capFlush_within (s : State) (u : Nat) : Within fpCapFlush s (capFlush s u) := by
  unfold capFlush
  extract_lets -lift +onlyGivenNames a1
  clear_value a1
  refine Within.ite ?_ ?_
  · exact Within.refl _ _
  · refine Within.ite ?_ ?_
    · refine Within.step ?_ (setCap_within ..) (by decide +kernel)
      exact Within.refl _ _
    · refine Within.step ?_ (capDrop_within ..) (by decide +kernel)
      refine Within.step ?_ (setCap_within ..) (by decide +kernel)
      exact Within.refl _ _

/-- What `capWord` can change. -/
def fpCapWord : Nat :=
  0x50000000000000f8000200000000000000000000000000000000000000000000000000000000000000000000000000000008000000000000000000000000000000000000000000000000000000000000000108000000000000000000000000000000000000000000000000000000000000180800000000000000000000000000000000000000000

theorem fpCapWord_eq : fpCapWord =
    fpUpdCap ||| fpCapFlush := by decide +kernel

theorem capWord_within (s : State) (u slot w v : Nat) : Within fpCapWord s (capWord s u slot w v) := by
  unfold capWord
  extract_lets -lift +onlyGivenNames a1
  have h1 : Within fpCapWord s a1 := by
    unfold a1
    refine Within.step ?_ (updCap_within ..) (by decide +kernel)
    exact Within.refl _ _
  clear_value a1
  refine Within.ite ?_ ?_
  · refine Within.step ?_ (capFlush_within ..) (by decide +kernel)
    exact h1
  · exact h1

/-- What `capTailEnd` can change. -/
def fpCapTailEnd : Nat :=
  0x50000000000000f8000200000000000000000000000000000000000000000000000000000000000000000000000000000008000000000000000000000000000000000000000000000000000000000000000108000000000000000000000000000000000000000000000000000000000000180800000000000000000000000000000000000000000

theorem fpCapTailEnd_eq : fpCapTailEnd =
    fpSetCap ||| fpCapDrop := by decide +kernel

theorem capTailEnd_within (s : State) (u : Nat) (v : Option Nat) : Within fpCapTailEnd s (capTailEnd s u v) := by
  unfold capTailEnd
  extract_lets -lift +onlyGivenNames a1
  clear_value a1
  split
  · exact Within.refl _ _
  · extract_lets -lift +onlyGivenNames a2
    clear_value a2
    refine Within.ite ?_ ?_
    · refine Within.step ?_ (setCap_within ..) (by decide +kernel)
      exact Within.refl _ _
    · refine Within.ite ?_ ?_
      · refine Within.step ?_ (setCap_within ..) (by decide +kernel)
        exact Within.refl _ _
      · refine Within.step ?_ (capDrop_within ..) (by decide +kernel)
        refine Within.step ?_ (setCap_within ..) (by decide +kernel)
        exact Within.refl _ _

/-- What `capLose` can change. -/
def fpCapLose : Nat :=
  0x50000000000000f8000200000000000000000000000000000000000000000000000000000000000000000000000000000008000000000000000000000000000000000000000000000000000000000000000084000000000000000000000000000000000000000000000000000000000000180800000000000000000000000000000000000000000

theorem fpCapLose_eq : fpCapLose =
    footprint [R.ACQ_STATUS_LOST, R.ACQ_LOST_CNT_COUNT] [] ||| fpUpdCap ||| fpCapFire := by decide +kernel

theorem capLose_within (s : State) (u : Nat) : Within fpCapLose s (capLose s u) := by
  unfold capLose
  extract_lets -lift +onlyGivenNames a1
  have h1 : Within fpCapLose s a1 := by
    unfold a1
    refine Within.step ?_ (updCap_within ..) (by decide +kernel)
    exact Within.refl _ _
  clear_value a1
  refine Within.step ?_ (capFire_within ..) (by decide +kernel)
  refine Within.step ?_ (set_within _ _ _ (by decide +kernel)) (by decide +kernel)
  refine Within.step ?_ (inc_within _ _ _ (by decide +kernel)) (by decide +kernel)
  exact h1

/-- What `capArm` can change. -/
def fpCapArm : Nat :=
  0x4000000000000000000000000000000000000000000000000000000000000000000000000000000000000000000000000000000000000000000000000000000000000000000000000000000000000000000000800000000000000000000000000000000000000000000000000000000000000000000000000000000000000000000000000000000

theorem fpCapArm_eq : fpCapArm =
    footprint [R.ACQ_STATUS_STATE] [] ||| fpUpdCap := by decide +kernel

theorem capArm_within (s : State) (u a : Nat) : Within fpCapArm s (capArm s u a) := by
  unfold capArm
  extract_lets -lift +onlyGivenNames a1
  clear_value a1
  refine Within.step ?_ (updCap_within ..) (by decide +kernel)
  refine Within.step ?_ (set_within _ _ _ (by decide +kernel)) (by decide +kernel)
  exact Within.refl _ _

/-- What `capReject` can change. -/
def fpCapReject : Nat :=
  0x50000000000000f8000200000000000000000000000000000000000000000000000000000000000000000000000000000008000000000000000000000000000000000000000000000000000000000000003e62000000000000000000000000000000000000000000000000000000000000180800000000000000000000000000000000000000000

theorem fpCapReject_eq : fpCapReject =
    footprint [R.ACQ_STATUS_REJ, R.ACQ_REJ_FILL_CNT_COUNT, R.ACQ_REJ_BUSY_CNT_COUNT, R.ACQ_REJ_FIRST_VALID,
  R.ACQ_REJ_FIRST_REASON, R.ACQ_REJ_FIRST_SUB, R.ACQ_REJ_TLO_TICK_LO, R.ACQ_REJ_THI_TICK_HI] [] ||| fpUpdCap ||| fpCapFire := by decide +kernel

theorem capReject_within (s : State) (u reason x sub : Nat) : Within fpCapReject s (capReject s u reason x sub) := by
  unfold capReject
  extract_lets -lift +onlyGivenNames a1
  have h1 : Within fpCapReject s a1 := by
    unfold a1
    refine Within.step ?_ (updCap_within ..) (by decide +kernel)
    exact Within.refl _ _
  clear_value a1
  extract_lets -lift +onlyGivenNames a2
  have h2 : Within fpCapReject s a2 := by
    unfold a2
    refine Within.ite ?_ ?_
    · refine Within.step ?_ (inc_within _ _ _ (by decide +kernel)) (by decide +kernel)
      exact h1
    · refine Within.step ?_ (inc_within _ _ _ (by decide +kernel)) (by decide +kernel)
      exact h1
  clear_value a2
  refine Within.ite ?_ ?_
  · exact h2
  · extract_lets -lift +onlyGivenNames a3
    have h3 : Within fpCapReject s a3 := by
      unfold a3
      refine Within.step ?_ (set_within _ _ _ (by decide +kernel)) (by decide +kernel)
      refine Within.step ?_ (set_within _ _ _ (by decide +kernel)) (by decide +kernel)
      exact h2
    clear_value a3
    extract_lets -lift +onlyGivenNames a4
    have h4 : Within fpCapReject s a4 := by
      unfold a4
      refine Within.step ?_ (set_within _ _ _ (by decide +kernel)) (by decide +kernel)
      refine Within.step ?_ (set_within _ _ _ (by decide +kernel)) (by decide +kernel)
      exact h3
    clear_value a4
    refine Within.step ?_ (capFire_within ..) (by decide +kernel)
    refine Within.step ?_ (set_within _ _ _ (by decide +kernel)) (by decide +kernel)
    refine Within.step ?_ (set_within _ _ _ (by decide +kernel)) (by decide +kernel)
    exact h4

/-- What `capAccept` can change. -/
def fpCapAccept : Nat :=
  0x50000000000000f8000200000000000000000000000000000000000000000000000000000000000000000000000000000008000000000000000000000000000000000000000000000000000000000000000094800000000000000000000000000000000000000000000000000000000000180800000000000000000000000000000000000000000

theorem fpCapAccept_eq : fpCapAccept =
    footprint [R.ACQ_STATUS_STATE, R.ACQ_REC_CNT_COUNT] [] ||| fpUpdCap ||| fpCapFire ||| fpCapLose := by decide +kernel

theorem capAccept_within (s : State) (u : Nat) (h : CapTick) (mask sub q n : Nat) : Within fpCapAccept s (capAccept s u h mask sub q n) := by
  unfold capAccept
  extract_lets -lift +onlyGivenNames a1
  clear_value a1
  extract_lets -lift +onlyGivenNames a2
  clear_value a2
  extract_lets -lift +onlyGivenNames a3
  clear_value a3
  split
  split
  extract_lets -lift +onlyGivenNames a4
  clear_value a4
  extract_lets -lift +onlyGivenNames a5
  have h5 : Within fpCapAccept s a5 := by
    unfold a5
    refine Within.step ?_ (updCap_within ..) (by decide +kernel)
    refine Within.step ?_ (inc_within _ _ _ (by decide +kernel)) (by decide +kernel)
    exact Within.refl _ _
  clear_value a5
  extract_lets -lift +onlyGivenNames a6
  have h6 : Within fpCapAccept s a6 := by
    unfold a6
    refine Within.step ?_ (set_within _ _ _ (by decide +kernel)) (by decide +kernel)
    exact h5
  clear_value a6
  extract_lets -lift +onlyGivenNames a7
  have h7 : Within fpCapAccept s a7 := by
    unfold a7
    refine Within.when ?_ fun a8 => ?_
    · exact h6
    · refine Within.step ?_ (capLose_within ..) (by decide +kernel)
      exact Within.refl _ _
  clear_value a7
  refine Within.step ?_ (capFire_within ..) (by decide +kernel)
  exact h7

/-- What `capStore` can change. -/
def fpCapStore : Nat :=
  0x50000000000000f8000200000000000000000000000000000000000000000000000000000000000000000000000000000008000000000000000000000000000000000000000000000000000000000000000108000000000000000000000000000000000000000000000000000000000000180800000000000000000000000000000000000000000

theorem fpCapStore_eq : fpCapStore =
    fpUpdCap ||| fpCapWord ||| fpCapTailEnd := by decide +kernel

theorem capStore_within (s : State) (u : Nat) (h : CapTick) (x : CapSample) : Within fpCapStore s (capStore s u h x) := by
  unfold capStore
  extract_lets -lift +onlyGivenNames a1
  clear_value a1
  extract_lets -lift +onlyGivenNames a2
  clear_value a2
  extract_lets -lift +onlyGivenNames a3
  clear_value a3
  extract_lets -lift +onlyGivenNames a4
  split
  · unfold a4
    beta_reduce
    split
    · refine Within.step ?_ (capWord_within ..) (by decide +kernel)
      exact Within.refl _ _
    · exact Within.refl _ _
  · extract_lets -lift +onlyGivenNames a5
    clear_value a5
    extract_lets -lift +onlyGivenNames a6
    have h6 : Within fpCapStore s a6 := by
      unfold a6
      unfold a4
      beta_reduce
      split
      · refine Within.step ?_ (capWord_within ..) (by decide +kernel)
        exact Within.refl _ _
      · exact Within.refl _ _
    clear_value a6
    unfold a4
    beta_reduce
    split
    · refine Within.step ?_ (capWord_within ..) (by decide +kernel)
      exact h6
    · exact h6
  · refine Within.ite ?_ ?_
    · refine Within.step ?_ (updCap_within ..) (by decide +kernel)
      exact Within.refl _ _
    · extract_lets -lift +onlyGivenNames a5
      clear_value a5
      unfold a4
      beta_reduce
      split
      · refine Within.step ?_ (capWord_within ..) (by decide +kernel)
        refine Within.ite ?_ ?_
        · refine Within.step ?_ (capTailEnd_within ..) (by decide +kernel)
          exact Within.refl _ _
        · exact Within.refl _ _
      · refine Within.ite ?_ ?_
        · refine Within.step ?_ (capTailEnd_within ..) (by decide +kernel)
          exact Within.refl _ _
        · exact Within.refl _ _

/-- What `capSample` can change. -/
def fpCapSample : Nat :=
  0x50000000000000f8000200000000000000000000000000000000000000000000000000000000000000000000000000000008000000000000000000000000000000000000000000000000000000000000003ffe800000000000000000000000000000000000000000000000000000000000180800000000000000000000000000000000000000000

theorem fpCapSample_eq : fpCapSample =
    footprint [R.ACQ_STATUS_STATE] [] ||| fpSetCap ||| fpUpdCap ||| fpCapReject ||| fpCapAccept ||| fpCapStore := by decide +kernel

theorem capSample_within (u n : Nat) (h : CapTick) (s : State) (x : CapSample) : Within fpCapSample s (capSample u n h s x) := by
  unfold capSample
  extract_lets -lift +onlyGivenNames a1
  clear_value a1
  split
  extract_lets -lift +onlyGivenNames a2
  clear_value a2
  extract_lets -lift +onlyGivenNames a3
  have h3 : Within fpCapSample s a3 := by
    unfold a3
    refine Within.step ?_ (setCap_within ..) (by decide +kernel)
    exact Within.refl _ _
  clear_value a3
  extract_lets -lift +onlyGivenNames a4
  have h4 : Within fpCapSample s a4 := by
    unfold a4
    refine Within.when ?_ fun a5 => ?_
    · exact h3
    · refine Within.step ?_ (set_within _ _ _ (by decide +kernel)) (by decide +kernel)
      exact Within.refl _ _
  clear_value a4
  extract_lets -lift +onlyGivenNames a5
  have h5 : Within fpCapSample s a5 := by
    unfold a5
    refine Within.step ?_ (capStore_within ..) (by decide +kernel)
    exact h4
  clear_value a5
  extract_lets -lift +onlyGivenNames a6
  have h6 : Within fpCapSample s a6 := by
    unfold a6
    refine Within.ite ?_ ?_
    · exact h5
    · split
      · refine Within.step ?_ (capReject_within ..) (by decide +kernel)
        exact h5
      · refine Within.step ?_ (capAccept_within ..) (by decide +kernel)
        exact h5
      · refine Within.step ?_ (capReject_within ..) (by decide +kernel)
        exact h5
      · refine Within.step ?_ (capReject_within ..) (by decide +kernel)
        exact h5
      · exact h5
  clear_value a6
  refine Within.step ?_ (updCap_within ..) (by decide +kernel)
  exact h6

/-- What `capTaints` can change. -/
def fpCapTaints : Nat :=
  0x4000000000000000000000000000000000000000000000000000000000000000000000000000000000000000000000000000000000000000000000000000000000000000000000000000000000000000000000000000000000000000000000000000000000000000000000000000000000000000000000000000000000000000000000000000000

theorem fpCapTaints_eq : fpCapTaints =
    fpUpdCap := by decide +kernel

theorem capTaints_within (s : State) (u : Nat) (h : CapTick) (xs : List CapSample) : Within fpCapTaints s (capTaints s u h xs) := by
  unfold capTaints
  extract_lets -lift +onlyGivenNames a1
  clear_value a1
  extract_lets -lift +onlyGivenNames a2
  clear_value a2
  extract_lets -lift +onlyGivenNames a3
  clear_value a3
  refine Within.step ?_ (updCap_within ..) (by decide +kernel)
  exact Within.refl _ _

/-- What `capEnd` can change. -/
def fpCapEnd : Nat :=
  0x50000000000000f810020000000000000000000000000000000000000000000000000000000000000000000000000000000800000000000000000000000000000000000000000000000000000000000000018c0000000000000000000000000000000000000000000000000000000000001808000000000000000000000000000000000047f0000

theorem fpCapEnd_eq : fpCapEnd =
    footprint [R.GLB_RESULT_DROP_CNT_COUNT] [] ||| fpNoteTaint ||| fpSetCap ||| fpUpdCap ||| fpCapFlush ||| fpCapLose := by decide +kernel

theorem capEnd_within (s : State) (u : Nat) (r : CapRec) (cut : Bool) (nw e : Nat) : Within fpCapEnd s (capEnd s u r cut nw e) := by
  unfold capEnd
  extract_lets -lift +onlyGivenNames a1
  clear_value a1
  extract_lets -lift +onlyGivenNames a2
  have h2 : Within fpCapEnd s a2 := by
    unfold a2
    refine Within.ite ?_ ?_
    · exact Within.refl _ _
    · refine Within.step ?_ (capFlush_within ..) (by decide +kernel)
      exact Within.refl _ _
  clear_value a2
  extract_lets -lift +onlyGivenNames a3
  clear_value a3
  extract_lets -lift +onlyGivenNames a4
  have h4 : Within fpCapEnd s a4 := by
    unfold a4
    refine Within.step ?_ (noteTaint_within ..) (by decide +kernel)
    exact h2
  clear_value a4
  extract_lets -lift +onlyGivenNames a5
  have h5 : Within fpCapEnd s a5 := by
    unfold a5
    refine Within.step ?_ (updCap_within ..) (by decide +kernel)
    exact h4
  clear_value a5
  split
  · exact h5
  · extract_lets -lift +onlyGivenNames a6
    clear_value a6
    refine Within.ite ?_ ?_
    · refine Within.step ?_ (capFlush_within ..) (by decide +kernel)
      refine Within.step ?_ (capLose_within ..) (by decide +kernel)
      refine Within.step ?_ (inc_within _ _ _ (by decide +kernel)) (by decide +kernel)
      exact h5
    · extract_lets -lift +onlyGivenNames a7
      clear_value a7
      extract_lets -lift +onlyGivenNames a8
      clear_value a8
      refine Within.step ?_ (setCap_within ..) (by decide +kernel)
      exact h5

/-- What `execCaptureRecordEnd` can change. -/
def fpExecCaptureRecordEnd : Nat :=
  0x50000000000000f810020000000000000000000000000000000000000000000000000000000000000000000000000000000800000000000000000000000000000000000000000000000000000000000000018c8000000000000000000000000000000000000000000000000000000000001808000000000000000000000000000000000047f0000

theorem fpExecCaptureRecordEnd_eq : fpExecCaptureRecordEnd =
    footprint [R.ACQ_STATUS_STATE] [] ||| fpCapFire ||| fpCapEnd := by decide +kernel

theorem execCaptureRecordEnd_within (u : Fin 16) (s : State) : Completes fpExecCaptureRecordEnd s (execCaptureRecordEnd u s) := by
  unfold execCaptureRecordEnd
  refine Completes.next ?_
  split
  · exact Within.refl _ _
  · refine Within.ite ?_ ?_
    · extract_lets -lift +onlyGivenNames a1
      have h1 : Within fpExecCaptureRecordEnd s a1 := by
        unfold a1
        refine Within.step ?_ (capEnd_within ..) (by decide +kernel)
        exact Within.refl _ _
      clear_value a1
      extract_lets -lift +onlyGivenNames a2
      have h2 : Within fpExecCaptureRecordEnd s a2 := by
        unfold a2
        refine Within.step ?_ (set_within _ _ _ (by decide +kernel)) (by decide +kernel)
        exact h1
      clear_value a2
      refine Within.step ?_ (capFire_within ..) (by decide +kernel)
      exact h2
    · exact Within.refl _ _

/-- What `execCaptureRearm` can change. -/
def fpExecCaptureRearm : Nat :=
  0x4000000000000000000000000000000000000000000000000000000000000000000000000000000000000000000000000000000000000000000000000000000000000000000000000000000000000000000000800000000000000000000000000000000000000000000000000000000000000000000000000000000000000000000000000000000

theorem fpExecCaptureRearm_eq : fpExecCaptureRearm =
    fpCapArm := by decide +kernel

theorem execCaptureRearm_within (u : Fin 16) (s : State) : Completes fpExecCaptureRearm s (execCaptureRearm u s) := by
  unfold execCaptureRearm
  refine Completes.next ?_
  refine Within.ite ?_ ?_
  · refine Within.step ?_ (capArm_within ..) (by decide +kernel)
    exact Within.refl _ _
  · exact Within.refl _ _

/-- What `capCut` can change. -/
def fpCapCut : Nat :=
  0x50000000000000f810020000000000000000000000000000000000000000000000000000000000000000000000000000000800000000000000000000000000000000000000000000000000000000000000018c8000000000000000000000000000000000000000000000000000000000001808000000000000000000000000000000000047f0000

theorem fpCapCut_eq : fpCapCut =
    footprint [R.ACQ_STATUS_STATE] [] ||| fpUpdCap ||| fpCapTailEnd ||| fpCapEnd := by decide +kernel

theorem capCut_within (s : State) (u e : Nat) : Within fpCapCut s (capCut s u e) := by
  unfold capCut
  extract_lets -lift +onlyGivenNames a1
  have h1 : Within fpCapCut s a1 := by
    unfold a1
    refine Within.step ?_ (capTailEnd_within ..) (by decide +kernel)
    exact Within.refl _ _
  clear_value a1
  extract_lets -lift +onlyGivenNames a2
  clear_value a2
  extract_lets -lift +onlyGivenNames a3
  have h3 : Within fpCapCut s a3 := by
    unfold a3
    split
    · refine Within.step ?_ (capEnd_within ..) (by decide +kernel)
      exact h1
    · exact h1
  clear_value a3
  refine Within.step ?_ (updCap_within ..) (by decide +kernel)
  refine Within.step ?_ (set_within _ _ _ (by decide +kernel)) (by decide +kernel)
  exact h3

/-- What `execCaptureEvaluate` can change. -/
def fpExecCaptureEvaluate : Nat :=
  0x50000000000000f8100200000000000000000000000000000000000000000000000000000000000000000000000000000008000000000000000040000000000000000000000000000000000000000000003ffe8000000000000000000000000000000000000000000000000000000000001808000000000000000000000000000000000047f0000

theorem fpExecCaptureEvaluate_eq : fpExecCaptureEvaluate =
    fpSatCor ||| fpUpdCap ||| fpCapArm ||| fpCapSample ||| fpCapTaints ||| fpCapCut := by decide +kernel

theorem execCaptureEvaluate_within (u : Fin 16) (codes : List (BitVec 12)) (s : State) : Completes fpExecCaptureEvaluate s (execCaptureEvaluate u
    codes s) := by
  unfold execCaptureEvaluate
  extract_lets -lift +onlyGivenNames a1
  clear_value a1
  refine Completes.ite ?_ ?_
  · refine Completes.next ?_
    refine Within.step ?_ (capCut_within ..) (by decide +kernel)
    exact Within.refl _ _
  · split
    · refine Completes.next ?_
      exact Within.refl _ _
    · extract_lets -lift +onlyGivenNames a2
      have h2 : Within fpExecCaptureEvaluate s a2 := by
        unfold a2
        refine Within.when ?_ fun a3 => ?_
        · exact Within.refl _ _
        · refine Within.step ?_ (capArm_within ..) (by decide +kernel)
          exact Within.refl _ _
      clear_value a2
      extract_lets -lift +onlyGivenNames a3
      clear_value a3
      extract_lets -lift +onlyGivenNames a4
      clear_value a4
      extract_lets -lift +onlyGivenNames a5
      have h5 : Within fpExecCaptureEvaluate s a5 := by
        unfold a5
        refine Within.step ?_ (updCap_within ..) (by decide +kernel)
        exact h2
      clear_value a5
      extract_lets -lift +onlyGivenNames a6
      clear_value a6
      extract_lets -lift +onlyGivenNames a7
      have h7 : Within fpExecCaptureEvaluate s a7 := by
        unfold a7
        refine Within.step ?_ (satCor_within ..) (by decide +kernel)
        exact h5
      clear_value a7
      refine Completes.next ?_
      refine Within.forAll _ ?_ fun a8 _ => ?_
      · refine Within.step ?_ (capTaints_within ..) (by decide +kernel)
        exact h7
      · refine Within.step ?_ (capSample_within ..) (by decide +kernel)
        exact Within.refl _ _

/-- What `execCaptureBlockWrite` can change. -/
def fpExecCaptureBlockWrite : Nat :=
  0x50000000080000f80002000000000000000000000000000000000000000000000000000000000000000000000000000000080000000000000000000000000000000000000000000000000000000000000000000000000000000000000000000000000000000000000007e0000000000000180800000000000001fe0000000000000000000000000

theorem fpExecCaptureBlockWrite_eq : fpExecCaptureBlockWrite =
    fpDataBeat ||| fpSetCap := by decide +kernel

theorem execCaptureBlockWrite_within (u : Fin 16) (s : State) : Completes fpExecCaptureBlockWrite s (execCaptureBlockWrite u s) := by
  unfold execCaptureBlockWrite
  extract_lets -lift +onlyGivenNames a1
  clear_value a1
  refine Completes.next ?_
  refine Within.ite ?_ ?_
  · exact Within.refl _ _
  · split
    · exact Within.refl _ _
    · refine Within.ite ?_ ?_
      · exact Within.refl _ _
      · refine Within.ite ?_ ?_
        · refine Within.step ?_ (setCap_within ..) (by decide +kernel)
          exact Within.refl _ _
        · refine Within.step ?_ (dataBeat_within ..) (by decide +kernel)
          refine Within.step ?_ (setCap_within ..) (by decide +kernel)
          exact Within.refl _ _

/-- What `execCaptureHeaderWritten` can change. -/
def fpExecCaptureHeaderWritten : Nat :=
  0x50000000080000f80002000000000000000000000000000000000000000000000000000000000000000000000000000000080000000000000000000000000000000000000000000000000000000000000000004000000000000000000000000000000000000000000007e0000000000000180800000000000001fe0000000000000000000000000

theorem fpExecCaptureHeaderWritten_eq : fpExecCaptureHeaderWritten =
    footprint [R.ACQ_WR_INDEX] [] ||| fpDataBeat ||| fpSetCap := by decide +kernel

theorem execCaptureHeaderWritten_within (u : Fin 16) (s : State) : Completes fpExecCaptureHeaderWritten s (execCaptureHeaderWritten u s) := by
  unfold execCaptureHeaderWritten
  extract_lets -lift +onlyGivenNames a1
  clear_value a1
  refine Completes.next ?_
  refine Within.ite ?_ ?_
  · exact Within.refl _ _
  · split
    · exact Within.refl _ _
    · extract_lets -lift +onlyGivenNames a2
      have h2 : Within fpExecCaptureHeaderWritten s a2 := by
        unfold a2
        refine Within.step ?_ (dataBeat_within ..) (by decide +kernel)
        refine Within.step ?_ (setCap_within ..) (by decide +kernel)
        exact Within.refl _ _
      clear_value a2
      refine Within.step ?_ (set_within _ _ _ (by decide +kernel)) (by decide +kernel)
      exact h2

/-- What `acqRdWritten` can change. -/
def fpAcqRdWritten : Nat := footprint [R.ACQ_RD_INDEX] []

theorem acqRdWritten_within (before s : State) (u : Nat) : Within fpAcqRdWritten s (acqRdWritten before s u) := by
  unfold acqRdWritten
  extract_lets -lift +onlyGivenNames a1
  clear_value a1
  extract_lets -lift +onlyGivenNames a2
  clear_value a2
  refine Within.ite ?_ ?_
  · exact Within.refl _ _
  · refine Within.step ?_ (set_within _ _ _ (by decide +kernel)) (by decide +kernel)
    exact Within.refl _ _

end Sys2Proof.Machine
end

