-- ==== Sys2Proof/Laws/Timing.lean ====
section
/-! SUPPORT. What each operation of Sys2Proof/Machine/Timing.lean can change. -/

set_option Elab.async false

namespace Sys2Proof.Machine

theorem Within.restoreTick {K x y z : Nat} {s t : State} (h : Within K { s with tick := x, now := y, clock := z } t) :
    Within K s { t with tick := s.tick, now := s.now, clock := s.clock } :=
  ⟨fun c => h.canon c, fun g i hn hg => h.regs g i hn hg, fun p hp => by cases p <;> first | with_reducible rfl | exact h.parts _ hp⟩

/-- What `atTick` can change: what its operation does. -/
theorem atTick_within {K : Nat} {s : State} {e : Nat} {f : State → State} (hf : ∀ t, Within K t (f t)) : Within K s (atTick s e f) := by
  unfold atTick
  exact (hf _).restoreTick

/-- What `tinNotice` can change beside its field. -/
def fpTinNotice : Nat :=
  0x10000000000000f8000200000000000000000000000000000000000000000000000000000000000000000000000000000008000000000000000000000000000000000000000000000000000000000000000000000000000000000000000000000000000000000000000000000000000000180800000000000000000000000000000000000000000

theorem fpTinNotice_eq : fpTinNotice =
    fpFire := by decide +kernel

theorem tinNotice_within {K : Nat} {s : State} {i : Nat} {f : Fld} (hf : Fits f) (hb : 2 ^ f.id &&& K = 2 ^ f.id)
    (hk : fpTinNotice &&& K = fpTinNotice) : Within K s (tinNotice s f i) := by
  unfold tinNotice
  refine Within.ite (Within.refl _ _) ?_
  exact Within.step (Within.step (Within.refl _ _) (set_within _ _ _ hf) hb) (fire_within ..) hk

/-- What `setIvl` can change. -/
def fpSetIvl : Nat := footprint [] [.ivls]

theorem setIvl_within (s : State) (m : Nat) (v : Ivl) : Within fpSetIvl s (setIvl s m v) := by
  unfold setIvl
  refine Within.step ?_ (ivls_within _ _) (by decide +kernel)
  exact Within.refl _ _

/-- What `ivlDone` can change. -/
def fpIvlDone : Nat :=
  0x1010000000000000f80002000000000000000000000000000000000000000000000000000000000000000000000000000000080000000000000000000000000000000000000000000000000000017f0000000000000000000000000000000000000000000000000000000000000000000000180800000000000000000000000000000000000000000

theorem fpIvlDone_eq : fpIvlDone =
    footprint [R.TDC_MSTATUS_BUSY, R.TDC_MSTATUS_DONE, R.TDC_MSTATUS_TIMEOUT, R.TDC_MSTATUS_OVERRUN, R.TDC_MSTATUS_CFG_ERR,
  R.TDC_MSTATUS_COUNT, R.TDC_MSTART_LO_STAMP_LO, R.TDC_MINT_LO_INT_LO] [] ||| fpFire ||| fpSetIvl := by decide +kernel

theorem ivlDone_within (s : State) (m : Nat) (out : Bool) : Within fpIvlDone s (ivlDone s m out) := by
  unfold ivlDone
  extract_lets -lift +onlyGivenNames a1
  clear_value a1
  extract_lets -lift +onlyGivenNames a2
  have h2 : Within fpIvlDone s a2 := by
    unfold a2
    refine Within.when ?_ fun a3 => ?_
    · exact Within.refl _ _
    · refine Within.step ?_ (set_within _ _ _ (by decide +kernel)) (by decide +kernel)
      exact Within.refl _ _
  clear_value a2
  extract_lets -lift +onlyGivenNames a3
  have h3 : Within fpIvlDone s a3 := by
    unfold a3
    refine Within.step ?_ (set_within _ _ _ (by decide +kernel)) (by decide +kernel)
    refine Within.step ?_ (set_within _ _ _ (by decide +kernel)) (by decide +kernel)
    exact h2
  clear_value a3
  extract_lets -lift +onlyGivenNames a4
  have h4 : Within fpIvlDone s a4 := by
    unfold a4
    refine Within.step ?_ (set_within _ _ _ (by decide +kernel)) (by decide +kernel)
    refine Within.step ?_ (set_within _ _ _ (by decide +kernel)) (by decide +kernel)
    exact h3
  clear_value a4
  extract_lets -lift +onlyGivenNames a5
  have h5 : Within fpIvlDone s a5 := by
    unfold a5
    refine Within.step ?_ (set_within _ _ _ (by decide +kernel)) (by decide +kernel)
    exact h4
  clear_value a5
  extract_lets -lift +onlyGivenNames a6
  have h6 : Within fpIvlDone s a6 := by
    unfold a6
    refine Within.forAll _ ?_ fun a7 _ => ?_
    · exact h5
    · refine Within.step ?_ (set_within _ _ _ (by decide +kernel)) (by decide +kernel)
      exact Within.refl _ _
  clear_value a6
  extract_lets -lift +onlyGivenNames a7
  have h7 : Within fpIvlDone s a7 := by
    unfold a7
    refine Within.step ?_ (setIvl_within ..) (by decide +kernel)
    exact h6
  clear_value a7
  extract_lets -lift +onlyGivenNames a8
  have h8 : Within fpIvlDone s a8 := by
    unfold a8
    refine Within.step ?_ (fire_within ..) (by decide +kernel)
    exact h7
  clear_value a8
  extract_lets -lift +onlyGivenNames a9
  have h9 : Within fpIvlDone s a9 := by
    unfold a9
    refine Within.when ?_ fun a10 => ?_
    · exact h8
    · refine Within.step ?_ (fire_within ..) (by decide +kernel)
      exact Within.refl _ _
  clear_value a9
  refine Within.ite ?_ ?_
  · exact h9
  · refine Within.ite ?_ ?_
    · refine Within.step ?_ (setIvl_within ..) (by decide +kernel)
      refine Within.step ?_ (set_within _ _ _ (by decide +kernel)) (by decide +kernel)
      exact h9
    · refine Within.step ?_ (set_within _ _ _ (by decide +kernel)) (by decide +kernel)
      exact h9

/-- What `ivlStop` can change. -/
def fpIvlStop : Nat :=
  0x1010000000000000f80002000000000000000000000000000000000000000000000000000000000000000000000000000000080000000000000000000000000000000000000000000000000000017f0000000000000000000000000000000000000000000000000000000000000000000000180800000000000000000000000000000000000000000

theorem fpIvlStop_eq : fpIvlStop =
    fpSetIvl ||| fpIvlDone := by decide +kernel

theorem ivlStop_within (s : State) (m : Nat) (e : Edge) : Within fpIvlStop s (ivlStop s m e) := by
  unfold ivlStop
  extract_lets -lift +onlyGivenNames a1
  clear_value a1
  extract_lets -lift +onlyGivenNames a2
  clear_value a2
  refine Within.ite ?_ ?_
  · extract_lets -lift +onlyGivenNames a3
    clear_value a3
    extract_lets -lift +onlyGivenNames a4
    have h4 : Within fpIvlStop s a4 := by
      unfold a4
      refine Within.step ?_ (setIvl_within ..) (by decide +kernel)
      exact Within.refl _ _
    clear_value a4
    refine Within.ite ?_ ?_
    · refine Within.step ?_ (ivlDone_within ..) (by decide +kernel)
      exact h4
    · exact h4
  · exact Within.refl _ _

/-- What `ivlEdge` can change. -/
def fpIvlEdge : Nat :=
  0x1010000000000000f80002000000000000000000000000000000000000000000000000000000000000000000000000000000080000000000000000000000000000000000000000000000000000017f0000000000000000000000000000000000000000000000000000000000000000000000180800000000000000000000000000000000000000000

theorem fpIvlEdge_eq : fpIvlEdge =
    fpSetIvl ||| fpIvlStop := by decide +kernel

theorem ivlEdge_within (s : State) (m : Nat) (e : Edge) : Within fpIvlEdge s (ivlEdge s m e) := by
  unfold ivlEdge
  extract_lets -lift +onlyGivenNames a1
  clear_value a1
  split
  · refine Within.ite ?_ ?_
    · extract_lets -lift +onlyGivenNames a2
      clear_value a2
      refine Within.forAll _ ?_ fun a3 _ => ?_
      · refine Within.step ?_ (setIvl_within ..) (by decide +kernel)
        exact Within.refl _ _
      · refine Within.step ?_ (ivlStop_within ..) (by decide +kernel)
        exact Within.refl _ _
    · exact Within.refl _ _
  · refine Within.step ?_ (ivlStop_within ..) (by decide +kernel)
    exact Within.refl _ _
  · exact Within.refl _ _

/-- What `ivlArm` can change. -/
def fpIvlArm : Nat :=
  0x1010000000000000f80002000000000000000000000000000000000000000000000000000000000000000000000000000000080000000000000000000000000000000000000000000000000000017f0000000000000000000000000000000000000000000000000000000000000000000000180800000000000000000000000000000000000000000

theorem fpIvlArm_eq : fpIvlArm =
    footprint [R.TDC_MSTATUS_BUSY, R.TDC_MSTATUS_CFG_ERR] [] ||| fpSetIvl ||| fpIvlEdge := by decide +kernel

theorem ivlArm_within (s : State) (m t : Nat) : Within fpIvlArm s (ivlArm s m t) := by
  unfold ivlArm
  refine Within.ite ?_ ?_
  · exact Within.refl _ _
  · refine Within.ite ?_ ?_
    · refine Within.step ?_ (set_within _ _ _ (by decide +kernel)) (by decide +kernel)
      exact Within.refl _ _
    · extract_lets -lift +onlyGivenNames a1
      have h1 : Within fpIvlArm s a1 := by
        unfold a1
        refine Within.step ?_ (set_within _ _ _ (by decide +kernel)) (by decide +kernel)
        refine Within.step ?_ (set_within _ _ _ (by decide +kernel)) (by decide +kernel)
        exact Within.refl _ _
      clear_value a1
      refine Within.forAll _ ?_ fun a2 _ => ?_
      · refine Within.step ?_ (setIvl_within ..) (by decide +kernel)
        exact h1
      · refine Within.when ?_ fun a3 => ?_
        · exact Within.refl _ _
        · refine Within.step ?_ (ivlEdge_within ..) (by decide +kernel)
          exact Within.refl _ _

/-- What `ivlWritten` can change. -/
def fpIvlWritten : Nat :=
  0x1010000000000000f80002000000000000000000000000000000000000000000000000000000000000000000000000000000080000000000000000000000000000000000000000000000000000017f0000000000000000000000000000000000000000000000000000000000000000000000180800000000000000000000000000000000000000000

theorem fpIvlWritten_eq : fpIvlWritten =
    fpIvlArm := by decide +kernel

theorem ivlWritten_within (s : State) (m : Nat) (go : Bool) : Within fpIvlWritten s (ivlWritten s m go) := by
  unfold ivlWritten
  split
  · exact Within.refl _ _
  · refine Within.step ?_ (ivlArm_within ..) (by decide +kernel)
    exact Within.refl _ _
  · refine Within.when ?_ fun a1 => ?_
    · exact Within.refl _ _
    · refine Within.step ?_ (ivlArm_within ..) (by decide +kernel)
      exact Within.refl _ _

/-- What `execIntervalTimeout` can change. -/
def fpExecIntervalTimeout : Nat :=
  0x1010000000000000f80002000000000000000000000000000000000000000000000000000000000000000000000000000000080000000000000000000000000000000000000000000000000000017f0000000000000000000000000000000000000000000000000000000000000000000000180800000000000000000000000000000000000000000

theorem fpExecIntervalTimeout_eq : fpExecIntervalTimeout =
    fpIvlDone := by decide +kernel

theorem execIntervalTimeout_within (m : Fin 8) (s : State) : Completes fpExecIntervalTimeout s (execIntervalTimeout m s) := by
  unfold execIntervalTimeout
  refine Completes.next ?_
  refine Within.ite ?_ ?_
  · refine Within.step ?_ (ivlDone_within ..) (by decide +kernel)
    exact Within.refl _ _
  · exact Within.refl _ _

/-- What `setFrq` can change. -/
def fpSetFrq : Nat := footprint [] [.frqs]

theorem setFrq_within (s : State) (f : Nat) (v : Frq) : Within fpSetFrq s (setFrq s f v) := by
  unfold setFrq
  refine Within.step ?_ (frqs_within _ _) (by decide +kernel)
  exact Within.refl _ _

/-- What `frqEdge` can change. -/
def fpFrqEdge : Nat :=
  0x400000000000000000000000000000000000000000000000000000000000000000000000000000000000000000000000000000000000000000000000000000000000000000000000000000000000800000000000000000000000000000000000000000000000000000000000000000000000000000000000000000000000000000000000000000000000

theorem fpFrqEdge_eq : fpFrqEdge =
    footprint [R.TDC_FSTATUS_TRUNC] [] ||| fpSetFrq := by decide +kernel

theorem frqEdge_within (s : State) (f : Nat) (e : Edge) : Within fpFrqEdge s (frqEdge s f e) := by
  unfold frqEdge
  extract_lets -lift +onlyGivenNames a1
  clear_value a1
  refine Within.ite ?_ ?_
  · exact Within.refl _ _
  · refine Within.ite ?_ ?_
    · refine Within.step ?_ (setFrq_within ..) (by decide +kernel)
      exact Within.refl _ _
    · refine Within.ite ?_ ?_
      · refine Within.step ?_ (setFrq_within ..) (by decide +kernel)
        refine Within.step ?_ (set_within _ _ _ (by decide +kernel)) (by decide +kernel)
        exact Within.refl _ _
      · extract_lets -lift +onlyGivenNames a2
        clear_value a2
        extract_lets -lift +onlyGivenNames a3
        clear_value a3
        extract_lets -lift +onlyGivenNames a4
        clear_value a4
        refine Within.step ?_ (setFrq_within ..) (by decide +kernel)
        exact Within.refl _ _

/-- What `frqOpen` can change. -/
def fpFrqOpen : Nat :=
  0x400000000000000000000000000000000000000000000000000000000000000000000000000000000000000000000000000000000000000000000000000000000000000000000000000000000001900000000000000000000000000000000000000000000000000000000000000000000000000000000000000000000000000000000000000000000000

theorem fpFrqOpen_eq : fpFrqOpen =
    footprint [R.TDC_FSTATUS_BUSY, R.TDC_FSTATUS_TRUNC, R.TDC_FSTATUS_CFG_ERR] [] ||| fpSetFrq ||| fpFrqEdge := by decide +kernel

theorem frqOpen_within (s : State) (f g0 : Nat) : Within fpFrqOpen s (frqOpen s f g0) := by
  unfold frqOpen
  refine Within.ite ?_ ?_
  · exact Within.refl _ _
  · refine Within.ite ?_ ?_
    · refine Within.step ?_ (set_within _ _ _ (by decide +kernel)) (by decide +kernel)
      exact Within.refl _ _
    · extract_lets -lift +onlyGivenNames a1
      have h1 : Within fpFrqOpen s a1 := by
        unfold a1
        refine Within.step ?_ (set_within _ _ _ (by decide +kernel)) (by decide +kernel)
        refine Within.step ?_ (set_within _ _ _ (by decide +kernel)) (by decide +kernel)
        refine Within.step ?_ (set_within _ _ _ (by decide +kernel)) (by decide +kernel)
        exact Within.refl _ _
      clear_value a1
      extract_lets -lift +onlyGivenNames a2
      clear_value a2
      refine Within.forAll _ ?_ fun a3 _ => ?_
      · refine Within.step ?_ (setFrq_within ..) (by decide +kernel)
        exact h1
      · refine Within.step ?_ (frqEdge_within ..) (by decide +kernel)
        exact Within.refl _ _

/-- What `frqWritten` can change. -/
def fpFrqWritten : Nat :=
  0x400000000000000000000000000000000000000000000000000000000000000000000000000000000000000000000000000000000000000000000000000000000000000000000000000000000001900000000000000000000000000000000000000000000000000000000000000000000000000000000000000000000000000000000000000000000000

theorem fpFrqWritten_eq : fpFrqWritten =
    fpFrqOpen := by decide +kernel

theorem frqWritten_within (s : State) (f : Nat) (go : Bool) : Within fpFrqWritten s (frqWritten s f go) := by
  unfold frqWritten
  refine Within.when ?_ fun a1 => ?_
  · exact Within.refl _ _
  · refine Within.step ?_ (frqOpen_within ..) (by decide +kernel)
    exact Within.refl _ _

/-- What `execFreqGateOpen` can change. -/
def fpExecFreqGateOpen : Nat :=
  0x400000000000000000000000000000000000000000000000000000000000000000000000000000000000000000000000000000000000000000000000000000000000000000000000000000000001900000000000000000000000000000000000000000000000000000000000000000000000000000000000000000000000000000000000000000000000

theorem fpExecFreqGateOpen_eq : fpExecFreqGateOpen =
    fpFrqOpen := by decide +kernel

theorem execFreqGateOpen_within (f : Fin 4) (s : State) : Completes fpExecFreqGateOpen s (execFreqGateOpen f s) := by
  unfold execFreqGateOpen
  refine Completes.next ?_
  refine Within.ite ?_ ?_
  · refine Within.step ?_ (frqOpen_within ..) (by decide +kernel)
    exact Within.refl _ _
  · exact Within.refl _ _

/-- What `execFreqGateEnd` can change. -/
def fpExecFreqGateEnd : Nat :=
  0x400000000000000000000000000000000000000000000000000000000000000000000000000000000000000000000000000000000000000000000000000000000000000000000000000000000000000000000000000000000000000000000000000000000000000000000000000000000000000000000000000000000000000000000000000000000000

theorem fpExecFreqGateEnd_eq : fpExecFreqGateEnd =
    fpSetFrq := by decide +kernel

theorem execFreqGateEnd_within (f : Fin 4) (s : State) : Completes fpExecFreqGateEnd s (execFreqGateEnd f s) := by
  unfold execFreqGateEnd
  extract_lets -lift +onlyGivenNames a1
  clear_value a1
  refine Completes.next ?_
  refine Within.ite ?_ ?_
  · refine Within.step ?_ (setFrq_within ..) (by decide +kernel)
    exact Within.refl _ _
  · exact Within.refl _ _

/-- What `execFreqResult` can change. -/
def fpExecFreqResult : Nat :=
  0x4000010000000000000f8000200000000000000000000000000000000000000000000000000000000000000000000000000000008000000000000000000000000000000000000000000000000156700000000000000000000000000000000000000000000000000000000000000000000000000180800000000000000000000000000000000000000000

theorem fpExecFreqResult_eq : fpExecFreqResult =
    footprint [R.TDC_FSTATUS_BUSY, R.TDC_FSTATUS_DONE, R.TDC_FSTATUS_FAULT, R.TDC_FSTATUS_N, R.TDC_FSTART_LO_VALUE,
  R.TDC_FPER_LO_VALUE, R.TDC_FFREQ_LO_VALUE, R.TDC_FRESID_VALUE] [] ||| fpFire ||| fpSetFrq := by decide +kernel

theorem execFreqResult_within (f : Fin 4) (s : State) : Completes fpExecFreqResult s (execFreqResult f s) := by
  unfold execFreqResult
  extract_lets -lift +onlyGivenNames a1
  clear_value a1
  refine Completes.ite ?_ ?_
  · refine Completes.next ?_
    exact Within.refl _ _
  · extract_lets -lift +onlyGivenNames a2
    have h2 : Within fpExecFreqResult s a2 := by
      unfold a2
      refine Within.step ?_ (set_within _ _ _ (by decide +kernel)) (by decide +kernel)
      refine Within.step ?_ (set_within _ _ _ (by decide +kernel)) (by decide +kernel)
      exact Within.refl _ _
    clear_value a2
    refine Completes.next ?_
    refine Within.ite ?_ ?_
    · refine Within.step ?_ (fire_within ..) (by decide +kernel)
      refine Within.step ?_ (setFrq_within ..) (by decide +kernel)
      refine Within.step ?_ (set_within _ _ _ (by decide +kernel)) (by decide +kernel)
      exact h2
    · split
      extract_lets -lift +onlyGivenNames a3
      have h3 : Within fpExecFreqResult s a3 := by
        unfold a3
        refine Within.step ?_ (set_within _ _ _ (by decide +kernel)) (by decide +kernel)
        refine Within.step ?_ (set_within _ _ _ (by decide +kernel)) (by decide +kernel)
        exact h2
      clear_value a3
      extract_lets -lift +onlyGivenNames a4
      have h4 : Within fpExecFreqResult s a4 := by
        unfold a4
        refine Within.step ?_ (set_within _ _ _ (by decide +kernel)) (by decide +kernel)
        refine Within.step ?_ (set_within _ _ _ (by decide +kernel)) (by decide +kernel)
        exact h3
      clear_value a4
      extract_lets -lift +onlyGivenNames a5
      have h5 : Within fpExecFreqResult s a5 := by
        unfold a5
        refine Within.step ?_ (set_within _ _ _ (by decide +kernel)) (by decide +kernel)
        refine Within.step ?_ (set_within _ _ _ (by decide +kernel)) (by decide +kernel)
        exact h4
      clear_value a5
      refine Within.step ?_ (fire_within ..) (by decide +kernel)
      refine Within.step ?_ (setFrq_within ..) (by decide +kernel)
      exact h5

/-- What `tdcFiring` can change. -/
def fpTdcFiring : Nat :=
  0x4001010000000000000f80002000000000000000000000000000000000000000000000000000000000000000000000000000000080000000000000000000000000000000000000000000000000019017f0000000000000000000000000000000000000000000000000000000000000000000000180800000000000000000000000000000000000000000

theorem fpTdcFiring_eq : fpTdcFiring =
    fpIvlArm ||| fpFrqOpen := by decide +kernel

theorem tdcFiring_within (s : State) (ch t : Nat) : Within fpTdcFiring s (tdcFiring s ch t) := by
  unfold tdcFiring
  extract_lets -lift +onlyGivenNames a1
  have h1 : Within fpTdcFiring s a1 := by
    unfold a1
    refine Within.forAll _ ?_ fun a2 _ => ?_
    · exact Within.refl _ _
    · refine Within.step ?_ (ivlArm_within ..) (by decide +kernel)
      exact Within.refl _ _
  clear_value a1
  refine Within.forAll _ ?_ fun a2 _ => ?_
  · exact h1
  · refine Within.step ?_ (frqOpen_within ..) (by decide +kernel)
    exact Within.refl _ _

/-- What `tdcLatch` can change. -/
def fpTdcLatch : Nat :=
  0xa8002800000000000000000000000000000000000000000000000000000000000000000000000000000000000000000000000000000000000000000000

theorem fpTdcLatch_eq : fpTdcLatch =
    footprint [R.TDC_MSTART_HI_STAMP_HI, R.TDC_MINT_HI_INT_HI, R.TDC_FSTART_HI_VALUE, R.TDC_FPER_HI_VALUE,
  R.TDC_FFREQ_HI_VALUE] [] := by decide +kernel

theorem tdcLatch_within (s : State) (f : Fld) (i : Nat) : Within fpTdcLatch s (tdcLatch s f i) := by
  unfold tdcLatch
  refine Within.ite ?_ ?_
  · refine Within.step ?_ (set_within _ _ _ (by decide +kernel)) (by decide +kernel)
    exact Within.refl _ _
  · refine Within.ite ?_ ?_
    · refine Within.step ?_ (set_within _ _ _ (by decide +kernel)) (by decide +kernel)
      exact Within.refl _ _
    · refine Within.ite ?_ ?_
      · refine Within.step ?_ (set_within _ _ _ (by decide +kernel)) (by decide +kernel)
        exact Within.refl _ _
      · refine Within.ite ?_ ?_
        · refine Within.step ?_ (set_within _ _ _ (by decide +kernel)) (by decide +kernel)
          exact Within.refl _ _
        · refine Within.ite ?_ ?_
          · refine Within.step ?_ (set_within _ _ _ (by decide +kernel)) (by decide +kernel)
            exact Within.refl _ _
          · exact Within.refl _ _

/-- What `tinPush` can change. -/
def fpTinPush : Nat :=
  0x90000000000000f8000200000000000000000000000000000000000000000000000000000000000000000000000000000008000000000000000000000000000000000000000000000000000000000028000000000000000000000000000000000000000000000000000000000000000000180800000000000000000000000000000000000000000

theorem fpTinPush_eq : fpTinPush =
    footprint [R.TIN_STATUS_FILL, R.TIN_STATUS_OVERFLOW] [.tinFifo] ||| fpTinNotice := by decide +kernel

theorem tinPush_within (s : State) (i : Nat) (w : Nat × Nat) : Within fpTinPush s (tinPush s i w) := by
  unfold tinPush
  extract_lets -lift +onlyGivenNames a1
  clear_value a1
  refine Within.ite ?_ ?_
  · refine Within.step ?_ (set_within _ _ _ (by decide +kernel)) (by decide +kernel)
    refine Within.step ?_ (tinFifo_within _ _) (by decide +kernel)
    exact Within.refl _ _
  · refine Within.trans ?_ (tinNotice_within (by decide +kernel) (by decide +kernel) (by decide +kernel) ..)
    exact Within.refl _ _

/-- What `tinArrive` can change. -/
def fpTinArrive : Nat :=
  0x4001190000002000000f81002000000000000000000000000000000000000000000000000000000000000000000000000000000080000000000000000000000000000000000000000000000000008017f00f80000000000000000000000000000000000000000000000000000000000000000001808000000000000000000000000000000000007f0000

theorem fpTinArrive_eq : fpTinArrive =
    footprint [R.TIN_STATUS_MISS, R.TIN_EDGE_CNT_COUNT, R.TIN_MISS_CNT_COUNT] [.tinSeen, .tinLast] ||| fpFire |||
  fpNoteTaint ||| fpTinNotice ||| fpIvlEdge ||| fpFrqEdge ||| fpTinPush := by decide +kernel

theorem tinArrive_within (s : State) (i b : Nat) (rising : Bool) : Within fpTinArrive s (tinArrive s i b rising) := by
  unfold tinArrive
  extract_lets -lift +onlyGivenNames a1
  clear_value a1
  extract_lets -lift +onlyGivenNames a2
  clear_value a2
  extract_lets -lift +onlyGivenNames a3
  clear_value a3
  extract_lets -lift +onlyGivenNames a4
  clear_value a4
  extract_lets -lift +onlyGivenNames a5
  clear_value a5
  refine Within.ite ?_ ?_
  · refine Within.trans ?_ (tinNotice_within (by decide +kernel) (by decide +kernel) (by decide +kernel) ..)
    refine Within.step ?_ (inc_within _ _ _ (by decide +kernel)) (by decide +kernel)
    exact Within.refl _ _
  · extract_lets -lift +onlyGivenNames a6
    clear_value a6
    extract_lets -lift +onlyGivenNames a7
    clear_value a7
    extract_lets -lift +onlyGivenNames a8
    have h8 : Within fpTinArrive s a8 := by
      unfold a8
      refine Within.step ?_ (upd_tinSeen_tinLast_within _ _ _) (by decide +kernel)
      exact Within.refl _ _
    clear_value a8
    extract_lets -lift +onlyGivenNames a9
    have h9 : Within fpTinArrive s a9 := by
      unfold a9
      refine Within.step ?_ (noteTaint_within ..) (by decide +kernel)
      refine Within.step ?_ (inc_within _ _ _ (by decide +kernel)) (by decide +kernel)
      exact h8
    clear_value a9
    extract_lets -lift +onlyGivenNames a10
    have h10 : Within fpTinArrive s a10 := by
      unfold a10
      refine Within.step ?_ (tinPush_within ..) (by decide +kernel)
      exact h9
    clear_value a10
    extract_lets -lift +onlyGivenNames a11
    have h11 : Within fpTinArrive s a11 := by
      unfold a11
      refine Within.trans ?_ (atTick_within fun a12 => ?_)
      · exact h10
      · refine Within.step ?_ (fire_within ..) (by decide +kernel)
        exact Within.refl _ _
    clear_value a11
    extract_lets -lift +onlyGivenNames a12
    have h12 : Within fpTinArrive s a12 := by
      unfold a12
      refine Within.forAll _ ?_ fun a13 _ => ?_
      · exact h11
      · refine Within.step ?_ (ivlEdge_within ..) (by decide +kernel)
        exact Within.refl _ _
    clear_value a12
    refine Within.forAll _ ?_ fun a13 _ => ?_
    · exact h12
    · refine Within.step ?_ (frqEdge_within ..) (by decide +kernel)
      exact Within.refl _ _

/-- What `execTinEdge` can change. -/
def fpExecTinEdge : Nat :=
  0x4001190000002000000f81002000000000000000000000000000000000000000000000000000000000000000000000000000000080000000000000000000000000000000000000000000000000008017f00fc0000000000000000000000000000000000000000000000000000000000000000001808000000000000000000000000000000000007f0000

theorem fpExecTinEdge_eq : fpExecTinEdge =
    footprint [R.TIN_STATUS_LEVEL] [] ||| fpTinArrive := by decide +kernel

theorem execTinEdge_within (i : Fin 32) (b : Fin 512) (rising : Bool) (s : State) : Completes fpExecTinEdge s (execTinEdge i b rising s) := by
  unfold execTinEdge
  refine Completes.next ?_
  refine Within.ite ?_ ?_
  · exact Within.refl _ _
  · extract_lets -lift +onlyGivenNames a1
    have h1 : Within fpExecTinEdge s a1 := by
      unfold a1
      refine Within.step ?_ (set_within _ _ _ (by decide +kernel)) (by decide +kernel)
      exact Within.refl _ _
    clear_value a1
    refine Within.ite ?_ ?_
    · refine Within.step ?_ (tinArrive_within ..) (by decide +kernel)
      exact h1
    · exact h1

/-- What `tinPop` can change. -/
def fpTinPop : Nat := footprint [R.TIN_STATUS_FILL, R.TIN_STAMP_WORD] [.tinFifo, .fresh]

theorem tinPop_within (s : State) (i : Nat) : Within fpTinPop s (tinPop s i) := by
  unfold tinPop
  split
  · split
    split
    refine Within.step ?_ (set_within _ _ _ (by decide +kernel)) (by decide +kernel)
    refine Within.step ?_ (set_within _ _ _ (by decide +kernel)) (by decide +kernel)
    refine Within.ofSnd ?_ (by assumption)
    refine Within.step ?_ (free_within ..) (by decide +kernel)
    refine Within.ofSnd ?_ (by assumption)
    refine Within.step ?_ (free_within ..) (by decide +kernel)
    exact Within.refl _ _
  · extract_lets -lift +onlyGivenNames a1
    have h1 : Within fpTinPop s a1 := by
      unfold a1
      refine Within.step ?_ (set_within _ _ _ (by decide +kernel)) (by decide +kernel)
      refine Within.step ?_ (tinFifo_within _ _) (by decide +kernel)
      exact Within.refl _ _
    clear_value a1
    refine Within.step ?_ (set_within _ _ _ (by decide +kernel)) (by decide +kernel)
    refine Within.step ?_ (set_within _ _ _ (by decide +kernel)) (by decide +kernel)
    exact h1

/-- What `tdcCalWritten` can change. -/
def fpTdcCalWritten : Nat := footprint [R.TDC_CAL_CTRL_SEL, R.TDC_CAL_STATUS_BUSY] [.tdcCal]

theorem tdcCalWritten_within (before s : State) (go : Bool) : Within fpTdcCalWritten s (tdcCalWritten before s go) := by
  unfold tdcCalWritten
  extract_lets -lift +onlyGivenNames a1
  have h1 : Within fpTdcCalWritten s a1 := by
    unfold a1
    refine Within.ite ?_ ?_
    · refine Within.step ?_ (set_within _ _ _ (by decide +kernel)) (by decide +kernel)
      exact Within.refl _ _
    · exact Within.refl _ _
  clear_value a1
  refine Within.ite ?_ ?_
  · extract_lets -lift +onlyGivenNames a2
    clear_value a2
    extract_lets -lift +onlyGivenNames a3
    have h3 : Within fpTdcCalWritten s a3 := by
      unfold a3
      refine Within.step ?_ (set_within _ _ _ (by decide +kernel)) (by decide +kernel)
      exact h1
    clear_value a3
    refine Within.step ?_ (tdcCal_within _ _) (by decide +kernel)
    exact h3
  · exact h1

/-- What `tdcCalNext` can change. -/
def fpTdcCalNext : Nat :=
  0x810000000000000f8000200000000000000000000000000000000000000000000000000000000000000000000000000000008000000000000000000000000000000000000000000000001800000000000000000000000000000000000000000000000000000000000000000000000000000180800000000000000000000000000000000000000000

theorem fpTdcCalNext_eq : fpTdcCalNext =
    footprint [R.TDC_CAL_STATUS_BUSY, R.TDC_CAL_STATUS_DONE] [.tdcCal] ||| fpFire := by decide +kernel

theorem tdcCalNext_within (s : State) (i : Nat) : Within fpTdcCalNext s (tdcCalNext s i) := by
  unfold tdcCalNext
  refine Within.ite ?_ ?_
  · refine Within.step ?_ (tdcCal_within _ _) (by decide +kernel)
    exact Within.refl _ _
  · refine Within.step ?_ (fire_within ..) (by decide +kernel)
    extract_lets -lift +onlyGivenNames a1
    have h1 : Within fpTdcCalNext s a1 := by
      unfold a1
      refine Within.step ?_ (set_within _ _ _ (by decide +kernel)) (by decide +kernel)
      refine Within.step ?_ (set_within _ _ _ (by decide +kernel)) (by decide +kernel)
      exact Within.refl _ _
    clear_value a1
    refine Within.step ?_ (tdcCal_within _ _) (by decide +kernel)
    exact h1

/-- What `tdcStore` can change. -/
def fpTdcStore : Nat := footprint [] [.tdcPos]

theorem tdcStore_within (s : State) (i : Nat) (l : List Nat) : Within fpTdcStore s (tdcStore s i l) := by
  unfold tdcStore
  refine Within.step ?_ (tdcPos_within _ _) (by decide +kernel)
  exact Within.refl _ _

/-- What `execTdcCalDone` can change. -/
def fpExecTdcCalDone : Nat :=
  0xe10000000000000f8000200000000000000000000000000000000000000000000000000000000000000000000000000000008000000000000000000000000000000000000000000000007800000000000000000000000000000000000000000000000000000000000000000000000000000180800000000000000000000000000000000000000000

theorem fpExecTdcCalDone_eq : fpExecTdcCalDone =
    footprint [R.TDC_CAL_STATUS_FAIL, R.TDC_CAL_STATUS_FAIL_SEL] [.tdcHits] ||| fpFire ||| fpTdcCalNext ||| fpTdcStore := by decide +kernel

theorem execTdcCalDone_within (hits : List Nat) (s : State) : Completes fpExecTdcCalDone s (execTdcCalDone hits s) := by
  unfold execTdcCalDone
  extract_lets -lift +onlyGivenNames a1
  clear_value a1
  extract_lets -lift +onlyGivenNames a2
  clear_value a2
  refine Completes.next ?_
  refine Within.ite ?_ ?_
  · exact Within.refl _ _
  · extract_lets -lift +onlyGivenNames a3
    have h3 : Within fpExecTdcCalDone s a3 := by
      unfold a3
      refine Within.step ?_ (tdcHits_within _ _) (by decide +kernel)
      exact Within.refl _ _
    clear_value a3
    extract_lets -lift +onlyGivenNames a4
    have h4 : Within fpExecTdcCalDone s a4 := by
      unfold a4
      refine Within.ite ?_ ?_
      · refine Within.step ?_ (tdcStore_within ..) (by decide +kernel)
        exact h3
      · refine Within.ite ?_ ?_
        · exact h3
        · refine Within.step ?_ (fire_within ..) (by decide +kernel)
          refine Within.step ?_ (set_within _ _ _ (by decide +kernel)) (by decide +kernel)
          refine Within.step ?_ (set_within _ _ _ (by decide +kernel)) (by decide +kernel)
          exact h3
    clear_value a4
    refine Within.step ?_ (tdcCalNext_within ..) (by decide +kernel)
    exact h4

/-- What `tdcBinShow` can change. -/
def fpTdcBinShow : Nat := footprint [R.TDC_BIN_DATA_POS, R.TDC_BIN_DATA_HITS] []

theorem tdcBinShow_within (s : State) : Within fpTdcBinShow s (tdcBinShow s) := by
  unfold tdcBinShow
  extract_lets -lift +onlyGivenNames a1
  clear_value a1
  extract_lets -lift +onlyGivenNames a2
  clear_value a2
  refine Within.step ?_ (set_within _ _ _ (by decide +kernel)) (by decide +kernel)
  refine Within.step ?_ (set_within _ _ _ (by decide +kernel)) (by decide +kernel)
  exact Within.refl _ _

/-- What `tdcBinNext` can change. -/
def fpTdcBinNext : Nat := footprint [R.TDC_BIN_INDEX_BIN] []

theorem tdcBinNext_within (s : State) : Within fpTdcBinNext s (tdcBinNext s) := by
  unfold tdcBinNext
  refine Within.when ?_ fun a1 => ?_
  · exact Within.refl _ _
  · refine Within.step ?_ (set_within _ _ _ (by decide +kernel)) (by decide +kernel)
    exact Within.refl _ _

end Sys2Proof.Machine
end

