-- ==== Sys2Proof/Laws/Operands.lean ====
section
/-! SUPPORT. What each operation of Sys2Proof/Machine/Operands.lean can change. -/

set_option Elab.async false

namespace Sys2Proof.Machine

/-- What `setG` can change. -/
def fpSetG : Nat := footprint [R.CHS_G_VALUE] []

theorem setG_within (s : State) (n k v : Nat) : Within fpSetG s (setG s n k v) := by
  unfold setG
  refine Within.step ?_ (set_within _ _ _ (by decide +kernel)) (by decide +kernel)
  exact Within.refl _ _

/-- What `setK` can change. -/
def fpSetK : Nat := footprint [R.CHS_K_VALUE] []

theorem setK_within (s : State) (n k v : Nat) : Within fpSetK s (setK s n k v) := by
  unfold setK
  refine Within.step ?_ (set_within _ _ _ (by decide +kernel)) (by decide +kernel)
  exact Within.refl _ _

end Sys2Proof.Machine
end

