-- ==== Sys2Proof/Laws/Chisel.lean ====
section
/-! SUPPORT. What each operation of Sys2Proof/Machine/Chisel.lean can change. -/

set_option Elab.async false

namespace Sys2Proof.Machine

/-- What `setChs` can change. -/
def fpSetChs : Nat := footprint [] [.chisels]

theorem setChs_within (s : State) (n : Nat) (c : Chs) : Within fpSetChs s (setChs s n c) := by
  unfold setChs
  refine Within.step ?_ (chisels_within _ _) (by decide +kernel)
  exact Within.refl _ _

/-- What `setChsState` can change. -/
def fpSetChsState : Nat := footprint [R.CHS_STATUS_STATE] []

theorem setChsState_within (s : State) (n st : Nat) : Within fpSetChsState s (setChsState s n st) := by
  unfold setChsState
  refine Within.step ?_ (set_within _ _ _ (by decide +kernel)) (by decide +kernel)
  exact Within.refl _ _

/-- What `advance` can change. -/
def fpAdvance : Nat :=
  0x40000000000200000000000000000000000000000000000000000000000000000000000000000000000000000000000000000000000000000000000000000000000000800000000000000000000000000000000000000000000000000000000000000000000000000000000000000000000000000000000000000000000000000000000

theorem fpAdvance_eq : fpAdvance =
    footprint [R.CHS_STATUS_PC] [.fresh] ||| fpSetChs := by decide +kernel

theorem advance_within (s : State) (n op : Nat) : Within fpAdvance s (advance s n op) := by
  unfold advance
  extract_lets -lift +onlyGivenNames a1
  clear_value a1
  split
  refine Within.step ?_ (setChs_within ..) (by decide +kernel)
  refine Within.step ?_ (set_within _ _ _ (by decide +kernel)) (by decide +kernel)
  refine Within.ofSnd ?_ (by assumption)
  split
  · dsimp only
    exact Within.refl _ _
  · refine Within.step ?_ (free_within ..) (by decide +kernel)
    exact Within.refl _ _

/-- What `issue` can change beside what its instruction does. -/
def fpIssue : Nat :=
  0x10000000400000f8300200000000000000000000000000000000000000000000000000000000000000000000000000000008000004000000000000000000000000000000000000c0000000000000000000000000000000000000000000000000000000000000000000000000000000000018080000000000000000000000000000007f0707f0000

theorem fpIssue_eq : fpIssue =
    fpAdvance ||| fpChiselViolation := by decide +kernel

theorem issue_within {K : Nat} {s : State} {n dt op a b : Nat} {codes : List Nat} {act : State → State} (hk : fpIssue &&& K = fpIssue)
    (ha : ∀ t, Within K t (act t)) : Within K s (issue s n dt op a b codes act) := by
  have h1 : ∀ t n op, Within K t (advance t n op) := fun t n op => ((advance_within t n op).mono (by decide +kernel)).mono hk
  have h2 : ∀ t n l pc, Within K t (chiselViolation t n l pc) := fun t n l pc => ((chiselViolation_within t n l pc).mono (by decide +kernel)).mono hk
  unfold issue
  refine Within.ite ?_ (Within.refl _ _)
  extract_lets a1 a2 a3 a4 a5
  exact Within.ite ((h1 _ _ _).trans (ha _)) ((h1 _ _ _).trans (h2 _ _ _ _))

/-- What `chsReserved` can change. -/
def fpChsReserved : Nat :=
  0x10000000400000f8300200000000000000000000000000000000000000000000000000000000000000000000000000000008000004000000000000000000000000000000000000c0000000000000000000000000000000000000000000000000000000000000000000000000000000000018080000000000000000000000000000007f0707f0000

theorem fpChsReserved_eq : fpChsReserved =
    fpChiselViolation ||| fpAdvance := by decide +kernel

theorem chsReserved_within (s : State) (n : Nat) : Within fpChsReserved s (chsReserved s n) := by
  unfold chsReserved
  extract_lets -lift +onlyGivenNames a1
  clear_value a1
  extract_lets -lift +onlyGivenNames a2
  clear_value a2
  extract_lets -lift +onlyGivenNames a3
  clear_value a3
  refine Within.ite ?_ ?_
  · exact Within.refl _ _
  · refine Within.ite ?_ ?_
    · refine Within.step ?_ (chiselViolation_within ..) (by decide +kernel)
      refine Within.step ?_ (advance_within ..) (by decide +kernel)
      exact Within.refl _ _
    · exact Within.refl _ _

/-- What `chsReservedTick` can change. -/
def fpChsReservedTick : Nat :=
  0x10000000400000f8300200000000000000000000000000000000000000000000000000000000000000000000000000000008000004000000000000000000000000000000000000c0000000000000000000000000000000000000000000000000000000000000000000000000000000000018080000000000000000000000000000007f0707f0000

theorem fpChsReservedTick_eq : fpChsReservedTick =
    fpChsReserved := by decide +kernel

theorem chsReservedTick_within (s : State) : Within fpChsReservedTick s (chsReservedTick s) := by
  unfold chsReservedTick
  refine Within.forAll _ ?_ fun a1 _ => ?_
  · exact Within.refl _ _
  · refine Within.step ?_ (chsReserved_within ..) (by decide +kernel)
    exact Within.refl _ _

/-- What `execEnd` can change. -/
def fpExecEnd : Nat :=
  0x10000000400000f8300200000000000000000000000000000000000000000000000000000000000000000000000000000008000004000000000000000000000000000000000000c4000000000000000000000000000000000000000000000000000000000000000000000000000000000018080000000000000000000000000000007f0707f0000

theorem fpExecEnd_eq : fpExecEnd =
    fpChiselViolation ||| fpSetChsState ||| fpAdvance := by decide +kernel

theorem execEnd_within (n : Fin 128) (dt : BitVec 12) (a : BitVec 19) (b : Word36) (s : State) : Completes fpExecEnd s (execEnd n dt a b s) := by
  unfold execEnd
  refine Completes.next ?_
  refine Within.ite ?_ ?_
  · extract_lets -lift +onlyGivenNames a1
    clear_value a1
    refine Within.ite ?_ ?_
    · refine Within.step ?_ (setChsState_within ..) (by decide +kernel)
      refine Within.step ?_ (advance_within ..) (by decide +kernel)
      exact Within.refl _ _
    · refine Within.step ?_ (chiselViolation_within ..) (by decide +kernel)
      refine Within.step ?_ (advance_within ..) (by decide +kernel)
      exact Within.refl _ _
  · exact Within.refl _ _

/-- What `execNop` can change. -/
def fpExecNop : Nat :=
  0x10000000400000f8300200000000000000000000000000000000000000000000000000000000000000000000000000000008000004000000000000000000000000000000000000c0000000000000000000000000000000000000000000000000000000000000000000000000000000000018080000000000000000000000000000007f0707f0000

theorem fpExecNop_eq : fpExecNop =
    fpIssue := by decide +kernel

theorem execNop_within (n : Fin 128) (dt : BitVec 12) (a : BitVec 19) (b : Word36) (s : State) : Completes fpExecNop s (execNop n dt a b s) := by
  unfold execNop
  refine Completes.next ?_
  refine Within.trans ?_ (issue_within (by decide +kernel) fun a1 => ?_)
  · exact Within.refl _ _
  · simp only [id]
    exact Within.refl _ _

/-- What `startWait` can change. -/
def fpStartWait : Nat :=
  0x40000000000000000000000000000000000000000000000000000000000000000000000000000000000000000000000000000000000000000000000000000000000000040000000000000000000000000000000000000000000000000000000000000000000000000000000000000000000000000000000000000000000000000000000

theorem fpStartWait_eq : fpStartWait =
    fpSetChs ||| fpSetChsState := by decide +kernel

theorem startWait_within (s : State) (n : Nat) (w : ChsWait) : Within fpStartWait s (startWait s n w) := by
  unfold startWait
  refine Within.step ?_ (setChsState_within ..) (by decide +kernel)
  refine Within.step ?_ (setChs_within ..) (by decide +kernel)
  exact Within.refl _ _

/-- What `endWait` can change. -/
def fpEndWait : Nat :=
  0x40000000000000000000000000000000000000000000000000000000000000000000000000000000000000000000000000000000000000000000000000000000000000040000000000000000000000000000000000000000000000000000000000000000000000000000000000000000000000000000000000000000000000000000000

theorem fpEndWait_eq : fpEndWait =
    fpSetChs ||| fpSetChsState := by decide +kernel

theorem endWait_within (s : State) (n : Nat) : Within fpEndWait s (endWait s n) := by
  unfold endWait
  refine Within.step ?_ (setChsState_within ..) (by decide +kernel)
  refine Within.step ?_ (setChs_within ..) (by decide +kernel)
  exact Within.refl _ _

/-- What `execWait` can change. -/
def fpExecWait : Nat :=
  0x10000000400000f8300200000000000000000000000000000000000000000000000000000000000000000000000000000008000004000000000000000000000000000000000000c4000000000000000000000000000000000000000000000000000000000000000000000000000000000018080000000000000000000000000000007f0707f0000

theorem fpExecWait_eq : fpExecWait =
    fpIssue ||| fpStartWait := by decide +kernel

theorem execWait_within (n : Fin 128) (dt : BitVec 12) (a : BitVec 19) (b : Word36) (s : State) : Completes fpExecWait s (execWait n dt a b s) :=
    by
  unfold execWait
  refine Completes.next ?_
  refine Within.trans ?_ (issue_within (by decide +kernel) fun a1 => ?_)
  · exact Within.refl _ _
  · refine Within.step ?_ (startWait_within ..) (by decide +kernel)
    exact Within.refl _ _

/-- What `execWaita` can change. -/
def fpExecWaita : Nat :=
  0x10000000400000f8300200000000000000000000000000000000000000000000000000000000000000000000000000000008000004000000000000000000000000000000000000c4000000000000000000000000000000000000000000000000000000000000000000000000000000000018080000000000000000000000000000007f0707f0000

theorem fpExecWaita_eq : fpExecWaita =
    fpIssue ||| fpStartWait := by decide +kernel

theorem execWaita_within (n : Fin 128) (dt : BitVec 12) (a : BitVec 19) (b : Word36) (s : State) : Completes fpExecWaita s (execWaita n dt a b s)
    := by
  unfold execWaita
  refine Completes.next ?_
  refine Within.trans ?_ (issue_within (by decide +kernel) fun a1 => ?_)
  · exact Within.refl _ _
  · refine Within.step ?_ (startWait_within ..) (by decide +kernel)
    exact Within.refl _ _

/-- What `execWaitEnd` can change. -/
def fpExecWaitEnd : Nat :=
  0x40000000000000000000000000000000000000000000000000000000000000000000000000000000000000000000000000000000000000000000000000000000000000040000000000000000000000000000000000000000000000000000000000000000000000000000000000000000000000000000000000000000000000000000000

theorem fpExecWaitEnd_eq : fpExecWaitEnd =
    fpEndWait := by decide +kernel

theorem execWaitEnd_within (n : Fin 128) (s : State) : Completes fpExecWaitEnd s (execWaitEnd n s) := by
  unfold execWaitEnd
  refine Completes.next ?_
  split
  · refine Within.ite ?_ ?_
    · refine Within.step ?_ (endWait_within ..) (by decide +kernel)
      exact Within.refl _ _
    · exact Within.refl _ _
  · exact Within.refl _ _

/-- What `execWaitt` can change. -/
def fpExecWaitt : Nat :=
  0x10000000400000f8300200000000000000000000000000000000000000000000000000000000000000000000000000000008000004000000000000000000000000000000000000c4000000000000000000000000000000000000000000000000000000000000000000000000000000000018080000000000000000000000000000007f0707f0000

theorem fpExecWaitt_eq : fpExecWaitt =
    fpIssue ||| fpStartWait := by decide +kernel

theorem execWaitt_within (n : Fin 128) (dt : BitVec 12) (a : BitVec 19) (b : Word36) (s : State) : Completes fpExecWaitt s (execWaitt n dt a b s)
    := by
  unfold execWaitt
  refine Completes.next ?_
  refine Within.trans ?_ (issue_within (by decide +kernel) fun a1 => ?_)
  · exact Within.refl _ _
  · refine Within.step ?_ (startWait_within ..) (by decide +kernel)
    exact Within.refl _ _

/-- What `chsTimeout` can change beside its field. -/
def fpChsTimeout : Nat :=
  0x10000000000000f8000200000000000000000000000000000000000000000000000000000000000000000000000000000008000000000000000000000000000000000000000008000000000000000000000000000000000000000000000000000000000000000000000000000000000000180800000000000000000000000000000000000000000

theorem fpChsTimeout_eq : fpChsTimeout =
    footprint [R.CHS_TIMEOUT_CNT_COUNT] [] ||| fpFire := by decide +kernel

theorem chsTimeout_within {K : Nat} {s : State} {n : Nat} {f : Fld} (hf : Fits f) (hb : 2 ^ f.id &&& K = 2 ^ f.id)
    (hk : fpChsTimeout &&& K = fpChsTimeout) : Within K s (chsTimeout s n f) := by
  unfold chsTimeout
  have hi := mask_trans (L := 2 ^ R.CHS_TIMEOUT_CNT_COUNT.id) (by decide +kernel) hk
  have hl := mask_trans (L := fpFire) (by decide +kernel) hk
  exact ((((Within.refl K s).step (set_within _ _ _ hf) hb).step (inc_within _ _ _ (by decide +kernel)) hi).step (fire_within ..) hl)

/-- What `execWaittEnd` can change. -/
def fpExecWaittEnd : Nat :=
  0x10000000400000f8000200000000000000000000000000000000000000000000000000000000000000000000000000000008000000000000000000000000000000000000000208140000000000000000000000000000000000000000000000000000000000000000000000000000000000180800000000000000000000000000000000000000000

theorem fpExecWaittEnd_eq : fpExecWaittEnd =
    footprint [R.CHS_STATUS_WAITT_TIMEOUT] [] ||| fpSetG ||| fpEndWait ||| fpChsTimeout := by decide +kernel

theorem execWaittEnd_within (n : Fin 128) (s : State) : Completes fpExecWaittEnd s (execWaittEnd n s) := by
  unfold execWaittEnd
  refine Completes.next ?_
  split
  · refine Within.ite ?_ ?_
    · exact Within.refl _ _
    · refine Within.ite ?_ ?_
      · refine Within.step ?_ (endWait_within ..) (by decide +kernel)
        refine Within.step ?_ (setG_within ..) (by decide +kernel)
        exact Within.refl _ _
      · refine Within.ite ?_ ?_
        · refine Within.step ?_ (endWait_within ..) (by decide +kernel)
          refine Within.trans ?_ (chsTimeout_within (by decide +kernel) (by decide +kernel) (by decide +kernel) ..)
          refine Within.step ?_ (setG_within ..) (by decide +kernel)
          exact Within.refl _ _
        · exact Within.refl _ _
  · exact Within.refl _ _

/-- What `execLbar` can change. -/
def fpExecLbar : Nat :=
  0x10000000c00000f8300200000000000000000000000000000000000000000000000000000000000000000000000000000008000004000000000000000000000000000000000000c4000000000000000000000000000000000000000000000000000000000000000000000000000000000018080000000000000000000000000000007f0707f0000

theorem fpExecLbar_eq : fpExecLbar =
    footprint [] [.barArr] ||| fpIssue ||| fpStartWait := by decide +kernel

theorem execLbar_within (n : Fin 128) (dt : BitVec 12) (a : BitVec 19) (b : Word36) (s : State) : Completes fpExecLbar s (execLbar n dt a b s) :=
    by
  unfold execLbar
  refine Completes.next ?_
  refine Within.trans ?_ (issue_within (by decide +kernel) fun a1 => ?_)
  · exact Within.refl _ _
  · extract_lets -lift +onlyGivenNames a2
    clear_value a2
    extract_lets -lift +onlyGivenNames a3
    clear_value a3
    extract_lets -lift +onlyGivenNames a4
    clear_value a4
    refine Within.ite ?_ ?_
    · refine Within.step ?_ (startWait_within ..) (by decide +kernel)
      exact Within.refl _ _
    · extract_lets -lift +onlyGivenNames a5
      have h5 : Within fpExecLbar a1 a5 := by
        unfold a5
        refine Within.ite ?_ ?_
        · refine Within.step ?_ (barArr_within _ _) (by decide +kernel)
          exact Within.refl _ _
        · exact Within.refl _ _
      clear_value a5
      refine Within.step ?_ (startWait_within ..) (by decide +kernel)
      exact h5

/-- What `execBarrierArrival` can change. -/
def fpExecBarrierArrival : Nat := footprint [R.GLB_BAR_LOCAL] [.barArr, .barSeen]

theorem execBarrierArrival_within (n : Fin 128) (s : State) : Completes fpExecBarrierArrival s (execBarrierArrival n s) := by
  unfold execBarrierArrival
  extract_lets -lift +onlyGivenNames a1
  clear_value a1
  extract_lets -lift +onlyGivenNames a2
  have h2 : Within fpExecBarrierArrival s a2 := by
    unfold a2
    refine Within.step ?_ (barArr_within _ _) (by decide +kernel)
    exact Within.refl _ _
  clear_value a2
  refine Completes.next ?_
  refine Within.forAll _ ?_ fun a3 _ => ?_
  · exact h2
  · extract_lets -lift +onlyGivenNames a4
    clear_value a4
    extract_lets -lift +onlyGivenNames a5
    have h5 : Within fpExecBarrierArrival a3 a5 := by
      unfold a5
      refine Within.ite ?_ ?_
      · exact Within.refl _ _
      · refine Within.step ?_ (barSeen_within _ _) (by decide +kernel)
        exact Within.refl _ _
    clear_value a5
    refine Within.ite ?_ ?_
    · refine Within.step ?_ (set_within _ _ _ (by decide +kernel)) (by decide +kernel)
      exact h5
    · exact h5

/-- What `execBarrierComplete` can change. -/
def fpExecBarrierComplete : Nat :=
  0x40000000000000000000000000000000000000000000000000000000000000000000000000000000000000000000000000000000000000000000000000000000000000000000000000000000000000000000000000000000000000000000000000000000000000000000000000000000000000000000000000000000040000000000000

theorem fpExecBarrierComplete_eq : fpExecBarrierComplete =
    footprint [R.GLB_BAR_COMPLETE] [] ||| fpSetChs := by decide +kernel

theorem execBarrierComplete_within (b : Fin 16) (s : State) : Completes fpExecBarrierComplete s (execBarrierComplete b s) := by
  unfold execBarrierComplete
  refine Completes.next ?_
  refine Within.ite ?_ ?_
  · refine Within.forAll _ ?_ fun a1 _ => ?_
    · refine Within.step ?_ (set_within _ _ _ (by decide +kernel)) (by decide +kernel)
      exact Within.refl _ _
    · split
      · refine Within.ite ?_ ?_
        · refine Within.step ?_ (setChs_within ..) (by decide +kernel)
          exact Within.refl _ _
        · exact Within.refl _ _
      · exact Within.refl _ _
  · exact Within.refl _ _

/-- What `execBarrierTimeout` can change. -/
def fpExecBarrierTimeout : Nat :=
  0x10000000400000f80002000000000000000000000000000000000000000000000000000000000000000000000000000000080000000000000000000000000000000000000000080c0000000000000000000000000000000000000000000000000000000000000000000000000000000000180800000000000000000000000000000000000000000

theorem fpExecBarrierTimeout_eq : fpExecBarrierTimeout =
    footprint [R.CHS_STATUS_BAR_TIMEOUT] [] ||| fpEndWait ||| fpChsTimeout := by decide +kernel

theorem execBarrierTimeout_within (n : Fin 128) (s : State) : Completes fpExecBarrierTimeout s (execBarrierTimeout n s) := by
  unfold execBarrierTimeout
  refine Completes.next ?_
  split
  · refine Within.ite ?_ ?_
    · refine Within.step ?_ (endWait_within ..) (by decide +kernel)
      refine Within.trans ?_ (chsTimeout_within (by decide +kernel) (by decide +kernel) (by decide +kernel) ..)
      exact Within.refl _ _
    · exact Within.refl _ _
  · exact Within.refl _ _

/-- What `barShotStart` can change. -/
def fpBarShotStart : Nat :=
  0x1800000000000000000000000000000000000000000000000000000000000000000000000000000000000000000000000000000000000000000000000000000000000000000000000000000000000000000000000000000000000000000000000000000000000000000000000000000000000000000000000000000001c0000000000000

theorem fpBarShotStart_eq : fpBarShotStart =
    footprint [R.GLB_BAR_COMPLETE, R.GLB_BAR_LOCAL, R.GLB_BAR_TOKENS] [.barArr, .barSeen] := by decide +kernel

theorem barShotStart_within (s : State) : Within fpBarShotStart s (barShotStart s) := by
  unfold barShotStart
  refine Within.forAll _ ?_ fun a1 _ => ?_
  · refine Within.step ?_ (upd_barArr_barSeen_within _ _ _) (by decide +kernel)
    exact Within.refl _ _
  · refine Within.step ?_ (set_within _ _ _ (by decide +kernel)) (by decide +kernel)
    refine Within.step ?_ (set_within _ _ _ (by decide +kernel)) (by decide +kernel)
    refine Within.step ?_ (set_within _ _ _ (by decide +kernel)) (by decide +kernel)
    exact Within.refl _ _

/-- What `jumpTo` can change. -/
def fpJumpTo : Nat :=
  0x40000000000000000000000000000000000000000000000000000000000000000000000000000000000000000000000000000000000000000000000000000000000000000000000000000000000000000000000000000000000000000000000000000000000000000000000000000000000000000000000000000000000000000000000

theorem fpJumpTo_eq : fpJumpTo =
    fpSetChs := by decide +kernel

theorem jumpTo_within (s : State) (n target : Nat) : Within fpJumpTo s (jumpTo s n target) := by
  unfold jumpTo
  refine Within.step ?_ (setChs_within ..) (by decide +kernel)
  exact Within.refl _ _

/-- What `execJmp` can change. -/
def fpExecJmp : Nat :=
  0x10000000400000f8300200000000000000000000000000000000000000000000000000000000000000000000000000000008000004000000000000000000000000000000000000c0000000000000000000000000000000000000000000000000000000000000000000000000000000000018080000000000000000000000000000007f0707f0000

theorem fpExecJmp_eq : fpExecJmp =
    fpIssue ||| fpJumpTo := by decide +kernel

theorem execJmp_within (n : Fin 128) (dt : BitVec 12) (a : BitVec 19) (b : Word36) (s : State) : Completes fpExecJmp s (execJmp n dt a b s) := by
  unfold execJmp
  refine Completes.next ?_
  refine Within.trans ?_ (issue_within (by decide +kernel) fun a1 => ?_)
  · exact Within.refl _ _
  · refine Within.step ?_ (jumpTo_within ..) (by decide +kernel)
    exact Within.refl _ _

/-- What `execBrd` can change. -/
def fpExecBrd : Nat :=
  0x10000000400000f8300200000000000000000000000000000000000000000000000000000000000000000000000000000008000004000000000000000000000000000000000000c0000000000000000000000000000000000000000000000000000000000000000000000000000000000018080000000000000000000000000000007f0707f0000

theorem fpExecBrd_eq : fpExecBrd =
    fpSetChs ||| fpIssue := by decide +kernel

theorem execBrd_within (n : Fin 128) (dt : BitVec 12) (a : BitVec 19) (b : Word36) (s : State) : Completes fpExecBrd s (execBrd n dt a b s) := by
  unfold execBrd
  extract_lets -lift +onlyGivenNames a1
  clear_value a1
  extract_lets -lift +onlyGivenNames a2
  clear_value a2
  extract_lets -lift +onlyGivenNames a3
  clear_value a3
  extract_lets -lift +onlyGivenNames a4
  clear_value a4
  extract_lets -lift +onlyGivenNames a5
  clear_value a5
  refine Completes.next ?_
  refine Within.trans ?_ (issue_within (by decide +kernel) fun a6 => ?_)
  · exact Within.refl _ _
  · refine Within.step ?_ (setChs_within ..) (by decide +kernel)
    exact Within.refl _ _

/-- What `execBrdDeadline` can change. -/
def fpExecBrdDeadline : Nat :=
  0x10000000400000f830020000000000000000000000000000000000000000000000000000000000000000000000000000000800000400000000000000000000000000000000000040000000000000000000000000000000000000000000000000000000000000000000000000000000000018080000000000000000000000000000007f0707f0000

theorem fpExecBrdDeadline_eq : fpExecBrdDeadline =
    fpAddShotTaint ||| fpChiselViolation ||| fpSetChs ||| fpJumpTo := by decide +kernel

theorem execBrdDeadline_within (n : Fin 128) (s : State) : Completes fpExecBrdDeadline s (execBrdDeadline n s) := by
  unfold execBrdDeadline
  refine Completes.next ?_
  split
  · exact Within.refl _ _
  · refine Within.ite ?_ ?_
    · exact Within.refl _ _
    · extract_lets -lift +onlyGivenNames a1
      clear_value a1
      extract_lets -lift +onlyGivenNames a2
      have h2 : Within fpExecBrdDeadline s a2 := by
        unfold a2
        refine Within.step ?_ (setChs_within ..) (by decide +kernel)
        exact Within.refl _ _
      clear_value a2
      refine Within.ite ?_ ?_
      · refine Within.step ?_ (chiselViolation_within ..) (by decide +kernel)
        exact h2
      · extract_lets -lift +onlyGivenNames a3
        clear_value a3
        extract_lets -lift +onlyGivenNames a4
        clear_value a4
        extract_lets -lift +onlyGivenNames a5
        have h5 : Within fpExecBrdDeadline s a5 := by
          unfold a5
          refine Within.step ?_ (addShotTaint_within ..) (by decide +kernel)
          exact h2
        clear_value a5
        extract_lets -lift +onlyGivenNames a6
        have h6 : Within fpExecBrdDeadline s a6 := by
          unfold a6
          refine Within.ite ?_ ?_
          · refine Within.step ?_ (addShotTaint_within ..) (by decide +kernel)
            exact h5
          · exact h5
        clear_value a6
        refine Within.ite ?_ ?_
        · refine Within.step ?_ (jumpTo_within ..) (by decide +kernel)
          exact h6
        · exact h6

/-- What `execBrg` can change. -/
def fpExecBrg : Nat :=
  0x10000000400000f8300200000000000000000000000000000000000000000000000000000000000000000000000000000008000004000000000000000000000000000000000000c0000000000000000000000000000000000000000000000000000000000000000000000000000000000018080000000000000000000000000000007f0707f0000

theorem fpExecBrg_eq : fpExecBrg =
    fpIssue ||| fpJumpTo := by decide +kernel

theorem execBrg_within (n : Fin 128) (dt : BitVec 12) (a : BitVec 19) (b : Word36) (s : State) : Completes fpExecBrg s (execBrg n dt a b s) := by
  unfold execBrg
  refine Completes.next ?_
  refine Within.trans ?_ (issue_within (by decide +kernel) fun a1 => ?_)
  · exact Within.refl _ _
  · refine Within.ite ?_ ?_
    · refine Within.step ?_ (jumpTo_within ..) (by decide +kernel)
      exact Within.refl _ _
    · exact Within.refl _ _

/-- What `execLoop` can change. -/
def fpExecLoop : Nat :=
  0x10000000400000f8300200000000000000000000000000000000000000000000000000000000000000000000000000000008000004000000000000000000000000000000000400c0000000000000000000000000000000000000000000000000000000000000000000000000000000000018080000000000000000000000000000007f0707f0000

theorem fpExecLoop_eq : fpExecLoop =
    fpSetK ||| fpIssue ||| fpJumpTo := by decide +kernel

theorem execLoop_within (n : Fin 128) (dt : BitVec 12) (a : BitVec 19) (b : Word36) (s : State) : Completes fpExecLoop s (execLoop n dt a b s) :=
    by
  unfold execLoop
  refine Completes.next ?_
  refine Within.trans ?_ (issue_within (by decide +kernel) fun a1 => ?_)
  · exact Within.refl _ _
  · extract_lets -lift +onlyGivenNames a2
    clear_value a2
    refine Within.ite ?_ ?_
    · exact Within.refl _ _
    · refine Within.step ?_ (jumpTo_within ..) (by decide +kernel)
      refine Within.step ?_ (setK_within ..) (by decide +kernel)
      exact Within.refl _ _

/-- What `execSetk` can change. -/
def fpExecSetk : Nat :=
  0x10000000400000f8300200000000000000000000000000000000000000000000000000000000000000000000000000000008000004000000000000000000000000000000000400c0000000000000000000000000000000000000000000000000000000000000000000000000000000000018080000000000000000000000000000007f0707f0000

theorem fpExecSetk_eq : fpExecSetk =
    fpSetK ||| fpIssue := by decide +kernel

theorem execSetk_within (n : Fin 128) (dt : BitVec 12) (a : BitVec 19) (b : Word36) (s : State) : Completes fpExecSetk s (execSetk n dt a b s) :=
    by
  unfold execSetk
  refine Completes.next ?_
  refine Within.trans ?_ (issue_within (by decide +kernel) fun a1 => ?_)
  · exact Within.refl _ _
  · refine Within.step ?_ (setK_within ..) (by decide +kernel)
    exact Within.refl _ _

/-- What `execAlu` can change. -/
def fpExecAlu : Nat :=
  0x10000000400000f8300200000000000000000000000000000000000000000000000000000000000000000000000000000008000004000000000000000000000000000000000200c0000000000000000000000000000000000000000000000000000000000000000000000000000000000018080000000000000000000000000000007f0707f0000

theorem fpExecAlu_eq : fpExecAlu =
    fpSetG ||| fpIssue := by decide +kernel

theorem execAlu_within (n : Fin 128) (dt : BitVec 12) (a : BitVec 19) (b : Word36) (s : State) : Completes fpExecAlu s (execAlu n dt a b s) := by
  unfold execAlu
  refine Completes.next ?_
  refine Within.trans ?_ (issue_within (by decide +kernel) fun a1 => ?_)
  · exact Within.refl _ _
  · extract_lets -lift +onlyGivenNames a2
    clear_value a2
    refine Within.step ?_ (setG_within ..) (by decide +kernel)
    exact Within.refl _ _

/-- What `execHarvest` can change. -/
def fpExecHarvest : Nat :=
  0x10000000400000f9f00200000000000000000000000000000000000000000000000000000000000000000000000000000008000004000000000000000000000000000000000200c0000000000000000000000000000000000000000000000000000000000000000000000000000000000018080000000000000000000000000000007f073ff0000

theorem fpExecHarvest_eq : fpExecHarvest =
    fpHarvestTake ||| fpSetG ||| fpIssue := by decide +kernel

theorem execHarvest_within (n : Fin 128) (dt : BitVec 12) (a : BitVec 19) (b : Word36) (s : State) : Completes fpExecHarvest s (execHarvest n dt
    a b s) := by
  unfold execHarvest
  extract_lets -lift +onlyGivenNames a1
  clear_value a1
  extract_lets -lift +onlyGivenNames a2
  clear_value a2
  extract_lets -lift +onlyGivenNames a3
  clear_value a3
  extract_lets -lift +onlyGivenNames a4
  clear_value a4
  extract_lets -lift +onlyGivenNames a5
  clear_value a5
  extract_lets -lift +onlyGivenNames a6
  have h6 : Within fpExecHarvest s a6 := by
    unfold a6
    refine Within.trans ?_ (issue_within (by decide +kernel) fun a7 => ?_)
    · exact Within.refl _ _
    · split
      · split
        refine Within.step ?_ (setG_within ..) (by decide +kernel)
        refine Within.ofSnd ?_ (by assumption)
        refine Within.step ?_ (harvestTake_within ..) (by decide +kernel)
        exact Within.refl _ _
      · exact Within.refl _ _
  clear_value a6
  refine Completes.next ?_
  split
  · refine Within.ite ?_ ?_
    · refine Within.step ?_ (setG_within ..) (by decide +kernel)
      exact h6
    · exact h6
  · exact h6

/-- What `execEmit` can change. -/
def fpExecEmit : Nat :=
  0x10000000400001f8300200000000000000000000000000000000000000000000000000000000000000000000000000000008000004000000000000000000000000000000000000c0000000000000000000000000000000000000000000000000000000000000000040000000000000000018080000000000000000000000000000007f0747f0000

theorem fpExecEmit_eq : fpExecEmit =
    fpFire ||| fpTagRecord ||| fpIssue := by decide +kernel

theorem execEmit_within (n : Fin 128) (dt : BitVec 12) (a : BitVec 19) (b : Word36) (s : State) : Completes fpExecEmit s (execEmit n dt a b s) :=
    by
  unfold execEmit
  extract_lets -lift +onlyGivenNames a1
  clear_value a1
  extract_lets -lift +onlyGivenNames a2
  clear_value a2
  refine Completes.next ?_
  refine Within.trans ?_ (issue_within (by decide +kernel) fun a3 => ?_)
  · exact Within.refl _ _
  · extract_lets -lift +onlyGivenNames a4
    have h4 : Within fpExecEmit a3 a4 := by
      unfold a4
      refine Within.ite ?_ ?_
      · refine Within.step ?_ (fire_within ..) (by decide +kernel)
        exact Within.refl _ _
      · exact Within.refl _ _
    clear_value a4
    refine Within.ite ?_ ?_
    · refine Within.step ?_ (tagRecord_within ..) (by decide +kernel)
      exact h4
    · exact h4

/-- What `monPlay` can change. -/
def fpMonPlay : Nat := footprint [] [.playSeen]

theorem monPlay_within (s : State) (n pc start : Nat) : Within fpMonPlay s (monPlay s n pc start) := by
  unfold monPlay
  extract_lets -lift +onlyGivenNames a1
  clear_value a1
  refine Within.step ?_ (playSeen_within _ _) (by decide +kernel)
  exact Within.refl _ _

/-- What `execPlay` can change. -/
def fpExecPlay : Nat :=
  0x1000000c400000f8300200000000000000000000000000000000000000000000000000000000000000000000000000000008000004000000000000000000000080000000000000c0000000000000000000000000000000000000000000000000000000000000000000000000000000000018080000000000000000000000000000007f0707f0000

theorem fpExecPlay_eq : fpExecPlay =
    footprint [R.TON_SLOT_BUSY] [] ||| fpSetSlot ||| fpIssue ||| fpMonPlay := by decide +kernel

theorem execPlay_within (n : Fin 128) (dt : BitVec 12) (a : BitVec 19) (b : Word36) (s : State) : Completes fpExecPlay s (execPlay n dt a b s) :=
    by
  unfold execPlay
  extract_lets -lift +onlyGivenNames a1
  clear_value a1
  extract_lets -lift +onlyGivenNames a2
  clear_value a2
  extract_lets -lift +onlyGivenNames a3
  clear_value a3
  extract_lets -lift +onlyGivenNames a4
  clear_value a4
  refine Completes.next ?_
  refine Within.trans ?_ (issue_within (by decide +kernel) fun a5 => ?_)
  · exact Within.refl _ _
  · extract_lets -lift +onlyGivenNames a6
    clear_value a6
    extract_lets -lift +onlyGivenNames a7
    clear_value a7
    extract_lets -lift +onlyGivenNames a8
    clear_value a8
    extract_lets -lift +onlyGivenNames a9
    have h9 : Within fpExecPlay a5 a9 := by
      unfold a9
      refine Within.step ?_ (monPlay_within ..) (by decide +kernel)
      exact Within.refl _ _
    clear_value a9
    extract_lets -lift +onlyGivenNames a10
    clear_value a10
    extract_lets -lift +onlyGivenNames a11
    have h11 : Within fpExecPlay a5 a11 := by
      unfold a11
      refine Within.step ?_ (setSlot_within ..) (by decide +kernel)
      exact h9
    clear_value a11
    refine Within.step ?_ (set_within _ _ _ (by decide +kernel)) (by decide +kernel)
    exact h11

/-- What `execTable` can change. -/
def fpExecTable : Nat :=
  0x10000008400000f8300200000000000000000000000000000000000000000000000000000000000000000000000000000008000004000000000000000000000180000000006800c0000000000000000000000000000000000000000000000000000000000000000000000000000000000018080000000000000000000000000000007f0707f0000

theorem fpExecTable_eq : fpExecTable =
    footprint [R.SEG_SLOT_STOP_PEND, R.SEG_SLOT_REPOINT_PEND] [] ||| fpSetSlot ||| fpSetMode ||| fpIssue := by decide +kernel

theorem execTable_within (n : Fin 128) (dt : BitVec 12) (a : BitVec 19) (b : Word36) (s : State) : Completes fpExecTable s (execTable n dt a b s)
    := by
  unfold execTable
  extract_lets -lift +onlyGivenNames a1
  clear_value a1
  extract_lets -lift +onlyGivenNames a2
  clear_value a2
  extract_lets -lift +onlyGivenNames a3
  clear_value a3
  extract_lets -lift +onlyGivenNames a4
  clear_value a4
  extract_lets -lift +onlyGivenNames a5
  clear_value a5
  refine Completes.next ?_
  refine Within.trans ?_ (issue_within (by decide +kernel) fun a6 => ?_)
  · exact Within.refl _ _
  · extract_lets -lift +onlyGivenNames a7
    clear_value a7
    extract_lets -lift +onlyGivenNames a8
    clear_value a8
    split
    · refine Within.step ?_ (set_within _ _ _ (by decide +kernel)) (by decide +kernel)
      exact Within.refl _ _
    · refine Within.step ?_ (set_within _ _ _ (by decide +kernel)) (by decide +kernel)
      refine Within.step ?_ (setSlot_within ..) (by decide +kernel)
      exact Within.refl _ _
    · refine Within.step ?_ (setMode_within ..) (by decide +kernel)
      refine Within.step ?_ (setSlot_within ..) (by decide +kernel)
      exact Within.refl _ _
    · exact Within.refl _ _
    · refine Within.step ?_ (setMode_within ..) (by decide +kernel)
      refine Within.step ?_ (setSlot_within ..) (by decide +kernel)
      exact Within.refl _ _

/-- What `execBias` can change. -/
def fpExecBias : Nat :=
  0x10000400400000f83002000000000000000000000000000000000000000000000000000000000000000000000000000000080000040000000000000000c0100000000000000000c0000000000000000000000000000000000000000000000000000000000000000000000000000000000018080000000000000000000000000000007f0707f0000

theorem fpExecBias_eq : fpExecBias =
    fpBiasOrder ||| fpIssue := by decide +kernel

theorem execBias_within (n : Fin 128) (dt : BitVec 12) (a : BitVec 19) (b : Word36) (s : State) : Completes fpExecBias s (execBias n dt a b s) :=
    by
  unfold execBias
  extract_lets -lift +onlyGivenNames a1
  clear_value a1
  refine Completes.next ?_
  refine Within.trans ?_ (issue_within (by decide +kernel) fun a2 => ?_)
  · exact Within.refl _ _
  · refine Within.step ?_ (biasOrder_within ..) (by decide +kernel)
    exact Within.refl _ _

/-- What `execMark` can change. -/
def fpExecMark : Nat :=
  0x10000000400020f8300200000000000000000000000000000000000000000000000000000000000000000000000000000008000004000000000000000000000000000000000000c0000000000000000000000000000000000000000000000000000000000000000000000000000000000018080000000000000000000000000000007f0707f0000

theorem fpExecMark_eq : fpExecMark =
    fpOrderMark ||| fpIssue := by decide +kernel

theorem execMark_within (n : Fin 128) (dt : BitVec 12) (a : BitVec 19) (b : Word36) (s : State) : Completes fpExecMark s (execMark n dt a b s) :=
    by
  unfold execMark
  extract_lets -lift +onlyGivenNames a1
  clear_value a1
  refine Completes.next ?_
  refine Within.trans ?_ (issue_within (by decide +kernel) fun a2 => ?_)
  · exact Within.refl _ _
  · refine Within.step ?_ (orderMark_within ..) (by decide +kernel)
    exact Within.refl _ _

/-- What `execWindow` can change. -/
def fpExecWindow : Nat :=
  0x10010000400000f8300200000000000000000000000000000000000000000000000000000000000000000000000000000008000004000000000000000000000000000000000000c0000000000000000000000000000000000000000000000000000000000000000000000000000000000018080000000000000000000000000000007f0707f0000

theorem fpExecWindow_eq : fpExecWindow =
    fpOrderWindow ||| fpIssue := by decide +kernel

theorem execWindow_within (n : Fin 128) (dt : BitVec 12) (a : BitVec 19) (b : Word36) (s : State) : Completes fpExecWindow s (execWindow n dt a b
    s) := by
  unfold execWindow
  extract_lets -lift +onlyGivenNames a1
  clear_value a1
  extract_lets -lift +onlyGivenNames a2
  clear_value a2
  extract_lets -lift +onlyGivenNames a3
  clear_value a3
  extract_lets -lift +onlyGivenNames a4
  clear_value a4
  refine Completes.next ?_
  refine Within.trans ?_ (issue_within (by decide +kernel) fun a5 => ?_)
  · exact Within.refl _ _
  · refine Within.step ?_ (orderWindow_within ..) (by decide +kernel)
    exact Within.refl _ _

/-- What `execShift` can change. -/
def fpExecShift : Nat :=
  0x10000100400000f8300200000000000000000000000000000000000000000000000000000000000000000000000000000008000004000000000000000000000000000000000000c0000000000000000000000000000000000000000000000000000000000000000000000000000000000018080000000000000000000000000000007f0707f0000

theorem fpExecShift_eq : fpExecShift =
    fpFrmOp ||| fpIssue := by decide +kernel

theorem execShift_within (n : Fin 128) (dt : BitVec 12) (a : BitVec 19) (b : Word36) (s : State) : Completes fpExecShift s (execShift n dt a b s)
    := by
  unfold execShift
  refine Completes.next ?_
  refine Within.trans ?_ (issue_within (by decide +kernel) fun a1 => ?_)
  · exact Within.refl _ _
  · refine Within.step ?_ (frmOp_within ..) (by decide +kernel)
    exact Within.refl _ _

/-- What `execSetf` can change. -/
def fpExecSetf : Nat :=
  0x10000100400000f8300200000000000000000000000000000000000000000000000000000000000000000000000000000008000004000000000000000000000000000000000000c0000000000000000000000000000000000000000000000000000000000000000000000000000000000018080000000000000000000000000000007f0707f0000

theorem fpExecSetf_eq : fpExecSetf =
    fpFrmOp ||| fpIssue := by decide +kernel

theorem execSetf_within (n : Fin 128) (dt : BitVec 12) (a : BitVec 19) (b : Word36) (s : State) : Completes fpExecSetf s (execSetf n dt a b s) :=
    by
  unfold execSetf
  refine Completes.next ?_
  refine Within.trans ?_ (issue_within (by decide +kernel) fun a1 => ?_)
  · exact Within.refl _ _
  · refine Within.step ?_ (frmOp_within ..) (by decide +kernel)
    exact Within.refl _ _

/-- What `execSetfr` can change. -/
def fpExecSetfr : Nat :=
  0x10000100400000f8300200000000000000000000000000000000000000000000000000000000000000000000000000000008000004000000000000000000000000000000000000c0000000000000000000000000000000000000000000000000000000000000000000000000000000000018080000000000000000000000000000007f0707f0000

theorem fpExecSetfr_eq : fpExecSetfr =
    fpFrmOp ||| fpIssue := by decide +kernel

theorem execSetfr_within (n : Fin 128) (dt : BitVec 12) (a : BitVec 19) (b : Word36) (s : State) : Completes fpExecSetfr s (execSetfr n dt a b s)
    := by
  unfold execSetfr
  refine Completes.next ?_
  refine Within.trans ?_ (issue_within (by decide +kernel) fun a1 => ?_)
  · exact Within.refl _ _
  · extract_lets -lift +onlyGivenNames a2
    clear_value a2
    extract_lets -lift +onlyGivenNames a3
    clear_value a3
    extract_lets -lift +onlyGivenNames a4
    clear_value a4
    refine Within.step ?_ (frmOp_within ..) (by decide +kernel)
    exact Within.refl _ _

/-- What `execFreset` can change. -/
def fpExecFreset : Nat :=
  0x10000100400000f8300200000000000000000000000000000000000000000000000000000000000000000000000000000008000004000000000000000000000000000000000000c0000000000000000000000000000000000000000000000000000000000000000000000000000000000018080000000000000000000000000000007f0707f0000

theorem fpExecFreset_eq : fpExecFreset =
    fpFrmOp ||| fpIssue := by decide +kernel

theorem execFreset_within (n : Fin 128) (dt : BitVec 12) (a : BitVec 19) (b : Word36) (s : State) : Completes fpExecFreset s (execFreset n dt a b
    s) := by
  unfold execFreset
  refine Completes.next ?_
  refine Within.trans ?_ (issue_within (by decide +kernel) fun a1 => ?_)
  · exact Within.refl _ _
  · refine Within.step ?_ (frmOp_within ..) (by decide +kernel)
    exact Within.refl _ _

/-- What `chsAbandon` can change. -/
def fpChsAbandon : Nat :=
  0x10000000400000f8000200000000000000000000000000000000000000000000000000000000000000000000000000000008000000000000000000000000000000000000000007200000000000000000000000000000000000000000000000000000000000000000000000000000000000180800000000000000000000000000000000000000000

theorem fpChsAbandon_eq : fpChsAbandon =
    footprint [R.CHS_STATUS_CUT, R.CHS_PREV_TAINT_TAINT, R.CHS_PREV_SHOT_COUNT, R.CHS_CUT_CNT_COUNT] [] ||| fpFire |||
  fpSetChs := by decide +kernel

theorem chsAbandon_within (s : State) (n : Nat) (old : Option Nat) : Within fpChsAbandon s (chsAbandon s n old) := by
  unfold chsAbandon
  extract_lets -lift +onlyGivenNames a1
  clear_value a1
  extract_lets -lift +onlyGivenNames a2
  have h2 : Within fpChsAbandon s a2 := by
    unfold a2
    refine Within.when ?_ fun a3 => ?_
    · exact Within.refl _ _
    · refine Within.step ?_ (fire_within ..) (by decide +kernel)
      refine Within.step ?_ (inc_within _ _ _ (by decide +kernel)) (by decide +kernel)
      refine Within.step ?_ (set_within _ _ _ (by decide +kernel)) (by decide +kernel)
      exact Within.refl _ _
  clear_value a2
  extract_lets -lift +onlyGivenNames a3
  clear_value a3
  extract_lets -lift +onlyGivenNames a4
  have h4 : Within fpChsAbandon s a4 := by
    unfold a4
    refine Within.step ?_ (setChs_within ..) (by decide +kernel)
    exact h2
  clear_value a4
  split
  · refine Within.step ?_ (set_within _ _ _ (by decide +kernel)) (by decide +kernel)
    refine Within.step ?_ (set_within _ _ _ (by decide +kernel)) (by decide +kernel)
    exact h4
  · exact h4

/-- What `chsShotStart` can change. -/
def fpChsShotStart : Nat :=
  0x10000000400000f8200200000000000000000000000000000000000000000000000000000000000000000000000000000008000004000000000000000000000000000000000607640000000000000000000000000000000000000000000000000000000000000000000000000000000000180800000000000000000000000000000000000000000

theorem fpChsShotStart_eq : fpChsShotStart =
    fpSetShotTaint ||| fpSetG ||| fpSetK ||| fpSetChs ||| fpSetChsState ||| fpChsAbandon := by decide +kernel

theorem chsShotStart_within (s : State) (n : Nat) (old : Option Nat) : Within fpChsShotStart s (chsShotStart s n old) := by
  unfold chsShotStart
  extract_lets -lift +onlyGivenNames a1
  have h1 : Within fpChsShotStart s a1 := by
    unfold a1
    refine Within.step ?_ (setShotTaint_within ..) (by decide +kernel)
    refine Within.step ?_ (chsAbandon_within ..) (by decide +kernel)
    exact Within.refl _ _
  clear_value a1
  extract_lets -lift +onlyGivenNames a2
  have h2 : Within fpChsShotStart s a2 := by
    unfold a2
    refine Within.forAll _ ?_ fun a3 _ => ?_
    · exact h1
    · refine Within.step ?_ (setG_within ..) (by decide +kernel)
      exact Within.refl _ _
  clear_value a2
  extract_lets -lift +onlyGivenNames a3
  have h3 : Within fpChsShotStart s a3 := by
    unfold a3
    refine Within.forAll _ ?_ fun a4 _ => ?_
    · exact h2
    · refine Within.step ?_ (setK_within ..) (by decide +kernel)
      exact Within.refl _ _
  clear_value a3
  refine Within.step ?_ (setChsState_within ..) (by decide +kernel)
  refine Within.step ?_ (setChs_within ..) (by decide +kernel)
  exact h3

/-- What `chsOff` can change. -/
def fpChsOff : Nat :=
  0xc0000000000000000000000000000000000000000000000000000000000000000000000000000000000000000000000000000000000000000000000000000000000000040000000000000000000000000000000000000000000000000000000000000000000000000000000000000000000000000000000000000000000000000000000

theorem fpChsOff_eq : fpChsOff =
    footprint [] [.barArr] ||| fpSetChs ||| fpSetChsState := by decide +kernel

theorem chsOff_within (s : State) : Within fpChsOff s (chsOff s) := by
  unfold chsOff
  refine Within.forAll _ ?_ fun a1 _ => ?_
  · refine Within.step ?_ (barArr_within _ _) (by decide +kernel)
    exact Within.refl _ _
  · refine Within.step ?_ (setChsState_within ..) (by decide +kernel)
    refine Within.step ?_ (setChs_within ..) (by decide +kernel)
    exact Within.refl _ _

/-- What `chsMemNext` can change. -/
def fpChsMemNext : Nat := footprint [R.CHS_MEM_CTRL_ADDR] []

theorem chsMemNext_within (s : State) (n : Nat) : Within fpChsMemNext s (chsMemNext s n) := by
  unfold chsMemNext
  refine Within.when ?_ fun a1 => ?_
  · exact Within.refl _ _
  · refine Within.step ?_ (set_within _ _ _ (by decide +kernel)) (by decide +kernel)
    exact Within.refl _ _

/-- What `chsMemRead` can change. -/
def fpChsMemRead : Nat :=
  0x80000000000000000000000000000000000000000000000000000000000000000000000000000000000000000000000000000000000000000000000000000000000

theorem fpChsMemRead_eq : fpChsMemRead =
    fpChsMemNext := by decide +kernel

theorem chsMemRead_within (s : State) (n : Nat) : Within fpChsMemRead s (chsMemRead s n).2 := by
  unfold chsMemRead
  extract_lets +onlyGivenNames a1
  clear_value a1
  dsimp only
  refine Within.step ?_ (chsMemNext_within ..) (by decide +kernel)
  exact Within.refl _ _

/-- What `chsMemWrite` can change. -/
def fpChsMemWrite : Nat :=
  0x30000000000000000000000000000000000000000000000000000000000000000000000000000000000000000000000000000000000000000000000000000000000080000000000000000000000000000000000000000000000000000000000000000000000000000000000000000000000000000000000000000000000000000000000

theorem fpChsMemWrite_eq : fpChsMemWrite =
    footprint [] [.chsProg, .chsEnv] ||| fpChsMemNext := by decide +kernel

theorem chsMemWrite_within (s : State) (n v : Nat) : Within fpChsMemWrite s (chsMemWrite s n v) := by
  unfold chsMemWrite
  extract_lets -lift +onlyGivenNames a1
  clear_value a1
  refine Within.step ?_ (chsMemNext_within ..) (by decide +kernel)
  split
  · refine Within.ite ?_ ?_
    · refine Within.step ?_ (chsProg_within _ _) (by decide +kernel)
      exact Within.refl _ _
    · exact Within.refl _ _
  · refine Within.step ?_ (chsEnv_within _ _) (by decide +kernel)
    exact Within.refl _ _
  · exact Within.refl _ _

end Sys2Proof.Machine
end

