-- ==== Sys2Proof/Laws/Caliper.lean ====
section
/-! SUPPORT. What each operation of Sys2Proof/Machine/Caliper.lean can change. -/

set_option Elab.async false

namespace Sys2Proof.Machine

/-- What `setClp` can change. -/
def fpSetClp : Nat := footprint [] [.calipers]

theorem setClp_within (s : State) (n : Nat) (c : Clp) : Within fpSetClp s (setClp s n c) := by
  unfold setClp
  refine Within.step ?_ (calipers_within _ _) (by decide +kernel)
  exact Within.refl _ _

/-- What `setClpState` can change. -/
def fpSetClpState : Nat := footprint [R.CLP_STATUS_STATE] []

theorem setClpState_within (s : State) (n st : Nat) : Within fpSetClpState s (setClpState s n st) := by
  unfold setClpState
  refine Within.step ?_ (set_within _ _ _ (by decide +kernel)) (by decide +kernel)
  exact Within.refl _ _

/-- What `setDmem` can change. -/
def fpSetDmem : Nat := footprint [] [.clpMem]

theorem setDmem_within (s : State) (n a v : Nat) : Within fpSetDmem s (setDmem s n a v) := by
  unfold setDmem
  refine Within.step ?_ (clpMem_within _ _) (by decide +kernel)
  exact Within.refl _ _

/-- What `cApply` can change. -/
def fpCApply : Nat :=
  0x14000000000000000000000000000000000000000000000000000000000000000000000000000000000000000000000000d00000000000000000000000000000000000000000000000000000000000000000000000000000000000000000000000000000000000000000000000000000000000000000000000000000000000000000000000000

theorem fpCApply_eq : fpCApply =
    footprint [R.CLP_X_VALUE, R.CLP_P_VALUE, R.CLP_M_VALUE] [] ||| fpSetClp ||| fpSetDmem := by decide +kernel

theorem cApply_within (n : Nat) (s : State) (w : CWrite) : Within fpCApply s (cApply n s w) := by
  unfold cApply
  split
  · refine Within.step ?_ (set_within _ _ _ (by decide +kernel)) (by decide +kernel)
    exact Within.refl _ _
  · refine Within.step ?_ (set_within _ _ _ (by decide +kernel)) (by decide +kernel)
    exact Within.refl _ _
  · refine Within.step ?_ (set_within _ _ _ (by decide +kernel)) (by decide +kernel)
    exact Within.refl _ _
  · refine Within.step ?_ (setDmem_within ..) (by decide +kernel)
    exact Within.refl _ _
  · refine Within.step ?_ (setClp_within ..) (by decide +kernel)
    exact Within.refl _ _

/-- What `cSettle` can change. -/
def fpCSettle : Nat :=
  0x14000000000000000000000000000000000000000000000000000000000000000000000000000000000000000000000000d00000000000000000000000000000000000000000000000000000000000000000000000000000000000000000000000000000000000000000000000000000000000000000000000000000000000000000000000000

theorem fpCSettle_eq : fpCSettle =
    fpSetClp ||| fpCApply := by decide +kernel

theorem cSettle_within (s : State) (n c : Nat) : Within fpCSettle s (cSettle s n c) := by
  unfold cSettle
  extract_lets -lift +onlyGivenNames a1
  clear_value a1
  extract_lets -lift +onlyGivenNames a2
  clear_value a2
  extract_lets -lift +onlyGivenNames a3
  have h3 : Within fpCSettle s a3 := by
    unfold a3
    refine Within.step ?_ (setClp_within ..) (by decide +kernel)
    exact Within.refl _ _
  clear_value a3
  refine Within.forAll _ ?_ fun a4 _ => ?_
  · exact h3
  · refine Within.step ?_ (cApply_within ..) (by decide +kernel)
    exact Within.refl _ _

/-- What `cPush` can change. -/
def fpCPush : Nat :=
  0x4000000000000000000000000000000000000000000000000000000000000000000000000000000000000000000000000000000000000000000000000000000000000000000000000000000000000000000000000000000000000000000000000000000000000000000000000000000000000000000000000000000000000000000000000000

theorem fpCPush_eq : fpCPush =
    fpSetClp := by decide +kernel

theorem cPush_within (s : State) (n : Nat) (w : CWrite) : Within fpCPush s (cPush s n w) := by
  unfold cPush
  refine Within.step ?_ (setClp_within ..) (by decide +kernel)
  exact Within.refl _ _

/-- What `cPushX` can change. -/
def fpCPushX : Nat :=
  0x4000000000000000200000000000000000000000000000000000000000000000000000000000000000000000000000000000000000000000000000000000000000000000000000000000000000000000000000000000000000000000000000000000000000000000000000000000000000000000000000000000000000000000000000000000

theorem fpCPushX_eq : fpCPushX =
    footprint [] [.fresh] ||| fpSetClp ||| fpCPush := by decide +kernel

theorem cPushX_within (s : State) (n at_ k v : Nat) : Within fpCPushX s (cPushX s n at_ k v) := by
  unfold cPushX
  refine Within.ite ?_ ?_
  · split
    extract_lets -lift +onlyGivenNames a1
    clear_value a1
    extract_lets -lift +onlyGivenNames a2
    have h2 : Within fpCPushX s a2 := by
      unfold a2
      refine Within.step ?_ (setClp_within ..) (by decide +kernel)
      refine Within.ofSnd ?_ (by assumption)
      refine Within.step ?_ (free_within ..) (by decide +kernel)
      exact Within.refl _ _
    clear_value a2
    refine Within.step ?_ (cPush_within ..) (by decide +kernel)
    exact h2
  · refine Within.step ?_ (cPush_within ..) (by decide +kernel)
    exact Within.refl _ _

/-- What `depWrite` can change. -/
def fpDepWrite : Nat :=
  0x10040000000000f83002000000000000000000000000000000000000000000000000000000000000000000000000000000080040040000000000000000000000000000000000004000000000000000000000000000000000000000000000000000000000000000000000000000000000001808000000000000000000000000000000000007f0000

theorem fpDepWrite_eq : fpDepWrite =
    footprint [R.CLP_DEP_W_W] [] ||| fpAddShotTaint ||| fpSetClp ||| fpCPush := by decide +kernel

theorem depWrite_within (s : State) (n c : Nat) (d : DepWord) : Within fpDepWrite s (depWrite s n c d) := by
  unfold depWrite
  extract_lets -lift +onlyGivenNames a1
  clear_value a1
  extract_lets -lift +onlyGivenNames a2
  clear_value a2
  extract_lets -lift +onlyGivenNames a3
  clear_value a3
  extract_lets -lift +onlyGivenNames a4
  clear_value a4
  extract_lets -lift +onlyGivenNames a5
  have h5 : Within fpDepWrite s a5 := by
    unfold a5
    refine Within.step ?_ (set_within _ _ _ (by decide +kernel)) (by decide +kernel)
    exact Within.refl _ _
  clear_value a5
  extract_lets -lift +onlyGivenNames a6
  have h6 : Within fpDepWrite s a6 := by
    unfold a6
    refine Within.step ?_ (cPush_within ..) (by decide +kernel)
    exact h5
  clear_value a6
  extract_lets -lift +onlyGivenNames a7
  clear_value a7
  extract_lets -lift +onlyGivenNames a8
  have h8 : Within fpDepWrite s a8 := by
    unfold a8
    refine Within.step ?_ (setClp_within ..) (by decide +kernel)
    exact h6
  clear_value a8
  refine Within.ite ?_ ?_
  · refine Within.step ?_ (addShotTaint_within ..) (by decide +kernel)
    exact h8
  · exact h8

/-- What `depDrain` can change. -/
def fpDepDrain : Nat :=
  0x10040000000000f83002000000000000000000000000000000000000000000000000000000000000000000000000000000080040040000000000000000000000000000000000004000000000000000000000000000000000000000000000000000000000000000000000000000000000001808000000000000000000000000000000000007f0000

theorem fpDepDrain_eq : fpDepDrain =
    fpSetClp ||| fpDepWrite := by decide +kernel

theorem depDrain_within (s : State) (n c k : Nat) : Within fpDepDrain s (depDrain s n c k) := by
  induction k generalizing s with
  | zero => exact Within.refl _ _
  | succ k ih =>
    simp only [depDrain]
    split
    · exact Within.refl _ _
    · refine Within.ite (Within.refl _ _) (Within.trans ?_ (ih _))
      refine Within.step ?_ (depWrite_within ..) (by decide +kernel)
      refine Within.step ?_ (setClp_within ..) (by decide +kernel)
      exact Within.refl _ _

/-- What `depTo` can change. -/
def fpDepTo : Nat :=
  0x10040000000000f83002000000000000000000000000000000000000000000000000000000000000000000000000000000080040040000000000000000000000000000000000004000000000000000000000000000000000000000000000000000000000000000000000000000000000001808000000000000000000000000000000000007f0000

theorem fpDepTo_eq : fpDepTo =
    fpDepDrain := by decide +kernel

theorem depTo_within (s : State) (n c : Nat) : Within fpDepTo s (depTo s n c) := by
  unfold depTo
  refine Within.step ?_ (depDrain_within ..) (by decide +kernel)
  exact Within.refl _ _

/-- What `clpAdvance` can change. -/
def fpClpAdvance : Nat :=
  0x4000000000000000200000000000000000000000000000000000000000000000000000000000000000000000000000000000008200000000000000000000000000000000000000000000000000000000000000000000000000000000000000000000000000000000000000000000000000000000000000000000000000000000000000000000

theorem fpClpAdvance_eq : fpClpAdvance =
    footprint [R.CLP_STATUS_HANDLER, R.CLP_STATUS_PC] [.fresh] ||| fpSetClp := by decide +kernel

theorem clpAdvance_within (s : State) (n : Nat) : Within fpClpAdvance s (clpAdvance s n) := by
  unfold clpAdvance
  extract_lets -lift +onlyGivenNames a1
  extract_lets -lift +onlyGivenNames a2
  clear_value a2
  split
  extract_lets -lift +onlyGivenNames a3
  have h3 : Within fpClpAdvance s a3 := by
    unfold a3
    refine Within.step ?_ (set_within _ _ _ (by decide +kernel)) (by decide +kernel)
    refine Within.ofSnd ?_ (by assumption)
    split
    · dsimp only
      exact Within.refl _ _
    · refine Within.step ?_ (free_within ..) (by decide +kernel)
      exact Within.refl _ _
  clear_value a3
  extract_lets -lift +onlyGivenNames a4
  refine Within.ite ?_ ?_
  · refine Within.step ?_ (setClp_within ..) (by decide +kernel)
    exact h3
  · split
    extract_lets -lift +onlyGivenNames a5
    clear_value a5
    extract_lets -lift +onlyGivenNames a6
    clear_value a6
    extract_lets -lift +onlyGivenNames a7
    extract_lets -lift +onlyGivenNames a8
    clear_value a8
    split
    extract_lets -lift +onlyGivenNames a9
    have h9 : Within fpClpAdvance s a9 := by
      unfold a9
      refine Within.when ?_ fun a10 => ?_
      · refine Within.ofSnd ?_ (by assumption)
        split
        · dsimp only
          exact h3
        · dsimp only
          exact h3
        · dsimp only
          exact h3
        · split
          dsimp only
          refine Within.ofSnd ?_ (by assumption)
          refine Within.step ?_ (free_within ..) (by decide +kernel)
          exact h3
      · refine Within.step ?_ (set_within _ _ _ (by decide +kernel)) (by decide +kernel)
        exact Within.refl _ _
    clear_value a9
    refine Within.step ?_ (setClp_within ..) (by decide +kernel)
    exact h9

/-- What `clpFail` can change. -/
def fpClpFail : Nat :=
  0x10000000000000f830020000000000000000000000000000000000000000000000000000000000000000000000000000000800000400000000000000000000000000000000000040000000000000000000000000000000000000000000000000000000000000000000000000000000000018080000000000000000000000000000007f0687f0000

theorem fpClpFail_eq : fpClpFail =
    fpFire ||| fpCaliperViolation := by decide +kernel

theorem clpFail_within (s : State) (n : Nat) (codes : List Nat) (pc : Nat) : Within fpClpFail s (clpFail s n codes pc) := by
  unfold clpFail
  refine Within.ite ?_ ?_
  · refine Within.step ?_ (caliperViolation_within ..) (by decide +kernel)
    exact Within.refl _ _
  · refine Within.step ?_ (fire_within ..) (by decide +kernel)
    exact Within.refl _ _

/-- What `clpIssueSoft` can change beside what its instruction does. -/
def fpClpIssueSoft : Nat :=
  0x10140000000000f8300200000000000000000000000000000000000000000000000000000000000000000000000000000008d0400c20000000000000000000000000000000000040000000000000000000000000000000000000000000000000000000000000000000000000000000000018080000000000000000000000000000007f0687f0000

theorem fpClpIssueSoft_eq : fpClpIssueSoft =
    fpDepTo ||| fpCSettle ||| fpClpAdvance ||| fpClpFail ||| fpSetClp := by decide +kernel

theorem clpIssueSoft_within {K : Nat} {s : State} {n op : Nat} {codes soft : State → List Nat} {act : Nat → Nat → State → State}
    (hk : fpClpIssueSoft &&& K = fpClpIssueSoft) (ha : ∀ c pc t, Within K t (act c pc t)) : Within K s (clpIssueSoft s n op codes soft act) := by
  have h1 : ∀ t n c, Within K t (depTo t n c) := fun t n c => (depTo_within t n c).mono (mask_trans (by decide +kernel) hk)
  have h2 : ∀ t n c, Within K t (cSettle t n c) := fun t n c => (cSettle_within t n c).mono (mask_trans (by decide +kernel) hk)
  have h3 : ∀ t n, Within K t (clpAdvance t n) := fun t n => (clpAdvance_within t n).mono (mask_trans (by decide +kernel) hk)
  have h4 : ∀ t n l pc, Within K t (clpFail t n l pc) := fun t n l pc => (clpFail_within t n l pc).mono (mask_trans (by decide +kernel) hk)
  have h5 : ∀ t n x, Within K t (setClp t n x) := fun t n x => (setClp_within t n x).mono (mask_trans (by decide +kernel) hk)
  unfold clpIssueSoft
  refine Within.ite ?_ (Within.refl _ _)
  extract_lets a1 a2 a3 a4 a5 a6 a7 a8 a9 a10
  have h9 : Within K s a9 := by
    unfold a9 a8 a4
    exact Within.ite (((h1 _ _ _).trans (h2 _ _ _)).trans (h3 _ _)) ((((h1 _ _ _).trans (h2 _ _ _)).trans (h3 _ _)).trans (h4 _ _ _ _))
  have h10 : Within K s a10 := Within.when h9 fun t => h5 _ _ _
  exact Within.ite (h10.trans (ha _ _ _)) h10

theorem clpIssue_within {K : Nat} {s : State} {n op : Nat} {codes : State → List Nat} {act : Nat → Nat → State → State}
    (hk : fpClpIssueSoft &&& K = fpClpIssueSoft) (ha : ∀ c pc t, Within K t (act c pc t)) : Within K s (clpIssue s n op codes act) :=
  clpIssueSoft_within hk ha

/-- What `cLoad` can change. -/
def fpCLoad : Nat :=
  0x3000000000000000002000000000000000000000000000000000000000000000000000000000000000000000000000000000000000000000000000000000000000000000000000000000000000000000000000000000000000000000000000000000000000000000000000000000f9420000000000000000000000000000000000000000000000

theorem fpCLoad_eq : fpCLoad =
    fpMbxLoad := by decide +kernel

theorem cLoad_within (s : State) (n a : Nat) : Within fpCLoad s (cLoad s n a).2 := by
  unfold cLoad
  split
  · refine Within.step ?_ (mbxLoad_within ..) (by decide +kernel)
    exact Within.refl _ _
  · dsimp only
    exact Within.refl _ _

/-- What `cStore` can change. -/
def fpCStore : Nat :=
  0x13040000000000f800020000000000000000000000000000000000000000000000000000000000000000000000000000000c00004000000000000000000000000000000000000000000000000000000000000000000000000000000000000000000000000000000000000000000100f500180800000000000000000000000000400000000000000

theorem fpCStore_eq : fpCStore =
    fpMbxStore ||| fpCPush := by decide +kernel

theorem cStore_within (s : State) (n c a v : Nat) (hinc : Bool) : Within fpCStore s (cStore s n c a v hinc) := by
  unfold cStore
  refine Within.ite ?_ ?_
  · refine Within.step ?_ (mbxStore_within ..) (by decide +kernel)
    exact Within.refl _ _
  · refine Within.ite ?_ ?_
    · exact Within.refl _ _
    · refine Within.step ?_ (cPush_within ..) (by decide +kernel)
      exact Within.refl _ _

/-- What `moDone` can change. -/
def fpMoDone : Nat := footprint [R.CLP_P_VALUE] [.fresh]

theorem moDone_within (s : State) (n : Nat) (a b : Option (Nat × Nat)) : Within fpMoDone s (moDone s n a b) := by
  unfold moDone
  extract_lets -lift +onlyGivenNames a1
  split
  · exact Within.refl _ _
  · unfold a1
    beta_reduce
    refine Within.step ?_ (set_within _ _ _ (by decide +kernel)) (by decide +kernel)
    exact Within.refl _ _
  · unfold a1
    beta_reduce
    refine Within.step ?_ (set_within _ _ _ (by decide +kernel)) (by decide +kernel)
    exact Within.refl _ _
  · refine Within.ite ?_ ?_
    · split
      unfold a1
      beta_reduce
      refine Within.step ?_ (set_within _ _ _ (by decide +kernel)) (by decide +kernel)
      refine Within.ofSnd ?_ (by assumption)
      refine Within.step ?_ (free_within ..) (by decide +kernel)
      exact Within.refl _ _
    · unfold a1
      beta_reduce
      refine Within.step ?_ (set_within _ _ _ (by decide +kernel)) (by decide +kernel)
      refine Within.step ?_ (set_within _ _ _ (by decide +kernel)) (by decide +kernel)
      exact Within.refl _ _

/-- What `execHalt` can change. -/
def fpExecHalt : Nat :=
  0x10140000000000f8300200000000000000000000000000000000000000000000000000000000000000000000000000000008d0400c30000000000000000000000000000000000040000000000000000000000000000000000000000000000000000000000000000000000000000000000018080000000000000000000000000000007f0687f0000

theorem fpExecHalt_eq : fpExecHalt =
    fpSetClpState ||| fpClpIssueSoft := by decide +kernel

theorem execHalt_within (n : Fin 64) (w : BitVec 30) (s : State) : Completes fpExecHalt s (execHalt n w s) := by
  unfold execHalt
  refine Completes.next ?_
  refine Within.trans ?_ (clpIssue_within (by decide +kernel) fun _ _ a1 => ?_)
  · exact Within.refl _ _
  · refine Within.step ?_ (setClpState_within ..) (by decide +kernel)
    exact Within.refl _ _

/-- What `execClpNop` can change. -/
def fpExecClpNop : Nat :=
  0x10140000000000f8300200000000000000000000000000000000000000000000000000000000000000000000000000000008d0400c20000000000000000000000000000000000040000000000000000000000000000000000000000000000000000000000000000000000000000000000018080000000000000000000000000000007f0687f0000

theorem fpExecClpNop_eq : fpExecClpNop =
    fpClpIssueSoft := by decide +kernel

theorem execClpNop_within (n : Fin 64) (w : BitVec 30) (s : State) : Completes fpExecClpNop s (execClpNop n w s) := by
  unfold execClpNop
  refine Completes.next ?_
  refine Within.trans ?_ (clpIssue_within (by decide +kernel) fun _ _ a1 => ?_)
  · exact Within.refl _ _
  · exact Within.refl _ _

/-- What `execBr` can change. -/
def fpExecBr : Nat :=
  0x10140000000000f8300200000000000000000000000000000000000000000000000000000000000000000000000000000008d0400c20000000000000000000000000000000000040000000000000000000000000000000000000000000000000000000000000000000000000000000000018080000000000000000000000000000007f0687f0000

theorem fpExecBr_eq : fpExecBr =
    footprint [] [.fresh] ||| fpSetClp ||| fpClpIssueSoft := by decide +kernel

theorem execBr_within (n : Fin 64) (w : BitVec 30) (s : State) : Completes fpExecBr s (execBr n w s) := by
  unfold execBr
  refine Completes.next ?_
  refine Within.trans ?_ (clpIssue_within (by decide +kernel) fun _ _ a1 => ?_)
  · exact Within.refl _ _
  · split
    extract_lets -lift +onlyGivenNames a2
    clear_value a2
    refine Within.step ?_ (setClp_within ..) (by decide +kernel)
    refine Within.ofSnd ?_ (by assumption)
    refine Within.step ?_ (free_within ..) (by decide +kernel)
    exact Within.refl _ _

/-- What `execRete` can change. -/
def fpExecRete : Nat :=
  0x10140000000000f8300200000000000000000000000000000000000000000000000000000000000000000000000000000008d0400c20000000000000000000000000000000000040000000000000000000000000000000000000000000000000000000000000000000000000000000000018080000000000000000000000000000007f0687f0000

theorem fpExecRete_eq : fpExecRete =
    fpSetClp ||| fpClpIssueSoft := by decide +kernel

theorem execRete_within (n : Fin 64) (w : BitVec 30) (s : State) : Completes fpExecRete s (execRete n w s) := by
  unfold execRete
  refine Completes.next ?_
  refine Within.trans ?_ (clpIssue_within (by decide +kernel) fun _ _ a1 => ?_)
  · exact Within.refl _ _
  · refine Within.step ?_ (setClp_within ..) (by decide +kernel)
    exact Within.refl _ _

/-- What `execRepeat` can change. -/
def fpExecRepeat : Nat :=
  0x10140000000000f8300200000000000000000000000000000000000000000000000000000000000000000000000000000008d0400c20000000000000000000000000000000000040000000000000000000000000000000000000000000000000000000000000000000000000000000000018080000000000000000000000000000007f0687f0000

theorem fpExecRepeat_eq : fpExecRepeat =
    fpSetClp ||| fpClpIssueSoft := by decide +kernel

theorem execRepeat_within (n : Fin 64) (w : BitVec 30) (s : State) : Completes fpExecRepeat s (execRepeat n w s) := by
  unfold execRepeat
  extract_lets -lift +onlyGivenNames a1
  clear_value a1
  refine Completes.next ?_
  refine Within.trans ?_ (clpIssue_within (by decide +kernel) fun _ _ a2 => ?_)
  · exact Within.refl _ _
  · extract_lets -lift +onlyGivenNames a3
    clear_value a3
    refine Within.step ?_ (setClp_within ..) (by decide +kernel)
    exact Within.refl _ _

/-- What `execClpLoop` can change. -/
def fpExecClpLoop : Nat :=
  0x10140000000000f8300200000000000000000000000000000000000000000000000000000000000000000000000000000008d0400c20000000000000000000000000000000000040000000000000000000000000000000000000000000000000000000000000000000000000000000000018080000000000000000000000000000007f0687f0000

theorem fpExecClpLoop_eq : fpExecClpLoop =
    fpSetClp ||| fpClpIssueSoft := by decide +kernel

theorem execClpLoop_within (n : Fin 64) (w : BitVec 30) (s : State) : Completes fpExecClpLoop s (execClpLoop n w s) := by
  unfold execClpLoop
  refine Completes.next ?_
  refine Within.trans ?_ (clpIssue_within (by decide +kernel) fun _ _ a1 => ?_)
  · exact Within.refl _ _
  · extract_lets -lift +onlyGivenNames a2
    clear_value a2
    refine Within.step ?_ (setClp_within ..) (by decide +kernel)
    exact Within.refl _ _

/-- What `execWaitc` can change. -/
def fpExecWaitc : Nat :=
  0x10140000000000f8300200000000000000000000000000000000000000000000000000000000000000000000000000000008d0400c30000000000000000000000000000000000040000000000000000000000000000000000000000000000000000000000000000000000000000000000018080000000000000000000000000000007f0687f0000

theorem fpExecWaitc_eq : fpExecWaitc =
    fpSetClp ||| fpSetClpState ||| fpClpIssueSoft := by decide +kernel

theorem execWaitc_within (n : Fin 64) (w : BitVec 30) (s : State) : Completes fpExecWaitc s (execWaitc n w s) := by
  unfold execWaitc
  refine Completes.next ?_
  refine Within.trans ?_ (clpIssue_within (by decide +kernel) fun _ _ a1 => ?_)
  · exact Within.refl _ _
  · extract_lets -lift +onlyGivenNames a2
    clear_value a2
    extract_lets -lift +onlyGivenNames a3
    clear_value a3
    extract_lets -lift +onlyGivenNames a4
    clear_value a4
    extract_lets -lift +onlyGivenNames a5
    clear_value a5
    extract_lets -lift +onlyGivenNames a6
    clear_value a6
    extract_lets -lift +onlyGivenNames a7
    clear_value a7
    extract_lets -lift +onlyGivenNames a8
    have h8 : Within fpExecWaitc a1 a8 := by
      unfold a8
      refine Within.step ?_ (setClp_within ..) (by decide +kernel)
      exact Within.refl _ _
    clear_value a8
    refine Within.ite ?_ ?_
    · refine Within.step ?_ (setClpState_within ..) (by decide +kernel)
      exact h8
    · exact h8

/-- What `execWaitcEnd` can change. -/
def fpExecWaitcEnd : Nat :=
  0x100000000000000000000000000000000000000000000000000000000000000000000000000000000000000000000000000000000000000000000000000000000000000000000000000000000000000000000

theorem fpExecWaitcEnd_eq : fpExecWaitcEnd =
    fpSetClpState := by decide +kernel

theorem execWaitcEnd_within (n : Fin 64) (s : State) : Completes fpExecWaitcEnd s (execWaitcEnd n s) := by
  unfold execWaitcEnd
  refine Completes.next ?_
  refine Within.ite ?_ ?_
  · refine Within.step ?_ (setClpState_within ..) (by decide +kernel)
    exact Within.refl _ _
  · exact Within.refl _ _

/-- What `execEvm` can change. -/
def fpExecEvm : Nat :=
  0x10140000000000f8300200000000000000000000000000000000000000000000000000000000000000000000000000000008d0408c20000000000000000000000000000000000040000000000000000000000000000000000000000000000000000000000000000000000000000000000018080000000000000000000000000000007f0687f0000

theorem fpExecEvm_eq : fpExecEvm =
    footprint [R.CLP_EVT_EMASK] [.fresh] ||| fpClpIssueSoft := by decide +kernel

theorem execEvm_within (n : Fin 64) (w : BitVec 30) (s : State) : Completes fpExecEvm s (execEvm n w s) := by
  unfold execEvm
  refine Completes.next ?_
  refine Within.trans ?_ (clpIssue_within (by decide +kernel) fun _ _ a1 => ?_)
  · exact Within.refl _ _
  · extract_lets -lift +onlyGivenNames a2
    clear_value a2
    extract_lets -lift +onlyGivenNames a3
    clear_value a3
    split
    extract_lets -lift +onlyGivenNames a4
    clear_value a4
    refine Within.step ?_ (set_within _ _ _ (by decide +kernel)) (by decide +kernel)
    refine Within.ofSnd ?_ (by assumption)
    refine Within.step ?_ (free_within ..) (by decide +kernel)
    exact Within.refl _ _

/-- What `accPut` can change. -/
def fpAccPut : Nat :=
  0x4000000000000000000000000000000000000000000000000000000000000000000000000000000000000000000000000000002000000000000000000000000000000000000000000000000000000000000000000000000000000000000000000000000000000000000000000000000000000000000000000000000000000000000000000000

theorem fpAccPut_eq : fpAccPut =
    footprint [R.CLP_STATUS_AOVF] [] ||| fpSetClp ||| fpCPush := by decide +kernel

theorem accPut_within (s : State) (n c k : Nat) (v : Int) : Within fpAccPut s (accPut s n c k v) := by
  unfold accPut
  extract_lets -lift +onlyGivenNames a1
  clear_value a1
  extract_lets -lift +onlyGivenNames a2
  have h2 : Within fpAccPut s a2 := by
    unfold a2
    refine Within.when ?_ fun a3 => ?_
    · exact Within.refl _ _
    · refine Within.step ?_ (set_within _ _ _ (by decide +kernel)) (by decide +kernel)
      exact Within.refl _ _
  clear_value a2
  refine Within.step ?_ (cPush_within ..) (by decide +kernel)
  refine Within.step ?_ (setClp_within ..) (by decide +kernel)
  exact h2

/-- What `accMac` can change. -/
def fpAccMac : Nat :=
  0x4000000000000000000000000000000000000000000000000000000000000000000000000000000000000000000000000000002000000000000000000000000000000000000000000000000000000000000000000000000000000000000000000000000000000000000000000000000000000000000000000000000000000000000000000000

theorem fpAccMac_eq : fpAccMac =
    fpAccPut := by decide +kernel

theorem accMac_within (s : State) (n c k : Nat) (clr neg : Bool) (v : Int) : Within fpAccMac s (accMac s n c k clr neg v) := by
  unfold accMac
  refine Within.step ?_ (accPut_within ..) (by decide +kernel)
  exact Within.refl _ _

/-- What `cmacOn` can change. -/
def fpCmacOn : Nat :=
  0x4000000000000000000000000000000000000000000000000000000000000000000000000000000000000000000000000000002000000000000000000000000000000000000000000000000000000000000000000000000000000000000000000000000000000000000000000000000000000000000000000000000000000000000000000000

theorem fpCmacOn_eq : fpCmacOn =
    fpAccMac := by decide +kernel

theorem cmacOn_within (s : State) (n c w x y : Nat) : Within fpCmacOn s (cmacOn s n c w x y) := by
  unfold cmacOn
  extract_lets -lift +onlyGivenNames a1
  clear_value a1
  extract_lets -lift +onlyGivenNames a2
  clear_value a2
  refine Within.step ?_ (accMac_within ..) (by decide +kernel)
  refine Within.step ?_ (accMac_within ..) (by decide +kernel)
  exact Within.refl _ _

/-- What `rmacOn` can change. -/
def fpRmacOn : Nat :=
  0x4000000000000000000000000000000000000000000000000000000000000000000000000000000000000000000000000000002000000000000000000000000000000000000000000000000000000000000000000000000000000000000000000000000000000000000000000000000000000000000000000000000000000000000000000000

theorem fpRmacOn_eq : fpRmacOn =
    fpAccMac := by decide +kernel

theorem rmacOn_within (s : State) (n c w x y : Nat) : Within fpRmacOn s (rmacOn s n c w x y) := by
  unfold rmacOn
  refine Within.step ?_ (accMac_within ..) (by decide +kernel)
  exact Within.refl _ _

/-- What `twoMem` can change. -/
def fpTwoMem : Nat :=
  0x3000000000000000002000000000000000000000000000000000000000000000000000000000000000000000000000000004000000000000000000000000000000000000000000000000000000000000000000000000000000000000000000000000000000000000000000000000f9420000000000000000000000000000000000000000000000

theorem fpTwoMem_eq : fpTwoMem =
    fpCLoad ||| fpMoDone := by decide +kernel

theorem twoMem_within (s : State) (n w : Nat) : Within fpTwoMem s (twoMem s n w).2.2 := by
  unfold twoMem
  extract_lets +onlyGivenNames a1
  clear_value a1
  extract_lets +onlyGivenNames a2
  clear_value a2
  split
  split
  dsimp only
  refine Within.step ?_ (moDone_within ..) (by decide +kernel)
  refine Within.ofSnd ?_ (by assumption)
  refine Within.step ?_ (cLoad_within ..) (by decide +kernel)
  refine Within.ofSnd ?_ (by assumption)
  refine Within.step ?_ (cLoad_within ..) (by decide +kernel)
  exact Within.refl _ _

/-- What `memX` can change. -/
def fpMemX : Nat :=
  0x3000000000000000002000000000000000000000000000000000000000000000000000000000000000000000000000000004000000000000000000000000000000000000000000000000000000000000000000000000000000000000000000000000000000000000000000000000f9420000000000000000000000000000000000000000000000

theorem fpMemX_eq : fpMemX =
    fpCLoad ||| fpMoDone := by decide +kernel

theorem memX_within (s : State) (n w : Nat) : Within fpMemX s (memX s n w).2.2 := by
  unfold memX
  extract_lets +onlyGivenNames a1
  clear_value a1
  split
  dsimp only
  refine Within.step ?_ (moDone_within ..) (by decide +kernel)
  refine Within.ofSnd ?_ (by assumption)
  refine Within.step ?_ (cLoad_within ..) (by decide +kernel)
  exact Within.refl _ _

/-- What `execCmac` can change. -/
def fpExecCmac : Nat :=
  0x13140000000000f8300200000000000000000000000000000000000000000000000000000000000000000000000000000008d0400e2000000000000000000000000000000000004000000000000000000000000000000000000000000000000000000000000000000000000000000f942018080000000000000000000000000000007f0687f0000

theorem fpExecCmac_eq : fpExecCmac =
    fpClpIssueSoft ||| fpCmacOn ||| fpTwoMem := by decide +kernel

theorem execCmac_within (n : Fin 64) (w : BitVec 30) (s : State) : Completes fpExecCmac s (execCmac n w s) := by
  unfold execCmac
  refine Completes.next ?_
  refine Within.trans ?_ (clpIssue_within (by decide +kernel) fun _ _ a1 => ?_)
  · exact Within.refl _ _
  · split
    refine Within.step ?_ (cmacOn_within ..) (by decide +kernel)
    refine Within.ofSnd2 ?_ (by assumption)
    refine Within.step ?_ (twoMem_within ..) (by decide +kernel)
    exact Within.refl _ _

/-- What `execCmacx` can change. -/
def fpExecCmacx : Nat :=
  0x13140000000000f8300200000000000000000000000000000000000000000000000000000000000000000000000000000008d0400e2000000000000000000000000000000000004000000000000000000000000000000000000000000000000000000000000000000000000000000f942018080000000000000000000000000000007f0687f0000

theorem fpExecCmacx_eq : fpExecCmacx =
    fpClpIssueSoft ||| fpCmacOn ||| fpMemX := by decide +kernel

theorem execCmacx_within (n : Fin 64) (w : BitVec 30) (s : State) : Completes fpExecCmacx s (execCmacx n w s) := by
  unfold execCmacx
  refine Completes.next ?_
  refine Within.trans ?_ (clpIssue_within (by decide +kernel) fun _ _ a1 => ?_)
  · exact Within.refl _ _
  · split
    refine Within.step ?_ (cmacOn_within ..) (by decide +kernel)
    refine Within.ofSnd2 ?_ (by assumption)
    refine Within.step ?_ (memX_within ..) (by decide +kernel)
    exact Within.refl _ _

/-- What `execRmac` can change. -/
def fpExecRmac : Nat :=
  0x13140000000000f8300200000000000000000000000000000000000000000000000000000000000000000000000000000008d0400e2000000000000000000000000000000000004000000000000000000000000000000000000000000000000000000000000000000000000000000f942018080000000000000000000000000000007f0687f0000

theorem fpExecRmac_eq : fpExecRmac =
    fpClpIssueSoft ||| fpRmacOn ||| fpTwoMem := by decide +kernel

theorem execRmac_within (n : Fin 64) (w : BitVec 30) (s : State) : Completes fpExecRmac s (execRmac n w s) := by
  unfold execRmac
  refine Completes.next ?_
  refine Within.trans ?_ (clpIssue_within (by decide +kernel) fun _ _ a1 => ?_)
  · exact Within.refl _ _
  · split
    refine Within.step ?_ (rmacOn_within ..) (by decide +kernel)
    refine Within.ofSnd2 ?_ (by assumption)
    refine Within.step ?_ (twoMem_within ..) (by decide +kernel)
    exact Within.refl _ _

/-- What `execRmacx` can change. -/
def fpExecRmacx : Nat :=
  0x13140000000000f8300200000000000000000000000000000000000000000000000000000000000000000000000000000008d0400e2000000000000000000000000000000000004000000000000000000000000000000000000000000000000000000000000000000000000000000f942018080000000000000000000000000000007f0687f0000

theorem fpExecRmacx_eq : fpExecRmacx =
    fpClpIssueSoft ||| fpRmacOn ||| fpMemX := by decide +kernel

theorem execRmacx_within (n : Fin 64) (w : BitVec 30) (s : State) : Completes fpExecRmacx s (execRmacx n w s) := by
  unfold execRmacx
  refine Completes.next ?_
  refine Within.trans ?_ (clpIssue_within (by decide +kernel) fun _ _ a1 => ?_)
  · exact Within.refl _ _
  · split
    refine Within.step ?_ (rmacOn_within ..) (by decide +kernel)
    refine Within.ofSnd2 ?_ (by assumption)
    refine Within.step ?_ (memX_within ..) (by decide +kernel)
    exact Within.refl _ _

/-- What `execLda` can change. -/
def fpExecLda : Nat :=
  0x13140000000000f8300200000000000000000000000000000000000000000000000000000000000000000000000000000008d0400e2000000000000000000000000000000000004000000000000000000000000000000000000000000000000000000000000000000000000000000f942018080000000000000000000000000000007f0687f0000

theorem fpExecLda_eq : fpExecLda =
    fpClpIssueSoft ||| fpCLoad ||| fpMoDone ||| fpAccPut := by decide +kernel

theorem execLda_within (n : Fin 64) (w : BitVec 30) (s : State) : Completes fpExecLda s (execLda n w s) := by
  unfold execLda
  refine Completes.next ?_
  refine Within.trans ?_ (clpIssue_within (by decide +kernel) fun _ _ a1 => ?_)
  · exact Within.refl _ _
  · extract_lets -lift +onlyGivenNames a2
    clear_value a2
    split
    extract_lets -lift +onlyGivenNames a3
    have h3 : Within fpExecLda a1 a3 := by
      unfold a3
      refine Within.step ?_ (moDone_within ..) (by decide +kernel)
      refine Within.ofSnd ?_ (by assumption)
      refine Within.step ?_ (cLoad_within ..) (by decide +kernel)
      exact Within.refl _ _
    clear_value a3
    extract_lets -lift +onlyGivenNames a4
    clear_value a4
    extract_lets -lift +onlyGivenNames a5
    clear_value a5
    refine Within.ite ?_ ?_
    · refine Within.step ?_ (accPut_within ..) (by decide +kernel)
      refine Within.step ?_ (accPut_within ..) (by decide +kernel)
      exact h3
    · refine Within.step ?_ (accPut_within ..) (by decide +kernel)
      exact h3

/-- What `execSta` can change. -/
def fpExecSta : Nat :=
  0x13140000000000f830020000000000000000000000000000000000000000000000000000000000000000000000000000000cd0404d20000000000000000000000000000000000040000000000000000000000000000000000000000000000000000000000000000000000000000100f50018080000000000000000000000000040007f0687f0000

theorem fpExecSta_eq : fpExecSta =
    footprint [R.CLP_STATUS_SAT] [] ||| fpCPushX ||| fpClpIssueSoft ||| fpCStore ||| fpMoDone := by decide +kernel

theorem execSta_within (n : Fin 64) (w : BitVec 30) (s : State) : Completes fpExecSta s (execSta n w s) := by
  unfold execSta
  extract_lets -lift +onlyGivenNames a1
  clear_value a1
  refine Completes.next ?_
  refine Within.trans ?_ (clpIssueSoft_within (by decide +kernel) fun _ _ a2 => ?_)
  · exact Within.refl _ _
  · extract_lets -lift +onlyGivenNames a3
    clear_value a3
    extract_lets -lift +onlyGivenNames a4
    clear_value a4
    extract_lets -lift +onlyGivenNames a5
    clear_value a5
    extract_lets -lift +onlyGivenNames a6
    clear_value a6
    extract_lets -lift +onlyGivenNames a7
    clear_value a7
    split
    extract_lets -lift +onlyGivenNames a8
    have h8 : Within fpExecSta a2 a8 := by
      unfold a8
      refine Within.when ?_ fun a9 => ?_
      · exact Within.refl _ _
      · refine Within.step ?_ (set_within _ _ _ (by decide +kernel)) (by decide +kernel)
        exact Within.refl _ _
    clear_value a8
    refine Within.ite ?_ ?_
    · refine Within.step ?_ (cPushX_within ..) (by decide +kernel)
      exact h8
    · extract_lets -lift +onlyGivenNames a9
      clear_value a9
      extract_lets -lift +onlyGivenNames a10
      clear_value a10
      refine Within.step ?_ (cStore_within ..) (by decide +kernel)
      refine Within.step ?_ (moDone_within ..) (by decide +kernel)
      exact h8

/-- What `execAcc` can change. -/
def fpExecAcc : Nat :=
  0x10140000000000f8300200000000000000000000000000000000000000000000000000000000000000000000000000000008d0400f20000000000000000000000000000000000040000000000000000000000000000000000000000000000000000000000000000000000000000000000018080000000000000000000000000000007f0687f0000

theorem fpExecAcc_eq : fpExecAcc =
    footprint [R.CLP_STATUS_SAT] [.fresh] ||| fpClpIssueSoft ||| fpAccPut := by decide +kernel

theorem execAcc_within (n : Fin 64) (w : BitVec 30) (s : State) : Completes fpExecAcc s (execAcc n w s) := by
  unfold execAcc
  refine Completes.next ?_
  refine Within.trans ?_ (clpIssue_within (by decide +kernel) fun _ _ a1 => ?_)
  · exact Within.refl _ _
  · extract_lets -lift +onlyGivenNames a2
    clear_value a2
    extract_lets -lift +onlyGivenNames a3
    clear_value a3
    extract_lets -lift +onlyGivenNames a4
    clear_value a4
    extract_lets -lift +onlyGivenNames a5
    clear_value a5
    split
    · refine Within.step ?_ (accPut_within ..) (by decide +kernel)
      exact Within.refl _ _
    · refine Within.step ?_ (accPut_within ..) (by decide +kernel)
      exact Within.refl _ _
    · refine Within.step ?_ (accPut_within ..) (by decide +kernel)
      exact Within.refl _ _
    · refine Within.step ?_ (accPut_within ..) (by decide +kernel)
      exact Within.refl _ _
    · refine Within.step ?_ (accPut_within ..) (by decide +kernel)
      exact Within.refl _ _
    · extract_lets -lift +onlyGivenNames a6
      clear_value a6
      refine Within.step ?_ (accPut_within ..) (by decide +kernel)
      refine Within.when ?_ fun a7 => ?_
      · exact Within.refl _ _
      · refine Within.step ?_ (set_within _ _ _ (by decide +kernel)) (by decide +kernel)
        exact Within.refl _ _
    · refine Within.step ?_ (accPut_within ..) (by decide +kernel)
      exact Within.refl _ _
    · split
      refine Within.step ?_ (accPut_within ..) (by decide +kernel)
      refine Within.ofSnd ?_ (by assumption)
      refine Within.step ?_ (free_within ..) (by decide +kernel)
      exact Within.refl _ _

/-- What `ldstOne` can change. -/
def fpLdstOne : Nat :=
  0x13040000000000f800020000000000000000000000000000000000000000000000000000000000000000000000000000000c00004000000000000000000000000000000000000000000000000000000000000000000000000000000000000000000000000000000000000000000100f500180800000000000000000000000000400000000000000

theorem fpLdstOne_eq : fpLdstOne =
    fpCPushX ||| fpCStore := by decide +kernel

theorem ldstOne_within (s : State) (n c xd : Nat) (store : Bool) (a : Nat) (v : Nat) : Within fpLdstOne s (ldstOne s n c xd store a v) := by
  unfold ldstOne
  refine Within.ite ?_ ?_
  · refine Within.step ?_ (cStore_within ..) (by decide +kernel)
    exact Within.refl _ _
  · refine Within.step ?_ (cPushX_within ..) (by decide +kernel)
    exact Within.refl _ _

/-- What `execLdst` can change. -/
def fpExecLdst : Nat :=
  0x13140000000000f830020000000000000000000000000000000000000000000000000000000000000000000000000000000cd0404c2000000000000000000000000000000000004000000000000000000000000000000000000000000000000000000000000000000000000000010ff52018080000000000000000000000000040007f0687f0000

theorem fpExecLdst_eq : fpExecLdst =
    fpClpIssueSoft ||| fpCLoad ||| fpMoDone ||| fpLdstOne := by decide +kernel

theorem execLdst_within (n : Fin 64) (w : BitVec 30) (s : State) : Completes fpExecLdst s (execLdst n w s) := by
  unfold execLdst
  extract_lets -lift +onlyGivenNames a1
  clear_value a1
  refine Completes.next ?_
  refine Within.trans ?_ (clpIssueSoft_within (by decide +kernel) fun _ _ a2 => ?_)
  · exact Within.refl _ _
  · extract_lets -lift +onlyGivenNames a3
    clear_value a3
    extract_lets -lift +onlyGivenNames a4
    clear_value a4
    extract_lets -lift +onlyGivenNames a5
    clear_value a5
    extract_lets -lift +onlyGivenNames a6
    clear_value a6
    extract_lets -lift +onlyGivenNames a7
    clear_value a7
    split
    split
    extract_lets -lift +onlyGivenNames a8
    have h8 : Within fpExecLdst a2 a8 := by
      unfold a8
      refine Within.step ?_ (moDone_within ..) (by decide +kernel)
      refine Within.ofSnd ?_ (by assumption)
      split
      · refine Within.step ?_ (cLoad_within ..) (by decide +kernel)
        refine Within.ofSnd ?_ (by assumption)
        split
        · dsimp only
          exact Within.refl _ _
        · refine Within.step ?_ (cLoad_within ..) (by decide +kernel)
          exact Within.refl _ _
      · dsimp only
        refine Within.ofSnd ?_ (by assumption)
        split
        · dsimp only
          exact Within.refl _ _
        · refine Within.step ?_ (cLoad_within ..) (by decide +kernel)
          exact Within.refl _ _
    clear_value a8
    extract_lets -lift +onlyGivenNames a9
    have h9 : Within fpExecLdst a2 a9 := by
      unfold a9
      refine Within.step ?_ (ldstOne_within ..) (by decide +kernel)
      exact h8
    clear_value a9
    refine Within.ite ?_ ?_
    · refine Within.step ?_ (ldstOne_within ..) (by decide +kernel)
      exact h9
    · exact h9

/-- What `setX` can change. -/
def fpSetX : Nat :=
  0x14000000000000000200000000000000000000000000000000000000000000000000000000000000000000000000000000d00000000000000000000000000000000000000000000000000000000000000000000000000000000000000000000000000000000000000000000000000000000000000000000000000000000000000000000000000

theorem fpSetX_eq : fpSetX =
    fpCSettle ||| fpCPushX := by decide +kernel

theorem setX_within (s : State) (n c k v : Nat) : Within fpSetX s (setX s n c k v) := by
  unfold setX
  refine Within.step ?_ (cSettle_within ..) (by decide +kernel)
  refine Within.step ?_ (cPushX_within ..) (by decide +kernel)
  exact Within.refl _ _

/-- What `execClpAlu` can change. -/
def fpExecClpAlu : Nat :=
  0x10140000000000f8300200000000000000000000000000000000000000000000000000000000000000000000000000000008d0400c20000000000000000000000000000000000040000000000000000000000000000000000000000000000000000000000000000000000000000000000018080000000000000000000000000000007f0687f0000

theorem fpExecClpAlu_eq : fpExecClpAlu =
    footprint [] [.fresh] ||| fpClpIssueSoft ||| fpSetX := by decide +kernel

theorem execClpAlu_within (n : Fin 64) (w : BitVec 30) (s : State) : Completes fpExecClpAlu s (execClpAlu n w s) := by
  unfold execClpAlu
  refine Completes.next ?_
  refine Within.trans ?_ (clpIssue_within (by decide +kernel) fun _ _ a1 => ?_)
  · exact Within.refl _ _
  · extract_lets -lift +onlyGivenNames a2
    clear_value a2
    split
    · refine Within.step ?_ (setX_within ..) (by decide +kernel)
      exact Within.refl _ _
    · split
      refine Within.step ?_ (setX_within ..) (by decide +kernel)
      refine Within.ofSnd ?_ (by assumption)
      refine Within.step ?_ (free_within ..) (by decide +kernel)
      exact Within.refl _ _

/-- What `execMovi` can change. -/
def fpExecMovi : Nat :=
  0x10140000000000f8300200000000000000000000000000000000000000000000000000000000000000000000000000000008d0400c20000000000000000000000000000000000040000000000000000000000000000000000000000000000000000000000000000000000000000000000018080000000000000000000000000000007f0687f0000

theorem fpExecMovi_eq : fpExecMovi =
    fpClpIssueSoft ||| fpSetX := by decide +kernel

theorem execMovi_within (n : Fin 64) (w : BitVec 30) (s : State) : Completes fpExecMovi s (execMovi n w s) := by
  unfold execMovi
  refine Completes.next ?_
  refine Within.trans ?_ (clpIssue_within (by decide +kernel) fun _ _ a1 => ?_)
  · exact Within.refl _ _
  · extract_lets -lift +onlyGivenNames a2
    clear_value a2
    extract_lets -lift +onlyGivenNames a3
    clear_value a3
    refine Within.step ?_ (setX_within ..) (by decide +kernel)
    exact Within.refl _ _

/-- What `execSeta` can change. -/
def fpExecSeta : Nat :=
  0x10140000000000f8300200000000000000000000000000000000000000000000000000000000000000000000000000000008d0400c20000000000000000000000000000000000040000000000000000000000000000000000000000000000000000000000000000000000000000000000018080000000000000000000000000000007f0687f0000

theorem fpExecSeta_eq : fpExecSeta =
    fpCPush ||| fpClpIssueSoft := by decide +kernel

theorem execSeta_within (n : Fin 64) (w : BitVec 30) (s : State) : Completes fpExecSeta s (execSeta n w s) := by
  unfold execSeta
  refine Completes.next ?_
  refine Within.trans ?_ (clpIssue_within (by decide +kernel) fun _ _ a1 => ?_)
  · exact Within.refl _ _
  · extract_lets -lift +onlyGivenNames a2
    clear_value a2
    extract_lets -lift +onlyGivenNames a3
    clear_value a3
    refine Within.step ?_ (cPush_within ..) (by decide +kernel)
    exact Within.refl _ _

/-- What `execHinc` can change. -/
def fpExecHinc : Nat :=
  0x13140000000000f830020000000000000000000000000000000000000000000000000000000000000000000000000000000cd0404d20000000000000000000000000000000000040000000000000000000000000000000000000000000000000000000000000000000000000000100f50018080000000000000000000000000040007f0687f0000

theorem fpExecHinc_eq : fpExecHinc =
    footprint [R.CLP_STATUS_SAT] [] ||| fpClpIssueSoft ||| fpCStore := by decide +kernel

theorem execHinc_within (n : Fin 64) (w : BitVec 30) (s : State) : Completes fpExecHinc s (execHinc n w s) := by
  unfold execHinc
  refine Completes.next ?_
  refine Within.trans ?_ (clpIssueSoft_within (by decide +kernel) fun _ _ a1 => ?_)
  · exact Within.refl _ _
  · extract_lets -lift +onlyGivenNames a2
    clear_value a2
    extract_lets -lift +onlyGivenNames a3
    clear_value a3
    extract_lets -lift +onlyGivenNames a4
    clear_value a4
    extract_lets -lift +onlyGivenNames a5
    clear_value a5
    extract_lets -lift +onlyGivenNames a6
    have h6 : Within fpExecHinc a1 a6 := by
      unfold a6
      refine Within.when ?_ fun a7 => ?_
      · exact Within.refl _ _
      · refine Within.step ?_ (set_within _ _ _ (by decide +kernel)) (by decide +kernel)
        exact Within.refl _ _
    clear_value a6
    refine Within.step ?_ (cStore_within ..) (by decide +kernel)
    exact h6

/-- What `execRds` can change. -/
def fpExecRds : Nat :=
  0x10140000000000f8300200000000000000000000000000000000000000000000000000000000000000000000000000000008d0400c20000000000000000000000000000000000040000000000000000000000000000000000000000000000000000000000000000000000000000000000018080000000000000000000000000000007f0687f0000

theorem fpExecRds_eq : fpExecRds =
    footprint [] [.fresh] ||| fpClpIssueSoft ||| fpSetX := by decide +kernel

theorem execRds_within (n : Fin 64) (w : BitVec 30) (s : State) : Completes fpExecRds s (execRds n w s) := by
  unfold execRds
  extract_lets -lift +onlyGivenNames a1
  clear_value a1
  extract_lets -lift +onlyGivenNames a2
  clear_value a2
  refine Completes.next ?_
  refine Within.trans ?_ (clpIssue_within (by decide +kernel) fun _ _ a3 => ?_)
  · exact Within.refl _ _
  · extract_lets -lift +onlyGivenNames a4
    clear_value a4
    refine Within.ite ?_ ?_
    · refine Within.step ?_ (setX_within ..) (by decide +kernel)
      exact Within.refl _ _
    · split
      · refine Within.step ?_ (setX_within ..) (by decide +kernel)
        exact Within.refl _ _
      · split
        refine Within.step ?_ (setX_within ..) (by decide +kernel)
        refine Within.ofSnd ?_ (by assumption)
        refine Within.step ?_ (free_within ..) (by decide +kernel)
        exact Within.refl _ _

/-- What `svcFault` can change. -/
def fpSvcFault : Nat :=
  0x10000000000000f8000200000000000000000000000000000000000000000000000000000000000000000000000000000008000000800000000000000000000000000000000000000000000000000000000000000000000000000000000000000000000000000000000000000000000000180800000000000000000000000000000000000000000

theorem fpSvcFault_eq : fpSvcFault =
    footprint [R.CLP_STATUS_SVC_FAULT] [] ||| fpFire := by decide +kernel

theorem svcFault_within (s : State) (n : Nat) : Within fpSvcFault s (svcFault s n) := by
  unfold svcFault
  refine Within.ite ?_ ?_
  · exact Within.refl _ _
  · refine Within.step ?_ (fire_within ..) (by decide +kernel)
    refine Within.step ?_ (set_within _ _ _ (by decide +kernel)) (by decide +kernel)
    exact Within.refl _ _

/-- What `execClpHarvest` can change. -/
def fpExecClpHarvest : Nat :=
  0x10140000000000f9f00200000000000000000000000000000000000000000000000000000000000000000000000000000008d0400ca0000000000000000000000000000000000040000000000000000000000000000000000000000000000000000000000000000000000000000000000018080000000000000000000000000000007f06bff0000

theorem fpExecClpHarvest_eq : fpExecClpHarvest =
    fpHarvestTake ||| fpClpIssueSoft ||| fpSetX ||| fpSvcFault := by decide +kernel

theorem execClpHarvest_within (n : Fin 64) (w : BitVec 30) (s : State) : Completes fpExecClpHarvest s (execClpHarvest n w s) := by
  unfold execClpHarvest
  extract_lets -lift +onlyGivenNames a1
  clear_value a1
  extract_lets -lift +onlyGivenNames a2
  clear_value a2
  extract_lets -lift +onlyGivenNames a3
  clear_value a3
  refine Completes.next ?_
  refine Within.trans ?_ (clpIssueSoft_within (by decide +kernel) fun _ _ a4 => ?_)
  · exact Within.refl _ _
  · refine Within.ite ?_ ?_
    · refine Within.step ?_ (svcFault_within ..) (by decide +kernel)
      exact Within.refl _ _
    · split
      · exact Within.refl _ _
      · refine Within.ite ?_ ?_
        · refine Within.step ?_ (setX_within ..) (by decide +kernel)
          exact Within.refl _ _
        · split
          refine Within.step ?_ (setX_within ..) (by decide +kernel)
          refine Within.ofSnd ?_ (by assumption)
          refine Within.step ?_ (harvestTake_within ..) (by decide +kernel)
          exact Within.refl _ _

/-- What `execPub` can change. -/
def fpExecPub : Nat :=
  0x10140000000000f8300200000000000000000000000000000000000000000000000000000000000000000000000000000008d0400ca0000000000000000000000000000000000040000000000000000000000000000000000000000000000000000000000000000000000000000000000018080000000000000000000000000000007f0687f0000

theorem fpExecPub_eq : fpExecPub =
    fpSetClp ||| fpClpIssueSoft ||| fpSvcFault := by decide +kernel

theorem execPub_within (n : Fin 64) (w : BitVec 30) (s : State) : Completes fpExecPub s (execPub n w s) := by
  unfold execPub
  extract_lets -lift +onlyGivenNames a1
  clear_value a1
  refine Completes.next ?_
  refine Within.trans ?_ (clpIssueSoft_within (by decide +kernel) fun _ _ a2 => ?_)
  · exact Within.refl _ _
  · refine Within.ite ?_ ?_
    · refine Within.step ?_ (svcFault_within ..) (by decide +kernel)
      exact Within.refl _ _
    · extract_lets -lift +onlyGivenNames a3
      clear_value a3
      extract_lets -lift +onlyGivenNames a4
      clear_value a4
      refine Within.step ?_ (setClp_within ..) (by decide +kernel)
      exact Within.refl _ _

/-- What `execRec` can change. -/
def fpExecRec : Nat :=
  0x10140000000001f8300200000000000000000000000000000000000000000000000000000000000000000000000000000008d0400ca0000000000000000000000000000000000040000000000000000000000000000000000000000000000000000000000000000040000000000000000018080000000000000000000000000000007f06c7f0000

theorem fpExecRec_eq : fpExecRec =
    fpPushRec ||| fpNoteTaint ||| fpClpIssueSoft ||| fpSvcFault := by decide +kernel

theorem execRec_within (n : Fin 64) (w : BitVec 30) (s : State) : Completes fpExecRec s (execRec n w s) := by
  unfold execRec
  refine Completes.next ?_
  refine Within.trans ?_ (clpIssue_within (by decide +kernel) fun _ _ a1 => ?_)
  · exact Within.refl _ _
  · refine Within.ite ?_ ?_
    · refine Within.step ?_ (svcFault_within ..) (by decide +kernel)
      exact Within.refl _ _
    · extract_lets -lift +onlyGivenNames a2
      clear_value a2
      extract_lets -lift +onlyGivenNames a3
      clear_value a3
      extract_lets -lift +onlyGivenNames a4
      clear_value a4
      refine Within.step ?_ (pushRec_within ..) (by decide +kernel)
      refine Within.step ?_ (noteTaint_within ..) (by decide +kernel)
      exact Within.refl _ _

/-- What `execClpEmit` can change. -/
def fpExecClpEmit : Nat :=
  0x10140000000000f8300200000000000000000000000000000000000000000000000000000000000000000000000000000008d0400c20000000000000000000000000000000000040000000000000000000000000000000000000000000000000000000000000000000000000000000000018080000000000000000000000000000007f0687f0000

theorem fpExecClpEmit_eq : fpExecClpEmit =
    fpFire ||| fpClpIssueSoft := by decide +kernel

theorem execClpEmit_within (n : Fin 64) (w : BitVec 30) (s : State) : Completes fpExecClpEmit s (execClpEmit n w s) := by
  unfold execClpEmit
  refine Completes.next ?_
  refine Within.trans ?_ (clpIssue_within (by decide +kernel) fun _ _ a1 => ?_)
  · exact Within.refl _ _
  · refine Within.step ?_ (fire_within ..) (by decide +kernel)
    exact Within.refl _ _

/-- What `execCaliperPublish` can change. -/
def fpExecCaliperPublish : Nat :=
  0x30000000001c00f810020000000000000000000000000000000000000000000000000000000000000000000000000000000a0000000000000000000000000000000000000000000000000000000000000000000000000000000000000000000000000000000000000000000000000000001808000000000000000000000000000000000007f0000

theorem fpExecCaliperPublish_eq : fpExecCaliperPublish =
    footprint [R.CLP_LATE_CNT_COUNT] [] ||| fpFire ||| fpDecPublish := by decide +kernel

theorem execCaliperPublish_within (n : Fin 64) (b : Fin 4) (s : State) : Completes fpExecCaliperPublish s (execCaliperPublish n b s) := by
  unfold execCaliperPublish
  refine Completes.ite ?_ ?_
  · extract_lets -lift +onlyGivenNames a1
    clear_value a1
    refine Completes.next ?_
    split
    · refine Within.step ?_ (decPublish_within ..) (by decide +kernel)
      exact Within.refl _ _
    · refine Within.step ?_ (fire_within ..) (by decide +kernel)
      refine Within.step ?_ (inc_within _ _ _ (by decide +kernel)) (by decide +kernel)
      refine Within.step ?_ (decPublish_within ..) (by decide +kernel)
      exact Within.refl _ _
  · refine Completes.next ?_
    exact Within.refl _ _

/-- What `takeEvent` can change. -/
def fpTakeEvent : Nat :=
  0x204000000000000000000000000000000000000000000000000000000000000000000000000000000000000000000000000000140300000000000000000000000000000000000000000000000000000000000000000000000000000000000000000000000000000000000000000000402000000000000000000000000000000000000000000000

theorem fpTakeEvent_eq : fpTakeEvent =
    footprint [R.EVF_TASKST_PENDING, R.CLP_STATUS_HANDLER, R.CLP_EVT_EPEND, R.CLP_ELR_ELR] [] ||| fpMbxClpAccept |||
  fpSetClp ||| fpSetClpState := by decide +kernel

theorem takeEvent_within (s : State) (n k ret cyc : Nat) : Within fpTakeEvent s (takeEvent s n k ret cyc) := by
  unfold takeEvent
  extract_lets -lift +onlyGivenNames a1
  have h1 : Within fpTakeEvent s a1 := by
    unfold a1
    refine Within.step ?_ (set_within _ _ _ (by decide +kernel)) (by decide +kernel)
    exact Within.refl _ _
  clear_value a1
  extract_lets -lift +onlyGivenNames a2
  have h2 : Within fpTakeEvent s a2 := by
    unfold a2
    refine Within.when ?_ fun a3 => ?_
    · exact h1
    · refine Within.step ?_ (set_within _ _ _ (by decide +kernel)) (by decide +kernel)
      exact Within.refl _ _
  clear_value a2
  extract_lets -lift +onlyGivenNames a3
  have h3 : Within fpTakeEvent s a3 := by
    unfold a3
    refine Within.when ?_ fun a4 => ?_
    · exact h2
    · refine Within.step ?_ (mbxClpAccept_within ..) (by decide +kernel)
      exact Within.refl _ _
  clear_value a3
  extract_lets -lift +onlyGivenNames a4
  have h4 : Within fpTakeEvent s a4 := by
    unfold a4
    refine Within.step ?_ (set_within _ _ _ (by decide +kernel)) (by decide +kernel)
    refine Within.step ?_ (set_within _ _ _ (by decide +kernel)) (by decide +kernel)
    exact h3
  clear_value a4
  extract_lets -lift +onlyGivenNames a5
  clear_value a5
  refine Within.step ?_ (setClpState_within ..) (by decide +kernel)
  refine Within.step ?_ (setClp_within ..) (by decide +kernel)
  exact h4

/-- What `execCaliperWake` can change. -/
def fpExecCaliperWake : Nat :=
  0x204000000000000000000000000000000000000000000000000000000000000000000000000000000000000000000000000000140300000000000000000000000000000000000000000000000000000000000000000000000000000000000000000000000000000000000000000000402000000000000000000000000000000000000000000000

theorem fpExecCaliperWake_eq : fpExecCaliperWake =
    fpSetClp ||| fpSetClpState ||| fpTakeEvent := by decide +kernel

theorem execCaliperWake_within (n : Fin 64) (s : State) : Completes fpExecCaliperWake s (execCaliperWake n s) := by
  unfold execCaliperWake
  refine Completes.next ?_
  split
  · refine Within.ite ?_ ?_
    · extract_lets -lift +onlyGivenNames a1
      clear_value a1
      extract_lets -lift +onlyGivenNames a2
      clear_value a2
      extract_lets -lift +onlyGivenNames a3
      have h3 : Within fpExecCaliperWake s a3 := by
        unfold a3
        refine Within.step ?_ (setClpState_within ..) (by decide +kernel)
        refine Within.step ?_ (setClp_within ..) (by decide +kernel)
        exact Within.refl _ _
      clear_value a3
      refine Within.ite ?_ ?_
      · exact h3
      · refine Within.step ?_ (takeEvent_within ..) (by decide +kernel)
        exact h3
    · exact Within.refl _ _
  · exact Within.refl _ _

/-- What `execCaliperEventEntry` can change. -/
def fpExecCaliperEventEntry : Nat :=
  0x12140000000000f8300200000000000000000000000000000000000000000000000000000000000000000000000000000008d041443000000000000000000000000000000000004000000000000000000000000000000000000000000000000000000000000000000000000000000004021808000000000000000000000000000000000007f0000

theorem fpExecCaliperEventEntry_eq : fpExecCaliperEventEntry =
    fpSetClp ||| fpCSettle ||| fpDepTo ||| fpTakeEvent := by decide +kernel

theorem execCaliperEventEntry_within (n : Fin 64) (s : State) : Completes fpExecCaliperEventEntry s (execCaliperEventEntry n s) := by
  unfold execCaliperEventEntry
  refine Completes.next ?_
  split
  · exact Within.refl _ _
  · extract_lets -lift +onlyGivenNames a1
    clear_value a1
    refine Within.ite ?_ ?_
    · exact Within.refl _ _
    · refine Within.ite ?_ ?_
      · extract_lets -lift +onlyGivenNames a2
        clear_value a2
        refine Within.step ?_ (takeEvent_within ..) (by decide +kernel)
        refine Within.step ?_ (cSettle_within ..) (by decide +kernel)
        refine Within.step ?_ (depTo_within ..) (by decide +kernel)
        exact Within.refl _ _
      · refine Within.ite ?_ ?_
        · extract_lets -lift +onlyGivenNames a2
          clear_value a2
          refine Within.ite ?_ ?_
          · exact Within.refl _ _
          · extract_lets -lift +onlyGivenNames a3
            have h3 : Within fpExecCaliperEventEntry s a3 := by
              unfold a3
              refine Within.step ?_ (cSettle_within ..) (by decide +kernel)
              refine Within.step ?_ (depTo_within ..) (by decide +kernel)
              exact Within.refl _ _
            clear_value a3
            extract_lets -lift +onlyGivenNames a4
            clear_value a4
            refine Within.step ?_ (takeEvent_within ..) (by decide +kernel)
            refine Within.step ?_ (setClp_within ..) (by decide +kernel)
            exact h3
        · exact Within.refl _ _

/-- What `depEnter` can change. -/
def fpDepEnter : Nat :=
  0x4000000000000000000000000000000000000000000000000000000000000000000000000000000000000000000000000000000000000000000000000000000000000000000000000000000000000000000000000000000000000000000000000000000000000000000000000000000000000000000000000000000000000000000000000000

theorem fpDepEnter_eq : fpDepEnter =
    fpSetClp := by decide +kernel

theorem depEnter_within (n : Nat) (s : State) (d : DepWord) : Within fpDepEnter s (depEnter n s d) := by
  unfold depEnter
  extract_lets -lift +onlyGivenNames a1
  clear_value a1
  extract_lets -lift +onlyGivenNames a2
  clear_value a2
  refine Within.step ?_ (setClp_within ..) (by decide +kernel)
  exact Within.refl _ _

/-- What `execDepositWrite` can change. -/
def fpExecDepositWrite : Nat :=
  0x4000000000000000000000000000000000000000000000000000000000000000000000000000000000000000000000000000000000000000040000000000000000000000000000000000000000000000000000000000000000000000000000000000000000000000000000000000000000000000000000000000000000000000000000000000

theorem fpExecDepositWrite_eq : fpExecDepositWrite =
    fpSatCor ||| fpDepEnter := by decide +kernel

theorem execDepositWrite_within (n : Fin 64) (c : Fin 4) (codes : List (BitVec 12)) (s : State) : Completes fpExecDepositWrite s
    (execDepositWrite n c codes s) := by
  unfold execDepositWrite
  refine Completes.ite ?_ ?_
  · refine Completes.next ?_
    exact Within.refl _ _
  · split
    extract_lets -lift +onlyGivenNames a1
    clear_value a1
    refine Completes.next ?_
    refine Within.forAll _ ?_ fun a2 _ => ?_
    · refine Within.step ?_ (satCor_within ..) (by decide +kernel)
      exact Within.refl _ _
    · refine Within.step ?_ (depEnter_within ..) (by decide +kernel)
      exact Within.refl _ _

/-- What `clpTickEnd` can change. -/
def fpClpTickEnd : Nat :=
  0x10940000000000f8300200000000000000000000000000000000000000000000000000000000000000000000000000000008d040040000000000000000000000000000000000004000000000000000000000000000000000000000000000000000000000000000000000000000000000001808000000000000000000000000000000000007f0000

theorem fpClpTickEnd_eq : fpClpTickEnd =
    footprint [] [.depWPrev] ||| fpCSettle ||| fpDepTo := by decide +kernel

theorem clpTickEnd_within (s : State) (n : Nat) : Within fpClpTickEnd s (clpTickEnd s n) := by
  unfold clpTickEnd
  extract_lets -lift +onlyGivenNames a1
  have h1 : Within fpClpTickEnd s a1 := by
    unfold a1
    refine Within.step ?_ (cSettle_within ..) (by decide +kernel)
    refine Within.step ?_ (depTo_within ..) (by decide +kernel)
    exact Within.refl _ _
  clear_value a1
  refine Within.forAll _ ?_ fun a2 _ => ?_
  · exact h1
  · refine Within.step ?_ (depWPrev_within _ _) (by decide +kernel)
    exact Within.refl _ _

/-- What `clpTickStart` can change. -/
def fpClpTickStart : Nat :=
  0x4000000000000000000000000000000000000000000000000000000000000000000000000000000000000000000000004000040000000000000000000000000000000000000000000000000000000000000000000000000000000000000000000000000000000000000000000000000000000000000000000000000000000000000000000000

theorem fpClpTickStart_eq : fpClpTickStart =
    fpClpEvent ||| fpSetClp := by decide +kernel

theorem clpTickStart_within (s : State) (n : Nat) : Within fpClpTickStart s (clpTickStart s n) := by
  unfold clpTickStart
  extract_lets -lift +onlyGivenNames a1
  clear_value a1
  extract_lets -lift +onlyGivenNames a2
  clear_value a2
  refine Within.forAll _ ?_ fun a3 _ => ?_
  · refine Within.step ?_ (setClp_within ..) (by decide +kernel)
    exact Within.refl _ _
  · refine Within.step ?_ (clpEvent_within ..) (by decide +kernel)
    exact Within.refl _ _

/-- What `clpAbandon` can change. -/
def fpClpAbandon : Nat :=
  0x10000000000000f8000200000000000000000000000000000000000000000000000000000000000000000000000000000009000030400000000000000000000000000000000000000000000000000000000000000000000000000000000000000000000000000000000000000000000000180800000000000000000000000000000000000000000

theorem fpClpAbandon_eq : fpClpAbandon =
    footprint [R.CLP_STATUS_CUT, R.CLP_PREV_TAINT_TAINT, R.CLP_PREV_SHOT_COUNT, R.CLP_CUT_CNT_COUNT] [] ||| fpFire := by decide +kernel

theorem clpAbandon_within (s : State) (n : Nat) (old : Option Nat) : Within fpClpAbandon s (clpAbandon s n old) := by
  unfold clpAbandon
  extract_lets -lift +onlyGivenNames a1
  clear_value a1
  extract_lets -lift +onlyGivenNames a2
  have h2 : Within fpClpAbandon s a2 := by
    unfold a2
    refine Within.when ?_ fun a3 => ?_
    · exact Within.refl _ _
    · refine Within.step ?_ (fire_within ..) (by decide +kernel)
      refine Within.step ?_ (inc_within _ _ _ (by decide +kernel)) (by decide +kernel)
      refine Within.step ?_ (set_within _ _ _ (by decide +kernel)) (by decide +kernel)
      exact Within.refl _ _
  clear_value a2
  split
  · refine Within.step ?_ (set_within _ _ _ (by decide +kernel)) (by decide +kernel)
    refine Within.step ?_ (set_within _ _ _ (by decide +kernel)) (by decide +kernel)
    exact h2
  · exact h2

/-- What `clpClearEvents` can change. -/
def fpClpClearEvents : Nat := footprint [R.EVF_TASKST_PENDING, R.CLP_EVT_EPEND] []

theorem clpClearEvents_within (s : State) (n : Nat) : Within fpClpClearEvents s (clpClearEvents s n) := by
  unfold clpClearEvents
  refine Within.forAll _ ?_ fun a1 _ => ?_
  · refine Within.step ?_ (set_within _ _ _ (by decide +kernel)) (by decide +kernel)
    exact Within.refl _ _
  · refine Within.step ?_ (set_within _ _ _ (by decide +kernel)) (by decide +kernel)
    exact Within.refl _ _

/-- What `clpShotStart` can change. -/
def fpClpShotStart : Nat :=
  0x10040000000000f82002000000000000000000000000000000000000000000000000000000000000000000000000000000091041f4700000000000000000000000000000000000400000000000000000000000000000000000000000000000000000000000000000000000000000000002180800000000000000000000000000000000000000000

theorem fpClpShotStart_eq : fpClpShotStart =
    footprint [R.CLP_STATUS_HANDLER, R.CLP_EVT_EMASK, R.CLP_ELR_ELR, R.CLP_DEP_W_W, R.CLP_X_VALUE] [] ||| fpSetShotTaint
  ||| fpSetClp ||| fpSetClpState ||| fpClpAbandon ||| fpClpClearEvents := by decide +kernel

theorem clpShotStart_within (s : State) (n : Nat) (old : Option Nat) : Within fpClpShotStart s (clpShotStart s n old) := by
  unfold clpShotStart
  extract_lets -lift +onlyGivenNames a1
  have h1 : Within fpClpShotStart s a1 := by
    unfold a1
    refine Within.step ?_ (setShotTaint_within ..) (by decide +kernel)
    refine Within.step ?_ (clpAbandon_within ..) (by decide +kernel)
    exact Within.refl _ _
  clear_value a1
  extract_lets -lift +onlyGivenNames a2
  have h2 : Within fpClpShotStart s a2 := by
    unfold a2
    refine Within.forAll _ ?_ fun a3 _ => ?_
    · exact h1
    · refine Within.step ?_ (set_within _ _ _ (by decide +kernel)) (by decide +kernel)
      exact Within.refl _ _
  clear_value a2
  extract_lets -lift +onlyGivenNames a3
  have h3 : Within fpClpShotStart s a3 := by
    unfold a3
    refine Within.step ?_ (set_within _ _ _ (by decide +kernel)) (by decide +kernel)
    refine Within.step ?_ (set_within _ _ _ (by decide +kernel)) (by decide +kernel)
    refine Within.step ?_ (clpClearEvents_within ..) (by decide +kernel)
    exact h2
  clear_value a3
  extract_lets -lift +onlyGivenNames a4
  have h4 : Within fpClpShotStart s a4 := by
    unfold a4
    refine Within.step ?_ (set_within _ _ _ (by decide +kernel)) (by decide +kernel)
    exact h3
  clear_value a4
  extract_lets -lift +onlyGivenNames a5
  have h5 : Within fpClpShotStart s a5 := by
    unfold a5
    refine Within.forAll _ ?_ fun a6 _ => ?_
    · exact h4
    · extract_lets -lift +onlyGivenNames a7
      clear_value a7
      refine Within.ite ?_ ?_
      · refine Within.step ?_ (set_within _ _ _ (by decide +kernel)) (by decide +kernel)
        exact Within.refl _ _
      · exact Within.refl _ _
  clear_value a5
  extract_lets -lift +onlyGivenNames a6
  clear_value a6
  refine Within.step ?_ (setClpState_within ..) (by decide +kernel)
  refine Within.step ?_ (setClp_within ..) (by decide +kernel)
  exact h5

/-- What `clpRunClear` can change. -/
def fpClpRunClear : Nat := footprint [R.CLP_X_VALUE, R.CLP_P_VALUE, R.CLP_M_VALUE] []

theorem clpRunClear_within (s : State) (n : Nat) : Within fpClpRunClear s (clpRunClear s n) := by
  unfold clpRunClear
  extract_lets -lift +onlyGivenNames a1
  have h1 : Within fpClpRunClear s a1 := by
    unfold a1
    refine Within.forAll _ ?_ fun a2 _ => ?_
    · exact Within.refl _ _
    · refine Within.step ?_ (set_within _ _ _ (by decide +kernel)) (by decide +kernel)
      exact Within.refl _ _
  clear_value a1
  refine Within.forAll _ ?_ fun a2 _ => ?_
  · exact h1
  · refine Within.step ?_ (set_within _ _ _ (by decide +kernel)) (by decide +kernel)
    refine Within.step ?_ (set_within _ _ _ (by decide +kernel)) (by decide +kernel)
    exact Within.refl _ _

/-- What `clpRun` can change. -/
def fpClpRun : Nat :=
  0x4000000000000000000000000000000000000000000000000000000000000000000000000000000000000000000000000d00000100000000000000000000000000000000000000000000000000000000000000000000000000000000000000000000000000000000000000000000000000000000000000000000000000000000000000000000

theorem fpClpRun_eq : fpClpRun =
    fpSetClp ||| fpSetClpState ||| fpClpRunClear := by decide +kernel

theorem clpRun_within (s : State) (n : Nat) : Within fpClpRun s (clpRun s n) := by
  unfold clpRun
  refine Within.step ?_ (setClpState_within ..) (by decide +kernel)
  refine Within.step ?_ (setClp_within ..) (by decide +kernel)
  refine Within.step ?_ (clpRunClear_within ..) (by decide +kernel)
  exact Within.refl _ _

/-- What `clpHold` can change. -/
def fpClpHold : Nat :=
  0x14000000000000000000000000000000000000000000000000000000000000000000000000000000000000000000000000d00000100000000000000000000000000000000000000000000000000000000000000000000000000000000000000000000000000000000000000000000000000000000000000000000000000000000000000000000

theorem fpClpHold_eq : fpClpHold =
    fpSetClp ||| fpSetClpState ||| fpCSettle := by decide +kernel

theorem clpHold_within (s : State) (n : Nat) : Within fpClpHold s (clpHold s n) := by
  unfold clpHold
  extract_lets -lift +onlyGivenNames a1
  clear_value a1
  extract_lets -lift +onlyGivenNames a2
  have h2 : Within fpClpHold s a2 := by
    unfold a2
    refine Within.step ?_ (cSettle_within ..) (by decide +kernel)
    exact Within.refl _ _
  clear_value a2
  extract_lets -lift +onlyGivenNames a3
  clear_value a3
  refine Within.step ?_ (setClpState_within ..) (by decide +kernel)
  refine Within.step ?_ (setClp_within ..) (by decide +kernel)
  exact h2

/-- What `clpRestore` can change. -/
def fpClpRestore : Nat := footprint [] [.clpMem]

theorem clpRestore_within (s : State) (n : Nat) : Within fpClpRestore s (clpRestore s n) := by
  unfold clpRestore
  extract_lets -lift +onlyGivenNames a1
  clear_value a1
  refine Within.step ?_ (clpMem_within _ _) (by decide +kernel)
  exact Within.refl _ _

/-- What `execCaliperRestoreDone` can change. -/
def fpExecCaliperRestoreDone : Nat :=
  0x14000000000000000000000000000000000000000000000000000000000000000000000000000000000000000000000000000000000000000000000000000000000000000000000000000000000000000000000000000000000000000000000000000000000000000000000000000000000000000000000000000000000000000000000000000

theorem fpExecCaliperRestoreDone_eq : fpExecCaliperRestoreDone =
    fpSetClp ||| fpClpRestore := by decide +kernel

theorem execCaliperRestoreDone_within (n : Fin 64) (s : State) : Completes fpExecCaliperRestoreDone s (execCaliperRestoreDone n s) := by
  unfold execCaliperRestoreDone
  refine Completes.next ?_
  refine Within.ite ?_ ?_
  · refine Within.step ?_ (setClp_within ..) (by decide +kernel)
    refine Within.step ?_ (clpRestore_within ..) (by decide +kernel)
    exact Within.refl _ _
  · exact Within.refl _ _

/-- What `clpServiceStart` can change. -/
def fpClpServiceStart : Nat :=
  0x40000000000000000000000000000000000000000000000000000000000000000000000000000000000000000000000000001c0300000000000000000000000000000000000000000000000000000000000000000000000000000000000000000000000000000000000000000000002000000000000000000000000000000000000000000000

theorem fpClpServiceStart_eq : fpClpServiceStart =
    footprint [R.CLP_STATUS_HANDLER, R.CLP_EVT_EMASK, R.CLP_ELR_ELR] [] ||| fpSetClp ||| fpSetClpState |||
  fpClpClearEvents := by decide +kernel

theorem clpServiceStart_within (s : State) (n : Nat) : Within fpClpServiceStart s (clpServiceStart s n) := by
  unfold clpServiceStart
  extract_lets -lift +onlyGivenNames a1
  have h1 : Within fpClpServiceStart s a1 := by
    unfold a1
    refine Within.step ?_ (set_within _ _ _ (by decide +kernel)) (by decide +kernel)
    refine Within.step ?_ (set_within _ _ _ (by decide +kernel)) (by decide +kernel)
    refine Within.step ?_ (clpClearEvents_within ..) (by decide +kernel)
    exact Within.refl _ _
  clear_value a1
  extract_lets -lift +onlyGivenNames a2
  have h2 : Within fpClpServiceStart s a2 := by
    unfold a2
    refine Within.step ?_ (set_within _ _ _ (by decide +kernel)) (by decide +kernel)
    exact h1
  clear_value a2
  refine Within.step ?_ (setClpState_within ..) (by decide +kernel)
  refine Within.step ?_ (setClp_within ..) (by decide +kernel)
  exact h2

/-- What `clpMemNext` can change. -/
def fpClpMemNext : Nat := footprint [R.CLP_MEM_CTRL_ADDR] []

theorem clpMemNext_within (s : State) (n : Nat) : Within fpClpMemNext s (clpMemNext s n) := by
  unfold clpMemNext
  refine Within.when ?_ fun a1 => ?_
  · exact Within.refl _ _
  · refine Within.step ?_ (set_within _ _ _ (by decide +kernel)) (by decide +kernel)
    exact Within.refl _ _

/-- What `clpMemRead` can change. -/
def fpClpMemRead : Nat :=
  0x40000000000000000000000000000000000000000000000000000000000000000000000000000000000000000000000000000000000000000000000000000000000000000000000000000000000000000000000000

theorem fpClpMemRead_eq : fpClpMemRead =
    fpClpMemNext := by decide +kernel

theorem clpMemRead_within (s : State) (n : Nat) : Within fpClpMemRead s (clpMemRead s n).2 := by
  unfold clpMemRead
  extract_lets +onlyGivenNames a1
  clear_value a1
  dsimp only
  refine Within.step ?_ (clpMemNext_within ..) (by decide +kernel)
  exact Within.refl _ _

/-- What `clpMemWrite` can change. -/
def fpClpMemWrite : Nat :=
  0x38000000000000000000000000000000000000000000000000000000000000000000000000000000000000000000000000040000000000000000000000000000000000000000000000000000000000000000000000000000000000000000000000000000000000000000000000000000000000000000000000000000000000000000000000000

theorem fpClpMemWrite_eq : fpClpMemWrite =
    footprint [] [.clpProg, .clpInit] ||| fpSetDmem ||| fpClpMemNext := by decide +kernel

theorem clpMemWrite_within (s : State) (n v : Nat) : Within fpClpMemWrite s (clpMemWrite s n v) := by
  unfold clpMemWrite
  extract_lets -lift +onlyGivenNames a1
  clear_value a1
  refine Within.step ?_ (clpMemNext_within ..) (by decide +kernel)
  split
  · refine Within.ite ?_ ?_
    · refine Within.step ?_ (clpProg_within _ _) (by decide +kernel)
      exact Within.refl _ _
    · exact Within.refl _ _
  · extract_lets -lift +onlyGivenNames a2
    have h2 : Within fpClpMemWrite s a2 := by
      unfold a2
      refine Within.step ?_ (setDmem_within ..) (by decide +kernel)
      exact Within.refl _ _
    clear_value a2
    refine Within.ite ?_ ?_
    · exact h2
    · refine Within.step ?_ (clpInit_within _ _) (by decide +kernel)
      exact h2
  · exact Within.refl _ _

end Sys2Proof.Machine
end

