-- ==== Sys2Proof/Laws/Fabric.lean ====
section
/-! SUPPORT. What each operation of Sys2Proof/Machine/Fabric.lean can change. -/

set_option Elab.async false

namespace Sys2Proof.Machine

/-- What `execEventFire` can change. -/
def fpExecEventFire : Nat :=
  0x10000000000000f8000200000000000000000000000000000000000000000000000000000000000000000000000000000008000000000000000000000000000000000000000000000000000000000000000000000000000000000000000000000000000000000000000000000000000000180800000000000000000000000000000000000000000

theorem fpExecEventFire_eq : fpExecEventFire =
    fpFire := by decide +kernel

theorem execEventFire_within (src : Fin 1536) (s : State) : Completes fpExecEventFire s (execEventFire src s) := by
  unfold execEventFire
  refine Completes.next ?_
  refine Within.ite ?_ ?_
  · refine Within.step ?_ (fire_within ..) (by decide +kernel)
    exact Within.refl _ _
  · exact Within.refl _ _

/-- What `softwareFire` can change. -/
def fpSoftwareFire : Nat :=
  0x10000000000000f8000200000000000000000000000000000000000000000000000000000000000000000000000000000008000000000000000000000000000000000000000000000000000000000000000000000000000000000000000000000000000000000000000000000000000000180a00000000000001fe0000000000000000000000000

theorem fpSoftwareFire_eq : fpSoftwareFire =
    footprint [R.EVF_STATUS_OWNER_REFUSED] [] ||| fpEvfNotice ||| fpFireChannel ||| fpWorldViolation := by decide +kernel

theorem softwareFire_within (s : State) (m : Master) (ch off : Nat) : Within fpSoftwareFire s (softwareFire s m ch off) := by
  unfold softwareFire
  refine Within.ite ?_ ?_
  · refine Within.step ?_ (worldViolation_within ..) (by decide +kernel)
    exact Within.refl _ _
  · refine Within.ite ?_ ?_
    · refine Within.step ?_ (fireChannel_within ..) (by decide +kernel)
      exact Within.refl _ _
    · refine Within.step ?_ (evfNotice_within ..) (by decide +kernel)
      refine Within.step ?_ (set_within _ _ _ (by decide +kernel)) (by decide +kernel)
      exact Within.refl _ _

/-- What `clpActivate` can change. -/
def fpClpActivate : Nat :=
  0x14000000000000f800020000000000000000000000000000000000000000000000000000000000000000000000000000000c00004000000000000000000000000000000000000000000000000000000000000000000000000000000000000000000000000000000000000000000000000e180c00000000000000000000000000000000000000000

theorem fpClpActivate_eq : fpClpActivate =
    footprint [R.EVF_STATUS_OVERRUN, R.EVF_TASKST_PENDING, R.EVF_TASKST_OVERRUN, R.EVF_TASKST_COALESCE] [.taskLast] |||
  fpEvfNotice ||| fpClpEvent := by decide +kernel

theorem clpActivate_within (s : State) (t : Nat) : Within fpClpActivate s (clpActivate s t) := by
  unfold clpActivate
  refine Within.ite ?_ ?_
  · refine Within.step ?_ (inc_within _ _ _ (by decide +kernel)) (by decide +kernel)
    exact Within.refl _ _
  · extract_lets -lift +onlyGivenNames a1
    have h1 : Within fpClpActivate s a1 := by
      unfold a1
      refine Within.step ?_ (taskLast_within _ _) (by decide +kernel)
      exact Within.refl _ _
    clear_value a1
    extract_lets -lift +onlyGivenNames a2
    have h2 : Within fpClpActivate s a2 := by
      unfold a2
      refine Within.ite ?_ ?_
      · refine Within.step ?_ (evfNotice_within ..) (by decide +kernel)
        refine Within.step ?_ (set_within _ _ _ (by decide +kernel)) (by decide +kernel)
        refine Within.step ?_ (set_within _ _ _ (by decide +kernel)) (by decide +kernel)
        exact h1
      · refine Within.step ?_ (set_within _ _ _ (by decide +kernel)) (by decide +kernel)
        exact h1
    clear_value a2
    refine Within.step ?_ (clpEvent_within ..) (by decide +kernel)
    exact h2

/-- What `execEventDelivery` can change. -/
def fpExecEventDelivery : Nat :=
  0x4001014000008000000f800020000000000000000000000000000000000000000000000000000000000000000000000000000000c0000400000000000000000000000000000000410000000000019017f000000000000000000000000000000000000000000000000000000000000000000000e180c00000000000000000000000000000000000000000

theorem fpExecEventDelivery_eq : fpExecEventDelivery =
    footprint [] [.deliver] ||| fpLatchFiring ||| fpTdcFiring ||| fpClpActivate := by decide +kernel

theorem execEventDelivery_within (ch : Fin 512) (s : State) : Completes fpExecEventDelivery s (execEventDelivery ch s) := by
  unfold execEventDelivery
  extract_lets -lift +onlyGivenNames a1
  clear_value a1
  extract_lets -lift +onlyGivenNames a2
  have h2 : Within fpExecEventDelivery s a2 := by
    unfold a2
    refine Within.step ?_ (deliver_within _ _) (by decide +kernel)
    exact Within.refl _ _
  clear_value a2
  refine Completes.next ?_
  refine Within.forAll _ ?_ fun a3 _ => ?_
  · exact h2
  · extract_lets -lift +onlyGivenNames a4
    have h4 : Within fpExecEventDelivery a3 a4 := by
      unfold a4
      refine Within.forAll _ ?_ fun a5 _ => ?_
      · exact Within.refl _ _
      · refine Within.step ?_ (latchFiring_within ..) (by decide +kernel)
        exact Within.refl _ _
    clear_value a4
    extract_lets -lift +onlyGivenNames a5
    have h5 : Within fpExecEventDelivery a3 a5 := by
      unfold a5
      refine Within.forAll _ ?_ fun a6 _ => ?_
      · exact h4
      · refine Within.step ?_ (clpActivate_within ..) (by decide +kernel)
        exact Within.refl _ _
    clear_value a5
    refine Within.step ?_ (tdcFiring_within ..) (by decide +kernel)
    exact h5

/-- What `execTaskActivation` can change. -/
def fpExecTaskActivation : Nat :=
  0x20010000000000000f800020000000000000000000000000000000000000000000000000000000000000000000000000000000c00004000000000000000000000000000000000000000000000000000000000000000000000000000002000040000000000000000000000000000000000000e180c00000000000000000000000000400000000000000

theorem fpExecTaskActivation_eq : fpExecTaskActivation =
    footprint [R.GLB_PLN_STATUS_STATE, R.EVF_STATUS_OVERRUN, R.EVF_TASKST_PENDING, R.EVF_TASKST_OVERRUN,
  R.EVF_TASKST_COALESCE, R.MON_STATUS_INJ_OVERRUN, R.MON_INJ_RES_OVERRUN] [.arrivals] ||| fpEvfNotice ||| fpClpEvent ||| fpMsixSignal := by decide +kernel

theorem execTaskActivation_within (t : Fin 1024) (s : State) : Completes fpExecTaskActivation s (execTaskActivation t s) := by
  unfold execTaskActivation
  extract_lets -lift +onlyGivenNames a1
  clear_value a1
  refine Completes.ite ?_ ?_
  · refine Completes.next ?_
    exact Within.refl _ _
  · split
    · refine Completes.next ?_
      exact Within.refl _ _
    · extract_lets -lift +onlyGivenNames a2
      clear_value a2
      extract_lets -lift +onlyGivenNames a3
      have h3 : Within fpExecTaskActivation s a3 := by
        unfold a3
        refine Within.step ?_ (arrivals_within _ _) (by decide +kernel)
        exact Within.refl _ _
      clear_value a3
      extract_lets -lift +onlyGivenNames a4
      have h4 : Within fpExecTaskActivation s a4 := by
        unfold a4
        refine Within.when ?_ fun a5 => ?_
        · exact h3
        · refine Within.step ?_ (inc_within _ _ _ (by decide +kernel)) (by decide +kernel)
          exact Within.refl _ _
      clear_value a4
      refine Completes.next ?_
      refine Within.ite ?_ ?_
      · exact h4
      · extract_lets -lift +onlyGivenNames a5
        clear_value a5
        extract_lets -lift +onlyGivenNames a6
        have h6 : Within fpExecTaskActivation s a6 := by
          unfold a6
          refine Within.when ?_ fun a7 => ?_
          · exact h4
          · refine Within.step ?_ (clpEvent_within ..) (by decide +kernel)
            exact Within.refl _ _
        clear_value a6
        refine Within.ite ?_ ?_
        · extract_lets -lift +onlyGivenNames a7
          have h7 : Within fpExecTaskActivation s a7 := by
            unfold a7
            refine Within.step ?_ (evfNotice_within ..) (by decide +kernel)
            refine Within.step ?_ (set_within _ _ _ (by decide +kernel)) (by decide +kernel)
            refine Within.step ?_ (set_within _ _ _ (by decide +kernel)) (by decide +kernel)
            exact h6
          clear_value a7
          refine Within.when ?_ fun a8 => ?_
          · exact h7
          · refine Within.step ?_ (set_within _ _ _ (by decide +kernel)) (by decide +kernel)
            refine Within.step ?_ (set_within _ _ _ (by decide +kernel)) (by decide +kernel)
            exact Within.refl _ _
        · extract_lets -lift +onlyGivenNames a7
          have h7 : Within fpExecTaskActivation s a7 := by
            unfold a7
            refine Within.step ?_ (set_within _ _ _ (by decide +kernel)) (by decide +kernel)
            exact h6
          clear_value a7
          extract_lets -lift +onlyGivenNames a8
          clear_value a8
          refine Within.ite ?_ ?_
          · refine Within.when ?_ fun a9 => ?_
            · exact h7
            · refine Within.step ?_ (set_within _ _ _ (by decide +kernel)) (by decide +kernel)
              exact Within.refl _ _
          · refine Within.ite ?_ ?_
            · refine Within.step ?_ (msixSignal_within ..) (by decide +kernel)
              exact h7
            · exact h7

/-- What `chstWritten` can change. -/
def fpChstWritten : Nat := footprint [R.EVF_CHST_REFUSE_CNT] []

theorem chstWritten_within (s : State) (c v : Nat) : Within fpChstWritten s (chstWritten s c v) := by
  unfold chstWritten
  refine Within.ite ?_ ?_
  · exact Within.refl _ _
  · refine Within.step ?_ (set_within _ _ _ (by decide +kernel)) (by decide +kernel)
    exact Within.refl _ _

/-- What `taskstWritten` can change. -/
def fpTaskstWritten : Nat := footprint [R.EVF_TASKST_PENDING, R.EVF_TASKST_COALESCE] []

theorem taskstWritten_within (before s : State) (t v : Nat) : Within fpTaskstWritten s (taskstWritten before s t v) := by
  unfold taskstWritten
  extract_lets -lift +onlyGivenNames a1
  have h1 : Within fpTaskstWritten s a1 := by
    unfold a1
    refine Within.ite ?_ ?_
    · exact Within.refl _ _
    · refine Within.step ?_ (put_within _ _ _ (by decide +kernel)) (by decide +kernel)
      exact Within.refl _ _
  clear_value a1
  refine Within.ite ?_ ?_
  · exact h1
  · refine Within.step ?_ (set_within _ _ _ (by decide +kernel)) (by decide +kernel)
    exact h1

/-- What `execEvhCut` can change. -/
def fpExecEvhCut : Nat := footprint [] [.evhLatch, .evhSent, .fresh]

theorem execEvhCut_within (p : BitVec 16) (s : State) : Completes fpExecEvhCut s (execEvhCut p s) := by
  unfold execEvhCut
  refine Completes.next ?_
  refine Within.ite ?_ ?_
  · exact Within.refl _ _
  · split
    · exact Within.refl _ _
    · refine Within.ite ?_ ?_
      · split
        extract_lets -lift +onlyGivenNames a1
        clear_value a1
        extract_lets -lift +onlyGivenNames a2
        clear_value a2
        extract_lets -lift +onlyGivenNames a3
        clear_value a3
        refine Within.step ?_ (upd_evhLatch_evhSent_within _ _ _) (by decide +kernel)
        refine Within.ofSnd ?_ (by assumption)
        refine Within.step ?_ (free_within ..) (by decide +kernel)
        exact Within.refl _ _
      · exact Within.refl _ _

/-- What `evhVisible` can change. -/
def fpEvhVisible : Nat :=
  0x800000000000000400200000000000000000000000000000000000000000000000000000000000000000000000000000000000000000000000000000000000000000000000000000000000000000000000000000000000000000000000000000000000000000000000000000000000000000000000000000000000000000000000000802000000

theorem fpEvhVisible_eq : fpEvhVisible =
    footprint [] [.evhSent] ||| fpHarvestVisible := by decide +kernel

theorem evhVisible_within (s : State) : Within fpEvhVisible s (evhVisible s) := by
  unfold evhVisible
  extract_lets -lift +onlyGivenNames a1
  clear_value a1
  refine Within.forAll _ ?_ fun a2 _ => ?_
  · refine Within.step ?_ (evhSent_within _ _) (by decide +kernel)
    exact Within.refl _ _
  · refine Within.step ?_ (harvestVisible_within ..) (by decide +kernel)
    exact Within.refl _ _

/-- What `evhCutWritten` can change. -/
def fpEvhCutWritten : Nat := footprint [] [.points]

theorem evhCutWritten_within (s : State) : Within fpEvhCutWritten s (evhCutWritten s) := by
  unfold evhCutWritten
  extract_lets -lift +onlyGivenNames a1
  clear_value a1
  split
  · refine Within.ite ?_ ?_
    · refine Within.step ?_ (points_within _ _) (by decide +kernel)
      exact Within.refl _ _
    · exact Within.refl _ _
  · exact Within.refl _ _

/-- What `evhCutShow` can change. -/
def fpEvhCutShow : Nat := footprint [R.EVF_EVH_CUT_CUT] []

theorem evhCutShow_within (s : State) : Within fpEvhCutShow s (evhCutShow s) := by
  unfold evhCutShow
  refine Within.step ?_ (set_within _ _ _ (by decide +kernel)) (by decide +kernel)
  exact Within.refl _ _

/-- What `lockRead` can change. -/
def fpLockRead : Nat := footprint [R.LCK_STATE_HELD, R.LCK_STATE_OWNER] []

theorem lockRead_within (s : State) (r k : Nat) : Within fpLockRead s (lockRead s r k).2 := by
  unfold lockRead
  split
  · dsimp only
    exact Within.refl _ _
  · dsimp only
    refine Within.step ?_ (set_within _ _ _ (by decide +kernel)) (by decide +kernel)
    refine Within.step ?_ (set_within _ _ _ (by decide +kernel)) (by decide +kernel)
    exact Within.refl _ _

/-- What `lockFree` can change. -/
def fpLockFree : Nat := footprint [R.LCK_STATE_HELD, R.LCK_STATE_OWNER] []

theorem lockFree_within (s : State) (k : Nat) : Within fpLockFree s (lockFree s k) := by
  unfold lockFree
  refine Within.step ?_ (set_within _ _ _ (by decide +kernel)) (by decide +kernel)
  refine Within.step ?_ (set_within _ _ _ (by decide +kernel)) (by decide +kernel)
  exact Within.refl _ _

/-- What `lockWrite` can change. -/
def fpLockWrite : Nat :=
  0x2c000000000000000000000000000000000000000000000000000

theorem fpLockWrite_eq : fpLockWrite =
    footprint [R.LCK_STATUS_FOREIGN] [] ||| fpLockFree := by decide +kernel

theorem lockWrite_within (s : State) (r k : Nat) : Within fpLockWrite s (lockWrite s r k) := by
  unfold lockWrite
  refine Within.ite ?_ ?_
  · refine Within.step ?_ (lockFree_within ..) (by decide +kernel)
    exact Within.refl _ _
  · refine Within.step ?_ (set_within _ _ _ (by decide +kernel)) (by decide +kernel)
    exact Within.refl _ _

/-- What `lockForce` can change. -/
def fpLockForce : Nat :=
  0x4c000000000000000000000000000000000000000000000000000

theorem fpLockForce_eq : fpLockForce =
    footprint [R.LCK_FORCE_CNT_COUNT] [] ||| fpLockFree := by decide +kernel

theorem lockForce_within (s : State) (k : Nat) : Within fpLockForce s (lockForce s k) := by
  unfold lockForce
  refine Within.step ?_ (inc_within _ _ _ (by decide +kernel)) (by decide +kernel)
  refine Within.step ?_ (lockFree_within ..) (by decide +kernel)
  exact Within.refl _ _

end Sys2Proof.Machine
end

