-- ==== Sys2Proof/Laws/Lanes.lean ====
section
/-! SUPPORT. What each operation of Sys2Proof/Machine/Lanes.lean can change. -/

set_option Elab.async false

namespace Sys2Proof.Machine

/-- What `setLan` can change. -/
def fpSetLan : Nat := footprint [] [.lans]

theorem setLan_within (s : State) (l : Nat) (x : Lan) : Within fpSetLan s (setLan s l x) := by
  unfold setLan
  refine Within.step ?_ (lans_within _ _) (by decide +kernel)
  exact Within.refl _ _

/-- What `updLan` can change. -/
def fpUpdLan : Nat :=
  0x4000000000000000000000000000000000000000000000000000000000000000000000000000000000000000000000000000000000000000000000000000000000000000000000000000000000000000000000000000000000000000000000000000000000000000000000000000000000000000000000000000000000000000000000000000000000

theorem fpUpdLan_eq : fpUpdLan =
    fpSetLan := by decide +kernel

theorem updLan_within (s : State) (l : Nat) (f : Lan → Lan) : Within fpUpdLan s (updLan s l f) := by
  unfold updLan
  refine Within.step ?_ (setLan_within ..) (by decide +kernel)
  exact Within.refl _ _

/-- What `lanFire` can change. -/
def fpLanFire : Nat :=
  0x10000000000000f8000200000000000000000000000000000000000000000000000000000000000000000000000000000008000000000000000000000000000000000000000000000000000000000000000000000000000000000000000000000000000000000000000000000000000000180800000000000000000000000000000000000000000

theorem fpLanFire_eq : fpLanFire =
    fpFire := by decide +kernel

theorem lanFire_within (s : State) (l k : Nat) : Within fpLanFire s (lanFire s l k) := by
  unfold lanFire
  refine Within.step ?_ (fire_within ..) (by decide +kernel)
  exact Within.refl _ _

/-- What `lanError` can change beside its field. -/
def fpLanError : Nat :=
  0x10000000000000f8000200000000000000000000000000000000000000000000000000000000000000000000000000000008000000000000000000000000000000000000000000000000000000000000000000000000000000000000000000000000000000000000000000000000000000180800000000000000000000000000000000000000000

theorem fpLanError_eq : fpLanError =
    fpLanFire := by decide +kernel

theorem lanError_within {K : Nat} {s : State} {l : Nat} {f : Fld} (hf : Fits f) (hb : 2 ^ f.id &&& K = 2 ^ f.id)
    (hk : fpLanError &&& K = fpLanError) : Within K s (lanError s f l) := by
  unfold lanError
  refine Within.ite (Within.refl _ _) ?_
  exact Within.step (Within.step (Within.refl _ _) (set_within _ _ _ hf) hb) (lanFire_within ..) hk

/-- What `setResEn` can change. -/
def fpSetResEn : Nat :=
  0x10000000000000f8000200000000000000000000000000000000000000000000000000000000000000000000000000000008000000000000000000000000000000000000000000000000000000000000000000000000000000000000000000000000000000000010000000000000000000180800000000000000000000000000000000000000000

theorem fpSetResEn_eq : fpSetResEn =
    footprint [R.LAN_STATUS_RES_EN] [] ||| fpLanFire := by decide +kernel

theorem setResEn_within (s : State) (l : Nat) (b : Bool) : Within fpSetResEn s (setResEn s l b) := by
  unfold setResEn
  refine Within.ite ?_ ?_
  · exact Within.refl _ _
  · refine Within.step ?_ (lanFire_within ..) (by decide +kernel)
    refine Within.step ?_ (set_within _ _ _ (by decide +kernel)) (by decide +kernel)
    exact Within.refl _ _

/-- What `lanHunt` can change. -/
def fpLanHunt : Nat :=
  0x40010000000000000f8000200000000000000000000000000000000000000000000000000000000000000000000000000000008000000000000000000000000000000000000000000000000000000000000000000000000000000000000000000000000000000000038000000000000000000180800000000000000000000000000000000000000000

theorem fpLanHunt_eq : fpLanHunt =
    footprint [R.LAN_STATUS_STATE, R.LAN_STATUS_LOCK] [] ||| fpSetLan ||| fpSetResEn := by decide +kernel

theorem lanHunt_within (s : State) (l : Nat) : Within fpLanHunt s (lanHunt s l) := by
  unfold lanHunt
  extract_lets -lift +onlyGivenNames a1
  have h1 : Within fpLanHunt s a1 := by
    unfold a1
    refine Within.step ?_ (setResEn_within ..) (by decide +kernel)
    refine Within.step ?_ (set_within _ _ _ (by decide +kernel)) (by decide +kernel)
    exact Within.refl _ _
  clear_value a1
  extract_lets -lift +onlyGivenNames a2
  clear_value a2
  refine Within.step ?_ (setLan_within ..) (by decide +kernel)
  refine Within.step ?_ (set_within _ _ _ (by decide +kernel)) (by decide +kernel)
  exact h1

/-- What `lanOff` can change. -/
def fpLanOff : Nat :=
  0x40010000000000000f8000200000000000000000000000000000000000000000000000000000000000000000000000000000008000000000000000000000000000000000000000000000000000000000000000000000000000000000000000000000000000000000138000000000000000000180800000000000000000000000000000000000000000

theorem fpLanOff_eq : fpLanOff =
    footprint [R.LAN_STATUS_STATE, R.LAN_STATUS_LOCK, R.LAN_STATUS_PRBS_SYNC] [] ||| fpSetLan ||| fpSetResEn := by decide +kernel

theorem lanOff_within (s : State) (l : Nat) : Within fpLanOff s (lanOff s l) := by
  unfold lanOff
  extract_lets -lift +onlyGivenNames a1
  have h1 : Within fpLanOff s a1 := by
    unfold a1
    refine Within.step ?_ (setResEn_within ..) (by decide +kernel)
    refine Within.step ?_ (set_within _ _ _ (by decide +kernel)) (by decide +kernel)
    refine Within.step ?_ (set_within _ _ _ (by decide +kernel)) (by decide +kernel)
    exact Within.refl _ _
  clear_value a1
  refine Within.step ?_ (setLan_within ..) (by decide +kernel)
  refine Within.step ?_ (set_within _ _ _ (by decide +kernel)) (by decide +kernel)
  exact h1

/-- What `lanesRehunt` can change. -/
def fpLanesRehunt : Nat :=
  0x40010000000000000f8000200000000000000000000000000000000000000000000000000000000000000000000000000000008000000000000000000000000000000000000000000000000000000000000000000000000000000000000000000000000000000000038000000000000000000180800000000000000000000000000000000000000000

theorem fpLanesRehunt_eq : fpLanesRehunt =
    fpLanHunt := by decide +kernel

theorem lanesRehunt_within (s : State) : Within fpLanesRehunt s (lanesRehunt s) := by
  unfold lanesRehunt
  refine Within.forAll _ ?_ fun a1 _ => ?_
  · exact Within.refl _ _
  · refine Within.when ?_ fun a2 => ?_
    · exact Within.refl _ _
    · refine Within.step ?_ (lanHunt_within ..) (by decide +kernel)
      exact Within.refl _ _

/-- What `execSkewTapStep` can change. -/
def fpExecSkewTapStep : Nat :=
  0x40010000000000000f8022200000000000000000000000000000000000000000000000000000000000000000000000000000008000000000000000000000000000000000000000000000000000000000000000000000000000000000000000000000000000000000038000000000000000000180800008002010000000000000000000000000000000

theorem fpExecSkewTapStep_eq : fpExecSkewTapStep =
    footprint [R.CLK_PHASE_TAPS] [.phaseNow, .skew] ||| fpLoseTime ||| fpLanesRehunt := by decide +kernel

theorem execSkewTapStep_within (s : State) : Completes fpExecSkewTapStep s (execSkewTapStep s) := by
  unfold execSkewTapStep
  refine Completes.ite ?_ ?_
  · refine Completes.next ?_
    exact Within.refl _ _
  · extract_lets -lift +onlyGivenNames a1
    clear_value a1
    extract_lets -lift +onlyGivenNames a2
    clear_value a2
    extract_lets -lift +onlyGivenNames a3
    clear_value a3
    extract_lets -lift +onlyGivenNames a4
    clear_value a4
    extract_lets -lift +onlyGivenNames a5
    clear_value a5
    extract_lets -lift +onlyGivenNames a6
    clear_value a6
    extract_lets -lift +onlyGivenNames a7
    clear_value a7
    extract_lets -lift +onlyGivenNames a8
    have h8 : Within fpExecSkewTapStep s a8 := by
      unfold a8
      refine Within.step ?_ (set_within _ _ _ (by decide +kernel)) (by decide +kernel)
      exact Within.refl _ _
    clear_value a8
    extract_lets -lift +onlyGivenNames a9
    have h9 : Within fpExecSkewTapStep s a9 := by
      unfold a9
      refine Within.step ?_ (upd_phaseNow_skew_within _ _ _) (by decide +kernel)
      exact h8
    clear_value a9
    refine Completes.next ?_
    refine Within.step ?_ (lanesRehunt_within ..) (by decide +kernel)
    refine Within.when ?_ fun a10 => ?_
    · exact h9
    · refine Within.step ?_ (loseTime_within ..) (by decide +kernel)
      exact Within.refl _ _

/-- What `lanCtrlWritten` can change. -/
def fpLanCtrlWritten : Nat :=
  0x40010000000000000f8000200000000000000000000000000000000000000000000000000000000000000000000000000000008000000000000000000000000000000000000000000000000000000000000000000000000000000000000000000000000000000000138000000000000000000180800000000000000000000000000000000000000000

theorem fpLanCtrlWritten_eq : fpLanCtrlWritten =
    footprint [R.LAN_STATUS_STATE] [] ||| fpUpdLan ||| fpLanHunt ||| fpLanOff := by decide +kernel

theorem lanCtrlWritten_within (before s : State) (l : Nat) (retrain : Bool) : Within fpLanCtrlWritten s (lanCtrlWritten before s l retrain) := by
  unfold lanCtrlWritten
  extract_lets -lift +onlyGivenNames a1
  clear_value a1
  extract_lets -lift +onlyGivenNames a2
  clear_value a2
  refine Within.ite ?_ ?_
  · refine Within.ite ?_ ?_
    · refine Within.step ?_ (lanOff_within ..) (by decide +kernel)
      exact Within.refl _ _
    · exact Within.refl _ _
  · extract_lets -lift +onlyGivenNames a3
    have h3 : Within fpLanCtrlWritten s a3 := by
      unfold a3
      refine Within.when ?_ fun a4 => ?_
      · exact Within.refl _ _
      · refine Within.step ?_ (updLan_within ..) (by decide +kernel)
        exact Within.refl _ _
    clear_value a3
    refine Within.ite ?_ ?_
    · refine Within.ite ?_ ?_
      · exact h3
      · refine Within.step ?_ (set_within _ _ _ (by decide +kernel)) (by decide +kernel)
        refine Within.step ?_ (lanOff_within ..) (by decide +kernel)
        exact h3
    · refine Within.ite ?_ ?_
      · refine Within.step ?_ (lanHunt_within ..) (by decide +kernel)
        refine Within.step ?_ (lanOff_within ..) (by decide +kernel)
        exact h3
      · refine Within.ite ?_ ?_
        · refine Within.ite ?_ ?_
          · exact h3
          · refine Within.step ?_ (lanHunt_within ..) (by decide +kernel)
            exact h3
        · refine Within.ite ?_ ?_
          · refine Within.step ?_ (lanHunt_within ..) (by decide +kernel)
            exact h3
          · exact h3

/-- What `txSumAdd` can change. -/
def fpTxSumAdd : Nat :=
  0x4000000000000000000000000000000000000000000000000000000000000000000000000000000000000000000000000000000000000000000000000000000000000000000000000000000000000000000000000000000000000000000000000000000000000000000000000000000000000000000000000000000000000000000000000000000000

theorem fpTxSumAdd_eq : fpTxSumAdd =
    fpUpdLan := by decide +kernel

theorem txSumAdd_within (s : State) (l payload : Nat) : Within fpTxSumAdd s (txSumAdd s l payload) := by
  unfold txSumAdd
  extract_lets -lift +onlyGivenNames a1
  clear_value a1
  refine Within.step ?_ (updLan_within ..) (by decide +kernel)
  exact Within.refl _ _

/-- What `reservedFrame` can change. -/
def fpReservedFrame : Nat :=
  0x9000000000000000000000000000000000000000000000000000000000000000000000000000000000000000000000

theorem fpReservedFrame_eq : fpReservedFrame =
    fpDecTransmit := by decide +kernel

theorem reservedFrame_within (s : State) (l e : Nat) : Within fpReservedFrame s (reservedFrame s l e).2 := by
  unfold reservedFrame
  split
  · dsimp only
    exact Within.refl _ _
  · split
    · split
      dsimp only
      refine Within.ofSnd ?_ (by assumption)
      refine Within.step ?_ (decTransmit_within ..) (by decide +kernel)
      exact Within.refl _ _
    · dsimp only
      exact Within.refl _ _
    · split
      · split
        · dsimp only
          exact Within.refl _ _
        · dsimp only
          exact Within.refl _ _
      · dsimp only
        exact Within.refl _ _

/-- What `bulkFrame` can change. -/
def fpBulkFrame : Nat :=
  0x84000000000000000000000000000000000000000000000000000000000000000000000000000000000000000000000000000000000000000000000000000000000000000000000000000000000000000000000000000000000000000000000000000000000000000000000000000000000000000000000000000000000000000000000000000000000

theorem fpBulkFrame_eq : fpBulkFrame =
    footprint [] [.bqCur] ||| fpSetLan := by decide +kernel

theorem bulkFrame_within (s : State) (l : Nat) : Within fpBulkFrame s (bulkFrame s l).2 := by
  unfold bulkFrame
  extract_lets +onlyGivenNames a1
  clear_value a1
  split
  · dsimp only
    refine Within.step ?_ (setLan_within ..) (by decide +kernel)
    exact Within.refl _ _
  · split
    · dsimp only
      exact Within.refl _ _
    · extract_lets +onlyGivenNames a2
      clear_value a2
      extract_lets +onlyGivenNames a3
      have h3 : Within fpBulkFrame s a3 := by
        unfold a3
        refine Within.when ?_ fun a4 => ?_
        · exact Within.refl _ _
        · refine Within.step ?_ (bqCur_within _ _) (by decide +kernel)
          exact Within.refl _ _
      clear_value a3
      split
      · dsimp only
        refine Within.step ?_ (setLan_within ..) (by decide +kernel)
        exact h3
      · dsimp only
        exact h3

/-- What `bulkPosition` can change. -/
def fpBulkPosition : Nat :=
  0x84000000000000000000000000000000000000000000000000000000000000000000000000000000000000000000000000000000000000000000000000000000000000000000000000000000000000000000000000000000000000000000000000000000000000000000000000000000000000000000000000000000000000000000000000000000000

theorem fpBulkPosition_eq : fpBulkPosition =
    fpSetLan ||| fpBulkFrame := by decide +kernel

theorem bulkPosition_within (s : State) (l : Nat) : Within fpBulkPosition s (bulkPosition s l).2 := by
  unfold bulkPosition
  extract_lets +onlyGivenNames a1
  clear_value a1
  split
  · extract_lets +onlyGivenNames a2
    clear_value a2
    dsimp only
    exact Within.refl _ _
  · split
    · dsimp only
      exact Within.refl _ _
    · split
      · dsimp only
        refine Within.step ?_ (setLan_within ..) (by decide +kernel)
        exact Within.refl _ _
      · dsimp only
        refine Within.step ?_ (setLan_within ..) (by decide +kernel)
        exact Within.refl _ _
      · refine Within.step ?_ (bulkFrame_within ..) (by decide +kernel)
        exact Within.refl _ _

/-- What `lanPut` can change. -/
def fpLanPut : Nat :=
  0x4000000000000000000000000000000000000000000000000000000000000000000000000000000000000000000000000000000000000000000000000000000000000000000000000000000000000000000000000000000000000000000000000000000000000000000000000000000000000000000000000000000000000000000000000000000000

theorem fpLanPut_eq : fpLanPut =
    fpUpdLan := by decide +kernel

theorem lanPut_within (s : State) (l : Nat) (f : Bool × Nat) : Within fpLanPut s (lanPut s l f) := by
  unfold lanPut
  extract_lets -lift +onlyGivenNames a1
  clear_value a1
  refine Within.step ?_ (updLan_within ..) (by decide +kernel)
  exact Within.refl _ _

/-- What `loopTake` can change. -/
def fpLoopTake : Nat :=
  0x4000000000000000000000000000000000000000000000000000000000000000000000000000000000000000000000000000000000000000000000000000000000000000000000000000000000000000000000000000000000000000000000000000000000000000000000000000000000000000000000000000000000000000000000000000000000

theorem fpLoopTake_eq : fpLoopTake =
    fpUpdLan := by decide +kernel

theorem loopTake_within (s : State) (l : Nat) : Within fpLoopTake s (loopTake s l) := by
  unfold loopTake
  refine Within.step ?_ (updLan_within ..) (by decide +kernel)
  exact Within.refl _ _

/-- What `execLaneFrameTransmit` can change. -/
def fpExecLaneFrameTransmit : Nat :=
  0x84000000000000000000000000000000000000000000000000000000000000000000000000000000000000000000000000000000000000000000000000000000000000000000000000000000000000000000000000000000000009000000000000000000000000000000000000000000000000000000000000000000000000000000000000000000000

theorem fpExecLaneFrameTransmit_eq : fpExecLaneFrameTransmit =
    fpSetLan ||| fpUpdLan ||| fpTxSumAdd ||| fpReservedFrame ||| fpBulkPosition ||| fpLanPut := by decide +kernel

theorem execLaneFrameTransmit_within (l : Fin 24) (s : State) : Completes fpExecLaneFrameTransmit s (execLaneFrameTransmit l s) := by
  unfold execLaneFrameTransmit
  extract_lets -lift +onlyGivenNames a1
  clear_value a1
  refine Completes.next ?_
  refine Within.ite ?_ ?_
  · exact Within.refl _ _
  · split
    · refine Within.step ?_ (setLan_within ..) (by decide +kernel)
      exact Within.refl _ _
    · extract_lets -lift +onlyGivenNames a2
      clear_value a2
      refine Within.step ?_ (setLan_within ..) (by decide +kernel)
      exact Within.refl _ _
    · split
      · refine Within.ite ?_ ?_
        · split
          refine Within.step ?_ (lanPut_within ..) (by decide +kernel)
          refine Within.ite ?_ ?_
          · refine Within.ofSnd ?_ (by assumption)
            refine Within.step ?_ (reservedFrame_within ..) (by decide +kernel)
            exact Within.refl _ _
          · refine Within.step ?_ (txSumAdd_within ..) (by decide +kernel)
            refine Within.ofSnd ?_ (by assumption)
            refine Within.step ?_ (reservedFrame_within ..) (by decide +kernel)
            exact Within.refl _ _
        · split
          refine Within.step ?_ (lanPut_within ..) (by decide +kernel)
          refine Within.ofSnd ?_ (by assumption)
          refine Within.step ?_ (bulkPosition_within ..) (by decide +kernel)
          exact Within.refl _ _
      · split
        refine Within.step ?_ (lanPut_within ..) (by decide +kernel)
        refine Within.ofSnd ?_ (by assumption)
        refine Within.step ?_ (bulkPosition_within ..) (by decide +kernel)
        exact Within.refl _ _
    · extract_lets -lift +onlyGivenNames a2
      have h2 : Within fpExecLaneFrameTransmit s a2 := by
        unfold a2
        refine Within.step ?_ (lanPut_within ..) (by decide +kernel)
        exact Within.refl _ _
      clear_value a2
      refine Within.step ?_ (updLan_within ..) (by decide +kernel)
      exact h2

/-- What `execStatusBlockSend` can change. -/
def fpExecStatusBlockSend : Nat :=
  0x4000000000000000000000000000000000000000000000000000000000000000000000000000000000000000000000000000000000000000000000000000000000000000000000000000000000000000000000000000000000000000000000000000000000000000000000000000000000000000000000000000000000000000000000000000000000

theorem fpExecStatusBlockSend_eq : fpExecStatusBlockSend =
    fpUpdLan := by decide +kernel

theorem execStatusBlockSend_within (l : Fin 24) (s : State) : Completes fpExecStatusBlockSend s (execStatusBlockSend l s) := by
  unfold execStatusBlockSend
  refine Completes.next ?_
  refine Within.ite ?_ ?_
  · refine Within.step ?_ (updLan_within ..) (by decide +kernel)
    exact Within.refl _ _
  · exact Within.refl _ _

/-- What `execSumSend` can change. -/
def fpExecSumSend : Nat :=
  0x4000000000000000000000000000000000000000000000000000000000000000000000000000000000000000000000000000000000000000000000000000000000000000000000000000000000000000000000000000000000000000000000000000000000000000000000000000000000000000000000000000000000000000000000000000000000

theorem fpExecSumSend_eq : fpExecSumSend =
    fpUpdLan := by decide +kernel

theorem execSumSend_within (l : Fin 24) (s : State) : Completes fpExecSumSend s (execSumSend l s) := by
  unfold execSumSend
  extract_lets -lift +onlyGivenNames a1
  clear_value a1
  refine Completes.next ?_
  refine Within.ite ?_ ?_
  · split
    · refine Within.step ?_ (updLan_within ..) (by decide +kernel)
      exact Within.refl _ _
    · exact Within.refl _ _
  · exact Within.refl _ _

/-- What `execLaneLock` can change. -/
def fpExecLaneLock : Nat := footprint [R.LAN_STATUS_STATE, R.LAN_STATUS_LOCK] []

theorem execLaneLock_within (l : Fin 24) (s : State) : Completes fpExecLaneLock s (execLaneLock l s) := by
  unfold execLaneLock
  refine Completes.next ?_
  refine Within.ite ?_ ?_
  · refine Within.step ?_ (set_within _ _ _ (by decide +kernel)) (by decide +kernel)
    refine Within.step ?_ (set_within _ _ _ (by decide +kernel)) (by decide +kernel)
    exact Within.refl _ _
  · exact Within.refl _ _

/-- What `execTrainTimeout` can change. -/
def fpExecTrainTimeout : Nat := footprint [R.LAN_STATUS_TRAIN_FAIL] []

theorem execTrainTimeout_within (l : Fin 24) (s : State) : Completes fpExecTrainTimeout s (execTrainTimeout l s) := by
  unfold execTrainTimeout
  refine Completes.next ?_
  refine Within.ite ?_ ?_
  · refine Within.step ?_ (set_within _ _ _ (by decide +kernel)) (by decide +kernel)
    exact Within.refl _ _
  · exact Within.refl _ _

/-- What `resEval` can change. -/
def fpResEval : Nat :=
  0x10000000000000f8000200000000000000000000000000000000000000000000000000000000000000000000000000000008000000000000000000000000000000000000000000000000000000000000000000000000000000000000000000000000000000000090000000000000000000180800000000000000000000000000000000000000000

theorem fpResEval_eq : fpResEval =
    footprint [R.LAN_STATUS_MISMATCH] [] ||| fpSetResEn := by decide +kernel

theorem resEval_within (s : State) (l : Nat) : Within fpResEval s (resEval s l) := by
  unfold resEval
  extract_lets -lift +onlyGivenNames a1
  clear_value a1
  extract_lets -lift +onlyGivenNames a2
  clear_value a2
  refine Within.step ?_ (setResEn_within ..) (by decide +kernel)
  refine Within.step ?_ (set_within _ _ _ (by decide +kernel)) (by decide +kernel)
  exact Within.refl _ _

/-- What `partnerShow` can change. -/
def fpPartnerShow : Nat :=
  0x1f80000000000000000000000000000000000000000000000000000000000000000000

theorem fpPartnerShow_eq : fpPartnerShow =
    footprint [R.LAN_PARTNER_TAG_TAG, R.LAN_PARTNER_GEN_L, R.LAN_PARTNER_GEN_GEN, R.LAN_PARTNER_POS_TIME_VALID,
  R.LAN_PARTNER_POS_LANE, R.LAN_PARTNER_POS_COORD] [] := by decide +kernel

theorem partnerShow_within (s : State) (l : Nat) (c : List Nat) : Within fpPartnerShow s (partnerShow s l c) := by
  unfold partnerShow
  extract_lets -lift +onlyGivenNames a1
  clear_value a1
  extract_lets -lift +onlyGivenNames a2
  have h2 : Within fpPartnerShow s a2 := by
    unfold a2
    refine Within.step ?_ (set_within _ _ _ (by decide +kernel)) (by decide +kernel)
    refine Within.step ?_ (set_within _ _ _ (by decide +kernel)) (by decide +kernel)
    exact Within.refl _ _
  clear_value a2
  extract_lets -lift +onlyGivenNames a3
  have h3 : Within fpPartnerShow s a3 := by
    unfold a3
    refine Within.step ?_ (set_within _ _ _ (by decide +kernel)) (by decide +kernel)
    refine Within.step ?_ (set_within _ _ _ (by decide +kernel)) (by decide +kernel)
    exact h2
  clear_value a3
  refine Within.step ?_ (set_within _ _ _ (by decide +kernel)) (by decide +kernel)
  refine Within.step ?_ (set_within _ _ _ (by decide +kernel)) (by decide +kernel)
  exact h3

/-- What `setLatency` can change. -/
def fpSetLatency : Nat := footprint [R.LAN_STATUS_LAT_RANGE, R.LAN_LATENCY_DEPTH, R.LAN_LATENCY_A] []

theorem setLatency_within (s : State) (l : Nat) (a : Int) : Within fpSetLatency s (setLatency s l a) := by
  unfold setLatency
  extract_lets -lift +onlyGivenNames a1
  have h1 : Within fpSetLatency s a1 := by
    unfold a1
    refine Within.step ?_ (set_within _ _ _ (by decide +kernel)) (by decide +kernel)
    exact Within.refl _ _
  clear_value a1
  refine Within.step ?_ (set_within _ _ _ (by decide +kernel)) (by decide +kernel)
  refine Within.step ?_ (set_within _ _ _ (by decide +kernel)) (by decide +kernel)
  exact h1

/-- What `lanUp` can change. -/
def fpLanUp : Nat :=
  0x40010000000000000f80002000000000000000000000000000000000000000000000000000000000000000000000000000000080000000000000000000000000000000000000000000000000000000000000000000000000000000000000000000000000000000600d8000000000000000000180800000000000000000000000000000000000000000

theorem fpLanUp_eq : fpLanUp =
    footprint [R.LAN_STATUS_STATE] [] ||| fpUpdLan ||| fpLanFire ||| fpResEval ||| fpSetLatency := by decide +kernel

theorem lanUp_within (s : State) (l : Nat) (a : Int) : Within fpLanUp s (lanUp s l a) := by
  unfold lanUp
  extract_lets -lift +onlyGivenNames a1
  have h1 : Within fpLanUp s a1 := by
    unfold a1
    refine Within.step ?_ (setLatency_within ..) (by decide +kernel)
    refine Within.step ?_ (set_within _ _ _ (by decide +kernel)) (by decide +kernel)
    exact Within.refl _ _
  clear_value a1
  extract_lets -lift +onlyGivenNames a2
  have h2 : Within fpLanUp s a2 := by
    unfold a2
    refine Within.step ?_ (updLan_within ..) (by decide +kernel)
    exact h1
  clear_value a2
  refine Within.step ?_ (resEval_within ..) (by decide +kernel)
  refine Within.step ?_ (lanFire_within ..) (by decide +kernel)
  exact h2

/-- What `measure` can change. -/
def fpMeasure : Nat :=
  0x40010000000000000f80002000000000000000000000000000000000000000000000000000000000000000000000000000000080000000000000000000000000000000000000000000000000000000000000000000000000000000000000000000000000000000610f8000000000000000000180800000000000000000000000000000000000000000

theorem fpMeasure_eq : fpMeasure =
    footprint [R.LAN_STATUS_TRAIN_FAIL] [] ||| fpSetLan ||| fpLanHunt ||| fpLanUp := by decide +kernel

theorem measure_within (s : State) (l : Nat) (a : Int) : Within fpMeasure s (measure s l a) := by
  unfold measure
  extract_lets -lift +onlyGivenNames a1
  clear_value a1
  extract_lets -lift +onlyGivenNames a2
  clear_value a2
  refine Within.ite ?_ ?_
  · refine Within.step ?_ (setLan_within ..) (by decide +kernel)
    exact Within.refl _ _
  · refine Within.ite ?_ ?_
    · refine Within.step ?_ (lanUp_within ..) (by decide +kernel)
      exact Within.refl _ _
    · refine Within.ite ?_ ?_
      · refine Within.step ?_ (lanHunt_within ..) (by decide +kernel)
        refine Within.step ?_ (set_within _ _ _ (by decide +kernel)) (by decide +kernel)
        exact Within.refl _ _
      · refine Within.step ?_ (setLan_within ..) (by decide +kernel)
        exact Within.refl _ _

/-- What `exchange` can change. -/
def fpExchange : Nat :=
  0x4000000000000000000000000000000000000000000000000000000000000000000000000000000000000000000000000000000000000000000000000000000000000000000000000000000000000000000000000000000000000000000000000000000000001f81608000000000000000000000000000000000000000000000000000000000000000

theorem fpExchange_eq : fpExchange =
    footprint [R.LAN_STATUS_STATE, R.LAN_STATUS_REV_MAJOR, R.LAN_STATUS_REV_MINOR, R.LAN_STATUS_TRAIN_FAIL] [] ||| fpUpdLan
  ||| fpPartnerShow := by decide +kernel

theorem exchange_within (s : State) (l : Nat) (c : List Nat) : Within fpExchange s (exchange s l c) := by
  unfold exchange
  extract_lets -lift +onlyGivenNames a1
  clear_value a1
  extract_lets -lift +onlyGivenNames a2
  clear_value a2
  extract_lets -lift +onlyGivenNames a3
  clear_value a3
  extract_lets -lift +onlyGivenNames a4
  have h4 : Within fpExchange s a4 := by
    unfold a4
    refine Within.step ?_ (updLan_within ..) (by decide +kernel)
    exact Within.refl _ _
  clear_value a4
  extract_lets -lift +onlyGivenNames a5
  have h5 : Within fpExchange s a5 := by
    unfold a5
    refine Within.when ?_ fun a6 => ?_
    · exact h4
    · refine Within.step ?_ (partnerShow_within ..) (by decide +kernel)
      exact Within.refl _ _
  clear_value a5
  extract_lets -lift +onlyGivenNames a6
  clear_value a6
  split
  · refine Within.step ?_ (set_within _ _ _ (by decide +kernel)) (by decide +kernel)
    exact h5
  · extract_lets -lift +onlyGivenNames a7
    have h7 : Within fpExchange s a7 := by
      unfold a7
      refine Within.step ?_ (set_within _ _ _ (by decide +kernel)) (by decide +kernel)
      refine Within.step ?_ (set_within _ _ _ (by decide +kernel)) (by decide +kernel)
      exact h5
    clear_value a7
    refine Within.ite ?_ ?_
    · refine Within.step ?_ (updLan_within ..) (by decide +kernel)
      refine Within.step ?_ (set_within _ _ _ (by decide +kernel)) (by decide +kernel)
      exact h7
    · exact h7

/-- What `statusBlock` can change. -/
def fpStatusBlock : Nat :=
  0x40010000000000000f8000200000000000000000000000000000000000000000000000000000000000000000000000000000008000000000000000000000000000000000000000000000000000000000000000000000000000000000000000000000000000001f80098000000000000000000180800000000000000000000000000000000000000000

theorem fpStatusBlock_eq : fpStatusBlock =
    footprint [R.LAN_STATUS_STATE] [] ||| fpUpdLan ||| fpSetResEn ||| fpResEval ||| fpPartnerShow := by decide +kernel

theorem statusBlock_within (s : State) (l : Nat) (c : List Nat) (a : Int) : Within fpStatusBlock s (statusBlock s l c a) := by
  unfold statusBlock
  extract_lets -lift +onlyGivenNames a1
  have h1 : Within fpStatusBlock s a1 := by
    unfold a1
    refine Within.step ?_ (partnerShow_within ..) (by decide +kernel)
    exact Within.refl _ _
  clear_value a1
  refine Within.ite ?_ ?_
  · refine Within.step ?_ (updLan_within ..) (by decide +kernel)
    refine Within.step ?_ (set_within _ _ _ (by decide +kernel)) (by decide +kernel)
    refine Within.step ?_ (setResEn_within ..) (by decide +kernel)
    exact h1
  · refine Within.step ?_ (resEval_within ..) (by decide +kernel)
    exact h1

/-- What `trainReceive` can change. -/
def fpTrainReceive : Nat :=
  0x40010000000000000f8000200000000000000000000000000000000000000000000000000000000000000000000000000000008000000000000000000000000000000000000000000000000000000000000000000000000000000000000000000000000000001fe16f8000000000000000000180800000000000000000000000000000000000000000

theorem fpTrainReceive_eq : fpTrainReceive =
    fpSetLan ||| fpMeasure ||| fpExchange ||| fpStatusBlock := by decide +kernel

theorem trainReceive_within (s : State) (l p : Nat) : Within fpTrainReceive s (trainReceive s l p) := by
  unfold trainReceive
  extract_lets -lift +onlyGivenNames a1
  clear_value a1
  extract_lets -lift +onlyGivenNames a2
  clear_value a2
  extract_lets -lift +onlyGivenNames a3
  clear_value a3
  refine Within.ite ?_ ?_
  · refine Within.step ?_ (setLan_within ..) (by decide +kernel)
    exact Within.refl _ _
  · refine Within.ite ?_ ?_
    · refine Within.step ?_ (setLan_within ..) (by decide +kernel)
      exact Within.refl _ _
    · extract_lets -lift +onlyGivenNames a4
      clear_value a4
      extract_lets -lift +onlyGivenNames a5
      clear_value a5
      extract_lets -lift +onlyGivenNames a6
      clear_value a6
      extract_lets -lift +onlyGivenNames a7
      have h7 : Within fpTrainReceive s a7 := by
        unfold a7
        refine Within.step ?_ (setLan_within ..) (by decide +kernel)
        exact Within.refl _ _
      clear_value a7
      refine Within.ite ?_ ?_
      · refine Within.step ?_ (measure_within ..) (by decide +kernel)
        exact h7
      · refine Within.ite ?_ ?_
        · refine Within.step ?_ (exchange_within ..) (by decide +kernel)
          exact h7
        · refine Within.ite ?_ ?_
          · refine Within.step ?_ (statusBlock_within ..) (by decide +kernel)
            exact h7
          · exact h7

/-- What `rxSumAdd` can change. -/
def fpRxSumAdd : Nat :=
  0x4000000000000000000000000000000000000000000000000000000000000000000000000000000000000000000000000000000000000000000000000000000000000000000000000000000000000000000000000000000000000000000000000000000000000000000000000000000000000000000000000000000000000000000000000000000000

theorem fpRxSumAdd_eq : fpRxSumAdd =
    fpUpdLan := by decide +kernel

theorem rxSumAdd_within (s : State) (l fc x : Nat) (p : Option Nat) : Within fpRxSumAdd s (rxSumAdd s l fc x p) := by
  unfold rxSumAdd
  extract_lets -lift +onlyGivenNames a1
  clear_value a1
  extract_lets -lift +onlyGivenNames a2
  clear_value a2
  extract_lets -lift +onlyGivenNames a3
  clear_value a3
  refine Within.step ?_ (updLan_within ..) (by decide +kernel)
  exact Within.refl _ _

/-- What `rxSumOpen` can change. -/
def fpRxSumOpen : Nat :=
  0x4000000000000000000000000000000000000000000000000000000000000000000000000000000000000000000000000000000000000000000000000000000000000000000000000000000000000000000000000000000000000000000000000000000000000000000000000000000000000000000000000000000000000000000000000000000000

theorem fpRxSumOpen_eq : fpRxSumOpen =
    fpUpdLan := by decide +kernel

theorem rxSumOpen_within (s : State) (l fc : Nat) : Within fpRxSumOpen s (rxSumOpen s l fc) := by
  unfold rxSumOpen
  extract_lets -lift +onlyGivenNames a1
  clear_value a1
  extract_lets -lift +onlyGivenNames a2
  clear_value a2
  refine Within.step ?_ (updLan_within ..) (by decide +kernel)
  exact Within.refl _ _

/-- What `sumReceive` can change. -/
def fpSumReceive : Nat :=
  0x10000000000000f8000200000000000000000000000000000000000000000000000000000000000000000000000000000008000000000000000000000000000000000000000000000000000000000000000000000000000000000000000000000000000900000800000000000000000000180800000000000000000000000000000000000000000

theorem fpSumReceive_eq : fpSumReceive =
    footprint [R.LAN_STATUS_SUM_ERR, R.LAN_SUM_ERR_CNT_COUNT, R.LAN_SUM_TICK_TICK_LO] [] ||| fpLanError := by decide +kernel

theorem sumReceive_within (s : State) (l fc p : Nat) : Within fpSumReceive s (sumReceive s l fc p) := by
  unfold sumReceive
  split
  · exact Within.refl _ _
  · refine Within.ite ?_ ?_
    · exact Within.refl _ _
    · extract_lets -lift +onlyGivenNames a1
      have h1 : Within fpSumReceive s a1 := by
        unfold a1
        refine Within.when ?_ fun a2 => ?_
        · exact Within.refl _ _
        · refine Within.step ?_ (set_within _ _ _ (by decide +kernel)) (by decide +kernel)
          exact Within.refl _ _
      clear_value a1
      refine Within.trans ?_ (lanError_within (by decide +kernel) (by decide +kernel) (by decide +kernel) ..)
      refine Within.step ?_ (inc_within _ _ _ (by decide +kernel)) (by decide +kernel)
      exact h1

/-- What `bulkBad` can change. -/
def fpBulkBad : Nat :=
  0x10000000000000f8000200000000000000000000000000000000000000000000000000000000000000000000000000000008000000000000000000000000000000000000000000000000000000000000000000000000000000000000000000000000000010002000000000000000000000180800000000000000000000000000000000000000000

theorem fpBulkBad_eq : fpBulkBad =
    footprint [R.LAN_STATUS_CRC_ERR, R.LAN_BULK_CRC_CNT_COUNT] [] ||| fpLanError := by decide +kernel

theorem bulkBad_within (s : State) (l : Nat) : Within fpBulkBad s (bulkBad s l) := by
  unfold bulkBad
  refine Within.trans ?_ (lanError_within (by decide +kernel) (by decide +kernel) (by decide +kernel) ..)
  refine Within.step ?_ (inc_within _ _ _ (by decide +kernel)) (by decide +kernel)
  exact Within.refl _ _

/-- What `bulkReceive` can change. -/
def fpBulkReceive : Nat :=
  0x40010000000000000f8000200000000000000000000000000000000000000000000000000000000000000000000000000000008000000000000000000000000000000000000000000000000000000000000000000000000000000000000000000000000000010002000000000000000000000180800000000000000000000000000000000000000000

theorem fpBulkReceive_eq : fpBulkReceive =
    fpSetLan ||| fpBulkBad := by decide +kernel

theorem bulkReceive_within (s : State) (l : Nat) (t p : Nat) : Within fpBulkReceive s (bulkReceive s l t p) := by
  unfold bulkReceive
  extract_lets -lift +onlyGivenNames a1
  clear_value a1
  split
  · refine Within.step ?_ (setLan_within ..) (by decide +kernel)
    exact Within.refl _ _
  · refine Within.step ?_ (bulkBad_within ..) (by decide +kernel)
    refine Within.step ?_ (setLan_within ..) (by decide +kernel)
    exact Within.refl _ _
  · refine Within.step ?_ (setLan_within ..) (by decide +kernel)
    exact Within.refl _ _
  · refine Within.step ?_ (bulkBad_within ..) (by decide +kernel)
    exact Within.refl _ _
  · refine Within.step ?_ (setLan_within ..) (by decide +kernel)
    exact Within.refl _ _
  · refine Within.step ?_ (bulkBad_within ..) (by decide +kernel)
    exact Within.refl _ _

/-- What `ctlReceive` can change. -/
def fpCtlReceive : Nat :=
  0x40010000000000000f8000200000000000000000000000000000000000000000000000000000000000000000000000000000008000000000000000000000000000000000000000000000000000000000000000000000000000000000000000000000000000918002800000000000000000000180800000000000000000000000000000000000000000

theorem fpCtlReceive_eq : fpCtlReceive =
    footprint [R.LAN_HDR_ERR_CNT_COUNT] [] ||| fpUpdLan ||| fpSumReceive ||| fpBulkReceive := by decide +kernel

theorem ctlReceive_within (s : State) (l fc p : Nat) (res : Bool) : Within fpCtlReceive s (ctlReceive s l fc p res) := by
  unfold ctlReceive
  split
  · exact Within.refl _ _
  · refine Within.ite ?_ ?_
    · exact Within.refl _ _
    · refine Within.step ?_ (bulkReceive_within ..) (by decide +kernel)
      exact Within.refl _ _
  · refine Within.ite ?_ ?_
    · exact Within.refl _ _
    · refine Within.step ?_ (bulkReceive_within ..) (by decide +kernel)
      exact Within.refl _ _
  · refine Within.step ?_ (updLan_within ..) (by decide +kernel)
    exact Within.refl _ _
  · refine Within.when ?_ fun a1 => ?_
    · exact Within.refl _ _
    · refine Within.step ?_ (updLan_within ..) (by decide +kernel)
      exact Within.refl _ _
  · exact Within.refl _ _
  · refine Within.when ?_ fun a1 => ?_
    · exact Within.refl _ _
    · refine Within.step ?_ (sumReceive_within ..) (by decide +kernel)
      exact Within.refl _ _
  · refine Within.step ?_ (inc_within _ _ _ (by decide +kernel)) (by decide +kernel)
    exact Within.refl _ _

/-- What `resReceive` can change. -/
def fpResReceive : Nat :=
  0x4000000000000000000000000000000000000000000000000000000000000000000000000000000000000000000000000000000000000000000000000000000000000000000000000000000000000000000000000000000000000000000000000000000000000000000000000000000000000000000000000000000000000000000000000000000000

theorem fpResReceive_eq : fpResReceive =
    fpUpdLan ||| fpRxSumAdd := by decide +kernel

theorem resReceive_within (s : State) (l fc : Nat) (p : Option Nat) : Within fpResReceive s (resReceive s l fc p) := by
  unfold resReceive
  extract_lets -lift +onlyGivenNames a1
  clear_value a1
  extract_lets -lift +onlyGivenNames a2
  clear_value a2
  extract_lets -lift +onlyGivenNames a3
  have h3 : Within fpResReceive s a3 := by
    unfold a3
    refine Within.step ?_ (rxSumAdd_within ..) (by decide +kernel)
    exact Within.refl _ _
  clear_value a3
  refine Within.ite ?_ ?_
  · exact h3
  · refine Within.step ?_ (updLan_within ..) (by decide +kernel)
    exact h3

/-- What `headerSeen` can change. -/
def fpHeaderSeen : Nat :=
  0x40010000000000000f8000200000000000000000000000000000000000000000000000000000000000000000000000000000008000000000000000000000000000000000000000000000000000000000000000000000000000000000000000000000000000000010038000000000000000000180800000000000000000000000000000000000000000

theorem fpHeaderSeen_eq : fpHeaderSeen =
    footprint [R.LAN_STATUS_LOCK_LOST] [] ||| fpUpdLan ||| fpLanFire ||| fpLanHunt := by decide +kernel

theorem headerSeen_within (s : State) (l : Nat) (ok : Bool) : Within fpHeaderSeen s (headerSeen s l ok) := by
  unfold headerSeen
  extract_lets -lift +onlyGivenNames a1
  clear_value a1
  extract_lets -lift +onlyGivenNames a2
  have h2 : Within fpHeaderSeen s a2 := by
    unfold a2
    refine Within.step ?_ (updLan_within ..) (by decide +kernel)
    exact Within.refl _ _
  clear_value a2
  refine Within.ite ?_ ?_
  · refine Within.step ?_ (lanFire_within ..) (by decide +kernel)
    refine Within.step ?_ (lanHunt_within ..) (by decide +kernel)
    refine Within.step ?_ (set_within _ _ _ (by decide +kernel)) (by decide +kernel)
    exact h2
  · exact h2

/-- What `execLaneFrameReceive` can change. -/
def fpExecLaneFrameReceive : Nat :=
  0x40010000000000000f8000200000000000000000000000000000000000000000000000000000000000000000000000000000008000000000000000000000000000000000000000000000000000000000000000000000000000000000000000000000000000919ff3ef8000000000000000000180800000000000000000000000000000000000000000

theorem fpExecLaneFrameReceive_eq : fpExecLaneFrameReceive =
    footprint [R.LAN_HDR_ERR_CNT_COUNT] [] ||| fpUpdLan ||| fpLoopTake ||| fpTrainReceive ||| fpRxSumOpen |||
  fpBulkReceive ||| fpCtlReceive ||| fpResReceive ||| fpHeaderSeen := by decide +kernel

theorem execLaneFrameReceive_within (l : Fin 24) (line : BitVec 68) (s : State) : Completes fpExecLaneFrameReceive s (execLaneFrameReceive l line
    s) := by
  unfold execLaneFrameReceive
  extract_lets -lift +onlyGivenNames a1
  clear_value a1
  extract_lets -lift +onlyGivenNames a2
  clear_value a2
  extract_lets -lift +onlyGivenNames a3
  have h3 : Within fpExecLaneFrameReceive s a3 := by
    unfold a3
    refine Within.when ?_ fun a4 => ?_
    · exact Within.refl _ _
    · refine Within.step ?_ (loopTake_within ..) (by decide +kernel)
      exact Within.refl _ _
  clear_value a3
  extract_lets -lift +onlyGivenNames a4
  clear_value a4
  refine Completes.next ?_
  refine Within.ite ?_ ?_
  · exact h3
  · extract_lets -lift +onlyGivenNames a5
    have h5 : Within fpExecLaneFrameReceive s a5 := by
      unfold a5
      refine Within.step ?_ (headerSeen_within ..) (by decide +kernel)
      exact h3
    clear_value a5
    extract_lets -lift +onlyGivenNames a6
    clear_value a6
    extract_lets -lift +onlyGivenNames a7
    have h7 : Within fpExecLaneFrameReceive s a7 := by
      unfold a7
      refine Within.step ?_ (updLan_within ..) (by decide +kernel)
      exact h5
    clear_value a7
    extract_lets -lift +onlyGivenNames a8
    clear_value a8
    extract_lets -lift +onlyGivenNames a9
    clear_value a9
    extract_lets -lift +onlyGivenNames a10
    have h10 : Within fpExecLaneFrameReceive s a10 := by
      unfold a10
      split
      · refine Within.when ?_ fun a11 => ?_
        · exact h7
        · refine Within.step ?_ (rxSumOpen_within ..) (by decide +kernel)
          exact Within.refl _ _
      · exact h7
    clear_value a10
    split
    · extract_lets -lift +onlyGivenNames a11
      have h11 : Within fpExecLaneFrameReceive s a11 := by
        unfold a11
        refine Within.step ?_ (inc_within _ _ _ (by decide +kernel)) (by decide +kernel)
        exact h10
      clear_value a11
      refine Within.ite ?_ ?_
      · refine Within.step ?_ (resReceive_within ..) (by decide +kernel)
        exact h11
      · exact h11
    · refine Within.step ?_ (inc_within _ _ _ (by decide +kernel)) (by decide +kernel)
      exact h10
    · refine Within.ite ?_ ?_
      · extract_lets -lift +onlyGivenNames a11
        have h11 : Within fpExecLaneFrameReceive s a11 := by
          unfold a11
          refine Within.when ?_ fun a12 => ?_
          · exact h10
          · refine Within.step ?_ (resReceive_within ..) (by decide +kernel)
            exact Within.refl _ _
        clear_value a11
        refine Within.step ?_ (trainReceive_within ..) (by decide +kernel)
        exact h11
      · refine Within.ite ?_ ?_
        · extract_lets -lift +onlyGivenNames a11
          have h11 : Within fpExecLaneFrameReceive s a11 := by
            unfold a11
            refine Within.when ?_ fun a12 => ?_
            · exact h10
            · refine Within.step ?_ (resReceive_within ..) (by decide +kernel)
              exact Within.refl _ _
          clear_value a11
          refine Within.step ?_ (ctlReceive_within ..) (by decide +kernel)
          exact h11
        · refine Within.ite ?_ ?_
          · refine Within.step ?_ (inc_within _ _ _ (by decide +kernel)) (by decide +kernel)
            exact h10
          · exact h10
    · refine Within.ite ?_ ?_
      · refine Within.step ?_ (trainReceive_within ..) (by decide +kernel)
        exact h10
      · exact h10
    · refine Within.ite ?_ ?_
      · exact h10
      · refine Within.ite ?_ ?_
        · refine Within.step ?_ (resReceive_within ..) (by decide +kernel)
          exact h10
        · refine Within.step ?_ (bulkReceive_within ..) (by decide +kernel)
          refine Within.when ?_ fun a11 => ?_
          · exact h10
          · refine Within.step ?_ (resReceive_within ..) (by decide +kernel)
            exact Within.refl _ _
    · exact h10

/-- What `execReservedRelease` can change. -/
def fpExecReservedRelease : Nat :=
  0x4000000000000000000000000000000000000000000000000000000000000000000000000000000000000000000000000000000000000000000000000000000000000000000000000000000000000000000000000000000000000000000000000000000000000000000000000000000000000000000000000000000000000000000000000000000000

theorem fpExecReservedRelease_eq : fpExecReservedRelease =
    fpSetLan := by decide +kernel

theorem execReservedRelease_within (l : Fin 24) (s : State) : Completes fpExecReservedRelease s (execReservedRelease l s) := by
  unfold execReservedRelease
  extract_lets -lift +onlyGivenNames a1
  clear_value a1
  refine Completes.next ?_
  refine Within.ite ?_ ?_
  · extract_lets -lift +onlyGivenNames a2
    clear_value a2
    extract_lets -lift +onlyGivenNames a3
    clear_value a3
    refine Within.step ?_ (setLan_within ..) (by decide +kernel)
    exact Within.refl _ _
  · exact Within.refl _ _

/-- What `tokenLost` can change. -/
def fpTokenLost : Nat :=
  0x10000000000000f83002000000000000000000000000000000000000000000000000000000000000000000000000000000080000040000000000000000000000000000000000004000000000000000000000000000000000000000000000000000000000000000000000000000000000001808000000000000000000000000000000000007f0000

theorem fpTokenLost_eq : fpTokenLost =
    fpAddShotTaint := by decide +kernel

theorem tokenLost_within (s : State) (l : Nat) : Within fpTokenLost s (tokenLost s l) := by
  unfold tokenLost
  refine Within.forAll _ ?_ fun a1 _ => ?_
  · exact Within.refl _ _
  · split
    · refine Within.ite ?_ ?_
      · refine Within.step ?_ (addShotTaint_within ..) (by decide +kernel)
        exact Within.refl _ _
      · exact Within.refl _ _
    · exact Within.refl _ _

/-- What `tokensCount` can change. -/
def fpTokensCount : Nat :=
  0x4000000000000000000000000000000000000000000000000000000000000000000000000000000000000000000000000000000000000000000000000000000000000000000000000000000000000000000000000000000000000000000000000000000000000000000000000000000000000000000000000000000000000000000100000000000000

theorem fpTokensCount_eq : fpTokensCount =
    footprint [R.GLB_BAR_TOKENS] [] ||| fpUpdLan := by decide +kernel

theorem tokensCount_within (s : State) (l p : Nat) : Within fpTokensCount s (tokensCount s l p) := by
  unfold tokensCount
  refine Within.forAll _ ?_ fun a1 _ => ?_
  · exact Within.refl _ _
  · refine Within.step ?_ (inc_within _ _ _ (by decide +kernel)) (by decide +kernel)
    refine Within.step ?_ (updLan_within ..) (by decide +kernel)
    exact Within.refl _ _

/-- What `forward` can change. -/
def fpForward : Nat :=
  0x4000000000000000000000000000000000000000000000000000000000000000000000000000000000000000000000000000000000000000000000000000000000000000000000000000000000000000000000000000000000000000000000000000000000000000000000000000000000000000000000000000000000000000000000000000000000

theorem fpForward_eq : fpForward =
    fpUpdLan := by decide +kernel

theorem forward_within (s : State) (to_ : Nat) (p : Option Nat) : Within fpForward s (forward s to_ p) := by
  unfold forward
  refine Within.step ?_ (updLan_within ..) (by decide +kernel)
  exact Within.refl _ _

/-- What `lanAct` can change. -/
def fpLanAct : Nat :=
  0x40030000000001c00f830020000000000000000000000000000000000000000000000000000000000000000000000000000000800000400000000000000000000000000000000000040000000000000000000000000000000003600000000000000000000000600c000000000000000000000180800000000000000000000000000100000000ff0000

theorem fpLanAct_eq : fpLanAct =
    footprint [R.GLB_HARVEST_LATE_CNT_COUNT, R.LAN_STATUS_RES_LATE, R.LAN_STATUS_RES_LOST, R.LAN_RES_LOST_CNT_COUNT,
  R.LAN_RES_LATE_CNT_COUNT, R.DEC_STATUS_LANE_DEFAULT, R.DEC_STATUS_LANE_LATE, R.DEC_LANE_CNT_COUNT, R.DEC_LATE_CNT_COUNT] [] |||
  fpDecPublishWord ||| fpLanError ||| fpTokenLost ||| fpTokensCount ||| fpForward := by decide +kernel

theorem lanAct_within (s : State) (l pos e k p : Nat) : Within fpLanAct s (lanAct s l pos e k p) := by
  unfold lanAct
  extract_lets -lift +onlyGivenNames a1
  have h1 : Within fpLanAct s a1 := by
    unfold a1
    split
    · refine Within.trans ?_ (lanError_within (by decide +kernel) (by decide +kernel) (by decide +kernel) ..)
      refine Within.step ?_ (inc_within _ _ _ (by decide +kernel)) (by decide +kernel)
      exact Within.refl _ _
    · refine Within.step ?_ (set_within _ _ _ (by decide +kernel)) (by decide +kernel)
      refine Within.step ?_ (inc_within _ _ _ (by decide +kernel)) (by decide +kernel)
      exact Within.refl _ _
    · exact Within.refl _ _
  clear_value a1
  split
  · extract_lets -lift +onlyGivenNames a2
    clear_value a2
    extract_lets -lift +onlyGivenNames a3
    clear_value a3
    split
    · refine Within.step ?_ (decPublishWord_within ..) (by decide +kernel)
      exact h1
    · refine Within.step ?_ (decPublishWord_within ..) (by decide +kernel)
      refine Within.step ?_ (set_within _ _ _ (by decide +kernel)) (by decide +kernel)
      refine Within.step ?_ (inc_within _ _ _ (by decide +kernel)) (by decide +kernel)
      refine Within.step ?_ (inc_within _ _ _ (by decide +kernel)) (by decide +kernel)
      exact h1
    · refine Within.step ?_ (decPublishWord_within ..) (by decide +kernel)
      refine Within.step ?_ (set_within _ _ _ (by decide +kernel)) (by decide +kernel)
      refine Within.step ?_ (inc_within _ _ _ (by decide +kernel)) (by decide +kernel)
      refine Within.step ?_ (inc_within _ _ _ (by decide +kernel)) (by decide +kernel)
      exact h1
  · refine Within.ite ?_ ?_
    · refine Within.step ?_ (tokensCount_within ..) (by decide +kernel)
      exact h1
    · refine Within.step ?_ (tokenLost_within ..) (by decide +kernel)
      exact h1
  · refine Within.step ?_ (forward_within ..) (by decide +kernel)
    exact h1
  · exact h1

/-- What `lanPlain` can change. -/
def fpLanPlain : Nat :=
  0x4000000000000000000000000000000000000000000000000000000000000000000000000000000000000000000000000000000000000000000000000000000000000000000000000000000000000000000000000000000000000000000000000000000000000000000000000000000000000000000000000000000000000000000000000000000000

theorem fpLanPlain_eq : fpLanPlain =
    fpForward := by decide +kernel

theorem lanPlain_within (s : State) (e : Nat) : Within fpLanPlain s (lanPlain s e) := by
  unfold lanPlain
  refine Within.ite ?_ ?_
  · refine Within.step ?_ (forward_within ..) (by decide +kernel)
    exact Within.refl _ _
  · exact Within.refl _ _

/-- What `execLanePublish` can change. -/
def fpExecLanePublish : Nat :=
  0x40030000000001c00f830020000000000000000000000000000000000000000000000000000000000000000000000000000000800000400000000000000000000000000000000000040000000000000000000000000000000003600000000000000000000000600c000000000000000000000180800000000000000000000000000100000000ff0000

theorem fpExecLanePublish_eq : fpExecLanePublish =
    fpUpdLan ||| fpLanAct ||| fpLanPlain := by decide +kernel

theorem execLanePublish_within (l : Fin 24) (s : State) : Completes fpExecLanePublish s (execLanePublish l s) := by
  unfold execLanePublish
  extract_lets -lift +onlyGivenNames a1
  clear_value a1
  extract_lets -lift +onlyGivenNames a2
  clear_value a2
  refine Completes.next ?_
  refine Within.ite ?_ ?_
  · exact Within.refl _ _
  · split
    · exact Within.refl _ _
    · refine Within.ite ?_ ?_
      · refine Within.step ?_ (lanPlain_within ..) (by decide +kernel)
        exact Within.refl _ _
      · refine Within.ite ?_ ?_
        · split
          · refine Within.step ?_ (lanAct_within ..) (by decide +kernel)
            refine Within.step ?_ (updLan_within ..) (by decide +kernel)
            exact Within.refl _ _
          · refine Within.step ?_ (lanAct_within ..) (by decide +kernel)
            exact Within.refl _ _
        · refine Within.step ?_ (lanAct_within ..) (by decide +kernel)
          exact Within.refl _ _

/-- What `lanShotStart` can change. -/
def fpLanShotStart : Nat :=
  0x4000000000000000000000000000000000000000000000000000000000000000000000000000000000000000000000000000000000000000000000000000000000000000000000000000000000000000000000000000000000000000000000000000000000000000000000000000000000000000000000000000000000000000000000000000000000

theorem fpLanShotStart_eq : fpLanShotStart =
    fpUpdLan := by decide +kernel

theorem lanShotStart_within (s : State) : Within fpLanShotStart s (lanShotStart s) := by
  unfold lanShotStart
  refine Within.forAll _ ?_ fun a1 _ => ?_
  · exact Within.refl _ _
  · refine Within.step ?_ (updLan_within ..) (by decide +kernel)
    exact Within.refl _ _

/-- What `routePkt` can change. -/
def fpRoutePkt : Nat :=
  0x4000000000000000000000000000000000000000000000000000000000000000000000000000000000000000000000000000000000000000000000000000000000000000000000000000000000000000000000000000000000000000000000000000000000000000000000000000000000000000000000000000000000000000000000000000000000

theorem fpRoutePkt_eq : fpRoutePkt =
    fpUpdLan := by decide +kernel

theorem routePkt_within (s : State) (p : Pkt) (from_ : Option Nat) : ∀ t, routePkt s p from_ = some t → Within fpRoutePkt s t := by
  intro t ht
  unfold routePkt at ht
  dsimp only at ht
  split at ht
  · cases ht
  · obtain ⟨l, -, rfl⟩ := Option.map_eq_some_iff.1 ht
    exact Within.step (Within.refl _ _) (updLan_within ..) (by decide +kernel)

/-- What `bqDone` can change. -/
def fpBqDone : Nat :=
  0x800010000000080000f80002000000000000000000000000000000000000000000000000000000000000000000000000000000080000000000000000000000000000000000000000000000000000000000000000000000000000000000000000000000002000000000000007e0000000000000180800000000000001fe0000000000000000000000000

theorem fpBqDone_eq : fpBqDone =
    footprint [R.LAN_BQ_RD_INDEX] [.bqCur] ||| fpHbmPut ||| fpHbmGate := by decide +kernel

theorem bqDone_within (s : State) (st : Nat) : Within fpBqDone s (bqDone s st) := by
  unfold bqDone
  extract_lets -lift +onlyGivenNames a1
  clear_value a1
  extract_lets -lift +onlyGivenNames a2
  have h2 : Within fpBqDone s a2 := by
    unfold a2
    split
    · refine Within.step ?_ (hbmPut_within ..) (by decide +kernel)
      refine Within.ofSnd ?_ (by assumption)
      refine Within.step ?_ (hbmGate_within ..) (by decide +kernel)
      exact Within.refl _ _
    · refine Within.ofSnd ?_ (by assumption)
      refine Within.step ?_ (hbmGate_within ..) (by decide +kernel)
      exact Within.refl _ _
  clear_value a2
  extract_lets -lift +onlyGivenNames a3
  have h3 : Within fpBqDone s a3 := by
    unfold a3
    refine Within.step ?_ (set_within _ _ _ (by decide +kernel)) (by decide +kernel)
    exact h2
  clear_value a3
  refine Within.step ?_ (bqCur_within _ _) (by decide +kernel)
  exact h3

/-- What `beatRead` can change. -/
def fpBeatRead : Nat :=
  0x10000000000000f80002000000000000000000000000000000000000000000000000000000000000000000000000000000080000000000000000000000000000000000000000000000000000000000000000000000000000000000000000000000000000000000000007e0000000000000180800000000000001fe0000000000000000000000000

theorem fpBeatRead_eq : fpBeatRead =
    fpHbmGate := by decide +kernel

theorem beatRead_within (s : State) (secure : Bool) (a : Nat) : Within fpBeatRead s (beatRead s secure a).2.2 := by
  unfold beatRead
  split
  · dsimp only
    refine Within.ofSnd ?_ (by assumption)
    refine Within.step ?_ (hbmGate_within ..) (by decide +kernel)
    exact Within.refl _ _
  · dsimp only
    refine Within.ofSnd ?_ (by assumption)
    refine Within.step ?_ (hbmGate_within ..) (by decide +kernel)
    exact Within.refl _ _

/-- What `beatWrite` can change. -/
def fpBeatWrite : Nat :=
  0x10000000080000f80002000000000000000000000000000000000000000000000000000000000000000000000000000000080000000000000000000000000000000000000000000000000000000000000000000000000000000000000000000000000000000000000007e0000000000000180800000000000001fe0000000000000000000000000

theorem fpBeatWrite_eq : fpBeatWrite =
    fpHbmWriteSlots ||| fpHbmGate := by decide +kernel

theorem beatWrite_within (s : State) (secure : Bool) (a : Nat) (d : List Nat) : Within fpBeatWrite s (beatWrite s secure a d).2 := by
  unfold beatWrite
  split
  · dsimp only
    refine Within.step ?_ (hbmWriteSlots_within ..) (by decide +kernel)
    refine Within.ofSnd ?_ (by assumption)
    refine Within.step ?_ (hbmGate_within ..) (by decide +kernel)
    exact Within.refl _ _
  · dsimp only
    refine Within.ofSnd ?_ (by assumption)
    refine Within.step ?_ (hbmGate_within ..) (by decide +kernel)
    exact Within.refl _ _

/-- What `bqAnswer` can change. -/
def fpBqAnswer : Nat :=
  0x800010000000080000f80002000000000000000000000000000000000000000000000000000000000000000000000000000000080000000000000000000000000000000000000000000000000000000000000000000000000000000000000000000000002000000000000007e0000000000000180800000000000001fe0000000000000000000000000

theorem fpBqAnswer_eq : fpBqAnswer =
    footprint [] [.bqCur] ||| fpBqDone ||| fpBeatWrite := by decide +kernel

theorem bqAnswer_within (s : State) (p : Pkt) : Within fpBqAnswer s (bqAnswer s p) := by
  unfold bqAnswer
  split
  · exact Within.refl _ _
  · refine Within.ite ?_ ?_
    · exact Within.refl _ _
    · refine Within.ite ?_ ?_
      · refine Within.step ?_ (bqDone_within ..) (by decide +kernel)
        exact Within.refl _ _
      · split
        refine Within.ite ?_ ?_
        · refine Within.step ?_ (bqDone_within ..) (by decide +kernel)
          refine Within.ofSnd ?_ (by assumption)
          split
          · refine Within.step ?_ (beatWrite_within ..) (by decide +kernel)
            exact Within.refl _ _
          · dsimp only
            exact Within.refl _ _
        · refine Within.ite ?_ ?_
          · refine Within.step ?_ (bqDone_within ..) (by decide +kernel)
            refine Within.ofSnd ?_ (by assumption)
            split
            · refine Within.step ?_ (beatWrite_within ..) (by decide +kernel)
              exact Within.refl _ _
            · dsimp only
              exact Within.refl _ _
          · refine Within.step ?_ (bqCur_within _ _) (by decide +kernel)
            refine Within.ofSnd ?_ (by assumption)
            split
            · refine Within.step ?_ (beatWrite_within ..) (by decide +kernel)
              exact Within.refl _ _
            · dsimp only
              exact Within.refl _ _

/-- What `bulkServe` can change. -/
def fpBulkServe : Nat :=
  0x40010000000080000f80002000000000000000000000000000000000000000000000000000000000000000000000000000000080000000000000000000000000000000000000000000000000000000000000000000000000000000000000000000000000000100000000007e0000000000000180800000000000001fe0000000000000000000000000

theorem fpBulkServe_eq : fpBulkServe =
    footprint [R.LAN_BULK_CRC_CNT_COUNT] [] ||| fpRoutePkt ||| fpBeatRead ||| fpBeatWrite := by decide +kernel

theorem bulkServe_within (s : State) (l : Nat) (p : Pkt) : Within fpBulkServe s (bulkServe s l p) := by
  unfold bulkServe
  refine Within.ite ?_ ?_
  · refine Within.step ?_ (inc_within _ _ _ (by decide +kernel)) (by decide +kernel)
    exact Within.refl _ _
  · extract_lets -lift +onlyGivenNames a1
    clear_value a1
    split
    refine Within.getD ?_ fun t ht => Within.step ?_ (routePkt_within _ _ _ t ht) (by decide +kernel)
    · refine Within.ofSnd ?_ (by assumption)
      split
      · split
        dsimp only
        refine Within.ofSnd ?_ (by assumption)
        refine Within.step ?_ (beatWrite_within ..) (by decide +kernel)
        exact Within.refl _ _
      · split
        dsimp only
        refine Within.ofSnd2 ?_ (by assumption)
        refine Within.step ?_ (beatRead_within ..) (by decide +kernel)
        exact Within.refl _ _
    · refine Within.ofSnd ?_ (by assumption)
      split
      · split
        dsimp only
        refine Within.ofSnd ?_ (by assumption)
        refine Within.step ?_ (beatWrite_within ..) (by decide +kernel)
        exact Within.refl _ _
      · split
        dsimp only
        refine Within.ofSnd2 ?_ (by assumption)
        refine Within.step ?_ (beatRead_within ..) (by decide +kernel)
        exact Within.refl _ _

/-- What `oweFrames` can change. -/
def fpOweFrames : Nat :=
  0x4000000000000000000000000000000000000000000000000000000000000000000000000000000000000000000000000000000000000000000000000000000000000000000000000000000000000000000000000000000000000000000000000000000000000000000000000000000000000000000000000000000000000000000000000000000000

theorem fpOweFrames_eq : fpOweFrames =
    fpUpdLan := by decide +kernel

theorem oweFrames_within (s : State) (l vc k : Nat) : Within fpOweFrames s (oweFrames s l vc k) := by
  unfold oweFrames
  refine Within.step ?_ (updLan_within ..) (by decide +kernel)
  exact Within.refl _ _

/-- What `execBulkPacketReceive` can change. -/
def fpExecBulkPacketReceive : Nat :=
  0x840010000000080000f80002000000000000000000000000000000000000000000000000000000000000000000000000000000080000000000000000000000000000000000000000000000000000000000000000000000000000000000000000000000002000100020000007e0000000000000180800000000000001fe0000000000000000000000000

theorem fpExecBulkPacketReceive_eq : fpExecBulkPacketReceive =
    fpSetLan ||| fpBulkBad ||| fpRoutePkt ||| fpBqAnswer ||| fpBulkServe ||| fpOweFrames := by decide +kernel

theorem execBulkPacketReceive_within (l : Fin 24) (s : State) : Completes fpExecBulkPacketReceive s (execBulkPacketReceive l s) := by
  unfold execBulkPacketReceive
  extract_lets -lift +onlyGivenNames a1
  clear_value a1
  refine Completes.next ?_
  refine Within.ite ?_ ?_
  · exact Within.refl _ _
  · split
    · exact Within.refl _ _
    · extract_lets -lift +onlyGivenNames a2
      have h2 : Within fpExecBulkPacketReceive s a2 := by
        unfold a2
        refine Within.step ?_ (setLan_within ..) (by decide +kernel)
        exact Within.refl _ _
      clear_value a2
      extract_lets -lift +onlyGivenNames a3
      have h3 : Within fpExecBulkPacketReceive s a3 := by
        unfold a3
        refine Within.step ?_ (oweFrames_within ..) (by decide +kernel)
        exact h2
      clear_value a3
      split
      · refine Within.step ?_ (bulkBad_within ..) (by decide +kernel)
        exact h3
      · refine Within.ite ?_ ?_
        · refine Within.getD ?_ fun t ht => Within.step ?_ (routePkt_within _ _ _ t ht) (by decide +kernel)
          · exact Within.refl _ _
          · exact h3
        · refine Within.ite ?_ ?_
          · refine Within.ite ?_ ?_
            · exact Within.refl _ _
            · refine Within.step ?_ (bulkServe_within ..) (by decide +kernel)
              exact h3
          · refine Within.step ?_ (bqAnswer_within ..) (by decide +kernel)
            exact h3

/-- What `execCreditReturn` can change. -/
def fpExecCreditReturn : Nat :=
  0x4000000000000000000000000000000000000000000000000000000000000000000000000000000000000000000000000000000000000000000000000000000000000000000000000000000000000000000000000000000000000000000000000000000000000000000000000000000000000000000000000000000000000000000000000000000000

theorem fpExecCreditReturn_eq : fpExecCreditReturn =
    fpSetLan := by decide +kernel

theorem execCreditReturn_within (l : Fin 24) (s : State) : Completes fpExecCreditReturn s (execCreditReturn l s) := by
  unfold execCreditReturn
  extract_lets -lift +onlyGivenNames a1
  clear_value a1
  refine Completes.next ?_
  refine Within.ite ?_ ?_
  · refine Within.step ?_ (setLan_within ..) (by decide +kernel)
    exact Within.refl _ _
  · exact Within.refl _ _

/-- What `bqBeat` can change. -/
def fpBqBeat : Nat :=
  0x840010000000080000f80002000000000000000000000000000000000000000000000000000000000000000000000000000000080000000000000000000000000000000000000000000000000000000000000000000000000000000000000000000000002000000000000007e0000000000000180800000000000001fe0000000000000000000000000

theorem fpBqBeat_eq : fpBqBeat =
    fpRoutePkt ||| fpBqDone ||| fpBeatRead := by decide +kernel

theorem bqBeat_within (c : BqCur) (s : State) (i : Nat) : Within fpBqBeat s (bqBeat c s i) := by
  unfold bqBeat
  refine Within.ite ?_ ?_
  · exact Within.refl _ _
  · extract_lets -lift +onlyGivenNames a1
    clear_value a1
    refine Within.ite ?_ ?_
    · split
      · refine Within.getD ?_ fun t ht => Within.step ?_ (routePkt_within _ _ _ t ht) (by decide +kernel)
        · refine Within.ofSnd2 ?_ (by assumption)
          refine Within.step ?_ (beatRead_within ..) (by decide +kernel)
          exact Within.refl _ _
        · refine Within.ofSnd2 ?_ (by assumption)
          refine Within.step ?_ (beatRead_within ..) (by decide +kernel)
          exact Within.refl _ _
      · refine Within.step ?_ (bqDone_within ..) (by decide +kernel)
        refine Within.ofSnd2 ?_ (by assumption)
        refine Within.step ?_ (beatRead_within ..) (by decide +kernel)
        exact Within.refl _ _
    · refine Within.getD ?_ fun t ht => Within.step ?_ (routePkt_within _ _ _ t ht) (by decide +kernel)
      · exact Within.refl _ _
      · exact Within.refl _ _

/-- What `execBulkDescriptor` can change. -/
def fpExecBulkDescriptor : Nat :=
  0x840010000000080000f80002000000000000000000000000000000000000000000000000000000000000000000000000000000080000000000000000000000000000000000000000000000000000000000000000000000000000000000000000000000002000000000000007e0000000000000180800000000000001fe0000000000000000000000000

theorem fpExecBulkDescriptor_eq : fpExecBulkDescriptor =
    footprint [] [.bqCur] ||| fpDataRead ||| fpBqDone ||| fpBqBeat := by decide +kernel

theorem execBulkDescriptor_within (s : State) : Completes fpExecBulkDescriptor s (execBulkDescriptor s) := by
  unfold execBulkDescriptor
  refine Completes.next ?_
  refine Within.ite ?_ ?_
  · exact Within.refl _ _
  · refine Within.ite ?_ ?_
    · exact Within.refl _ _
    · split
      extract_lets -lift +onlyGivenNames a1
      clear_value a1
      refine Within.ite ?_ ?_
      · refine Within.step ?_ (bqDone_within ..) (by decide +kernel)
        refine Within.ofSnd ?_ (by assumption)
        refine Within.step ?_ (dataRead_within ..) (by decide +kernel)
        exact Within.refl _ _
      · refine Within.ite ?_ ?_
        · refine Within.step ?_ (bqDone_within ..) (by decide +kernel)
          refine Within.ofSnd ?_ (by assumption)
          refine Within.step ?_ (dataRead_within ..) (by decide +kernel)
          exact Within.refl _ _
        · refine Within.ite ?_ ?_
          · refine Within.step ?_ (bqDone_within ..) (by decide +kernel)
            refine Within.ofSnd ?_ (by assumption)
            refine Within.step ?_ (dataRead_within ..) (by decide +kernel)
            exact Within.refl _ _
          · refine Within.ite ?_ ?_
            · refine Within.step ?_ (bqDone_within ..) (by decide +kernel)
              refine Within.ofSnd ?_ (by assumption)
              refine Within.step ?_ (dataRead_within ..) (by decide +kernel)
              exact Within.refl _ _
            · refine Within.ite ?_ ?_
              · exact Within.refl _ _
              · refine Within.forAll _ ?_ fun a2 _ => ?_
                · refine Within.step ?_ (bqCur_within _ _) (by decide +kernel)
                  refine Within.ofSnd ?_ (by assumption)
                  refine Within.step ?_ (dataRead_within ..) (by decide +kernel)
                  exact Within.refl _ _
                · refine Within.step ?_ (bqBeat_within ..) (by decide +kernel)
                  exact Within.refl _ _

/-- What `execBulkTimeout` can change. -/
def fpExecBulkTimeout : Nat :=
  0x800010000000080000f80002000000000000000000000000000000000000000000000000000000000000000000000000000000080000000000000000000000000000000000000000000000000000000000000000000000000000000000000000000000002000000000000007e0000000000000180800000000000001fe0000000000000000000000000

theorem fpExecBulkTimeout_eq : fpExecBulkTimeout =
    fpBqDone := by decide +kernel

theorem execBulkTimeout_within (s : State) : Completes fpExecBulkTimeout s (execBulkTimeout s) := by
  unfold execBulkTimeout
  refine Completes.next ?_
  refine Within.ite ?_ ?_
  · exact Within.refl _ _
  · split
    · exact Within.refl _ _
    · refine Within.ite ?_ ?_
      · refine Within.step ?_ (bqDone_within ..) (by decide +kernel)
        exact Within.refl _ _
      · exact Within.refl _ _

/-- What `bqCfgWritten` can change. -/
def fpBqCfgWritten : Nat := footprint [R.LAN_BQ_BASE_LO_ADDR, R.LAN_BQ_BASE_HI_ADDR, R.LAN_BQ_SIZE_ENABLE, R.LAN_BQ_SIZE_LOG2] []

theorem bqCfgWritten_within (before s : State) : Within fpBqCfgWritten s (bqCfgWritten before s) := by
  unfold bqCfgWritten
  refine Within.ite ?_ (Within.refl _ _)
  refine Within.forAll_mem _ (Within.refl _ _) fun t f hf => ?_
  have h : ∀ f ∈ [R.LAN_BQ_BASE_LO_ADDR, R.LAN_BQ_BASE_HI_ADDR, R.LAN_BQ_SIZE_ENABLE, R.LAN_BQ_SIZE_LOG2],
    Fits f ∧ 2 ^ f.id &&& fpBqCfgWritten = 2 ^ f.id := by decide +kernel
  exact Within.step (Within.refl _ _) (set_within _ _ _ (h f hf).1) (h f hf).2

/-- What `prbsBit` can change. -/
def fpPrbsBit : Nat :=
  0x4000000000000000000000000000000000000000000000000000000000000000000000000000000000000000000000000000000000000000000000000000000000000000000000000000000000000000000000000000000000000000000000000000000000060000100000000000000000000000000000000000000000000000000000000000000000

theorem fpPrbsBit_eq : fpPrbsBit =
    footprint [R.LAN_STATUS_PRBS_SYNC, R.LAN_PRBS_ERR_CNT_COUNT, R.LAN_PRBS_BITS_LO_BITS_LO] [] ||| fpSetLan := by decide +kernel

theorem prbsBit_within (l : Nat) (s : State) (b : Bool) : Within fpPrbsBit s (prbsBit l s b) := by
  unfold prbsBit
  extract_lets -lift +onlyGivenNames a1
  clear_value a1
  refine Within.ite ?_ ?_
  · extract_lets -lift +onlyGivenNames a2
    clear_value a2
    extract_lets -lift +onlyGivenNames a3
    clear_value a3
    extract_lets -lift +onlyGivenNames a4
    clear_value a4
    extract_lets -lift +onlyGivenNames a5
    have h5 : Within fpPrbsBit s a5 := by
      unfold a5
      refine Within.when ?_ fun a6 => ?_
      · exact Within.refl _ _
      · refine Within.step ?_ (inc_within _ _ _ (by decide +kernel)) (by decide +kernel)
        exact Within.refl _ _
    clear_value a5
    extract_lets -lift +onlyGivenNames a6
    clear_value a6
    extract_lets -lift +onlyGivenNames a7
    have h7 : Within fpPrbsBit s a7 := by
      unfold a7
      refine Within.step ?_ (set_within _ _ _ (by decide +kernel)) (by decide +kernel)
      exact h5
    clear_value a7
    refine Within.ite ?_ ?_
    · refine Within.step ?_ (setLan_within ..) (by decide +kernel)
      refine Within.step ?_ (set_within _ _ _ (by decide +kernel)) (by decide +kernel)
      exact h7
    · refine Within.step ?_ (setLan_within ..) (by decide +kernel)
      exact h7
  · extract_lets -lift +onlyGivenNames a2
    clear_value a2
    extract_lets -lift +onlyGivenNames a3
    have h3 : Within fpPrbsBit s a3 := by
      unfold a3
      refine Within.step ?_ (setLan_within ..) (by decide +kernel)
      exact Within.refl _ _
    clear_value a3
    refine Within.ite ?_ ?_
    · refine Within.step ?_ (set_within _ _ _ (by decide +kernel)) (by decide +kernel)
      exact h3
    · exact h3

/-- What `execPrbsChecker` can change. -/
def fpExecPrbsChecker : Nat :=
  0x4000000000000000000000000000000000000000000000000000000000000000000000000000000000000000000000000000000000000000000000000000000000000000000000000000000000000000000000000000000000000000000000000000000000060000100000000000000000000000000000000000000000000000000000000000000000

theorem fpExecPrbsChecker_eq : fpExecPrbsChecker =
    fpPrbsBit := by decide +kernel

theorem execPrbsChecker_within (l : Fin 24) (rx : List Bool) (s : State) : Completes fpExecPrbsChecker s (execPrbsChecker l rx s) := by
  unfold execPrbsChecker
  refine Completes.next ?_
  refine Within.ite ?_ ?_
  · refine Within.forAll _ ?_ fun a1 _ => ?_
    · exact Within.refl _ _
    · refine Within.step ?_ (prbsBit_within ..) (by decide +kernel)
      exact Within.refl _ _
  · exact Within.refl _ _

/-- What `prbsWritten` can change. -/
def fpPrbsWritten : Nat :=
  0x40000000000000000000000000000000000000000000000000000000000000000000000000000000000000000000000000000000000000000000000000000000000000000000000000000000000000000000000000000000000000000000000000000000000c0000000000000000000000000000000000000000000000000000000000000000000000

theorem fpPrbsWritten_eq : fpPrbsWritten =
    footprint [R.LAN_PRBS_BITS_LO_BITS_LO, R.LAN_PRBS_BITS_HI_BITS_HI] [] ||| fpUpdLan := by decide +kernel

theorem prbsWritten_within (s : State) (l : Nat) : Within fpPrbsWritten s (prbsWritten s l) := by
  unfold prbsWritten
  refine Within.step ?_ (set_within _ _ _ (by decide +kernel)) (by decide +kernel)
  refine Within.step ?_ (updLan_within ..) (by decide +kernel)
  refine Within.step ?_ (set_within _ _ _ (by decide +kernel)) (by decide +kernel)
  exact Within.refl _ _

/-- What `prbsLatch` can change. -/
def fpPrbsLatch : Nat := footprint [R.LAN_PRBS_BITS_HI_BITS_HI] []

theorem prbsLatch_within (s : State) (l : Nat) : Within fpPrbsLatch s (prbsLatch s l) := by
  unfold prbsLatch
  refine Within.step ?_ (set_within _ _ _ (by decide +kernel)) (by decide +kernel)
  exact Within.refl _ _

end Sys2Proof.Machine
end

