-- ==== Sys2Proof/Laws/PointingRun.lean ====
section
/-! SUPPORT. What each operation of Sys2Proof/Machine/PointingRun.lean can change. -/

set_option Elab.async false

namespace Sys2Proof.Machine

/-- What `setPntDelta` can change. -/
def fpSetPntDelta : Nat := footprint [] [.pnt]

theorem setPntDelta_within (s : State) (item zone sub n : Nat) (d : Int) : Within fpSetPntDelta s (setPntDelta s item zone sub n d) := by
  unfold setPntDelta
  refine Within.step ?_ (pnt_within _ _) (by decide +kernel)
  exact Within.refl _ _

/-- What `setPntApplied` can change: the register an item's applied value stands in, or the trim the model keeps for it. -/
def fpSetPntApplied : Nat :=
  0x100000000000000000000000000000000000000000000000000000000000000000000000000000000000000000000000000000000000000000000a800000000000000000800000000000000000000000000000000000000000000000000000000000000000000400000000000000000000000000000000001000000000000000000000000000000000000

theorem fpSetPntApplied_eq : fpSetPntApplied =
    footprint [R.LIN_FSC_CODE, R.INP_SLC_SKEW_TAPS, R.INP_SLC_OFF_BASE, R.INP_SLC_GAIN_BASE, R.LAN_RX_TAP_TAP, R.CLK_SYNC_PATH_TAPS] [.pnt] := by decide +kernel

theorem pntField_mem {item sub n : Nat} {f : Fld} {i : Nat} (h : pntField item sub n = some (f, i)) :
    f ∈ [R.LIN_FSC_CODE, R.INP_SLC_SKEW_TAPS, R.INP_SLC_OFF_BASE, R.INP_SLC_GAIN_BASE, R.LAN_RX_TAP_TAP, R.CLK_SYNC_PATH_TAPS] := by
  unfold pntField at h
  split at h
  · cases h; simp
  · cases h; simp
  · split at h <;> (cases h; simp)
  · cases h; simp
  · cases h; simp
  · cases h

theorem setPntApplied_within (s : State) (item sub n : Nat) (v : Int) : Within fpSetPntApplied s (setPntApplied s item sub n v) := by
  have h : ∀ f ∈ [R.LIN_FSC_CODE, R.INP_SLC_SKEW_TAPS, R.INP_SLC_OFF_BASE, R.INP_SLC_GAIN_BASE, R.LAN_RX_TAP_TAP, R.CLK_SYNC_PATH_TAPS],
    Fits f ∧ 2 ^ f.id &&& fpSetPntApplied = 2 ^ f.id := by decide +kernel
  unfold setPntApplied
  split
  · rename_i f i e
    have hf := h f (pntField_mem e)
    exact Within.step (Within.refl _ _) (set_within _ _ _ hf.1) hf.2
  · exact Within.step (Within.refl _ _) (pnt_within _ _) (by decide +kernel)

/-- What `pntApply` can change. -/
def fpPntApply : Nat :=
  0x100000000000000000000000000000000000000000000000000000000000000000000000000000000000000000000000000000000000000000000a800000000000000000800000000000000000000000000000000000000000000000000000000000000080000400000000000000000000000000000000001000000000000000000000000000000000000

theorem fpPntApply_eq : fpPntApply =
    footprint [R.PNT_STATUS_CLAMPED] [] ||| fpSetPntApplied := by decide +kernel

theorem pntApply_within (s : State) (item n : Nat) : Within fpPntApply s (pntApply s item n) := by
  unfold pntApply
  refine Within.forAll _ ?_ fun a1 _ => ?_
  · exact Within.refl _ _
  · extract_lets -lift +onlyGivenNames a2
    clear_value a2
    refine Within.when ?_ fun a3 => ?_
    · refine Within.step ?_ (setPntApplied_within ..) (by decide +kernel)
      exact Within.refl _ _
    · refine Within.step ?_ (set_within _ _ _ (by decide +kernel)) (by decide +kernel)
      exact Within.refl _ _

/-- What `pntLog` can change. -/
def fpPntLog : Nat :=
  0xfc00000000000000000000000000000000000000000000000000000000000000000000000000000000

theorem fpPntLog_eq : fpPntLog =
    footprint [R.PNT_LOG_FILL_NEXT, R.PNT_LOG_FILL_ENTRIES, R.PNT_LOG_TLO_WORD, R.PNT_LOG_THI_WORD, R.PNT_LOG_ID_WORD,
  R.PNT_LOG_VAL_WORD] [] := by decide +kernel

theorem pntLog_within (s : State) (measure : Bool) (item zone sub n : Nat) (new old : Int) : Within fpPntLog s (pntLog s measure item zone sub n
    new old) := by
  unfold pntLog
  extract_lets -lift +onlyGivenNames a1
  clear_value a1
  extract_lets -lift +onlyGivenNames a2
  have h2 : Within fpPntLog s a2 := by
    unfold a2
    refine Within.step ?_ (set_within _ _ _ (by decide +kernel)) (by decide +kernel)
    refine Within.step ?_ (set_within _ _ _ (by decide +kernel)) (by decide +kernel)
    exact Within.refl _ _
  clear_value a2
  extract_lets -lift +onlyGivenNames a3
  have h3 : Within fpPntLog s a3 := by
    unfold a3
    refine Within.step ?_ (set_within _ _ _ (by decide +kernel)) (by decide +kernel)
    exact h2
  clear_value a3
  extract_lets -lift +onlyGivenNames a4
  have h4 : Within fpPntLog s a4 := by
    unfold a4
    refine Within.step ?_ (set_within _ _ _ (by decide +kernel)) (by decide +kernel)
    exact h3
  clear_value a4
  refine Within.step ?_ (set_within _ _ _ (by decide +kernel)) (by decide +kernel)
  refine Within.step ?_ (set_within _ _ _ (by decide +kernel)) (by decide +kernel)
  exact h4

/-- What `updPnt` can change. -/
def fpUpdPnt : Nat := footprint [] [.pnt]

theorem updPnt_within (s : State) (f : Pnt → Pnt) : Within fpUpdPnt s (updPnt s f) := by
  unfold updPnt
  refine Within.step ?_ (pnt_within _ _) (by decide +kernel)
  exact Within.refl _ _

/-- What `updInst` can change. -/
def fpUpdInst : Nat :=
  0x1000000000000000000000000000000000000000000000000000000000000000000000000000000000000000000000000000000000000000000000000000000000000000000000000000000000000000000000000000000000000000000000000000000000000000000000000000000000000000000000000000000000000000000000000000000000000

theorem fpUpdInst_eq : fpUpdInst =
    fpUpdPnt := by decide +kernel

theorem updInst_within (s : State) (n : Nat) (f : PInst → PInst) : Within fpUpdInst s (updInst s n f) := by
  unfold updInst
  refine Within.step ?_ (updPnt_within ..) (by decide +kernel)
  exact Within.refl _ _

/-- What `pntSwitch` can change. -/
def fpPntSwitch : Nat :=
  0x1000000000060000000000000000000000000000000000000000000000000000000000000000000000000000000000000000000000000000000000000000000000000001000000000000000000000000000000000000000000000000000000000000000000000000000000000000000000000000000000000000000000000000000000000000000000000

theorem fpPntSwitch_eq : fpPntSwitch =
    footprint [R.LIN_STATUS_LIVE] [.pnt] ||| fpSetLine ||| fpSetBias ||| fpUpdInst := by decide +kernel

theorem pntSwitch_within (s : State) (item n : Nat) : Within fpPntSwitch s (pntSwitch s item n) := by
  unfold pntSwitch
  extract_lets -lift +onlyGivenNames a1
  have h1 : Within fpPntSwitch s a1 := by
    unfold a1
    refine Within.step ?_ (updInst_within ..) (by decide +kernel)
    exact Within.refl _ _
  clear_value a1
  refine Within.ite ?_ ?_
  · refine Within.ite ?_ ?_
    · refine Within.step ?_ (setLine_within ..) (by decide +kernel)
      refine Within.step ?_ (set_within _ _ _ (by decide +kernel)) (by decide +kernel)
      exact h1
    · exact h1
  · refine Within.ite ?_ ?_
    · refine Within.step ?_ (setBias_within ..) (by decide +kernel)
      exact h1
    · refine Within.ite ?_ ?_
      · refine Within.step ?_ (pnt_within _ _) (by decide +kernel)
        exact h1
      · exact h1

/-- What `pntFree` can change. -/
def fpPntFree : Nat :=
  0x1000000000000000000000000000000000000000000000000000000000000000000000000000000000000000000000000000000000000000000000000000000000000000000000000000000000000000000000000000000000000000000000000000000000000000000000000000000000000000000000000000000000000000000000000000000000000

theorem fpPntFree_eq : fpPntFree =
    fpUpdInst := by decide +kernel

theorem pntFree_within (s : State) (n : Nat) : Within fpPntFree s (pntFree s n) := by
  unfold pntFree
  refine Within.step ?_ (updInst_within ..) (by decide +kernel)
  exact Within.refl _ _

/-- What `syncReturn` can change. -/
def fpSyncReturn : Nat :=
  0x1000000000000000000000000000000000000000000000000000000000000000000000000000000000000000000000000000000000000000000000000000000000000000000000000000000000000000000000000000000000000000000000000000000000000000000000000000000000000000000000000000000000000000000000000000000000000

theorem fpSyncReturn_eq : fpSyncReturn =
    footprint [] [.pnt] ||| fpPntFree := by decide +kernel

theorem syncReturn_within (s : State) : Within fpSyncReturn s (syncReturn s) := by
  unfold syncReturn
  refine Within.ite ?_ ?_
  · extract_lets -lift +onlyGivenNames a1
    have h1 : Within fpSyncReturn s a1 := by
      unfold a1
      refine Within.step ?_ (pntFree_within ..) (by decide +kernel)
      exact Within.refl _ _
    clear_value a1
    refine Within.step ?_ (pnt_within _ _) (by decide +kernel)
    exact h1
  · refine Within.step ?_ (pnt_within _ _) (by decide +kernel)
    exact Within.refl _ _

/-- What `biasReclose` can change. -/
def fpBiasReclose : Nat :=
  0x1000000000040000000000000000000000000000000000000000000000000000000000000000000000000000000000000000000000000000000000000000000000000000000000000000000000000000000000000000000000000000000000000000000000000000000000000000000000000000000000000000000000000000000000000000000000000

theorem fpBiasReclose_eq : fpBiasReclose =
    footprint [] [.pnt] ||| fpSetBias ||| fpPntFree := by decide +kernel

theorem biasReclose_within (s : State) (n : Nat) : Within fpBiasReclose s (biasReclose s n) := by
  unfold biasReclose
  extract_lets -lift +onlyGivenNames a1
  clear_value a1
  extract_lets -lift +onlyGivenNames a2
  have h2 : Within fpBiasReclose s a2 := by
    unfold a2
    refine Within.step ?_ (pntFree_within ..) (by decide +kernel)
    refine Within.step ?_ (pnt_within _ _) (by decide +kernel)
    exact Within.refl _ _
  clear_value a2
  refine Within.step ?_ (setBias_within ..) (by decide +kernel)
  exact h2

/-- What `pntReturn` can change. -/
def fpPntReturn : Nat :=
  0x1000000000060000000000000000000000000000000000000000000000000000000000000000000000000000000000000000000000000000000000000000000000000001000000000000000000000000000000000000000000000000000000000000000000000000000000000000000000000000000000000000000000000000000000000000000000000

theorem fpPntReturn_eq : fpPntReturn =
    footprint [R.LIN_STATUS_LIVE] [.pnt] ||| fpSetLine ||| fpPntFree ||| fpSyncReturn ||| fpBiasReclose := by decide +kernel

theorem pntReturn_within (s : State) (item n : Nat) : Within fpPntReturn s (pntReturn s item n) := by
  unfold pntReturn
  refine Within.ite ?_ ?_
  · refine Within.ite ?_ ?_
    · extract_lets -lift +onlyGivenNames a1
      have h1 : Within fpPntReturn s a1 := by
        unfold a1
        refine Within.step ?_ (pntFree_within ..) (by decide +kernel)
        exact Within.refl _ _
      clear_value a1
      refine Within.ite ?_ ?_
      · refine Within.step ?_ (setLine_within ..) (by decide +kernel)
        refine Within.step ?_ (set_within _ _ _ (by decide +kernel)) (by decide +kernel)
        exact h1
      · exact h1
    · refine Within.ite ?_ ?_
      · refine Within.ite ?_ ?_
        · refine Within.step ?_ (biasReclose_within ..) (by decide +kernel)
          exact Within.refl _ _
        · refine Within.ite ?_ ?_
          · exact Within.refl _ _
          · refine Within.step ?_ (pnt_within _ _) (by decide +kernel)
            exact Within.refl _ _
      · refine Within.ite ?_ ?_
        · refine Within.step ?_ (syncReturn_within ..) (by decide +kernel)
          exact Within.refl _ _
        · refine Within.step ?_ (pntFree_within ..) (by decide +kernel)
          exact Within.refl _ _
  · exact Within.refl _ _

/-- What `pntShow` can change. -/
def fpPntShow : Nat := footprint [R.PNT_STATUS_STATE] []

theorem pntShow_within (s : State) : Within fpPntShow s (pntShow s) := by
  unfold pntShow
  split
  · refine Within.step ?_ (set_within _ _ _ (by decide +kernel)) (by decide +kernel)
    exact Within.refl _ _
  · refine Within.step ?_ (set_within _ _ _ (by decide +kernel)) (by decide +kernel)
    exact Within.refl _ _

/-- What `pntFail` can change. -/
def fpPntFail : Nat :=
  0x1000000000060000000000000000000000000000000000000000000000000000000000000000000000000000000000000000000000000000000000000000000000000001000000000000000000000000000000000000000000000000000000000000007400000000000000000000000000000000000000000000000000000000000000000000000000000

theorem fpPntFail_eq : fpPntFail =
    footprint [R.PNT_COUNT_FAILED, R.PNT_FAIL_VALID, R.PNT_FAIL_REASON, R.PNT_FAIL_INSTANCE] [] ||| fpUpdInst ||| fpPntReturn := by decide +kernel

theorem pntFail_within (s : State) (item n reason : Nat) : Within fpPntFail s (pntFail s item n reason) := by
  unfold pntFail
  extract_lets -lift +onlyGivenNames a1
  have h1 : Within fpPntFail s a1 := by
    unfold a1
    refine Within.step ?_ (pntReturn_within ..) (by decide +kernel)
    exact Within.refl _ _
  clear_value a1
  extract_lets -lift +onlyGivenNames a2
  have h2 : Within fpPntFail s a2 := by
    unfold a2
    refine Within.step ?_ (updInst_within ..) (by decide +kernel)
    exact h1
  clear_value a2
  extract_lets -lift +onlyGivenNames a3
  have h3 : Within fpPntFail s a3 := by
    unfold a3
    refine Within.step ?_ (inc_within _ _ _ (by decide +kernel)) (by decide +kernel)
    exact h2
  clear_value a3
  refine Within.ite ?_ ?_
  · refine Within.step ?_ (set_within _ _ _ (by decide +kernel)) (by decide +kernel)
    refine Within.step ?_ (set_within _ _ _ (by decide +kernel)) (by decide +kernel)
    refine Within.step ?_ (set_within _ _ _ (by decide +kernel)) (by decide +kernel)
    exact h3
  · exact h3

/-- What `pntEnd` can change. -/
def fpPntEnd : Nat :=
  0x10008013000000000000f800020000000000000000000000000000000000000000000000000000000000000000000000000000000c00004000000000000000000000000000000000000000000000000000000000000000000000000000000000000000014000000000000000000000000100f500180800000000000000000000000000400000000000000

theorem fpPntEnd_eq : fpPntEnd =
    footprint [R.PNT_STATUS_STATE, R.PNT_STATUS_CODE] [.pnt] ||| fpGlobalEvent ||| fpHostDoneB := by decide +kernel

theorem pntEnd_within (s : State) (code : Nat) : Within fpPntEnd s (pntEnd s code) := by
  unfold pntEnd
  extract_lets -lift +onlyGivenNames a1
  clear_value a1
  extract_lets -lift +onlyGivenNames a2
  clear_value a2
  extract_lets -lift +onlyGivenNames a3
  have h3 : Within fpPntEnd s a3 := by
    unfold a3
    refine Within.step ?_ (pnt_within _ _) (by decide +kernel)
    exact Within.refl _ _
  clear_value a3
  extract_lets -lift +onlyGivenNames a4
  have h4 : Within fpPntEnd s a4 := by
    unfold a4
    refine Within.step ?_ (globalEvent_within ..) (by decide +kernel)
    refine Within.step ?_ (set_within _ _ _ (by decide +kernel)) (by decide +kernel)
    refine Within.step ?_ (set_within _ _ _ (by decide +kernel)) (by decide +kernel)
    exact h3
  clear_value a4
  refine Within.ite ?_ ?_
  · refine Within.step ?_ (hostDoneB_within ..) (by decide +kernel)
    exact h4
  · exact h4

/-- What `pntSettle` can change. -/
def fpPntSettle : Nat :=
  0x10008013000000000000f800020000000000000000000000000000000000000000000000000000000000000000000000000000000c00004000000000000000000000000000000000000000000000000000000000000000000000000000000000000000014000000000000000000000000100f500180800000000000000000000000000400000000000000

theorem fpPntSettle_eq : fpPntSettle =
    fpPntShow ||| fpPntEnd := by decide +kernel

theorem pntSettle_within (s : State) : Within fpPntSettle s (pntSettle s) := by
  unfold pntSettle
  split
  · exact Within.refl _ _
  · split
    · refine Within.ite ?_ ?_
      · refine Within.step ?_ (pntShow_within ..) (by decide +kernel)
        exact Within.refl _ _
      · refine Within.step ?_ (pntEnd_within ..) (by decide +kernel)
        exact Within.refl _ _
    · refine Within.ite ?_ ?_
      · refine Within.step ?_ (pntEnd_within ..) (by decide +kernel)
        exact Within.refl _ _
      · refine Within.step ?_ (pntShow_within ..) (by decide +kernel)
        exact Within.refl _ _

/-- What `pntRestores` can change. -/
def fpPntRestores : Nat :=
  0x10008013000400000000f800020000000000000000000000000000000000000000000000000000000000000000000000000000000c00004000000000000000000000000000000000000000000000000000000000000000000000000000000000000000014000000000000000000000000100f500180800000000000000000000000000400000000000000

theorem fpPntRestores_eq : fpPntRestores =
    fpSyncReturn ||| fpBiasReclose ||| fpPntSettle := by decide +kernel

theorem pntRestores_within (s : State) : Within fpPntRestores s (pntRestores s) := by
  unfold pntRestores
  extract_lets -lift +onlyGivenNames a1
  clear_value a1
  refine Within.ite ?_ ?_
  · exact Within.refl _ _
  · extract_lets -lift +onlyGivenNames a2
    have h2 : Within fpPntRestores s a2 := by
      unfold a2
      refine Within.forAll _ ?_ fun a3 _ => ?_
      · exact Within.refl _ _
      · refine Within.step ?_ (biasReclose_within ..) (by decide +kernel)
        exact Within.refl _ _
    clear_value a2
    refine Within.step ?_ (pntSettle_within ..) (by decide +kernel)
    refine Within.ite ?_ ?_
    · refine Within.step ?_ (syncReturn_within ..) (by decide +kernel)
      exact h2
    · exact h2

/-- What `pntDiscard` can change. -/
def fpPntDiscard : Nat :=
  0x1000000000060000000000000000000000000000000000000000000000000000000000000000000000000000000000000000000000000000000000000000000000000001000000000000000000000000000000000000000000000000000000000000000000000000000000000000000000000000000000000000000000000000000000000000000000000

theorem fpPntDiscard_eq : fpPntDiscard =
    fpUpdInst ||| fpPntReturn := by decide +kernel

theorem pntDiscard_within (s : State) : Within fpPntDiscard s (pntDiscard s) := by
  unfold pntDiscard
  split
  · exact Within.refl _ _
  · refine Within.forAll _ ?_ fun a1 _ => ?_
    · exact Within.refl _ _
    · refine Within.step ?_ (updInst_within ..) (by decide +kernel)
      refine Within.step ?_ (pntReturn_within ..) (by decide +kernel)
      exact Within.refl _ _

/-- What `pntAbort` can change. -/
def fpPntAbort : Nat :=
  0x10008013000600000000f800020000000000000000000000000000000000000000000000000000000000000000000000000000000c00004000000000000000000000000100000000000000000000000000000000000000000000000000000000000000014000000000000000000000000100f500180800000000000000000000000000400000000000000

theorem fpPntAbort_eq : fpPntAbort =
    fpUpdPnt ||| fpPntSettle ||| fpPntDiscard := by decide +kernel

theorem pntAbort_within (s : State) : Within fpPntAbort s (pntAbort s) := by
  unfold pntAbort
  refine Within.ite ?_ ?_
  · refine Within.step ?_ (pntSettle_within ..) (by decide +kernel)
    refine Within.step ?_ (pntDiscard_within ..) (by decide +kernel)
    refine Within.step ?_ (updPnt_within ..) (by decide +kernel)
    exact Within.refl _ _
  · exact Within.refl _ _

end Sys2Proof.Machine
end

