-- ==== Sys2Proof/Laws/Monitor.lean ====
section
/-! SUPPORT. What each operation of Sys2Proof/Machine/Monitor.lean can change. -/

set_option Elab.async false

namespace Sys2Proof.Machine

/-- What `updMon` can change. -/
def fpUpdMon : Nat := footprint [] [.mon]

theorem updMon_within (s : State) (f : Mon → Mon) : Within fpUpdMon s (updMon s f) := by
  unfold updMon
  refine Within.step ?_ (mon_within _ _) (by decide +kernel)
  exact Within.refl _ _

/-- What `monBegin` can change. -/
def fpMonBegin : Nat :=
  0x800000000000000000000000000000000000000000000000000000000000000000000000000000000000000000000000000000000000000000000000000000000000000000000000000000000000000000000000000000000000000000000000300000000000000000000000000000000000000000000000000000000000000000000000000000000000

theorem fpMonBegin_eq : fpMonBegin =
    footprint [R.MON_STATUS_BUSY, R.MON_STATUS_USER] [] ||| fpUpdMon := by decide +kernel

theorem monBegin_within (s : State) (user idx chan : Nat) : Within fpMonBegin s (monBegin s user idx chan) := by
  unfold monBegin
  extract_lets -lift +onlyGivenNames a1
  have h1 : Within fpMonBegin s a1 := by
    unfold a1
    refine Within.step ?_ (updMon_within ..) (by decide +kernel)
    exact Within.refl _ _
  clear_value a1
  refine Within.step ?_ (set_within _ _ _ (by decide +kernel)) (by decide +kernel)
  refine Within.step ?_ (set_within _ _ _ (by decide +kernel)) (by decide +kernel)
  exact h1

/-- What `monTaken` can change. -/
def fpMonTaken : Nat := footprint [R.EVF_TASKST_PENDING] []

theorem monTaken_within (s : State) (j : Nat) : Within fpMonTaken s (monTaken s j) := by
  unfold monTaken
  refine Within.when ?_ fun a1 => ?_
  · exact Within.refl _ _
  · refine Within.step ?_ (set_within _ _ _ (by decide +kernel)) (by decide +kernel)
    exact Within.refl _ _

/-- What `monAssign` can change. -/
def fpMonAssign : Nat :=
  0x800000000000000000000000000000000000000000000000000000000000000000000000000000000000000000000000000000000000000000000000000000000000000000000000000000000000000000000000000000000000000000040000300000000000000000000000000000000000002000000000000000000000000000000000000000000000

theorem fpMonAssign_eq : fpMonAssign =
    footprint [R.MON_STATUS_BUSY, R.MON_STATUS_USER, R.MON_INJ_RES_LATE] [] ||| fpMonBegin ||| fpMonTaken := by decide +kernel

theorem monAssign_within (s : State) : Within fpMonAssign s (monAssign s) := by
  unfold monAssign
  refine Within.ite ?_ ?_
  · exact Within.refl _ _
  · split
    · extract_lets -lift +onlyGivenNames a1
      have h1 : Within fpMonAssign s a1 := by
        unfold a1
        refine Within.when ?_ fun a2 => ?_
        · exact Within.refl _ _
        · refine Within.step ?_ (set_within _ _ _ (by decide +kernel)) (by decide +kernel)
          refine Within.step ?_ (monTaken_within ..) (by decide +kernel)
          exact Within.refl _ _
      clear_value a1
      refine Within.step ?_ (monBegin_within ..) (by decide +kernel)
      exact h1
    · split
      · refine Within.step ?_ (monBegin_within ..) (by decide +kernel)
        exact Within.refl _ _
      · split
        · refine Within.step ?_ (monBegin_within ..) (by decide +kernel)
          exact Within.refl _ _
        · refine Within.step ?_ (set_within _ _ _ (by decide +kernel)) (by decide +kernel)
          refine Within.step ?_ (set_within _ _ _ (by decide +kernel)) (by decide +kernel)
          exact Within.refl _ _

/-- What `monPass` can change. -/
def fpMonPass : Nat :=
  0x800000000000000000000000000000000000000000000000000000000000000000000000000000000000000000000000000000000000000000000000000000000000000000000000000000000000000000000000000000000000000000040000b00000000000000000000000000000000000002000000000000000000000000000000000000000000000

theorem fpMonPass_eq : fpMonPass =
    footprint [R.MON_STATUS_SEQ_OVERRUN] [] ||| fpUpdMon ||| fpMonAssign := by decide +kernel

theorem monPass_within (s : State) : Within fpMonPass s (monPass s) := by
  unfold monPass
  refine Within.ite ?_ ?_
  · refine Within.step ?_ (set_within _ _ _ (by decide +kernel)) (by decide +kernel)
    exact Within.refl _ _
  · refine Within.step ?_ (monAssign_within ..) (by decide +kernel)
    refine Within.step ?_ (updMon_within ..) (by decide +kernel)
    exact Within.refl _ _

/-- What `monSeqWritten` can change. -/
def fpMonSeqWritten : Nat :=
  0x800000000000000000000000000000000000000000000000000000000000000000000000000000000000000000000000000000000000000000000000000000000000000000000000000000000000000000000000000000000000000000040000b00000000000000000000000000000000000002000000000000000000000000000000000000000000000

theorem fpMonSeqWritten_eq : fpMonSeqWritten =
    fpUpdMon ||| fpMonPass := by decide +kernel

theorem monSeqWritten_within (s : State) : Within fpMonSeqWritten s (monSeqWritten s) := by
  unfold monSeqWritten
  refine Within.ite ?_ ?_
  · extract_lets -lift +onlyGivenNames a1
    have h1 : Within fpMonSeqWritten s a1 := by
      unfold a1
      refine Within.step ?_ (updMon_within ..) (by decide +kernel)
      exact Within.refl _ _
    clear_value a1
    refine Within.step ?_ (monPass_within ..) (by decide +kernel)
    exact h1
  · refine Within.step ?_ (updMon_within ..) (by decide +kernel)
    exact Within.refl _ _

/-- What `execMonPassStart` can change. -/
def fpExecMonPassStart : Nat :=
  0x800000000000000000000000000000000000000000000000000000000000000000000000000000000000000000000000000000000000000000000000000000000000000000000000000000000000000000000000000000000000000000040000b00000000000000000000000000000000000002000000000000000000000000000000000000000000000

theorem fpExecMonPassStart_eq : fpExecMonPassStart =
    fpUpdMon ||| fpMonPass := by decide +kernel

theorem execMonPassStart_within (s : State) : Completes fpExecMonPassStart s (execMonPassStart s) := by
  unfold execMonPassStart
  refine Completes.next ?_
  refine Within.ite ?_ ?_
  · exact Within.refl _ _
  · refine Within.ite ?_ ?_
    · refine Within.step ?_ (monPass_within ..) (by decide +kernel)
      refine Within.step ?_ (updMon_within ..) (by decide +kernel)
      exact Within.refl _ _
    · exact Within.refl _ _

/-- What `monInject` can change. -/
def fpMonInject : Nat :=
  0x800000000000000000000000000000000000000000000000000000000000000000000000000000000000000000000000000000000000000000000000000000000000000000000000000000000000000000000000000000000000000000060000700000000000000000000000000000000000002000000000000000000000000000000000000000000000

theorem fpMonInject_eq : fpMonInject =
    footprint [R.MON_STATUS_INJ_OVERRUN, R.MON_INJ_RES_OVERRUN] [] ||| fpUpdMon ||| fpMonAssign := by decide +kernel

theorem monInject_within (s : State) (j : Nat) : Within fpMonInject s (monInject s j) := by
  unfold monInject
  refine Within.ite ?_ ?_
  · refine Within.step ?_ (set_within _ _ _ (by decide +kernel)) (by decide +kernel)
    refine Within.step ?_ (set_within _ _ _ (by decide +kernel)) (by decide +kernel)
    exact Within.refl _ _
  · refine Within.step ?_ (monAssign_within ..) (by decide +kernel)
    refine Within.step ?_ (updMon_within ..) (by decide +kernel)
    exact Within.refl _ _

/-- What `execMonInjectStart` can change. -/
def fpExecMonInjectStart : Nat :=
  0x800000000000000000000000000000000000000000000000000000000000000000000000000000000000000000000000000000000000000000000000000000000000000000000000000000000000000000000000000000000000000000060000700000000000000000000000000000000000002000000000000000000000000000000000000000000000

theorem fpExecMonInjectStart_eq : fpExecMonInjectStart =
    fpMonInject := by decide +kernel

theorem execMonInjectStart_within (j : Fin 8) (s : State) : Completes fpExecMonInjectStart s (execMonInjectStart j s) := by
  unfold execMonInjectStart
  extract_lets -lift +onlyGivenNames a1
  clear_value a1
  refine Completes.next ?_
  refine Within.ite ?_ ?_
  · exact Within.refl _ _
  · refine Within.ite ?_ ?_
    · refine Within.ite ?_ ?_
      · exact Within.refl _ _
      · refine Within.step ?_ (monInject_within ..) (by decide +kernel)
        exact Within.refl _ _
    · refine Within.ite ?_ ?_
      · refine Within.step ?_ (monInject_within ..) (by decide +kernel)
        exact Within.refl _ _
      · exact Within.refl _ _

/-- What `monResult` can change. -/
def fpMonResult : Nat :=
  0x10000000000000f80002000000000000000000000000000000000000000000000000000000000000000000000000000000080000000000000000000000000000000000000000000000000000000000000000000000000000000000003c0000000000000000000000000000000000000000180800000000000000000000000000000000000000000

theorem fpMonResult_eq : fpMonResult =
    footprint [R.MON_RES_VALID, R.MON_RES_OUT, R.MON_RES_PASS, R.MON_RES_VALUE] [] ||| fpGlobalEvent := by decide +kernel

theorem monResult_within (s : State) (k : Nat) (valid : Bool) (v : Int) : Within fpMonResult s (monResult s k valid v) := by
  unfold monResult
  extract_lets -lift +onlyGivenNames a1
  have h1 : Within fpMonResult s a1 := by
    unfold a1
    refine Within.step ?_ (set_within _ _ _ (by decide +kernel)) (by decide +kernel)
    refine Within.step ?_ (set_within _ _ _ (by decide +kernel)) (by decide +kernel)
    exact Within.refl _ _
  clear_value a1
  extract_lets -lift +onlyGivenNames a2
  have h2 : Within fpMonResult s a2 := by
    unfold a2
    refine Within.step ?_ (set_within _ _ _ (by decide +kernel)) (by decide +kernel)
    exact h1
  clear_value a2
  extract_lets -lift +onlyGivenNames a3
  clear_value a3
  refine Within.ite ?_ ?_
  · refine Within.step ?_ (globalEvent_within ..) (by decide +kernel)
    refine Within.step ?_ (set_within _ _ _ (by decide +kernel)) (by decide +kernel)
    exact h2
  · exact h2

/-- What `monNext` can change. -/
def fpMonNext : Nat :=
  0x8000010000000000000f8000200000000000000000000000000000000000000000000000000000000000000000000000000000008000000000000000000000000000000000000000000000000000000000000000000000000000000000000001000000000000000000000000000000000000000180800000000000000000000000000000000000000000

theorem fpMonNext_eq : fpMonNext =
    footprint [R.MON_STATUS_PASSES] [] ||| fpGlobalEvent ||| fpUpdMon := by decide +kernel

theorem monNext_within (s : State) (k : Nat) : Within fpMonNext s (monNext s k) := by
  unfold monNext
  refine Within.ite ?_ ?_
  · refine Within.step ?_ (updMon_within ..) (by decide +kernel)
    exact Within.refl _ _
  · extract_lets -lift +onlyGivenNames a1
    have h1 : Within fpMonNext s a1 := by
      unfold a1
      refine Within.step ?_ (updMon_within ..) (by decide +kernel)
      exact Within.refl _ _
    clear_value a1
    refine Within.step ?_ (globalEvent_within ..) (by decide +kernel)
    refine Within.step ?_ (set_within _ _ _ (by decide +kernel)) (by decide +kernel)
    exact h1

/-- What `monPointing` can change. -/
def fpMonPointing : Nat :=
  0x10008013000000000000f800020000000000000000000000000000000000000000000000000000000000000000000000000000000c00004000000000000000000000000000000000000000000000000000000000000000000000000000000000000000014000000000000000000000000100f500180800000000000000000000000000400000000000000

theorem fpMonPointing_eq : fpMonPointing =
    footprint [] [.pnt] ||| fpPntSettle := by decide +kernel

theorem monPointing_within (s : State) (n : Nat) (v : Int) : Within fpMonPointing s (monPointing s n v) := by
  unfold monPointing
  split
  · exact Within.refl _ _
  · extract_lets -lift +onlyGivenNames a1
    clear_value a1
    refine Within.step ?_ (pntSettle_within ..) (by decide +kernel)
    refine Within.step ?_ (pnt_within _ _) (by decide +kernel)
    exact Within.refl _ _

/-- What `monTake` can change. -/
def fpMonTake : Nat :=
  0x18008013000000000000f800020000000000000000000000000000000000000000000000000000000000000000000000000000000c0000400000000000000000000000000000000000000000000000000000000000000000000000000000903c100000014000000000000000000000000100f500180800000000000000000000000000400000000000000

theorem fpMonTake_eq : fpMonTake =
    footprint [R.MON_INJ_RES_VALID, R.MON_INJ_RES_VALUE] [] ||| fpUpdMon ||| fpMonResult ||| fpMonNext ||| fpMonPointing := by decide +kernel

theorem monTake_within (s : State) (c : MonConv) (v : Int) : Within fpMonTake s (monTake s c v) := by
  unfold monTake
  extract_lets -lift +onlyGivenNames a1
  clear_value a1
  split
  · split
    · exact Within.refl _ _
    · extract_lets -lift +onlyGivenNames a2
      clear_value a2
      refine Within.ite ?_ ?_
      · refine Within.step ?_ (updMon_within ..) (by decide +kernel)
        exact Within.refl _ _
      · refine Within.step ?_ (monNext_within ..) (by decide +kernel)
        refine Within.step ?_ (monResult_within ..) (by decide +kernel)
        exact Within.refl _ _
  · split
    · exact Within.refl _ _
    · extract_lets -lift +onlyGivenNames a2
      clear_value a2
      refine Within.ite ?_ ?_
      · refine Within.step ?_ (updMon_within ..) (by decide +kernel)
        exact Within.refl _ _
      · extract_lets -lift +onlyGivenNames a3
        have h3 : Within fpMonTake s a3 := by
          unfold a3
          refine Within.step ?_ (updMon_within ..) (by decide +kernel)
          exact Within.refl _ _
        clear_value a3
        refine Within.step ?_ (set_within _ _ _ (by decide +kernel)) (by decide +kernel)
        refine Within.step ?_ (set_within _ _ _ (by decide +kernel)) (by decide +kernel)
        exact h3
  · refine Within.step ?_ (monPointing_within ..) (by decide +kernel)
    exact Within.refl _ _

/-- What `execMonConversionDone` can change. -/
def fpExecMonConversionDone : Nat :=
  0x18008013000000000000f800020000000000000000000000000000000000000000000000000000000000000000000000000000000c0000400000000000000000000000000000000000000000000000000000000000000000000000000000d03c130000014000000000000000000000000100f502180800000000000000000000000000400000000000000

theorem fpExecMonConversionDone_eq : fpExecMonConversionDone =
    fpUpdMon ||| fpMonAssign ||| fpMonTake := by decide +kernel

theorem execMonConversionDone_within (value : BitVec 16) (s : State) : Completes fpExecMonConversionDone s (execMonConversionDone value s) := by
  unfold execMonConversionDone
  refine Completes.next ?_
  refine Within.ite ?_ ?_
  · exact Within.refl _ _
  · split
    · exact Within.refl _ _
    · refine Within.ite ?_ ?_
      · exact Within.refl _ _
      · extract_lets -lift +onlyGivenNames a1
        clear_value a1
        refine Within.step ?_ (monAssign_within ..) (by decide +kernel)
        refine Within.step ?_ (monTake_within ..) (by decide +kernel)
        refine Within.step ?_ (updMon_within ..) (by decide +kernel)
        exact Within.refl _ _

end Sys2Proof.Machine
end

