-- ==== Sys2Proof/Laws/Pointing.lean ====
section
/-! SUPPORT. What each operation of Sys2Proof/Machine/Pointing.lean can change. -/

set_option Elab.async false

namespace Sys2Proof.Machine

/-- What `pntMeasure` can change. -/
def fpPntMeasure : Nat :=
  0x1800000000000000000000000000000000000000000000000000000000000000000000000000000000000000000000000000000000000000000000000000000000000000000000000000000000000000000000000000000000000000000040000300000040000000000000000000000000000002000000000000000000000000000000000000000000000

theorem fpPntMeasure_eq : fpPntMeasure =
    fpUpdInst ||| fpPntShow ||| fpMonAssign := by decide +kernel

theorem pntMeasure_within (s : State) (item n lead : Nat) : Within fpPntMeasure s (pntMeasure s item n lead) := by
  unfold pntMeasure
  extract_lets -lift +onlyGivenNames a1
  clear_value a1
  extract_lets -lift +onlyGivenNames a2
  have h2 : Within fpPntMeasure s a2 := by
    unfold a2
    refine Within.step ?_ (updInst_within ..) (by decide +kernel)
    exact Within.refl _ _
  clear_value a2
  refine Within.step ?_ (pntShow_within ..) (by decide +kernel)
  refine Within.step ?_ (monAssign_within ..) (by decide +kernel)
  exact h2

/-- What `pntWait` can change. -/
def fpPntWait : Nat :=
  0x1000000000060000000000000000000000000000000000000000000000000000000000000000000000000000000000000000000000000000000000000000000000000001000000000000000000000000000000000000000000000000000000000000000040000000000000000000000000000000000000000000000000000000000000000000000000000

theorem fpPntWait_eq : fpPntWait =
    fpUpdInst ||| fpPntReturn ||| fpPntShow := by decide +kernel

theorem pntWait_within (s : State) (item n : Nat) (f : PInst → PInst) : Within fpPntWait s (pntWait s item n f) := by
  unfold pntWait
  refine Within.step ?_ (pntShow_within ..) (by decide +kernel)
  refine Within.step ?_ (updInst_within ..) (by decide +kernel)
  refine Within.step ?_ (pntReturn_within ..) (by decide +kernel)
  exact Within.refl _ _

/-- What `pntAgain` can change. -/
def fpPntAgain : Nat :=
  0x1800000000060000000000000000000000000000000000000000000000000000000000000000000000000000000000000000000000000000000000000000000000000001000000000000000000000000000000000000000000000000000040000300000040000000000000000000000000000002000000000000000000000000000000000000000000000

theorem fpPntAgain_eq : fpPntAgain =
    fpPntMeasure ||| fpPntWait := by decide +kernel

theorem pntAgain_within (s : State) (item n : Nat) : Within fpPntAgain s (pntAgain s item n) := by
  unfold pntAgain
  split
  · refine Within.ite ?_ ?_
    · refine Within.step ?_ (pntMeasure_within ..) (by decide +kernel)
      exact Within.refl _ _
    · refine Within.step ?_ (pntWait_within ..) (by decide +kernel)
      exact Within.refl _ _
  · refine Within.step ?_ (pntWait_within ..) (by decide +kernel)
    exact Within.refl _ _

/-- What `pntBars` can change. -/
def fpPntBars : Nat :=
  0x1000000000000000000000000000000000000000000000000000000000000000000000000000000000000000000000000000000000000000000000000000000000000000000000000000000000000000000000000000000000000000000000000000000000000000000000000000000000000000000000000000000000000000000000000000000000000

theorem fpPntBars_eq : fpPntBars =
    fpUpdInst := by decide +kernel

theorem pntBars_within (s : State) (p : Pnt) : Within fpPntBars s (pntBars s p) := by
  unfold pntBars
  refine Within.forAll _ ?_ fun a1 _ => ?_
  · exact Within.refl _ _
  · refine Within.ite ?_ ?_
    · refine Within.step ?_ (updInst_within ..) (by decide +kernel)
      exact Within.refl _ _
    · refine Within.ite ?_ ?_
      · refine Within.step ?_ (updInst_within ..) (by decide +kernel)
        exact Within.refl _ _
      · exact Within.refl _ _

/-- What `pntConvert` can change. -/
def fpPntConvert : Nat :=
  0x800000000000000000000000000000000000000000000000000000000000000000000000000000000000000000000000000000000000000000000000000000000000000000000000000000000000000000000000000000000000000000040000300000000000000000000000000000000000002000000000000000000000000000000000000000000000

theorem fpPntConvert_eq : fpPntConvert =
    fpMonAssign := by decide +kernel

theorem pntConvert_within (s : State) : Within fpPntConvert s (pntConvert s) := by
  unfold pntConvert
  refine Within.ite ?_ ?_
  · refine Within.step ?_ (monAssign_within ..) (by decide +kernel)
    exact Within.refl _ _
  · exact Within.refl _ _

/-- What `pntTick` can change. -/
def fpPntTick : Nat :=
  0x18008013000600000000f800020000000000000000000000000000000000000000000000000000000000000000000000000000000c00004000000000000000000000000100000000000000000000000000000000000000000000000000004000030000014000000000000000000000000100f502180800000000000000000000000000400000000000000

theorem fpPntTick_eq : fpPntTick =
    fpPntRestores ||| fpPntWait ||| fpPntBars ||| fpPntConvert := by decide +kernel

theorem pntTick_within (s : State) : Within fpPntTick s (pntTick s) := by
  unfold pntTick
  extract_lets -lift +onlyGivenNames a1
  have h1 : Within fpPntTick s a1 := by
    unfold a1
    refine Within.step ?_ (pntRestores_within ..) (by decide +kernel)
    exact Within.refl _ _
  clear_value a1
  split
  · exact h1
  · refine Within.step ?_ (pntConvert_within ..) (by decide +kernel)
    refine Within.forAll _ ?_ fun a2 _ => ?_
    · refine Within.step ?_ (pntBars_within ..) (by decide +kernel)
      exact h1
    · extract_lets -lift +onlyGivenNames a3
      clear_value a3
      refine Within.ite ?_ ?_
      · refine Within.step ?_ (pntWait_within ..) (by decide +kernel)
        exact Within.refl _ _
      · refine Within.ite ?_ ?_
        · exact Within.refl _ _
        · refine Within.ite ?_ ?_
          · refine Within.step ?_ (pntWait_within ..) (by decide +kernel)
            exact Within.refl _ _
          · exact Within.refl _ _

/-- What `pntStep` can change. -/
def fpPntStep : Nat :=
  0x100000000000000000000000000000000000000000000000000000000000000000000000000000000000000000000000000000000000000000000a800000000000000000800000000000000000000000000000000000000000000000000000000000000000000400000000000000000000000000000000001000000000000000000000000000000000000

theorem fpPntStep_eq : fpPntStep =
    fpSetPntApplied ||| fpUpdInst := by decide +kernel

theorem pntStep_within (s : State) (item n : Nat) (d : List Int) : Within fpPntStep s (pntStep s item n d) := by
  unfold pntStep
  extract_lets -lift +onlyGivenNames a1
  have h1 : Within fpPntStep s a1 := by
    unfold a1
    refine Within.forAll _ ?_ fun a2 _ => ?_
    · exact Within.refl _ _
    · extract_lets -lift +onlyGivenNames a3
      clear_value a3
      extract_lets -lift +onlyGivenNames a4
      clear_value a4
      refine Within.ite ?_ ?_
      · refine Within.step ?_ (setPntApplied_within ..) (by decide +kernel)
        exact Within.refl _ _
      · refine Within.ite ?_ ?_
        · refine Within.step ?_ (setPntApplied_within ..) (by decide +kernel)
          exact Within.refl _ _
        · exact Within.refl _ _
  clear_value a1
  refine Within.step ?_ (updInst_within ..) (by decide +kernel)
  exact h1

/-- What `patinaFold` can change. -/
def fpPatinaFold : Nat :=
  0x200000000000000000000000000000000000000000000000000000000000000000000000000000000000000000000000000000000001400000000000000000000000000000000000000000000000000000000000000000000000000000000000000000000000000000000000000000000000000000000000000000000000000000000000000

theorem fpPatinaFold_eq : fpPatinaFold =
    fpSetPatina ||| fpShowDeltas := by decide +kernel

theorem patinaFold_within (s : State) (n : Nat) : Within fpPatinaFold s (patinaFold s n) := by
  unfold patinaFold
  extract_lets -lift +onlyGivenNames a1
  clear_value a1
  refine Within.step ?_ (showDeltas_within ..) (by decide +kernel)
  refine Within.step ?_ (setPatina_within ..) (by decide +kernel)
  exact Within.refl _ _

/-- What `pntDone` can change. -/
def fpPntDone : Nat :=
  0x10008013000600000000f800020000000000000000000000000000000000000000000000000000000000000000000000000000000c00004000000000000000000000000100000000000000000000000000000000000000000000000000000000000000014000000000000000000000000100f500180800000000000000000000000000400000000000000

theorem fpPntDone_eq : fpPntDone =
    fpUpdInst ||| fpPntReturn ||| fpPntSettle := by decide +kernel

theorem pntDone_within (s : State) (item n : Nat) : Within fpPntDone s (pntDone s item n) := by
  unfold pntDone
  refine Within.step ?_ (pntSettle_within ..) (by decide +kernel)
  refine Within.step ?_ (updInst_within ..) (by decide +kernel)
  refine Within.step ?_ (pntReturn_within ..) (by decide +kernel)
  exact Within.refl _ _

/-- What `pntCommit` can change. -/
def fpPntCommit : Nat :=
  0x10008013002600000000f800020000000000000000000000000000000000000000000000000000000000000000000000000000000c00004000000bc0000000000000000180000000000000000000000000000000000000000000000000000000000fc009c000040000000000000000000100f500180800001000000000000000000000400000000000000

theorem fpPntCommit_eq : fpPntCommit =
    footprint [R.PNT_STATUS_CLAMPED, R.PNT_COUNT_ACCEPTED] [] ||| fpCorrNote ||| fpSetPntDelta ||| fpPntApply ||| fpPntLog
  ||| fpPntShow ||| fpPntStep ||| fpPatinaFold ||| fpPntDone := by decide +kernel

theorem pntCommit_within (s : State) (item n : Nat) (d : List Int) : Within fpPntCommit s (pntCommit s item n d) := by
  unfold pntCommit
  extract_lets -lift +onlyGivenNames a1
  clear_value a1
  extract_lets -lift +onlyGivenNames a2
  have h2 : Within fpPntCommit s a2 := by
    unfold a2
    refine Within.forAll _ ?_ fun a3 _ => ?_
    · exact Within.refl _ _
    · extract_lets -lift +onlyGivenNames a4
      have h4 : Within fpPntCommit a3 a4 := by
        unfold a4
        refine Within.step ?_ (pntLog_within ..) (by decide +kernel)
        exact Within.refl _ _
      clear_value a4
      extract_lets -lift +onlyGivenNames a5
      have h5 : Within fpPntCommit a3 a5 := by
        unfold a5
        refine Within.step ?_ (setPntDelta_within ..) (by decide +kernel)
        exact h4
      clear_value a5
      refine Within.when ?_ fun a6 => ?_
      · exact h5
      · refine Within.step ?_ (set_within _ _ _ (by decide +kernel)) (by decide +kernel)
        exact Within.refl _ _
  clear_value a2
  extract_lets -lift +onlyGivenNames a3
  have h3 : Within fpPntCommit s a3 := by
    unfold a3
    refine Within.step ?_ (inc_within _ _ _ (by decide +kernel)) (by decide +kernel)
    exact h2
  clear_value a3
  refine Within.ite ?_ ?_
  · refine Within.ite ?_ ?_
    · refine Within.step ?_ (pntDone_within ..) (by decide +kernel)
      exact h3
    · refine Within.step ?_ (pntShow_within ..) (by decide +kernel)
      refine Within.step ?_ (pntStep_within ..) (by decide +kernel)
      exact h3
  · extract_lets -lift +onlyGivenNames a4
    have h4 : Within fpPntCommit s a4 := by
      unfold a4
      refine Within.step ?_ (pntApply_within ..) (by decide +kernel)
      exact h3
    clear_value a4
    refine Within.step ?_ (pntDone_within ..) (by decide +kernel)
    refine Within.when ?_ fun a5 => ?_
    · exact h4
    · refine Within.step ?_ (corrNote_within ..) (by decide +kernel)
      refine Within.step ?_ (patinaFold_within ..) (by decide +kernel)
      exact Within.refl _ _

/-- What `execCommitStep` can change. -/
def fpExecCommitStep : Nat :=
  0x10008013000600000000f800020000000000000000000000000000000000000000000000000000000000000000000000000000000c00004000000a80000000000000000180000000000000000000000000000000000000000000000000000000000000014000040000000000000000000100f500180800001000000000000000000000400000000000000

theorem fpExecCommitStep_eq : fpExecCommitStep =
    fpPntStep ||| fpPntDone := by decide +kernel

theorem execCommitStep_within (k : Fin 256) (s : State) : Completes fpExecCommitStep s (execCommitStep k s) := by
  unfold execCommitStep
  refine Completes.next ?_
  refine Within.ite ?_ ?_
  · exact Within.refl _ _
  · split
    · refine Within.ite ?_ ?_
      · refine Within.ite ?_ ?_
        · refine Within.step ?_ (pntDone_within ..) (by decide +kernel)
          exact Within.refl _ _
        · refine Within.step ?_ (pntStep_within ..) (by decide +kernel)
          exact Within.refl _ _
      · exact Within.refl _ _
    · exact Within.refl _ _

/-- What `pntAccepted` can change. -/
def fpPntAccepted : Nat :=
  0x10008013002600000000f800020000000000000000000000000000000000000000000000000000000000000000000000000000000c00004000000bc0000000000000000180000000000000000000000000000000000000000000000000000000000fc07dc000040000000000000000000100f500180800001000000000000000000000400000000000000

theorem fpPntAccepted_eq : fpPntAccepted =
    fpUpdInst ||| fpPntReturn ||| fpPntShow ||| fpPntFail ||| fpPntSettle ||| fpPntCommit := by decide +kernel

theorem pntAccepted_within (s : State) (item n : Nat) (d : List Int) : Within fpPntAccepted s (pntAccepted s item n d) := by
  unfold pntAccepted
  extract_lets -lift +onlyGivenNames a1
  have h1 : Within fpPntAccepted s a1 := by
    unfold a1
    refine Within.step ?_ (updInst_within ..) (by decide +kernel)
    exact Within.refl _ _
  clear_value a1
  extract_lets -lift +onlyGivenNames a2
  clear_value a2
  split
  · refine Within.ite ?_ ?_
    · refine Within.step ?_ (pntCommit_within ..) (by decide +kernel)
      exact h1
    · refine Within.ite ?_ ?_
      · refine Within.step ?_ (pntSettle_within ..) (by decide +kernel)
        refine Within.step ?_ (pntFail_within ..) (by decide +kernel)
        exact h1
      · refine Within.step ?_ (pntShow_within ..) (by decide +kernel)
        refine Within.step ?_ (pntReturn_within ..) (by decide +kernel)
        exact h1
  · refine Within.step ?_ (pntShow_within ..) (by decide +kernel)
    refine Within.step ?_ (pntReturn_within ..) (by decide +kernel)
    exact h1

/-- What `execPointingOccurrence` can change. -/
def fpExecPointingOccurrence : Nat :=
  0x18008013002600000000f800020000000000000000000000000000000000000000000000000000000000000000000000000000000c00004000000bc0000000000000000180000000000000000000000000000000000000000000000000004000030fc07dc000040000000000000000000100f502180800001000000000000000000000400000000000000

theorem fpExecPointingOccurrence_eq : fpExecPointingOccurrence =
    fpPntSwitch ||| fpPntFail ||| fpPntSettle ||| fpPntMeasure ||| fpPntCommit := by decide +kernel

theorem execPointingOccurrence_within (k : Fin 256) (s : State) : Completes fpExecPointingOccurrence s (execPointingOccurrence k s) := by
  unfold execPointingOccurrence
  extract_lets -lift +onlyGivenNames a1
  clear_value a1
  refine Completes.next ?_
  refine Within.ite ?_ ?_
  · exact Within.refl _ _
  · split
    · split
      · exact Within.refl _ _
      · refine Within.ite ?_ ?_
        · exact Within.refl _ _
        · refine Within.ite ?_ ?_
          · refine Within.step ?_ (pntMeasure_within ..) (by decide +kernel)
            refine Within.step ?_ (pntSwitch_within ..) (by decide +kernel)
            exact Within.refl _ _
          · refine Within.ite ?_ ?_
            · extract_lets -lift +onlyGivenNames a2
              clear_value a2
              refine Within.ite ?_ ?_
              · refine Within.step ?_ (pntCommit_within ..) (by decide +kernel)
                refine Within.step ?_ (pntSwitch_within ..) (by decide +kernel)
                exact Within.refl _ _
              · refine Within.ite ?_ ?_
                · refine Within.step ?_ (pntSettle_within ..) (by decide +kernel)
                  refine Within.step ?_ (pntFail_within ..) (by decide +kernel)
                  exact Within.refl _ _
                · exact Within.refl _ _
            · exact Within.refl _ _
    · exact Within.refl _ _

/-- What `pntDecide` can change. -/
def fpPntDecide : Nat :=
  0x18008013002600000000f800020000000000000000000000000000000000000000000000000000000000000000000000000000000c00004000000bc0000000000000000180000000000000000000000000000000000000000000000000004000030fc07dc000040000000000000000000100f502180800001000000000000000000000400000000000000

theorem fpPntDecide_eq : fpPntDecide =
    footprint [R.PNT_COUNT_ACCEPTED] [] ||| fpPntLog ||| fpUpdInst ||| fpPntFail ||| fpPntSettle ||| fpPntAgain |||
  fpPntDone ||| fpPntAccepted := by decide +kernel

theorem pntDecide_within (s : State) (mode item : Nat) (i : PInst) (m1 m2 : List Int) : Within fpPntDecide s (pntDecide s mode item i m1 m2) := by
  unfold pntDecide
  extract_lets -lift +onlyGivenNames a1
  clear_value a1
  extract_lets -lift +onlyGivenNames a2
  clear_value a2
  extract_lets -lift +onlyGivenNames a3
  clear_value a3
  extract_lets -lift +onlyGivenNames a4
  clear_value a4
  refine Within.ite ?_ ?_
  · refine Within.ite ?_ ?_
    · extract_lets -lift +onlyGivenNames a5
      have h5 : Within fpPntDecide s a5 := by
        unfold a5
        refine Within.forAll _ ?_ fun a6 _ => ?_
        · exact Within.refl _ _
        · refine Within.step ?_ (pntLog_within ..) (by decide +kernel)
          exact Within.refl _ _
      clear_value a5
      refine Within.step ?_ (pntDone_within ..) (by decide +kernel)
      refine Within.step ?_ (inc_within _ _ _ (by decide +kernel)) (by decide +kernel)
      exact h5
    · extract_lets -lift +onlyGivenNames a5
      clear_value a5
      refine Within.ite ?_ ?_
      · refine Within.step ?_ (pntSettle_within ..) (by decide +kernel)
        refine Within.step ?_ (pntFail_within ..) (by decide +kernel)
        exact Within.refl _ _
      · refine Within.step ?_ (pntAccepted_within ..) (by decide +kernel)
        exact Within.refl _ _
  · refine Within.ite ?_ ?_
    · refine Within.step ?_ (pntSettle_within ..) (by decide +kernel)
      refine Within.step ?_ (pntFail_within ..) (by decide +kernel)
      exact Within.refl _ _
    · refine Within.step ?_ (pntAgain_within ..) (by decide +kernel)
      refine Within.step ?_ (updInst_within ..) (by decide +kernel)
      exact Within.refl _ _

/-- What `execPointingMeasurement` can change. -/
def fpExecPointingMeasurement : Nat :=
  0x18008013002600000000f800020000000000000000000000000000000000000000000000000000000000000000000000000000000c00004000000bc0000000000000000180000000000000000000000000000000000000000000000000004000030fc07dc000040000000000000000000100f502180800001000000000000000000000400000000000000

theorem fpExecPointingMeasurement_eq : fpExecPointingMeasurement =
    fpUpdInst ||| fpPntWait ||| fpPntAgain ||| fpPntDecide := by decide +kernel

theorem execPointingMeasurement_within (k : Fin 256) (ms : List (BitVec 16)) (s : State) : Completes fpExecPointingMeasurement s
    (execPointingMeasurement k ms s) := by
  unfold execPointingMeasurement
  extract_lets -lift +onlyGivenNames a1
  clear_value a1
  refine Completes.next ?_
  refine Within.ite ?_ ?_
  · exact Within.refl _ _
  · split
    · extract_lets -lift +onlyGivenNames a2
      clear_value a2
      refine Within.ite ?_ ?_
      · exact Within.refl _ _
      · refine Within.ite ?_ ?_
        · refine Within.step ?_ (pntWait_within ..) (by decide +kernel)
          exact Within.refl _ _
        · split
          · refine Within.step ?_ (pntDecide_within ..) (by decide +kernel)
            exact Within.refl _ _
          · refine Within.step ?_ (pntAgain_within ..) (by decide +kernel)
            refine Within.step ?_ (updInst_within ..) (by decide +kernel)
            exact Within.refl _ _
    · exact Within.refl _ _

/-- What `execPointingTimeout` can change. -/
def fpExecPointingTimeout : Nat :=
  0x10008013000600000000f800020000000000000000000000000000000000000000000000000000000000000000000000000000000c00004000000000000000000000000100000000000000000000000000000000000000000000000000000000000000754000000000000000000000000100f500180800000000000000000000000000400000000000000

theorem fpExecPointingTimeout_eq : fpExecPointingTimeout =
    fpUpdPnt ||| fpPntFail ||| fpPntSettle := by decide +kernel

theorem execPointingTimeout_within (s : State) : Completes fpExecPointingTimeout s (execPointingTimeout s) := by
  unfold execPointingTimeout
  refine Completes.next ?_
  refine Within.ite ?_ ?_
  · exact Within.refl _ _
  · split
    · exact Within.refl _ _
    · refine Within.ite ?_ ?_
      · exact Within.refl _ _
      · extract_lets -lift +onlyGivenNames a1
        clear_value a1
        extract_lets -lift +onlyGivenNames a2
        have h2 : Within fpExecPointingTimeout s a2 := by
          unfold a2
          refine Within.forAll _ ?_ fun a3 _ => ?_
          · refine Within.step ?_ (updPnt_within ..) (by decide +kernel)
            exact Within.refl _ _
          · refine Within.step ?_ (pntFail_within ..) (by decide +kernel)
            exact Within.refl _ _
        clear_value a2
        refine Within.step ?_ (pntSettle_within ..) (by decide +kernel)
        exact h2

/-- What `pntStart` can change. -/
def fpPntStart : Nat :=
  0x18008013000600000000f800020000000000000000000000000000000000000000000000000000000000000000000000000000000c000040000000000000000000000001000000000000000000000000000000000000000000000000000040000300007f4000000000000000000000000100f502180800000000000000000000000000400000000000000

theorem fpPntStart_eq : fpPntStart =
    footprint [R.PNT_STATUS_ITEM, R.PNT_COUNT_FAILED, R.PNT_COUNT_ACCEPTED, R.PNT_FAIL_VALID, R.PNT_FAIL_REASON,
  R.PNT_FAIL_INSTANCE] [.pnt] ||| fpPntFail ||| fpPntEnd ||| fpPntSettle ||| fpMonAssign := by decide +kernel

theorem pntStart_within (s : State) (v ms : Nat) (host : Bool) : Within fpPntStart s (pntStart s v ms host) := by
  unfold pntStart
  extract_lets -lift +onlyGivenNames a1
  clear_value a1
  extract_lets -lift +onlyGivenNames a2
  clear_value a2
  extract_lets -lift +onlyGivenNames a3
  clear_value a3
  extract_lets -lift +onlyGivenNames a4
  clear_value a4
  extract_lets -lift +onlyGivenNames a5
  have h5 : Within fpPntStart s a5 := by
    unfold a5
    refine Within.step ?_ (clr_within _ _ (by decide +kernel)) (by decide +kernel)
    refine Within.step ?_ (clr_within _ _ (by decide +kernel)) (by decide +kernel)
    refine Within.step ?_ (set_within _ _ _ (by decide +kernel)) (by decide +kernel)
    exact Within.refl _ _
  clear_value a5
  extract_lets -lift +onlyGivenNames a6
  have h6 : Within fpPntStart s a6 := by
    unfold a6
    refine Within.step ?_ (set_within _ _ _ (by decide +kernel)) (by decide +kernel)
    refine Within.step ?_ (set_within _ _ _ (by decide +kernel)) (by decide +kernel)
    refine Within.step ?_ (set_within _ _ _ (by decide +kernel)) (by decide +kernel)
    exact h5
  clear_value a6
  extract_lets -lift +onlyGivenNames a7
  clear_value a7
  extract_lets -lift +onlyGivenNames a8
  have h8 : Within fpPntStart s a8 := by
    unfold a8
    refine Within.step ?_ (pnt_within _ _) (by decide +kernel)
    exact h6
  clear_value a8
  refine Within.ite ?_ ?_
  · refine Within.step ?_ (pntEnd_within ..) (by decide +kernel)
    exact h8
  · extract_lets -lift +onlyGivenNames a9
    have h9 : Within fpPntStart s a9 := by
      unfold a9
      refine Within.ite ?_ ?_
      · exact h8
      · refine Within.forAll _ ?_ fun a10 _ => ?_
        · exact h8
        · refine Within.step ?_ (pntFail_within ..) (by decide +kernel)
          exact Within.refl _ _
    clear_value a9
    refine Within.step ?_ (pntSettle_within ..) (by decide +kernel)
    refine Within.step ?_ (monAssign_within ..) (by decide +kernel)
    exact h9

/-- What `pntCtrlWritten` can change. -/
def fpPntCtrlWritten : Nat :=
  0x18008013000600000000f800020000000000000000000000000000000000000000000000000000000000000000000000000000000c000040000000000000000000000001000000000000000000000000000000000000000000000000000040000300007f4000000000000000000000000100f502180800000000000000000000000000400000000000000

theorem fpPntCtrlWritten_eq : fpPntCtrlWritten =
    fpPntAbort ||| fpPntStart := by decide +kernel

theorem pntCtrlWritten_within (s : State) (v : Nat) : Within fpPntCtrlWritten s (pntCtrlWritten s v) := by
  unfold pntCtrlWritten
  extract_lets -lift +onlyGivenNames a1
  have h1 : Within fpPntCtrlWritten s a1 := by
    unfold a1
    refine Within.when ?_ fun a2 => ?_
    · exact Within.refl _ _
    · refine Within.step ?_ (pntAbort_within ..) (by decide +kernel)
      exact Within.refl _ _
  clear_value a1
  refine Within.ite ?_ ?_
  · refine Within.step ?_ (pntStart_within ..) (by decide +kernel)
    exact h1
  · exact h1

/-- What `trimShow` can change. -/
def fpTrimShow : Nat := footprint [R.PNT_TRIM_DATA_DELTA, R.PNT_TRIM_DATA_FACTORY] []

theorem trimShow_within (s : State) : Within fpTrimShow s (trimShow s) := by
  unfold trimShow
  extract_lets -lift +onlyGivenNames a1
  clear_value a1
  extract_lets -lift +onlyGivenNames a2
  clear_value a2
  extract_lets -lift +onlyGivenNames a3
  clear_value a3
  extract_lets -lift +onlyGivenNames a4
  clear_value a4
  extract_lets -lift +onlyGivenNames a5
  clear_value a5
  extract_lets -lift +onlyGivenNames a6
  clear_value a6
  refine Within.step ?_ (set_within _ _ _ (by decide +kernel)) (by decide +kernel)
  refine Within.step ?_ (set_within _ _ _ (by decide +kernel)) (by decide +kernel)
  exact Within.refl _ _

/-- What `trimNext` can change. -/
def fpTrimNext : Nat := footprint [R.PNT_TRIM_INDEX_SUB] []

theorem trimNext_within (s : State) : Within fpTrimNext s (trimNext s) := by
  unfold trimNext
  refine Within.when ?_ fun a1 => ?_
  · exact Within.refl _ _
  · refine Within.step ?_ (set_within _ _ _ (by decide +kernel)) (by decide +kernel)
    exact Within.refl _ _

/-- What `pntLogClear` can change. -/
def fpPntLogClear : Nat := footprint [R.PNT_LOG_FILL_NEXT, R.PNT_LOG_FILL_ENTRIES] []

theorem pntLogClear_within (s : State) : Within fpPntLogClear s (pntLogClear s) := by
  unfold pntLogClear
  refine Within.step ?_ (set_within _ _ _ (by decide +kernel)) (by decide +kernel)
  refine Within.step ?_ (set_within _ _ _ (by decide +kernel)) (by decide +kernel)
  exact Within.refl _ _

/-- What `pntWritten` can change. -/
def fpPntWritten : Nat :=
  0x1000000000000000000000000000000000000000000000000000000000000000000000000000000000000000000000000000000000000000000000000000000000000000000000000000000000000000000000000000000000000000000000000000000000000000000000000000000000000000000000000000000000000000000000000000000000000

theorem fpPntWritten_eq : fpPntWritten =
    fpSetPntDelta := by decide +kernel

theorem pntWritten_within (s : State) (item n sub : Nat) : Within fpPntWritten s (pntWritten s item n sub) := by
  unfold pntWritten
  refine Within.step ?_ (setPntDelta_within ..) (by decide +kernel)
  exact Within.refl _ _

end Sys2Proof.Machine
end

