-- ==== Sys2Proof/Laws/Shots.lean ====
section
/-! SUPPORT. What each operation of Sys2Proof/Machine/Shots.lean can change. -/

set_option Elab.async false

namespace Sys2Proof.Machine

/-- What `shotBegin` can change. -/
def fpShotBegin : Nat :=
  0x40010040001c19880f9f002000000000000000000000000000000000000000000000000000000000000000000000000000000091041f47000000000000000000000000000000006076400000000000000000000000000001100000000000000000000000000000000000000000000000000021808000000000000000000000000001c00000027f0000

theorem fpShotBegin_eq : fpShotBegin =
    footprint [] [.shotStart] ||| fpHarvestShotStart ||| fpGovTaint ||| fpDecShotStart ||| fpPfuShotStart ||| fpBarShotStart
  ||| fpChsShotStart ||| fpClpShotStart ||| fpLanShotStart := by decide +kernel

theorem shotBegin_within (s : State) (old : Option Nat) : Within fpShotBegin s (shotBegin s old) := by
  unfold shotBegin
  extract_lets -lift +onlyGivenNames a1
  have h1 : Within fpShotBegin s a1 := by
    unfold a1
    refine Within.step ?_ (harvestShotStart_within ..) (by decide +kernel)
    refine Within.step ?_ (shotStart_within _ _) (by decide +kernel)
    exact Within.refl _ _
  clear_value a1
  extract_lets -lift +onlyGivenNames a2
  have h2 : Within fpShotBegin s a2 := by
    unfold a2
    refine Within.forAll _ ?_ fun a3 _ => ?_
    · exact h1
    · refine Within.step ?_ (chsShotStart_within ..) (by decide +kernel)
      exact Within.refl _ _
  clear_value a2
  extract_lets -lift +onlyGivenNames a3
  have h3 : Within fpShotBegin s a3 := by
    unfold a3
    refine Within.forAll _ ?_ fun a4 _ => ?_
    · exact h2
    · refine Within.step ?_ (clpShotStart_within ..) (by decide +kernel)
      exact Within.refl _ _
  clear_value a3
  extract_lets -lift +onlyGivenNames a4
  have h4 : Within fpShotBegin s a4 := by
    unfold a4
    refine Within.step ?_ (pfuShotStart_within ..) (by decide +kernel)
    refine Within.step ?_ (lanShotStart_within ..) (by decide +kernel)
    refine Within.step ?_ (barShotStart_within ..) (by decide +kernel)
    refine Within.step ?_ (decShotStart_within ..) (by decide +kernel)
    exact h3
  clear_value a4
  refine Within.forAll _ ?_ fun a5 _ => ?_
  · exact h4
  · refine Within.when ?_ fun a6 => ?_
    · exact Within.refl _ _
    · refine Within.step ?_ (govTaint_within ..) (by decide +kernel)
      exact Within.refl _ _

/-- What `schedBegin` can change. -/
def fpSchedBegin : Nat :=
  0x40010040001c19880f9f002000000000000000000000000000000000000000000000000000000000000000000000000000000091041f47000000000000000000000000000000006076400000000000000000000000000001100000000000000000000000000000000000000000000000000021808000000000000000000000000001f80000027f0000

theorem fpSchedBegin_eq : fpSchedBegin =
    footprint [R.GLB_SCHED_STATUS_STATE, R.GLB_SCHED_BEGIN_LO_TIME_LO, R.GLB_SCHED_BEGIN_HI_TIME_HI] [] ||| fpShotBegin := by decide +kernel

theorem schedBegin_within (s : State) : Within fpSchedBegin s (schedBegin s) := by
  unfold schedBegin
  extract_lets -lift +onlyGivenNames a1
  have h1 : Within fpSchedBegin s a1 := by
    unfold a1
    refine Within.step ?_ (set_within _ _ _ (by decide +kernel)) (by decide +kernel)
    refine Within.step ?_ (set_within _ _ _ (by decide +kernel)) (by decide +kernel)
    exact Within.refl _ _
  clear_value a1
  refine Within.step ?_ (shotBegin_within ..) (by decide +kernel)
  refine Within.step ?_ (set_within _ _ _ (by decide +kernel)) (by decide +kernel)
  exact h1

/-- What `execScheduleStart` can change. -/
def fpExecScheduleStart : Nat :=
  0x40010040001c19880f9f002000000000000000000000000000000000000000000000000000000000000000000000000000000091041f47000000000000000000000000000000006076400000000000000000000000000001100000000000000000000000000000000000000000000000000021808000000000000000000000000001fc0000027f0000

theorem fpExecScheduleStart_eq : fpExecScheduleStart =
    footprint [R.GLB_SCHED_STATUS_MISSED, R.GLB_SCHED_STATUS_STATE] [] ||| fpGlobalEvent ||| fpSchedBegin := by decide +kernel

theorem execScheduleStart_within (s : State) : Completes fpExecScheduleStart s (execScheduleStart s) := by
  unfold execScheduleStart
  refine Completes.next ?_
  refine Within.ite ?_ ?_
  · exact Within.refl _ _
  · split
    · refine Within.ite ?_ ?_
      · refine Within.step ?_ (schedBegin_within ..) (by decide +kernel)
        exact Within.refl _ _
      · exact Within.refl _ _
    · refine Within.ite ?_ ?_
      · refine Within.step ?_ (schedBegin_within ..) (by decide +kernel)
        exact Within.refl _ _
      · exact Within.refl _ _
    · refine Within.ite ?_ ?_
      · refine Within.step ?_ (globalEvent_within ..) (by decide +kernel)
        refine Within.step ?_ (set_within _ _ _ (by decide +kernel)) (by decide +kernel)
        refine Within.step ?_ (set_within _ _ _ (by decide +kernel)) (by decide +kernel)
        exact Within.refl _ _
      · refine Within.ite ?_ ?_
        · refine Within.step ?_ (schedBegin_within ..) (by decide +kernel)
          exact Within.refl _ _
        · exact Within.refl _ _

/-- What `execShotStart` can change. -/
def fpExecShotStart : Nat :=
  0x40010040001c19880f9f002000000000000000000000000000000000000000000000000000000000000000000000000000000091041f47000000000000000000000000000000006076400000000000000000000000000001100000000000000000000000000000000000000000000000000021808300000000000000000000000001c00000027f0000

theorem fpExecShotStart_eq : fpExecShotStart =
    footprint [R.CLK_SHOT_COUNT, R.CLK_SHOT_EPOCH_EPOCH] [] ||| fpGlobalEvent ||| fpShotBegin := by decide +kernel

theorem execShotStart_within (s : State) : Completes fpExecShotStart s (execShotStart s) := by
  unfold execShotStart
  refine Completes.next ?_
  refine Within.ite ?_ ?_
  · extract_lets -lift +onlyGivenNames a1
    clear_value a1
    extract_lets -lift +onlyGivenNames a2
    have h2 : Within fpExecShotStart s a2 := by
      unfold a2
      refine Within.step ?_ (set_within _ _ _ (by decide +kernel)) (by decide +kernel)
      exact Within.refl _ _
    clear_value a2
    extract_lets -lift +onlyGivenNames a3
    have h3 : Within fpExecShotStart s a3 := by
      unfold a3
      refine Within.when ?_ fun a4 => ?_
      · exact h2
      · refine Within.step ?_ (globalEvent_within ..) (by decide +kernel)
        refine Within.step ?_ (set_within _ _ _ (by decide +kernel)) (by decide +kernel)
        exact Within.refl _ _
    clear_value a3
    refine Within.step ?_ (shotBegin_within ..) (by decide +kernel)
    exact h3
  · exact Within.refl _ _

/-- What `execScheduleDone` can change. -/
def fpExecScheduleDone : Nat :=
  0x10000008400000f8200200000000000000000000000000000000000000000000000000000000000000000000000000000009000034500000000000000000000180000000000807640000000000000000000000000000000000000000000000000000000000000000000000000000000000180800000000000000000000000000008000000000000

theorem fpExecScheduleDone_eq : fpExecScheduleDone =
    footprint [R.GLB_SCHED_STATUS_STATE] [] ||| fpGlobalEvent ||| fpSetShotTaint ||| fpSlotsDone ||| fpSetChsState
  ||| fpChsAbandon ||| fpSetClpState ||| fpClpAbandon := by decide +kernel

theorem execScheduleDone_within (s : State) : Completes fpExecScheduleDone s (execScheduleDone s) := by
  unfold execScheduleDone
  refine Completes.next ?_
  refine Within.ite ?_ ?_
  · extract_lets -lift +onlyGivenNames a1
    clear_value a1
    extract_lets -lift +onlyGivenNames a2
    have h2 : Within fpExecScheduleDone s a2 := by
      unfold a2
      refine Within.forAll _ ?_ fun a3 _ => ?_
      · exact Within.refl _ _
      · refine Within.step ?_ (setChsState_within ..) (by decide +kernel)
        refine Within.step ?_ (setShotTaint_within ..) (by decide +kernel)
        refine Within.step ?_ (chsAbandon_within ..) (by decide +kernel)
        exact Within.refl _ _
    clear_value a2
    extract_lets -lift +onlyGivenNames a3
    have h3 : Within fpExecScheduleDone s a3 := by
      unfold a3
      refine Within.forAll _ ?_ fun a4 _ => ?_
      · exact h2
      · refine Within.step ?_ (setClpState_within ..) (by decide +kernel)
        refine Within.step ?_ (clpAbandon_within ..) (by decide +kernel)
        exact Within.refl _ _
    clear_value a3
    refine Within.step ?_ (globalEvent_within ..) (by decide +kernel)
    refine Within.step ?_ (slotsDone_within ..) (by decide +kernel)
    refine Within.step ?_ (set_within _ _ _ (by decide +kernel)) (by decide +kernel)
    exact h3
  · exact Within.refl _ _

/-- What `holdEffects` can change. -/
def fpHoldEffects : Nat :=
  0x40150638c0006101c00000000000000000000000000000000000000000000000000000000000000000000000000000000000d0000010100000000000004010019100003801f800040000000000000000000000000000000000000000000000000000000000000000800000000000000000000000000000000000000000000000008000000000000

theorem fpHoldEffects_eq : fpHoldEffects =
    footprint [R.GLB_SCHED_STATUS_STATE] [] ||| fpHarvestFlush ||| fpResLeaveRun ||| fpMarkersHold ||| fpSlotsHold |||
  fpStmResetAll ||| fpMuteAll ||| fpBiasHold ||| fpWinHold ||| fpCapHold ||| fpChsOff ||| fpClpHold := by decide +kernel

theorem holdEffects_within (s : State) : Within fpHoldEffects s (holdEffects s) := by
  unfold holdEffects
  extract_lets -lift +onlyGivenNames a1
  have h1 : Within fpHoldEffects s a1 := by
    unfold a1
    refine Within.step ?_ (chsOff_within ..) (by decide +kernel)
    refine Within.step ?_ (set_within _ _ _ (by decide +kernel)) (by decide +kernel)
    exact Within.refl _ _
  clear_value a1
  extract_lets -lift +onlyGivenNames a2
  have h2 : Within fpHoldEffects s a2 := by
    unfold a2
    refine Within.step ?_ (winHold_within ..) (by decide +kernel)
    refine Within.step ?_ (slotsHold_within ..) (by decide +kernel)
    refine Within.step ?_ (muteAll_within ..) (by decide +kernel)
    exact h1
  clear_value a2
  extract_lets -lift +onlyGivenNames a3
  have h3 : Within fpHoldEffects s a3 := by
    unfold a3
    refine Within.step ?_ (resLeaveRun_within ..) (by decide +kernel)
    refine Within.step ?_ (capHold_within ..) (by decide +kernel)
    refine Within.step ?_ (biasHold_within ..) (by decide +kernel)
    exact h2
  clear_value a3
  extract_lets -lift +onlyGivenNames a4
  have h4 : Within fpHoldEffects s a4 := by
    unfold a4
    refine Within.forAll _ ?_ fun a5 _ => ?_
    · exact h3
    · refine Within.step ?_ (clpHold_within ..) (by decide +kernel)
      exact Within.refl _ _
  clear_value a4
  refine Within.step ?_ (stmResetAll_within ..) (by decide +kernel)
  refine Within.step ?_ (harvestFlush_within ..) (by decide +kernel)
  refine Within.step ?_ (markersHold_within ..) (by decide +kernel)
  exact h4

/-- What `powerState` can change. -/
def fpPowerState : Nat :=
  0x10000000000000f8000200000000000000000000000000000000000000000000000000000000000000000000000000000008000000000000000000000000000000000000000000000000000000000000000000000000000000040000000000000000000000000000000000000000000000180800000000000000000000000000000000000000000

theorem fpPowerState_eq : fpPowerState =
    footprint [R.PWR_STATE_STATE] [] ||| fpGlobalEvent := by decide +kernel

theorem powerState_within (s : State) (st : Nat) : Within fpPowerState s (powerState s st) := by
  unfold powerState
  refine Within.step ?_ (globalEvent_within ..) (by decide +kernel)
  refine Within.step ?_ (set_within _ _ _ (by decide +kernel)) (by decide +kernel)
  exact Within.refl _ _

/-- What `holdEnter` can change. -/
def fpHoldEnter : Nat :=
  0x50150638c00061f9c00200000000000000000000000000000000000000000000000000000000000000000000000000000008d0000010100000000000004010019100003801f800040000000000000000000000000000000000040000000000000000000000000000800000000000000000180800000000000000000000000000008000000000000

theorem fpHoldEnter_eq : fpHoldEnter =
    fpHoldEffects ||| fpPowerState := by decide +kernel

theorem holdEnter_within (s : State) : Within fpHoldEnter s (holdEnter s) := by
  unfold holdEnter
  refine Within.step ?_ (powerState_within ..) (by decide +kernel)
  refine Within.step ?_ (holdEffects_within ..) (by decide +kernel)
  exact Within.refl _ _

/-- What `chsRun` can change. -/
def fpChsRun : Nat :=
  0x40000000000000000000000000000000000000000000000000000000000000000000000000000000000000000000000000000000000000000000000000000000000200040000000000000000000000000000000000000000000000000000000000000000000000000000000000000000000000000000000000000000000000000000000

theorem fpChsRun_eq : fpChsRun =
    fpSetG ||| fpSetChs ||| fpSetChsState := by decide +kernel

theorem chsRun_within (s : State) : Within fpChsRun s (chsRun s) := by
  unfold chsRun
  refine Within.forAll _ ?_ fun a1 _ => ?_
  · exact Within.refl _ _
  · refine Within.step ?_ (setChsState_within ..) (by decide +kernel)
    refine Within.step ?_ (setChs_within ..) (by decide +kernel)
    refine Within.forAll _ ?_ fun a2 _ => ?_
    · exact Within.refl _ _
    · refine Within.step ?_ (setG_within ..) (by decide +kernel)
      exact Within.refl _ _

/-- What `runEnter` can change. -/
def fpRunEnter : Nat :=
  0x20000058040180478060f8000200000000000000000000000000000000000000000000000000000000000000000000000000000008d00000100000000000000000000010000000000200040300000000000000000011e00000130000040000000000000000000000000000300000000000000000180831000000808000000000000000008000000000000

theorem fpRunEnter_eq : fpRunEnter =
    footprint [R.GLB_SCHED_STATUS_STATE, R.CLK_SHOT_COUNT, R.CLK_SHOT_EPOCH_EPOCH] [.evhLatch, .evhSent, .pwr] ||| fpResRun
  ||| fpMarkersRun ||| fpFramesRun ||| fpUnmuteAll ||| fpPfuReset ||| fpCancelLoad ||| fpCapRun ||| fpClpRun ||| fpPowerState ||| fpChsRun := by decide +kernel

theorem runEnter_within (s : State) : Within fpRunEnter s (runEnter s) := by
  unfold runEnter
  extract_lets -lift +onlyGivenNames a1
  have h1 : Within fpRunEnter s a1 := by
    unfold a1
    refine Within.step ?_ (set_within _ _ _ (by decide +kernel)) (by decide +kernel)
    refine Within.step ?_ (set_within _ _ _ (by decide +kernel)) (by decide +kernel)
    exact Within.refl _ _
  clear_value a1
  extract_lets -lift +onlyGivenNames a2
  have h2 : Within fpRunEnter s a2 := by
    unfold a2
    refine Within.step ?_ (set_within _ _ _ (by decide +kernel)) (by decide +kernel)
    exact h1
  clear_value a2
  extract_lets -lift +onlyGivenNames a3
  clear_value a3
  extract_lets -lift +onlyGivenNames a4
  have h4 : Within fpRunEnter s a4 := by
    unfold a4
    refine Within.step ?_ (framesRun_within ..) (by decide +kernel)
    refine Within.step ?_ (cancelLoad_within ..) (by decide +kernel)
    refine Within.step ?_ (upd_evhLatch_evhSent_pwr_within _ _ _ _) (by decide +kernel)
    exact h2
  clear_value a4
  extract_lets -lift +onlyGivenNames a5
  have h5 : Within fpRunEnter s a5 := by
    unfold a5
    refine Within.step ?_ (resRun_within ..) (by decide +kernel)
    refine Within.step ?_ (capRun_within ..) (by decide +kernel)
    refine Within.step ?_ (markersRun_within ..) (by decide +kernel)
    refine Within.step ?_ (pfuReset_within ..) (by decide +kernel)
    exact h4
  clear_value a5
  extract_lets -lift +onlyGivenNames a6
  have h6 : Within fpRunEnter s a6 := by
    unfold a6
    refine Within.forAll _ ?_ fun a7 _ => ?_
    · refine Within.step ?_ (chsRun_within ..) (by decide +kernel)
      exact h5
    · refine Within.step ?_ (clpRun_within ..) (by decide +kernel)
      exact Within.refl _ _
  clear_value a6
  refine Within.step ?_ (powerState_within ..) (by decide +kernel)
  refine Within.step ?_ (unmuteAll_within ..) (by decide +kernel)
  exact h6

/-- What `execPllUnlock` can change. -/
def fpExecPllUnlock : Nat :=
  0x50150638c00061f9c00200000000000000000000000000000000000000000000000000000000000000000000000000000008d0000010100000000000007070019100003801f8000400000000000000000000000000000000000400000000000000000000000000008000000000000000001808000000123f0400000000000000008000000000000

theorem fpExecPllUnlock_eq : fpExecPllUnlock =
    footprint [R.CLK_STATUS_PLL_LOCK] [] ||| fpMuteAll ||| fpParkOn ||| fpRaiseAlarm ||| fpLoseTime ||| fpHoldEnter := by decide +kernel

theorem execPllUnlock_within (s : State) : Completes fpExecPllUnlock s (execPllUnlock s) := by
  unfold execPllUnlock
  refine Completes.next ?_
  refine Within.ite ?_ ?_
  · extract_lets -lift +onlyGivenNames a1
    have h1 : Within fpExecPllUnlock s a1 := by
      unfold a1
      refine Within.step ?_ (raiseAlarm_within ..) (by decide +kernel)
      refine Within.step ?_ (set_within _ _ _ (by decide +kernel)) (by decide +kernel)
      exact Within.refl _ _
    clear_value a1
    extract_lets -lift +onlyGivenNames a2
    have h2 : Within fpExecPllUnlock s a2 := by
      unfold a2
      refine Within.when ?_ fun a3 => ?_
      · exact h1
      · refine Within.forAll _ ?_ fun a4 _ => ?_
        · refine Within.step ?_ (muteAll_within ..) (by decide +kernel)
          exact Within.refl _ _
        · refine Within.step ?_ (parkOn_within ..) (by decide +kernel)
          exact Within.refl _ _
    clear_value a2
    extract_lets -lift +onlyGivenNames a3
    have h3 : Within fpExecPllUnlock s a3 := by
      unfold a3
      refine Within.ite ?_ ?_
      · refine Within.step ?_ (holdEnter_within ..) (by decide +kernel)
        exact h2
      · exact h2
    clear_value a3
    refine Within.step ?_ (loseTime_within ..) (by decide +kernel)
    exact h3
  · exact Within.refl _ _

/-- What `execRelockDone` can change. -/
def fpExecRelockDone : Nat :=
  0x40010000400000000f8000200000000000000000000000000000000000000000000000000000000000000000000000000000008000000000000000000000070400010000000000000000000000000000000000000000000000000000000000000000000000000000038000000000000000000180800000002790e00000000000000000000000000000

theorem fpExecRelockDone_eq : fpExecRelockDone =
    footprint [R.CLK_STATUS_RELOCK_BUSY, R.CLK_STATUS_PLL_LOCK, R.CLK_STATUS_HOLDOVER, R.CLK_STATUS_PLL_UNLOCK,
  R.CLK_STATUS_REF_RANGE, R.CLK_STATUS_REF_LOSS, R.CLK_ALARM_RELOCK_FAIL] [] ||| fpUnmuteAll ||| fpParkOff ||| fpClockNotice ||| fpLoseTime |||
  fpLanesRehunt := by decide +kernel

theorem execRelockDone_within (locked : Bool) (s : State) : Completes fpExecRelockDone s (execRelockDone locked s) := by
  unfold execRelockDone
  refine Completes.next ?_
  refine Within.ite ?_ ?_
  · extract_lets -lift +onlyGivenNames a1
    have h1 : Within fpExecRelockDone s a1 := by
      unfold a1
      refine Within.step ?_ (set_within _ _ _ (by decide +kernel)) (by decide +kernel)
      exact Within.refl _ _
    clear_value a1
    refine Within.ite ?_ ?_
    · extract_lets -lift +onlyGivenNames a2
      clear_value a2
      extract_lets -lift +onlyGivenNames a3
      have h3 : Within fpExecRelockDone s a3 := by
        unfold a3
        refine Within.step ?_ (set_within _ _ _ (by decide +kernel)) (by decide +kernel)
        refine Within.step ?_ (set_within _ _ _ (by decide +kernel)) (by decide +kernel)
        refine Within.step ?_ (set_within _ _ _ (by decide +kernel)) (by decide +kernel)
        exact h1
      clear_value a3
      extract_lets -lift +onlyGivenNames a4
      have h4 : Within fpExecRelockDone s a4 := by
        unfold a4
        refine Within.step ?_ (loseTime_within ..) (by decide +kernel)
        refine Within.step ?_ (set_within _ _ _ (by decide +kernel)) (by decide +kernel)
        refine Within.step ?_ (set_within _ _ _ (by decide +kernel)) (by decide +kernel)
        exact h3
      clear_value a4
      extract_lets -lift +onlyGivenNames a5
      have h5 : Within fpExecRelockDone s a5 := by
        unfold a5
        refine Within.when ?_ fun a6 => ?_
        · exact h4
        · refine Within.forAll _ ?_ fun a7 _ => ?_
          · refine Within.step ?_ (unmuteAll_within ..) (by decide +kernel)
            exact Within.refl _ _
          · refine Within.step ?_ (parkOff_within ..) (by decide +kernel)
            exact Within.refl _ _
      clear_value a5
      refine Within.step ?_ (lanesRehunt_within ..) (by decide +kernel)
      exact h5
    · refine Within.trans ?_ (clockNotice_within (by decide +kernel) (by decide +kernel) (by decide +kernel) ..)
      exact h1
  · exact Within.refl _ _

end Sys2Proof.Machine
end

