-- ==== Sys2Proof/Laws/Flash.lean ====
section
/-! SUPPORT. What each operation of Sys2Proof/Machine/Flash.lean can change. -/

set_option Elab.async false

namespace Sys2Proof.Machine

/-- What `flashErase` can change. -/
def fpFlashErase : Nat := footprint [] [.flash]

theorem flashErase_within (s : State) (a n : Nat) : Within fpFlashErase s (flashErase s a n) := by
  unfold flashErase
  exact Within.step (Within.refl _ _) (flash_within _ _ fun h => swf_filter _ h) (by decide +kernel)

/-- What `flashPut` can change. -/
def fpFlashPut : Nat := footprint [] [.flash]

theorem flashPut_within (s : State) (a v : Nat) : Within fpFlashPut s (flashPut s a v) := by
  unfold flashPut
  exact Within.step (Within.refl _ _) (flash_within _ _ fun h => swf_sset _ _ h) (by decide +kernel)

/-- What `flashProgram` can change. -/
def fpFlashProgram : Nat :=
  0x8000000000000000000000000000000000000000000000000000000000000000000000000000000000000000000000000000000000000000000000000000000000000000000000000000000000000000000000000000000000000000000000000000000000000000000000000000000000000000000000000000000000000000000000000000000000000

theorem fpFlashProgram_eq : fpFlashProgram =
    fpFlashPut := by decide +kernel

theorem flashProgram_within (s : State) (a : Nat) (l : List Nat) : Within fpFlashProgram s (flashProgram s a l) := by
  unfold flashProgram
  refine Within.forAll _ ?_ fun a1 _ => ?_
  · exact Within.refl _ _
  · refine Within.step ?_ (flashPut_within ..) (by decide +kernel)
    exact Within.refl _ _

/-- What `slotBegin` can change. -/
def fpSlotBegin : Nat :=
  0x8000000000000000000000000000000000000000000000000000000000000000000000000000000000000000000000000000000000000000000000000000000000000000000000000000000000000000000000000000000000000000000000000000000000000000000000000000000000000000000000000000000000000000000000000000000000000

theorem fpSlotBegin_eq : fpSlotBegin =
    fpFlashErase ||| fpFlashProgram := by decide +kernel

theorem slotBegin_within (s : State) (k seq : Nat) (content : List Nat) : Within fpSlotBegin s (slotBegin s k seq content) := by
  unfold slotBegin
  extract_lets -lift +onlyGivenNames a1
  have h1 : Within fpSlotBegin s a1 := by
    unfold a1
    refine Within.step ?_ (flashErase_within ..) (by decide +kernel)
    exact Within.refl _ _
  clear_value a1
  extract_lets -lift +onlyGivenNames a2
  clear_value a2
  refine Within.step ?_ (flashProgram_within ..) (by decide +kernel)
  refine Within.step ?_ (flashProgram_within ..) (by decide +kernel)
  exact h1

/-- What `slotCommit` can change. -/
def fpSlotCommit : Nat :=
  0x8000000000000000000000000000000000000000000000000000000000000000000000000000000000000000000000000000000000000000000000000000000000000000000000000000000000000000000000000000000000000000000000000000000000000000000000000000000000000000000000000000000000000000000000000000000000000

theorem fpSlotCommit_eq : fpSlotCommit =
    fpFlashProgram := by decide +kernel

theorem slotCommit_within (s : State) (k : Nat) : Within fpSlotCommit s (slotCommit s k) := by
  unfold slotCommit
  refine Within.step ?_ (flashProgram_within ..) (by decide +kernel)
  exact Within.refl _ _

/-- What `slotSpoil` can change. -/
def fpSlotSpoil : Nat :=
  0x8000000000000000000000000000000000000000000000000000000000000000000000000000000000000000000000000000000000000000000000000000000000000000000000000000000000000000000000000000000000000000000000000000000000000000000000000000000000000000000000000000000000000000000000000000000000000

theorem fpSlotSpoil_eq : fpSlotSpoil =
    fpFlashPut := by decide +kernel

theorem slotSpoil_within (s : State) (k : Nat) : Within fpSlotSpoil s (slotSpoil s k) := by
  unfold slotSpoil
  refine Within.step ?_ (flashPut_within ..) (by decide +kernel)
  exact Within.refl _ _

/-- What `slotDiscards` can change. -/
def fpSlotDiscards : Nat :=
  0x8000000000000000000000000000000000000000000000000000000000000000000000000000000000000000000000000000000000000000000000000000000000000000000000000000000000000000000000000000000000000000000000000000000000000000000000000000000000000000007e0000000000000000000000

theorem fpSlotDiscards_eq : fpSlotDiscards =
    fpBootLog := by decide +kernel

theorem slotDiscards_within (s : State) (k : Nat) : Within fpSlotDiscards s (slotDiscards s k) := by
  unfold slotDiscards
  refine Within.forAll _ ?_ fun a1 _ => ?_
  · exact Within.refl _ _
  · refine Within.ite ?_ ?_
    · refine Within.step ?_ (bootLog_within ..) (by decide +kernel)
      exact Within.refl _ _
    · refine Within.ite ?_ ?_
      · refine Within.step ?_ (bootLog_within ..) (by decide +kernel)
        exact Within.refl _ _
      · exact Within.refl _ _

/-- What `logWrite` can change. -/
def fpLogWrite : Nat :=
  0x8000000000000000000800000000000000000000000000000000000000000000000000000000000000000000000000000000000000000000000000000000000000000000000000000000000000000000000000000000000000000000000000000000000000000000000000000000000000000000000000000000000000000000000800000000000000000

theorem fpLogWrite_eq : fpLogWrite =
    footprint [R.BOOT_STATUS_LOG_PENDING] [.bootUnwritten] ||| fpSlotBegin ||| fpSlotCommit := by decide +kernel

theorem logWrite_within (s : State) : Within fpLogWrite s (logWrite s) := by
  unfold logWrite
  extract_lets -lift +onlyGivenNames a1
  clear_value a1
  refine Within.ite ?_ ?_
  · refine Within.step ?_ (set_within _ _ _ (by decide +kernel)) (by decide +kernel)
    exact Within.refl _ _
  · extract_lets -lift +onlyGivenNames a2
    clear_value a2
    extract_lets -lift +onlyGivenNames a3
    have h3 : Within fpLogWrite s a3 := by
      unfold a3
      refine Within.step ?_ (slotCommit_within ..) (by decide +kernel)
      refine Within.step ?_ (slotBegin_within ..) (by decide +kernel)
      exact Within.refl _ _
    clear_value a3
    extract_lets -lift +onlyGivenNames a4
    have h4 : Within fpLogWrite s a4 := by
      unfold a4
      refine Within.step ?_ (set_within _ _ _ (by decide +kernel)) (by decide +kernel)
      exact h3
    clear_value a4
    refine Within.step ?_ (bootUnwritten_within _ _) (by decide +kernel)
    exact h4

/-- What `logRestore` can change. -/
def fpLogRestore : Nat :=
  0x7e8000000000000000000000

theorem fpLogRestore_eq : fpLogRestore =
    footprint [R.BOOT_COUNT_COUNT, R.BOOT_LOG_FILL_NEXT, R.BOOT_LOG_FILL_ENTRIES, R.BOOT_LOG_W0_WORD, R.BOOT_LOG_W1_WORD,
  R.BOOT_LOG_W2_WORD, R.BOOT_LOG_W3_WORD] [] := by decide +kernel

theorem logRestore_within (s : State) : Within fpLogRestore s (logRestore s) := by
  unfold logRestore
  split
  · exact Within.refl _ _
  · extract_lets -lift +onlyGivenNames a1
    clear_value a1
    extract_lets -lift +onlyGivenNames a2
    have h2 : Within fpLogRestore s a2 := by
      unfold a2
      refine Within.forAll _ ?_ fun a3 _ => ?_
      · exact Within.refl _ _
      · extract_lets -lift +onlyGivenNames a4
        clear_value a4
        refine Within.step ?_ (set_within _ _ _ (by decide +kernel)) (by decide +kernel)
        refine Within.step ?_ (set_within _ _ _ (by decide +kernel)) (by decide +kernel)
        refine Within.step ?_ (set_within _ _ _ (by decide +kernel)) (by decide +kernel)
        refine Within.step ?_ (set_within _ _ _ (by decide +kernel)) (by decide +kernel)
        exact Within.refl _ _
    clear_value a2
    extract_lets -lift +onlyGivenNames a3
    have h3 : Within fpLogRestore s a3 := by
      unfold a3
      refine Within.when ?_ fun a4 => ?_
      · exact h2
      · refine Within.step ?_ (set_within _ _ _ (by decide +kernel)) (by decide +kernel)
        exact Within.refl _ _
    clear_value a3
    refine Within.step ?_ (set_within _ _ _ (by decide +kernel)) (by decide +kernel)
    refine Within.step ?_ (set_within _ _ _ (by decide +kernel)) (by decide +kernel)
    exact h3

end Sys2Proof.Machine
end

