-- ==== Sys2Proof/Laws/Power.lean ====
section
/-! SUPPORT. What each operation of Sys2Proof/Machine/Power.lean can change. -/

set_option Elab.async false

namespace Sys2Proof.Machine

/-- What `updPwr` can change. -/
def fpUpdPwr : Nat := footprint [] [.pwr]

theorem updPwr_within (s : State) (f : PwrSt → PwrSt) : Within fpUpdPwr s (updPwr s f) := by
  unfold updPwr
  refine Within.step ?_ (pwr_within _ _) (by decide +kernel)
  exact Within.refl _ _

theorem State.get_congr {s t : State} (h : t.regs = s.regs) (f : Fld) (i : Nat) : t.get f i = s.get f i := by
  unfold State.get; rw [h]

/-- The parts that `mainLost` loses. -/
def fpMainLostParts : Nat :=
  0x417fc3ff8fff7fffffff18feff880000000000000000000000000000000000000000000000000000000000000000000000000000000000000000000000000000000000000000000000000000000000000000000000000000000000000000000000000000000000000000000000000000000000000000000000000000000000000000000000000000000000

theorem fpMainLostParts_eq : fpMainLostParts =
    footprint [] [.now, .epochDue, .armVis, .phaseNow, .syncErrs, .slipRun, .lastGoodL, .skew, .syncOut, .alarmLast,
  .shotT, .harvest, .hNext, .hLast, .nq, .points, .evhLatch, .deliver, .rq, .gaps, .mkOps, .mkEnd, .shotStart, .dmap, .decDecl, .decVal, .decPub,
  .decTaint, .pfuMem, .pfuCnt, .pfuPrev, .pfuRec, .pfuNext, .rounds, .hbm, .chsProg, .chsEnv, .chisels, .barArr, .barSeen, .tinSeen, .playSeen,
  .slots, .stmFetch, .stmBuf, .frmInit, .frmLive, .frmOps, .lines, .biases, .quiesceEnd, .patinas, .zoneSets, .ovrs, .windows, .kmem, .calipers,
  .clpProg, .clpMem, .clpInit, .clpEmask, .depWPrev, .evhSent, .fired, .pubSeen, .caps, .tinFifo, .tinLast, .tdcPos, .tdcHits, .tdcCal, .ivls,
  .arbs, .lans, .lanTx, .lanRx, .lanDef, .lanLen, .bqCur, .timeLoadedAt, .systemTag, .frqs, .pnt, .clk] := by decide +kernel

/-- What `mainLost` can change: the registers of the main rails, and all that stands on them. -/
def fpMainLost : Nat :=
  0x417fc3ff8fff7fffffff18feff88000000000000000000000000000000000000000000000000000000000000000000000000000000fffffffffffffffffffffffffffffffffffffffffffffffffffffffffffffffffffffffffffffff00000000000fffffffffffffffffff000000ffff800000000001fffffffffffe00000000000000000000000000000

theorem fpMainLost_eq : fpMainLost =
    fpLost alwaysOn ||| fpMainLostParts := by decide +kernel

theorem mainLost_within (s : State) : Within fpMainLost s (mainLost s) := by
  have h : Within fpMainLostParts { s with regs := s.regs.filter fun p => alwaysOn (p.1 / 0x400000) } (mainLost s) := by
    unfold mainLost
    exact ⟨fun c => ⟨c.1, rfl, c.2.2.1, c.2.2.2⟩, fun f i _ _ => State.get_congr rfl f i,
      fun p hp => by cases p <;> first | with_reducible rfl | exact absurd hp (by decide +kernel)⟩
  exact ((regsFilter_within s alwaysOn).mono (by decide +kernel)).step h (by decide +kernel)

/-- The state that a reset of the module starts from (Table BOOT-1, state 0). -/
def resetFrom (s : State) (cause : Nat) : State := { State.reset with
    pending := s.pending, regs := s.regs.filter fun p => keptInReset (p.1 / 0x400000), readData := s.readData, readPoison := s.readPoison
    tick := s.tick, fresh := s.fresh, clock := s.clock, bootT0 := s.bootT0, xtalFail := s.xtalFail, quiesce := s.quiesce, biases := s.biases
    hbm := s.hbm, msix := s.msix, flash := s.flash, i2c := s.i2c, patinas := patinasFrom s.tick
    pwr := { openAt := s.pwr.openAt, dropAt := s.pwr.dropAt, fault := s.pwr.fault, railHeld := s.pwr.railHeld, resetLow := s.pwr.resetLow, mv48 := s.pwr.mv48, mv33 := s.pwr.mv33, cool := s.pwr.cool }
    boot := { cause := cause, otpKeys := s.boot.otpKeys } }

/-- The parts that a reset of the module loses. -/
def fpResetParts : Nat :=
  0x57ffdfffffff3fff7fff9fffff880000000000000000000000000000000000000000000000000000000000000000000000000000000000000000000000000000000000000000000000000000000000000000000000000000000000000000000000000000000000000000000000000000000000000000000000000000000000000000000000000000000000

theorem fpResetParts_eq : fpResetParts =
    footprint [] [.now, .epochDue, .armVis, .phaseNow, .syncErrs, .slipRun, .lastGoodL, .skew, .syncOut, .alarmLast,
  .taintTick, .shotT, .harvest, .hNext, .hLast, .nq, .points, .evhLatch, .arrivals, .chAny, .chRt, .deliver, .rq, .bootUnwritten, .gaps, .mkOps,
  .mkEnd, .shotStart, .dmap, .decDecl, .decVal, .decPub, .decTaint, .pfuMem, .pfuCnt, .pfuPrev, .pfuRec, .pfuNext, .rounds, .chsProg, .chsEnv,
  .chisels, .barArr, .barSeen, .tinSeen, .playSeen, .slots, .stmFetch, .stmBuf, .frmInit, .frmLive, .frmOps, .lines, .quiesceEnd, .patinas,
  .zoneSets, .ovrs, .windows, .kmem, .calipers, .clpProg, .clpMem, .clpInit, .clpEmask, .depWPrev, .mbxQ, .mbxRing, .taskLast, .evhSent, .fired,
  .pubSeen, .caps, .tinFifo, .tinLast, .tdcPos, .tdcHits, .tdcCal, .ivls, .arbs, .hostA, .hostB, .hostBQ, .lans, .lanTx, .lanRx, .lanDef,
  .lanLen, .bqCur, .timeLoadedAt, .systemTag, .frqs, .mon, .pnt, .pwr, .boot, .sram, .clk] := by decide +kernel

/-- What `resetFrom` can change. -/
def fpResetFrom : Nat :=
  0x57ffdfffffff3fff7fff9fffff88000000000000000000000000000000000000000000000000000000000000000000000000000000fffffffffffffffffffffffc39fffffffffffffffffffffffffffffffffffffffffffffffffffff0000fffffffffffffffffffffffffffffff8fffffffffffffffffffffffffffffbfffff7fffffffffffffffffffff

theorem fpResetFrom_eq : fpResetFrom =
    fpLost keptInReset ||| fpResetParts := by decide +kernel

theorem resetFrom_within (s : State) (cause : Nat) : Within fpResetFrom s (resetFrom s cause) := by
  have h : Within fpResetParts { s with regs := s.regs.filter fun p => keptInReset (p.1 / 0x400000) } (resetFrom s cause) := by
    unfold resetFrom
    exact ⟨fun c => ⟨c.1, c.2.1, c.2.2.1, rfl⟩, fun f i _ _ => State.get_congr rfl f i,
      fun p hp => by cases p <;> first | with_reducible rfl | exact absurd hp (by decide +kernel)⟩
  exact ((regsFilter_within s keptInReset).mono (by decide +kernel)).step h (by decide +kernel)

/-- The state after a reset of the module, before the power state is shown. -/
def resetDone (s : State) (cause : Nat) : State :=
  (((resetFrom s cause).set R.MBX_EPOCH_EPOCH (s.get R.MBX_EPOCH_EPOCH 0x20) 0x20).set R.PWR_STATE_BUSY 0).set R.PWR_STATE_LAST_CODE 0

/-- The state with its bias switches open, where no delay of R71 runs. -/
def resetOpened (s : State) : State := if s.pwr.openAt = 0 then biasOpen s else s

theorem moduleReset_eq (s : State) (cause : Nat) :
    moduleReset s cause = if (resetOpened s).get R.PWR_STATE_STATE = 4 then resetDone (resetOpened s) cause
      else powerState (resetDone (resetOpened s) cause) 4 := rfl

/-- What `moduleReset` can change. -/
def fpModuleReset : Nat :=
  0x57ffdfffffff7fff7fff9fffffa8000000000000000000000000000000000000000000000000000000000000000000000000000000fffffffffffffffffffffffd39fffffffffffffffffffffffffffffffffffffffffffffffffffff0700fffffffffffffffffffffffffffffff8fffffffffffffffffffffffffffffbfffff7fffffffffffffffffffff

theorem fpModuleReset_eq : fpModuleReset =
    footprint [R.MBX_EPOCH_EPOCH, R.PWR_STATE_BUSY, R.PWR_STATE_LAST_CODE] [] ||| fpResetFrom ||| fpPowerState ||| fpBiasOpen := by decide +kernel

theorem moduleReset_within (s : State) (cause : Nat) : Within fpModuleReset s (moduleReset s cause) := by
  rw [moduleReset_eq]
  have h0 : Within fpModuleReset s (resetOpened s) := by
    unfold resetOpened
    exact Within.ite ((biasOpen_within ..).mono (by decide +kernel)) (Within.refl _ _)
  have h : Within fpModuleReset s (resetDone (resetOpened s) cause) := by
    unfold resetDone
    refine Within.step ?_ (set_within _ _ _ (by decide +kernel)) (by decide +kernel)
    refine Within.step ?_ (set_within _ _ _ (by decide +kernel)) (by decide +kernel)
    refine Within.step ?_ (set_within _ _ _ (by decide +kernel)) (by decide +kernel)
    exact h0.step (resetFrom_within _ cause) (by decide +kernel)
  exact Within.ite h (h.step (powerState_within ..) (by decide +kernel))

/-- The fields that power-on leaves: the key slots and BOOT_COUNT (R70). -/
def keptAtPowerOn (id : Nat) : Bool := id == R.SEC_KEY_STATE_STATE.id || id == R.BOOT_COUNT_COUNT.id

/-- The parts that power-on changes. -/
def fpPowerOnParts : Nat :=
  0x77ffffffffff7fffffffdfffff9e0000000000000000000000000000000000000000000000000000000000000000000000000000000000000000000000000000000000000000000000000000000000000000000000000000000000000000000000000000000000000000000000000000000000000000000000000000000000000000000000000000000000

theorem fpPowerOnParts_eq : fpPowerOnParts =
    footprint [] [.readData, .readPoison, .now, .tick, .epochDue, .armVis, .phaseNow, .syncErrs, .slipRun, .lastGoodL,
  .skew, .syncOut, .alarmLast, .taintTick, .shotT, .harvest, .hNext, .hLast, .nq, .points, .evhLatch, .arrivals, .chAny, .chRt, .deliver, .rq,
  .bootT0, .bootUnwritten, .gaps, .mkOps, .mkEnd, .shotStart, .dmap, .decDecl, .decVal, .decPub, .decTaint, .pfuMem, .pfuCnt, .pfuPrev, .pfuRec,
  .pfuNext, .rounds, .hbm, .chsProg, .chsEnv, .chisels, .barArr, .barSeen, .tinSeen, .playSeen, .slots, .stmFetch, .stmBuf, .frmInit, .frmLive,
  .frmOps, .lines, .biases, .quiesceEnd, .patinas, .zoneSets, .ovrs, .windows, .kmem, .calipers, .clpProg, .clpMem, .clpInit, .clpEmask,
  .depWPrev, .mbxQ, .mbxRing, .taskLast, .evhSent, .fired, .pubSeen, .caps, .tinFifo, .tinLast, .tdcPos, .tdcHits, .tdcCal, .ivls, .arbs, .hostA,
  .hostB, .hostBQ, .msix, .lans, .lanTx, .lanRx, .lanDef, .lanLen, .bqCur, .timeLoadedAt, .systemTag, .frqs, .mon, .pnt, .pwr, .boot, .sram,
  .i2c, .clk] := by decide +kernel

/-- What `execPowerOnReset` can change. -/
def fpExecPowerOnReset : Nat :=
  0x77ffffffffff7fffffffdfffff9e000000000000000000000000000000000000000000000000000000000000000000000000000000ffffffffffffffffffffffffffffffffffffffffffffffffffffffffffffffffffffffffffffffffffffffffffffffffffffffffffffffffffffffffffffffffffffffffffffffffbfffff7fffffffffffffffffffff

theorem fpExecPowerOnReset_eq : fpExecPowerOnReset =
    fpLost keptAtPowerOn ||| fpPowerOnParts := by decide +kernel

theorem execPowerOnReset_within (s : State) : Completes fpExecPowerOnReset s (execPowerOnReset s) := by
  refine Completes.next ?_
  have h : ∀ t : State, t.regs = (s.regs.filter fun p => keptAtPowerOn (p.1 / 0x400000)) → (Canon s → Canon t) →
      (∀ p : Part, fpPowerOnParts.testBit p.bit = false → p.same s t) → Within fpExecPowerOnReset s t := fun t hr hc hp =>
    ⟨hc, fun f i hn hf => (State.get_congr (s := { s with regs := s.regs.filter fun p => keptAtPowerOn (p.1 / 0x400000) }) hr f i).trans
      ((regsFilter_within s keptAtPowerOn).regs f i hn (by
        have := hf; rw [fpExecPowerOnReset_eq, Nat.testBit_or, Bool.or_eq_false_iff] at this; exact this.1)),
      fun p hf => hp p (by have := hf; rw [fpExecPowerOnReset_eq, Nat.testBit_or, Bool.or_eq_false_iff] at this; exact this.2)⟩
  refine h _ rfl (fun c => ⟨⟨srising_filter _ c.1.1, fun p hp => c.1.2 p (List.mem_filter.1 hp).1⟩, rfl, c.2.2.1, rfl⟩) ?_
  intro p hp
  cases p <;> first | with_reducible rfl | exact absurd hp (by decide +kernel)

/-- What `execResetNLow` can change. -/
def fpExecResetNLow : Nat :=
  0x57ffdfffffff7fff7fff9fffffa8000000000000000000000000000000000000000000000000000000000000000000000000000000ffffffffffffffffffffffff3ffffffffffffffffffffffffffffffffffffffffffffffffffffff0700fffffffffffffffffffffffffffffff8fffffffffffffffffffffffffffffbfffff7fffffffffffffffffffff

theorem fpExecResetNLow_eq : fpExecResetNLow =
    fpParkOn ||| fpUpdPwr ||| fpModuleReset := by decide +kernel

theorem execResetNLow_within (s : State) : Completes fpExecResetNLow s (execResetNLow s) := by
  unfold execResetNLow
  refine Completes.next ?_
  refine Within.ite ?_ ?_
  · exact Within.refl _ _
  · extract_lets -lift +onlyGivenNames a1
    have h1 : Within fpExecResetNLow s a1 := by
      unfold a1
      refine Within.ite ?_ ?_
      · refine Within.step ?_ (updPwr_within ..) (by decide +kernel)
        refine Within.forAll _ ?_ fun a2 _ => ?_
        · exact Within.refl _ _
        · refine Within.step ?_ (parkOn_within ..) (by decide +kernel)
          exact Within.refl _ _
      · exact Within.refl _ _
    clear_value a1
    extract_lets -lift +onlyGivenNames a2
    clear_value a2
    extract_lets -lift +onlyGivenNames a3
    have h3 : Within fpExecResetNLow s a3 := by
      unfold a3
      refine Within.step ?_ (updPwr_within ..) (by decide +kernel)
      exact h1
    clear_value a3
    refine Within.ite ?_ ?_
    · exact h3
    · refine Within.step ?_ (moduleReset_within ..) (by decide +kernel)
      exact h3

/-- What `execSwitchOpenDelay` can change. -/
def fpExecSwitchOpenDelay : Nat :=
  0x2000000000040000000000000000000000000000000000000000000000000000000000000000000000000000000000000000000000000000000000000000000050000000000000000000000000000000000000000000000000000000000000000000000000000000000000000000000000000000000000000000000000000000000000000000000000000

theorem fpExecSwitchOpenDelay_eq : fpExecSwitchOpenDelay =
    fpBiasOpen ||| fpUpdPwr := by decide +kernel

theorem execSwitchOpenDelay_within (s : State) : Completes fpExecSwitchOpenDelay s (execSwitchOpenDelay s) := by
  unfold execSwitchOpenDelay
  refine Completes.next ?_
  refine Within.ite ?_ ?_
  · refine Within.step ?_ (updPwr_within ..) (by decide +kernel)
    refine Within.step ?_ (biasOpen_within ..) (by decide +kernel)
    exact Within.refl _ _
  · exact Within.refl _ _

/-- What `enterRails` can change. -/
def fpEnterRails : Nat :=
  0x6000000000000000000000000000000000000000000000000000000000000000000000000000000000000000000000000000000000000000000000000000000000000000000000000000000000000000000000000000000000000000000000000000000000000000000000001000000000000000000000000000000000000000011000000000000000000

theorem fpEnterRails_eq : fpEnterRails =
    footprint [R.BOOT_STATUS_OP, R.BOOT_STATUS_STATE, R.HST_SESSION_RECOVERY] [.pwr, .boot] := by decide +kernel

theorem enterRails_within (s : State) : Within fpEnterRails s (enterRails s) := by
  unfold enterRails
  extract_lets -lift +onlyGivenNames a1
  have h1 : Within fpEnterRails s a1 := by
    unfold a1
    refine Within.step ?_ (set_within _ _ _ (by decide +kernel)) (by decide +kernel)
    refine Within.step ?_ (set_within _ _ _ (by decide +kernel)) (by decide +kernel)
    refine Within.step ?_ (set_within _ _ _ (by decide +kernel)) (by decide +kernel)
    exact Within.refl _ _
  clear_value a1
  refine Within.step ?_ (upd_pwr_boot_within _ _ _) (by decide +kernel)
  exact h1

/-- What `execResetRelease` can change. -/
def fpExecResetRelease : Nat :=
  0x6000000000000000000400000000000000000000000000000000000000000000000000000000000000000000000000000000000000000000000000000000000000000000000000000000000000000000000000000000000000000000000000000000000000000000000000001000000000000000000000000000000000000000011000000000000000000

theorem fpExecResetRelease_eq : fpExecResetRelease =
    footprint [] [.bootT0] ||| fpUpdPwr ||| fpEnterRails := by decide +kernel

theorem execResetRelease_within (s : State) : Completes fpExecResetRelease s (execResetRelease s) := by
  unfold execResetRelease
  refine Completes.next ?_
  refine Within.ite ?_ ?_
  · refine Within.step ?_ (enterRails_within ..) (by decide +kernel)
    extract_lets -lift +onlyGivenNames a1
    have h1 : Within fpExecResetRelease s a1 := by
      unfold a1
      refine Within.step ?_ (updPwr_within ..) (by decide +kernel)
      exact Within.refl _ _
    clear_value a1
    refine Within.step ?_ (bootT0_within _ _) (by decide +kernel)
    exact h1
  · exact Within.refl _ _

/-- What `enterFirmware` can change. -/
def fpEnterFirmware : Nat :=
  0x200000008000000000000000000000000000000000000000000000000000000000000000000000000000000000000000000000000000000000000200000110000000000000000000000000000000000000000000000000000000000000000000000000000000000000000000000000000000000000000000007e8010000000000000000000

theorem fpEnterFirmware_eq : fpEnterFirmware =
    footprint [R.BOOT_STATUS_STATE, R.BOOT_COUNT_COUNT, R.BIA_STATUS_CAUSE] [] ||| fpBootLog ||| fpMuteAll |||
  fpSlotDiscards ||| fpLogRestore := by decide +kernel

theorem enterFirmware_within (s : State) : Within fpEnterFirmware s (enterFirmware s) := by
  unfold enterFirmware
  extract_lets -lift +onlyGivenNames a1
  have h1 : Within fpEnterFirmware s a1 := by
    unfold a1
    refine Within.step ?_ (set_within _ _ _ (by decide +kernel)) (by decide +kernel)
    exact Within.refl _ _
  clear_value a1
  extract_lets -lift +onlyGivenNames a2
  have h2 : Within fpEnterFirmware s a2 := by
    unfold a2
    refine Within.when ?_ fun a3 => ?_
    · exact h1
    · refine Within.forAll _ ?_ fun a4 _ => ?_
      · refine Within.step ?_ (muteAll_within ..) (by decide +kernel)
        exact Within.refl _ _
      · refine Within.step ?_ (orf_within _ _ _ (by decide +kernel)) (by decide +kernel)
        exact Within.refl _ _
  clear_value a2
  refine Within.ite ?_ ?_
  · exact h2
  · refine Within.step ?_ (slotDiscards_within ..) (by decide +kernel)
    refine Within.step ?_ (bootLog_within ..) (by decide +kernel)
    refine Within.step ?_ (inc_within _ _ _ (by decide +kernel)) (by decide +kernel)
    refine Within.step ?_ (logRestore_within ..) (by decide +kernel)
    exact h2

/-- What `execRailsUp` can change. -/
def fpExecRailsUp : Nat :=
  0x20000000000200000008000000000000000000000000000000000000000000000000000000000000000000000000000000000000000000000000000000000000200000110000000000000000000000000000000000000000000000008000000000000000000000000000000000000000000000000000000000000000000007e8010000000000000000000

theorem fpExecRailsUp_eq : fpExecRailsUp =
    footprint [R.PWR_STATUS_RAILS_GOOD] [] ||| fpUpdPwr ||| fpEnterFirmware := by decide +kernel

theorem execRailsUp_within (s : State) : Completes fpExecRailsUp s (execRailsUp s) := by
  unfold execRailsUp
  refine Completes.next ?_
  refine Within.ite ?_ ?_
  · extract_lets -lift +onlyGivenNames a1
    have h1 : Within fpExecRailsUp s a1 := by
      unfold a1
      refine Within.step ?_ (orf_within _ _ _ (by decide +kernel)) (by decide +kernel)
      exact Within.refl _ _
    clear_value a1
    extract_lets -lift +onlyGivenNames a2
    have h2 : Within fpExecRailsUp s a2 := by
      unfold a2
      refine Within.step ?_ (updPwr_within ..) (by decide +kernel)
      exact h1
    clear_value a2
    refine Within.ite ?_ ?_
    · refine Within.step ?_ (enterFirmware_within ..) (by decide +kernel)
      exact h2
    · exact h2
  · exact Within.refl _ _

/-- What `execRailTimeout` can change. -/
def fpExecRailTimeout : Nat :=
  0x4200000000000000000000003f880000000000000000000000000000000000000000000000000000000000000000000000000000000000000000000000000000000000000000000000000000000000000000000000000000000000000e000000000000000000000000000000000000000000000000001fffffffffffe00000000011000000000000000000

theorem fpExecRailTimeout_eq : fpExecRailTimeout =
    footprint [R.BOOT_STATUS_OP, R.BOOT_STATUS_STATE, R.PWR_STATUS_RAIL_FAULT, R.PWR_STATUS_RAIL,
  R.PWR_STATUS_RAILS_GOOD] [] ||| fpClockReset ||| fpUpdPwr := by decide +kernel

theorem execRailTimeout_within (s : State) : Completes fpExecRailTimeout s (execRailTimeout s) := by
  unfold execRailTimeout
  refine Completes.next ?_
  refine Within.ite ?_ ?_
  · extract_lets -lift +onlyGivenNames a1
    have h1 : Within fpExecRailTimeout s a1 := by
      unfold a1
      refine Within.step ?_ (set_within _ _ _ (by decide +kernel)) (by decide +kernel)
      refine Within.step ?_ (set_within _ _ _ (by decide +kernel)) (by decide +kernel)
      exact Within.refl _ _
    clear_value a1
    extract_lets -lift +onlyGivenNames a2
    have h2 : Within fpExecRailTimeout s a2 := by
      unfold a2
      refine Within.step ?_ (set_within _ _ _ (by decide +kernel)) (by decide +kernel)
      refine Within.step ?_ (set_within _ _ _ (by decide +kernel)) (by decide +kernel)
      refine Within.step ?_ (set_within _ _ _ (by decide +kernel)) (by decide +kernel)
      exact h1
    clear_value a2
    extract_lets -lift +onlyGivenNames a3
    have h3 : Within fpExecRailTimeout s a3 := by
      unfold a3
      refine Within.step ?_ (clockReset_within ..) (by decide +kernel)
      exact h2
    clear_value a3
    refine Within.step ?_ (updPwr_within ..) (by decide +kernel)
    exact h3
  · exact Within.refl _ _

/-- What `pwrComplete` can change. -/
def fpPwrComplete : Nat :=
  0x2000c013000000000000f800020000000000000000000000000000000000000000000000000000000000000000000000000000000c00004000000000000000000000000000000000000000000000000000000000000000000000000003000000000000000000000000000000000000000100f500180800000000000000000000000000400000000000000

theorem fpPwrComplete_eq : fpPwrComplete =
    footprint [R.PWR_STATE_BUSY, R.PWR_STATE_LAST_CODE] [] ||| fpHostDoneA ||| fpHostDoneB ||| fpUpdPwr := by decide +kernel

theorem pwrComplete_within (s : State) (code : Nat) : Within fpPwrComplete s (pwrComplete s code) := by
  unfold pwrComplete
  extract_lets -lift +onlyGivenNames a1
  clear_value a1
  extract_lets -lift +onlyGivenNames a2
  have h2 : Within fpPwrComplete s a2 := by
    unfold a2
    refine Within.step ?_ (updPwr_within ..) (by decide +kernel)
    refine Within.step ?_ (set_within _ _ _ (by decide +kernel)) (by decide +kernel)
    refine Within.step ?_ (set_within _ _ _ (by decide +kernel)) (by decide +kernel)
    exact Within.refl _ _
  clear_value a2
  extract_lets -lift +onlyGivenNames a3
  clear_value a3
  split
  · refine Within.step ?_ (hostDoneA_within ..) (by decide +kernel)
    exact h2
  · refine Within.step ?_ (hostDoneB_within ..) (by decide +kernel)
    exact h2
  · exact h2

/-- What `pwrAnswer` can change. -/
def fpPwrAnswer : Nat :=
  0xc013000000000000f800020000000000000000000000000000000000000000000000000000000000000000000000000000000c00004000000000000000000000000000000000000000000000000000000000000000000000000002000000000000000000000000000000000000000100f500180800000000000000000000000000400000000000000

theorem fpPwrAnswer_eq : fpPwrAnswer =
    footprint [R.PWR_STATE_LAST_CODE] [] ||| fpHostDoneA ||| fpHostDoneB := by decide +kernel

theorem pwrAnswer_within (s : State) (code host : Nat) : Within fpPwrAnswer s (pwrAnswer s code host) := by
  unfold pwrAnswer
  extract_lets -lift +onlyGivenNames a1
  have h1 : Within fpPwrAnswer s a1 := by
    unfold a1
    refine Within.step ?_ (set_within _ _ _ (by decide +kernel)) (by decide +kernel)
    exact Within.refl _ _
  clear_value a1
  extract_lets -lift +onlyGivenNames a2
  clear_value a2
  split
  · refine Within.step ?_ (hostDoneA_within ..) (by decide +kernel)
    exact h1
  · refine Within.step ?_ (hostDoneB_within ..) (by decide +kernel)
    exact h1
  · exact h1

/-- What `pwrTake` can change. -/
def fpPwrTake : Nat :=
  0x2000000000000000000000000200000000000000000000000000000000000000000000000000000000000000000000000000000000000000000000000000000000000000000000000000000000000000000000000000000000000000010000000000000000000000000000000000000000000000000000000000000000000000000000000000000000000

theorem fpPwrTake_eq : fpPwrTake =
    footprint [R.PWR_STATE_BUSY] [.fresh] ||| fpUpdPwr := by decide +kernel

theorem pwrTake_within (s : State) (req host : Nat) : Within fpPwrTake s (pwrTake s req host) := by
  unfold pwrTake
  split
  refine Within.step ?_ (updPwr_within ..) (by decide +kernel)
  refine Within.step ?_ (set_within _ _ _ (by decide +kernel)) (by decide +kernel)
  refine Within.ofSnd ?_ (by assumption)
  refine Within.step ?_ (free_within ..) (by decide +kernel)
  exact Within.refl _ _

/-- What `pwrRequest` can change. -/
def fpPwrRequest : Nat :=
  0x7000c013000600000000f800020000000000000000000000000000000000000000000000000000000000000000000000000000000c00004000000000000000000000000100000000000000000000000000000000000000000000000007000000000000000000000000000000100000000100f500180800000000000000000000011000400000000000000

theorem fpPwrRequest_eq : fpPwrRequest =
    footprint [] [.boot] ||| fpPntDiscard ||| fpPowerState ||| fpEnterRails ||| fpPwrAnswer ||| fpPwrTake := by decide +kernel

theorem pwrRequest_within (s : State) (req host : Nat) : Within fpPwrRequest s (pwrRequest s req host) := by
  unfold pwrRequest
  extract_lets -lift +onlyGivenNames a1
  clear_value a1
  refine Within.ite ?_ ?_
  · exact Within.refl _ _
  · refine Within.ite ?_ ?_
    · refine Within.step ?_ (pwrAnswer_within ..) (by decide +kernel)
      exact Within.refl _ _
    · refine Within.ite ?_ ?_
      · refine Within.step ?_ (pwrAnswer_within ..) (by decide +kernel)
        exact Within.refl _ _
      · split
        · refine Within.ite ?_ ?_
          · refine Within.step ?_ (pwrAnswer_within ..) (by decide +kernel)
            exact Within.refl _ _
          · refine Within.ite ?_ ?_
            · refine Within.step ?_ (pwrTake_within ..) (by decide +kernel)
              exact Within.refl _ _
            · refine Within.step ?_ (pwrAnswer_within ..) (by decide +kernel)
              exact Within.refl _ _
        · refine Within.ite ?_ ?_
          · refine Within.step ?_ (pwrAnswer_within ..) (by decide +kernel)
            exact Within.refl _ _
          · refine Within.ite ?_ ?_
            · refine Within.step ?_ (pwrAnswer_within ..) (by decide +kernel)
              exact Within.refl _ _
            · refine Within.ite ?_ ?_
              · refine Within.step ?_ (pwrAnswer_within ..) (by decide +kernel)
                exact Within.refl _ _
              · refine Within.step ?_ (pwrTake_within ..) (by decide +kernel)
                refine Within.step ?_ (pntDiscard_within ..) (by decide +kernel)
                exact Within.refl _ _
        · refine Within.ite ?_ ?_
          · refine Within.step ?_ (pwrAnswer_within ..) (by decide +kernel)
            exact Within.refl _ _
          · refine Within.ite ?_ ?_
            · refine Within.step ?_ (pwrAnswer_within ..) (by decide +kernel)
              exact Within.refl _ _
            · refine Within.ite ?_ ?_
              · refine Within.step ?_ (pwrAnswer_within ..) (by decide +kernel)
                exact Within.refl _ _
              · refine Within.step ?_ (pwrTake_within ..) (by decide +kernel)
                exact Within.refl _ _
        · refine Within.ite ?_ ?_
          · refine Within.step ?_ (pwrAnswer_within ..) (by decide +kernel)
            refine Within.step ?_ (enterRails_within ..) (by decide +kernel)
            extract_lets -lift +onlyGivenNames a2
            have h2 : Within fpPwrRequest s a2 := by
              unfold a2
              refine Within.step ?_ (powerState_within ..) (by decide +kernel)
              exact Within.refl _ _
            clear_value a2
            refine Within.step ?_ (boot_within _ _) (by decide +kernel)
            exact h2
          · refine Within.step ?_ (pwrAnswer_within ..) (by decide +kernel)
            exact Within.refl _ _

/-- What `execHoldEntry` can change. -/
def fpExecHoldEntry : Nat :=
  0x2000c053150638c00061f9c0020000000000000000000000000000000000000000000000000000000000000000000000000000000cd0004010100000000000004010019100003801f80004000000000000000000000000000000000007000000000000000000000000000080000000000100f500180800000000000000000000000000408000000000000

theorem fpExecHoldEntry_eq : fpExecHoldEntry =
    fpHoldEnter ||| fpPwrComplete := by decide +kernel

theorem execHoldEntry_within (s : State) : Completes fpExecHoldEntry s (execHoldEntry s) := by
  unfold execHoldEntry
  refine Completes.next ?_
  refine Within.ite ?_ ?_
  · extract_lets -lift +onlyGivenNames a1
    have h1 : Within fpExecHoldEntry s a1 := by
      unfold a1
      refine Within.step ?_ (holdEnter_within ..) (by decide +kernel)
      exact Within.refl _ _
    clear_value a1
    refine Within.ite ?_ ?_
    · refine Within.step ?_ (pwrComplete_within ..) (by decide +kernel)
      exact h1
    · exact h1
  · refine Within.ite ?_ ?_
    · refine Within.step ?_ (pwrComplete_within ..) (by decide +kernel)
      exact Within.refl _ _
    · exact Within.refl _ _

/-- What `execRunEntry` can change. -/
def fpExecRunEntry : Nat :=
  0x2000c05b040180478060f800020000000000000000000000000000000000000000000000000000000000000000000000000000000cd00040100000000000000000000010000000000200040300000000000000000011e0000013000007000000000000000000000000000030000000000100f500180831000000808000000000000000408000000000000

theorem fpExecRunEntry_eq : fpExecRunEntry =
    fpRunEnter ||| fpPwrComplete := by decide +kernel

theorem execRunEntry_within (s : State) : Completes fpExecRunEntry s (execRunEntry s) := by
  unfold execRunEntry
  refine Completes.next ?_
  refine Within.ite ?_ ?_
  · refine Within.ite ?_ ?_
    · refine Within.step ?_ (pwrComplete_within ..) (by decide +kernel)
      exact Within.refl _ _
    · refine Within.step ?_ (pwrComplete_within ..) (by decide +kernel)
      refine Within.step ?_ (runEnter_within ..) (by decide +kernel)
      exact Within.refl _ _
  · exact Within.refl _ _

/-- What `govStore` can change. -/
def fpGovStore : Nat :=
  0x2000000000000000000000000000000000000000000000000000000000000000000000000000000000000000000000000000000000000000000000000000000000000000000000000000000000000000000000000000000000000000000000000000000000000000000000000000000000000000000000000000000000000000000000000000000000000

theorem fpGovStore_eq : fpGovStore =
    fpUpdPwr := by decide +kernel

theorem govStore_within (s : State) : Within fpGovStore s (govStore s) := by
  unfold govStore
  refine Within.step ?_ (updPwr_within ..) (by decide +kernel)
  exact Within.refl _ _

/-- What `govRestore` can change. -/
def fpGovRestore : Nat :=
  0x2000000000060000000000000000000000000000000000000000000000000000000000000000000000000000000000000000000000000000000000000000018c70600011000000000000000000000000000000000000000000000000000000000000000000000000000000000000000000000000000000000000000000000000000000000000000000000

theorem fpGovRestore_eq : fpGovRestore =
    footprint [R.GOV_STATUS_TRIPPED, R.GOV_STATUS_CLIPPING, R.GOV_STATUS_FG, R.GOV_TGT_TGT] [] ||| fpSetLine ||| fpMuteOn
  ||| fpParkOn ||| fpUpdPwr := by decide +kernel

theorem govRestore_within (s : State) : Within fpGovRestore s (govRestore s) := by
  unfold govRestore
  extract_lets -lift +onlyGivenNames a1
  have h1 : Within fpGovRestore s a1 := by
    unfold a1
    refine Within.forAll _ ?_ fun a2 _ => ?_
    · exact Within.refl _ _
    · split
      · exact Within.refl _ _
      · extract_lets -lift +onlyGivenNames a3
        clear_value a3
        extract_lets -lift +onlyGivenNames a4
        have h4 : Within fpGovRestore a2 a4 := by
          unfold a4
          refine Within.step ?_ (setLine_within ..) (by decide +kernel)
          exact Within.refl _ _
        clear_value a4
        extract_lets -lift +onlyGivenNames a5
        have h5 : Within fpGovRestore a2 a5 := by
          unfold a5
          refine Within.step ?_ (set_within _ _ _ (by decide +kernel)) (by decide +kernel)
          refine Within.step ?_ (set_within _ _ _ (by decide +kernel)) (by decide +kernel)
          exact h4
        clear_value a5
        extract_lets -lift +onlyGivenNames a6
        have h6 : Within fpGovRestore a2 a6 := by
          unfold a6
          refine Within.step ?_ (set_within _ _ _ (by decide +kernel)) (by decide +kernel)
          exact h5
        clear_value a6
        refine Within.when ?_ fun a7 => ?_
        · exact h6
        · refine Within.step ?_ (parkOn_within ..) (by decide +kernel)
          refine Within.step ?_ (muteOn_within ..) (by decide +kernel)
          refine Within.step ?_ (set_within _ _ _ (by decide +kernel)) (by decide +kernel)
          exact Within.refl _ _
  clear_value a1
  refine Within.step ?_ (updPwr_within ..) (by decide +kernel)
  exact h1

/-- What `execStandbyEntry` can change. -/
def fpExecStandbyEntry : Nat :=
  0x437fcfffbfff7fffffff1ffeffa8000000000000000000000000000000000000000000000000000000000000000000000000000000fffffffffffffffffffffffffffffffffffffffffffffffffffffffffffffffffffffffffffffff87000000000fffffffffffffffffff000000ffff8300ff001809fffffffffffe00000000010180400000000000000

theorem fpExecStandbyEntry_eq : fpExecStandbyEntry =
    footprint [R.GLB_PLN_STATUS_STATE, R.BOOT_STATUS_STATE, R.PWR_STATUS_RAILS_GOOD] [] ||| fpPartyReset |||
  fpCoreReset ||| fpBiasOpen ||| fpPowerState ||| fpMainLost ||| fpPwrComplete ||| fpGovStore := by decide +kernel

theorem execStandbyEntry_within (s : State) : Completes fpExecStandbyEntry s (execStandbyEntry s) := by
  unfold execStandbyEntry
  refine Completes.next ?_
  refine Within.ite ?_ ?_
  · extract_lets -lift +onlyGivenNames a1
    have h1 : Within fpExecStandbyEntry s a1 := by
      unfold a1
      refine Within.step ?_ (mainLost_within ..) (by decide +kernel)
      refine Within.step ?_ (biasOpen_within ..) (by decide +kernel)
      refine Within.step ?_ (govStore_within ..) (by decide +kernel)
      exact Within.refl _ _
    clear_value a1
    extract_lets -lift +onlyGivenNames a2
    have h2 : Within fpExecStandbyEntry s a2 := by
      unfold a2
      refine Within.forAll _ ?_ fun a3 _ => ?_
      · exact h1
      · refine Within.step ?_ (set_within _ _ _ (by decide +kernel)) (by decide +kernel)
        refine Within.step ?_ (coreReset_within ..) (by decide +kernel)
        exact Within.refl _ _
    clear_value a2
    extract_lets -lift +onlyGivenNames a3
    have h3 : Within fpExecStandbyEntry s a3 := by
      unfold a3
      refine Within.forAll _ ?_ fun a4 _ => ?_
      · exact h2
      · refine Within.step ?_ (partyReset_within ..) (by decide +kernel)
        exact Within.refl _ _
    clear_value a3
    extract_lets -lift +onlyGivenNames a4
    have h4 : Within fpExecStandbyEntry s a4 := by
      unfold a4
      refine Within.step ?_ (set_within _ _ _ (by decide +kernel)) (by decide +kernel)
      refine Within.step ?_ (set_within _ _ _ (by decide +kernel)) (by decide +kernel)
      exact h3
    clear_value a4
    refine Within.step ?_ (pwrComplete_within ..) (by decide +kernel)
    refine Within.step ?_ (powerState_within ..) (by decide +kernel)
    exact h4
  · exact Within.refl _ _

/-- What `warnSet` can change. -/
def fpWarnSet : Nat :=
  0x10000000000000f8000200000000000000000000000000000000000000000000000000000000000000000000000000000008000000000000000000000000000000000000000000000000000000000000000000000000000000001e00000000000000000000000000000000000000000000180800000000000000000000000000000000000000000

theorem fpWarnSet_eq : fpWarnSet =
    footprint [R.THM_STATUS_WARN, R.THM_STATUS_WARN_SEEN, R.THM_STATUS_WARN_DIE, R.THM_WARN_DIE_DIES] [] ||| fpGlobalEvent := by decide +kernel

theorem warnSet_within (s : State) (dies : Nat) : Within fpWarnSet s (warnSet s dies) := by
  unfold warnSet
  extract_lets -lift +onlyGivenNames a1
  clear_value a1
  extract_lets -lift +onlyGivenNames a2
  clear_value a2
  extract_lets -lift +onlyGivenNames a3
  have h3 : Within fpWarnSet s a3 := by
    unfold a3
    refine Within.step ?_ (set_within _ _ _ (by decide +kernel)) (by decide +kernel)
    refine Within.step ?_ (set_within _ _ _ (by decide +kernel)) (by decide +kernel)
    exact Within.refl _ _
  clear_value a3
  extract_lets -lift +onlyGivenNames a4
  have h4 : Within fpWarnSet s a4 := by
    unfold a4
    split
    · extract_lets -lift +onlyGivenNames a5
      have h5 : Within fpWarnSet s a5 := by
        unfold a5
        refine Within.when ?_ fun a6 => ?_
        · exact h3
        · refine Within.step ?_ (set_within _ _ _ (by decide +kernel)) (by decide +kernel)
          exact Within.refl _ _
      clear_value a5
      refine Within.step ?_ (set_within _ _ _ (by decide +kernel)) (by decide +kernel)
      exact h5
    · exact h3
  clear_value a4
  refine Within.ite ?_ ?_
  · refine Within.step ?_ (globalEvent_within ..) (by decide +kernel)
    exact h4
  · refine Within.ite ?_ ?_
    · refine Within.step ?_ (globalEvent_within ..) (by decide +kernel)
      exact h4
    · exact h4

/-- What `execThermalEvaluate` can change. -/
def fpExecThermalEvaluate : Nat :=
  0x60000010000000000000f8000200000000000000000000000000000000000000000000000000000000000000000000000000000008000000000000000000000000000000000000000000000000000000000000000000000000000000001e00000000000000000000000000000000000000000000180800000000000000000000000000000000000000000

theorem fpExecThermalEvaluate_eq : fpExecThermalEvaluate =
    footprint [] [.boot] ||| fpUpdPwr ||| fpWarnSet := by decide +kernel

theorem execThermalEvaluate_within (temps : List (BitVec 16)) (s : State) : Completes fpExecThermalEvaluate s (execThermalEvaluate temps s) := by
  unfold execThermalEvaluate
  extract_lets -lift +onlyGivenNames a1
  clear_value a1
  extract_lets -lift +onlyGivenNames a2
  clear_value a2
  extract_lets -lift +onlyGivenNames a3
  clear_value a3
  refine Completes.ite ?_ ?_
  · refine Completes.next ?_
    exact Within.refl _ _
  · extract_lets -lift +onlyGivenNames a4
    clear_value a4
    extract_lets -lift +onlyGivenNames a5
    have h5 : Within fpExecThermalEvaluate s a5 := by
      unfold a5
      refine Within.ite ?_ ?_
      · exact Within.refl _ _
      · refine Within.step ?_ (boot_within _ _) (by decide +kernel)
        exact Within.refl _ _
    clear_value a5
    refine Completes.next ?_
    refine Within.step ?_ (warnSet_within ..) (by decide +kernel)
    refine Within.step ?_ (updPwr_within ..) (by decide +kernel)
    exact h5

/-- What `shutdown` can change. -/
def fpShutdown : Nat :=
  0x460000040150638c0006101c3f880000000000000000000000000000000000000000000000000000000000000000000000000000000d0000010100000000000007070019100003801f8000400000000000000000000000000000000000000000000000000000000000000008000000000000000000001fffffffffffe00000000011000008000000000000

theorem fpShutdown_eq : fpShutdown =
    footprint [R.BOOT_STATUS_OP, R.BOOT_STATUS_STATE] [.boot] ||| fpMuteAll ||| fpParkOn ||| fpClockReset ||| fpHoldEffects
  ||| fpUpdPwr := by decide +kernel

theorem shutdown_within (s : State) : Within fpShutdown s (shutdown s) := by
  unfold shutdown
  extract_lets -lift +onlyGivenNames a1
  have h1 : Within fpShutdown s a1 := by
    unfold a1
    refine Within.ite ?_ ?_
    · refine Within.step ?_ (holdEffects_within ..) (by decide +kernel)
      exact Within.refl _ _
    · exact Within.refl _ _
  clear_value a1
  extract_lets -lift +onlyGivenNames a2
  have h2 : Within fpShutdown s a2 := by
    unfold a2
    refine Within.ite ?_ ?_
    · refine Within.forAll _ ?_ fun a3 _ => ?_
      · refine Within.step ?_ (muteAll_within ..) (by decide +kernel)
        exact h1
      · refine Within.step ?_ (parkOn_within ..) (by decide +kernel)
        exact Within.refl _ _
    · exact h1
  clear_value a2
  extract_lets -lift +onlyGivenNames a3
  have h3 : Within fpShutdown s a3 := by
    unfold a3
    refine Within.step ?_ (clockReset_within ..) (by decide +kernel)
    refine Within.step ?_ (set_within _ _ _ (by decide +kernel)) (by decide +kernel)
    refine Within.step ?_ (set_within _ _ _ (by decide +kernel)) (by decide +kernel)
    exact h2
  clear_value a3
  refine Within.step ?_ (updPwr_within ..) (by decide +kernel)
  refine Within.step ?_ (boot_within _ _) (by decide +kernel)
  exact h3

/-- What `execThermalShutdown` can change. -/
def fpExecThermalShutdown : Nat :=
  0x460000040150638c0006101c3f880000000000000000000000000000000000000000000000000000000000000000000000000000000d0000010100000000000007070019100003801f8000400000000000000000000000000000000000061000000000000000000000000008000000000000000000001fffffffffffe00000000011000008000000000000

theorem fpExecThermalShutdown_eq : fpExecThermalShutdown =
    footprint [R.THM_STATUS_SHUTDOWN, R.THM_CAUSE_VALID, R.THM_CAUSE_DIE] [] ||| fpShutdown := by decide +kernel

theorem execThermalShutdown_within (dies : BitVec 29) (s : State) : Completes fpExecThermalShutdown s (execThermalShutdown dies s) := by
  unfold execThermalShutdown
  refine Completes.next ?_
  split
  · refine Within.ite ?_ ?_
    · exact Within.refl _ _
    · refine Within.step ?_ (shutdown_within ..) (by decide +kernel)
      refine Within.step ?_ (set_within _ _ _ (by decide +kernel)) (by decide +kernel)
      refine Within.step ?_ (set_within _ _ _ (by decide +kernel)) (by decide +kernel)
      refine Within.step ?_ (set_within _ _ _ (by decide +kernel)) (by decide +kernel)
      exact Within.refl _ _
  · exact Within.refl _ _

/-- What `execRailsDown` can change. -/
def fpExecRailsDown : Nat :=
  0x57ffdfffffff7fffffff9fffffa8000000000000000000000000000000000000000000000000000000000000000000000000000000fffffffffffffffffffffffffffffffffffffffffffffffffffffffffffffffffffffffffffffff871efffffffffffffffffffffffffffffff8fffffffffffffffffffffffffffffbfffff7fffffffffffffffffffff

theorem fpExecRailsDown_eq : fpExecRailsDown =
    footprint [R.GLB_PLN_STATUS_STATE, R.PWR_STATE_STATE, R.PWR_STATUS_RAILS_GOOD] [] ||| fpPartyReset ||| fpCoreReset
  ||| fpBiasOpen ||| fpPowerState ||| fpUpdPwr ||| fpMainLost ||| fpModuleReset ||| fpPwrComplete ||| fpWarnSet := by decide +kernel

theorem execRailsDown_within (s : State) : Completes fpExecRailsDown s (execRailsDown s) := by
  unfold execRailsDown
  refine Completes.next ?_
  refine Within.ite ?_ ?_
  · extract_lets -lift +onlyGivenNames a1
    have h1 : Within fpExecRailsDown s a1 := by
      unfold a1
      refine Within.step ?_ (mainLost_within ..) (by decide +kernel)
      refine Within.step ?_ (biasOpen_within ..) (by decide +kernel)
      exact Within.refl _ _
    clear_value a1
    extract_lets -lift +onlyGivenNames a2
    have h2 : Within fpExecRailsDown s a2 := by
      unfold a2
      refine Within.step ?_ (updPwr_within ..) (by decide +kernel)
      refine Within.step ?_ (set_within _ _ _ (by decide +kernel)) (by decide +kernel)
      exact h1
    clear_value a2
    extract_lets -lift +onlyGivenNames a3
    have h3 : Within fpExecRailsDown s a3 := by
      unfold a3
      refine Within.forAll _ ?_ fun a4 _ => ?_
      · exact h2
      · refine Within.step ?_ (set_within _ _ _ (by decide +kernel)) (by decide +kernel)
        refine Within.step ?_ (coreReset_within ..) (by decide +kernel)
        exact Within.refl _ _
    clear_value a3
    extract_lets -lift +onlyGivenNames a4
    have h4 : Within fpExecRailsDown s a4 := by
      unfold a4
      refine Within.forAll _ ?_ fun a5 _ => ?_
      · exact h3
      · refine Within.step ?_ (partyReset_within ..) (by decide +kernel)
        exact Within.refl _ _
    clear_value a4
    extract_lets -lift +onlyGivenNames a5
    have h5 : Within fpExecRailsDown s a5 := by
      unfold a5
      refine Within.step ?_ (warnSet_within ..) (by decide +kernel)
      exact h4
    clear_value a5
    extract_lets -lift +onlyGivenNames a6
    have h6 : Within fpExecRailsDown s a6 := by
      unfold a6
      refine Within.when ?_ fun a7 => ?_
      · exact h5
      · refine Within.step ?_ (pwrComplete_within ..) (by decide +kernel)
        exact Within.refl _ _
    clear_value a6
    extract_lets -lift +onlyGivenNames a7
    have h7 : Within fpExecRailsDown s a7 := by
      unfold a7
      refine Within.step ?_ (powerState_within ..) (by decide +kernel)
      exact h6
    clear_value a7
    refine Within.ite ?_ ?_
    · refine Within.step ?_ (set_within _ _ _ (by decide +kernel)) (by decide +kernel)
      refine Within.step ?_ (moduleReset_within ..) (by decide +kernel)
      exact h7
    · exact h7
  · exact Within.refl _ _

/-- What `execSupplyFault` can change. -/
def fpExecSupplyFault : Nat :=
  0x460000040150638c0006101c3f880000000000000000000000000000000000000000000000000000000000000000000000000000000d0000010100000000000007070019100003801f8000400000000000000000000000000000000001000000000000000000000000000008000000000000000000001fffffffffffe00000000011000008000000000000

theorem fpExecSupplyFault_eq : fpExecSupplyFault =
    footprint [R.PWR_STATUS_SUPPLY_FAULT] [] ||| fpUpdPwr ||| fpShutdown := by decide +kernel

theorem execSupplyFault_within (mv : BitVec 16) (railOut : Bool) (s : State) : Completes fpExecSupplyFault s (execSupplyFault mv railOut s) := by
  unfold execSupplyFault
  refine Completes.next ?_
  refine Within.ite ?_ ?_
  · exact Within.refl _ _
  · extract_lets -lift +onlyGivenNames a1
    have h1 : Within fpExecSupplyFault s a1 := by
      unfold a1
      refine Within.step ?_ (updPwr_within ..) (by decide +kernel)
      exact Within.refl _ _
    clear_value a1
    refine Within.ite ?_ ?_
    · exact h1
    · refine Within.step ?_ (updPwr_within ..) (by decide +kernel)
      refine Within.step ?_ (shutdown_within ..) (by decide +kernel)
      refine Within.step ?_ (set_within _ _ _ (by decide +kernel)) (by decide +kernel)
      exact h1

/-- What `execSupplyReturn` can change. -/
def fpExecSupplyReturn : Nat :=
  0x60000010000000000000f8000200000000000000000000000000000000000000000000000000000000000000000000000000000008000000000000000000000000000000000000000000000000000000000000000000000000000000040000000000000000000000000000001000000000000000180800000000000000000000011000000000000000000

theorem fpExecSupplyReturn_eq : fpExecSupplyReturn =
    footprint [] [.boot] ||| fpPowerState ||| fpUpdPwr ||| fpEnterRails := by decide +kernel

theorem execSupplyReturn_within (mv : BitVec 16) (s : State) : Completes fpExecSupplyReturn s (execSupplyReturn mv s) := by
  unfold execSupplyReturn
  refine Completes.next ?_
  refine Within.ite ?_ ?_
  · extract_lets -lift +onlyGivenNames a1
    have h1 : Within fpExecSupplyReturn s a1 := by
      unfold a1
      refine Within.step ?_ (updPwr_within ..) (by decide +kernel)
      exact Within.refl _ _
    clear_value a1
    refine Within.ite ?_ ?_
    · extract_lets -lift +onlyGivenNames a2
      have h2 : Within fpExecSupplyReturn s a2 := by
        unfold a2
        refine Within.step ?_ (powerState_within ..) (by decide +kernel)
        exact h1
      clear_value a2
      extract_lets -lift +onlyGivenNames a3
      clear_value a3
      extract_lets -lift +onlyGivenNames a4
      have h4 : Within fpExecSupplyReturn s a4 := by
        unfold a4
        refine Within.step ?_ (boot_within _ _) (by decide +kernel)
        exact h2
      clear_value a4
      refine Within.ite ?_ ?_
      · exact h4
      · refine Within.step ?_ (enterRails_within ..) (by decide +kernel)
        exact h4
    · exact h1
  · exact Within.refl _ _

/-- What `execThermalLatchClear` can change. -/
def fpExecThermalLatchClear : Nat :=
  0x57ffdfffffff7fff7fff9fffffa8000000000000000000000000000000000000000000000000000000000000000000000000000000fffffffffffffffffffffffd39fffffffffffffffffffffffffffffffffffffffffffffffffffff8761fffffffffffffffffffffffffffffff8fffffffffffffffffffffffffffffbfffff7fffffffffffffffffffff

theorem fpExecThermalLatchClear_eq : fpExecThermalLatchClear =
    footprint [R.THM_STATUS_SHUTDOWN, R.THM_CAUSE_VALID, R.THM_CAUSE_DIE, R.PWR_STATE_STATE,
  R.PWR_STATUS_RAILS_GOOD] [] ||| fpUpdPwr ||| fpModuleReset := by decide +kernel

theorem execThermalLatchClear_within (mv48 mv33 : BitVec 16) (s : State) : Completes fpExecThermalLatchClear s (execThermalLatchClear mv48 mv33
    s) := by
  unfold execThermalLatchClear
  refine Completes.next ?_
  refine Within.ite ?_ ?_
  · extract_lets -lift +onlyGivenNames a1
    have h1 : Within fpExecThermalLatchClear s a1 := by
      unfold a1
      refine Within.step ?_ (set_within _ _ _ (by decide +kernel)) (by decide +kernel)
      refine Within.step ?_ (moduleReset_within ..) (by decide +kernel)
      exact Within.refl _ _
    clear_value a1
    extract_lets -lift +onlyGivenNames a2
    have h2 : Within fpExecThermalLatchClear s a2 := by
      unfold a2
      refine Within.step ?_ (set_within _ _ _ (by decide +kernel)) (by decide +kernel)
      refine Within.step ?_ (set_within _ _ _ (by decide +kernel)) (by decide +kernel)
      refine Within.step ?_ (set_within _ _ _ (by decide +kernel)) (by decide +kernel)
      exact h1
    clear_value a2
    refine Within.step ?_ (updPwr_within ..) (by decide +kernel)
    refine Within.step ?_ (set_within _ _ _ (by decide +kernel)) (by decide +kernel)
    exact h2
  · exact Within.refl _ _

/-- What `execI2cPointerWrite` can change. -/
def fpExecI2cPointerWrite : Nat := footprint [] [.i2c]

theorem execI2cPointerWrite_within (data : List (BitVec 8)) (s : State) : Completes fpExecI2cPointerWrite s (execI2cPointerWrite data s) := by
  unfold execI2cPointerWrite
  refine Completes.next ?_
  split
  · exact Within.refl _ _
  · refine Within.step ?_ (i2c_within _ _) (by decide +kernel)
    exact Within.refl _ _

/-- What `execI2cRead` can change. -/
def fpExecI2cRead : Nat := footprint [] [.readData, .i2c]

theorem execI2cRead_within (s : State) : Completes fpExecI2cRead s (execI2cRead s) := by
  unfold execI2cRead
  refine Completes.next ?_
  refine Within.step ?_ (upd_readData_i2c_within _ _ _) (by decide +kernel)
  exact Within.refl _ _

/-- What `execI2cRefresh` can change. -/
def fpExecI2cRefresh : Nat :=
  0x22000000000000000000000000000000000000000000000000000000000000000000000000000000000000000000000000000000000000000000000000000000000000000000000000000000000000000000000000000000000000000000000000000000000000000000000000000000000000000000000000000000000000000000000000000000000000

theorem fpExecI2cRefresh_eq : fpExecI2cRefresh =
    footprint [] [.i2c] ||| fpUpdPwr := by decide +kernel

theorem execI2cRefresh_within (mv48 mv33 : BitVec 16) (s : State) : Completes fpExecI2cRefresh s (execI2cRefresh mv48 mv33 s) := by
  unfold execI2cRefresh
  extract_lets -lift +onlyGivenNames a1
  have h1 : Within fpExecI2cRefresh s a1 := by
    unfold a1
    refine Within.step ?_ (updPwr_within ..) (by decide +kernel)
    exact Within.refl _ _
  clear_value a1
  refine Completes.next ?_
  refine Within.ite ?_ ?_
  · exact h1
  · refine Within.step ?_ (i2c_within _ _) (by decide +kernel)
    exact h1

end Sys2Proof.Machine
end

