-- ==== Sys2Proof/Laws/Writes.lean ====
section
/-! SUPPORT. What each operation of Sys2Proof/Machine/Writes.lean can change. -/

set_option Elab.async false

namespace Sys2Proof.Machine

/-- What `hookGlb` can change. -/
def fpHookGlb : Nat :=
  0x2013000030000000f8000200000000000000000000000000000000000000000000000000000000000000000000000000000008000000000000000000000000000000000000000000000000000000000000000000000000000000000000000000000000000000000000000000010002009e001808000000000000000400000001c3c00004040080000

theorem fpHookGlb_eq : fpHookGlb =
    footprint [R.GLB_TAINT_FIRST_SRC_VALID, R.GLB_CONTRACT_FILL_ENTRIES, R.GLB_CONTRACT_LOG_SRC_VALID, R.SEC_VIOL_SRC_VALID]
  [] ||| fpStmSweep ||| fpHlockWritten ||| fpPlnCtrlWritten := by decide +kernel

theorem hookGlb_within (base : Nat) (before : State) (m : Master) (i v : Nat) (s : State) : Within fpHookGlb s (hookGlb base before m i v s) := by
  unfold hookGlb
  split
  · refine Within.ite ?_ ?_
    · refine Within.step ?_ (set_within _ _ _ (by decide +kernel)) (by decide +kernel)
      exact Within.refl _ _
    · exact Within.refl _ _
  · refine Within.ite ?_ ?_
    · refine Within.forAll _ ?_ fun a1 _ => ?_
      · refine Within.step ?_ (set_within _ _ _ (by decide +kernel)) (by decide +kernel)
        exact Within.refl _ _
      · refine Within.step ?_ (set_within _ _ _ (by decide +kernel)) (by decide +kernel)
        exact Within.refl _ _
    · exact Within.refl _ _
  · refine Within.step ?_ (plnCtrlWritten_within ..) (by decide +kernel)
    exact Within.refl _ _
  · refine Within.step ?_ (stmSweep_within ..) (by decide +kernel)
    exact Within.refl _ _
  · refine Within.step ?_ (stmSweep_within ..) (by decide +kernel)
    exact Within.refl _ _
  · refine Within.step ?_ (stmSweep_within ..) (by decide +kernel)
    exact Within.refl _ _
  · refine Within.step ?_ (hlockWritten_within ..) (by decide +kernel)
    exact Within.refl _ _
  · refine Within.ite ?_ ?_
    · refine Within.step ?_ (set_within _ _ _ (by decide +kernel)) (by decide +kernel)
      exact Within.refl _ _
    · exact Within.refl _ _
  · exact Within.refl _ _

/-- What `hookClk` can change. -/
def fpHookClk : Nat :=
  0x410040010000000000000f8021200000000000000000000000000000000000000000000000000000000000000000000000000000008000000000000000000000000000000000000000000000000000000000000000000000000000000000000000000000000000000000038000000000000000000180800000004007200000000000000000000000000000

theorem fpHookClk_eq : fpHookClk =
    fpDriftCheck ||| fpTimeArmed ||| fpSkewGo ||| fpRelockGo ||| fpLanesRehunt ||| fpPntWritten := by decide +kernel

theorem hookClk_within (base : Nat) (before : State) (v : Nat) (s : State) : Within fpHookClk s (hookClk base before v s) := by
  unfold hookClk
  split
  · refine Within.step ?_ (driftCheck_within ..) (by decide +kernel)
    exact Within.refl _ _
  · refine Within.step ?_ (driftCheck_within ..) (by decide +kernel)
    exact Within.refl _ _
  · refine Within.ite ?_ ?_
    · refine Within.step ?_ (relockGo_within ..) (by decide +kernel)
      exact Within.refl _ _
    · exact Within.refl _ _
  · refine Within.step ?_ (pntWritten_within ..) (by decide +kernel)
    exact Within.refl _ _
  · refine Within.ite ?_ ?_
    · exact Within.refl _ _
    · refine Within.step ?_ (lanesRehunt_within ..) (by decide +kernel)
      exact Within.refl _ _
  · refine Within.ite ?_ ?_
    · refine Within.step ?_ (skewGo_within ..) (by decide +kernel)
      exact Within.refl _ _
    · exact Within.refl _ _
  · refine Within.step ?_ (timeArmed_within ..) (by decide +kernel)
    exact Within.refl _ _
  · exact Within.refl _ _

/-- What `hookEvf` can change. -/
def fpHookEvf : Nat :=
  0x13000000000000fc00020000000000000000000000000000000000000000000000000000000000000000000000000000000c00004000000000000000000000000000000000000000000000000000000000000000000000000000000000000000000000000000000000000000007d70ff0a184a00000000000001fe0000000000400000000000000

theorem fpHookEvf_eq : fpHookEvf =
    footprint [R.LCK_ACQ_OWNER] [] ||| fpMbxPush ||| fpMbxRingFrom ||| fpMbxCfgWritten ||| fpMbxTxstatWritten |||
  fpSoftwareFire ||| fpChstWritten ||| fpTaskstWritten ||| fpEvhCutWritten ||| fpEvhCutShow ||| fpLockWrite ||| fpLockForce := by decide +kernel

theorem hookEvf_within (base : Nat) (before : State) (m : Master) (i v : Nat) (s : State) : Within fpHookEvf s (hookEvf base before m i v s) := by
  unfold hookEvf
  split
  · refine Within.step ?_ (softwareFire_within ..) (by decide +kernel)
    exact Within.refl _ _
  · refine Within.step ?_ (evhCutShow_within ..) (by decide +kernel)
    exact Within.refl _ _
  · refine Within.ite ?_ ?_
    · exact Within.refl _ _
    · refine Within.step ?_ (evhCutWritten_within ..) (by decide +kernel)
      exact Within.refl _ _
  · refine Within.step ?_ (chstWritten_within ..) (by decide +kernel)
    exact Within.refl _ _
  · refine Within.step ?_ (taskstWritten_within ..) (by decide +kernel)
    exact Within.refl _ _
  · refine Within.step ?_ (mbxPush_within ..) (by decide +kernel)
    exact Within.refl _ _
  · refine Within.ite ?_ ?_
    · refine Within.step ?_ (mbxRingFrom_within ..) (by decide +kernel)
      exact Within.refl _ _
    · exact Within.refl _ _
  · refine Within.step ?_ (mbxTxstatWritten_within ..) (by decide +kernel)
    exact Within.refl _ _
  · refine Within.step ?_ (mbxCfgWritten_within ..) (by decide +kernel)
    exact Within.refl _ _
  · refine Within.step ?_ (lockForce_within ..) (by decide +kernel)
    exact Within.refl _ _
  · refine Within.step ?_ (lockWrite_within ..) (by decide +kernel)
    refine Within.step ?_ (set_within _ _ _ (by decide +kernel)) (by decide +kernel)
    exact Within.refl _ _
  · exact Within.refl _ _

/-- What `hookHst` can change. -/
def fpHookHst : Nat :=
  0x10042010000000000000f80002000000000000000000000000000000000000000000000000000000000000000000000000000000080000000000000000000000000000000000000000000000000000000000000000000000000000000000000000000000000f00c00001382f0040600700000000180800000000000000000000000000000000000000000

theorem fpHookHst_eq : fpHookHst =
    footprint [R.SVA_OWED_MAX, R.HST_AERR_SRC_VALID] [] ||| fpResRdWritten ||| fpResCfgWritten ||| fpCommitGo |||
  fpShadowWritten ||| fpTicketsWritten ||| fpSeedWritten ||| fpLanCtrlWritten ||| fpBqCfgWritten ||| fpPrbsWritten ||| fpPntWritten := by decide +kernel

theorem hookHst_within (base : Nat) (before : State) (i v : Nat) (s : State) : Within fpHookHst s (hookHst base before i v s) := by
  unfold hookHst
  split
  · refine Within.ite ?_ ?_
    · refine Within.step ?_ (commitGo_within ..) (by decide +kernel)
      exact Within.refl _ _
    · exact Within.refl _ _
  · refine Within.step ?_ (set_within _ _ _ (by decide +kernel)) (by decide +kernel)
    exact Within.refl _ _
  · refine Within.step ?_ (seedWritten_within ..) (by decide +kernel)
    exact Within.refl _ _
  · refine Within.step ?_ (ticketsWritten_within ..) (by decide +kernel)
    exact Within.refl _ _
  · refine Within.step ?_ (shadowWritten_within ..) (by decide +kernel)
    exact Within.refl _ _
  · refine Within.step ?_ (set_within _ _ _ (by decide +kernel)) (by decide +kernel)
    exact Within.refl _ _
  · refine Within.step ?_ (resCfgWritten_within ..) (by decide +kernel)
    exact Within.refl _ _
  · refine Within.step ?_ (resCfgWritten_within ..) (by decide +kernel)
    exact Within.refl _ _
  · refine Within.step ?_ (resCfgWritten_within ..) (by decide +kernel)
    exact Within.refl _ _
  · refine Within.step ?_ (resRdWritten_within ..) (by decide +kernel)
    exact Within.refl _ _
  · refine Within.step ?_ (lanCtrlWritten_within ..) (by decide +kernel)
    exact Within.refl _ _
  · refine Within.step ?_ (prbsWritten_within ..) (by decide +kernel)
    exact Within.refl _ _
  · refine Within.step ?_ (pntWritten_within ..) (by decide +kernel)
    exact Within.refl _ _
  · refine Within.step ?_ (bqCfgWritten_within ..) (by decide +kernel)
    exact Within.refl _ _
  · refine Within.step ?_ (bqCfgWritten_within ..) (by decide +kernel)
    exact Within.refl _ _
  · refine Within.step ?_ (bqCfgWritten_within ..) (by decide +kernel)
    exact Within.refl _ _
  · exact Within.refl _ _

/-- What `hookPwr` can change. -/
def fpHookPwr : Nat :=
  0x7800c013000600000000f800020000000000000000000000000000000000000000000000000000000000000000000000000000000c000040000000000000000000000001000000000000000000000000000000000000000000000000070040000b00c07f4000000000000000100000000100f502180800000000000000000000011000400000000000000

theorem fpHookPwr_eq : fpHookPwr =
    fpMonSeqWritten ||| fpPntCtrlWritten ||| fpPntLogClear ||| fpPwrRequest := by decide +kernel

theorem hookPwr_within (base : Nat) (m : Master) (v : Nat) (s : State) : Within fpHookPwr s (hookPwr base m v s) := by
  unfold hookPwr
  split
  · refine Within.step ?_ (pntCtrlWritten_within ..) (by decide +kernel)
    exact Within.refl _ _
  · refine Within.ite ?_ ?_
    · refine Within.step ?_ (pntLogClear_within ..) (by decide +kernel)
      exact Within.refl _ _
    · exact Within.refl _ _
  · refine Within.step ?_ (monSeqWritten_within ..) (by decide +kernel)
    exact Within.refl _ _
  · refine Within.step ?_ (pwrRequest_within ..) (by decide +kernel)
    exact Within.refl _ _
  · exact Within.refl _ _

/-- What `hookAcq` can change. -/
def fpHookAcq : Nat :=
  0x4001810000000000000f80002000000000000000000000000000000000000000000000000000000000000000000000000000000080000000000000000000000000000000000000000000007c0c019017f0000000000200000000000000000000000000000000000000000000000000000000000180800000000000000000000000000000000000000000

theorem fpHookAcq_eq : fpHookAcq =
    fpMarkerWritten ||| fpAcqRdWritten ||| fpIvlWritten ||| fpFrqWritten ||| fpTdcCalWritten ||| fpTdcBinShow := by decide +kernel

theorem hookAcq_within (base : Nat) (before : State) (i v : Nat) (s : State) : Within fpHookAcq s (hookAcq base before i v s) := by
  unfold hookAcq
  split
  · refine Within.step ?_ (acqRdWritten_within ..) (by decide +kernel)
    exact Within.refl _ _
  · refine Within.step ?_ (ivlWritten_within ..) (by decide +kernel)
    exact Within.refl _ _
  · refine Within.step ?_ (frqWritten_within ..) (by decide +kernel)
    exact Within.refl _ _
  · refine Within.step ?_ (tdcCalWritten_within ..) (by decide +kernel)
    exact Within.refl _ _
  · refine Within.step ?_ (tdcBinShow_within ..) (by decide +kernel)
    exact Within.refl _ _
  · refine Within.step ?_ (markerWritten_within ..) (by decide +kernel)
    exact Within.refl _ _
  · refine Within.step ?_ (markerWritten_within ..) (by decide +kernel)
    exact Within.refl _ _
  · exact Within.refl _ _

/-- What `hookChs` can change. -/
def fpHookChs : Nat :=
  0x100000000007f0300000000000000000000000000000000000000000000000000000000000000000000000000000000000000000000000000000000000000005704fa01f0000f8000080000000000000000000000000000000000000000000000000000000000000000000000000000000000000000000000000000000000000000000000000000000000

theorem fpHookChs_eq : fpHookChs =
    footprint [R.STM_WR_INDEX, R.GOV_CTRL_RELEASE] [] ||| fpStmConfig ||| fpStmReset ||| fpStmWrite ||| fpStmRewind |||
  fpLinCfgWritten ||| fpLinSkewWritten ||| fpFrmCopy ||| fpFrmCommit ||| fpGovRelease ||| fpChsMemWrite ||| fpPntWritten := by decide +kernel

theorem hookChs_within (base : Nat) (before : State) (i v : Nat) (s : State) : Within fpHookChs s (hookChs base before i v s) := by
  unfold hookChs
  split
  · refine Within.step ?_ (chsMemWrite_within ..) (by decide +kernel)
    exact Within.refl _ _
  · refine Within.step ?_ (stmConfig_within ..) (by decide +kernel)
    refine Within.ite ?_ ?_
    · refine Within.step ?_ (stmReset_within ..) (by decide +kernel)
      exact Within.refl _ _
    · exact Within.refl _ _
  · refine Within.ite ?_ ?_
    · exact Within.refl _ _
    · refine Within.step ?_ (stmRewind_within ..) (by decide +kernel)
      exact Within.refl _ _
  · refine Within.step ?_ (stmConfig_within ..) (by decide +kernel)
    exact Within.refl _ _
  · refine Within.step ?_ (stmConfig_within ..) (by decide +kernel)
    exact Within.refl _ _
  · refine Within.step ?_ (stmConfig_within ..) (by decide +kernel)
    exact Within.refl _ _
  · refine Within.step ?_ (stmWrite_within ..) (by decide +kernel)
    refine Within.step ?_ (set_within _ _ _ (by decide +kernel)) (by decide +kernel)
    exact Within.refl _ _
  · refine Within.step ?_ (linCfgWritten_within ..) (by decide +kernel)
    exact Within.refl _ _
  · refine Within.step ?_ (linSkewWritten_within ..) (by decide +kernel)
    exact Within.refl _ _
  · refine Within.step ?_ (pntWritten_within ..) (by decide +kernel)
    exact Within.refl _ _
  · refine Within.step ?_ (frmCopy_within ..) (by decide +kernel)
    exact Within.refl _ _
  · refine Within.ite ?_ ?_
    · refine Within.step ?_ (frmCommit_within ..) (by decide +kernel)
      exact Within.refl _ _
    · exact Within.refl _ _
  · refine Within.step ?_ (set_within _ _ _ (by decide +kernel)) (by decide +kernel)
    refine Within.ite ?_ ?_
    · refine Within.step ?_ (govRelease_within ..) (by decide +kernel)
      exact Within.refl _ _
    · exact Within.refl _ _
  · exact Within.refl _ _

/-- What `clpMask` can change. -/
def fpClpMask : Nat := footprint [R.CLP_EVT_EMASK] []

theorem clpMask_within (s : State) (n : Nat) : Within fpClpMask s (clpMask s n) := by
  unfold clpMask
  refine Within.ite ?_ ?_
  · refine Within.step ?_ (put_within _ _ _ (by decide +kernel)) (by decide +kernel)
    exact Within.refl _ _
  · exact Within.refl _ _

/-- What `clpModeWritten` can change. -/
def fpClpModeWritten : Nat :=
  0x13040000000000f80002000000000000000000000000000000000000000000000000000000000000000000000000000000080001c0300000000000000000000000000000000000000000000000000000000000000000000000000000000000000000000000000000000000000002009e02180800000000000000000000000000000000000000000

theorem fpClpModeWritten_eq : fpClpModeWritten =
    fpPartyReset ||| fpSetClp ||| fpSetClpState ||| fpClpServiceStart ||| fpClpMask := by decide +kernel

theorem clpModeWritten_within (before s : State) (n : Nat) : Within fpClpModeWritten s (clpModeWritten before s n) := by
  unfold clpModeWritten
  refine Within.ite ?_ ?_
  · exact Within.refl _ _
  · extract_lets -lift +onlyGivenNames a1
    have h1 : Within fpClpModeWritten s a1 := by
      unfold a1
      refine Within.step ?_ (setClpState_within ..) (by decide +kernel)
      refine Within.step ?_ (setClp_within ..) (by decide +kernel)
      refine Within.step ?_ (partyReset_within ..) (by decide +kernel)
      exact Within.refl _ _
    clear_value a1
    extract_lets -lift +onlyGivenNames a2
    have h2 : Within fpClpModeWritten s a2 := by
      unfold a2
      refine Within.step ?_ (clpMask_within ..) (by decide +kernel)
      exact h1
    clear_value a2
    refine Within.ite ?_ ?_
    · refine Within.step ?_ (clpServiceStart_within ..) (by decide +kernel)
      exact h2
    · exact h2

/-- What `hookInp` can change. -/
def fpHookInp : Nat :=
  0x100000133e6000000000f80002000000000000000000000000000000000000000000000000000000000000000000000000000000080401c030001bd18830000000000000000000000000000000000000000000000000000000000000000000000000000000000000000000000000000002009e02180800000000000000000000000000000000000000000

theorem fpHookInp_eq : fpHookInp =
    fpCorrNote ||| fpInpStatusWritten ||| fpInpCfgWritten ||| fpKmemWrite ||| fpClpMemWrite ||| fpPntWritten ||| fpClpMask |||
  fpClpModeWritten := by decide +kernel

theorem hookInp_within (base : Nat) (before : State) (i v : Nat) (s : State) : Within fpHookInp s (hookInp base before i v s) := by
  unfold hookInp
  split
  · refine Within.step ?_ (inpCfgWritten_within ..) (by decide +kernel)
    exact Within.refl _ _
  · refine Within.step ?_ (inpStatusWritten_within ..) (by decide +kernel)
    exact Within.refl _ _
  · refine Within.step ?_ (kmemWrite_within ..) (by decide +kernel)
    exact Within.refl _ _
  · refine Within.step ?_ (corrNote_within ..) (by decide +kernel)
    refine Within.step ?_ (pntWritten_within ..) (by decide +kernel)
    exact Within.refl _ _
  · refine Within.step ?_ (corrNote_within ..) (by decide +kernel)
    refine Within.step ?_ (pntWritten_within ..) (by decide +kernel)
    exact Within.refl _ _
  · refine Within.step ?_ (corrNote_within ..) (by decide +kernel)
    exact Within.refl _ _
  · refine Within.step ?_ (pntWritten_within ..) (by decide +kernel)
    exact Within.refl _ _
  · refine Within.step ?_ (clpModeWritten_within ..) (by decide +kernel)
    exact Within.refl _ _
  · refine Within.step ?_ (clpMask_within ..) (by decide +kernel)
    exact Within.refl _ _
  · refine Within.step ?_ (clpMemWrite_within ..) (by decide +kernel)
    exact Within.refl _ _
  · exact Within.refl _ _

/-- What `regHook` can change. -/
def fpRegHook : Nat :=
  0x47c04f8133e67f0300000fc02120000000000000000000000000000000000000000000000000000000000000000000000000000000c0401c030001bd188300005704fa01f0000f80000800007c0c019017f0000000000200000000000070040000b00c07f400f00c00001382f104061077f70ff0a184a00000004007201fe00000111c3c00004040080000

theorem fpRegHook_eq : fpRegHook =
    fpHookGlb ||| fpHookClk ||| fpHookEvf ||| fpHookHst ||| fpHookPwr ||| fpHookAcq ||| fpHookChs ||| fpHookInp := by decide +kernel

theorem regHook_within (base : Nat) (before : State) (m : Master) (i v : Nat) (s : State) : Within fpRegHook s (regHook base before m i v s) := by
  unfold regHook
  refine Within.ite ?_ ?_
  · refine Within.step ?_ (hookGlb_within ..) (by decide +kernel)
    exact Within.refl _ _
  · refine Within.ite ?_ ?_
    · refine Within.step ?_ (hookClk_within ..) (by decide +kernel)
      exact Within.refl _ _
    · refine Within.ite ?_ ?_
      · refine Within.step ?_ (hookEvf_within ..) (by decide +kernel)
        exact Within.refl _ _
      · refine Within.ite ?_ ?_
        · refine Within.step ?_ (hookHst_within ..) (by decide +kernel)
          exact Within.refl _ _
        · refine Within.ite ?_ ?_
          · refine Within.step ?_ (hookPwr_within ..) (by decide +kernel)
            exact Within.refl _ _
          · refine Within.ite ?_ ?_
            · refine Within.step ?_ (hookAcq_within ..) (by decide +kernel)
              exact Within.refl _ _
            · refine Within.ite ?_ ?_
              · refine Within.step ?_ (hookChs_within ..) (by decide +kernel)
                exact Within.refl _ _
              · refine Within.step ?_ (hookInp_within ..) (by decide +kernel)
                exact Within.refl _ _

/-- Every register field. -/
def fpAllRegs : Nat := footprint (allRegs.flatMap (·.flds)) []

theorem regAt_mem {off : Nat} {r : Reg} {is : List Nat} {b : Nat} : ∀ {l : List Reg}, regAt off l = some (r, is, b) → r ∈ l
  | [], h => by cases h
  | a :: l, h => by
    unfold regAt at h
    split at h
    · cases h; exact List.mem_cons_self
    · exact List.mem_cons_of_mem _ (regAt_mem h)

theorem allRegs_fit : ∀ r ∈ allRegs, ∀ f ∈ r.flds, Fits f ∧ 2 ^ f.id &&& fpAllRegs = 2 ^ f.id := by
  have h : ∀ n < fldCount, 2 ^ n &&& fpAllRegs = 2 ^ n := by decide +kernel
  intro r hr f hf
  have hm := fits_of_mem (List.mem_flatMap.2 ⟨r, hr, hf⟩)
  have hl : fldWidths.length = fldCount := by decide +kernel
  exact ⟨hm, h _ (by have := (List.getElem?_eq_some_iff.1 hm).1; omega)⟩

/-- What `regAct` can change: the fields of its register, the access-error log, and what the register does. -/
theorem regAct_within {K : Nat} {extra : Nat → Master → Nat → Nat → State → State} (s : State) (m : Master) (r : Reg) (i off v : Nat)
    (hr : ∀ f ∈ r.flds, Fits f ∧ 2 ^ f.id &&& K = 2 ^ f.id) (hk : fpAccessError &&& K = fpAccessError)
    (hh : ∀ v t, Within K t (regHook r.base s m i v t)) (hx : ∀ v t, Within K t (extra r.base m i v t)) :
    Within K s (regAct extra s m r i off v) := by
  unfold regAct
  have h := regStore_within s m r i off v hr hk
  extract_lets -lift +onlyGivenNames a1
  have h1 : Within K s a1 := h
  clear_value a1
  exact Within.ite h1 ((h1.trans (hh _ _)).trans (hx _ _))

/-- What `regWrite1` can change beside what `extra` does. -/
def fpRegWrite1 : Nat :=
  0x47c04f8133e67f0300000fc02120000000000000000000000000000000000000000000000000000000000000000000000000000000ffffffffffffffffffffffffffffffffffffffffffffffffffffffffffffffffffffffffffffffffffffffffffffffffffffffffffffffffffffffffffffffffffffffffffffffffffffffffffffffffffffffffffff

theorem fpRegWrite1_eq : fpRegWrite1 =
    fpAllRegs ||| fpAccessError ||| fpWorldViolation ||| fpRegHook := by decide +kernel

theorem accessCheck_within {s t : State} {m : Master} {r : Reg} {is : List Nat} {b width off : Nat} {write : Bool}
    (h : accessCheck s m r is b width off write = .deny t) : Within (fpAccessError ||| fpWorldViolation) s t := by
  have h1 : ∀ k, Within (fpAccessError ||| fpWorldViolation) s (accessError s m write k off) := fun k =>
    (accessError_within s m write k off).mono (by decide +kernel)
  unfold accessCheck at h
  repeat' split at h
  all_goals first
    | (cases h; done)
    | (injection h with h
       subst h
       first
         | exact Within.refl _ _
         | exact h1 _
         | exact (worldViolation_within ..).mono (by decide +kernel))

theorem regWrite1_within {K : Nat} {extra : Nat → Master → Nat → Nat → State → State} (s : State) (m : Master) (off width v : Nat)
    (hk : fpRegWrite1 &&& K = fpRegWrite1) (hx : ∀ b m i v t, Within K t (extra b m i v t)) :
    Within K s (regWrite1 extra s m off width v) := by
  unfold regWrite1
  split
  · exact (accessError_within ..).mono (mask_trans (by decide +kernel) hk)
  · rename_i r is b e
    refine Within.ite (Within.refl _ _) ?_
    split
    · rename_i e'
      exact (accessCheck_within e').mono (mask_trans (by decide +kernel) hk)
    · dsimp only
      split
      · exact (worldViolation_within ..).mono (mask_trans (by decide +kernel) hk)
      · refine regAct_within s m r _ off v (fun f hf => ?_) (mask_trans (by decide +kernel) hk)
          (fun v t => (regHook_within r.base s m _ v t).mono (mask_trans (by decide +kernel) hk)) fun v t => hx ..
        have hf' := allRegs_fit r (regAt_mem e) f hf
        exact ⟨hf'.1, mask_trans (mask_trans hf'.2 (by decide +kernel)) hk⟩

theorem regWriteWith_within {K : Nat} {extra : Nat → Master → Nat → Nat → State → State} (s : State) (m : Master) (off width v : Nat)
    (hk : fpRegWrite1 &&& K = fpRegWrite1) (hx : ∀ b m i v t, Within K t (extra b m i v t)) :
    Within K s (regWriteWith extra s m off width v) := by
  unfold regWriteWith
  have h : ∀ t off width v, Within K t (regWrite1 extra t m off width v) := fun t off width v => regWrite1_within t m off width v hk hx
  exact Within.ite (Within.refl _ _) (Within.ite ((h _ _ _ _).trans (h _ _ _ _)) (h _ _ _ _))

/-- What `regWrite` can change. -/
def fpRegWrite : Nat :=
  0x47c04f8133e67f0300000fc02120000000000000000000000000000000000000000000000000000000000000000000000000000000ffffffffffffffffffffffffffffffffffffffffffffffffffffffffffffffffffffffffffffffffffffffffffffffffffffffffffffffffffffffffffffffffffffffffffffffffffffffffffffffffffffffffffff

theorem fpRegWrite_eq : fpRegWrite =
    fpRegWrite1 := by decide +kernel

theorem regWrite_within (s : State) (m : Master) (off width v : Nat) : Within fpRegWrite s (regWrite s m off width v) := by
  exact regWriteWith_within s m off width v (by decide +kernel) fun _ _ _ _ _ => Within.refl _ _

/-- What `readLatch` can change. -/
def fpReadLatch : Nat :=
  0x83000000000000000002000000000000000000000000000000000000000000000000000000000000000000000000000000002000000000000000006000000000000000000000000000c00fc003c001080000000000000001c000000000000030000000008000000000000000001c0f942000400e000000000000000000000000000000000000000

theorem fpReadLatch_eq : fpReadLatch =
    footprint [R.CLK_NOW_LO_TIME_LO, R.CLK_NOW_HI_EPOCH, R.CLK_NOW_HI_TIME_HI, R.LCK_ACQ_OWNER, R.DEC_WORD_LO_BITS,
  R.DEC_WORD_HI_BITS, R.DEC_WORD_TAINT_TAINT, R.TDC_MSTART_LO_STAMP_LO, R.TDC_MINT_LO_INT_LO, R.TDC_FSTART_LO_VALUE, R.TDC_FPER_LO_VALUE,
  R.TDC_FFREQ_LO_VALUE, R.GOV_SUM_LO_SUM_LO, R.GOV_SUM_HI_SUM_HI, R.CLP_A_VALUE] [] ||| fpMbxReadAccept ||| fpMbxPop ||| fpTdcLatch ||| fpTinPop
  ||| fpTdcBinShow ||| fpEvhCutShow ||| fpLockRead ||| fpPrbsLatch ||| fpTrimShow := by decide +kernel

theorem readLatch_within (base : Nat) (i : Nat) (s : State) : Within fpReadLatch s (readLatch base i s) := by
  unfold readLatch
  split
  · refine Within.step ?_ (set_within _ _ _ (by decide +kernel)) (by decide +kernel)
    refine Within.step ?_ (set_within _ _ _ (by decide +kernel)) (by decide +kernel)
    refine Within.step ?_ (set_within _ _ _ (by decide +kernel)) (by decide +kernel)
    exact Within.refl _ _
  · refine Within.step ?_ (evhCutShow_within ..) (by decide +kernel)
    exact Within.refl _ _
  · refine Within.step ?_ (mbxPop_within ..) (by decide +kernel)
    exact Within.refl _ _
  · refine Within.step ?_ (mbxReadAccept_within ..) (by decide +kernel)
    exact Within.refl _ _
  · extract_lets -lift +onlyGivenNames a1
    have h1 : Within fpReadLatch s a1.2 := by
      unfold a1
      refine Within.step ?_ (lockRead_within ..) (by decide +kernel)
      exact Within.refl _ _
    clear_value a1
    refine Within.step ?_ (set_within _ _ _ (by decide +kernel)) (by decide +kernel)
    exact h1
  · refine Within.step ?_ (prbsLatch_within ..) (by decide +kernel)
    exact Within.refl _ _
  · refine Within.step ?_ (trimShow_within ..) (by decide +kernel)
    exact Within.refl _ _
  · refine Within.step ?_ (set_within _ _ _ (by decide +kernel)) (by decide +kernel)
    refine Within.step ?_ (set_within _ _ _ (by decide +kernel)) (by decide +kernel)
    refine Within.step ?_ (set_within _ _ _ (by decide +kernel)) (by decide +kernel)
    exact Within.refl _ _
  · refine Within.ite ?_ ?_
    · refine Within.step ?_ (tinPop_within ..) (by decide +kernel)
      exact Within.refl _ _
    · exact Within.refl _ _
  · refine Within.step ?_ (tdcLatch_within ..) (by decide +kernel)
    exact Within.refl _ _
  · refine Within.step ?_ (tdcLatch_within ..) (by decide +kernel)
    exact Within.refl _ _
  · refine Within.step ?_ (tdcLatch_within ..) (by decide +kernel)
    exact Within.refl _ _
  · refine Within.step ?_ (tdcLatch_within ..) (by decide +kernel)
    exact Within.refl _ _
  · refine Within.step ?_ (tdcLatch_within ..) (by decide +kernel)
    exact Within.refl _ _
  · refine Within.step ?_ (tdcBinShow_within ..) (by decide +kernel)
    exact Within.refl _ _
  · extract_lets -lift +onlyGivenNames a1
    clear_value a1
    refine Within.step ?_ (set_within _ _ _ (by decide +kernel)) (by decide +kernel)
    refine Within.step ?_ (set_within _ _ _ (by decide +kernel)) (by decide +kernel)
    exact Within.refl _ _
  · refine Within.ite ?_ ?_
    · extract_lets -lift +onlyGivenNames a1
      clear_value a1
      refine Within.step ?_ (set_within _ _ _ (by decide +kernel)) (by decide +kernel)
      refine Within.step ?_ (set_within _ _ _ (by decide +kernel)) (by decide +kernel)
      refine Within.step ?_ (set_within _ _ _ (by decide +kernel)) (by decide +kernel)
      exact Within.refl _ _
    · exact Within.refl _ _
  · exact Within.refl _ _

/-- What `readValue` can change. -/
def fpReadValue : Nat :=
  0x40000000000100000000000000000000000000080000020000000000000000000000040400800000000000000010000000000000000000000000000000000000000000000000000000000000000000000000000000

theorem fpReadValue_eq : fpReadValue =
    fpDecMemRead ||| fpPfuMemRead ||| fpPfuRecRead ||| fpKmemRead ||| fpTdcBinNext ||| fpChsMemRead ||| fpClpMemRead |||
  fpTrimNext := by decide +kernel

theorem readValue_within (r : Reg) (i : Nat) (s : State) : Within fpReadValue s (readValue r i s).2 := by
  unfold readValue
  split
  · dsimp only
    refine Within.step ?_ (trimNext_within ..) (by decide +kernel)
    exact Within.refl _ _
  · refine Within.step ?_ (decMemRead_within ..) (by decide +kernel)
    exact Within.refl _ _
  · refine Within.step ?_ (pfuRecRead_within ..) (by decide +kernel)
    exact Within.refl _ _
  · refine Within.step ?_ (pfuMemRead_within ..) (by decide +kernel)
    exact Within.refl _ _
  · dsimp only
    refine Within.step ?_ (tdcBinNext_within ..) (by decide +kernel)
    exact Within.refl _ _
  · refine Within.step ?_ (chsMemRead_within ..) (by decide +kernel)
    exact Within.refl _ _
  · refine Within.step ?_ (kmemRead_within ..) (by decide +kernel)
    exact Within.refl _ _
  · refine Within.step ?_ (clpMemRead_within ..) (by decide +kernel)
    exact Within.refl _ _
  · dsimp only
    exact Within.refl _ _

/-- What `regRead1` can change. -/
def fpRegRead1 : Nat :=
  0x93000000000000f80002000000000000000000000000000000000000000000000000000000000000000000000000000000082400000000001000006000000000000000000000800000e00fc003c001080000000000404009c00000000000003100000000800000000007e000001c0f942018480e000000000001fe0000000000000000000000000

theorem fpRegRead1_eq : fpRegRead1 =
    fpAccessError ||| fpWorldViolation ||| fpReadLatch ||| fpReadValue ||| footprint [] [.fresh] := by decide +kernel

theorem regRead1_within (s : State) (m : Master) (off width : Nat) : Within fpRegRead1 s (regRead1 s m off width).2 := by
  unfold regRead1
  split
  · exact (accessError_within ..).mono (by decide +kernel)
  · refine (?_ : Within fpRegRead1 s _)
    split
    · exact (free_within _).mono (by decide +kernel)
    · split
      · rename_i e'
        exact (accessCheck_within e').mono (by decide +kernel)
      · dsimp only
        split
        · exact Within.refl _ _
        · split
          · exact ((readLatch_within ..).mono (by decide +kernel)).trans ((readValue_within ..).mono (by decide +kernel))
          · exact Within.refl _ _

/-- What `regRead` can change. -/
def fpRegRead : Nat :=
  0x93000000000000f80002600000000000000000000000000000000000000000000000000000000000000000000000000000082400000000001000006000000000000000000000800000e00fc003c001080000000000404009c00000000000003100000000800000000007e000001c0f942018480e000000000001fe0000000000000000000000000

theorem fpRegRead_eq : fpRegRead =
    footprint [] [.readData, .readPoison] ||| fpRegRead1 := by decide +kernel

theorem regRead_within (s : State) (m : Master) (off width : Nat) : Within fpRegRead s (regRead s m off width) := by
  unfold regRead
  refine Within.ite ?_ ?_
  · exact Within.refl _ _
  · refine Within.ite ?_ ?_
    · extract_lets -lift +onlyGivenNames a1
      have h1 : Within fpRegRead s a1.2 := by
        unfold a1
        refine Within.step ?_ (regRead1_within ..) (by decide +kernel)
        exact Within.refl _ _
      clear_value a1
      extract_lets -lift +onlyGivenNames a2
      have h2 : Within fpRegRead s a2.2 := by
        unfold a2
        refine Within.step ?_ (regRead1_within ..) (by decide +kernel)
        exact h1
      clear_value a2
      extract_lets -lift +onlyGivenNames a3
      have h3 : Within fpRegRead s a3 := by
        unfold a3
        exact h2
      clear_value a3
      refine Within.step ?_ (upd_readData_readPoison_within _ _ _) (by decide +kernel)
      exact h3
    · extract_lets -lift +onlyGivenNames a1
      have h1 : Within fpRegRead s a1.2 := by
        unfold a1
        refine Within.step ?_ (regRead1_within ..) (by decide +kernel)
        exact Within.refl _ _
      clear_value a1
      extract_lets -lift +onlyGivenNames a2
      have h2 : Within fpRegRead s a2 := by
        unfold a2
        exact h1
      clear_value a2
      refine Within.step ?_ (upd_readData_readPoison_within _ _ _) (by decide +kernel)
      exact h2

end Sys2Proof.Machine
end

