-- ==== Sys2Proof/Laws/Load.lean ====
section
/-! SUPPORT. What each operation of Sys2Proof/Machine/Load.lean can change. -/

set_option Elab.async false

namespace Sys2Proof.Machine

/-- What `loadClear` can change. -/
def fpLoadClear : Nat :=
  0x427800007a01c03063100680000000000000000000000000000000000000000000000000000000000000000000000000000000000000be000c0fe00000001e0203000000000000080000030000000000000000000000000000002000000000000000000000000000000000000000c0000000000006000000000000000001f800000000203f80000000000

theorem fpLoadClear_eq : fpLoadClear =
    footprint loadFlds [.hNext, .nq, .points, .gaps, .dmap, .decDecl, .pfuMem, .pfuCnt, .chsProg, .chsEnv, .frmInit, .frmLive,
  .frmOps, .kmem, .clpProg, .clpMem, .clpInit, .clpEmask, .lanTx, .lanRx, .lanDef, .lanLen, .systemTag, .boot] := by decide +kernel

theorem loadClear_within (s : State) : Within fpLoadClear s (loadClear s) := by
  exact ((regsFilter_within s fun n => !loadFlds.any fun f => f.id == n).mono (by decide +kernel)).step
    (upd_hNext_nq_points_gaps_dmap_decDecl_pfuMem_pfuCnt_chsProg_chsEnv_frmInit_frmLive_frmOps_kmem_clpProg_clpMem_clpInit_clpEmask_lanTx_lanRx_lanDef_lanLen_systemTag_boot_within
      { s with regs := s.regs.filter fun p => !loadFlds.any fun f => f.id == p.1 / 0x400000 } [] [] [] [] [] [] [] [] [] [] [] [] [] [] [] [] [] [] [] [] [] [] 0 { s.boot with gen := 0 })
    (by decide +kernel)

/-- What `loadPark` can change. -/
def fpLoadPark : Nat := footprint [R.BIA_PARK_SPAN, R.BIA_PARK_CODE] []

theorem loadPark_within (g : Nat → Nat) (s : State) : Within fpLoadPark s (loadPark g s) := by
  unfold loadPark
  refine Within.forAll _ ?_ fun a1 _ => ?_
  · exact Within.refl _ _
  · refine Within.step ?_ (set_within _ _ _ (by decide +kernel)) (by decide +kernel)
    refine Within.step ?_ (set_within _ _ _ (by decide +kernel)) (by decide +kernel)
    exact Within.refl _ _

/-- What `loadGovlim` can change. -/
def fpLoadGovlim : Nat :=
  0x1e0200000000000000000000000000000000000000000000000000000000000000000000000000000000000000000000000000000000000000000000000000000000000000000000000000000

theorem fpLoadGovlim_eq : fpLoadGovlim =
    footprint [R.GOV_CTRL_ACTION, R.GOV_LIM_LO_LIM_LO, R.GOV_LIM_HI_LIM_HI, R.GOV_BIAS_MAG_MAG, R.GOV_GLIDE_MAX_GMAX] [] := by decide +kernel

theorem loadGovlim_within (g : Nat → Nat) (s : State) : Within fpLoadGovlim s (loadGovlim g s) := by
  unfold loadGovlim
  refine Within.forAll _ ?_ fun a1 _ => ?_
  · exact Within.refl _ _
  · extract_lets -lift +onlyGivenNames a2
    have h2 : Within fpLoadGovlim a1 a2 := by
      unfold a2
      refine Within.forAll _ ?_ fun a3 _ => ?_
      · exact Within.refl _ _
      · refine Within.step ?_ (set_within _ _ _ (by decide +kernel)) (by decide +kernel)
        refine Within.step ?_ (set_within _ _ _ (by decide +kernel)) (by decide +kernel)
        exact Within.refl _ _
    clear_value a2
    extract_lets -lift +onlyGivenNames a3
    clear_value a3
    refine Within.step ?_ (set_within _ _ _ (by decide +kernel)) (by decide +kernel)
    refine Within.step ?_ (set_within _ _ _ (by decide +kernel)) (by decide +kernel)
    refine Within.step ?_ (set_within _ _ _ (by decide +kernel)) (by decide +kernel)
    exact h2

/-- What `loadWorld` can change. -/
def fpLoadWorld : Nat :=
  0x1f800000000000000000000000

theorem fpLoadWorld_eq : fpLoadWorld =
    footprint [R.SEC_WORLD_SECURE, R.SEC_HBM_RGN_ENABLE, R.SEC_HBM_RGN_SECURE, R.SEC_HBM_RGN_STAGING, R.SEC_HBM_RGN_BASE,
  R.SEC_HBM_LIM_LIMIT] [] := by decide +kernel

theorem loadWorld_within (g : Nat → Nat) (s : State) : Within fpLoadWorld s (loadWorld g s) := by
  unfold loadWorld
  extract_lets -lift +onlyGivenNames a1
  clear_value a1
  extract_lets -lift +onlyGivenNames a2
  have h2 : Within fpLoadWorld s a2 := by
    unfold a2
    refine Within.forAll _ ?_ fun a3 _ => ?_
    · exact Within.refl _ _
    · refine Within.step ?_ (set_within _ _ _ (by decide +kernel)) (by decide +kernel)
      exact Within.refl _ _
  clear_value a2
  refine Within.forAll _ ?_ fun a3 _ => ?_
  · exact h2
  · extract_lets -lift +onlyGivenNames a4
    clear_value a4
    extract_lets -lift +onlyGivenNames a5
    have h5 : Within fpLoadWorld a3 a5 := by
      unfold a5
      refine Within.step ?_ (set_within _ _ _ (by decide +kernel)) (by decide +kernel)
      refine Within.step ?_ (set_within _ _ _ (by decide +kernel)) (by decide +kernel)
      refine Within.step ?_ (set_within _ _ _ (by decide +kernel)) (by decide +kernel)
      exact Within.refl _ _
    clear_value a5
    refine Within.step ?_ (set_within _ _ _ (by decide +kernel)) (by decide +kernel)
    refine Within.step ?_ (set_within _ _ _ (by decide +kernel)) (by decide +kernel)
    exact h5

/-- What `loadEvown` can change. -/
def fpLoadEvown : Nat := footprint [R.EVF_CH_SECURE, R.EVF_CH_OWNER] []

theorem loadEvown_within (g : Nat → Nat) (s : State) : Within fpLoadEvown s (loadEvown g s) := by
  unfold loadEvown
  refine Within.forAll _ ?_ fun a1 _ => ?_
  · exact Within.refl _ _
  · refine Within.step ?_ (set_within _ _ _ (by decide +kernel)) (by decide +kernel)
    refine Within.step ?_ (set_within _ _ _ (by decide +kernel)) (by decide +kernel)
    exact Within.refl _ _

/-- What `loadSecure` can change. -/
def fpLoadSecure : Nat :=
  0x427800007a01c03063100680000000000000000000000000000000000000000000000000000000000000000000000000000000000000be000c0fe00000001e0203000000000000080000030000000000000000000000000000002000000000000000000000000000000000000000c0000000000006000000000000000001f800000000203f80000000000

theorem fpLoadSecure_eq : fpLoadSecure =
    fpLoadClear ||| fpLoadPark ||| fpLoadGovlim ||| fpLoadWorld ||| fpLoadEvown := by decide +kernel

theorem loadSecure_within (g : Nat → Nat) (s : State) : Within fpLoadSecure s (loadSecure g s) := by
  unfold loadSecure
  refine Within.step ?_ (loadEvown_within ..) (by decide +kernel)
  refine Within.step ?_ (loadWorld_within ..) (by decide +kernel)
  refine Within.step ?_ (loadGovlim_within ..) (by decide +kernel)
  refine Within.step ?_ (loadPark_within ..) (by decide +kernel)
  refine Within.step ?_ (loadClear_within ..) (by decide +kernel)
  exact Within.refl _ _

/-- What `loadSched` can change. -/
def fpLoadSched : Nat :=
  0x20000000000000000000000000000000000000000000000000000000000000000000000000000000000000000000000000000000000000000203f80000000000

theorem fpLoadSched_eq : fpLoadSched =
    footprint [R.GLB_SCHED_CFG_START_MODE, R.GLB_SCHED_CFG_ALIGN, R.GLB_SCHED_LEN_TICKS, R.GLB_SCHED_COUNT_LO_COUNT_LO,
  R.GLB_SCHED_COUNT_HI_COUNT_HI, R.GLB_SCHED_START_LO_TIME_LO, R.GLB_SCHED_START_HI_TIME_HI, R.GLB_BAR_REMOTE, R.CHS_CTRL_ENABLE] [] := by decide +kernel

theorem loadSched_within (g : Nat → Nat) (s : State) : Within fpLoadSched s (loadSched g s) := by
  unfold loadSched
  extract_lets -lift +onlyGivenNames a1
  clear_value a1
  extract_lets -lift +onlyGivenNames a2
  have h2 : Within fpLoadSched s a2 := by
    unfold a2
    refine Within.step ?_ (set_within _ _ _ (by decide +kernel)) (by decide +kernel)
    refine Within.step ?_ (set_within _ _ _ (by decide +kernel)) (by decide +kernel)
    exact Within.refl _ _
  clear_value a2
  extract_lets -lift +onlyGivenNames a3
  have h3 : Within fpLoadSched s a3 := by
    unfold a3
    refine Within.step ?_ (set_within _ _ _ (by decide +kernel)) (by decide +kernel)
    refine Within.step ?_ (set_within _ _ _ (by decide +kernel)) (by decide +kernel)
    exact h2
  clear_value a3
  extract_lets -lift +onlyGivenNames a4
  have h4 : Within fpLoadSched s a4 := by
    unfold a4
    refine Within.step ?_ (set_within _ _ _ (by decide +kernel)) (by decide +kernel)
    refine Within.step ?_ (set_within _ _ _ (by decide +kernel)) (by decide +kernel)
    exact h3
  clear_value a4
  extract_lets -lift +onlyGivenNames a5
  have h5 : Within fpLoadSched s a5 := by
    unfold a5
    refine Within.step ?_ (set_within _ _ _ (by decide +kernel)) (by decide +kernel)
    exact h4
  clear_value a5
  extract_lets -lift +onlyGivenNames a6
  have h6 : Within fpLoadSched s a6 := by
    unfold a6
    refine Within.forAll _ ?_ fun a7 _ => ?_
    · exact h5
    · refine Within.step ?_ (set_within _ _ _ (by decide +kernel)) (by decide +kernel)
      exact Within.refl _ _
  clear_value a6
  refine Within.forAll _ ?_ fun a7 _ => ?_
  · exact h6
  · refine Within.step ?_ (set_within _ _ _ (by decide +kernel)) (by decide +kernel)
    exact Within.refl _ _

/-- What `loadChsprog` can change. -/
def fpLoadChsprog : Nat := footprint [R.CHS_CTRL_ENTRY] [.chsProg]

theorem loadChsprog_within (g : Nat → Nat) (s : State) : Within fpLoadChsprog s (loadChsprog g s) := by
  unfold loadChsprog
  refine Within.forAll _ ?_ fun a1 _ => ?_
  · exact Within.refl _ _
  · extract_lets -lift +onlyGivenNames a2
    clear_value a2
    extract_lets -lift +onlyGivenNames a3
    have h3 : Within fpLoadChsprog a1 a3 := by
      unfold a3
      refine Within.step ?_ (set_within _ _ _ (by decide +kernel)) (by decide +kernel)
      exact Within.refl _ _
    clear_value a3
    refine Within.step ?_ (chsProg_within _ _) (by decide +kernel)
    exact h3

/-- What `loadEnv` can change. -/
def fpLoadEnv : Nat := footprint [] [.chsEnv]

theorem loadEnv_within (g : Nat → Nat) (s : State) : Within fpLoadEnv s (loadEnv g s) := by
  unfold loadEnv
  refine Within.forAll _ ?_ fun a1 _ => ?_
  · exact Within.refl _ _
  · refine Within.step ?_ (chsEnv_within _ _) (by decide +kernel)
    exact Within.refl _ _

/-- What `loadFrames` can change. -/
def fpLoadFrames : Nat := footprint [] [.frmInit, .frmLive]

theorem loadFrames_within (g : Nat → Nat) (s : State) : Within fpLoadFrames s (loadFrames g s) := by
  unfold loadFrames
  refine Within.forAll _ ?_ fun a1 _ => ?_
  · exact Within.refl _ _
  · extract_lets -lift +onlyGivenNames a2
    clear_value a2
    extract_lets -lift +onlyGivenNames a3
    clear_value a3
    refine Within.step ?_ (upd_frmInit_frmLive_within _ _ _) (by decide +kernel)
    exact Within.refl _ _

/-- What `loadSegtab` can change. -/
def fpLoadSegtab : Nat := footprint [R.SEG_ENT_BYTES] []

theorem loadSegtab_within (g : Nat → Nat) (s : State) : Within fpLoadSegtab s (loadSegtab g s) := by
  unfold loadSegtab
  refine Within.forAll _ ?_ fun a1 _ => ?_
  · exact Within.refl _ _
  · refine Within.forAll _ ?_ fun a2 _ => ?_
    · exact Within.refl _ _
    · refine Within.step ?_ (set_within _ _ _ (by decide +kernel)) (by decide +kernel)
      exact Within.refl _ _

/-- What `loadKern` can change. -/
def fpLoadKern : Nat := footprint [R.DMD_FREQ_LO_F_LO, R.DMD_FREQ_HI_F_HI, R.DMD_PHASE_PHI] [.kmem]

theorem loadKern_within (g : Nat → Nat) (s : State) : Within fpLoadKern s (loadKern g s) := by
  unfold loadKern
  refine Within.forAll _ ?_ fun a1 _ => ?_
  · exact Within.refl _ _
  · extract_lets -lift +onlyGivenNames a2
    clear_value a2
    extract_lets -lift +onlyGivenNames a3
    have h3 : Within fpLoadKern a1 a3 := by
      unfold a3
      refine Within.step ?_ (set_within _ _ _ (by decide +kernel)) (by decide +kernel)
      refine Within.step ?_ (set_within _ _ _ (by decide +kernel)) (by decide +kernel)
      refine Within.step ?_ (set_within _ _ _ (by decide +kernel)) (by decide +kernel)
      exact Within.refl _ _
    clear_value a3
    refine Within.step ?_ (kmem_within _ _) (by decide +kernel)
    exact h3

/-- What `loadDisc` can change. -/
def fpLoadDisc : Nat := footprint [R.DMD_CFG_PUB, R.DMD_CFG_MODE, R.DMD_AX_VALUE, R.DMD_T_VALUE] []

theorem loadDisc_within (g : Nat → Nat) (s : State) : Within fpLoadDisc s (loadDisc g s) := by
  unfold loadDisc
  refine Within.forAll _ ?_ fun a1 _ => ?_
  · exact Within.refl _ _
  · extract_lets -lift +onlyGivenNames a2
    clear_value a2
    extract_lets -lift +onlyGivenNames a3
    have h3 : Within fpLoadDisc a1 a3 := by
      unfold a3
      refine Within.step ?_ (set_within _ _ _ (by decide +kernel)) (by decide +kernel)
      refine Within.step ?_ (set_within _ _ _ (by decide +kernel)) (by decide +kernel)
      exact Within.refl _ _
    clear_value a3
    extract_lets -lift +onlyGivenNames a4
    have h4 : Within fpLoadDisc a1 a4 := by
      unfold a4
      refine Within.forAll _ ?_ fun a5 _ => ?_
      · exact h3
      · refine Within.step ?_ (set_within _ _ _ (by decide +kernel)) (by decide +kernel)
        exact Within.refl _ _
    clear_value a4
    refine Within.forAll _ ?_ fun a5 _ => ?_
    · exact h4
    · refine Within.step ?_ (set_within _ _ _ (by decide +kernel)) (by decide +kernel)
      exact Within.refl _ _

/-- What `loadClpprog` can change. -/
def fpLoadClpprog : Nat :=
  0x7800000000000000000000000000000000000000000000000000000000000000000000000000000000000000000000000000be000c0000000000000000000000000000000000000000000000000000000000000000000000000000000000000000000000000000000000000000000000000000000000000000000000000000000000000000000

theorem fpLoadClpprog_eq : fpLoadClpprog =
    footprint [R.CLP_CTRL_ENTRY, R.CLP_CTRL_MODE, R.CLP_DEP_KIND, R.CLP_DEP_SIZE_LOG2, R.CLP_DEP_PHASE, R.CLP_DEP_SRC,
  R.CLP_DEP_BASE, R.CLP_EVEC_ADDR] [.clpProg, .clpMem, .clpInit, .clpEmask] := by decide +kernel

theorem loadClpprog_within (g : Nat → Nat) (s : State) : Within fpLoadClpprog s (loadClpprog g s) := by
  unfold loadClpprog
  refine Within.forAll _ ?_ fun a1 _ => ?_
  · exact Within.refl _ _
  · extract_lets -lift +onlyGivenNames a2
    clear_value a2
    extract_lets -lift +onlyGivenNames a3
    clear_value a3
    extract_lets -lift +onlyGivenNames a4
    clear_value a4
    extract_lets -lift +onlyGivenNames a5
    clear_value a5
    extract_lets -lift +onlyGivenNames a6
    have h6 : Within fpLoadClpprog a1 a6 := by
      unfold a6
      refine Within.step ?_ (set_within _ _ _ (by decide +kernel)) (by decide +kernel)
      refine Within.step ?_ (set_within _ _ _ (by decide +kernel)) (by decide +kernel)
      exact Within.refl _ _
    clear_value a6
    extract_lets -lift +onlyGivenNames a7
    have h7 : Within fpLoadClpprog a1 a7 := by
      unfold a7
      refine Within.forAll _ ?_ fun a8 _ => ?_
      · exact h6
      · extract_lets -lift +onlyGivenNames a9
        clear_value a9
        extract_lets -lift +onlyGivenNames a10
        have h10 : Within fpLoadClpprog a8 a10 := by
          unfold a10
          refine Within.step ?_ (set_within _ _ _ (by decide +kernel)) (by decide +kernel)
          refine Within.step ?_ (set_within _ _ _ (by decide +kernel)) (by decide +kernel)
          refine Within.step ?_ (set_within _ _ _ (by decide +kernel)) (by decide +kernel)
          exact Within.refl _ _
        clear_value a10
        refine Within.step ?_ (set_within _ _ _ (by decide +kernel)) (by decide +kernel)
        refine Within.step ?_ (set_within _ _ _ (by decide +kernel)) (by decide +kernel)
        exact h10
    clear_value a7
    extract_lets -lift +onlyGivenNames a8
    have h8 : Within fpLoadClpprog a1 a8 := by
      unfold a8
      refine Within.forAll _ ?_ fun a9 _ => ?_
      · exact h7
      · refine Within.step ?_ (set_within _ _ _ (by decide +kernel)) (by decide +kernel)
        exact Within.refl _ _
    clear_value a8
    refine Within.step ?_ (upd_clpProg_clpMem_clpInit_clpEmask_within _ _ _ _ _) (by decide +kernel)
    exact h8

/-- What `loadDecmap` can change. -/
def fpLoadDecmap : Nat := footprint [] [.dmap, .decDecl]

theorem loadDecmap_within (g : Nat → Nat) (s : State) : Within fpLoadDecmap s (loadDecmap g s) := by
  unfold loadDecmap
  refine Within.step ?_ (upd_dmap_decDecl_within _ _ _) (by decide +kernel)
  exact Within.refl _ _

/-- What `loadPartab` can change. -/
def fpLoadPartab : Nat := footprint [R.PFU_CTRL_SHOT_RESET] [.pfuMem, .pfuCnt]

theorem loadPartab_within (g : Nat → Nat) (s : State) : Within fpLoadPartab s (loadPartab g s) := by
  unfold loadPartab
  extract_lets -lift +onlyGivenNames a1
  clear_value a1
  refine Within.ite ?_ ?_
  · exact Within.refl _ _
  · extract_lets -lift +onlyGivenNames a2
    have h2 : Within fpLoadPartab s a2 := by
      unfold a2
      refine Within.step ?_ (set_within _ _ _ (by decide +kernel)) (by decide +kernel)
      exact Within.refl _ _
    clear_value a2
    refine Within.step ?_ (upd_pfuMem_pfuCnt_within _ _ _) (by decide +kernel)
    exact h2

/-- What `loadHarvest` can change. -/
def fpLoadHarvest : Nat := footprint [] [.nq, .points]

theorem loadHarvest_within (g : Nat → Nat) (s : State) : Within fpLoadHarvest s (loadHarvest g s) := by
  unfold loadHarvest
  refine Within.forAll _ ?_ fun a1 _ => ?_
  · exact Within.refl _ _
  · extract_lets -lift +onlyGivenNames a2
    clear_value a2
    extract_lets -lift +onlyGivenNames a3
    clear_value a3
    refine Within.step ?_ (upd_nq_points_within _ _ _) (by decide +kernel)
    exact Within.refl _ _

/-- What `loadGaps` can change. -/
def fpLoadGaps : Nat := footprint [] [.gaps]

theorem loadGaps_within (g : Nat → Nat) (s : State) : Within fpLoadGaps s (loadGaps g s) := by
  unfold loadGaps
  refine Within.step ?_ (gaps_within _ _) (by decide +kernel)
  exact Within.refl _ _

/-- What `loadSvaslot` can change. -/
def fpLoadSvaslot : Nat := footprint [R.SVA_SLOT_ENTRY, R.SVA_ACT_ENTRY] []

theorem loadSvaslot_within (g : Nat → Nat) (s : State) : Within fpLoadSvaslot s (loadSvaslot g s) := by
  unfold loadSvaslot
  refine Within.forAll _ ?_ fun a1 _ => ?_
  · exact Within.refl _ _
  · refine Within.forAll _ ?_ fun a2 _ => ?_
    · exact Within.refl _ _
    · extract_lets -lift +onlyGivenNames a3
      clear_value a3
      refine Within.step ?_ (set_within _ _ _ (by decide +kernel)) (by decide +kernel)
      refine Within.step ?_ (set_within _ _ _ (by decide +kernel)) (by decide +kernel)
      exact Within.refl _ _

/-- What `loadLanslot` can change. -/
def fpLoadLanslot : Nat := footprint [] [.lanTx, .lanRx, .lanDef, .lanLen]

theorem loadLanslot_within (g : Nat → Nat) (s : State) : Within fpLoadLanslot s (loadLanslot g s) := by
  unfold loadLanslot
  refine Within.forAll _ ?_ fun a1 _ => ?_
  · exact Within.refl _ _
  · extract_lets -lift +onlyGivenNames a2
    clear_value a2
    extract_lets -lift +onlyGivenNames a3
    clear_value a3
    extract_lets -lift +onlyGivenNames a4
    clear_value a4
    refine Within.step ?_ (upd_lanTx_lanRx_lanDef_lanLen_within _ _ _ _ _) (by decide +kernel)
    exact Within.refl _ _

/-- What `loadSeeds` can change. -/
def fpLoadSeeds : Nat :=
  0x200000000000000000000000000000000000000000000000000000000000000000000000000000000000000000000000000000000000000000000000000000000000000000000000000000000000000000000000000000000000000000000000000000000000000000000000001000000000000000000000000000000000000000000000000000000

theorem fpLoadSeeds_eq : fpLoadSeeds =
    footprint [R.SVA_SEED_SEED] [] ||| fpSeedWritten := by decide +kernel

theorem loadSeeds_within (g : Nat → Nat) (s : State) : Within fpLoadSeeds s (loadSeeds g s) := by
  unfold loadSeeds
  extract_lets -lift +onlyGivenNames a1
  clear_value a1
  refine Within.forAll _ ?_ fun a2 _ => ?_
  · exact Within.refl _ _
  · extract_lets -lift +onlyGivenNames a3
    clear_value a3
    refine Within.step ?_ (seedWritten_within ..) (by decide +kernel)
    refine Within.step ?_ (set_within _ _ _ (by decide +kernel)) (by decide +kernel)
    exact Within.refl _ _

/-- What `loadInit` can change. -/
def fpLoadInit : Nat :=
  0x47c04f8133e67f0300000fc02120000000000000000000000000000000000000000000000000000000000000000000000000000000ffffffffffffffffffffffffffffffffffffffffffffffffffffffffffffffffffffffffffffffffffffffffffffffffffffffffffffffffffffffffffffffffffffffffffffffffffffffffffffffffffffffffffff

theorem fpLoadInit_eq : fpLoadInit =
    fpRegWrite := by decide +kernel

theorem loadInit_within (g : Nat → Nat) (s : State) : Within fpLoadInit s (loadInit g s) := by
  unfold loadInit
  refine Within.forAll _ ?_ fun a1 _ => ?_
  · exact Within.refl _ _
  · refine Within.step ?_ (regWrite_within ..) (by decide +kernel)
    exact Within.refl _ _

/-- What `loadSections` can change. -/
def fpLoadSections : Nat :=
  0x7800007a00c03063100600000000000000000000000000000000000000000000000000000000000000000000000000000000000000be000c0fe0000000000000000000000000080000030000000000000000000000000000002000000000000000000000000000000000000000c00000000000000000000000000000000000000000203f80000000000

theorem fpLoadSections_eq : fpLoadSections =
    fpLoadSched ||| fpLoadChsprog ||| fpLoadEnv ||| fpLoadFrames ||| fpLoadSegtab ||| fpLoadKern ||| fpLoadDisc |||
  fpLoadClpprog ||| fpLoadDecmap ||| fpLoadPartab ||| fpLoadHarvest ||| fpLoadGaps ||| fpLoadSvaslot ||| fpLoadLanslot := by decide +kernel

theorem loadSections_within (g : Nat → Nat) (s : State) : Within fpLoadSections s (loadSections g s) := by
  unfold loadSections
  extract_lets -lift +onlyGivenNames a1
  have h1 : Within fpLoadSections s a1 := by
    unfold a1
    refine Within.step ?_ (loadEnv_within ..) (by decide +kernel)
    refine Within.step ?_ (loadChsprog_within ..) (by decide +kernel)
    refine Within.step ?_ (loadSched_within ..) (by decide +kernel)
    exact Within.refl _ _
  clear_value a1
  extract_lets -lift +onlyGivenNames a2
  have h2 : Within fpLoadSections s a2 := by
    unfold a2
    refine Within.step ?_ (loadDisc_within ..) (by decide +kernel)
    refine Within.step ?_ (loadKern_within ..) (by decide +kernel)
    refine Within.step ?_ (loadSegtab_within ..) (by decide +kernel)
    refine Within.step ?_ (loadFrames_within ..) (by decide +kernel)
    exact h1
  clear_value a2
  extract_lets -lift +onlyGivenNames a3
  have h3 : Within fpLoadSections s a3 := by
    unfold a3
    refine Within.step ?_ (loadPartab_within ..) (by decide +kernel)
    refine Within.step ?_ (loadDecmap_within ..) (by decide +kernel)
    refine Within.step ?_ (loadClpprog_within ..) (by decide +kernel)
    exact h2
  clear_value a3
  refine Within.step ?_ (loadLanslot_within ..) (by decide +kernel)
  refine Within.step ?_ (loadSvaslot_within ..) (by decide +kernel)
  refine Within.step ?_ (loadGaps_within ..) (by decide +kernel)
  refine Within.step ?_ (loadHarvest_within ..) (by decide +kernel)
  exact h3

/-- What `loadAll` can change. -/
def fpLoadAll : Nat :=
  0x47e7cf8137e67f0306310ffc2120000000000000000000000000000000000000000000000000000000000000000000000000000000ffffffffffffffffffffffffffffffffffffffffffffffffffffffffffffffffffffffffffffffffffffffffffffffffffffffffffffffffffffffffffffffffffffffffffffffffffffffffffffffffffffffffffff

theorem fpLoadAll_eq : fpLoadAll =
    footprint [] [.systemTag, .boot] ||| fpHarvestFlush ||| fpGovRestore ||| fpLoadSecure ||| fpLoadSeeds ||| fpLoadInit |||
  fpLoadSections := by decide +kernel

theorem loadAll_within (g : Nat → Nat) (s : State) : Within fpLoadAll s (loadAll g s) := by
  unfold loadAll
  extract_lets -lift +onlyGivenNames a1
  have h1 : Within fpLoadAll s a1 := by
    unfold a1
    refine Within.step ?_ (harvestFlush_within ..) (by decide +kernel)
    refine Within.step ?_ (loadSecure_within ..) (by decide +kernel)
    exact Within.refl _ _
  clear_value a1
  extract_lets -lift +onlyGivenNames a2
  have h2 : Within fpLoadAll s a2 := by
    unfold a2
    refine Within.ite ?_ ?_
    · refine Within.step ?_ (govRestore_within ..) (by decide +kernel)
      exact h1
    · exact h1
  clear_value a2
  extract_lets -lift +onlyGivenNames a3
  have h3 : Within fpLoadAll s a3 := by
    unfold a3
    refine Within.step ?_ (loadSections_within ..) (by decide +kernel)
    exact h2
  clear_value a3
  extract_lets -lift +onlyGivenNames a4
  clear_value a4
  extract_lets -lift +onlyGivenNames a5
  have h5 : Within fpLoadAll s a5 := by
    unfold a5
    refine Within.step ?_ (loadSeeds_within ..) (by decide +kernel)
    refine Within.step ?_ (upd_systemTag_boot_within _ _ _) (by decide +kernel)
    exact h3
  clear_value a5
  refine Within.step ?_ (loadInit_within ..) (by decide +kernel)
  exact h5

/-- What `imgRunning` can change. -/
def fpImgRunning : Nat :=
  0x4000000000000000000000000000000000000000000000000000000000000000000000000000000000000000000000000000000000000000000000000000000000000000000000000000000000000000000000000000000000000000000000000000000000000000000000000000000000000000000000000000000002000000008000000000380000000

theorem fpImgRunning_eq : fpImgRunning =
    footprint [R.GLB_ARMATURE_ID_MAJOR, R.GLB_ARMATURE_ID_MINOR, R.GLB_ARMATURE_ID_GENERATION, R.BOOT_STATUS_ACTIVE_SLOT,
  R.SEC_KEY_STATE_ACTIVE] [.boot] := by decide +kernel

theorem imgRunning_within (g : Nat → Nat) (k : Nat) (s : State) : Within fpImgRunning s (imgRunning g k s) := by
  unfold imgRunning
  extract_lets -lift +onlyGivenNames a1
  have h1 : Within fpImgRunning s a1 := by
    unfold a1
    refine Within.step ?_ (set_within _ _ _ (by decide +kernel)) (by decide +kernel)
    refine Within.step ?_ (set_within _ _ _ (by decide +kernel)) (by decide +kernel)
    refine Within.step ?_ (set_within _ _ _ (by decide +kernel)) (by decide +kernel)
    exact Within.refl _ _
  clear_value a1
  extract_lets -lift +onlyGivenNames a2
  have h2 : Within fpImgRunning s a2 := by
    unfold a2
    refine Within.step ?_ (set_within _ _ _ (by decide +kernel)) (by decide +kernel)
    refine Within.step ?_ (set_within _ _ _ (by decide +kernel)) (by decide +kernel)
    exact h1
  clear_value a2
  refine Within.step ?_ (boot_within _ _) (by decide +kernel)
  exact h2

end Sys2Proof.Machine
end

