-- ==== Sys2Proof/Laws/Boot.lean ====
section
/-! SUPPORT. What each operation of Sys2Proof/Machine/Boot.lean can change. -/

set_option Elab.async false

namespace Sys2Proof.Machine

/-- What `updBoot` can change. -/
def fpUpdBoot : Nat := footprint [] [.boot]

theorem updBoot_within (s : State) (f : BootSt → BootSt) : Within fpUpdBoot s (updBoot s f) := by
  unfold updBoot
  refine Within.step ?_ (boot_within _ _) (by decide +kernel)
  exact Within.refl _ _

/-- What `noImage` can change. -/
def fpNoImage : Nat :=
  0x80000010000400000008f80002000000000000000000000000000000000000000000000000000000000000000000000000000000080000000000000000000000500000000000000000000000000000000000000000000000000000000000000000000000000000000000000000000000000000001808000000000000000007e0011a00000000000000000

theorem fpNoImage_eq : fpNoImage =
    footprint [R.BOOT_STATUS_LAST_CODE, R.BOOT_STATUS_OP, R.BOOT_STATUS_STATE] [] ||| fpGlobalEvent ||| fpBootLog |||
  fpBiasOpen ||| fpLogWrite := by decide +kernel

theorem noImage_within (s : State) (code : Nat) : Within fpNoImage s (noImage s code) := by
  unfold noImage
  extract_lets -lift +onlyGivenNames a1
  have h1 : Within fpNoImage s a1 := by
    unfold a1
    refine Within.step ?_ (biasOpen_within ..) (by decide +kernel)
    exact Within.refl _ _
  clear_value a1
  extract_lets -lift +onlyGivenNames a2
  have h2 : Within fpNoImage s a2 := by
    unfold a2
    refine Within.step ?_ (set_within _ _ _ (by decide +kernel)) (by decide +kernel)
    refine Within.step ?_ (set_within _ _ _ (by decide +kernel)) (by decide +kernel)
    refine Within.step ?_ (set_within _ _ _ (by decide +kernel)) (by decide +kernel)
    exact h1
  clear_value a2
  refine Within.step ?_ (logWrite_within ..) (by decide +kernel)
  refine Within.step ?_ (globalEvent_within ..) (by decide +kernel)
  refine Within.step ?_ (bootLog_within ..) (by decide +kernel)
  exact h2

/-- What `fwCopy` can change. -/
def fpFwCopy : Nat :=
  0x10000000000000008000000000000000000000000000000000000000000000000000000000000000000000000000000000000000000000000000000000000000000000000000000000000000000000000000000000000000000000000000000000000000000000000000000000000000000000000000000000000000000000000000000000000000000000

theorem fpFwCopy_eq : fpFwCopy =
    footprint [] [.sram] ||| fpHbmPut := by decide +kernel

theorem fwCopy_within (g : Nat → Nat) (s : State) (o : Nat) : Within fpFwCopy s (fwCopy g s o) := by
  unfold fwCopy
  extract_lets -lift +onlyGivenNames a1
  clear_value a1
  refine Within.forAll _ (Within.refl _ _) fun t _ => ?_
  refine Within.ite ?_ ?_
  · exact Within.step (Within.refl _ _) (hbmPut_within ..) (by decide +kernel)
  · exact Within.step (Within.refl _ _) (sram_within _ _ fun h => swf_sset _ _ h) (by decide +kernel)

/-- What `fwEntries` can change. -/
def fpFwEntries : Nat :=
  0x4000000000000000000000000000000000000000000000000000000000000000000000000000000000000000000000000000000000000000000000000000000000000000000000000000000000000000000000000000000000000000000000000000000000000000000000000000000000000000000000000000000000000000000000000000000000000

theorem fpFwEntries_eq : fpFwEntries =
    fpUpdBoot := by decide +kernel

theorem fwEntries_within (s : State) (g : Nat → Nat) : Within fpFwEntries s (fwEntries s g) := by
  unfold fwEntries
  refine Within.step ?_ (updBoot_within ..) (by decide +kernel)
  exact Within.refl _ _

/-- What `coresStart` can change. -/
def fpCoresStart : Nat := footprint [R.GLB_PLN_STATUS_STATE] []

theorem coresStart_within (s : State) (mask : Nat) : Within fpCoresStart s (coresStart s mask) := by
  unfold coresStart
  refine Within.forAll _ ?_ fun a1 _ => ?_
  · exact Within.refl _ _
  · refine Within.step ?_ (set_within _ _ _ (by decide +kernel)) (by decide +kernel)
    exact Within.refl _ _

/-- What `calApply` can change. -/
def fpCalApply : Nat :=
  0x100000000040000000000000000000000000000000000000000000000000000000000000000000000000000000000000000000000000000000000a800000000000000000800000000000000000000000000000000000000000000000000000000000000080000400000000000000000000000000000000001000000000000000000000000000000000000

theorem fpCalApply_eq : fpCalApply =
    footprint [R.PNT_STATUS_CLAMPED] [.zoneSets] ||| fpSetPntDelta ||| fpSetPntApplied := by decide +kernel

theorem calApply_within (s : State) (r : Nat × Nat × Nat × Nat × Int) : Within fpCalApply s (calApply s r) := by
  unfold calApply
  split
  extract_lets -lift +onlyGivenNames a1
  have h1 : Within fpCalApply s a1 := by
    unfold a1
    refine Within.step ?_ (setPntDelta_within ..) (by decide +kernel)
    exact Within.refl _ _
  clear_value a1
  extract_lets -lift +onlyGivenNames a2
  clear_value a2
  extract_lets -lift +onlyGivenNames a3
  have h3 : Within fpCalApply s a3 := by
    unfold a3
    refine Within.when ?_ fun a4 => ?_
    · exact h1
    · refine Within.step ?_ (set_within _ _ _ (by decide +kernel)) (by decide +kernel)
      exact Within.refl _ _
  clear_value a3
  refine Within.ite ?_ ?_
  · refine Within.step ?_ (zoneSets_within _ _) (by decide +kernel)
    exact h3
  · refine Within.step ?_ (setPntApplied_within ..) (by decide +kernel)
    exact h3

/-- What `calLoad` can change. -/
def fpCalLoad : Nat :=
  0x100000000040000000080000000000000000000000000000000000000000000000000000000000000000000000000000000000000000000000000a8000000000000000008000000000000000000000000000000000000000000000000000000000000000800004000000000000000000000000000000000010000000000007e0000000000000000000000

theorem fpCalLoad_eq : fpCalLoad =
    footprint [] [.pnt] ||| fpBootLog ||| fpSlotDiscards ||| fpCalApply := by decide +kernel

theorem calLoad_within (s : State) : Within fpCalLoad s (calLoad s) := by
  unfold calLoad
  extract_lets -lift +onlyGivenNames a1
  clear_value a1
  extract_lets -lift +onlyGivenNames a2
  have h2 : Within fpCalLoad s a2 := by
    unfold a2
    refine Within.step ?_ (slotDiscards_within ..) (by decide +kernel)
    refine Within.step ?_ (pnt_within _ _) (by decide +kernel)
    exact Within.refl _ _
  clear_value a2
  split
  · exact h2
  · extract_lets -lift +onlyGivenNames a3
    clear_value a3
    extract_lets -lift +onlyGivenNames a4
    have h4 : Within fpCalLoad s a4 := by
      unfold a4
      refine Within.forAll _ ?_ fun a5 _ => ?_
      · exact h2
      · refine Within.step ?_ (calApply_within ..) (by decide +kernel)
        exact Within.refl _ _
    clear_value a4
    refine Within.when ?_ fun a5 => ?_
    · exact h4
    · refine Within.step ?_ (bootLog_within ..) (by decide +kernel)
      exact Within.refl _ _

/-- What `calCommit` can change. -/
def fpCalCommit : Nat :=
  0x80000010000000000008f8000200000000000000000000000000000000000000000000000000000000000000000000000000000008000000000000000000000000000000000000000000000000000000000000000000000000000000000000000000000000000000000000000000000000000000180800000000000000000000000a00000000000000000

theorem fpCalCommit_eq : fpCalCommit =
    footprint [R.BOOT_STATUS_LAST_CODE] [] ||| fpGlobalEvent ||| fpSlotBegin ||| fpSlotCommit ||| fpLogWrite := by decide +kernel

theorem calCommit_within (s : State) : Within fpCalCommit s (calCommit s).2 := by
  unfold calCommit
  split
  · dsimp only
    exact Within.refl _ _
  · extract_lets +onlyGivenNames a1
    clear_value a1
    extract_lets +onlyGivenNames a2
    clear_value a2
    extract_lets +onlyGivenNames a3
    have h3 : Within fpCalCommit s a3 := by
      unfold a3
      refine Within.when ?_ fun a4 => ?_
      · exact Within.refl _ _
      · refine Within.step ?_ (slotCommit_within ..) (by decide +kernel)
        refine Within.step ?_ (slotBegin_within ..) (by decide +kernel)
        exact Within.refl _ _
    clear_value a3
    dsimp only
    refine Within.step ?_ (logWrite_within ..) (by decide +kernel)
    refine Within.step ?_ (globalEvent_within ..) (by decide +kernel)
    refine Within.step ?_ (set_within _ _ _ (by decide +kernel)) (by decide +kernel)
    exact h3

/-- What `fwStart` can change. -/
def fpFwStart : Nat :=
  0x1500020000040000800080000000000000000000000000000000000000000000000000000000000000000000000000000000000000000000000000a8000000000000000008000000000000000000000000000000000000000000000000000000000000000800004000000000000000000000000000000000010000000000007e0010000400000000000000

theorem fpFwStart_eq : fpFwStart =
    footprint [R.BOOT_STATUS_STATE] [] ||| fpBootLog ||| fpArbTrained ||| fpUpdBoot ||| fpFwCopy ||| fpFwEntries |||
  fpCoresStart ||| fpCalLoad := by decide +kernel

theorem fwStart_within (s : State) (k : Nat) : Within fpFwStart s (fwStart s k) := by
  unfold fwStart
  extract_lets -lift +onlyGivenNames a1
  clear_value a1
  extract_lets -lift +onlyGivenNames a2
  have h2 : Within fpFwStart s a2 := by
    unfold a2
    refine Within.step ?_ (updBoot_within ..) (by decide +kernel)
    refine Within.step ?_ (arbTrained_within ..) (by decide +kernel)
    refine Within.step ?_ (coresStart_within ..) (by decide +kernel)
    refine Within.step ?_ (fwEntries_within ..) (by decide +kernel)
    refine Within.forAll _ ?_ fun a3 _ => ?_
    · exact Within.refl _ _
    · refine Within.step ?_ (fwCopy_within ..) (by decide +kernel)
      exact Within.refl _ _
  clear_value a2
  refine Within.step ?_ (set_within _ _ _ (by decide +kernel)) (by decide +kernel)
  refine Within.step ?_ (calLoad_within ..) (by decide +kernel)
  refine Within.step ?_ (bootLog_within ..) (by decide +kernel)
  exact h2

/-- What `fwTry` can change. -/
def fpFwTry : Nat :=
  0x1d0002010004400080008f800020000000000000000000000000000000000000000000000000000000000000000000000000000000800000000000a8000000000500000008000000000000000000000000000000000000000000000000000000000000000800004000000000000000000000000001808000010000000000007e0011a00400000000000000

theorem fpFwTry_eq : fpFwTry =
    fpNoImage ||| fpFwStart ||| fpBootLog := by decide +kernel

theorem fwTry_within (s : State) (l : List Nat) : Within fpFwTry s (fwTry s l) := by
  induction l generalizing s with
  | nil =>
    simp only [fwTry]
    exact Within.step (Within.refl _ _) (noImage_within ..) (by decide +kernel)
  | cons k l ih =>
    simp only [fwTry]
    split
    · exact Within.step (Within.refl _ _) (fwStart_within ..) (by decide +kernel)
    · refine Within.trans ?_ (ih _)
      exact Within.step (Within.refl _ _) (bootLog_within ..) (by decide +kernel)

/-- What `execFirmwareVerify` can change. -/
def fpExecFirmwareVerify : Nat :=
  0x1d0002010004400080008f800020000000000000000000000000000000000000000000000000000000000000000000000000000000800000000000a8000000000500000008000000000000000000000000000000000000000000000000000000000000000800004000000000000000000000000001808000010000000000007e0011a00400000000000000

theorem fpExecFirmwareVerify_eq : fpExecFirmwareVerify =
    fpBootLog ||| fpSlotDiscards ||| fpUpdBoot ||| fpFwTry := by decide +kernel

theorem execFirmwareVerify_within (fallback : Bool) (s : State) : Completes fpExecFirmwareVerify s (execFirmwareVerify fallback s) := by
  unfold execFirmwareVerify
  refine Completes.next ?_
  refine Within.ite ?_ ?_
  · extract_lets -lift +onlyGivenNames a1
    have h1 : Within fpExecFirmwareVerify s a1 := by
      unfold a1
      refine Within.step ?_ (slotDiscards_within ..) (by decide +kernel)
      refine Within.when ?_ fun a2 => ?_
      · exact Within.refl _ _
      · refine Within.step ?_ (bootLog_within ..) (by decide +kernel)
        exact Within.refl _ _
    clear_value a1
    refine Within.step ?_ (fwTry_within ..) (by decide +kernel)
    refine Within.step ?_ (updBoot_within ..) (by decide +kernel)
    exact h1
  · exact Within.refl _ _

/-- What `slotsShow` can change. -/
def fpSlotsShow : Nat :=
  0x7806000000000000000000

theorem fpSlotsShow_eq : fpSlotsShow =
    footprint [R.BOOT_STATUS_SLOT_B, R.BOOT_STATUS_SLOT_A, R.BOOT_SEQ_A_SEQ, R.BOOT_SEQ_B_SEQ, R.BOOT_GEN_AB_GEN_B,
  R.BOOT_GEN_AB_GEN_A] [] := by decide +kernel

theorem slotsShow_within (s : State) : Within fpSlotsShow s (slotsShow s) := by
  unfold slotsShow
  extract_lets -lift +onlyGivenNames a1
  clear_value a1
  extract_lets -lift +onlyGivenNames a2
  clear_value a2
  extract_lets -lift +onlyGivenNames a3
  have h3 : Within fpSlotsShow s a3 := by
    unfold a3
    refine Within.step ?_ (set_within _ _ _ (by decide +kernel)) (by decide +kernel)
    refine Within.step ?_ (set_within _ _ _ (by decide +kernel)) (by decide +kernel)
    exact Within.refl _ _
  clear_value a3
  refine Within.step ?_ (set_within _ _ _ (by decide +kernel)) (by decide +kernel)
  refine Within.step ?_ (set_within _ _ _ (by decide +kernel)) (by decide +kernel)
  refine Within.step ?_ (set_within _ _ _ (by decide +kernel)) (by decide +kernel)
  refine Within.step ?_ (set_within _ _ _ (by decide +kernel)) (by decide +kernel)
  exact h3

/-- What `execSlotSelect` can change. -/
def fpExecSlotSelect : Nat :=
  0xc0000010000400000008f80002000000000000000000000000000000000000000000000000000000000000000000000000000000080000000000000000000000500000000000000000000000000000000000000000000000000000000000000000000000000000000000000000000000000000001808000000000000000007e7817a00000000000000000

theorem fpExecSlotSelect_eq : fpExecSlotSelect =
    footprint [R.BOOT_STATUS_STATE] [] ||| fpSlotDiscards ||| fpUpdBoot ||| fpNoImage ||| fpSlotsShow := by decide +kernel

theorem execSlotSelect_within (s : State) : Completes fpExecSlotSelect s (execSlotSelect s) := by
  unfold execSlotSelect
  refine Completes.next ?_
  refine Within.ite ?_ ?_
  · refine Within.ite ?_ ?_
    · extract_lets -lift +onlyGivenNames a1
      have h1 : Within fpExecSlotSelect s a1 := by
        unfold a1
        refine Within.step ?_ (slotsShow_within ..) (by decide +kernel)
        refine Within.step ?_ (slotDiscards_within ..) (by decide +kernel)
        exact Within.refl _ _
      clear_value a1
      extract_lets -lift +onlyGivenNames a2
      have h2 : Within fpExecSlotSelect s a2 := by
        unfold a2
        refine Within.step ?_ (updBoot_within ..) (by decide +kernel)
        exact h1
      clear_value a2
      refine Within.ite ?_ ?_
      · refine Within.step ?_ (noImage_within ..) (by decide +kernel)
        exact h2
      · refine Within.step ?_ (set_within _ _ _ (by decide +kernel)) (by decide +kernel)
        exact h2
    · refine Within.ite ?_ ?_
      · refine Within.step ?_ (noImage_within ..) (by decide +kernel)
        exact Within.refl _ _
      · refine Within.step ?_ (set_within _ _ _ (by decide +kernel)) (by decide +kernel)
        exact Within.refl _ _
  · exact Within.refl _ _

/-- What `candRefuse` can change. -/
def fpCandRefuse : Nat :=
  0x40000000000000000008000000000000000000000000000000000000000000000000000000000000000000000000000000000000000000000000000000000000000000000000000000000000000000000000000000000000000000000000000000000000000000000000000000000000000000000000000000000000000007e0010000000000000000000

theorem fpCandRefuse_eq : fpCandRefuse =
    footprint [R.BOOT_STATUS_STATE] [] ||| fpBootLog ||| fpUpdBoot := by decide +kernel

theorem candRefuse_within (s : State) (code : Nat) : Within fpCandRefuse s (candRefuse s code) := by
  unfold candRefuse
  extract_lets -lift +onlyGivenNames a1
  clear_value a1
  extract_lets -lift +onlyGivenNames a2
  have h2 : Within fpCandRefuse s a2 := by
    unfold a2
    refine Within.step ?_ (bootLog_within ..) (by decide +kernel)
    exact Within.refl _ _
  clear_value a2
  refine Within.step ?_ (updBoot_within ..) (by decide +kernel)
  refine Within.step ?_ (set_within _ _ _ (by decide +kernel)) (by decide +kernel)
  exact h2

/-- What `execImageVerify` can change. -/
def fpExecImageVerify : Nat :=
  0x40000000000000000008000000000000000000000000000000000000000000000000000000000000000000000000000000000000000000000000000000000000000000000000000000000000000000000000000000000000000000000000000000000000000000000000000000000000000000000000000000000000000007e0010000000000000000000

theorem fpExecImageVerify_eq : fpExecImageVerify =
    footprint [R.BOOT_STATUS_STATE] [] ||| fpCandRefuse := by decide +kernel

theorem execImageVerify_within (s : State) : Completes fpExecImageVerify s (execImageVerify s) := by
  unfold execImageVerify
  refine Completes.next ?_
  refine Within.ite ?_ ?_
  · extract_lets -lift +onlyGivenNames a1
    clear_value a1
    split
    · refine Within.step ?_ (candRefuse_within ..) (by decide +kernel)
      exact Within.refl _ _
    · refine Within.step ?_ (set_within _ _ _ (by decide +kernel)) (by decide +kernel)
      exact Within.refl _ _
  · exact Within.refl _ _

/-- What `partyModes` can change. -/
def fpPartyModes : Nat :=
  0x13000000000000f8000200000000000000000000000000000000000000000000000000000000000000000000000000000008000000000000000000000000000000000000000000000000000000000000000000000000000000000000000000000000000000000000000000000002009e00180800000000000000000000000000000000000000000

theorem fpPartyModes_eq : fpPartyModes =
    fpPartyReset := by decide +kernel

theorem partyModes_within (before s : State) : Within fpPartyModes s (partyModes before s) := by
  unfold partyModes
  refine Within.forAll _ ?_ fun a1 _ => ?_
  · exact Within.refl _ _
  · refine Within.step ?_ (partyReset_within ..) (by decide +kernel)
    exact Within.refl _ _

/-- What `loadOver` can change. -/
def fpLoadOver : Nat :=
  0x47e7cf8137e67f0306310ffc2120000000000000000000000000000000000000000000000000000000000000000000000000000000ffffffffffffffffffffffffffffffffffffffffffffffffffffffffffffffffffffffffffffffffffffffffffffffffffffffffffffffffffffffffffffffffffffffffffffffffffffffffffffffffffffffffffff

theorem fpLoadOver_eq : fpLoadOver =
    fpStmResetAll ||| fpResEval ||| fpLoadAll ||| fpPartyModes := by decide +kernel

theorem loadOver_within (g : Nat → Nat) (before : State) : Within fpLoadOver before (loadOver g before) := by
  unfold loadOver
  extract_lets -lift +onlyGivenNames a1
  have h1 : Within fpLoadOver before a1 := by
    unfold a1
    refine Within.step ?_ (stmResetAll_within ..) (by decide +kernel)
    refine Within.step ?_ (partyModes_within ..) (by decide +kernel)
    refine Within.step ?_ (loadAll_within ..) (by decide +kernel)
    exact Within.refl _ _
  clear_value a1
  refine Within.forAll _ ?_ fun a2 _ => ?_
  · exact h1
  · refine Within.step ?_ (resEval_within ..) (by decide +kernel)
    exact Within.refl _ _

/-- What `biasSetup` can change. -/
def fpBiasSetup : Nat :=
  0x40000000000000000000000000000000000000000000000000000000000000000000000000000000000000000000000000000000000000000000040600000000000000000000000000000000000000000000000000000000000000000000000000000000000000000000000000000000000000000000000000000000000000000000000000

theorem fpBiasSetup_eq : fpBiasSetup =
    footprint [R.BIA_CODE_SPAN] [] ||| fpBiasCode := by decide +kernel

theorem biasSetup_within (s : State) (n : Nat) : Within fpBiasSetup s (biasSetup s n) := by
  unfold biasSetup
  refine Within.ite ?_ ?_
  · exact Within.refl _ _
  · refine Within.step ?_ (biasCode_within ..) (by decide +kernel)
    refine Within.step ?_ (set_within _ _ _ (by decide +kernel)) (by decide +kernel)
    exact Within.refl _ _

/-- What `execImageLoad` can change. -/
def fpExecImageLoad : Nat :=
  0x47e7cf8137e67f0306318ffc2120000000000000000000000000000000000000000000000000000000000000000000000000000000ffffffffffffffffffffffffffffffffffffffffffffffffffffffffffffffffffffffffffffffffffffffffffffffffffffffffffffffffffffffffffffffffffffffffffffffffffffffffffffffffffffffffffff

theorem fpExecImageLoad_eq : fpExecImageLoad =
    footprint [R.BOOT_STATUS_STATE] [] ||| fpLoadClear ||| fpLoadSecure ||| fpUpdBoot ||| fpCandRefuse ||| fpPartyModes
  ||| fpLoadOver ||| fpBiasSetup := by decide +kernel

theorem execImageLoad_within (s : State) : Completes fpExecImageLoad s (execImageLoad s) := by
  unfold execImageLoad
  refine Completes.next ?_
  refine Within.ite ?_ ?_
  · extract_lets -lift +onlyGivenNames a1
    clear_value a1
    split
    · refine Within.step ?_ (partyModes_within ..) (by decide +kernel)
      refine Within.step ?_ (loadClear_within ..) (by decide +kernel)
      refine Within.step ?_ (candRefuse_within ..) (by decide +kernel)
      exact Within.refl _ _
    · refine Within.step ?_ (updBoot_within ..) (by decide +kernel)
      refine Within.forAll _ ?_ fun a2 _ => ?_
      · refine Within.step ?_ (set_within _ _ _ (by decide +kernel)) (by decide +kernel)
        refine Within.step ?_ (loadOver_within ..) (by decide +kernel)
        exact Within.refl _ _
      · refine Within.step ?_ (biasSetup_within ..) (by decide +kernel)
        exact Within.refl _ _
  · exact Within.refl _ _

/-- What `biasConnect` can change. -/
def fpBiasConnect : Nat :=
  0x4000000000000000000000000000000000000000000000000000000000000000000000000000000000000000000000000000000000000000000007c700000000000000000000000000000000000000000000000000000000000000000000000000000000000000000000000000000000000000000000000000000000000000000000000000

theorem fpBiasConnect_eq : fpBiasConnect =
    footprint [R.BIA_CODE_SPAN, R.BIA_PARK_LATCH_SPAN, R.BIA_PARK_LATCH_CODE, R.BIA_STATUS_STATE, R.BIA_STATUS_CAUSE] []
  ||| fpSetBias ||| fpBiasGliding ||| fpBiasTarget ||| fpBiasCode := by decide +kernel

theorem biasConnect_within (s : State) (n : Nat) : Within fpBiasConnect s (biasConnect s n) := by
  unfold biasConnect
  extract_lets -lift +onlyGivenNames a1
  clear_value a1
  extract_lets -lift +onlyGivenNames a2
  clear_value a2
  extract_lets -lift +onlyGivenNames a3
  have h3 : Within fpBiasConnect s a3 := by
    unfold a3
    refine Within.step ?_ (set_within _ _ _ (by decide +kernel)) (by decide +kernel)
    refine Within.step ?_ (set_within _ _ _ (by decide +kernel)) (by decide +kernel)
    refine Within.step ?_ (set_within _ _ _ (by decide +kernel)) (by decide +kernel)
    exact Within.refl _ _
  clear_value a3
  extract_lets -lift +onlyGivenNames a4
  have h4 : Within fpBiasConnect s a4 := by
    unfold a4
    refine Within.step ?_ (biasTarget_within ..) (by decide +kernel)
    refine Within.step ?_ (biasCode_within ..) (by decide +kernel)
    exact h3
  clear_value a4
  extract_lets -lift +onlyGivenNames a5
  clear_value a5
  extract_lets -lift +onlyGivenNames a6
  have h6 : Within fpBiasConnect s a6 := by
    unfold a6
    refine Within.step ?_ (set_within _ _ _ (by decide +kernel)) (by decide +kernel)
    refine Within.step ?_ (set_within _ _ _ (by decide +kernel)) (by decide +kernel)
    exact h4
  clear_value a6
  refine Within.step ?_ (biasGliding_within ..) (by decide +kernel)
  refine Within.step ?_ (setBias_within ..) (by decide +kernel)
  exact h6

/-- What `enterCast` can change. -/
def fpEnterCast : Nat :=
  0xe00000580401b0478068f8000200000000000000000000000000000000000000000000000000000000000000000000000000000008d001c0300000000000000000000010000038000200040300000000000000000011e000001300000400000000000000000000000000903010000000000000021808310000008080020007f0019a00008000380000000

theorem fpEnterCast_eq : fpEnterCast =
    footprint [R.BOOT_STATUS_LAST_CODE, R.BOOT_STATUS_OP, R.BOOT_STATUS_STATE, R.BOOT_CAST_TIME_MICROSECONDS,
  R.HST_SESSION_RECOVERY] [] ||| fpGlobalEvent ||| fpBootLog ||| fpStmResetAll ||| fpClpServiceStart ||| fpResEval ||| fpRunEnter ||| fpLogWrite
  ||| fpImgRunning ||| fpUpdBoot := by decide +kernel

theorem enterCast_within (s : State) (k kind : Nat) : Within fpEnterCast s (enterCast s k kind) := by
  unfold enterCast
  extract_lets -lift +onlyGivenNames a1
  clear_value a1
  extract_lets -lift +onlyGivenNames a2
  have h2 : Within fpEnterCast s a2 := by
    unfold a2
    refine Within.step ?_ (imgRunning_within ..) (by decide +kernel)
    exact Within.refl _ _
  clear_value a2
  extract_lets -lift +onlyGivenNames a3
  have h3 : Within fpEnterCast s a3 := by
    unfold a3
    refine Within.step ?_ (set_within _ _ _ (by decide +kernel)) (by decide +kernel)
    refine Within.step ?_ (set_within _ _ _ (by decide +kernel)) (by decide +kernel)
    refine Within.step ?_ (set_within _ _ _ (by decide +kernel)) (by decide +kernel)
    exact h2
  clear_value a3
  extract_lets -lift +onlyGivenNames a4
  have h4 : Within fpEnterCast s a4 := by
    unfold a4
    refine Within.step ?_ (set_within _ _ _ (by decide +kernel)) (by decide +kernel)
    refine Within.step ?_ (set_within _ _ _ (by decide +kernel)) (by decide +kernel)
    exact h3
  clear_value a4
  extract_lets -lift +onlyGivenNames a5
  have h5 : Within fpEnterCast s a5 := by
    unfold a5
    refine Within.step ?_ (bootLog_within ..) (by decide +kernel)
    exact h4
  clear_value a5
  extract_lets -lift +onlyGivenNames a6
  have h6 : Within fpEnterCast s a6 := by
    unfold a6
    refine Within.step ?_ (bootLog_within ..) (by decide +kernel)
    refine Within.step ?_ (stmResetAll_within ..) (by decide +kernel)
    exact h5
  clear_value a6
  extract_lets -lift +onlyGivenNames a7
  have h7 : Within fpEnterCast s a7 := by
    unfold a7
    refine Within.forAll _ ?_ fun a8 _ => ?_
    · exact h6
    · refine Within.step ?_ (clpServiceStart_within ..) (by decide +kernel)
      exact Within.refl _ _
  clear_value a7
  extract_lets -lift +onlyGivenNames a8
  have h8 : Within fpEnterCast s a8 := by
    unfold a8
    refine Within.step ?_ (updBoot_within ..) (by decide +kernel)
    refine Within.step ?_ (runEnter_within ..) (by decide +kernel)
    exact h7
  clear_value a8
  extract_lets -lift +onlyGivenNames a9
  have h9 : Within fpEnterCast s a9 := by
    unfold a9
    refine Within.forAll _ ?_ fun a10 _ => ?_
    · exact h8
    · refine Within.step ?_ (resEval_within ..) (by decide +kernel)
      exact Within.refl _ _
  clear_value a9
  refine Within.step ?_ (logWrite_within ..) (by decide +kernel)
  refine Within.step ?_ (globalEvent_within ..) (by decide +kernel)
  exact h9

/-- What `execConnect` can change. -/
def fpExecConnect : Nat :=
  0xe00000580405b0478068f8000200000000000000000000000000000000000000000000000000000000000000000000000000000008d001c030000000000000007c700010000038000200040300000000000000000011e000001300000400000000000000000000000000903010000000000000021808310000008080020007f0019a00008000380000000

theorem fpExecConnect_eq : fpExecConnect =
    fpUpdBoot ||| fpBiasConnect ||| fpEnterCast := by decide +kernel

theorem execConnect_within (s : State) : Completes fpExecConnect s (execConnect s) := by
  unfold execConnect
  refine Completes.next ?_
  refine Within.ite ?_ ?_
  · extract_lets -lift +onlyGivenNames a1
    have h1 : Within fpExecConnect s a1 := by
      unfold a1
      refine Within.ite ?_ ?_
      · exact Within.refl _ _
      · refine Within.step ?_ (updBoot_within ..) (by decide +kernel)
        refine Within.forAll _ ?_ fun a2 _ => ?_
        · exact Within.refl _ _
        · refine Within.step ?_ (biasConnect_within ..) (by decide +kernel)
          exact Within.refl _ _
    clear_value a1
    refine Within.ite ?_ ?_
    · refine Within.step ?_ (enterCast_within ..) (by decide +kernel)
      exact h1
    · exact h1
  · exact Within.refl _ _

/-- What `opEnd` can change. -/
def fpOpEnd : Nat :=
  0xc0008013000000000008f800020000000000000000000000000000000000000000000000000000000000000000000000000000000c00004000000000000000000000000000000000000000000000000000000000000000000000000000000000000000000000000000000000000000000100f500180800000000000000000000001a00400000000000000

theorem fpOpEnd_eq : fpOpEnd =
    footprint [R.BOOT_STATUS_LAST_CODE, R.BOOT_STATUS_OP] [] ||| fpGlobalEvent ||| fpHostDoneB ||| fpLogWrite ||| fpUpdBoot := by decide +kernel

theorem opEnd_within (s : State) (code : Nat) : Within fpOpEnd s (opEnd s code) := by
  unfold opEnd
  extract_lets -lift +onlyGivenNames a1
  clear_value a1
  extract_lets -lift +onlyGivenNames a2
  have h2 : Within fpOpEnd s a2 := by
    unfold a2
    refine Within.step ?_ (updBoot_within ..) (by decide +kernel)
    refine Within.step ?_ (set_within _ _ _ (by decide +kernel)) (by decide +kernel)
    refine Within.step ?_ (set_within _ _ _ (by decide +kernel)) (by decide +kernel)
    exact Within.refl _ _
  clear_value a2
  extract_lets -lift +onlyGivenNames a3
  clear_value a3
  refine Within.step ?_ (logWrite_within ..) (by decide +kernel)
  refine Within.when ?_ fun a4 => ?_
  · refine Within.step ?_ (globalEvent_within ..) (by decide +kernel)
    exact h2
  · refine Within.step ?_ (hostDoneB_within ..) (by decide +kernel)
    exact Within.refl _ _

/-- What `stageOp` can change. -/
def fpStageOp : Nat :=
  0xc000000000000000000000000000000000000000000000000000000000000000000000000000000000000000000000000000000000000000000000000000000000000000000000000000000000000000000000000000000000000000000000000000000000000000000000000000000000000000000000000000000000000000001000000000000000000

theorem fpStageOp_eq : fpStageOp =
    footprint [R.BOOT_STATUS_OP] [] ||| fpSlotBegin ||| fpUpdBoot := by decide +kernel

theorem stageOp_within (s : State) (what : Nat) (host : Bool) (code : Nat) : Within fpStageOp s (stageOp s what host code) := by
  unfold stageOp
  extract_lets -lift +onlyGivenNames a1
  clear_value a1
  extract_lets -lift +onlyGivenNames a2
  clear_value a2
  extract_lets -lift +onlyGivenNames a3
  clear_value a3
  extract_lets -lift +onlyGivenNames a4
  clear_value a4
  extract_lets -lift +onlyGivenNames a5
  have h5 : Within fpStageOp s a5 := by
    unfold a5
    refine Within.step ?_ (updBoot_within ..) (by decide +kernel)
    refine Within.step ?_ (set_within _ _ _ (by decide +kernel)) (by decide +kernel)
    exact Within.refl _ _
  clear_value a5
  refine Within.ite ?_ ?_
  · refine Within.step ?_ (slotBegin_within ..) (by decide +kernel)
    exact h5
  · exact h5

/-- What `stageStart` can change. -/
def fpStageStart : Nat :=
  0xc000000000000000000000000000000000000000000000000000000000000000000000000000000000000000000000000000000000000000000000000000000000000000000000000000000000000000000000000000000000000000000000000000000000000000000000000000000000000000000000000000000000000000001000000000000000000

theorem fpStageStart_eq : fpStageStart =
    fpStageOp := by decide +kernel

theorem stageStart_within (s : State) (what : Nat) (host : Bool) : Within fpStageStart s (stageStart s what host) := by
  unfold stageStart
  refine Within.step ?_ (stageOp_within ..) (by decide +kernel)
  exact Within.refl _ _

/-- What `execStageComplete` can change. -/
def fpExecStageComplete : Nat :=
  0xc0008013000000000008f800020000000000000000000000000000000000000000000000000000000000000000000000000000000c0000400000000000000000000000000000000000000000000000000000000000000000000000000000000000000000000000000000000000000c000100f5001808000000000000000007e7807a00400000000000000

theorem fpExecStageComplete_eq : fpExecStageComplete =
    footprint [] [.fresh] ||| fpBootLog ||| fpEccCount ||| fpSlotCommit ||| fpSlotsShow ||| fpOpEnd := by decide +kernel

theorem execStageComplete_within (io : Fin 4) (s : State) : Completes fpExecStageComplete s (execStageComplete io s) := by
  unfold execStageComplete
  refine Completes.next ?_
  split
  · refine Within.ite ?_ ?_
    · exact Within.refl _ _
    · split
      extract_lets -lift +onlyGivenNames a1
      have h1 : Within fpExecStageComplete s a1 := by
        unfold a1
        refine Within.step ?_ (eccCount_within ..) (by decide +kernel)
        refine Within.ofSnd ?_ (by assumption)
        split
        · refine Within.step ?_ (free_within ..) (by decide +kernel)
          exact Within.refl _ _
        · dsimp only
          exact Within.refl _ _
      clear_value a1
      extract_lets -lift +onlyGivenNames a2
      clear_value a2
      extract_lets -lift +onlyGivenNames a3
      have h3 : Within fpExecStageComplete s a3 := by
        unfold a3
        refine Within.ite ?_ ?_
        · refine Within.step ?_ (bootLog_within ..) (by decide +kernel)
          refine Within.step ?_ (slotCommit_within ..) (by decide +kernel)
          exact h1
        · refine Within.step ?_ (bootLog_within ..) (by decide +kernel)
          exact h1
      clear_value a3
      refine Within.step ?_ (opEnd_within ..) (by decide +kernel)
      refine Within.step ?_ (slotsShow_within ..) (by decide +kernel)
      exact h3
  · exact Within.refl _ _

/-- What `flushLog` can change. -/
def fpFlushLog : Nat :=
  0x80000010000000000008f8000200000000000000000000000000000000000000000000000000000000000000000000000000000008000000000000000000000000000000000000000000000000000000000000000000000000000000000000000000000000000000000000000000000000000000180800000000000000000000000a00000000000000000

theorem fpFlushLog_eq : fpFlushLog =
    footprint [R.BOOT_STATUS_LAST_CODE] [] ||| fpGlobalEvent ||| fpLogWrite := by decide +kernel

theorem flushLog_within (s : State) : Within fpFlushLog s (flushLog s) := by
  unfold flushLog
  extract_lets -lift +onlyGivenNames a1
  clear_value a1
  refine Within.step ?_ (globalEvent_within ..) (by decide +kernel)
  refine Within.step ?_ (set_within _ _ _ (by decide +kernel)) (by decide +kernel)
  refine Within.step ?_ (logWrite_within ..) (by decide +kernel)
  exact Within.refl _ _

/-- What `bootCmd` can change. -/
def fpBootCmd : Nat :=
  0xc0008013000000000008f800020000000000000000000000000000000000000000000000000000000000000000000000000000000c00004000000000000000000000000000000000000000000000000000000000000000000000000000000000000000000000000000000000000000000100f500180800000000000000000000001e00400000000000000

theorem fpBootCmd_eq : fpBootCmd =
    footprint [R.BOOT_STATUS_CMD_REJECT, R.BOOT_STATUS_OP] [] ||| fpHostDoneB ||| fpUpdBoot ||| fpStageStart ||| fpFlushLog := by decide +kernel

theorem bootCmd_within (s : State) (op : Nat) (host : Bool) : Within fpBootCmd s (bootCmd s op host) := by
  unfold bootCmd
  refine Within.ite ?_ ?_
  · refine Within.when ?_ fun a1 => ?_
    · refine Within.step ?_ (set_within _ _ _ (by decide +kernel)) (by decide +kernel)
      exact Within.refl _ _
    · refine Within.step ?_ (hostDoneB_within ..) (by decide +kernel)
      exact Within.refl _ _
  · split
    · refine Within.step ?_ (stageStart_within ..) (by decide +kernel)
      refine Within.step ?_ (set_within _ _ _ (by decide +kernel)) (by decide +kernel)
      exact Within.refl _ _
    · refine Within.step ?_ (updBoot_within ..) (by decide +kernel)
      refine Within.step ?_ (set_within _ _ _ (by decide +kernel)) (by decide +kernel)
      refine Within.step ?_ (set_within _ _ _ (by decide +kernel)) (by decide +kernel)
      exact Within.refl _ _
    · refine Within.step ?_ (stageStart_within ..) (by decide +kernel)
      refine Within.step ?_ (set_within _ _ _ (by decide +kernel)) (by decide +kernel)
      exact Within.refl _ _
    · refine Within.step ?_ (flushLog_within ..) (by decide +kernel)
      refine Within.step ?_ (set_within _ _ _ (by decide +kernel)) (by decide +kernel)
      exact Within.refl _ _
    · exact Within.refl _ _

/-- What `recastRefuse` can change. -/
def fpRecastRefuse : Nat :=
  0xc0008013000000000008f800020000000000000000000000000000000000000000000000000000000000000000000000000000000c00004000000000000000000000000000000000000000000000000000000000000000000000000000000000000000000000000000000000000000000100f5001808000000000000000007e0001a00400000000000000

theorem fpRecastRefuse_eq : fpRecastRefuse =
    fpBootLog ||| fpOpEnd := by decide +kernel

theorem recastRefuse_within (s : State) (code k gen : Nat) : Within fpRecastRefuse s (recastRefuse s code k gen) := by
  unfold recastRefuse
  refine Within.step ?_ (opEnd_within ..) (by decide +kernel)
  refine Within.step ?_ (bootLog_within ..) (by decide +kernel)
  exact Within.refl _ _

/-- What `execRecastVerifyDone` can change. -/
def fpExecRecastVerifyDone : Nat :=
  0xc0008013000000000008f800020000000000000000000000000000000000000000000000000000000000000000000000000000000c00004000000000000000000000000000000000000000000000000000000000000000000000000000000000000000000000000000000000000000000100f5001808000000000000000007e0001a00400000000000000

theorem fpExecRecastVerifyDone_eq : fpExecRecastVerifyDone =
    fpHostDoneB ||| fpUpdBoot ||| fpRecastRefuse := by decide +kernel

theorem execRecastVerifyDone_within (s : State) : Completes fpExecRecastVerifyDone s (execRecastVerifyDone s) := by
  unfold execRecastVerifyDone
  refine Completes.next ?_
  split
  · refine Within.ite ?_ ?_
    · exact Within.refl _ _
    · split
      · refine Within.step ?_ (recastRefuse_within ..) (by decide +kernel)
        exact Within.refl _ _
      · extract_lets -lift +onlyGivenNames a1
        clear_value a1
        split
        · refine Within.step ?_ (recastRefuse_within ..) (by decide +kernel)
          exact Within.refl _ _
        · extract_lets -lift +onlyGivenNames a2
          have h2 : Within fpExecRecastVerifyDone s a2 := by
            unfold a2
            refine Within.step ?_ (updBoot_within ..) (by decide +kernel)
            exact Within.refl _ _
          clear_value a2
          refine Within.when ?_ fun a3 => ?_
          · exact h2
          · refine Within.step ?_ (hostDoneB_within ..) (by decide +kernel)
            exact Within.refl _ _
  · exact Within.refl _ _

/-- What `switchEnter` can change. -/
def fpSwitchEnter : Nat :=
  0x50008053150638c00061f9c0020000000000000000000000000000000000000000000000000000000000000000000000000000000cd0004010100000000000004010019100003801f80004000000000000000000000000000000000004000000000000014000000000000080000000000300ff00180800000000000000000000011000408000000000000

theorem fpSwitchEnter_eq : fpSwitchEnter =
    footprint [R.BOOT_STATUS_OP, R.BOOT_STATUS_STATE] [] ||| fpPartyReset ||| fpSetBias ||| fpBiasGliding ||| fpSetClp |||
  fpSetClpState ||| fpPntAbort ||| fpHoldEnter ||| fpUpdBoot := by decide +kernel

theorem switchEnter_within (s : State) : Within fpSwitchEnter s (switchEnter s) := by
  unfold switchEnter
  extract_lets -lift +onlyGivenNames a1
  have h1 : Within fpSwitchEnter s a1 := by
    unfold a1
    refine Within.step ?_ (holdEnter_within ..) (by decide +kernel)
    refine Within.step ?_ (pntAbort_within ..) (by decide +kernel)
    exact Within.refl _ _
  clear_value a1
  extract_lets -lift +onlyGivenNames a2
  have h2 : Within fpSwitchEnter s a2 := by
    unfold a2
    refine Within.forAll _ ?_ fun a3 _ => ?_
    · exact h1
    · refine Within.step ?_ (partyReset_within ..) (by decide +kernel)
      refine Within.step ?_ (setClpState_within ..) (by decide +kernel)
      refine Within.step ?_ (setClp_within ..) (by decide +kernel)
      exact Within.refl _ _
  clear_value a2
  extract_lets -lift +onlyGivenNames a3
  have h3 : Within fpSwitchEnter s a3 := by
    unfold a3
    refine Within.step ?_ (updBoot_within ..) (by decide +kernel)
    refine Within.step ?_ (set_within _ _ _ (by decide +kernel)) (by decide +kernel)
    refine Within.step ?_ (set_within _ _ _ (by decide +kernel)) (by decide +kernel)
    exact h2
  clear_value a3
  refine Within.forAll _ ?_ fun a4 _ => ?_
  · exact h3
  · refine Within.step ?_ (biasGliding_within ..) (by decide +kernel)
    refine Within.step ?_ (setBias_within ..) (by decide +kernel)
    exact Within.refl _ _

/-- What `switchMismatch` can change. -/
def fpSwitchMismatch : Nat :=
  0xc27800137a01c0306318fe80020000000000000000000000000000000000000000000000000000000000000000000000000000000800be000c0fe00000001e0203000000000000080000030000000000000000000000000000002000040000000000000000000000000000001000c00002009e001e080000000000000001ffe0011000203f80000000000

theorem fpSwitchMismatch_eq : fpSwitchMismatch =
    footprint [R.BOOT_STATUS_OP, R.BOOT_STATUS_STATE, R.HST_SESSION_RECOVERY] [] ||| fpBootLog ||| fpPowerState |||
  fpSlotSpoil ||| fpLoadClear ||| fpUpdBoot ||| fpPartyModes := by decide +kernel

theorem switchMismatch_within (s : State) (k : Nat) : Within fpSwitchMismatch s (switchMismatch s k) := by
  unfold switchMismatch
  extract_lets -lift +onlyGivenNames a1
  have h1 : Within fpSwitchMismatch s a1 := by
    unfold a1
    refine Within.step ?_ (partyModes_within ..) (by decide +kernel)
    refine Within.step ?_ (loadClear_within ..) (by decide +kernel)
    refine Within.step ?_ (slotSpoil_within ..) (by decide +kernel)
    refine Within.step ?_ (bootLog_within ..) (by decide +kernel)
    exact Within.refl _ _
  clear_value a1
  extract_lets -lift +onlyGivenNames a2
  have h2 : Within fpSwitchMismatch s a2 := by
    unfold a2
    refine Within.step ?_ (powerState_within ..) (by decide +kernel)
    refine Within.step ?_ (set_within _ _ _ (by decide +kernel)) (by decide +kernel)
    refine Within.step ?_ (set_within _ _ _ (by decide +kernel)) (by decide +kernel)
    exact h1
  clear_value a2
  refine Within.step ?_ (updBoot_within ..) (by decide +kernel)
  refine Within.step ?_ (set_within _ _ _ (by decide +kernel)) (by decide +kernel)
  exact h2

/-- What `execSwitchStart` can change. -/
def fpExecSwitchStart : Nat :=
  0x4fe7cf8537f67f8f06379ffc2120000000000000000000000000000000000000000000000000000000000000000000000000000000ffffffffffffffffffffffffffffffffffffffffffffffffffffffffffffffffffffffffffffffffffffffffffffffffffffffffffffffffffffffffffffffffffffffffffffffffffffffffffffffffffffffffffff

theorem fpExecSwitchStart_eq : fpExecSwitchStart =
    fpLoadOver ||| fpSwitchEnter ||| fpSwitchMismatch := by decide +kernel

theorem execSwitchStart_within (mismatch : Bool) (s : State) : Completes fpExecSwitchStart s (execSwitchStart mismatch s) := by
  unfold execSwitchStart
  refine Completes.next ?_
  split
  · refine Within.ite ?_ ?_
    · extract_lets -lift +onlyGivenNames a1
      have h1 : Within fpExecSwitchStart s a1 := by
        unfold a1
        refine Within.step ?_ (switchEnter_within ..) (by decide +kernel)
        exact Within.refl _ _
      clear_value a1
      refine Within.ite ?_ ?_
      · refine Within.step ?_ (switchMismatch_within ..) (by decide +kernel)
        exact h1
      · refine Within.step ?_ (loadOver_within ..) (by decide +kernel)
        exact h1
    · exact Within.refl _ _
  · exact Within.refl _ _

/-- What `execSwitchDone` can change. -/
def fpExecSwitchDone : Nat :=
  0xe00000580401b0478068f8000200000000000000000000000000000000000000000000000000000000000000000000000000000008d001c0300000000000000000000010000038000200040300000000000000000011e000001300000400000000000000000000000000903010000000000000021808310000008080020007f0019a00008000380000000

theorem fpExecSwitchDone_eq : fpExecSwitchDone =
    fpEnterCast := by decide +kernel

theorem execSwitchDone_within (s : State) : Completes fpExecSwitchDone s (execSwitchDone s) := by
  unfold execSwitchDone
  refine Completes.next ?_
  split
  · refine Within.ite ?_ ?_
    · refine Within.step ?_ (enterCast_within ..) (by decide +kernel)
      exact Within.refl _ _
    · exact Within.refl _ _
  · exact Within.refl _ _

/-- What `setKeyState` can change. -/
def fpSetKeyState : Nat := footprint [R.SEC_KEY_STATE_STATE] []

theorem setKeyState_within (s : State) (k v : Nat) : Within fpSetKeyState s (setKeyState s k v) := by
  unfold setKeyState
  refine Within.step ?_ (set_within _ _ _ (by decide +kernel)) (by decide +kernel)
  exact Within.refl _ _

/-- What `otpEnd` can change. -/
def fpOtpEnd : Nat :=
  0x8000000000000000000000000000000000000000000000000000000000000000000000000000000000000000000000000000000000000000000000000000000000000000000000000000000000000000000000000000000000000000000000000000000000000000000000000000000000000c00007e0000000000000000000000

theorem fpOtpEnd_eq : fpOtpEnd =
    footprint [R.SEC_OTP_STATUS_BUSY, R.SEC_OTP_STATUS_CODE] [] ||| fpBootLog := by decide +kernel

theorem otpEnd_within (s : State) (op k code : Nat) : Within fpOtpEnd s (otpEnd s op k code) := by
  unfold otpEnd
  extract_lets -lift +onlyGivenNames a1
  have h1 : Within fpOtpEnd s a1 := by
    unfold a1
    refine Within.step ?_ (set_within _ _ _ (by decide +kernel)) (by decide +kernel)
    refine Within.step ?_ (set_within _ _ _ (by decide +kernel)) (by decide +kernel)
    exact Within.refl _ _
  clear_value a1
  refine Within.ite ?_ ?_
  · refine Within.step ?_ (bootLog_within ..) (by decide +kernel)
    exact h1
  · exact h1

/-- What `otpGo` can change. -/
def fpOtpGo : Nat :=
  0x40000000000000000008000000000000000000000000000000000000000000000000000000000000000000000000000000000000000000000000000000000000000000000000000000000000000000000000000000000000000000000000000000000000000000000000000000000000000000000000000000000000c00007e0000000000000000000000

theorem fpOtpGo_eq : fpOtpGo =
    footprint [R.SEC_OTP_STATUS_BUSY] [] ||| fpUpdBoot ||| fpOtpEnd := by decide +kernel

theorem otpGo_within (s : State) : Within fpOtpGo s (otpGo s) := by
  unfold otpGo
  extract_lets -lift +onlyGivenNames a1
  clear_value a1
  extract_lets -lift +onlyGivenNames a2
  clear_value a2
  refine Within.ite ?_ ?_
  · exact Within.refl _ _
  · refine Within.ite ?_ ?_
    · refine Within.step ?_ (otpEnd_within ..) (by decide +kernel)
      exact Within.refl _ _
    · refine Within.step ?_ (updBoot_within ..) (by decide +kernel)
      refine Within.step ?_ (set_within _ _ _ (by decide +kernel)) (by decide +kernel)
      exact Within.refl _ _

/-- What `execOtpDone` can change. -/
def fpExecOtpDone : Nat :=
  0x40000000000000000008000000000000000000000000000000000000000000000000000000000000000000000000000000000000000000000000000000000000000000000000000000000000000000000000000000000000000000000000000000000000000000000000000000000000000000000000000000000000c40007e0000000000000000000000

theorem fpExecOtpDone_eq : fpExecOtpDone =
    fpUpdBoot ||| fpSetKeyState ||| fpOtpEnd := by decide +kernel

theorem execOtpDone_within (s : State) : Completes fpExecOtpDone s (execOtpDone s) := by
  unfold execOtpDone
  refine Completes.next ?_
  split
  · refine Within.ite ?_ ?_
    · exact Within.refl _ _
    · extract_lets -lift +onlyGivenNames a1
      clear_value a1
      extract_lets -lift +onlyGivenNames a2
      clear_value a2
      extract_lets -lift +onlyGivenNames a3
      have h3 : Within fpExecOtpDone s a3 := by
        unfold a3
        refine Within.step ?_ (updBoot_within ..) (by decide +kernel)
        exact Within.refl _ _
      clear_value a3
      extract_lets -lift +onlyGivenNames a4
      have h4 : Within fpExecOtpDone s a4 := by
        unfold a4
        refine Within.ite ?_ ?_
        · refine Within.ite ?_ ?_
          · refine Within.step ?_ (setKeyState_within ..) (by decide +kernel)
            refine Within.step ?_ (updBoot_within ..) (by decide +kernel)
            exact h3
          · refine Within.step ?_ (setKeyState_within ..) (by decide +kernel)
            exact h3
        · exact h3
      clear_value a4
      refine Within.step ?_ (otpEnd_within ..) (by decide +kernel)
      exact h4
  · exact Within.refl _ _

/-- What `loadNcode` can change. -/
def fpLoadNcode : Nat :=
  0x140002013000000080000f8000200000000000000000000000000000000000000000000000000000000000000000000000000000008000000000000000000000000000000000000000000000000000000000000000000000000000000000000000000000000000000000000000000000002009e00180800000000000000000000000182400000000000000

theorem fpLoadNcode_eq : fpLoadNcode =
    footprint [R.GLB_PLN_STATUS_STATE, R.GLB_PLN_CTRL_HOLD] [] ||| fpCoreReset ||| fpFwCopy ||| fpFwEntries := by decide +kernel

theorem loadNcode_within (s : State) (a n : Nat) : Within fpLoadNcode s (loadNcode s a n).2 := by
  unfold loadNcode
  extract_lets +onlyGivenNames a1
  clear_value a1
  split
  · dsimp only
    exact Within.refl _ _
  · split
    · split
      · dsimp only
        exact Within.refl _ _
      · extract_lets +onlyGivenNames a2
        clear_value a2
        extract_lets +onlyGivenNames a3
        have h3 : Within fpLoadNcode s a3 := by
          unfold a3
          refine Within.step ?_ (fwEntries_within ..) (by decide +kernel)
          refine Within.forAll _ ?_ fun a4 _ => ?_
          · exact Within.refl _ _
          · refine Within.step ?_ (fwCopy_within ..) (by decide +kernel)
            exact Within.refl _ _
        clear_value a3
        dsimp only
        refine Within.forAll _ ?_ fun a4 _ => ?_
        · exact h3
        · refine Within.step ?_ (set_within _ _ _ (by decide +kernel)) (by decide +kernel)
          refine Within.step ?_ (coreReset_within ..) (by decide +kernel)
          refine Within.step ?_ (set_within _ _ _ (by decide +kernel)) (by decide +kernel)
          exact Within.refl _ _
    · split
      · dsimp only
        exact Within.refl _ _
      · extract_lets +onlyGivenNames a2
        clear_value a2
        extract_lets +onlyGivenNames a3
        have h3 : Within fpLoadNcode s a3 := by
          unfold a3
          refine Within.step ?_ (fwEntries_within ..) (by decide +kernel)
          refine Within.forAll _ ?_ fun a4 _ => ?_
          · exact Within.refl _ _
          · refine Within.step ?_ (fwCopy_within ..) (by decide +kernel)
            exact Within.refl _ _
        clear_value a3
        dsimp only
        refine Within.forAll _ ?_ fun a4 _ => ?_
        · exact h3
        · refine Within.step ?_ (set_within _ _ _ (by decide +kernel)) (by decide +kernel)
          refine Within.step ?_ (coreReset_within ..) (by decide +kernel)
          refine Within.step ?_ (set_within _ _ _ (by decide +kernel)) (by decide +kernel)
          exact Within.refl _ _

/-- What `bootExtra` can change. -/
def fpBootExtra : Nat :=
  0xc0008013000000000008f800020000000000000000000000000000000000000000000000000000000000000000000000000000000c00004000000000000000000000000000000000000000000000000000000000000000000000000000000000000000000000000000000000000000000100f5001808000000000000c00007e0001e00400000000000000

theorem fpBootExtra_eq : fpBootExtra =
    fpBootCmd ||| fpOtpGo := by decide +kernel

theorem bootExtra_within (base : Nat) (_m : Master) (_i v : Nat) (s : State) : Within fpBootExtra s (bootExtra base _m _i v s) := by
  unfold bootExtra
  split
  · refine Within.step ?_ (bootCmd_within ..) (by decide +kernel)
    exact Within.refl _ _
  · refine Within.ite ?_ ?_
    · refine Within.step ?_ (otpGo_within ..) (by decide +kernel)
      exact Within.refl _ _
    · exact Within.refl _ _
  · exact Within.refl _ _

/-- What `regW` can change. -/
def fpRegW : Nat :=
  0x4fc04f8133e67f0300008fc02120000000000000000000000000000000000000000000000000000000000000000000000000000000ffffffffffffffffffffffffffffffffffffffffffffffffffffffffffffffffffffffffffffffffffffffffffffffffffffffffffffffffffffffffffffffffffffffffffffffffffffffffffffffffffffffffffff

theorem fpRegW_eq : fpRegW =
    fpRegWrite1 ||| fpBootExtra := by decide +kernel

theorem regW_within (s : State) (m : Master) (off width v : Nat) : Within fpRegW s (regW s m off width v) := by
  exact regWriteWith_within s m off width v (by decide +kernel) fun _ _ _ _ t => (bootExtra_within ..).mono (by decide +kernel)

end Sys2Proof.Machine
end

