-- ==== Sys2Proof/Laws/Frame.lean ====
section
/-! SUPPORT. What a canonical state's registers can hold, and how a frame is built up: one field written, or one operation of a known
footprint. -/

set_option Elab.async false

namespace Sys2Proof.Machine

theorem sget_mem {α : Type} (d : α) (i : Nat) : ∀ m : SMap α, sget d m i = d ∨ (i, sget d m i) ∈ m
  | [] => .inl rfl
  | (k, w) :: m => by
    by_cases h : i = k
    · subst h; simp [sget]
    · rcases sget_mem d i m with e | e
      · exact .inl (by simp [sget, h, e])
      · exact .inr (by simp only [sget, if_neg h]; exact List.mem_cons_of_mem _ e)

/-- Every reset value fits its field. -/
theorem reset_lt {f : Fld} (hf : f ∈ allRegs.flatMap (·.flds)) (i : Nat) : fldReset f i < 2 ^ f.width := by
  have h : (allRegs.flatMap (·.flds)).all (fun f => decide (f.reset < 2 ^ f.width) && f.ovr.all fun p => decide (p.2 < 2 ^ f.width)) = true := by
    decide +kernel
  have := List.all_eq_true.1 h f hf
  simp only [Bool.and_eq_true, decide_eq_true_eq, List.all_eq_true] at this
  unfold fldReset
  split
  · exact this.1
  · rcases sget_mem f.reset i f.ovr with e | e
    · rw [e]; exact this.1
    · exact this.2 _ e

/-- Every register field of a canonical state holds a value of its width. -/
theorem get_lt {s : State} (hs : Canon s) {f : Fld} (hf : f ∈ allRegs.flatMap (·.flds)) (i : Nat) : s.get f i < 2 ^ f.width := by
  unfold State.get
  rcases sget_mem (fldReset f i) (fldKey f i) s.regs with e | e
  · rw [e]; exact reset_lt hf i
  · have := hs.1.2 _ e
    simp only [fldKey_div, (fits_of_mem hf).width] at this
    exact this

/-- The fields that a list of places names in every instance. -/
def wholeFlds (rs : List Place) : List Fld := rs.filterMap fun r => match r.2 with
  | none => some r.1
  | some _ => none

theorem mem_wholeFlds {rs : List Place} {f : Fld} : f ∈ wholeFlds rs ↔ (f, none) ∈ rs := by
  unfold wholeFlds
  rw [List.mem_filterMap]
  constructor
  · rintro ⟨⟨g, o⟩, hr, h⟩
    cases o with
    | none => cases h; exact hr
    | some j => cases h
  · exact fun h => ⟨_, h, rfl⟩

theorem wholeFlds_nil : wholeFlds [] = [] := rfl

theorem wholeFlds_only (f : Fld) (i : Nat) (rs : List Place) : wholeFlds (only f i :: rs) = wholeFlds rs := rfl

theorem wholeFlds_every (f : Fld) (rs : List Place) : wholeFlds (every f :: rs) = f :: wholeFlds rs := rfl

theorem wholeFlds_append (rs rs' : List Place) : wholeFlds (rs ++ rs') = wholeFlds rs ++ wholeFlds rs' := by simp [wholeFlds]

/-- The footprint that a frame allows whole: its fields that are named in every instance, and its parts. -/
def fpFrame (rs : List Place) (ps : List Part) : Nat := footprint (wholeFlds rs) ps

theorem testBit_foldr_or {α : Type} (g : α → Nat) (n : Nat) (z : Nat) (hz : z.testBit n = false) : ∀ l : List α,
    (l.foldr (fun a k => 2 ^ g a ||| k) z).testBit n = true → ∃ a ∈ l, g a = n
  | [], h => by rw [List.foldr_nil, hz] at h; cases h
  | a :: l, h => by
    rw [List.foldr_cons, Nat.testBit_or, Bool.or_eq_true] at h
    rcases h with h | h
    · exact ⟨a, List.mem_cons_self, by
        by_contra hn
        rw [Nat.testBit_two_pow_of_ne hn] at h; cases h⟩
    · obtain ⟨b, hb, e⟩ := testBit_foldr_or g n z hz l h
      exact ⟨b, List.mem_cons_of_mem _ hb, e⟩

theorem testBit_footprint {fs : List Fld} {ps : List Part} {n : Nat} (h : (footprint fs ps).testBit n = true) :
    (∃ f ∈ fs, f.id = n) ∨ ∃ p ∈ ps, p.bit = n := by
  unfold footprint at h
  by_cases hp : (fs.foldr (fun (f : Fld) k => 2 ^ f.id ||| k) 0).testBit n = true
  · exact .inl (testBit_foldr_or (fun f : Fld => f.id) n 0 (Nat.zero_testBit n) _ hp)
  · exact .inr (testBit_foldr_or Part.bit n _ (by simpa using hp) ps h)

/-- A field whose bit stands in the footprint of a frame is named by it, in every instance. -/
theorem named_of_testBit {rs : List Place} {ps : List Part} {f : Fld} (i : Nat) (hn : f.id < fldCount)
    (h : (fpFrame rs ps).testBit f.id = true) : named rs f i = true := by
  rcases testBit_footprint h with ⟨g, hg, e⟩ | ⟨p, -, e⟩
  · exact List.any_eq_true.2 ⟨_, mem_wholeFlds.1 hg, by simp [e]⟩
  · unfold Part.bit at e
    unfold fldCount at hn
    omega

theorem Part.bit_injective {p q : Part} (h : p.bit = q.bit) : p = q := by
  have e : p.ctorIdx = q.ctorIdx := by unfold Part.bit at h; omega
  have hp : ∀ p : Part, Part.ofNat p.ctorIdx = p := fun p => by cases p <;> rfl
  rw [← hp p, ← hp q, e]

theorem mem_of_testBit {rs : List Place} {ps : List Part} {p : Part} (hr : ∀ f ∈ wholeFlds rs, f.id < fldCount)
    (h : (fpFrame rs ps).testBit p.bit = true) : p ∈ ps := by
  rcases testBit_footprint h with ⟨g, hg, e⟩ | ⟨q, hq, e⟩
  · have := hr g hg
    unfold Part.bit at e
    unfold fldCount at this
    omega
  · exact Part.bit_injective e ▸ hq

theorem Frame.refl (rs : List Place) (ps : List Part) (s : State) : Frame rs ps s s := ⟨fun _ _ _ _ => rfl, fun p _ => p.same_refl s⟩

theorem Frame.trans {rs : List Place} {ps : List Part} {s t u : State} (h : Frame rs ps s t) (h' : Frame rs ps t u) : Frame rs ps s u :=
  ⟨fun f i hn hf => (h'.1 f i hn hf).trans (h.1 f i hn hf), fun p hp => Part.same_trans (h.2 p hp) (h'.2 p hp)⟩

/-- One more operation, whose footprint the frame allows. -/
theorem Frame.step {rs : List Place} {ps : List Part} {K : Nat} {s t u : State} (h : Frame rs ps s t) (w : Within K t u)
    (hk : K &&& fpFrame rs ps = K) (hr : ∀ f ∈ wholeFlds rs, f.id < fldCount) : Frame rs ps s u := by
  refine h.trans ⟨fun f i hn hf => w.regs f i hn ?_, fun p hp => w.parts p ?_⟩
  · by_contra hc
    have : (fpFrame rs ps).testBit f.id = true := by
      have := congrArg (·.testBit f.id) hk
      simp only [Nat.testBit_and, Bool.eq_false_iff.not, not_not] at this hc
      rw [hc] at this; simpa using this
    rw [named_of_testBit i hn this] at hf; cases hf
  · by_contra hc
    have : (fpFrame rs ps).testBit p.bit = true := by
      have := congrArg (·.testBit p.bit) hk
      simp only [Nat.testBit_and, Bool.eq_false_iff.not, not_not] at this hc
      rw [hc] at this; simpa using this
    exact hp (mem_of_testBit hr this)

/-- One more register field written, in an instance the frame names. -/
theorem Frame.put {rs : List Place} {ps : List Part} {s t : State} (h : Frame rs ps s t) {f : Fld} {i : Nat} (v : Nat)
    (hm : named rs f i = true) : Frame rs ps s (t.put f v i) := by
  refine ⟨fun g j hn hg => ?_, fun p hp => Part.same_trans (h.2 p hp) (by cases p <;> rfl)⟩
  refine Eq.trans ?_ (h.1 g j hn hg)
  by_cases he : g.id = f.id
  · refine t.get_put_ne_index v fun hi => ?_
    obtain ⟨r, hr, h'⟩ := List.any_eq_true.1 hm
    have : named rs g j = true := List.any_eq_true.2 ⟨r, hr, by rw [he, hi]; exact h'⟩
    rw [this] at hg; cases hg
  · exact t.get_put_ne v j i he

theorem Frame.set {rs : List Place} {ps : List Part} {s t : State} (h : Frame rs ps s t) {f : Fld} {i : Nat} (v : Nat)
    (hm : named rs f i = true) : Frame rs ps s (t.set f v i) :=
  ⟨(h.put v hm).1, fun p hp => Part.same_trans ((h.put (f := f) (i := i) v hm).2 p hp) (by cases p <;> rfl)⟩

theorem Frame.inc {rs : List Place} {ps : List Part} {s t : State} (h : Frame rs ps s t) {f : Fld} {i : Nat} (n : Nat)
    (hm : named rs f i = true) : Frame rs ps s (t.inc f i n) := h.set _ hm

theorem Frame.clr {rs : List Place} {ps : List Part} {s t : State} (h : Frame rs ps s t) {f : Fld} {i : Nat}
    (hm : named rs f i = true) : Frame rs ps s (t.clr f i) := h.set _ hm

theorem Frame.orf {rs : List Place} {ps : List Part} {s t : State} (h : Frame rs ps s t) {f : Fld} {i : Nat} (m : Nat)
    (hm : named rs f i = true) : Frame rs ps s (t.orf f m i) :=
  ⟨(h.put (t.get f i ||| m) hm).1, fun p hp => Part.same_trans ((h.put (f := f) (i := i) (t.get f i ||| m) hm).2 p hp) (by cases p <;> rfl)⟩

/-- The same for each element of a list. -/
theorem Frame.forAll {α : Type} {rs : List Place} {ps : List Part} {s t : State} {f : State → α → State} (l : List α) (h : Frame rs ps s t)
    (hf : ∀ t, ∀ a ∈ l, Frame rs ps t (f t a)) : Frame rs ps s (forAll l t f) := by
  unfold Sys2Proof.Machine.forAll
  induction l generalizing t with
  | nil => exact h
  | cons a l ih => exact ih (h.trans (hf t a List.mem_cons_self)) fun t b hb => hf t b (List.mem_cons_of_mem _ hb)

end Sys2Proof.Machine
end

