-- ==== Sys2Proof/Laws/HostCmd.lean ====
section
/-! SUPPORT. What each operation of Sys2Proof/Machine/HostCmd.lean can change. -/

set_option Elab.async false

namespace Sys2Proof.Machine

/-- What `retryHint` can change. -/
def fpRetryHint : Nat := footprint [] [.fresh]

theorem retryHint_within (s : State) : Within fpRetryHint s (retryHint s).2 := by
  unfold retryHint
  split
  dsimp only
  refine Within.ofSnd ?_ (by assumption)
  refine Within.step ?_ (free_within ..) (by decide +kernel)
  exact Within.refl _ _

/-- What `hello` can change. -/
def fpHello : Nat :=
  0x4013000000000000f800020000000000000000000000000000000000000000000000000000000000000000000000000000000c00004000000000000000000000000000000000000000000000000000000000000000000000000000000000000000000000000000000000780000000100f500180800000000000000000000000000400000000000000

theorem fpHello_eq : fpHello =
    footprint [R.HST_SESSION_OPEN, R.HST_SESSION_RECOVERY, R.HST_SESSION_MAJOR, R.HST_SESSION_MINOR] [] ||| fpHostDoneA := by decide +kernel

theorem hello_within (s : State) (a : Nat) : Within fpHello s (hello s a) := by
  unfold hello
  extract_lets -lift +onlyGivenNames a1
  clear_value a1
  extract_lets -lift +onlyGivenNames a2
  clear_value a2
  refine Within.ite ?_ ?_
  · extract_lets -lift +onlyGivenNames a3
    clear_value a3
    extract_lets -lift +onlyGivenNames a4
    clear_value a4
    extract_lets -lift +onlyGivenNames a5
    have h5 : Within fpHello s a5 := by
      unfold a5
      refine Within.step ?_ (set_within _ _ _ (by decide +kernel)) (by decide +kernel)
      refine Within.step ?_ (set_within _ _ _ (by decide +kernel)) (by decide +kernel)
      refine Within.step ?_ (set_within _ _ _ (by decide +kernel)) (by decide +kernel)
      exact Within.refl _ _
    clear_value a5
    refine Within.step ?_ (hostDoneA_within ..) (by decide +kernel)
    refine Within.step ?_ (set_within _ _ _ (by decide +kernel)) (by decide +kernel)
    exact h5
  · refine Within.step ?_ (hostDoneA_within ..) (by decide +kernel)
    exact Within.refl _ _

/-- What `getStatus` can change. -/
def fpGetStatus : Nat :=
  0x4013000000000000f800020000000000000000000000000000000000000000000000000000000000000000000000000000000c00004000000000000000000000000000000000000000000000000000000000000000000000000000000000000000000000000000000000000000000100f500180800000000000000000000000000400000000000000

theorem fpGetStatus_eq : fpGetStatus =
    fpHostDoneA := by decide +kernel

theorem getStatus_within (s : State) : Within fpGetStatus s (getStatus s) := by
  unfold getStatus
  refine Within.step ?_ (hostDoneA_within ..) (by decide +kernel)
  exact Within.refl _ _

/-- What `setRunstate` can change. -/
def fpSetRunstate : Nat :=
  0x7000c013000600000000f800020000000000000000000000000000000000000000000000000000000000000000000000000000000c00004000000000000000000000000100000000000000000000000000000000000000000000000007000000000000000000000000000000100000000100f500180800000000000000000000011000400000000000000

theorem fpSetRunstate_eq : fpSetRunstate =
    fpPwrRequest := by decide +kernel

theorem setRunstate_within (s : State) (a : Nat) : Within fpSetRunstate s (setRunstate s a) := by
  unfold setRunstate
  refine Within.step ?_ (pwrRequest_within ..) (by decide +kernel)
  exact Within.refl _ _

/-- What `telemetry` can change. -/
def fpTelemetry : Nat :=
  0x4013000000000000f800020000000000000000000000000000000000000000000000000000000000000000000000000000000c00004000000000000000000000000000000000000000000000000000000000000000000000000000000000000000000000000000000000000000000100f500180800000000000000000000000000400000000000000

theorem fpTelemetry_eq : fpTelemetry =
    footprint [] [.fresh] ||| fpHostDoneA := by decide +kernel

theorem telemetry_within (s : State) : Within fpTelemetry s (telemetry s) := by
  unfold telemetry
  have h : Within fpTelemetry s s.free.2 := (free_within s).mono (by decide +kernel)
  dsimp only
  refine Within.step ?_ (hostDoneA_within ..) (by decide +kernel)
  exact Within.foldlSnd _ h fun p _ => (free_within p.2).mono (by decide +kernel)

/-- What `recoveryCast` can change. -/
def fpRecoveryCast : Nat :=
  0x57ffdfffffff7fff7fff9fffffa8000000000000000000000000000000000000000000000000000000000000000000000000000000fffffffffffffffffffffffd39fffffffffffffffffffffffffffffffffffffffffffffffffffff0700fffffffffffffffffffffffffffffff8fffffffffffffffffffffffffffffbfffff7fffffffffffffffffffff

theorem fpRecoveryCast_eq : fpRecoveryCast =
    fpHostDoneA ||| fpBiasOpen ||| fpModuleReset := by decide +kernel

theorem recoveryCast_within (s : State) : Within fpRecoveryCast s (recoveryCast s) := by
  unfold recoveryCast
  refine Within.step ?_ (moduleReset_within ..) (by decide +kernel)
  refine Within.step ?_ (biasOpen_within ..) (by decide +kernel)
  refine Within.step ?_ (hostDoneA_within ..) (by decide +kernel)
  exact Within.refl _ _

/-- What `stageHost` can change. -/
def fpStageHost : Nat :=
  0xc0008013000000000008f800020000000000000000000000000000000000000000000000000000000000000000000000000000000c00004000000000000000000000000000000000000000000000000000000000000000000000000000000000000000000000000000000000000000000100f5001808000000000000000000001c1e00400000000000000

theorem fpStageHost_eq : fpStageHost =
    footprint [R.BOOT_STATUS_CMD_REJECT, R.BOOT_STAGE_ADDR_LO_ADDR, R.BOOT_STAGE_ADDR_HI_ADDR, R.BOOT_STAGE_LEN_UNITS] []
  ||| fpStageOp ||| fpBootCmd := by decide +kernel

theorem stageHost_within (s : State) (what a n : Nat) : Within fpStageHost s (stageHost s what a n) := by
  unfold stageHost
  extract_lets -lift +onlyGivenNames a1
  have h1 : Within fpStageHost s a1 := by
    unfold a1
    refine Within.step ?_ (set_within _ _ _ (by decide +kernel)) (by decide +kernel)
    refine Within.step ?_ (set_within _ _ _ (by decide +kernel)) (by decide +kernel)
    exact Within.refl _ _
  clear_value a1
  extract_lets -lift +onlyGivenNames a2
  have h2 : Within fpStageHost s a2 := by
    unfold a2
    refine Within.step ?_ (set_within _ _ _ (by decide +kernel)) (by decide +kernel)
    exact h1
  clear_value a2
  refine Within.ite ?_ ?_
  · refine Within.step ?_ (stageOp_within ..) (by decide +kernel)
    refine Within.step ?_ (set_within _ _ _ (by decide +kernel)) (by decide +kernel)
    exact h2
  · refine Within.step ?_ (bootCmd_within ..) (by decide +kernel)
    exact h2

/-- What `recast` can change. -/
def fpRecast : Nat :=
  0xc0008013000000000008f800020000000000000000000000000000000000000000000000000000000000000000000000000000000c00004000000000000000000000000000000000000000000000000000000000000000000000000000000000000000000000000000000000000000000100f500180800000000000000000000601e00400000000000000

theorem fpRecast_eq : fpRecast =
    footprint [R.BOOT_SWITCH_LO_TIME_LO, R.BOOT_SWITCH_HI_TIME_HI] [] ||| fpBootCmd := by decide +kernel

theorem recast_within (s : State) (lo hi : Nat) : Within fpRecast s (recast s lo hi) := by
  unfold recast
  extract_lets -lift +onlyGivenNames a1
  clear_value a1
  refine Within.step ?_ (bootCmd_within ..) (by decide +kernel)
  refine Within.step ?_ (set_within _ _ _ (by decide +kernel)) (by decide +kernel)
  refine Within.step ?_ (set_within _ _ _ (by decide +kernel)) (by decide +kernel)
  exact Within.refl _ _

/-- What `doneWith` can change. -/
def fpDoneWith : Nat :=
  0x8013000000000000f800020000000000000000000000000000000000000000000000000000000000000000000000000000000c00004000000000000000000000000000000000000000000000000000000000000000000000000000000000000000000000000000000000000000000100f500180800000000000000000000000000400000000000000

theorem fpDoneWith_eq : fpDoneWith =
    fpHostDoneB := by decide +kernel

theorem doneWith_within (p : Nat × State) : Within fpDoneWith p.2 (doneWith p) := (hostDoneB_within p.2 _ _).mono (by decide +kernel)

/-- What `classBRun` can change. -/
def fpClassBRun : Nat :=
  0x1f800e013000600080008f800020000000000000000000000000000000000000000000000000000000000000000000000000000000c000040000000000000000000000001000000000000000000000000000000000000000000000000070040000300007f4000000000000000100000000300ff021808000000000000000000007d1f82400000000000000

theorem fpClassBRun_eq : fpClassBRun =
    footprint [] [.hostB] ||| fpPntStart ||| fpPwrRequest ||| fpCalCommit ||| fpLoadNcode ||| fpStageHost ||| fpRecast |||
  fpDoneWith := by decide +kernel

theorem classBRun_within (s : State) (c : HostCmd) : Within fpClassBRun s (classBRun s c) := by
  unfold classBRun
  extract_lets -lift +onlyGivenNames a1
  clear_value a1
  extract_lets -lift +onlyGivenNames a2
  clear_value a2
  extract_lets -lift +onlyGivenNames a3
  have h3 : Within fpClassBRun s a3 := by
    unfold a3
    refine Within.step ?_ (hostB_within _ _) (by decide +kernel)
    exact Within.refl _ _
  clear_value a3
  split
  · refine Within.step ?_ (stageHost_within ..) (by decide +kernel)
    exact h3
  · refine Within.step ?_ (stageHost_within ..) (by decide +kernel)
    exact h3
  · refine Within.step ?_ (recast_within ..) (by decide +kernel)
    exact h3
  · refine Within.step ?_ (doneWith_within ..) (by decide +kernel)
    refine Within.step ?_ (calCommit_within ..) (by decide +kernel)
    exact h3
  · refine Within.step ?_ (pntStart_within ..) (by decide +kernel)
    exact h3
  · refine Within.step ?_ (pwrRequest_within ..) (by decide +kernel)
    exact h3
  · refine Within.step ?_ (doneWith_within ..) (by decide +kernel)
    refine Within.step ?_ (loadNcode_within ..) (by decide +kernel)
    exact h3

/-- What `classBArrive` can change. -/
def fpClassBArrive : Nat :=
  0x1f801e013000600080008f800020000000000000000000000000000000000000000000000000000000000000000000000000000000c000040000000000000000000000001000000000000000000000000000000000000000000000000070040000300007f4000000000000000100000000300ff021808000000000000000000007d1f82400000000000000

theorem fpClassBArrive_eq : fpClassBArrive =
    footprint [] [.hostBQ] ||| fpHostRespond ||| fpClassBRun := by decide +kernel

theorem classBArrive_within (s : State) (c : HostCmd) : Within fpClassBArrive s (classBArrive s c) := by
  unfold classBArrive
  refine Within.ite ?_ ?_
  · refine Within.step ?_ (hostRespond_within ..) (by decide +kernel)
    exact Within.refl _ _
  · extract_lets -lift +onlyGivenNames a1
    have h1 : Within fpClassBArrive s a1 := by
      unfold a1
      refine Within.step ?_ (hostRespond_within ..) (by decide +kernel)
      exact Within.refl _ _
    clear_value a1
    refine Within.ite ?_ ?_
    · refine Within.step ?_ (classBRun_within ..) (by decide +kernel)
      exact h1
    · refine Within.step ?_ (hostBQ_within _ _) (by decide +kernel)
      exact h1

/-- What `classARun` can change. -/
def fpClassARun : Nat :=
  0x57ffdfffffff7fff7fff9fffffa8000000000000000000000000000000000000000000000000000000000000000000000000000000fffffffffffffffffffffffd39fffffffffffffffffffffffffffffffffffffffffffffffffffff0700fffffffffffffffffffffffffffffff8fffffffffffffffffffffffffffffbfffff7fffffffffffffffffffff

theorem fpClassARun_eq : fpClassARun =
    footprint [] [.hostA] ||| fpHello ||| fpGetStatus ||| fpSetRunstate ||| fpTelemetry ||| fpRecoveryCast := by decide +kernel

theorem classARun_within (s : State) (c : HostCmd) : Within fpClassARun s (classARun s c) := by
  unfold classARun
  extract_lets -lift +onlyGivenNames a1
  have h1 : Within fpClassARun s a1 := by
    unfold a1
    refine Within.step ?_ (hostA_within _ _) (by decide +kernel)
    exact Within.refl _ _
  clear_value a1
  split
  · refine Within.step ?_ (hello_within ..) (by decide +kernel)
    exact h1
  · refine Within.step ?_ (getStatus_within ..) (by decide +kernel)
    exact h1
  · refine Within.step ?_ (setRunstate_within ..) (by decide +kernel)
    exact h1
  · refine Within.step ?_ (telemetry_within ..) (by decide +kernel)
    exact h1
  · refine Within.step ?_ (recoveryCast_within ..) (by decide +kernel)
    exact h1

/-- What `hostServe` can change. -/
def fpHostServe : Nat :=
  0x5fffdfffffff7fffffff9fffffa8000000000000000000000000000000000000000000000000000000000000000000000000000000fffffffffffffffffffffffd39fffffffffffffffffffffffffffffffffffffffffffffffffffff0700fffffffffffffffffffffffffffffff8fffffffffffffffffffffffffffffbfffff7fffffffffffffffffffff

theorem fpHostServe_eq : fpHostServe =
    fpHostRespond ||| fpRetryHint ||| fpClassBArrive ||| fpClassARun := by decide +kernel

theorem hostServe_within (s : State) (c : HostCmd) : Within fpHostServe s (hostServe s c) := by
  unfold hostServe
  extract_lets -lift +onlyGivenNames a1
  refine Within.ite ?_ ?_
  · exact Within.refl _ _
  · refine Within.ite ?_ ?_
    · unfold a1
      beta_reduce
      refine Within.step ?_ (hostRespond_within ..) (by decide +kernel)
      exact Within.refl _ _
    · refine Within.ite ?_ ?_
      · unfold a1
        beta_reduce
        refine Within.step ?_ (hostRespond_within ..) (by decide +kernel)
        exact Within.refl _ _
      · split
        · unfold a1
          beta_reduce
          refine Within.step ?_ (hostRespond_within ..) (by decide +kernel)
          exact Within.refl _ _
        · refine Within.ite ?_ ?_
          · unfold a1
            beta_reduce
            refine Within.step ?_ (hostRespond_within ..) (by decide +kernel)
            exact Within.refl _ _
          · refine Within.ite ?_ ?_
            · extract_lets -lift +onlyGivenNames a2
              have h2 : Within fpHostServe s a2.2 := by
                unfold a2
                refine Within.step ?_ (retryHint_within ..) (by decide +kernel)
                exact Within.refl _ _
              clear_value a2
              unfold a1
              beta_reduce
              refine Within.step ?_ (hostRespond_within ..) (by decide +kernel)
              exact h2
            · split
              · unfold a1
                beta_reduce
                refine Within.step ?_ (hostRespond_within ..) (by decide +kernel)
                exact Within.refl _ _
              · refine Within.ite ?_ ?_
                · refine Within.step ?_ (classBArrive_within ..) (by decide +kernel)
                  exact Within.refl _ _
                · refine Within.step ?_ (classARun_within ..) (by decide +kernel)
                  exact Within.refl _ _

/-- What `execHostCommandFrame` can change. -/
def fpExecHostCommandFrame : Nat :=
  0x5fffdfffffff7fffffff9fffffa8000000000000000000000000000000000000000000000000000000000000000000000000000000fffffffffffffffffffffffd39fffffffffffffffffffffffffffffffffffffffffffffffffffff0700fffffffffffffffffffffffffffffff8fffffffffffffffffffffffffffffbfffff7fffffffffffffffffffff

theorem fpExecHostCommandFrame_eq : fpExecHostCommandFrame =
    footprint [R.MBX_RXSTAT_DB, R.MBX_RXSTAT_COLLIDE] [] ||| fpMbxAccept ||| fpMbxPop ||| fpHostRespond |||
  fpHostServe := by decide +kernel

theorem execHostCommandFrame_within (s : State) : Completes fpExecHostCommandFrame s (execHostCommandFrame s) := by
  unfold execHostCommandFrame
  refine Completes.next ?_
  refine Within.ite ?_ ?_
  · exact Within.refl _ _
  · extract_lets -lift +onlyGivenNames a1
    clear_value a1
    extract_lets -lift +onlyGivenNames a2
    clear_value a2
    extract_lets -lift +onlyGivenNames a3
    have h3 : Within fpExecHostCommandFrame s a3 := by
      unfold a3
      refine Within.step ?_ (set_within _ _ _ (by decide +kernel)) (by decide +kernel)
      refine Within.forAll _ ?_ fun a4 _ => ?_
      · refine Within.step ?_ (mbxAccept_within ..) (by decide +kernel)
        exact Within.refl _ _
      · refine Within.step ?_ (mbxPop_within ..) (by decide +kernel)
        exact Within.refl _ _
    clear_value a3
    split
    · refine Within.ite ?_ ?_
      · refine Within.step ?_ (hostRespond_within ..) (by decide +kernel)
        refine Within.step ?_ (set_within _ _ _ (by decide +kernel)) (by decide +kernel)
        exact h3
      · refine Within.forAll _ ?_ fun a4 _ => ?_
        · exact h3
        · refine Within.step ?_ (hostServe_within ..) (by decide +kernel)
          exact Within.refl _ _
    · refine Within.step ?_ (hostRespond_within ..) (by decide +kernel)
      refine Within.step ?_ (set_within _ _ _ (by decide +kernel)) (by decide +kernel)
      exact h3

/-- What `execHello` can change. -/
def fpExecHello : Nat :=
  0x5fffdfffffff7fffffff9fffffa8000000000000000000000000000000000000000000000000000000000000000000000000000000fffffffffffffffffffffffd39fffffffffffffffffffffffffffffffffffffffffffffffffffff0700fffffffffffffffffffffffffffffff8fffffffffffffffffffffffffffffbfffff7fffffffffffffffffffff

theorem fpExecHello_eq : fpExecHello =
    fpHostServe := by decide +kernel

theorem execHello_within (seq : BitVec 8) (args : List (BitVec 36)) (s : State) : Completes fpExecHello s (execHello seq args s) := by
  unfold execHello
  refine Completes.next ?_
  refine Within.step ?_ (hostServe_within ..) (by decide +kernel)
  exact Within.refl _ _

/-- What `execGetStatus` can change. -/
def fpExecGetStatus : Nat :=
  0x5fffdfffffff7fffffff9fffffa8000000000000000000000000000000000000000000000000000000000000000000000000000000fffffffffffffffffffffffd39fffffffffffffffffffffffffffffffffffffffffffffffffffff0700fffffffffffffffffffffffffffffff8fffffffffffffffffffffffffffffbfffff7fffffffffffffffffffff

theorem fpExecGetStatus_eq : fpExecGetStatus =
    fpHostServe := by decide +kernel

theorem execGetStatus_within (seq : BitVec 8) (args : List (BitVec 36)) (s : State) : Completes fpExecGetStatus s (execGetStatus seq args s) := by
  unfold execGetStatus
  refine Completes.next ?_
  refine Within.step ?_ (hostServe_within ..) (by decide +kernel)
  exact Within.refl _ _

/-- What `execSetRunstate` can change. -/
def fpExecSetRunstate : Nat :=
  0x5fffdfffffff7fffffff9fffffa8000000000000000000000000000000000000000000000000000000000000000000000000000000fffffffffffffffffffffffd39fffffffffffffffffffffffffffffffffffffffffffffffffffff0700fffffffffffffffffffffffffffffff8fffffffffffffffffffffffffffffbfffff7fffffffffffffffffffff

theorem fpExecSetRunstate_eq : fpExecSetRunstate =
    fpHostServe := by decide +kernel

theorem execSetRunstate_within (seq : BitVec 8) (args : List (BitVec 36)) (s : State) : Completes fpExecSetRunstate s (execSetRunstate seq args
    s) := by
  unfold execSetRunstate
  refine Completes.next ?_
  refine Within.step ?_ (hostServe_within ..) (by decide +kernel)
  exact Within.refl _ _

/-- What `execStageImage` can change. -/
def fpExecStageImage : Nat :=
  0x5fffdfffffff7fffffff9fffffa8000000000000000000000000000000000000000000000000000000000000000000000000000000fffffffffffffffffffffffd39fffffffffffffffffffffffffffffffffffffffffffffffffffff0700fffffffffffffffffffffffffffffff8fffffffffffffffffffffffffffffbfffff7fffffffffffffffffffff

theorem fpExecStageImage_eq : fpExecStageImage =
    fpHostServe := by decide +kernel

theorem execStageImage_within (seq : BitVec 8) (args : List (BitVec 36)) (s : State) : Completes fpExecStageImage s (execStageImage seq args s)
    := by
  unfold execStageImage
  refine Completes.next ?_
  refine Within.step ?_ (hostServe_within ..) (by decide +kernel)
  exact Within.refl _ _

/-- What `execRecast` can change. -/
def fpExecRecast : Nat :=
  0x5fffdfffffff7fffffff9fffffa8000000000000000000000000000000000000000000000000000000000000000000000000000000fffffffffffffffffffffffd39fffffffffffffffffffffffffffffffffffffffffffffffffffff0700fffffffffffffffffffffffffffffff8fffffffffffffffffffffffffffffbfffff7fffffffffffffffffffff

theorem fpExecRecast_eq : fpExecRecast =
    fpHostServe := by decide +kernel

theorem execRecast_within (seq : BitVec 8) (args : List (BitVec 36)) (s : State) : Completes fpExecRecast s (execRecast seq args s) := by
  unfold execRecast
  refine Completes.next ?_
  refine Within.step ?_ (hostServe_within ..) (by decide +kernel)
  exact Within.refl _ _

/-- What `execStageFirmware` can change. -/
def fpExecStageFirmware : Nat :=
  0x5fffdfffffff7fffffff9fffffa8000000000000000000000000000000000000000000000000000000000000000000000000000000fffffffffffffffffffffffd39fffffffffffffffffffffffffffffffffffffffffffffffffffff0700fffffffffffffffffffffffffffffff8fffffffffffffffffffffffffffffbfffff7fffffffffffffffffffff

theorem fpExecStageFirmware_eq : fpExecStageFirmware =
    fpHostServe := by decide +kernel

theorem execStageFirmware_within (seq : BitVec 8) (args : List (BitVec 36)) (s : State) : Completes fpExecStageFirmware s (execStageFirmware seq
    args s) := by
  unfold execStageFirmware
  refine Completes.next ?_
  refine Within.step ?_ (hostServe_within ..) (by decide +kernel)
  exact Within.refl _ _

/-- What `execRecoveryCast` can change. -/
def fpExecRecoveryCast : Nat :=
  0x5fffdfffffff7fffffff9fffffa8000000000000000000000000000000000000000000000000000000000000000000000000000000fffffffffffffffffffffffd39fffffffffffffffffffffffffffffffffffffffffffffffffffff0700fffffffffffffffffffffffffffffff8fffffffffffffffffffffffffffffbfffff7fffffffffffffffffffff

theorem fpExecRecoveryCast_eq : fpExecRecoveryCast =
    fpHostServe := by decide +kernel

theorem execRecoveryCast_within (seq : BitVec 8) (args : List (BitVec 36)) (s : State) : Completes fpExecRecoveryCast s (execRecoveryCast seq
    args s) := by
  unfold execRecoveryCast
  refine Completes.next ?_
  refine Within.step ?_ (hostServe_within ..) (by decide +kernel)
  exact Within.refl _ _

/-- What `execTelemetry` can change. -/
def fpExecTelemetry : Nat :=
  0x5fffdfffffff7fffffff9fffffa8000000000000000000000000000000000000000000000000000000000000000000000000000000fffffffffffffffffffffffd39fffffffffffffffffffffffffffffffffffffffffffffffffffff0700fffffffffffffffffffffffffffffff8fffffffffffffffffffffffffffffbfffff7fffffffffffffffffffff

theorem fpExecTelemetry_eq : fpExecTelemetry =
    fpHostServe := by decide +kernel

theorem execTelemetry_within (seq : BitVec 8) (args : List (BitVec 36)) (s : State) : Completes fpExecTelemetry s (execTelemetry seq args s) := by
  unfold execTelemetry
  refine Completes.next ?_
  refine Within.step ?_ (hostServe_within ..) (by decide +kernel)
  exact Within.refl _ _

/-- What `execCalCommit` can change. -/
def fpExecCalCommit : Nat :=
  0x5fffdfffffff7fffffff9fffffa8000000000000000000000000000000000000000000000000000000000000000000000000000000fffffffffffffffffffffffd39fffffffffffffffffffffffffffffffffffffffffffffffffffff0700fffffffffffffffffffffffffffffff8fffffffffffffffffffffffffffffbfffff7fffffffffffffffffffff

theorem fpExecCalCommit_eq : fpExecCalCommit =
    fpHostServe := by decide +kernel

theorem execCalCommit_within (seq : BitVec 8) (args : List (BitVec 36)) (s : State) : Completes fpExecCalCommit s (execCalCommit seq args s) := by
  unfold execCalCommit
  refine Completes.next ?_
  refine Within.step ?_ (hostServe_within ..) (by decide +kernel)
  exact Within.refl _ _

/-- What `execPointingRun` can change. -/
def fpExecPointingRun : Nat :=
  0x5fffdfffffff7fffffff9fffffa8000000000000000000000000000000000000000000000000000000000000000000000000000000fffffffffffffffffffffffd39fffffffffffffffffffffffffffffffffffffffffffffffffffff0700fffffffffffffffffffffffffffffff8fffffffffffffffffffffffffffffbfffff7fffffffffffffffffffff

theorem fpExecPointingRun_eq : fpExecPointingRun =
    fpHostServe := by decide +kernel

theorem execPointingRun_within (seq : BitVec 8) (args : List (BitVec 36)) (s : State) : Completes fpExecPointingRun s (execPointingRun seq args
    s) := by
  unfold execPointingRun
  refine Completes.next ?_
  refine Within.step ?_ (hostServe_within ..) (by decide +kernel)
  exact Within.refl _ _

/-- What `execSetPower` can change. -/
def fpExecSetPower : Nat :=
  0x5fffdfffffff7fffffff9fffffa8000000000000000000000000000000000000000000000000000000000000000000000000000000fffffffffffffffffffffffd39fffffffffffffffffffffffffffffffffffffffffffffffffffff0700fffffffffffffffffffffffffffffff8fffffffffffffffffffffffffffffbfffff7fffffffffffffffffffff

theorem fpExecSetPower_eq : fpExecSetPower =
    fpHostServe := by decide +kernel

theorem execSetPower_within (seq : BitVec 8) (args : List (BitVec 36)) (s : State) : Completes fpExecSetPower s (execSetPower seq args s) := by
  unfold execSetPower
  refine Completes.next ?_
  refine Within.step ?_ (hostServe_within ..) (by decide +kernel)
  exact Within.refl _ _

/-- What `execLoadNcode` can change. -/
def fpExecLoadNcode : Nat :=
  0x5fffdfffffff7fffffff9fffffa8000000000000000000000000000000000000000000000000000000000000000000000000000000fffffffffffffffffffffffd39fffffffffffffffffffffffffffffffffffffffffffffffffffff0700fffffffffffffffffffffffffffffff8fffffffffffffffffffffffffffffbfffff7fffffffffffffffffffff

theorem fpExecLoadNcode_eq : fpExecLoadNcode =
    fpHostServe := by decide +kernel

theorem execLoadNcode_within (seq : BitVec 8) (args : List (BitVec 36)) (s : State) : Completes fpExecLoadNcode s (execLoadNcode seq args s) := by
  unfold execLoadNcode
  refine Completes.next ?_
  refine Within.step ?_ (hostServe_within ..) (by decide +kernel)
  exact Within.refl _ _

/-- What `execClassBStart` can change. -/
def fpExecClassBStart : Nat :=
  0x1f801e013000600080008f800020000000000000000000000000000000000000000000000000000000000000000000000000000000c000040000000000000000000000001000000000000000000000000000000000000000000000000070040000300007f4000000000000000100000000300ff021808000000000000000000007d1f82400000000000000

theorem fpExecClassBStart_eq : fpExecClassBStart =
    footprint [] [.hostBQ] ||| fpClassBRun := by decide +kernel

theorem execClassBStart_within (s : State) : Completes fpExecClassBStart s (execClassBStart s) := by
  unfold execClassBStart
  refine Completes.next ?_
  split
  · refine Within.ite ?_ ?_
    · refine Within.step ?_ (classBRun_within ..) (by decide +kernel)
      refine Within.step ?_ (hostBQ_within _ _) (by decide +kernel)
      exact Within.refl _ _
    · exact Within.refl _ _
  · exact Within.refl _ _

/-- What `execLoadLevelChange` can change. -/
def fpExecLoadLevelChange : Nat := footprint [R.GLB_PLN_LOAD_LEVEL, R.GLB_PLN_LOAD_AGE] []

theorem execLoadLevelChange_within (age : BitVec 32) (fall : Bool) (s : State) : Completes fpExecLoadLevelChange s (execLoadLevelChange age fall
    s) := by
  unfold execLoadLevelChange
  extract_lets -lift +onlyGivenNames a1
  clear_value a1
  extract_lets -lift +onlyGivenNames a2
  clear_value a2
  extract_lets -lift +onlyGivenNames a3
  clear_value a3
  refine Completes.next ?_
  refine Within.ite ?_ ?_
  · exact Within.refl _ _
  · extract_lets -lift +onlyGivenNames a4
    have h4 : Within fpExecLoadLevelChange s a4 := by
      unfold a4
      refine Within.step ?_ (set_within _ _ _ (by decide +kernel)) (by decide +kernel)
      exact Within.refl _ _
    clear_value a4
    refine Within.step ?_ (set_within _ _ _ (by decide +kernel)) (by decide +kernel)
    exact h4

end Sys2Proof.Machine
end

