-- ==== Sys2Proof/Laws/RegRows.lean ====
section
/-! SUPPORT. What each operation of Sys2Proof/Machine/RegRows.lean can change. -/

set_option Elab.async false

namespace Sys2Proof.Machine

/-- What `w4Logged` can change. -/
def fpW4Logged : Nat := footprint [R.HST_AERR_ADDR_ADDR] []

theorem w4Logged_within (before : State) (off : Nat) (s : State) : Within fpW4Logged s (w4Logged before off s) := by
  unfold w4Logged
  refine Within.ite ?_ ?_
  · refine Within.step ?_ (set_within _ _ _ (by decide +kernel)) (by decide +kernel)
    exact Within.refl _ _
  · exact Within.refl _ _

/-- What `msixWrite` can change. -/
def fpMsixWrite : Nat :=
  0x2000000000000000000000000000000000000000000000000000000000000000000000000000000000000000000000000000000000000000000000000000000000000000000000000000000000000000000000000000000000000000000000000000000000000000000000000000000000000000000000000000000000000000000000000000000000

theorem fpMsixWrite_eq : fpMsixWrite =
    fpSetMsix ||| fpMsixMask := by decide +kernel

theorem msixWrite_within (s : State) (o v : Nat) : Within fpMsixWrite s (msixWrite s o v) := by
  unfold msixWrite
  extract_lets -lift +onlyGivenNames a1
  clear_value a1
  extract_lets -lift +onlyGivenNames a2
  clear_value a2
  split
  · refine Within.step ?_ (setMsix_within ..) (by decide +kernel)
    exact Within.refl _ _
  · refine Within.step ?_ (setMsix_within ..) (by decide +kernel)
    exact Within.refl _ _
  · refine Within.step ?_ (setMsix_within ..) (by decide +kernel)
    exact Within.refl _ _
  · refine Within.step ?_ (msixMask_within ..) (by decide +kernel)
    exact Within.refl _ _

/-- What `w4Write1` can change. -/
def fpW4Write1 : Nat :=
  0x4fc06f8133e67f0300008fc02120000000000000000000000000000000000000000000000000000000000000000000000000000000ffffffffffffffffffffffffffffffffffffffffffffffffffffffffffffffffffffffffffffffffffffffffffffffffffffffffffffffffffffffffffffffffffffffffffffffffffffffffffffffffffffffffffff

theorem fpW4Write1_eq : fpW4Write1 =
    fpAccessError ||| fpRegW ||| fpW4Logged ||| fpMsixWrite := by decide +kernel

theorem w4Write1_within (s : State) (off width v : Nat) : Within fpW4Write1 s (w4Write1 s off width v) := by
  unfold w4Write1
  split
  · refine Within.step ?_ (w4Logged_within ..) (by decide +kernel)
    refine Within.step ?_ (regW_within ..) (by decide +kernel)
    exact Within.refl _ _
  · refine Within.ite ?_ ?_
    · refine Within.ite ?_ ?_
      · refine Within.step ?_ (msixWrite_within ..) (by decide +kernel)
        exact Within.refl _ _
      · refine Within.step ?_ (accessError_within ..) (by decide +kernel)
        exact Within.refl _ _
    · refine Within.ite ?_ ?_
      · exact Within.refl _ _
      · refine Within.step ?_ (accessError_within ..) (by decide +kernel)
        exact Within.refl _ _

/-- What `w4Write` can change. -/
def fpW4Write : Nat :=
  0x4fc06f8133e67f0380008fc02120000000000000000000000000000000000000000000000000000000000000000000000000000000ffffffffffffffffffffffffffffffffffffffffffffffffffffffffffffffffffffffffffffffffffffffffffffffffffffffffffffffffffffffffffffffffffffffffffffffffffffffffffffffffffffffffffff

theorem fpW4Write_eq : fpW4Write =
    fpApertureWrite ||| fpW4Write1 := by decide +kernel

theorem w4Write_within (s : State) (off width v : Nat) : Within fpW4Write s (w4Write s off width v) := by
  unfold w4Write
  refine Within.ite ?_ ?_
  · refine Within.step ?_ (apertureWrite_within ..) (by decide +kernel)
    exact Within.refl _ _
  · refine Within.ite ?_ ?_
    · refine Within.step ?_ (w4Write1_within ..) (by decide +kernel)
      refine Within.step ?_ (w4Write1_within ..) (by decide +kernel)
      exact Within.refl _ _
    · refine Within.step ?_ (w4Write1_within ..) (by decide +kernel)
      exact Within.refl _ _

/-- What `w4Read1` can change. -/
def fpW4Read1 : Nat :=
  0x93000000000000f80002000000000000000000000000000000000000000000000000000000000000000000000000000000082400000000001000006000000000000000000000800000e00fc003c001080000000000404009c00000000000003100000000800000000007e000001c0f942018480e000000000001fe0000000000000000000000000

theorem fpW4Read1_eq : fpW4Read1 =
    fpAccessError ||| fpRegRead1 ||| fpW4Logged := by decide +kernel

theorem w4Read1_within (s : State) (off width : Nat) : Within fpW4Read1 s (w4Read1 s off width).2 := by
  unfold w4Read1
  split
  · extract_lets +onlyGivenNames a1
    have h1 : Within fpW4Read1 s a1.2 := by
      unfold a1
      refine Within.step ?_ (regRead1_within ..) (by decide +kernel)
      exact Within.refl _ _
    clear_value a1
    dsimp only
    refine Within.step ?_ (w4Logged_within ..) (by decide +kernel)
    exact h1
  · split
    · split
      · dsimp only
        exact Within.refl _ _
      · dsimp only
        refine Within.step ?_ (accessError_within ..) (by decide +kernel)
        exact Within.refl _ _
    · split
      · dsimp only
        exact Within.refl _ _
      · dsimp only
        refine Within.step ?_ (accessError_within ..) (by decide +kernel)
        exact Within.refl _ _

/-- What `w4Read` can change. -/
def fpW4Read : Nat :=
  0x93000000000000f80002600000000000000000000000000000000000000000000000000000000000000000000000000000082400000000001000006000000000000000000000800000e00fc003c001080000000000404009c00000000000003100000000800000000007e000001c0f942018480e000000000001fe0000000000000000000000000

theorem fpW4Read_eq : fpW4Read =
    footprint [] [.readData, .readPoison] ||| fpW4Read1 := by decide +kernel

theorem w4Read_within (s : State) (off width : Nat) : Within fpW4Read s (w4Read s off width) := by
  unfold w4Read
  refine Within.ite ?_ ?_
  · refine Within.step ?_ (upd_readData_readPoison_within _ _ _) (by decide +kernel)
    exact Within.refl _ _
  · refine Within.ite ?_ ?_
    · extract_lets -lift +onlyGivenNames a1
      have h1 : Within fpW4Read s a1.2 := by
        unfold a1
        refine Within.step ?_ (w4Read1_within ..) (by decide +kernel)
        exact Within.refl _ _
      clear_value a1
      extract_lets -lift +onlyGivenNames a2
      have h2 : Within fpW4Read s a2.2 := by
        unfold a2
        refine Within.step ?_ (w4Read1_within ..) (by decide +kernel)
        exact h1
      clear_value a2
      extract_lets -lift +onlyGivenNames a3
      have h3 : Within fpW4Read s a3 := by
        unfold a3
        exact h2
      clear_value a3
      refine Within.step ?_ (upd_readData_readPoison_within _ _ _) (by decide +kernel)
      exact h3
    · extract_lets -lift +onlyGivenNames a1
      have h1 : Within fpW4Read s a1.2 := by
        unfold a1
        refine Within.step ?_ (w4Read1_within ..) (by decide +kernel)
        exact Within.refl _ _
      clear_value a1
      extract_lets -lift +onlyGivenNames a2
      have h2 : Within fpW4Read s a2 := by
        unfold a2
        exact h1
      clear_value a2
      refine Within.step ?_ (upd_readData_readPoison_within _ _ _) (by decide +kernel)
      exact h2

/-- What `execRegisterWrite` can change. -/
def fpExecRegisterWrite : Nat :=
  0x4fc06f8133e67f0380008fc02120000000000000000000000000000000000000000000000000000000000000000000000000000000ffffffffffffffffffffffffffffffffffffffffffffffffffffffffffffffffffffffffffffffffffffffffffffffffffffffffffffffffffffffffffffffffffffffffffffffffffffffffffffffffffffffffffff

theorem fpExecRegisterWrite_eq : fpExecRegisterWrite =
    fpRegW ||| fpW4Write := by decide +kernel

theorem execRegisterWrite_within (m : Master) (w4 : Bool) (off : BitVec 26) (size : Fin 4) (v : BitVec 64) (s : State) : Completes
    fpExecRegisterWrite s (execRegisterWrite m w4 off size v s) := by
  unfold execRegisterWrite
  refine Completes.next ?_
  refine Within.ite ?_ ?_
  · refine Within.ite ?_ ?_
    · exact Within.refl _ _
    · refine Within.step ?_ (w4Write_within ..) (by decide +kernel)
      exact Within.refl _ _
  · refine Within.step ?_ (regW_within ..) (by decide +kernel)
    exact Within.refl _ _

/-- What `execLatchedPairRead` can change. -/
def fpExecLatchedPairRead : Nat :=
  0x93000000000000f80002600000000000000000000000000000000000000000000000000000000000000000000000000000082400000000001000006000000000000000000000800000e00fc003c001080000000000404009c00000000000003100000000800000000007e000001c0f942018480e000000000001fe0000000000000000000000000

theorem fpExecLatchedPairRead_eq : fpExecLatchedPairRead =
    fpRegRead ||| fpW4Read := by decide +kernel

theorem execLatchedPairRead_within (m : Master) (w4 : Bool) (off : BitVec 26) (size : Fin 4) (s : State) : Completes fpExecLatchedPairRead s
    (execLatchedPairRead m w4 off size s) := by
  unfold execLatchedPairRead
  refine Completes.next ?_
  refine Within.ite ?_ ?_
  · refine Within.ite ?_ ?_
    · exact Within.refl _ _
    · refine Within.step ?_ (w4Read_within ..) (by decide +kernel)
      exact Within.refl _ _
  · refine Within.step ?_ (regRead_within ..) (by decide +kernel)
    exact Within.refl _ _

/-- What `execCounterClear` can change. -/
def fpExecCounterClear : Nat :=
  0x4fc04f8133e67f0300008fc02120000000000000000000000000000000000000000000000000000000000000000000000000000000ffffffffffffffffffffffffffffffffffffffffffffffffffffffffffffffffffffffffffffffffffffffffffffffffffffffffffffffffffffffffffffffffffffffffffffffffffffffffffffffffffffffffffff

theorem fpExecCounterClear_eq : fpExecCounterClear =
    fpRegW := by decide +kernel

theorem execCounterClear_within (m : Master) (off : BitVec 26) (v : BitVec 32) (s : State) : Completes fpExecCounterClear s (execCounterClear m
    off v s) := by
  unfold execCounterClear
  refine Completes.next ?_
  refine Within.step ?_ (regW_within ..) (by decide +kernel)
  exact Within.refl _ _

/-- What `execTaintStickyWrite` can change. -/
def fpExecTaintStickyWrite : Nat :=
  0x4fc04f8133e67f0300008fc02120000000000000000000000000000000000000000000000000000000000000000000000000000000ffffffffffffffffffffffffffffffffffffffffffffffffffffffffffffffffffffffffffffffffffffffffffffffffffffffffffffffffffffffffffffffffffffffffffffffffffffffffffffffffffffffffffff

theorem fpExecTaintStickyWrite_eq : fpExecTaintStickyWrite =
    fpRegW := by decide +kernel

theorem execTaintStickyWrite_within (m : Master) (v : BitVec 32) (s : State) : Completes fpExecTaintStickyWrite s (execTaintStickyWrite m v s) :=
    by
  unfold execTaintStickyWrite
  refine Completes.next ?_
  refine Within.step ?_ (regW_within ..) (by decide +kernel)
  exact Within.refl _ _

/-- What `execContractStickyWrite` can change. -/
def fpExecContractStickyWrite : Nat :=
  0x4fc04f8133e67f0300008fc02120000000000000000000000000000000000000000000000000000000000000000000000000000000ffffffffffffffffffffffffffffffffffffffffffffffffffffffffffffffffffffffffffffffffffffffffffffffffffffffffffffffffffffffffffffffffffffffffffffffffffffffffffffffffffffffffffff

theorem fpExecContractStickyWrite_eq : fpExecContractStickyWrite =
    fpRegW := by decide +kernel

theorem execContractStickyWrite_within (m : Master) (v : BitVec 32) (s : State) : Completes fpExecContractStickyWrite s (execContractStickyWrite
    m v s) := by
  unfold execContractStickyWrite
  refine Completes.next ?_
  refine Within.step ?_ (regW_within ..) (by decide +kernel)
  exact Within.refl _ _

/-- What `execMarkNext` can change. -/
def fpExecMarkNext : Nat :=
  0x4fc04f8133e67f0300008fc02120000000000000000000000000000000000000000000000000000000000000000000000000000000ffffffffffffffffffffffffffffffffffffffffffffffffffffffffffffffffffffffffffffffffffffffffffffffffffffffffffffffffffffffffffffffffffffffffffffffffffffffffffffffffffffffffffff

theorem fpExecMarkNext_eq : fpExecMarkNext =
    fpRegW := by decide +kernel

theorem execMarkNext_within (m : Master) (v : BitVec 32) (s : State) : Completes fpExecMarkNext s (execMarkNext m v s) := by
  unfold execMarkNext
  refine Completes.next ?_
  refine Within.step ?_ (regW_within ..) (by decide +kernel)
  exact Within.refl _ _

/-- What `execTimeArm` can change. -/
def fpExecTimeArm : Nat :=
  0x4fc04f8133e67f0300008fc02120000000000000000000000000000000000000000000000000000000000000000000000000000000ffffffffffffffffffffffffffffffffffffffffffffffffffffffffffffffffffffffffffffffffffffffffffffffffffffffffffffffffffffffffffffffffffffffffffffffffffffffffffffffffffffffffffff

theorem fpExecTimeArm_eq : fpExecTimeArm =
    fpRegW := by decide +kernel

theorem execTimeArm_within (m : Master) (s : State) : Completes fpExecTimeArm s (execTimeArm m s) := by
  unfold execTimeArm
  refine Completes.next ?_
  refine Within.step ?_ (regW_within ..) (by decide +kernel)
  exact Within.refl _ _

/-- What `execClkPhaseWrite` can change. -/
def fpExecClkPhaseWrite : Nat :=
  0x4fc04f8133e67f0300008fc02120000000000000000000000000000000000000000000000000000000000000000000000000000000ffffffffffffffffffffffffffffffffffffffffffffffffffffffffffffffffffffffffffffffffffffffffffffffffffffffffffffffffffffffffffffffffffffffffffffffffffffffffffffffffffffffffffff

theorem fpExecClkPhaseWrite_eq : fpExecClkPhaseWrite =
    fpRegW := by decide +kernel

theorem execClkPhaseWrite_within (m : Master) (v : BitVec 32) (s : State) : Completes fpExecClkPhaseWrite s (execClkPhaseWrite m v s) := by
  unfold execClkPhaseWrite
  refine Completes.next ?_
  refine Within.step ?_ (regW_within ..) (by decide +kernel)
  exact Within.refl _ _

/-- What `execSkewRun` can change. -/
def fpExecSkewRun : Nat :=
  0x4fc04f8133e67f0300008fc02120000000000000000000000000000000000000000000000000000000000000000000000000000000ffffffffffffffffffffffffffffffffffffffffffffffffffffffffffffffffffffffffffffffffffffffffffffffffffffffffffffffffffffffffffffffffffffffffffffffffffffffffffffffffffffffffffff

theorem fpExecSkewRun_eq : fpExecSkewRun =
    fpRegW := by decide +kernel

theorem execSkewRun_within (m : Master) (v : BitVec 32) (s : State) : Completes fpExecSkewRun s (execSkewRun m v s) := by
  unfold execSkewRun
  refine Completes.next ?_
  refine Within.step ?_ (regW_within ..) (by decide +kernel)
  exact Within.refl _ _

/-- What `execRelock` can change. -/
def fpExecRelock : Nat :=
  0x4fc04f8133e67f0300008fc02120000000000000000000000000000000000000000000000000000000000000000000000000000000ffffffffffffffffffffffffffffffffffffffffffffffffffffffffffffffffffffffffffffffffffffffffffffffffffffffffffffffffffffffffffffffffffffffffffffffffffffffffffffffffffffffffffff

theorem fpExecRelock_eq : fpExecRelock =
    fpRegW := by decide +kernel

theorem execRelock_within (m : Master) (v : BitVec 32) (s : State) : Completes fpExecRelock s (execRelock m v s) := by
  unfold execRelock
  refine Completes.next ?_
  refine Within.step ?_ (regW_within ..) (by decide +kernel)
  exact Within.refl _ _

/-- What `execChsMemDataAccess` can change. -/
def fpExecChsMemDataAccess : Nat :=
  0x4fc04f8933e67f0300008fc02126000000000000000000000000000000000000000000000000000000000000000000000000000000ffffffffffffffffffffffffffffffffffffffffffffffffffffffffffffffffffffffffffffffffffffffffffffffffffffffffffffffffffffffffffffffffffffffffffffffffffffffffffffffffffffffffffff

theorem fpExecChsMemDataAccess_eq : fpExecChsMemDataAccess =
    fpRegRead ||| fpRegW := by decide +kernel

theorem execChsMemDataAccess_within (m : Master) (n : Fin 128) (write : Bool) (v : BitVec 64) (s : State) : Completes fpExecChsMemDataAccess s
    (execChsMemDataAccess m n write v s) := by
  unfold execChsMemDataAccess
  refine Completes.next ?_
  refine Within.ite ?_ ?_
  · refine Within.step ?_ (regW_within ..) (by decide +kernel)
    exact Within.refl _ _
  · refine Within.step ?_ (regRead_within ..) (by decide +kernel)
    exact Within.refl _ _

/-- What `execStmWrWrite` can change. -/
def fpExecStmWrWrite : Nat :=
  0x4fc04f8133e67f0300008fc02120000000000000000000000000000000000000000000000000000000000000000000000000000000ffffffffffffffffffffffffffffffffffffffffffffffffffffffffffffffffffffffffffffffffffffffffffffffffffffffffffffffffffffffffffffffffffffffffffffffffffffffffffffffffffffffffffff

theorem fpExecStmWrWrite_eq : fpExecStmWrWrite =
    fpRegW := by decide +kernel

theorem execStmWrWrite_within (m : Master) (r : Fin 512) (v : BitVec 32) (s : State) : Completes fpExecStmWrWrite s (execStmWrWrite m r v s) := by
  unfold execStmWrWrite
  refine Completes.next ?_
  refine Within.step ?_ (regW_within ..) (by decide +kernel)
  exact Within.refl _ _

/-- What `execStreamRestart` can change. -/
def fpExecStreamRestart : Nat :=
  0x4fc04f8133e67f0300008fc02120000000000000000000000000000000000000000000000000000000000000000000000000000000ffffffffffffffffffffffffffffffffffffffffffffffffffffffffffffffffffffffffffffffffffffffffffffffffffffffffffffffffffffffffffffffffffffffffffffffffffffffffffffffffffffffffffff

theorem fpExecStreamRestart_eq : fpExecStreamRestart =
    fpRegW := by decide +kernel

theorem execStreamRestart_within (m : Master) (r : Fin 512) (v : BitVec 32) (s : State) : Completes fpExecStreamRestart s (execStreamRestart m r
    v s) := by
  unfold execStreamRestart
  refine Completes.next ?_
  refine Within.step ?_ (regW_within ..) (by decide +kernel)
  exact Within.refl _ _

/-- What `execStmBufWrite` can change. -/
def fpExecStmBufWrite : Nat :=
  0x4fc04f8133e67f0300008fc02120000000000000000000000000000000000000000000000000000000000000000000000000000000ffffffffffffffffffffffffffffffffffffffffffffffffffffffffffffffffffffffffffffffffffffffffffffffffffffffffffffffffffffffffffffffffffffffffffffffffffffffffffffffffffffffffffff

theorem fpExecStmBufWrite_eq : fpExecStmBufWrite =
    fpRegW := by decide +kernel

theorem execStmBufWrite_within (m : Master) (r : Fin 512) (v : BitVec 32) (s : State) : Completes fpExecStmBufWrite s (execStmBufWrite m r v s)
    := by
  unfold execStmBufWrite
  refine Completes.next ?_
  refine Within.step ?_ (regW_within ..) (by decide +kernel)
  exact Within.refl _ _

/-- What `execTonFrmIndexWrite` can change. -/
def fpExecTonFrmIndexWrite : Nat :=
  0x4fc04f8133e67f0300008fc02120000000000000000000000000000000000000000000000000000000000000000000000000000000ffffffffffffffffffffffffffffffffffffffffffffffffffffffffffffffffffffffffffffffffffffffffffffffffffffffffffffffffffffffffffffffffffffffffffffffffffffffffffffffffffffffffffff

theorem fpExecTonFrmIndexWrite_eq : fpExecTonFrmIndexWrite =
    fpRegW := by decide +kernel

theorem execTonFrmIndexWrite_within (m : Master) (c : Fin 128) (v : BitVec 32) (s : State) : Completes fpExecTonFrmIndexWrite s
    (execTonFrmIndexWrite m c v s) := by
  unfold execTonFrmIndexWrite
  refine Completes.next ?_
  refine Within.step ?_ (regW_within ..) (by decide +kernel)
  exact Within.refl _ _

/-- What `execTonFrmCommit` can change. -/
def fpExecTonFrmCommit : Nat :=
  0x4fc04f8133e67f0300008fc02120000000000000000000000000000000000000000000000000000000000000000000000000000000ffffffffffffffffffffffffffffffffffffffffffffffffffffffffffffffffffffffffffffffffffffffffffffffffffffffffffffffffffffffffffffffffffffffffffffffffffffffffffffffffffffffffffff

theorem fpExecTonFrmCommit_eq : fpExecTonFrmCommit =
    fpRegW := by decide +kernel

theorem execTonFrmCommit_within (m : Master) (c : Fin 128) (s : State) : Completes fpExecTonFrmCommit s (execTonFrmCommit m c s) := by
  unfold execTonFrmCommit
  refine Completes.next ?_
  refine Within.step ?_ (regW_within ..) (by decide +kernel)
  exact Within.refl _ _

/-- What `execPathWrite` can change. -/
def fpExecPathWrite : Nat :=
  0x4fc04f8133e67f0300008fc02120000000000000000000000000000000000000000000000000000000000000000000000000000000ffffffffffffffffffffffffffffffffffffffffffffffffffffffffffffffffffffffffffffffffffffffffffffffffffffffffffffffffffffffffffffffffffffffffffffffffffffffffffffffffffffffffffff

theorem fpExecPathWrite_eq : fpExecPathWrite =
    fpRegW := by decide +kernel

theorem execPathWrite_within (m : Master) (n : Fin 256) (v : BitVec 32) (s : State) : Completes fpExecPathWrite s (execPathWrite m n v s) := by
  unfold execPathWrite
  refine Completes.next ?_
  refine Within.step ?_ (regW_within ..) (by decide +kernel)
  exact Within.refl _ _

/-- What `execGovRelease` can change. -/
def fpExecGovRelease : Nat :=
  0x4fc04f8133e67f0300008fc02120000000000000000000000000000000000000000000000000000000000000000000000000000000ffffffffffffffffffffffffffffffffffffffffffffffffffffffffffffffffffffffffffffffffffffffffffffffffffffffffffffffffffffffffffffffffffffffffffffffffffffffffffffffffffffffffffff

theorem fpExecGovRelease_eq : fpExecGovRelease =
    fpRegW := by decide +kernel

theorem execGovRelease_within (m : Master) (n : Fin 256) (v : BitVec 32) (s : State) : Completes fpExecGovRelease s (execGovRelease m n v s) := by
  unfold execGovRelease
  refine Completes.next ?_
  refine Within.step ?_ (regW_within ..) (by decide +kernel)
  exact Within.refl _ _

/-- What `execKmemDataAccess` can change. -/
def fpExecKmemDataAccess : Nat :=
  0x4fc04f8933e67f0300008fc02126000000000000000000000000000000000000000000000000000000000000000000000000000000ffffffffffffffffffffffffffffffffffffffffffffffffffffffffffffffffffffffffffffffffffffffffffffffffffffffffffffffffffffffffffffffffffffffffffffffffffffffffffffffffffffffffffff

theorem fpExecKmemDataAccess_eq : fpExecKmemDataAccess =
    fpRegRead ||| fpRegW := by decide +kernel

theorem execKmemDataAccess_within (m : Master) (n : Fin 64) (write : Bool) (v : BitVec 64) (s : State) : Completes fpExecKmemDataAccess s
    (execKmemDataAccess m n write v s) := by
  unfold execKmemDataAccess
  refine Completes.next ?_
  refine Within.ite ?_ ?_
  · refine Within.step ?_ (regW_within ..) (by decide +kernel)
    exact Within.refl _ _
  · refine Within.step ?_ (regRead_within ..) (by decide +kernel)
    exact Within.refl _ _

/-- What `execClpMemDataAccess` can change. -/
def fpExecClpMemDataAccess : Nat :=
  0x4fc04f8933e67f0300008fc02126000000000000000000000000000000000000000000000000000000000000000000000000000000ffffffffffffffffffffffffffffffffffffffffffffffffffffffffffffffffffffffffffffffffffffffffffffffffffffffffffffffffffffffffffffffffffffffffffffffffffffffffffffffffffffffffffff

theorem fpExecClpMemDataAccess_eq : fpExecClpMemDataAccess =
    fpRegRead ||| fpRegW := by decide +kernel

theorem execClpMemDataAccess_within (m : Master) (n : Fin 64) (write : Bool) (v : BitVec 64) (s : State) : Completes fpExecClpMemDataAccess s
    (execClpMemDataAccess m n write v s) := by
  unfold execClpMemDataAccess
  refine Completes.next ?_
  refine Within.ite ?_ ?_
  · refine Within.step ?_ (regW_within ..) (by decide +kernel)
    exact Within.refl _ _
  · refine Within.step ?_ (regRead_within ..) (by decide +kernel)
    exact Within.refl _ _

/-- What `execDecMemDataRead` can change. -/
def fpExecDecMemDataRead : Nat :=
  0x93000000000000f80002600000000000000000000000000000000000000000000000000000000000000000000000000000082400000000001000006000000000000000000000800000e00fc003c001080000000000404009c00000000000003100000000800000000007e000001c0f942018480e000000000001fe0000000000000000000000000

theorem fpExecDecMemDataRead_eq : fpExecDecMemDataRead =
    fpRegRead := by decide +kernel

theorem execDecMemDataRead_within (m : Master) (s : State) : Completes fpExecDecMemDataRead s (execDecMemDataRead m s) := by
  unfold execDecMemDataRead
  refine Completes.next ?_
  refine Within.step ?_ (regRead_within ..) (by decide +kernel)
  exact Within.refl _ _

/-- What `execPfuMemDataRead` can change. -/
def fpExecPfuMemDataRead : Nat :=
  0x93000000000000f80002600000000000000000000000000000000000000000000000000000000000000000000000000000082400000000001000006000000000000000000000800000e00fc003c001080000000000404009c00000000000003100000000800000000007e000001c0f942018480e000000000001fe0000000000000000000000000

theorem fpExecPfuMemDataRead_eq : fpExecPfuMemDataRead =
    fpRegRead := by decide +kernel

theorem execPfuMemDataRead_within (m : Master) (s : State) : Completes fpExecPfuMemDataRead s (execPfuMemDataRead m s) := by
  unfold execPfuMemDataRead
  refine Completes.next ?_
  refine Within.step ?_ (regRead_within ..) (by decide +kernel)
  exact Within.refl _ _

/-- What `execPfuRecDataRead` can change. -/
def fpExecPfuRecDataRead : Nat :=
  0x93000000000000f80002600000000000000000000000000000000000000000000000000000000000000000000000000000082400000000001000006000000000000000000000800000e00fc003c001080000000000404009c00000000000003100000000800000000007e000001c0f942018480e000000000001fe0000000000000000000000000

theorem fpExecPfuRecDataRead_eq : fpExecPfuRecDataRead =
    fpRegRead := by decide +kernel

theorem execPfuRecDataRead_within (m : Master) (s : State) : Completes fpExecPfuRecDataRead s (execPfuRecDataRead m s) := by
  unfold execPfuRecDataRead
  refine Completes.next ?_
  refine Within.step ?_ (regRead_within ..) (by decide +kernel)
  exact Within.refl _ _

/-- What `execAcqRdWrite` can change. -/
def fpExecAcqRdWrite : Nat :=
  0x4fc04f8133e67f0300008fc02120000000000000000000000000000000000000000000000000000000000000000000000000000000ffffffffffffffffffffffffffffffffffffffffffffffffffffffffffffffffffffffffffffffffffffffffffffffffffffffffffffffffffffffffffffffffffffffffffffffffffffffffffffffffffffffffffff

theorem fpExecAcqRdWrite_eq : fpExecAcqRdWrite =
    fpRegW := by decide +kernel

theorem execAcqRdWrite_within (m : Master) (u : Fin 16) (v : BitVec 32) (s : State) : Completes fpExecAcqRdWrite s (execAcqRdWrite m u v s) := by
  unfold execAcqRdWrite
  refine Completes.next ?_
  refine Within.step ?_ (regW_within ..) (by decide +kernel)
  exact Within.refl _ _

/-- What `execTinStampPop` can change. -/
def fpExecTinStampPop : Nat :=
  0x93000000000000f80002600000000000000000000000000000000000000000000000000000000000000000000000000000082400000000001000006000000000000000000000800000e00fc003c001080000000000404009c00000000000003100000000800000000007e000001c0f942018480e000000000001fe0000000000000000000000000

theorem fpExecTinStampPop_eq : fpExecTinStampPop =
    fpRegRead := by decide +kernel

theorem execTinStampPop_within (m : Master) (tin : Fin 32) (s : State) : Completes fpExecTinStampPop s (execTinStampPop m tin s) := by
  unfold execTinStampPop
  refine Completes.next ?_
  refine Within.step ?_ (regRead_within ..) (by decide +kernel)
  exact Within.refl _ _

/-- What `execTdcCalibrate` can change. -/
def fpExecTdcCalibrate : Nat :=
  0x4fc04f8133e67f0300008fc02120000000000000000000000000000000000000000000000000000000000000000000000000000000ffffffffffffffffffffffffffffffffffffffffffffffffffffffffffffffffffffffffffffffffffffffffffffffffffffffffffffffffffffffffffffffffffffffffffffffffffffffffffffffffffffffffffff

theorem fpExecTdcCalibrate_eq : fpExecTdcCalibrate =
    fpRegW := by decide +kernel

theorem execTdcCalibrate_within (m : Master) (v : BitVec 32) (s : State) : Completes fpExecTdcCalibrate s (execTdcCalibrate m v s) := by
  unfold execTdcCalibrate
  refine Completes.next ?_
  refine Within.step ?_ (regW_within ..) (by decide +kernel)
  exact Within.refl _ _

/-- What `execTdcBinDataRead` can change. -/
def fpExecTdcBinDataRead : Nat :=
  0x93000000000000f80002600000000000000000000000000000000000000000000000000000000000000000000000000000082400000000001000006000000000000000000000800000e00fc003c001080000000000404009c00000000000003100000000800000000007e000001c0f942018480e000000000001fe0000000000000000000000000

theorem fpExecTdcBinDataRead_eq : fpExecTdcBinDataRead =
    fpRegRead := by decide +kernel

theorem execTdcBinDataRead_within (m : Master) (s : State) : Completes fpExecTdcBinDataRead s (execTdcBinDataRead m s) := by
  unfold execTdcBinDataRead
  refine Completes.next ?_
  refine Within.step ?_ (regRead_within ..) (by decide +kernel)
  exact Within.refl _ _

/-- What `execIntervalGo` can change. -/
def fpExecIntervalGo : Nat :=
  0x4fc04f8133e67f0300008fc02120000000000000000000000000000000000000000000000000000000000000000000000000000000ffffffffffffffffffffffffffffffffffffffffffffffffffffffffffffffffffffffffffffffffffffffffffffffffffffffffffffffffffffffffffffffffffffffffffffffffffffffffffffffffffffffffffff

theorem fpExecIntervalGo_eq : fpExecIntervalGo =
    fpRegW := by decide +kernel

theorem execIntervalGo_within (m : Master) (e : Fin 8) (v : BitVec 32) (s : State) : Completes fpExecIntervalGo s (execIntervalGo m e v s) := by
  unfold execIntervalGo
  refine Completes.next ?_
  refine Within.step ?_ (regW_within ..) (by decide +kernel)
  exact Within.refl _ _

/-- What `execFreqGo` can change. -/
def fpExecFreqGo : Nat :=
  0x4fc04f8133e67f0300008fc02120000000000000000000000000000000000000000000000000000000000000000000000000000000ffffffffffffffffffffffffffffffffffffffffffffffffffffffffffffffffffffffffffffffffffffffffffffffffffffffffffffffffffffffffffffffffffffffffffffffffffffffffffffffffffffffffffff

theorem fpExecFreqGo_eq : fpExecFreqGo =
    fpRegW := by decide +kernel

theorem execFreqGo_within (m : Master) (e : Fin 4) (v : BitVec 32) (s : State) : Completes fpExecFreqGo s (execFreqGo m e v s) := by
  unfold execFreqGo
  refine Completes.next ?_
  refine Within.step ?_ (regW_within ..) (by decide +kernel)
  exact Within.refl _ _

/-- What `execSoftwareFire` can change. -/
def fpExecSoftwareFire : Nat :=
  0x4fc04f8133e67f0300008fc02120000000000000000000000000000000000000000000000000000000000000000000000000000000ffffffffffffffffffffffffffffffffffffffffffffffffffffffffffffffffffffffffffffffffffffffffffffffffffffffffffffffffffffffffffffffffffffffffffffffffffffffffffffffffffffffffffff

theorem fpExecSoftwareFire_eq : fpExecSoftwareFire =
    fpRegW := by decide +kernel

theorem execSoftwareFire_within (m : Master) (c : Fin 512) (s : State) : Completes fpExecSoftwareFire s (execSoftwareFire m c s) := by
  unfold execSoftwareFire
  refine Completes.next ?_
  refine Within.step ?_ (regW_within ..) (by decide +kernel)
  exact Within.refl _ _

/-- What `execMbxTxWrite` can change. -/
def fpExecMbxTxWrite : Nat :=
  0x4fc04f8133e67f0300008fc02120000000000000000000000000000000000000000000000000000000000000000000000000000000ffffffffffffffffffffffffffffffffffffffffffffffffffffffffffffffffffffffffffffffffffffffffffffffffffffffffffffffffffffffffffffffffffffffffffffffffffffffffffffffffffffffffffff

theorem fpExecMbxTxWrite_eq : fpExecMbxTxWrite =
    fpRegW := by decide +kernel

theorem execMbxTxWrite_within (m : Master) (k : Fin 32) (b : Bool) (v : BitVec 64) (s : State) : Completes fpExecMbxTxWrite s (execMbxTxWrite m k
    b v s) := by
  unfold execMbxTxWrite
  refine Completes.next ?_
  refine Within.step ?_ (regW_within ..) (by decide +kernel)
  exact Within.refl _ _

/-- What `execMbxRxPop` can change. -/
def fpExecMbxRxPop : Nat :=
  0x93000000000000f80002600000000000000000000000000000000000000000000000000000000000000000000000000000082400000000001000006000000000000000000000800000e00fc003c001080000000000404009c00000000000003100000000800000000007e000001c0f942018480e000000000001fe0000000000000000000000000

theorem fpExecMbxRxPop_eq : fpExecMbxRxPop =
    fpRegRead := by decide +kernel

theorem execMbxRxPop_within (m : Master) (k : Fin 32) (b : Bool) (s : State) : Completes fpExecMbxRxPop s (execMbxRxPop m k b s) := by
  unfold execMbxRxPop
  refine Completes.next ?_
  refine Within.step ?_ (regRead_within ..) (by decide +kernel)
  exact Within.refl _ _

/-- What `execRxstatRead` can change. -/
def fpExecRxstatRead : Nat :=
  0x93000000000000f80002600000000000000000000000000000000000000000000000000000000000000000000000000000082400000000001000006000000000000000000000800000e00fc003c001080000000000404009c00000000000003100000000800000000007e000001c0f942018480e000000000001fe0000000000000000000000000

theorem fpExecRxstatRead_eq : fpExecRxstatRead =
    fpRegRead := by decide +kernel

theorem execRxstatRead_within (m : Master) (k : Fin 32) (b : Bool) (s : State) : Completes fpExecRxstatRead s (execRxstatRead m k b s) := by
  unfold execRxstatRead
  refine Completes.next ?_
  refine Within.step ?_ (regRead_within ..) (by decide +kernel)
  exact Within.refl _ _

/-- What `execMbxDoorbell` can change. -/
def fpExecMbxDoorbell : Nat :=
  0x4fc04f8133e67f0300008fc02120000000000000000000000000000000000000000000000000000000000000000000000000000000ffffffffffffffffffffffffffffffffffffffffffffffffffffffffffffffffffffffffffffffffffffffffffffffffffffffffffffffffffffffffffffffffffffffffffffffffffffffffffffffffffffffffffff

theorem fpExecMbxDoorbell_eq : fpExecMbxDoorbell =
    fpRegW := by decide +kernel

theorem execMbxDoorbell_within (m : Master) (k : Fin 32) (b : Bool) (s : State) : Completes fpExecMbxDoorbell s (execMbxDoorbell m k b s) := by
  unfold execMbxDoorbell
  refine Completes.next ?_
  refine Within.step ?_ (regW_within ..) (by decide +kernel)
  exact Within.refl _ _

/-- What `execMbxCfgWrite` can change. -/
def fpExecMbxCfgWrite : Nat :=
  0x4fc04f8133e67f0300008fc02120000000000000000000000000000000000000000000000000000000000000000000000000000000ffffffffffffffffffffffffffffffffffffffffffffffffffffffffffffffffffffffffffffffffffffffffffffffffffffffffffffffffffffffffffffffffffffffffffffffffffffffffffffffffffffffffffff

theorem fpExecMbxCfgWrite_eq : fpExecMbxCfgWrite =
    fpRegW := by decide +kernel

theorem execMbxCfgWrite_within (m : Master) (k : Fin 32) (v : BitVec 32) (s : State) : Completes fpExecMbxCfgWrite s (execMbxCfgWrite m k v s) :=
    by
  unfold execMbxCfgWrite
  refine Completes.next ?_
  refine Within.step ?_ (regW_within ..) (by decide +kernel)
  exact Within.refl _ _

/-- What `execLockAcquire` can change. -/
def fpExecLockAcquire : Nat :=
  0x93000000000000f80002600000000000000000000000000000000000000000000000000000000000000000000000000000082400000000001000006000000000000000000000800000e00fc003c001080000000000404009c00000000000003100000000800000000007e000001c0f942018480e000000000001fe0000000000000000000000000

theorem fpExecLockAcquire_eq : fpExecLockAcquire =
    fpRegRead := by decide +kernel

theorem execLockAcquire_within (m : Master) (r : Fin 63) (k : Fin 64) (s : State) : Completes fpExecLockAcquire s (execLockAcquire m r k s) := by
  unfold execLockAcquire
  refine Completes.next ?_
  refine Within.step ?_ (regRead_within ..) (by decide +kernel)
  exact Within.refl _ _

/-- What `execLockRelease` can change. -/
def fpExecLockRelease : Nat :=
  0x4fc04f8133e67f0300008fc02120000000000000000000000000000000000000000000000000000000000000000000000000000000ffffffffffffffffffffffffffffffffffffffffffffffffffffffffffffffffffffffffffffffffffffffffffffffffffffffffffffffffffffffffffffffffffffffffffffffffffffffffffffffffffffffffffff

theorem fpExecLockRelease_eq : fpExecLockRelease =
    fpRegW := by decide +kernel

theorem execLockRelease_within (m : Master) (r : Fin 63) (k : Fin 64) (v : BitVec 32) (s : State) : Completes fpExecLockRelease s
    (execLockRelease m r k v s) := by
  unfold execLockRelease
  refine Completes.next ?_
  refine Within.step ?_ (regW_within ..) (by decide +kernel)
  exact Within.refl _ _

/-- What `execLockForceRelease` can change. -/
def fpExecLockForceRelease : Nat :=
  0x4fc04f8133e67f0300008fc02120000000000000000000000000000000000000000000000000000000000000000000000000000000ffffffffffffffffffffffffffffffffffffffffffffffffffffffffffffffffffffffffffffffffffffffffffffffffffffffffffffffffffffffffffffffffffffffffffffffffffffffffffffffffffffffffffff

theorem fpExecLockForceRelease_eq : fpExecLockForceRelease =
    fpRegW := by decide +kernel

theorem execLockForceRelease_within (m : Master) (k : Fin 64) (v : BitVec 32) (s : State) : Completes fpExecLockForceRelease s
    (execLockForceRelease m k v s) := by
  unfold execLockForceRelease
  refine Completes.next ?_
  refine Within.step ?_ (regW_within ..) (by decide +kernel)
  exact Within.refl _ _

/-- What `execCoreReset` can change. -/
def fpExecCoreReset : Nat :=
  0x4fc04f8133e67f0300008fc02120000000000000000000000000000000000000000000000000000000000000000000000000000000ffffffffffffffffffffffffffffffffffffffffffffffffffffffffffffffffffffffffffffffffffffffffffffffffffffffffffffffffffffffffffffffffffffffffffffffffffffffffffffffffffffffffffff

theorem fpExecCoreReset_eq : fpExecCoreReset =
    fpRegW := by decide +kernel

theorem execCoreReset_within (m : Master) (k : Fin 8) (s : State) : Completes fpExecCoreReset s (execCoreReset m k s) := by
  unfold execCoreReset
  refine Completes.next ?_
  refine Within.step ?_ (regW_within ..) (by decide +kernel)
  exact Within.refl _ _

/-- What `execHlockOpen` can change. -/
def fpExecHlockOpen : Nat :=
  0x4fc04f8133e67f0300008fc02120000000000000000000000000000000000000000000000000000000000000000000000000000000ffffffffffffffffffffffffffffffffffffffffffffffffffffffffffffffffffffffffffffffffffffffffffffffffffffffffffffffffffffffffffffffffffffffffffffffffffffffffffffffffffffffffffff

theorem fpExecHlockOpen_eq : fpExecHlockOpen =
    fpRegW := by decide +kernel

theorem execHlockOpen_within (m : Master) (k : Fin 8) (v : BitVec 32) (s : State) : Completes fpExecHlockOpen s (execHlockOpen m k v s) := by
  unfold execHlockOpen
  refine Completes.next ?_
  refine Within.step ?_ (regW_within ..) (by decide +kernel)
  exact Within.refl _ _

/-- What `execSlotTableCommit` can change. -/
def fpExecSlotTableCommit : Nat :=
  0x4fc04f8133e67f0300008fc02120000000000000000000000000000000000000000000000000000000000000000000000000000000ffffffffffffffffffffffffffffffffffffffffffffffffffffffffffffffffffffffffffffffffffffffffffffffffffffffffffffffffffffffffffffffffffffffffffffffffffffffffffffffffffffffffffff

theorem fpExecSlotTableCommit_eq : fpExecSlotTableCommit =
    fpRegW := by decide +kernel

theorem execSlotTableCommit_within (m : Master) (t : Fin 2) (s : State) : Completes fpExecSlotTableCommit s (execSlotTableCommit m t s) := by
  unfold execSlotTableCommit
  refine Completes.next ?_
  refine Within.step ?_ (regW_within ..) (by decide +kernel)
  exact Within.refl _ _

/-- What `execResultRingRelease` can change. -/
def fpExecResultRingRelease : Nat :=
  0x4fc04f8133e67f0300008fc02120000000000000000000000000000000000000000000000000000000000000000000000000000000ffffffffffffffffffffffffffffffffffffffffffffffffffffffffffffffffffffffffffffffffffffffffffffffffffffffffffffffffffffffffffffffffffffffffffffffffffffffffffffffffffffffffffff

theorem fpExecResultRingRelease_eq : fpExecResultRingRelease =
    fpRegW := by decide +kernel

theorem execResultRingRelease_within (m : Master) (q : Fin 25) (v : BitVec 32) (s : State) : Completes fpExecResultRingRelease s
    (execResultRingRelease m q v s) := by
  unfold execResultRingRelease
  refine Completes.next ?_
  refine Within.step ?_ (regW_within ..) (by decide +kernel)
  exact Within.refl _ _

/-- What `execLaneEnable` can change. -/
def fpExecLaneEnable : Nat :=
  0x4fc04f8133e67f0300008fc02120000000000000000000000000000000000000000000000000000000000000000000000000000000ffffffffffffffffffffffffffffffffffffffffffffffffffffffffffffffffffffffffffffffffffffffffffffffffffffffffffffffffffffffffffffffffffffffffffffffffffffffffffffffffffffffffffff

theorem fpExecLaneEnable_eq : fpExecLaneEnable =
    fpRegW := by decide +kernel

theorem execLaneEnable_within (m : Master) (l : Fin 24) (on : Bool) (s : State) : Completes fpExecLaneEnable s (execLaneEnable m l on s) := by
  unfold execLaneEnable
  refine Completes.next ?_
  refine Within.step ?_ (regW_within ..) (by decide +kernel)
  exact Within.refl _ _

/-- What `execLaneRetrain` can change. -/
def fpExecLaneRetrain : Nat :=
  0x4fc04f8133e67f0300008fc02120000000000000000000000000000000000000000000000000000000000000000000000000000000ffffffffffffffffffffffffffffffffffffffffffffffffffffffffffffffffffffffffffffffffffffffffffffffffffffffffffffffffffffffffffffffffffffffffffffffffffffffffffffffffffffffffffff

theorem fpExecLaneRetrain_eq : fpExecLaneRetrain =
    fpRegW := by decide +kernel

theorem execLaneRetrain_within (m : Master) (l : Fin 24) (s : State) : Completes fpExecLaneRetrain s (execLaneRetrain m l s) := by
  unfold execLaneRetrain
  refine Completes.next ?_
  refine Within.step ?_ (regW_within ..) (by decide +kernel)
  exact Within.refl _ _

/-- What `execLaneTestMode` can change. -/
def fpExecLaneTestMode : Nat :=
  0x4fc04f8133e67f0300008fc02120000000000000000000000000000000000000000000000000000000000000000000000000000000ffffffffffffffffffffffffffffffffffffffffffffffffffffffffffffffffffffffffffffffffffffffffffffffffffffffffffffffffffffffffffffffffffffffffffffffffffffffffffffffffffffffffffff

theorem fpExecLaneTestMode_eq : fpExecLaneTestMode =
    fpRegW := by decide +kernel

theorem execLaneTestMode_within (m : Master) (l : Fin 24) (mode : Fin 4) (s : State) : Completes fpExecLaneTestMode s (execLaneTestMode m l mode
    s) := by
  unfold execLaneTestMode
  refine Completes.next ?_
  refine Within.step ?_ (regW_within ..) (by decide +kernel)
  exact Within.refl _ _

/-- What `execPointingGo` can change. -/
def fpExecPointingGo : Nat :=
  0x4fc04f8133e67f0300008fc02120000000000000000000000000000000000000000000000000000000000000000000000000000000ffffffffffffffffffffffffffffffffffffffffffffffffffffffffffffffffffffffffffffffffffffffffffffffffffffffffffffffffffffffffffffffffffffffffffffffffffffffffffffffffffffffffffff

theorem fpExecPointingGo_eq : fpExecPointingGo =
    fpRegW := by decide +kernel

theorem execPointingGo_within (m : Master) (v : BitVec 30) (s : State) : Completes fpExecPointingGo s (execPointingGo m v s) := by
  unfold execPointingGo
  refine Completes.next ?_
  refine Within.step ?_ (regW_within ..) (by decide +kernel)
  exact Within.refl _ _

/-- What `execPointingAbort` can change. -/
def fpExecPointingAbort : Nat :=
  0x4fc04f8133e67f0300008fc02120000000000000000000000000000000000000000000000000000000000000000000000000000000ffffffffffffffffffffffffffffffffffffffffffffffffffffffffffffffffffffffffffffffffffffffffffffffffffffffffffffffffffffffffffffffffffffffffffffffffffffffffffffffffffffffffffff

theorem fpExecPointingAbort_eq : fpExecPointingAbort =
    fpRegW := by decide +kernel

theorem execPointingAbort_within (m : Master) (s : State) : Completes fpExecPointingAbort s (execPointingAbort m s) := by
  unfold execPointingAbort
  refine Completes.next ?_
  refine Within.step ?_ (regW_within ..) (by decide +kernel)
  exact Within.refl _ _

/-- What `execPntLogClear` can change. -/
def fpExecPntLogClear : Nat :=
  0x4fc04f8133e67f0300008fc02120000000000000000000000000000000000000000000000000000000000000000000000000000000ffffffffffffffffffffffffffffffffffffffffffffffffffffffffffffffffffffffffffffffffffffffffffffffffffffffffffffffffffffffffffffffffffffffffffffffffffffffffffffffffffffffffffff

theorem fpExecPntLogClear_eq : fpExecPntLogClear =
    fpRegW := by decide +kernel

theorem execPntLogClear_within (m : Master) (v : BitVec 32) (s : State) : Completes fpExecPntLogClear s (execPntLogClear m v s) := by
  unfold execPntLogClear
  refine Completes.next ?_
  refine Within.step ?_ (regW_within ..) (by decide +kernel)
  exact Within.refl _ _

/-- What `execPntTrimDataRead` can change. -/
def fpExecPntTrimDataRead : Nat :=
  0x93000000000000f80002600000000000000000000000000000000000000000000000000000000000000000000000000000082400000000001000006000000000000000000000800000e00fc003c001080000000000404009c00000000000003100000000800000000007e000001c0f942018480e000000000001fe0000000000000000000000000

theorem fpExecPntTrimDataRead_eq : fpExecPntTrimDataRead =
    fpRegRead := by decide +kernel

theorem execPntTrimDataRead_within (m : Master) (s : State) : Completes fpExecPntTrimDataRead s (execPntTrimDataRead m s) := by
  unfold execPntTrimDataRead
  refine Completes.next ?_
  refine Within.step ?_ (regRead_within ..) (by decide +kernel)
  exact Within.refl _ _

/-- What `execMonSeqEnable` can change. -/
def fpExecMonSeqEnable : Nat :=
  0x4fc04f8133e67f0300008fc02120000000000000000000000000000000000000000000000000000000000000000000000000000000ffffffffffffffffffffffffffffffffffffffffffffffffffffffffffffffffffffffffffffffffffffffffffffffffffffffffffffffffffffffffffffffffffffffffffffffffffffffffffffffffffffffffffff

theorem fpExecMonSeqEnable_eq : fpExecMonSeqEnable =
    fpRegW := by decide +kernel

theorem execMonSeqEnable_within (m : Master) (v : BitVec 32) (s : State) : Completes fpExecMonSeqEnable s (execMonSeqEnable m v s) := by
  unfold execMonSeqEnable
  refine Completes.next ?_
  refine Within.step ?_ (regW_within ..) (by decide +kernel)
  exact Within.refl _ _

/-- What `execHoldRequest` can change. -/
def fpExecHoldRequest : Nat :=
  0x4fc04f8133e67f0300008fc02120000000000000000000000000000000000000000000000000000000000000000000000000000000ffffffffffffffffffffffffffffffffffffffffffffffffffffffffffffffffffffffffffffffffffffffffffffffffffffffffffffffffffffffffffffffffffffffffffffffffffffffffffffffffffffffffffff

theorem fpExecHoldRequest_eq : fpExecHoldRequest =
    fpRegW := by decide +kernel

theorem execHoldRequest_within (m : Master) (s : State) : Completes fpExecHoldRequest s (execHoldRequest m s) := by
  unfold execHoldRequest
  refine Completes.next ?_
  refine Within.step ?_ (regW_within ..) (by decide +kernel)
  exact Within.refl _ _

/-- What `execRunRequest` can change. -/
def fpExecRunRequest : Nat :=
  0x4fc04f8133e67f0300008fc02120000000000000000000000000000000000000000000000000000000000000000000000000000000ffffffffffffffffffffffffffffffffffffffffffffffffffffffffffffffffffffffffffffffffffffffffffffffffffffffffffffffffffffffffffffffffffffffffffffffffffffffffffffffffffffffffffff

theorem fpExecRunRequest_eq : fpExecRunRequest =
    fpRegW := by decide +kernel

theorem execRunRequest_within (m : Master) (s : State) : Completes fpExecRunRequest s (execRunRequest m s) := by
  unfold execRunRequest
  refine Completes.next ?_
  refine Within.step ?_ (regW_within ..) (by decide +kernel)
  exact Within.refl _ _

/-- What `execStandbyRequest` can change. -/
def fpExecStandbyRequest : Nat :=
  0x4fc04f8133e67f0300008fc02120000000000000000000000000000000000000000000000000000000000000000000000000000000ffffffffffffffffffffffffffffffffffffffffffffffffffffffffffffffffffffffffffffffffffffffffffffffffffffffffffffffffffffffffffffffffffffffffffffffffffffffffffffffffffffffffffff

theorem fpExecStandbyRequest_eq : fpExecStandbyRequest =
    fpRegW := by decide +kernel

theorem execStandbyRequest_within (m : Master) (s : State) : Completes fpExecStandbyRequest s (execStandbyRequest m s) := by
  unfold execStandbyRequest
  refine Completes.next ?_
  refine Within.step ?_ (regW_within ..) (by decide +kernel)
  exact Within.refl _ _

/-- What `execStandbyExit` can change. -/
def fpExecStandbyExit : Nat :=
  0x4fc04f8133e67f0300008fc02120000000000000000000000000000000000000000000000000000000000000000000000000000000ffffffffffffffffffffffffffffffffffffffffffffffffffffffffffffffffffffffffffffffffffffffffffffffffffffffffffffffffffffffffffffffffffffffffffffffffffffffffffffffffffffffffffff

theorem fpExecStandbyExit_eq : fpExecStandbyExit =
    fpRegW := by decide +kernel

theorem execStandbyExit_within (m : Master) (s : State) : Completes fpExecStandbyExit s (execStandbyExit m s) := by
  unfold execStandbyExit
  refine Completes.next ?_
  refine Within.step ?_ (regW_within ..) (by decide +kernel)
  exact Within.refl _ _

/-- What `execBootStageImage` can change. -/
def fpExecBootStageImage : Nat :=
  0x4fc04f8133e67f0300008fc02120000000000000000000000000000000000000000000000000000000000000000000000000000000ffffffffffffffffffffffffffffffffffffffffffffffffffffffffffffffffffffffffffffffffffffffffffffffffffffffffffffffffffffffffffffffffffffffffffffffffffffffffffffffffffffffffffff

theorem fpExecBootStageImage_eq : fpExecBootStageImage =
    fpRegW := by decide +kernel

theorem execBootStageImage_within (m : Master) (s : State) : Completes fpExecBootStageImage s (execBootStageImage m s) := by
  unfold execBootStageImage
  refine Completes.next ?_
  refine Within.step ?_ (regW_within ..) (by decide +kernel)
  exact Within.refl _ _

/-- What `execBootRecast` can change. -/
def fpExecBootRecast : Nat :=
  0x4fc04f8133e67f0300008fc02120000000000000000000000000000000000000000000000000000000000000000000000000000000ffffffffffffffffffffffffffffffffffffffffffffffffffffffffffffffffffffffffffffffffffffffffffffffffffffffffffffffffffffffffffffffffffffffffffffffffffffffffffffffffffffffffffff

theorem fpExecBootRecast_eq : fpExecBootRecast =
    fpRegW := by decide +kernel

theorem execBootRecast_within (m : Master) (s : State) : Completes fpExecBootRecast s (execBootRecast m s) := by
  unfold execBootRecast
  refine Completes.next ?_
  refine Within.step ?_ (regW_within ..) (by decide +kernel)
  exact Within.refl _ _

/-- What `execBootStageFirmware` can change. -/
def fpExecBootStageFirmware : Nat :=
  0x4fc04f8133e67f0300008fc02120000000000000000000000000000000000000000000000000000000000000000000000000000000ffffffffffffffffffffffffffffffffffffffffffffffffffffffffffffffffffffffffffffffffffffffffffffffffffffffffffffffffffffffffffffffffffffffffffffffffffffffffffffffffffffffffffff

theorem fpExecBootStageFirmware_eq : fpExecBootStageFirmware =
    fpRegW := by decide +kernel

theorem execBootStageFirmware_within (m : Master) (s : State) : Completes fpExecBootStageFirmware s (execBootStageFirmware m s) := by
  unfold execBootStageFirmware
  refine Completes.next ?_
  refine Within.step ?_ (regW_within ..) (by decide +kernel)
  exact Within.refl _ _

/-- What `execBootFlushLog` can change. -/
def fpExecBootFlushLog : Nat :=
  0x4fc04f8133e67f0300008fc02120000000000000000000000000000000000000000000000000000000000000000000000000000000ffffffffffffffffffffffffffffffffffffffffffffffffffffffffffffffffffffffffffffffffffffffffffffffffffffffffffffffffffffffffffffffffffffffffffffffffffffffffffffffffffffffffffff

theorem fpExecBootFlushLog_eq : fpExecBootFlushLog =
    fpRegW := by decide +kernel

theorem execBootFlushLog_within (m : Master) (s : State) : Completes fpExecBootFlushLog s (execBootFlushLog m s) := by
  unfold execBootFlushLog
  refine Completes.next ?_
  refine Within.step ?_ (regW_within ..) (by decide +kernel)
  exact Within.refl _ _

/-- What `execOtpProgram` can change. -/
def fpExecOtpProgram : Nat :=
  0x4fc04f8133e67f0300008fc02120000000000000000000000000000000000000000000000000000000000000000000000000000000ffffffffffffffffffffffffffffffffffffffffffffffffffffffffffffffffffffffffffffffffffffffffffffffffffffffffffffffffffffffffffffffffffffffffffffffffffffffffffffffffffffffffffff

theorem fpExecOtpProgram_eq : fpExecOtpProgram =
    fpRegW := by decide +kernel

theorem execOtpProgram_within (m : Master) (k : Fin 4) (s : State) : Completes fpExecOtpProgram s (execOtpProgram m k s) := by
  unfold execOtpProgram
  refine Completes.next ?_
  refine Within.step ?_ (regW_within ..) (by decide +kernel)
  exact Within.refl _ _

/-- What `execOtpRevoke` can change. -/
def fpExecOtpRevoke : Nat :=
  0x4fc04f8133e67f0300008fc02120000000000000000000000000000000000000000000000000000000000000000000000000000000ffffffffffffffffffffffffffffffffffffffffffffffffffffffffffffffffffffffffffffffffffffffffffffffffffffffffffffffffffffffffffffffffffffffffffffffffffffffffffffffffffffffffffff

theorem fpExecOtpRevoke_eq : fpExecOtpRevoke =
    fpRegW := by decide +kernel

theorem execOtpRevoke_within (m : Master) (k : Fin 4) (s : State) : Completes fpExecOtpRevoke s (execOtpRevoke m k s) := by
  unfold execOtpRevoke
  refine Completes.next ?_
  refine Within.step ?_ (regW_within ..) (by decide +kernel)
  exact Within.refl _ _

end Sys2Proof.Machine
end

