-- ==== Sys2Proof/Laws/Tick.lean ====
section
/-! SUPPORT. What each operation of Sys2Proof/Machine/Tick.lean can change. -/

set_option Elab.async false

namespace Sys2Proof.Machine

/-- What `tickEnd` can change. -/
def fpTickEnd : Nat :=
  0x50940388400020f8300200000000000000000000000000000000000000000000000000000000000000000000000000000008d04004000000000000000000000e60000000000000c0000000000000000000000000000000000000000000000000000000000000000000000000000000000018080000000000000000000000000000007f0707f0000

theorem fpTickEnd_eq : fpTickEnd =
    fpFrmSettle ||| fpLineChain ||| fpLineOut ||| fpSlotTickEnd ||| fpCapTickEnd ||| fpChsReservedTick ||| fpClpTickEnd := by decide +kernel

theorem tickEnd_within (s : State) : Within fpTickEnd s (tickEnd s) := by
  unfold tickEnd
  extract_lets -lift +onlyGivenNames a1
  have h1 : Within fpTickEnd s a1 := by
    unfold a1
    refine Within.forAll _ ?_ fun a2 _ => ?_
    · refine Within.step ?_ (chsReservedTick_within ..) (by decide +kernel)
      exact Within.refl _ _
    · refine Within.step ?_ (slotTickEnd_within ..) (by decide +kernel)
      exact Within.refl _ _
  clear_value a1
  extract_lets -lift +onlyGivenNames a2
  have h2 : Within fpTickEnd s a2 := by
    unfold a2
    refine Within.forAll _ ?_ fun a3 _ => ?_
    · exact h1
    · refine Within.step ?_ (lineChain_within ..) (by decide +kernel)
      exact Within.refl _ _
  clear_value a2
  extract_lets -lift +onlyGivenNames a3
  have h3 : Within fpTickEnd s a3 := by
    unfold a3
    refine Within.forAll _ ?_ fun a4 _ => ?_
    · exact h2
    · refine Within.step ?_ (lineOut_within ..) (by decide +kernel)
      exact Within.refl _ _
  clear_value a3
  extract_lets -lift +onlyGivenNames a4
  have h4 : Within fpTickEnd s a4 := by
    unfold a4
    refine Within.forAll _ ?_ fun a5 _ => ?_
    · exact h3
    · refine Within.step ?_ (clpTickEnd_within ..) (by decide +kernel)
      exact Within.refl _ _
  clear_value a4
  refine Within.step ?_ (frmSettle_within ..) (by decide +kernel)
  refine Within.forAll _ ?_ fun a5 _ => ?_
  · exact h4
  · refine Within.step ?_ (capTickEnd_within ..) (by decide +kernel)
    exact Within.refl _ _

/-- What `alarmTick` can change. -/
def fpAlarmTick : Nat := footprint [] [.alarmLast, .clk]

theorem alarmTick_within (s : State) : Within fpAlarmTick s (alarmTick s) := by
  unfold alarmTick
  extract_lets -lift +onlyGivenNames a1
  clear_value a1
  refine Within.ite ?_ ?_
  · refine Within.step ?_ (upd_alarmLast_clk_within _ _ _) (by decide +kernel)
    exact Within.refl _ _
  · refine Within.step ?_ (clk_within _ _) (by decide +kernel)
    exact Within.refl _ _

/-- What `tickCount` can change. -/
def fpTickCount : Nat := footprint [] [.now, .tick, .epochDue]

theorem tickCount_within (s : State) : Within fpTickCount s (tickCount s) := by
  unfold tickCount
  extract_lets -lift +onlyGivenNames a1
  clear_value a1
  refine Within.step ?_ (upd_now_tick_epochDue_within _ _ _ _) (by decide +kernel)
  exact Within.refl _ _

/-- What `cycleNext` can change. -/
def fpCycleNext : Nat := 0

theorem cycleNext_within (s : State) : Within fpCycleNext s (cycleNext s) := by
  unfold cycleNext
  refine Within.step ?_ (cyc_within _ _) (by decide +kernel)
  exact Within.refl _ _

/-- What `tickForget` can change. -/
def fpTickForget : Nat := footprint [] [.tinSeen, .fired, .pubSeen]

theorem tickForget_within (s : State) : Within fpTickForget s (tickForget s) := by
  unfold tickForget
  refine Within.step ?_ (upd_tinSeen_fired_pubSeen_within _ _ _ _) (by decide +kernel)
  exact Within.refl _ _

/-- What `resTick` can change. -/
def fpResTick : Nat := fpResEval

theorem resTick_within (s : State) : Within fpResTick s (resTick s) := by
  unfold resTick
  exact Within.forAll _ (Within.refl _ _) fun _ _ => Within.step (Within.refl _ _) (resEval_within ..) (by decide +kernel)

/-- What `tickStart` can change. -/
def fpTickStart : Nat :=
  0x38050632400060f872020000000000000000000000000000000000000000000000000000000000000000000000000000000c000044001000000000008800000080002000000000c0030000000000000000000000000000000000000000000000000000000000009000000000000000000018080000000000d00000000000000000007f8727f0000

theorem fpTickStart_eq : fpTickStart =
    footprint [R.CLK_STATUS_TIME_PENDING] [] ||| fpMarksDue ||| fpStmVisible ||| fpSlotTickStart ||| fpBiasLadders |||
  fpGovTick ||| fpWinTick ||| fpSkewTick ||| fpChsReservedTick ||| fpClpTickStart ||| fpEvhVisible ||| fpTickForget ||| fpResTick := by decide +kernel

theorem tickStart_within (s : State) : Within fpTickStart s (tickStart s) := by
  unfold tickStart
  extract_lets -lift +onlyGivenNames a1
  have h1 : Within fpTickStart s a1 := by
    unfold a1
    refine Within.step ?_ (stmVisible_within ..) (by decide +kernel)
    refine Within.step ?_ (marksDue_within ..) (by decide +kernel)
    refine Within.step ?_ (skewTick_within ..) (by decide +kernel)
    refine Within.step ?_ (tickForget_within ..) (by decide +kernel)
    exact Within.refl _ _
  clear_value a1
  extract_lets -lift +onlyGivenNames a2
  have h2 : Within fpTickStart s a2 := by
    unfold a2
    refine Within.step ?_ (biasLadders_within ..) (by decide +kernel)
    refine Within.forAll _ ?_ fun a3 _ => ?_
    · exact h1
    · refine Within.step ?_ (govTick_within ..) (by decide +kernel)
      exact Within.refl _ _
  clear_value a2
  extract_lets -lift +onlyGivenNames a3
  have h3 : Within fpTickStart s a3 := by
    unfold a3
    refine Within.forAll _ ?_ fun a4 _ => ?_
    · exact h2
    · refine Within.step ?_ (slotTickStart_within ..) (by decide +kernel)
      exact Within.refl _ _
  clear_value a3
  extract_lets -lift +onlyGivenNames a4
  have h4 : Within fpTickStart s a4 := by
    unfold a4
    refine Within.forAll _ ?_ fun a5 _ => ?_
    · exact h3
    · refine Within.step ?_ (winTick_within ..) (by decide +kernel)
      exact Within.refl _ _
  clear_value a4
  extract_lets -lift +onlyGivenNames a5
  have h5 : Within fpTickStart s a5 := by
    unfold a5
    refine Within.step ?_ (resTick_within ..) (by decide +kernel)
    refine Within.step ?_ (chsReservedTick_within ..) (by decide +kernel)
    refine Within.step ?_ (evhVisible_within ..) (by decide +kernel)
    refine Within.forAll _ ?_ fun a6 _ => ?_
    · exact h4
    · refine Within.step ?_ (clpTickStart_within ..) (by decide +kernel)
      exact Within.refl _ _
  clear_value a5
  refine Within.ite ?_ ?_
  · refine Within.step ?_ (set_within _ _ _ (by decide +kernel)) (by decide +kernel)
    exact h5
  · exact h5

/-- What `tickElapse` can change. -/
def fpTickElapse : Nat :=
  0x41800807b9507ba400062f87a0b8000000000000000000000000000000000000000000000000000000000000000000000000000000cd04044001000000000008800000ee1002000000000c0030000000000000000000000000000000000004000030000014000000000009000000000000100f50218080000000000d00000000000000040007f8727f0000

theorem fpTickElapse_eq : fpTickElapse =
    footprint [] [.clock] ||| fpPntTick ||| fpTickEnd ||| fpAlarmTick ||| fpTickCount ||| fpCycleNext ||| fpTickStart := by decide +kernel

theorem tickElapse_within (s : State) : Within fpTickElapse s (tickElapse s) := by
  unfold tickElapse
  extract_lets -lift +onlyGivenNames a1
  have h1 : Within fpTickElapse s a1 := by
    unfold a1
    refine Within.ite ?_ ?_
    · refine Within.step ?_ (tickStart_within ..) (by decide +kernel)
      refine Within.step ?_ (tickCount_within ..) (by decide +kernel)
      refine Within.step ?_ (cycleNext_within ..) (by decide +kernel)
      refine Within.step ?_ (alarmTick_within ..) (by decide +kernel)
      refine Within.step ?_ (tickEnd_within ..) (by decide +kernel)
      exact Within.refl _ _
    · refine Within.step ?_ (cycleNext_within ..) (by decide +kernel)
      exact Within.refl _ _
  clear_value a1
  refine Within.step ?_ (pntTick_within ..) (by decide +kernel)
  refine Within.step ?_ (clock_within _ _) (by decide +kernel)
  exact h1

end Sys2Proof.Machine
end

