-- ==== Sys2Proof/WellFormed.lean ====
section
/-! DEFINITION. The bounds that the operands of a command keep beyond their types: what can reach the block at all. exec itself is total. -/

namespace Sys2Proof

open Sys2Proof.Machine

/-- The parties of Table MBX-1. -/
def partyOk (p : Nat) : Bool := p == 1 || p == 2 || decide (0x10 ≤ p ∧ p ≤ 0x15) || p == 0x20 || decide (0x40 ≤ p ∧ p ≤ 0x7F)

/-- The bounds of one command. -/
def Instr.wf : Instr → Bool
  -- a block data path and the casting loader make no register access of their own; W4 is the host's (Table SEC-1, Table HST-3)
  | .registerWrite m w4 .. => m != .dataPath && (!w4 || m == .host)
  | .latchedPairRead m w4 .. => m != .dataPath && (!w4 || m == .host)
  -- a read is of 1 to 4,096 bytes, a write of at most a payload (R380, R381)
  | .w2Access write _ n data _ => if write then decide (1 ≤ data.length ∧ data.length ≤ 512) else decide (1 ≤ n.toNat ∧ n.toNat ≤ 4096)
  -- within one aperture (Table HST-4)
  | .streamApertureWrite _ o data => decide (1 ≤ data.length ∧ o.val + data.length ≤ 16384)
  | .partyReset p => partyOk p.toNat
  -- a frame has at most 7 argument words (Table HST-6)
  | .hello _ a | .getStatus _ a | .setRunstate _ a | .stageImage _ a | .recast _ a | .stageFirmware _ a | .recoveryCast _ a | .telemetry _ a
  | .calCommit _ a | .pointingRun _ a | .setPower _ a | .loadNcode _ a => decide (a.length ≤ 7)
  -- one reading for each of the 29 dies (R452)
  | .thermalEvaluate temps => temps.length == 29
  -- at most the 65 SUB values of an item (Table PNT-1)
  | .pointingMeasurement _ ms => decide (1 ≤ ms.length ∧ ms.length ≤ 65)
  -- hit counts of 512 bins (R329)
  | .tdcCalDone hits => hits.length == 512
  | _ => true

end Sys2Proof
end

