-- ==== Sys2Proof/Tests/Slice0.lean ====
section
/-! SUPPORT. The author's tests: an ill-formed term for each check of WellFormed, a concrete state and operands for the premises of each clause
of the statements, and single steps whose results come from the manual. -/

set_option Elab.async false
set_option exponentiation.threshold 5000
set_option linter.unusedVariables false

open Sys2Proof Sys2Proof.Machine

namespace Sys2Proof.Tests

/-! ### WellFormed refuses -/

theorem test_wf_write_by_data_path : (Instr.registerWrite .dataPath false 0 2 0).wf = false := by decide +kernel
theorem test_wf_w4_write_by_core : (Instr.registerWrite (.core 3) true 0 2 0).wf = false := by decide +kernel
theorem test_wf_read_by_data_path : (Instr.latchedPairRead .dataPath false 0 2).wf = false := by decide +kernel
theorem test_wf_w4_read_by_s0 : (Instr.latchedPairRead .s0 true 0 2).wf = false := by decide +kernel
theorem test_wf_w2_empty_write : (Instr.w2Access true 0 0 [] 0).wf = false := by decide +kernel
theorem test_wf_w2_long_write : (Instr.w2Access true 0 0 (List.replicate 513 0) 0).wf = false := by decide +kernel
theorem test_wf_w2_empty_read : (Instr.w2Access false 0 0 [] 0).wf = false := by decide +kernel
theorem test_wf_w2_long_read : (Instr.w2Access false 0 4097 [] 0).wf = false := by decide +kernel
theorem test_wf_aperture_past_end : (Instr.streamApertureWrite 0 16383 [1, 2]).wf = false := by decide +kernel
theorem test_wf_party : (Instr.partyReset 3).wf = false := by decide +kernel
theorem test_wf_host_args : (Instr.hello 0 (List.replicate 8 0)).wf = false := by decide +kernel
theorem test_wf_temperatures : (Instr.thermalEvaluate (List.replicate 28 0)).wf = false := by decide +kernel
theorem test_wf_measurements : (Instr.pointingMeasurement 0 []).wf = false := by decide +kernel
theorem test_wf_hit_counts : (Instr.tdcCalDone (List.replicate 511 0)).wf = false := by decide +kernel
theorem test_wf_accepts : (Instr.partyReset 0x10).wf = true := by decide +kernel

/-! ### Witnesses -/

/-- The module in HOLD, cast and powered. -/
def wUp : State := ((State.reset.set R.BOOT_STATUS_STATE 7).set R.PWR_STATE_STATE 2).set R.PWR_STATUS_RAILS_GOOD 127
/-- The module in RUN. -/
def wRun : State := wUp.set R.PWR_STATE_STATE 1

/-! Witnesses: 01 -/

theorem witness_EmptyQueueTick_1 : ∃ s : State, s.pending = [] :=
  ⟨State.reset, by decide +kernel⟩
theorem witness_HbmReadBack_1 : ∃ (s : State) (a : Nat) (b : BitVec 8), Memory.wf s = true :=
  ⟨State.reset, 7, 9, by decide +kernel⟩
theorem witness_CanonKept_1 : ∃ s t : State, Canon s ∧ step s = .next t :=
  ⟨State.reset, (tickElapse State.reset), by unfold Canon RegsFit; decide +kernel, rfl⟩
theorem witness_CanonicalMemoriesEqual_1 : ∃ s t : State, Memory.wf s = true ∧ Memory.wf t = true ∧ (∀ a, hbmByte s a = hbmByte t a) :=
  ⟨State.reset, State.reset, by decide +kernel, by decide +kernel, fun _ => rfl⟩
theorem witness_CanonicalMemoriesEqual_2 : ∃ m m' : SMap Nat, swf 0 m = true ∧ swf 0 m' = true ∧ (∀ a, sget 0 m a = sget 0 m' a) :=
  ⟨[(3, 5)], [(3, 5)], by decide +kernel, by decide +kernel, fun _ => rfl⟩
theorem witness_KeysStayRevoked_1 : ∃ (c : Instr) (s t : State) (k : Fin 4), Canon s ∧ exec c s = .next t ∧ keyState s k = 2 :=
  ⟨.otpDone, (State.reset.set R.SEC_KEY_STATE_STATE 2), (State.reset.set R.SEC_KEY_STATE_STATE 2), 0, by unfold Canon RegsFit; decide +kernel, rfl, by decide +kernel⟩

/-! Witnesses: 02 -/

def rAt (off : Nat) : Reg := ((regAt off allRegs).map (·.1)).getD ⟨0, [], false, .both, false, []⟩
def iAt (off : Nat) : List Nat := ((regAt off allRegs).map (·.2.1)).getD []
theorem witness_WritesFollowAccessCodes_1 : ∃ (m : Master) (off : BitVec 26) (v : BitVec 64) (s : State) (r : Reg) (is : List Nat), regAt off.toNat allRegs = some (r, is, 0) ∧ r.wide =
      false ∧ r.base ∉ activeBases ∧ reaches s m off.toNat true = true ∧ rtHeld s m = false :=
  ⟨.s0, 0x200018, 0xFFFFFFFF, wUp, (rAt 0x200018), (iAt 0x200018), by decide +kernel, by decide +kernel, by decide +kernel, by decide +kernel, by decide +kernel⟩
theorem witness_WritesFollowAccessCodes_2 : ∃ (m : Master) (off : BitVec 26) (v : BitVec 64) (s : State) (r : Reg) (is : List Nat), regAt off.toNat allRegs = some (r, is, 0) ∧ r.wide =
      false ∧ r.counter = false ∧ r.base ∉ activeBases ∧ reaches s m off.toNat true = true ∧ rtHeld s m = true :=
  ⟨.s0, 0x1FEFFE4, 0xFFFFFFFF, wRun, (rAt 0x1FEFFE4), (iAt 0x1FEFFE4), by decide +kernel, by decide +kernel, by decide +kernel, by decide +kernel, by decide +kernel, by decide +kernel⟩
theorem witness_WritesFollowAccessCodes_3 : ∃ (m : Master) (off : BitVec 26) (v : BitVec 32) (s : State) (r : Reg) (is : List Nat), regAt off.toNat allRegs = some (r, is, 0) ∧ r.counter
      = true ∧ r.base ∉ activeBases ∧ reaches s m off.toNat true = true :=
  ⟨.host, 0x30, 5, (wRun.set R.GLB_HARVEST_LATE_CNT_COUNT 7), (rAt 0x30), (iAt 0x30), by decide +kernel, by decide +kernel, by decide +kernel, by decide +kernel⟩
theorem witness_StickyWrites_1 : ∃ (m : Master) (v : BitVec 32) (s : State), reaches s m 0x20 true = true :=
  ⟨.host, 0xFF, (wRun.set R.GLB_TAINT_STICKY_TAINT 0xFF), by decide +kernel⟩
theorem witness_StickyWrites_2 : ∃ (m : Master) (v : BitVec 32) (s : State), reaches s m 0x40 true = true :=
  ⟨.s0, 0xFFFFFFFF, (((wRun.set R.GLB_CONTRACT_STICKY_CHS_CODES 0x7F).set R.GLB_CONTRACT_STICKY_CLP_CODES 0xFF).set R.GLB_CONTRACT_LOG_SRC_VALID 1 15), by decide +kernel⟩
theorem witness_ReadsReturnFields_1 : ∃ (m : Master) (off : BitVec 26) (s : State) (r : Reg) (is : List Nat), Canon s ∧ regAt off.toNat allRegs = some (r, is, 0) ∧ r.wide = false
      ∧ r.base ∉ activeReads ∧ reaches s m off.toNat false = true :=
  ⟨.host, 0, wUp, (rAt 0), (iAt 0), by unfold Canon RegsFit; decide +kernel, by decide +kernel, by decide +kernel, by decide +kernel, by decide +kernel⟩
theorem witness_ReadsReturnFields_2 : ∃ (m : Master) (s : State), reaches s m 0x200038 false = true :=
  ⟨.host, { wUp with now := 0xFEDCBA9876543210 }, by decide +kernel⟩
theorem witness_DataSlotWidths_1 : ∃ (m : Master) (off : BitVec 26) (size : Fin 4) (v : BitVec 64) (s : State) (r : Reg) (is : List Nat) (b : Nat), regAt off.toNat allRegs =
      some (r, is, b) ∧ r.wide = true ∧ reaches s m (off.toNat - b) true = true ∧ (b ≠ 0 ∨ size ≠ 3) :=
  ⟨.s0, 0x1000028, 2, 5, wUp, (rAt 0x1000028), (iAt 0x1000028), 0, by decide +kernel, by decide +kernel, by decide +kernel, by decide +kernel⟩
theorem witness_DataSlotWidths_3 : ∃ (m : Master) (off : BitVec 26) (s : State) (r : Reg) (is : List Nat), regAt off.toNat allRegs = some (r, is, 4) ∧ r.wide = true ∧ reaches s
      m (off.toNat - 4) false = true :=
  ⟨.s0, 0x100002C, wUp, (rAt 0x1000028), (iAt 0x1000028), by decide +kernel, by decide +kernel, by decide +kernel⟩
theorem witness_WorldsKeepOut_1 : ∃ (m : Master) (off : BitVec 26) (size : Fin 4) (v : BitVec 64) (s : State) (r : Reg) (is : List Nat) (b : Nat), regAt off.toNat allRegs =
      some (r, is, b) ∧ (size = 3 → r.wide = true ∨ off.toNat % 8 ≠ 0) ∧ s.xtalFail = false ∧ regLive s r = true ∧ masterSecure m = false ∧
      worldForbids s r is true = true :=
  ⟨.host, 0x100004, 2, 1, wUp, (rAt 0x100004), (iAt 0x100004), 0, by decide +kernel, by decide +kernel, by decide +kernel, by decide +kernel, by decide +kernel, by decide +kernel⟩
theorem witness_WorldsKeepOut_2 : ∃ (m : Master) (off : BitVec 26) (size : Fin 4) (s : State) (r : Reg) (is : List Nat) (b : Nat), regAt off.toNat allRegs = some (r, is, b) ∧
      (size = 3 → r.wide = true ∨ off.toNat % 8 ≠ 0) ∧ s.xtalFail = false ∧ regLive s r = true ∧ masterSecure m = false ∧ worldForbids s r is
      false = true :=
  ⟨.dataPath, 0x100004, 2, wUp, (rAt 0x100004), (iAt 0x100004), 0, by decide +kernel, by decide +kernel, by decide +kernel, by decide +kernel, by decide +kernel, by decide +kernel⟩
theorem witness_UnmappedAccesses_1 : ∃ (m : Master) (off : BitVec 26) (size : Fin 4) (v : BitVec 64) (s : State), regAt off.toNat allRegs = none ∧ (size = 3 → off.toNat % 8 ≠ 0)
      ∧ s.xtalFail = false :=
  ⟨.host, 0x3FFFFFC, 2, 1, wUp, by decide +kernel, by decide +kernel, by decide +kernel⟩
theorem witness_UnmappedAccesses_2 : ∃ (m : Master) (off : BitVec 26) (size : Fin 4) (s : State), regAt off.toNat allRegs = none ∧ (size = 3 → off.toNat % 8 ≠ 0) ∧ s.xtalFail =
      false :=
  ⟨.loader, 0x3FFFFFF, 0, wUp, by decide +kernel, by decide +kernel, by decide +kernel⟩
theorem witness_HarvestEntries_1 : ∃ (q : Fin 192) (tag : BitVec 16) (v : Word36) (s : State), sget 0 s.nq q ≠ 0 ∧ (sget [] s.harvest q).length < 64 ∧ (tag.toNat + 65536 - sget
      0 s.hNext q % 65536) % 65536 ≤ 16384 ∧ sget 0 s.hNext q < 65536 :=
  ⟨191, 0x0000, 0xFFFFFFFFF, { State.reset with nq := sset 0 [] 191 1, hNext := sset 0 [] 191 0xFFFF }, by decide +kernel, by decide +kernel, by decide +kernel, by decide +kernel⟩
theorem witness_HarvestEntries_2 : ∃ (q : Fin 192) (tag : BitVec 16) (v : Word36) (s : State), sget 0 s.nq q = 0 :=
  ⟨191, 0x0000, 0xFFFFFFFFF, State.reset, by decide +kernel⟩
theorem witness_HarvestEntries_3 : ∃ (q : Fin 192) (tag : BitVec 16) (v : Word36) (s : State), sget 0 s.nq q ≠ 0 ∧ (sget [] s.harvest q).length < 64 ∧ sget 0 s.hNext q < 65536
      ∧ 32768 < (tag.toNat + 65536 - sget 0 s.hNext q) % 65536 :=
  ⟨191, 0xFFFF, 0, { State.reset with nq := sset 0 [] 191 1 }, by decide +kernel, by decide +kernel, by decide +kernel, by decide +kernel⟩
theorem witness_HarvestEntries_4 : ∃ (q : Fin 192) (tag : BitVec 16) (v : Word36) (s : State), sget 0 s.nq q ≠ 0 ∧ 64 ≤ (sget [] s.harvest q).length :=
  ⟨0, 0, 0, { State.reset with nq := sset 0 [] 0 1, harvest := sset [] [] 0 (List.replicate 64 ⟨0, 0, 0⟩) }, by decide +kernel, by decide +kernel⟩
theorem witness_DataSlotWidths_2 : ∃ (m : Master) (off : BitVec 26) (s : State) (r : Reg) (is : List Nat), regAt off.toNat allRegs = some (r, is, 0) ∧ r.wide = true ∧ reaches s
      m off.toNat false = true :=
  ⟨.s0, 0x1000028, wUp, (rAt 0x1000028), (iAt 0x1000028), by decide +kernel, by decide +kernel, by decide +kernel⟩

/-! Witnesses: 03 -/

def wCast (n : Nat) : State := wUp.set R.BOOT_STATUS_STATE n
def wRst : State := ((State.reset.set R.PWR_STATE_STATE 4).set R.BOOT_STATUS_STATE 0)
def wRails (k : Nat) : State := { (State.reset.set R.BOOT_STATUS_STATE 1).set R.PWR_STATUS_RAILS_GOOD k with clock := 900000, bootT0 := 10, pwr := { railAt := 100000 } }
def wBoot (s : State) (f : BootSt → BootSt) : State := { s with boot := f s.boot }
def wOp : BootOp := { op := 2, what := 0, host := false, code := 0, slot := 1, seq := 3, gen := 0 }
/-- Slot A holds a page of zeros. -/
def wFlash : SMap Nat := (slotCommit (slotBegin State.reset 0 7 (List.replicate 4096 0)) 0).flash
/-- Slot A holds a header, and no content. -/
def wFlash0 : SMap Nat := (slotCommit (slotBegin State.reset 0 7 []) 0).flash
theorem witness_ModuleResets_2 : ∃ s : State, s.get R.THM_STATUS_SHUTDOWN = 0 ∧ s.get R.PWR_STATE_STATE ≠ 0 :=
  ⟨(wRun.set R.MBX_EPOCH_EPOCH 7 0x20), by decide +kernel, by decide +kernel⟩
theorem witness_ModuleResets_3 : ∃ s : State, s.get R.THM_STATUS_SHUTDOWN ≠ 0 :=
  ⟨(wRun.set R.THM_STATUS_SHUTDOWN 1), by decide +kernel⟩
theorem witness_ModuleResets_4 : ∃ s : State, s.get R.THM_STATUS_SHUTDOWN = 0 ∧ s.get R.PWR_STATE_STATE = 0 ∧ isCast s = false :=
  ⟨(State.reset.set R.PWR_STATE_STATE 0), by decide +kernel, by decide +kernel, by decide +kernel⟩
theorem witness_ModuleResets_5 : ∃ s : State, s.pwr.openAt ≠ 0 ∧ s.pwr.openAt ≤ s.clock + 1 :=
  ⟨{ wRun with pwr := { wRun.pwr with openAt := 5 }, clock := 4 }, by decide +kernel, by decide +kernel⟩
theorem witness_ModuleResets_6 : ∃ s : State, s.get R.BOOT_STATUS_STATE = 0 ∧ s.get R.PWR_STATE_STATE = 4 ∧ s.get R.THM_STATUS_SHUTDOWN = 0 ∧ s.pwr.railHeld = false ∧
      s.pwr.dropAt = 0 ∧ s.xtalFail = false :=
  ⟨wRst, by decide +kernel, by decide +kernel, by decide +kernel, by decide +kernel, by decide +kernel, by decide +kernel⟩
theorem witness_ModuleResets_7 : ∃ s : State, Canon s ∧ s.get R.BOOT_STATUS_STATE = 1 ∧ s.clock ≤ s.pwr.railAt + 800000 ∧ railNext s < 7 ∧ s.get R.PWR_STATUS_RAILS_GOOD ||| 2
      ^ railNext s ≠ 127 :=
  ⟨(wRails 3), by unfold Canon RegsFit; decide +kernel, by decide +kernel, by decide +kernel, by decide +kernel, by decide +kernel⟩
theorem witness_ModuleResets_8 : ∃ s : State, s.get R.BOOT_STATUS_STATE = 1 ∧ s.clock ≤ s.pwr.railAt + 800000 ∧ railNext s < 7 ∧ s.get R.PWR_STATUS_RAILS_GOOD ||| 2 ^
      railNext s = 127 ∧ s.quiesce = false ∧ s.boot.cause = 0 :=
  ⟨(wBoot (wRails 63) fun b => { b with cause := 0 }), by decide +kernel, by decide +kernel, by decide +kernel, by decide +kernel, by decide +kernel, by decide +kernel⟩
theorem witness_ModuleResets_9 : ∃ s : State, s.get R.BOOT_STATUS_STATE = 1 ∧ s.clock ≤ s.pwr.railAt + 800000 ∧ railNext s < 7 ∧ s.get R.PWR_STATUS_RAILS_GOOD ||| 2 ^
      railNext s = 127 ∧ s.quiesce = false ∧ s.boot.cause ≠ 0 :=
  ⟨(wRails 63), by decide +kernel, by decide +kernel, by decide +kernel, by decide +kernel, by decide +kernel, by decide +kernel⟩
theorem witness_ModuleResets_10 : ∃ s : State, s.get R.BOOT_STATUS_STATE = 1 ∧ s.pwr.railAt + 800000 < s.clock :=
  ⟨{ wRails 3 with clock := 900001 }, by decide +kernel, by decide +kernel⟩
theorem witness_ModuleResets_11 : ∃ s : State, s.get R.BOOT_STATUS_STATE = 1 ∧ s.pwr.railAt + 800000 ≤ s.clock ∧ railNext s < 7 :=
  ⟨(wRails 3), by decide +kernel, by decide +kernel, by decide +kernel⟩
theorem witness_ColdCast_1 : ∃ (fb : Bool) (s : State), s.xtalFail = false ∧ s.get R.BOOT_STATUS_STATE = 2 :=
  ⟨true, (wCast 2), by decide +kernel, by decide +kernel⟩
theorem witness_ColdCast_2 : ∃ s : State, s.xtalFail = false ∧ s.get R.BOOT_STATUS_STATE = 3 ∧ s.boot.last = 0 ∧ s.boot.cand = [] ∧ slotCands s 0 ≠ [] :=
  ⟨{ wCast 3 with flash := wFlash0 }, by decide +kernel, by decide +kernel, by decide +kernel, by decide +kernel, by decide +kernel⟩
theorem witness_ColdCast_3 : ∃ s : State, s.xtalFail = false ∧ s.get R.BOOT_STATUS_STATE = 3 ∧ s.boot.cand ≠ [] :=
  ⟨(wBoot (wCast 3) fun b => { b with cand := [1] }), by decide +kernel, by decide +kernel, by decide +kernel⟩
theorem witness_ColdCast_4 : ∃ s : State, s.xtalFail = false ∧ s.get R.BOOT_STATUS_STATE = 3 ∧ s.boot.cand = [] ∧ (s.boot.last ≠ 0 ∨ slotCands s 0 = []) :=
  ⟨(wBoot (wCast 3) fun b => { b with last := 8 }), by decide +kernel, by decide +kernel, by decide +kernel, by decide +kernel⟩
theorem witness_ColdCast_5 : ∃ s : State, s.xtalFail = false ∧ s.get R.BOOT_STATUS_STATE = 4 :=
  ⟨(wBoot { wCast 4 with flash := wFlash } fun b => { b with cand := [0] }), by decide +kernel, by decide +kernel⟩
theorem witness_ColdCast_6 : ∃ s : State, s.xtalFail = false ∧ s.get R.BOOT_STATUS_STATE = 5 :=
  ⟨(wBoot { wCast 5 with flash := wFlash } fun b => { b with cand := [0] }), by decide +kernel, by decide +kernel⟩
theorem witness_ColdCast_7 : ∃ s : State, s.xtalFail = false ∧ s.get R.BOOT_STATUS_STATE = 6 ∧ s.boot.connAt ≠ 0 ∧ s.boot.connAt + 8000 ≤ s.clock + 1 ∧ s.get
      R.CLK_STATUS_PLL_LOCK = 0 :=
  ⟨(wBoot { wCast 6 with clock := 8000 } fun b => { b with connAt := 1 }), by decide +kernel, by decide +kernel, by decide +kernel, by decide +kernel, by decide +kernel⟩
theorem witness_ColdCast_8 : ∃ s : State, s.xtalFail = false ∧ s.get R.BOOT_STATUS_STATE = 6 ∧ s.boot.connAt = 0 ∧ s.get R.CLK_STATUS_PLL_LOCK ≠ 0 :=
  ⟨(wBoot { (wCast 6).set R.CLK_STATUS_PLL_LOCK 1 with flash := wFlash } fun b => { b with cand := [0] }), by decide +kernel, by decide +kernel, by decide +kernel, by decide +kernel⟩
theorem witness_BootOperations_1 : ∃ (m : Master) (s : State), reaches s m 0x100004 true = true ∧ s.get R.BOOT_STATUS_OP ≠ 0 :=
  ⟨.s0, (wUp.set R.BOOT_STATUS_OP 2), by decide +kernel, by decide +kernel⟩
theorem witness_BootOperations_2 : ∃ (m : Master) (s : State), reaches s m 0x100004 true = true ∧ s.get R.BOOT_STATUS_OP = 0 :=
  ⟨.s0, wUp, by decide +kernel, by decide +kernel⟩
theorem witness_BootOperations_3 : ∃ (m : Master) (s : State), reaches s m 0x100004 true = true ∧ s.get R.BOOT_STATUS_OP = 0 :=
  ⟨.s0, wUp, by decide +kernel, by decide +kernel⟩
theorem witness_BootOperations_4 : ∃ (m : Master) (s : State), reaches s m 0x100004 true = true ∧ s.get R.BOOT_STATUS_OP = 0 :=
  ⟨.s0, wUp, by decide +kernel, by decide +kernel⟩
theorem witness_BootOperations_5 : ∃ (m : Master) (s : State), reaches s m 0x100004 true = true ∧ s.get R.BOOT_STATUS_OP = 0 :=
  ⟨.s0, wUp, by decide +kernel, by decide +kernel⟩
theorem witness_BootOperations_6 : ∃ (io : Fin 4) (o : BootOp) (s : State), s.xtalFail = false ∧ s.boot.op = some o ∧ o.op = 2 ∧ o.host = false ∧ o.code < 256 :=
  ⟨3, wOp, (wBoot wUp fun b => { b with op := some wOp }), by decide +kernel, by decide +kernel, by decide +kernel, by decide +kernel, by decide +kernel⟩
theorem witness_BootOperations_7 : ∃ (o : BootOp) (s : State), s.xtalFail = false ∧ s.boot.op = some o ∧ o.op = 3 ∧ o.verified = false ∧ o.host = false :=
  ⟨{ wOp with op := 3 }, (wBoot wUp fun b => { b with op := some { wOp with op := 3 } }), by decide +kernel, by decide +kernel, by decide +kernel, by decide +kernel, by decide +kernel⟩
def wSw : State := wBoot ({ ((wRun.set R.CLK_SHOT_COUNT 5).set R.GLB_SCHED_STATUS_STATE 2) with tick := 30, shotStart := 30, flash := wFlash }) fun b => { b with op := some { wOp with op := 3, verified := true, slot := 0 }, hasRun := true }
theorem witness_BootOperations_8 : ∃ (mm : Bool) (o : BootOp) (s : State), s.xtalFail = false ∧ s.boot.op = some o ∧ o.verified = true ∧ s.get R.BOOT_STATUS_STATE = 7 ∧
      shotCounted s = true ∧ switchTime s ≤ s.now :=
  ⟨false, { wOp with op := 3, verified := true, slot := 0 }, wSw, by decide +kernel, by decide +kernel, by decide +kernel, by decide +kernel, by decide +kernel, by decide +kernel⟩
theorem witness_BootOperations_9 : ∃ (o : BootOp) (s : State), s.xtalFail = false ∧ s.boot.op = some o ∧ s.get R.BOOT_STATUS_STATE = 9 ∧ (∀ p ∈ s.biases, p.2.move = 0) :=
  ⟨{ wOp with slot := 0 }, (wBoot { wCast 9 with flash := wFlash } fun b => { b with op := some { wOp with slot := 0 } }), by decide +kernel, by decide +kernel, by decide +kernel, by decide +kernel⟩
theorem witness_KeySlots_1 : ∃ (m : Master) (k : Fin 4) (s : State), reaches s m 0x109114 true = true ∧ s.get R.SEC_OTP_STATUS_BUSY = 0 ∧ otpCode s 1 k = 0 :=
  ⟨.s0, 3, wUp, by decide +kernel, by decide +kernel, by decide +kernel⟩
theorem witness_KeySlots_2 : ∃ (m : Master) (k : Fin 4) (s : State), reaches s m 0x109114 true = true ∧ s.get R.SEC_OTP_STATUS_BUSY = 0 ∧ otpCode s 2 k = 0 :=
  ⟨.s0, 3, (wUp.set R.SEC_KEY_STATE_STATE 0x45), by decide +kernel, by decide +kernel, by decide +kernel⟩
theorem witness_KeySlots_3 : ∃ (m : Master) (k : Fin 4) (s : State), Canon s ∧ reaches s m 0x109114 true = true ∧ s.get R.SEC_OTP_STATUS_BUSY = 0 :=
  ⟨.s0, 3, wUp, by unfold Canon RegsFit; decide +kernel, by decide +kernel, by decide +kernel⟩
theorem witness_KeySlots_4 : ∃ (op : Nat) (k : Fin 4) (s : State), Canon s ∧ s.xtalFail = false ∧ s.boot.otpOp = some (op, k.val) ∧ (op = 1 ∨ op = 2) :=
  ⟨1, 3, (wBoot wUp fun b => { b with otpOp := some (1, 3) }), by unfold Canon RegsFit; decide +kernel, by decide +kernel, by decide +kernel, by decide +kernel⟩

/-! Witnesses: 04 -/

def wClk : State := { wUp with tick := 90000, now := 60000, shotStart := 8 }
def wArm : State := { (wClk.set R.CLK_TIME_CTRL_ARM 1).set R.CLK_TIME_SET_LO_TIME_LO 80000 with armVis := 5 }
def wSched : State := { ((wRun.set R.GLB_SCHED_STATUS_STATE 1).set R.CHS_CTRL_ENABLE 1 5).set R.CHS_CTRL_ENTRY 77 5 with tick := 100, now := 60016, pwr := { runE := 83 } }
def wShots : State :=
  ((((((({ wSched with shotStart := 40 }.set R.GLB_SCHED_STATUS_STATE 2).set R.GLB_SCHED_LEN_TICKS 60).set R.CHS_STATUS_STATE 2 5).set R.CLP_CTRL_MODE 1 63).set R.CHS_G_VALUE 9 80).set
    R.CLP_CTRL_ENTRY 12 63).set R.CLP_X_VALUE 7 1009).set R.CHS_STATUS_STATE 3 127
theorem witness_TimeBase_1 : ∃ s : State, s.get R.CLK_STATUS_PLL_LOCK = 0 ∧ s.get R.CLK_STATUS_PLL_UNLOCK = 0 ∧ s.get R.BOOT_STATUS_STATE ≠ 0 ∧ s.get R.BOOT_STATUS_STATE
      ≠ 10 :=
  ⟨(wClk.set R.BOOT_STATUS_STATE 2), by decide +kernel, by decide +kernel, by decide +kernel, by decide +kernel⟩
theorem witness_TimeBase_3 : ∃ s : State, s.get R.CLK_STATUS_REF_LOSS = 0 :=
  ⟨wClk, by decide +kernel⟩
theorem witness_TimeBase_4 : ∃ (count : BitVec 17) (s : State), 87368 ≤ count.toNat ∧ count.toNat ≤ 87394 :=
  ⟨87394, wClk, by decide +kernel, by decide +kernel⟩
theorem witness_TimeBase_5 : ∃ (count : BitVec 17) (s : State), s.get R.CLK_STATUS_REF_RANGE = 0 ∧ (count.toNat < 87368 ∨ 87394 < count.toNat) :=
  ⟨87367, wClk, by decide +kernel, by decide +kernel⟩
theorem witness_TimeBase_6 : ∃ s : State, s.epochDue = true :=
  ⟨{ (wClk.set R.EVF_SRC_EN 1 1475).set R.EVF_SRC_CH 9 1475 with epochDue := true }, by decide +kernel⟩
theorem witness_TimeBase_7 : ∃ s : State, s.get R.CLK_SYNC_CTRL_CHECK ≠ 0 ∧ ticking s = true ∧ syncPeriod s / 2 ≤ s.now ∧ (s.now - syncPeriod s / 2) % syncPeriod s = 0 ∧
      s.lastGoodL ≠ s.now - syncPeriod s / 2 + 1 ∧ s.get R.CLK_STATUS_SYNC_MISSING = 0 :=
  ⟨(({ wClk with now := 60000 }.set R.CLK_SYNC_CTRL_CHECK 1).set R.CLK_STATUS_PLL_LOCK 1), by decide +kernel, by decide +kernel, by decide +kernel, by decide +kernel, by decide +kernel, by decide +kernel⟩
theorem witness_TimeBase_8 : ∃ s : State, s.get R.CLK_SYNC_CTRL_OUT_MODE = 2 ∧ ticking s = true ∧ s.now % syncPeriod s = 0 :=
  ⟨((({ wClk with now := 80000 }.set R.CLK_SYNC_CTRL_OUT_MODE 2).set R.CLK_STATUS_PLL_LOCK 1).set R.CLK_SYNC_CTRL_MARK_NEXT 1), by decide +kernel, by decide +kernel, by decide +kernel⟩
theorem witness_TimeBase_9 : ∃ s : State, (s.get R.CLK_SYNC_CTRL_OUT_MODE ≠ 2 ∨ s.now % syncPeriod s ≠ 0) :=
  ⟨(({ wClk with now := 80001 }.set R.CLK_SYNC_CTRL_OUT_MODE 2).set R.CLK_STATUS_PLL_LOCK 1), by decide +kernel⟩
theorem witness_TimeBase_10 : ∃ (m : Master) (v : BitVec 32) (s : State), reaches s m 0x20000C true = true ∧ rtHeld s m = false :=
  ⟨.s0, 0xFFFFFFFF, wClk, by decide +kernel, by decide +kernel⟩
theorem witness_SyncPulses_1 : ∃ (m : Master) (s : State), reaches s m 0x200034 true = true ∧ rtHeld s m = false ∧ s.get R.CLK_TIME_CTRL_ARM = 0 :=
  ⟨.s0, wClk, by decide +kernel, by decide +kernel, by decide +kernel⟩
theorem witness_SyncPulses_2 : ∃ (c : BitVec 64) (fine : Fin 2048) (width : BitVec 8) (s : State), PulseDue s c.toNat width.toNat ∧ (width.toNat < 2 ∨ 6 < width.toNat) ∧
      (width.toNat < 12 ∨ 20 < width.toNat) :=
  ⟨89997, 0, 1, wClk, by decide +kernel, by decide +kernel, by decide +kernel⟩
theorem witness_SyncPulses_3 : ∃ (c : BitVec 64) (fine : Fin 2048) (width : BitVec 8) (s : State), PulseDue s c.toNat width.toNat ∧ 2 ≤ width.toNat ∧ width.toNat ≤ 6 ∧
      s.get R.CLK_SYNC_CTRL_CHECK = 0 ∧ s.get R.CLK_STATUS_SKEW_BUSY = 0 :=
  ⟨89992, 2047, 6, wClk, by decide +kernel, by decide +kernel, by decide +kernel, by decide +kernel, by decide +kernel⟩
theorem witness_SyncPulses_4 : ∃ (c : BitVec 64) (fine : Fin 2048) (width : BitVec 8) (s : State), PulseDue s c.toNat width.toNat ∧ 2 ≤ width.toNat ∧ width.toNat ≤ 6 ∧
      s.get R.CLK_SYNC_CTRL_CHECK ≠ 0 ∧ s.get R.CLK_STATUS_SKEW_BUSY = 0 :=
  ⟨89992, 3, 6, { wClk.set R.CLK_SYNC_CTRL_CHECK 1 with slipRun := 3 }, by decide +kernel, by decide +kernel, by decide +kernel, by decide +kernel, by decide +kernel⟩
theorem witness_SyncPulses_5 : ∃ (c : BitVec 64) (fine : Fin 2048) (width : BitVec 8) (s : State), PulseDue s c.toNat width.toNat ∧ 12 ≤ width.toNat ∧ width.toNat ≤ 20 ∧
      armVisible s = true ∧ timeSet s % syncPeriod s = 0 ∧ s.get R.CLK_SYNC_CTRL_CHECK = 0 ∧ s.get R.CLK_STATUS_SKEW_BUSY = 0 :=
  ⟨89978, 3, 20, ((wArm.set R.EVF_SRC_EN 1 1476).set R.EVF_SRC_CH 9 1476), by decide +kernel, by decide +kernel, by decide +kernel, by decide +kernel, by decide +kernel, by decide +kernel, by decide +kernel⟩
theorem witness_SyncPulses_6 : ∃ (c : BitVec 64) (fine : Fin 2048) (width : BitVec 8) (s : State), PulseDue s c.toNat width.toNat ∧ 12 ≤ width.toNat ∧ width.toNat ≤ 20 ∧
      armVisible s = true ∧ timeSet s % syncPeriod s ≠ 0 ∧ s.get R.CLK_SYNC_CTRL_CHECK = 0 ∧ s.get R.CLK_STATUS_SKEW_BUSY = 0 :=
  ⟨89986, 3, 12, (wArm.set R.CLK_TIME_SET_LO_TIME_LO 80001), by decide +kernel, by decide +kernel, by decide +kernel, by decide +kernel, by decide +kernel, by decide +kernel, by decide +kernel⟩
theorem witness_SyncPulses_7 : ∃ (c : BitVec 64) (fine : Fin 2048) (width : BitVec 8) (s : State), s.tick = syncClassTick c.toNat width.toNat ∧ calibrating s 32 = false ∧
      s.pnt.syncOff.1 = 0 ∧ s.clk.syncC ≠ 0 ∧ c.toNat < s.clk.syncK :=
  ⟨89986, 3, 12, { wArm with clk := { syncC := 3, syncK := 89987, syncLow := 90 } }, by decide +kernel, by decide +kernel, by decide +kernel, by decide +kernel, by decide +kernel⟩
theorem witness_SyncPulses_8 : ∃ (c : BitVec 64) (fine : Fin 2048) (width : BitVec 8) (s : State), (s.tick ≠ syncClassTick c.toNat width.toNat ∨ calibrating s 32 = true ∨
      s.pnt.syncOff.1 = 0 ∧ s.clk.syncC ≠ 0 ∧ s.clk.syncK ≤ c.toNat ∧ c.toNat ≤ s.clk.syncLow) :=
  ⟨89985, 3, 12, wArm, by decide +kernel⟩
theorem witness_SyncPulses_9 : ∃ (c : BitVec 64) (fine : Fin 2048) (width : BitVec 8) (s : State), s.tick = syncClassTick c.toNat width.toNat ∧ calibrating s 32 = false ∧
      s.pnt.syncOff.1 ≠ 0 ∧ s.pnt.syncOff.1 ≤ c.toNat + 1 ∧ (s.pnt.syncOff.2 = 0 ∨ c.toNat + 1 < s.pnt.syncOff.2) :=
  ⟨89986, 3, 12, { wArm with pnt := { syncOff := (50, 0) } }, by decide +kernel, by decide +kernel, by decide +kernel, by decide +kernel, by decide +kernel⟩
theorem witness_SkewAndRelock_1 : ∃ (m : Master) (v : BitVec 32) (s : State), reaches s m 0x20001C true = true ∧ rtHeld s m = false ∧ bits v.toNat 10 0 ≠ s.get
      R.CLK_PHASE_TAPS :=
  ⟨.s0, 0xFFFFFFFF, ((wClk.set R.LAN_STATUS_STATE 4 23).set R.LAN_STATUS_STATE 2 22), by decide +kernel, by decide +kernel, by decide +kernel⟩
theorem witness_SkewAndRelock_2 : ∃ s : State, s.phaseNow ≠ s.get R.CLK_PHASE_TAPS ∧ (s.clk.phaseAt = 0 ∨ s.clk.phaseAt + 400 ≤ s.clock + 1) :=
  ⟨{ wClk.set R.CLK_PHASE_TAPS 9 with phaseNow := 8 }, by decide +kernel, by decide +kernel⟩
theorem witness_SkewAndRelock_3 : ∃ s : State, (s.phaseNow = s.get R.CLK_PHASE_TAPS ∨ s.clk.phaseAt ≠ 0 ∧ s.clock + 1 < s.clk.phaseAt + 400) :=
  ⟨{ wClk.set R.CLK_PHASE_TAPS 9 with phaseNow := 9 }, by decide +kernel⟩
theorem witness_SkewAndRelock_4 : ∃ (m : Master) (v : BitVec 32) (s : State), reaches s m 0x200020 true = true ∧ rtHeld s m = false ∧ s.get R.CLK_SYNC_CTRL_OUT_MODE ≠ 2 ∧
      s.get R.CLK_STATUS_SKEW_BUSY = 0 :=
  ⟨.s0, 0xFFFFFFFF, wClk, by decide +kernel, by decide +kernel, by decide +kernel, by decide +kernel⟩
theorem witness_SkewAndRelock_5 : ∃ (m : Master) (v : BitVec 32) (s : State), reaches s m 0x200020 true = true ∧ rtHeld s m = false ∧ s.get R.CLK_SYNC_CTRL_OUT_MODE = 2 :=
  ⟨.s0, 0, (wClk.set R.CLK_SYNC_CTRL_OUT_MODE 2), by decide +kernel, by decide +kernel, by decide +kernel⟩
theorem witness_SkewAndRelock_6 : ∃ s : State, (s.skew.moves = 0 ∨ s.clock < s.skew.due) :=
  ⟨{ wClk with skew := { moves := 1, due := 5 } }, by decide +kernel⟩
theorem witness_SkewAndRelock_7 : ∃ s : State, s.skew.moves ≠ 0 ∧ s.skew.due ≤ s.clock ∧ s.get R.CLK_PHASE_TAPS < 2048 :=
  ⟨{ wClk.set R.CLK_PHASE_TAPS 2047 with skew := { moves := 1, pass := 8 } }, by decide +kernel, by decide +kernel, by decide +kernel⟩
theorem witness_SkewAndRelock_8 : ∃ s : State, s.pending = [] ∧ ticking s = true ∧ s.get R.CLK_STATUS_SKEW_BUSY ≠ 0 ∧ 8 < s.skew.pass ∧ s.skew.due ≤ s.clock :=
  ⟨{ (wClk.set R.CLK_STATUS_SKEW_BUSY 1).set R.CLK_STATUS_PLL_LOCK 1 with skew := { pass := 9 } }, by decide +kernel, by decide +kernel, by decide +kernel, by decide +kernel, by decide +kernel⟩
theorem witness_SkewAndRelock_9 : ∃ s : State, s.get R.CLK_STATUS_PLL_LOCK ≠ 0 ∧ s.get R.CLK_STATUS_HOLDOVER = 0 ∧ (s.get R.PWR_STATE_STATE = 1 ∨ s.get R.PWR_STATE_STATE = 2) :=
  ⟨((wRun.set R.CLK_STATUS_PLL_LOCK 1).set R.LIN_STATUS_LIVE 1 255), by decide +kernel, by decide +kernel, by decide +kernel⟩
theorem witness_SkewAndRelock_10 : ∃ (m : Master) (v : BitVec 32) (s : State), reaches s m 0x200008 true = true ∧ rtHeld s m = false ∧ s.get R.CLK_STATUS_RELOCK_BUSY = 0 :=
  ⟨.s0, 0xFFFFFFFF, wClk, by decide +kernel, by decide +kernel, by decide +kernel⟩
theorem witness_SkewAndRelock_11 : ∃ (m : Master) (v : BitVec 32) (s : State), reaches s m 0x200008 true = true ∧ rtHeld s m = false ∧ s.get R.CLK_STATUS_RELOCK_BUSY ≠ 0 :=
  ⟨.s0, 0xFFFFFFFF, (wClk.set R.CLK_STATUS_RELOCK_BUSY 1), by decide +kernel, by decide +kernel, by decide +kernel⟩
theorem witness_SkewAndRelock_12 : ∃ (locked : Bool) (s : State), s.get R.CLK_STATUS_RELOCK_BUSY ≠ 0 ∧ (locked = false ∨ s.clk.relockAt + 8000000 < s.clock) :=
  ⟨false, (wClk.set R.CLK_STATUS_RELOCK_BUSY 1), by decide +kernel, by decide +kernel⟩
theorem witness_SkewAndRelock_13 : ∃ s : State, s.get R.CLK_STATUS_RELOCK_BUSY ≠ 0 ∧ s.clock ≤ s.clk.relockAt + 8000000 :=
  ⟨((wClk.set R.CLK_STATUS_RELOCK_BUSY 1).set R.CLK_STATUS_PLL_UNLOCK 1), by decide +kernel, by decide +kernel⟩
theorem witness_ScheduleAndShots_1 : ∃ s : State, s.get R.GLB_SCHED_STATUS_STATE = 1 ∧ s.get R.PWR_STATE_STATE = 1 ∧ (s.get R.GLB_SCHED_CFG_START_MODE = 0 ∧ schedDue s 4 = true ∨
      s.get R.GLB_SCHED_CFG_START_MODE = 1 ∧ schedDue s (4000 * max (s.get R.GLB_SCHED_CFG_ALIGN) 1) = true ∨ 2 ≤ s.get
      R.GLB_SCHED_CFG_START_MODE ∧ schedFirst s ≤ schedStart s ∧ s.now = schedStart s) :=
  ⟨wSched, by decide +kernel, by decide +kernel, by decide +kernel⟩
theorem witness_ScheduleAndShots_2 : ∃ s : State, s.get R.GLB_SCHED_STATUS_STATE = 1 ∧ s.get R.PWR_STATE_STATE = 1 ∧ 2 ≤ s.get R.GLB_SCHED_CFG_START_MODE ∧ schedStart s <
      schedFirst s :=
  ⟨((wSched.set R.GLB_SCHED_CFG_START_MODE 2).set R.EVF_SRC_EN 1 1480), by decide +kernel, by decide +kernel, by decide +kernel, by decide +kernel⟩
theorem witness_ScheduleAndShots_3 : ∃ s : State, shotDue s = true ∧ lastShot s = false :=
  ⟨wShots, by decide +kernel, by decide +kernel⟩
theorem witness_ScheduleAndShots_4 : ∃ s : State, shotDue s = true ∧ lastShot s = true :=
  ⟨((wShots.set R.GLB_SCHED_COUNT_LO_COUNT_LO 1).set R.EVF_SRC_EN 1 1481), by decide +kernel, by decide +kernel⟩

/-! Witnesses: 05 -/

/-- Chisel 5 issues on tick 100 with Δt 10. -/
def wChs (c : Chs) : State :=
  { State.reset.set R.CHS_STATUS_STATE 2 5 with tick := 100, now := 102, shotStart := 60, chisels := sset {} [] 5 { c with ref := 90, minDt := 2, next := 700 } }
/-- Chisel 5 waits on tick 100. -/
def wWaits (w : ChsWait) : State := { (wChs { wait := w }).set R.CHS_STATUS_STATE 3 5 with tick := 100 }
/-- Decision 7 of Chisel 5 is published, with value 1. -/
def wDec (x : Brd) : State :=
  { wChs { brd := some x } with dmap := sset 0 [] 327 8, decPub := sset false [] 7 true, decVal := sset false [] 7 true, decTaint := sset [] [] 0 (taintOf tLATE 1 3) }
def wPt : HPoint := ⟨5, 3, 0, 9, 2, 77, 0⟩
def wHar (p : HPoint) : State := { wChs {} with points := sset none [] 41 (some p) }
def wBind : State := (wChs {}).set R.EVF_SRC_EN 1 21
def wSeg : State := (wChs {}).set R.SEG_ENT_BYTES 16 40970
theorem witness_ChiselWaits_1 : ∃ n dt a b s, ChsReady s n dt 2 a b :=
  ⟨5, 10, 0, 0, (wChs {}), by decide +kernel⟩
theorem witness_ChiselWaits_2 : ∃ n dt a b s, ChsReady s n dt 3 a b :=
  ⟨5, 10, 0, 0xFFFFFFFF, (wChs {}), by decide +kernel⟩
theorem witness_ChiselWaits_3 : ∃ (n : Fin 128) (s : State), s.get R.CHS_STATUS_STATE n = 3 ∧ (chs s n).wait = .until_ s.tick :=
  ⟨5, (wWaits (.until_ 100)), by decide +kernel, by decide +kernel⟩
theorem witness_ChiselWaits_4 : ∃ (n : Fin 128) (r : Nat) (s : State), (chs s n).wait = .until_ r ∧ r ≠ s.tick :=
  ⟨5, 101, (wWaits (.until_ 101)), by decide +kernel, by decide +kernel⟩
theorem witness_ChiselBranches_1 : ∃ n dt a b s, ChsReady s n dt 6 a b :=
  ⟨5, 10, 0, 0xFFFE00000, (wChs {}), by decide +kernel⟩
theorem witness_ChiselBranches_2 : ∃ n dt a b s, ChsReady s n dt 9 a b ∧ kReg s n (bits a.toNat 18 17) ≠ 0 :=
  ⟨5, 10, 0x60000, 0x200000, ((wChs {}).set R.CHS_K_VALUE 1 23), by decide +kernel, by decide +kernel⟩
theorem witness_ChiselBranches_3 : ∃ n dt a b s, ChsReady s n dt 9 a b ∧ kReg s n (bits a.toNat 18 17) = 0 :=
  ⟨5, 10, 0x60000, 0x200000, (wChs {}), by decide +kernel, by decide +kernel⟩
theorem witness_ChiselBranches_4 : ∃ n dt a b s, ChsReady s n dt 10 a b :=
  ⟨5, 10, 0x70001, 0, ((wChs {}).set R.CHS_G_VALUE 0xFFFFFFFFF 81), by decide +kernel⟩
theorem witness_ChiselBranches_5 : ∃ n dt a b s, Canon s ∧ ChsReady s n dt 8 a b :=
  ⟨5, 10, 0x00A00, 0x200000, ((wChs {}).set R.CHS_G_VALUE 0xFFFFFFFFF 81), by unfold Canon RegsFit; decide +kernel, by decide +kernel⟩
theorem witness_ChiselFrames_1 : ∃ n dt a b s, ChsReady s n dt 0x18 a b :=
  ⟨5, 10, 0x7FF80, 0, ((wChs {}).set R.CHS_G_VALUE 0xFFFFFFFFF 80), by decide +kernel⟩
theorem witness_ChiselFrames_2 : ∃ n dt a b s, ChsReady s n dt 0x19 a b :=
  ⟨5, 10, 0x7FFFF, 0xFFFFFFFFF, (wChs {}), by decide +kernel⟩
theorem witness_ChiselFrames_3 : ∃ n dt a b s, ChsReady s n dt 0x1A a b :=
  ⟨5, 10, 0x7FF0F, 0, ((wChs {}).set R.CHS_G_VALUE 0xFFFFFFFFF 95), by decide +kernel⟩
theorem witness_ChiselFrames_4 : ∃ n dt a b s, ChsReady s n dt 0x1B a b :=
  ⟨5, 10, 0x7FF00, 0, (wChs {}), by decide +kernel⟩
theorem witness_ChiselIssueTicks_1 : ∃ (k : Fin 23) (n : Fin 128) (dt : BitVec 12) (a : BitVec 19) (b : Word36) (s : State), s.get R.CHS_STATUS_STATE n = 2 ∧ (chs s n).ref +
      dt.toNat = s.tick :=
  ⟨10, 5, 10, 0, 0, (wChs {}), by decide +kernel, by decide +kernel⟩
theorem witness_ChiselShortDt_1 : ∃ (k : Fin 23) (n : Fin 128) (dt : BitVec 12) (a : BitVec 19) (b : Word36) (s : State), (chsIssues.get k).1 ∈ [0x01, 0x02, 0x03, 0x04, 0x05,
      0x06, 0x08, 0x09, 0x0A, 0x0B, 0x0D, 0x18, 0x19, 0x1A, 0x1B] ∧ s.get R.CHS_STATUS_STATE n = 2 ∧ (chs s n).ref + dt.toNat = s.tick ∧ dt.toNat
      < (chs s n).minDt ∧ (chs s n).next < 32768 ∧ chsFormOk (chsIssues.get k).1 a.toNat b.toNat = true :=
  ⟨10, 5, 1, 0, 0, { wChs {} with tick := 91 }, by decide +kernel, by decide +kernel, by decide +kernel, by decide +kernel, by decide +kernel, by decide +kernel⟩
theorem witness_ChiselEdgeWaits_1 : ∃ n dt a b s, ChsReady s n dt 4 a b :=
  ⟨5, 10, 0x7CF00, 0xFFFFFF, (wChs {}), by decide +kernel⟩
theorem witness_ChiselEdgeWaits_2 : ∃ (n : Fin 128) (tin dest t0 tmo : Nat) (s : State), s.get R.CHS_STATUS_STATE n = 3 ∧ (chs s n).wait = .edge tin dest t0 tmo ∧ dest < 16 ∧ t0
      < s.tick ∧ (∃ p ∈ s.tinSeen, p.tin = tin ∧ p.e + 3 = s.tick) :=
  ⟨5, 31, 15, 95, 120, { wWaits (.edge 31 15 95 120) with tinSeen := [{ tin := 31, e := 97, fine := 0 }] }, by decide +kernel, by decide +kernel, by decide +kernel, by decide +kernel, by decide +kernel⟩
theorem witness_ChiselEdgeWaits_3 : ∃ (n : Fin 128) (tin dest t0 : Nat) (s : State), s.get R.CHS_STATUS_STATE n = 3 ∧ (chs s n).wait = .edge tin dest t0 s.tick ∧ dest < 16 ∧ t0
      < s.tick ∧ (∀ p ∈ s.tinSeen, p.tin = tin → p.e + 3 ≠ s.tick) :=
  ⟨5, 31, 15, 95, (wWaits (.edge 31 15 95 100)), by decide +kernel, by decide +kernel, by decide +kernel, by decide +kernel, by decide +kernel⟩
theorem witness_ChiselEdgeWaits_4 : ∃ (n : Fin 128) (tin dest t0 tmo : Nat) (s : State), (chs s n).wait = .edge tin dest t0 tmo ∧ s.tick ≠ tmo ∧ (∀ p ∈ s.tinSeen, p.tin = tin →
      p.e + 3 ≠ s.tick) :=
  ⟨5, 31, 15, 95, 120, (wWaits (.edge 31 15 95 120)), by decide +kernel, by decide +kernel, by decide +kernel⟩
theorem witness_ChiselBarriers_1 : ∃ n dt a b s, ChsReady s n dt 5 a b ∧ bit (s.get R.CHS_BAR_EN_EN n) (bits a.toNat 18 15) = true ∧ s.get R.GLB_BAR_COMPLETE (bits a.toNat 18
      15) ≠ 0 :=
  ⟨5, 10, 0x78000, 0, (((wChs {}).set R.CHS_BAR_EN_EN 0x8000 5).set R.GLB_BAR_COMPLETE 1 15), by decide +kernel, by decide +kernel, by decide +kernel⟩
theorem witness_ChiselBarriers_2 : ∃ n dt a b s, ChsReady s n dt 5 a b ∧ bit (s.get R.CHS_BAR_EN_EN n) (bits a.toNat 18 15) = true ∧ s.get R.GLB_BAR_COMPLETE (bits a.toNat 18
      15) = 0 :=
  ⟨5, 10, 0x78000, 0, ((wChs {}).set R.CHS_BAR_EN_EN 0x8000 5), by decide +kernel, by decide +kernel, by decide +kernel⟩
theorem witness_ChiselBarriers_3 : ∃ n dt a b s, ChsReady s n dt 5 a b ∧ bit (s.get R.CHS_BAR_EN_EN n) (bits a.toNat 18 15) = false :=
  ⟨5, 10, 0x78000, 0xFFFFFF, (wChs {}), by decide +kernel, by decide +kernel⟩
theorem witness_ChiselBarriers_5 : ∃ (b : Fin 16) (s : State), s.get R.GLB_BAR_LOCAL b ≠ 0 ∧ s.get R.GLB_BAR_COMPLETE b = 0 ∧ s.get R.GLB_BAR_REMOTE b ≤ s.get R.GLB_BAR_TOKENS
      b :=
  ⟨15, ((((wWaits (.bar 15 102)).set R.CHS_BAR_EN_EN 0x8000 5).set R.GLB_BAR_LOCAL 1 15)), by decide +kernel, by decide +kernel, by decide +kernel⟩
theorem witness_ChiselBarriers_6 : ∃ (n : Fin 128) (b : Nat) (s : State), s.get R.CHS_STATUS_STATE n = 3 ∧ (chs s n).wait = .bar b s.tick :=
  ⟨5, 15, (wWaits (.bar 15 100)), by decide +kernel, by decide +kernel⟩
theorem witness_ChiselDecisionBranch_1 : ∃ n dt a b s, ChsReady s n dt 7 a b ∧ (bit a.toNat 12 = true → bits a.toNat 18 13 ≠ 63) ∧ bits b.toNat 11 0 + 8 ≤ min (progDt s n (min ((chs
      s n).next + 1) 32768)) (progDt s n (bits b.toNat 35 21)) :=
  ⟨5, 10, 0x7E200, 0x200000, { wChs {} with chsProg := sset 0 (sset 0 [] (5 * 65536 + 1402) (9 * 2 ^ 19)) (5 * 65536 + 2) (8 * 2 ^ 19) }, by decide +kernel, by decide +kernel, by decide +kernel⟩
theorem witness_ChiselDecisionBranch_2 : ∃ (n : Fin 128) (x : Brd) (s : State), (chs s n).brd = some x ∧ x.d = s.tick ∧ x.two = false ∧ windowPub s n x.lo = true :=
  ⟨5, ⟨100, 7, false, 3, false, 20, 699⟩, (wDec ⟨100, 7, false, 3, false, 20, 699⟩), by decide +kernel, by decide +kernel, by decide +kernel, by decide +kernel⟩
theorem witness_ChiselDecisionBranch_3 : ∃ (n : Fin 128) (x : Brd) (s : State), (chs s n).brd = some x ∧ x.d = s.tick ∧ x.two = true ∧ windowPub s n x.lo = true ∧ windowPub s n (x.lo
      + 1) = true :=
  ⟨5, ⟨100, 7, true, 3, false, 20, 699⟩, { wDec ⟨100, 7, true, 3, false, 20, 699⟩ with dmap := sset 0 (sset 0 [] 327 8) 328 8 }, by decide +kernel, by decide +kernel, by decide +kernel, by decide +kernel, by decide +kernel⟩
theorem witness_ChiselDecisionBranch_4 : ∃ (n : Fin 128) (x : Brd) (s : State), (chs s n).brd = some x ∧ x.d = s.tick ∧ (windowPub s n x.lo = false ∨ (x.two = true ∧ windowPub s n
      (x.lo + 1) = false)) :=
  ⟨5, ⟨100, 7, true, 3, false, 20, 699⟩, (wDec ⟨100, 7, true, 3, false, 20, 699⟩), by decide +kernel, by decide +kernel, by decide +kernel⟩
theorem witness_ChiselRegisters_1 : ∃ (n : Fin 128) (dt : BitVec 12) (s : State), s.get R.CHS_STATUS_STATE n = 2 ∧ (chs s n).ref + dt.toNat = s.tick ∧ (chs s n).next < 32768 :=
  ⟨5, 1, { wChs {} with tick := 91 }, by decide +kernel, by decide +kernel, by decide +kernel⟩
theorem witness_ChiselRegisters_3 : ∃ n dt a b s, ChsReady s n dt 1 a b :=
  ⟨5, 10, 0, 0, (wChs {}), by decide +kernel⟩
theorem witness_ChiselRegisters_4 : ∃ n dt a b s, ChsReady s n dt 0x0B a b :=
  ⟨5, 10, 0x0780C, 0xFFFFFFFFF, ((wChs {}).set R.CHS_G_VALUE 0xFFFFFFFFF 80), by decide +kernel⟩
theorem witness_ChiselRegisters_5 : ∃ n dt a b s p e, ChsReady s n dt 0x0C a b ∧ pointOn s n (bits b.toNat 15 0) = some p ∧ p.kind = 0 ∧ sget 0 s.hLast n ≤ p.pos ∧ ((sget []
      s.harvest n).find? (fun e => e.tag == harvestTag s n p.pos) = some e) :=
  ⟨5, 10, 0x78000, 41, { wHar wPt with harvest := sset [] [] 5 [⟨3, 0xFFFFFFFFF, 0⟩] }, wPt, ⟨3, 0xFFFFFFFFF, 0⟩, by decide +kernel, by decide +kernel, by decide +kernel, by decide +kernel, by decide +kernel⟩
theorem witness_ChiselRegisters_6 : ∃ n dt a b s p, ChsReady s n dt 0x0C a b ∧ pointOn s n (bits b.toNat 15 0) = some p ∧ sget 0 s.hLast n ≤ p.pos ∧ ((sget [] s.harvest n).find?
      (fun e => e.tag == harvestTag s n p.pos) = none) :=
  ⟨5, 10, 0x78000, 41, (wHar wPt), wPt, by decide +kernel, by decide +kernel, by decide +kernel, by decide +kernel⟩
theorem witness_ChiselRegisters_7 : ∃ n dt a b s, ChsReady s n dt 0x0D a b ∧ bits a.toNat 18 17 = 0 :=
  ⟨5, 10, 0x10000, 0, wBind, by decide +kernel, by decide +kernel⟩
theorem witness_ChiselRegisters_8 : ∃ n dt a b s, ChsReady s n dt 0x0D a b ∧ bits a.toNat 18 17 = 1 ∧ (sget {} s.rq (n / 8)).waiting.length < 2048 :=
  ⟨5, 10, 0x20003, 0xFFFF, ((wChs {}).set R.CHS_G_VALUE 0xFFFFFFFFF 83), by decide +kernel, by decide +kernel, by decide +kernel⟩
theorem witness_ChiselOutputs_1 : ∃ n dt a b s, ChsReady s n dt 0x10 a b ∧ slotBusy s (chsSlot n a.toNat) = false ∧ segBad s n (bits a.toNat 15 6) = false ∧ inGap s 0
      (slotLine (chsSlot n a.toNat)) = none :=
  ⟨5, 10, 0x70040, 0, wSeg, by decide +kernel, by decide +kernel, by decide +kernel, by decide +kernel⟩
theorem witness_ChiselOutputs_2 : ∃ n dt a b s, ChsReady s n dt 0x11 a b ∧ bit a.toNat 5 = false ∧ segBad s n (bits a.toNat 15 6) = false ∧ inGap s 0 (slotLine (chsSlot n
      a.toNat)) = none ∧ s.get R.SEG_SLOT_MODE (chsSlot n a.toNat) ≠ 2 :=
  ⟨5, 10, 0x70040, 0xFFFFFFFFF, wSeg, by decide +kernel, by decide +kernel, by decide +kernel, by decide +kernel, by decide +kernel⟩
theorem witness_ChiselOutputs_3 : ∃ n dt a b s, ChsReady s n dt 0x11 a b ∧ bit a.toNat 5 = false ∧ segBad s n (bits a.toNat 15 6) = false ∧ inGap s 0 (slotLine (chsSlot n
      a.toNat)) = none ∧ s.get R.SEG_SLOT_MODE (chsSlot n a.toNat) = 2 :=
  ⟨5, 10, 0x70040, 0xFFFFFFFFF, (wSeg.set R.SEG_SLOT_MODE 2 47), by decide +kernel, by decide +kernel, by decide +kernel, by decide +kernel, by decide +kernel⟩
theorem witness_ChiselOutputs_4 : ∃ n dt a b s, ChsReady s n dt 0x11 a b ∧ bit a.toNat 5 = true ∧ inGap s 0 (slotLine (chsSlot n a.toNat)) = none ∧ s.get R.SEG_SLOT_MODE
      (chsSlot n a.toNat) = 2 :=
  ⟨5, 10, 0x70060, 0, (wSeg.set R.SEG_SLOT_MODE 2 47), by decide +kernel, by decide +kernel, by decide +kernel, by decide +kernel⟩
theorem witness_ChiselOutputs_5 : ∃ n dt a b s l k, ChsReady s n dt 0x12 a b ∧ l = 2 * n.val + bits a.toNat 18 18 ∧ inGap s 1 l = none ∧ k = (if bit a.toNat 17 then gReg s n
      (bits a.toNat 3 0) % 2 ^ 20 else b.toNat) ∧ -(s.get R.GOV_BIAS_MAG_MAG l : Int) ≤ codeVal k ∧ codeVal k ≤ s.get R.GOV_BIAS_MAG_MAG l :=
  ⟨5, 10, 0x40000, 5, ((wChs {}).set R.GOV_BIAS_MAG_MAG 5 11), 11, 5, by decide +kernel, by decide +kernel, by decide +kernel, by decide +kernel, by decide +kernel, by decide +kernel⟩
theorem witness_ChiselOutputs_6 : ∃ n dt a b s l k, ChsReady s n dt 0x12 a b ∧ l = 2 * n.val + bits a.toNat 18 18 ∧ inGap s 1 l = none ∧ k = (if bit a.toNat 17 then gReg s n
      (bits a.toNat 3 0) % 2 ^ 20 else b.toNat) ∧ (s.get R.GOV_BIAS_MAG_MAG l : Int) < codeVal k :=
  ⟨5, 10, 0x40000, 6, ((wChs {}).set R.GOV_BIAS_MAG_MAG 5 11), 11, 6, by decide +kernel, by decide +kernel, by decide +kernel, by decide +kernel, by decide +kernel⟩
theorem witness_ChiselOutputs_7 : ∃ n dt a b s, ChsReady s n dt 0x13 a b ∧ ownsMarker s n (bits a.toNat 18 13) = true :=
  ⟨5, 10, 0x7F800, 0, (((wChs {}).set R.MKO_CTRL_OWNER 5 63).set R.MKO_CTRL_NONE 0 63), by decide +kernel, by decide +kernel⟩
theorem witness_ChiselOutputs_8 : ∃ n dt a b s d, ChsReady s n dt 0x14 a b ∧ d = 16 * bits a.toNat 18 13 + bits a.toNat 12 9 ∧ inGap s 2 (bits a.toNat 18 13) = none ∧ (∀ w ∈
      wins s d, winEnd w < s.tick + 6) :=
  ⟨5, 10, 0x7FE00, 0, (wChs {}), 1023, by decide +kernel, by decide +kernel, by decide +kernel, by decide +kernel⟩
theorem witness_ChiselRegisters_2 : ∃ (n : Fin 128) (dt : BitVec 12) (a : BitVec 19) (b : Word36) (s : State), s.get R.CHS_STATUS_STATE n = 2 ∧ (chs s n).ref + dt.toNat = s.tick
      ∧ (chs s n).next < 32768 ∧ (a ≠ 0 ∨ b ≠ 0) :=
  ⟨5, 1, 1, 0, { wChs {} with tick := 91 }, by decide +kernel, by decide +kernel, by decide +kernel, by decide +kernel⟩
theorem witness_ChiselOutputs_9 : ∃ n dt a b s d, ChsReady s n dt 0x14 a b ∧ d = 16 * bits a.toNat 18 13 + bits a.toNat 12 9 ∧ inGap s 2 (bits a.toNat 18 13) = none ∧ (∃ w ∈
      wins s d, s.tick + 6 ≤ winEnd w ∧ (w.issued < s.tick ∨ w.chisel ≤ n)) :=
  ⟨5, 10, 0x7FE00, 0, { wChs {} with windows := sset [] [] 1023 [{ o := 100, len := 4, chisel := 3, pc := 0, taint := [], issued := 94, shot := 0, t0 := 0 }] }, 1023, by decide +kernel, by decide +kernel, by decide +kernel, by decide +kernel⟩

/-! Witnesses: 06 -/

def wTabReq : TabReq := ⟨3, ⟨2047, 65535, 9, false⟩, 700, 100⟩
/-- Slot 47 of Chisel 5, with entry 3 of 40970 granules and entry 4 alike. -/
def wTab (x : Slot) (mode : Nat) : State :=
  ((({ wRun with tick := 100, now := 400, slots := sset {} [] 47 x }.set R.SEG_SLOT_MODE mode 47).set R.SEG_SLOT_ENTRY 3 47).set R.SEG_ENT_BYTES 0x2000A 40986).set
    R.SEG_ENT_BYTES 0x10001000A 40994
def wRing : State :=
  (((wUp.set R.STM_CTRL_ENABLE 1 511).set R.STM_BUF_SIZE 16 511).set R.STM_RD_INDEX 63 511).set R.STM_CONS_INDEX 60 511
def wGran : StmGran := ⟨60, List.replicate 16 7, 90⟩
def wStr : Slot := { segs := [⟨100, 5, true, 3, ⟨0, 77, 0, false⟩, false, none, 0, 0, 700⟩] }
def wHarv : State := { (( (wTab wStr 0).set R.STM_CONS_INDEX 0xFFFFFFFF 23).set R.STM_CTRL_ENABLE 1 23).set R.STM_BUF_SIZE 16 23 with clock := 95, stmBuf := sset [] [] 23 [{ wGran with idx := 0xFFFFFFFF }] }
def wFrm : State := { (wUp.set R.TON_FRM_INDEX_INDEX 2047 127) with frmLive := sset {} [] 262143 ⟨2 ^ 47, 3, 2 ^ 63⟩ }
theorem witness_TableSequencers_1 : ∃ (n : Fin 128) (k : Fin 8) (s : State) (z : Nat) (q : TabReq), z = 8 * n.val + k.val ∧ (slot s z).hand = some q ∧ s.get R.SEG_SLOT_MODE z =
      1 ∧ s.now % 4 = 0 ∧ q.at_ ≤ s.tick ∧ (slot s z).busyTo ≤ s.tick ∧ segBad s n q.entry = false :=
  ⟨5, 7, (wTab { hand := some wTabReq } 1), 47, wTabReq, by decide +kernel, by decide +kernel, by decide +kernel, by decide +kernel, by decide +kernel, by decide +kernel, by decide +kernel⟩
theorem witness_TableSequencers_2 : ∃ (n : Fin 128) (k : Fin 8) (s : State) (z : Nat) (q : TabReq), z = 8 * n.val + k.val ∧ (slot s z).hand = some q ∧ s.get R.SEG_SLOT_MODE z =
      1 ∧ s.now % 4 = 0 ∧ q.at_ ≤ s.tick ∧ (slot s z).busyTo ≤ s.tick ∧ segBad s n q.entry = true :=
  ⟨5, 7, (wTab { hand := some { wTabReq with entry := 5 } } 1), 47, { wTabReq with entry := 5 }, by decide +kernel, by decide +kernel, by decide +kernel, by decide +kernel, by decide +kernel, by decide +kernel, by decide +kernel⟩
theorem witness_TableSequencers_3 : ∃ (n : Fin 128) (k : Fin 8) (s : State) (z e : Nat), z = 8 * n.val + k.val ∧ s.get R.SEG_SLOT_MODE z = 2 ∧ e = s.get R.SEG_SLOT_ENTRY z ∧
      s.tick = max ((slot s z).occE - 8) ((slot s z).occE - 4 * segLen s n e) ∧ (slot s z).act = .none :=
  ⟨5, 7, (wTab { occE := 108 } 2), 47, 3, by decide +kernel, by decide +kernel, by decide +kernel, by decide +kernel, by decide +kernel⟩
theorem witness_TableSequencers_4 : ∃ (n : Fin 128) (k : Fin 8) (s : State) (z : Nat), z = 8 * n.val + k.val ∧ s.get R.SEG_SLOT_MODE z = 2 ∧ (slot s z).occE = s.tick ∧ ((slot s
      z).act = .leave ∨ (slot s z).done = true) :=
  ⟨5, 7, (wTab { occE := 100, act := .leave } 2), 47, by decide +kernel, by decide +kernel, by decide +kernel, by decide +kernel⟩
theorem witness_TableSequencers_5 : ∃ (n : Fin 128) (k : Fin 8) (s : State) (z : Nat) (q : TabReq), z = 8 * n.val + k.val ∧ s.get R.SEG_SLOT_MODE z = 2 ∧ (slot s z).occE =
      s.tick ∧ (slot s z).done = false ∧ (slot s z).act = .repoint q ∧ segBad s n q.entry = false :=
  ⟨5, 7, (wTab { occE := 100, act := .repoint wTabReq } 2), 47, wTabReq, by decide +kernel, by decide +kernel, by decide +kernel, by decide +kernel, by decide +kernel, by decide +kernel⟩
theorem witness_TableSequencers_6 : ∃ (n : Fin 128) (k : Fin 8) (s : State) (z e : Nat), z = 8 * n.val + k.val ∧ s.get R.SEG_SLOT_MODE z = 2 ∧ (slot s z).occE = s.tick ∧ (slot s
      z).done = false ∧ (slot s z).act = .jump e ∧ segBad s n e = false :=
  ⟨5, 7, (wTab { occE := 100, act := .jump 4 } 2), 47, 4, by decide +kernel, by decide +kernel, by decide +kernel, by decide +kernel, by decide +kernel, by decide +kernel⟩
theorem witness_TableSequencers_7 : ∃ (n : Fin 128) (k : Fin 8) (s : State) (z e : Nat), z = 8 * n.val + k.val ∧ s.get R.SEG_SLOT_MODE z = 2 ∧ (slot s z).occE = s.tick ∧ (slot s
      z).done = false ∧ (slot s z).act = .again ∧ e = s.get R.SEG_SLOT_ENTRY z ∧ segBad s n e = false :=
  ⟨5, 7, ((wTab { occE := 100, act := .again } 2).set R.SEG_SLOT_REMAIN 1 47), 47, 3, by decide +kernel, by decide +kernel, by decide +kernel, by decide +kernel, by decide +kernel, by decide +kernel, by decide +kernel⟩
theorem witness_TableSequencers_8 : ∃ (n : Fin 128) (k : Fin 8) (s : State) (z e : Nat), z = 8 * n.val + k.val ∧ s.get R.SEG_SLOT_MODE z = 2 ∧ (slot s z).occE = s.tick ∧ (slot s
      z).done = false ∧ (slot s z).act = .next ∧ e = segNext s n (s.get R.SEG_SLOT_ENTRY z) ∧ segBad s n e = false :=
  ⟨5, 7, ((wTab { occE := 100, act := .next } 2).set R.SEG_ENT_BYTES 4 40987), 47, 4, by decide +kernel, by decide +kernel, by decide +kernel, by decide +kernel, by decide +kernel, by decide +kernel, by decide +kernel⟩
theorem witness_Streams_1 : ∃ (m : Master) (r : Fin 512) (v : BitVec 32) (s : State), reaches s m (stmOff 0x1001014 r) true = true ∧ (v.toNat + 2 ^ 32 - s.get
      R.STM_RD_INDEX r) % 2 ^ 32 ≤ 2 ^ ringLog2 s r :=
  ⟨.s0, 511, 127, wRing, by decide +kernel, by decide +kernel⟩
theorem witness_Streams_2 : ∃ (m : Master) (r : Fin 512) (v : BitVec 32) (s : State), Canon s ∧ reaches s m (stmOff 0x1001014 r) true = true ∧ 2 ^ ringLog2 s r <
      (v.toNat + 2 ^ 32 - s.get R.STM_RD_INDEX r) % 2 ^ 32 :=
  ⟨.s0, 511, 128, wRing, by unfold Canon RegsFit; decide +kernel, by decide +kernel, by decide +kernel⟩
theorem witness_Streams_3 : ∃ (c : Fin 512) (ecc : Fin 3) (s : State), stmLive s c = true ∧ mainPowered s = true ∧ idxBefore (s.get R.STM_RD_INDEX c) (s.get
      R.STM_CONS_INDEX c) = false ∧ idxBefore (s.get R.STM_RD_INDEX c) (s.get R.STM_WR_INDEX c) = true ∧ (s.get R.STM_RD_INDEX c + 2 ^ 32 - s.get
      R.STM_CONS_INDEX c) % 2 ^ 32 < s.get R.STM_BUF_SIZE c ∧ ringAddr s c (s.get R.STM_RD_INDEX c) + 128 ≤ hbmSize ∧ s.xtalFail = false :=
  ⟨511, 0, (wRing.set R.STM_WR_INDEX 64 511), by decide +kernel, by decide +kernel, by decide +kernel, by decide +kernel, by decide +kernel, by decide +kernel, by decide +kernel⟩
theorem witness_Streams_4 : ∃ (c : Fin 512) (s : State) (g : StmGran) (rest : List StmGran), sget [] s.stmFetch c = g :: rest ∧ g.vis + 2 ≤ s.clock ∧ idxBefore g.idx
      (s.get R.STM_CONS_INDEX c) = true :=
  ⟨511, { wRing with clock := 92, stmFetch := sset [] [] 511 [{ wGran with idx := 59 }] }, { wGran with idx := 59 }, [], by decide +kernel, by decide +kernel, by decide +kernel⟩
theorem witness_Streams_5 : ∃ (c : Fin 512) (s : State) (g : StmGran) (rest : List StmGran), sget [] s.stmFetch c = g :: rest ∧ g.vis + 2 ≤ s.clock ∧ idxBefore g.idx
      (s.get R.STM_CONS_INDEX c) = false :=
  ⟨511, { wRing with clock := 92, stmFetch := sset [] [] 511 [wGran, wGran] }, wGran, [wGran], by decide +kernel, by decide +kernel, by decide +kernel⟩
theorem witness_Streams_7 : ∃ (n : Fin 128) (k : Fin 8) (s : State) (g : Seg) (c : Nat) (x : StmGran), granDue s (8 * n.val + k.val) true = some g ∧ (∀ j < k.val,
      granDue s (8 * n.val + j) true = none) ∧ (g.table = true → inGap s 0 (2 * n.val + k.val / 4) = none) ∧ c = 4 * n.val + g.start % 4 ∧
      stmLive s c = true ∧ ((sget [] s.stmBuf c).find? (fun x => x.idx == s.get R.STM_CONS_INDEX c) = some x) :=
  ⟨5, 7, wHarv, ⟨100, 5, true, 3, ⟨0, 77, 0, false⟩, false, none, 0, 0, 700⟩, 23, { wGran with idx := 0xFFFFFFFF }, by decide +kernel, by decide +kernel, by decide +kernel, by decide +kernel, by decide +kernel, by decide +kernel⟩
theorem witness_Streams_8 : ∃ (n : Fin 128) (k : Fin 8) (s : State) (g : Seg) (c : Nat), granDue s (8 * n.val + k.val) true = some g ∧ (∀ j < k.val, granDue s (8 * n.val
      + j) true = none) ∧ (g.table = true → inGap s 0 (2 * n.val + k.val / 4) = none) ∧ c = 4 * n.val + g.start % 4 ∧ (stmLive s c = true → (sget
      [] s.stmBuf c).find? (fun x => x.idx == s.get R.STM_CONS_INDEX c) = none) :=
  ⟨5, 7, { wHarv with stmBuf := [] }, ⟨100, 5, true, 3, ⟨0, 77, 0, false⟩, false, none, 0, 0, 700⟩, 23, by decide +kernel, by decide +kernel, by decide +kernel, by decide +kernel, by decide +kernel⟩
theorem witness_Streams_9 : ∃ (m : Master) (r : Fin 512) (v : BitVec 32) (s : State), reaches s m (stmOff 0x1001000 r) true = true ∧ rtHeld s m = false :=
  ⟨.s0, 511, 0x80000001, { wRing with stmFetch := sset [] (sset [] [] 3 [wGran]) 511 [wGran] }, by decide +kernel, by decide +kernel⟩
theorem witness_Streams_10 : ∃ (m : Master) (r : Fin 512) (v : BitVec 32) (s : State), Canon s ∧ reaches s m (stmOff 0x1001004 r) true = true ∧ rtHeld s m = false :=
  ⟨.s0, 511, 0xFFFFFFFF, { wRing with stmBuf := sset [] [] 511 [wGran] }, by unfold Canon RegsFit; decide +kernel, by decide +kernel, by decide +kernel⟩
theorem witness_FramesLinesMarkers_1 : ∃ (m : Master) (c : Fin 128) (v : BitVec 32) (s : State) (f : Machine.Frm), reaches s m (0x2000100 + c.val * 0x8000) true = true ∧ f = frmAt
      s (2048 * c.val + bits v.toNat 10 0) s.tick :=
  ⟨.s0, 127, 0xFFFFFFFF, wFrm, ⟨2 ^ 47, 3, 2 ^ 63⟩, by decide +kernel, by decide +kernel⟩
theorem witness_FramesLinesMarkers_2 : ∃ (m : Master) (c : Fin 128) (s : State) (key : Nat) (f : Machine.Frm), reaches s m (0x2000104 + c.val * 0x8000) true = true ∧ rtHeld s m =
      false ∧ key = 2048 * c.val + s.get R.TON_FRM_INDEX_INDEX c ∧ f = ⟨s.get R.TON_FRM_FREQ_LO_F_LO c + s.get R.TON_FRM_FREQ_HI_F_HI c * 2 ^ 32,
      s.get R.TON_FRM_PHASE_PHI c, s.get R.TON_FRM_T0_LO_T0_LO c + s.get R.TON_FRM_T0_HI_T0_HI c * 2 ^ 32⟩ :=
  ⟨.s0, 127, ((wFrm.set R.TON_FRM_PHASE_PHI 9 127).set R.TON_FRM_INDEX_AUTOINC 1 127), 262143, ⟨0, 9, 0⟩, by decide +kernel, by decide +kernel, by decide +kernel, by decide +kernel⟩
theorem witness_FramesLinesMarkers_3 : ∃ (m : Master) (n : Fin 256) (v : BitVec 32) (s : State), Canon s ∧ reaches s m (0x2000000 + n.val * 0x4000) true = true ∧ rtHeld s m = false
      ∧ bits v.toNat 0 0 ≠ s.get R.LIN_CFG_PATH n :=
  ⟨.s0, 255, 0xFFFFFFFF, (wUp.set R.LIN_STATUS_LIVE 1 255), by unfold Canon RegsFit; decide +kernel, by decide +kernel, by decide +kernel, by decide +kernel⟩
theorem witness_FramesLinesMarkers_4 : ∃ (m : Master) (n : Fin 256) (v : BitVec 32) (s : State), Canon s ∧ reaches s m (0x2000000 + n.val * 0x4000) true = true ∧ rtHeld s m = false
      ∧ bits v.toNat 0 0 = s.get R.LIN_CFG_PATH n ∧ bit v.toNat 4 = false :=
  ⟨.s0, 255, 0xFFFFFFEE, (wUp.set R.LIN_STATUS_MUTE_CAUSE 127 255), by unfold Canon RegsFit; decide +kernel, by decide +kernel, by decide +kernel, by decide +kernel, by decide +kernel⟩
theorem witness_FramesLinesMarkers_5 : ∃ (n : Fin 256) (s : State), s.get R.LIN_STATUS_PATH_SETTLE n ≠ 0 ∧ (line s n).settleEnd ≤ s.tick :=
  ⟨255, { (wUp.set R.LIN_STATUS_PATH_SETTLE 1 255).set R.LIN_STATUS_MUTE_CAUSE 127 255 with tick := 20000, lines := sset {} [] 255 { settleEnd := 20000 } }, by decide +kernel, by decide +kernel⟩
theorem witness_FramesLinesMarkers_6 : ∃ (n : Fin 256) (s : State), s.get R.LIN_STATUS_MUTE_CAUSE n = 0 ∧ s.get R.LIN_STATUS_LIVE n = 0 ∧ pntHasLine s n = false :=
  ⟨255, (wUp.set R.LIN_STATUS_MUTE_CAUSE 0 255), by decide +kernel, by decide +kernel, by decide +kernel⟩
theorem witness_FramesLinesMarkers_7 : ∃ (n : Fin 256) (s : State), s.get R.LIN_STATUS_MUTE_CAUSE n ≠ 0 :=
  ⟨255, wUp, by decide +kernel⟩
theorem witness_FramesLinesMarkers_8 : ∃ (k : Fin 64) (s : State), sget 0 s.mkEnd k = s.tick ∧ s.tick ≠ 0 :=
  ⟨63, { (wRun.set R.MKO_CTRL_LEVEL 1 63).set R.MKO_CTRL_INVERT 1 63 with tick := 100, mkEnd := sset 0 [] 63 100 }, by decide +kernel, by decide +kernel⟩
theorem witness_FramesLinesMarkers_9 : ∃ (m : Master) (n : Fin 128) (v : BitVec 64) (s : State) (a : Nat), reaches s m (0x1000028 + n.val * 0x20000) true = true ∧ rtHeld s m =
      false ∧ a = s.get R.CHS_MEM_CTRL_ADDR n ∧ s.get R.CHS_MEM_CTRL_SEL n = 0 ∧ a < 65536 :=
  ⟨.s0, 127, 0xFFFFFFFFFFFFFFFF, ((wUp.set R.CHS_MEM_CTRL_ADDR 65535 127).set R.CHS_MEM_CTRL_AUTOINC 1 127), 65535, by decide +kernel, by decide +kernel, by decide +kernel, by decide +kernel, by decide +kernel⟩
theorem witness_FramesLinesMarkers_10 : ∃ (m : Master) (n : Fin 128) (v : BitVec 64) (s : State) (a : Nat), reaches s m (0x1000028 + n.val * 0x20000) true = true ∧ rtHeld s m =
      false ∧ a = s.get R.CHS_MEM_CTRL_ADDR n ∧ s.get R.CHS_MEM_CTRL_SEL n = 1 :=
  ⟨.s0, 127, 5, ((wUp.set R.CHS_MEM_CTRL_ADDR 262143 127).set R.CHS_MEM_CTRL_SEL 1 127), 262143, by decide +kernel, by decide +kernel, by decide +kernel, by decide +kernel⟩
theorem witness_FramesLinesMarkers_11 : ∃ (m : Master) (n : Fin 128) (v : BitVec 64) (s : State) (a : Nat), reaches s m (0x1000028 + n.val * 0x20000) false = true ∧ a = s.get
      R.CHS_MEM_CTRL_ADDR n ∧ s.get R.CHS_MEM_CTRL_SEL n ≤ 1 :=
  ⟨.s0, 127, 5, { (wUp.set R.CHS_MEM_CTRL_ADDR 262143 127).set R.CHS_MEM_CTRL_SEL 1 127 with chsEnv := sset 0 [] (262144 * 128 - 1) 9 }, 262143, by decide +kernel, by decide +kernel, by decide +kernel⟩
theorem witness_Streams_6 : ∃ (c : Fin 512) (s : State), (∀ g ∈ (sget [] s.stmFetch c).head?, s.clock < g.vis + 2) :=
  ⟨511, { wRing with clock := 91, stmFetch := sset [] [] 511 [wGran] }, by decide +kernel⟩

/-! Witnesses: 08 -/

def wTick : State := { wRun.set R.CLK_STATUS_PLL_LOCK 1 with tick := 1000, now := 4000 }
def wBia (st : Nat) : State := ((wTick.set R.BIA_STATUS_STATE st 255).set R.BIA_GLIDE_STEP 100 255).set R.BIA_TARGET_CODE 0x80000 255
def wGov (l : Line) : State := { wTick with lines := sset {} [] 255 l }
theorem witness_BiasOutputs_1 : ∃ s : State, Canon s ∧ ticking s = true ∧ s.now % 400 = 0 ∧ s.quiesceEnd ≠ s.tick + 1 :=
  ⟨(wBia 2), by unfold Canon RegsFit; decide +kernel, by decide +kernel, by decide +kernel, by decide +kernel⟩
theorem witness_BiasOutputs_2 : ∃ s : State, s.now % 400 ≠ 0 :=
  ⟨{ wBia 2 with now := 4001 }, by decide +kernel⟩
theorem witness_BiasOutputs_3 : ∃ (n : Fin 256) (s : State), s.get R.BIA_STATUS_STATE n = 3 ∧ (bias s n).holdEnd ≤ s.tick :=
  ⟨255, { wBia 3 with biases := sset {} [] 255 { holdEnd := 1000, move := 2 } }, by decide +kernel, by decide +kernel⟩
theorem witness_BiasOutputs_4 : ∃ (n : Fin 256) (s : State), s.get R.BIA_STATUS_STATE n = 1 ∧ (bias s n).holdEnd ≠ 0 :=
  ⟨255, { (wBia 1).set R.BIA_PARK_LATCH_CODE 0xFFFFF 255 with biases := sset {} [] 255 { holdEnd := 1000 } }, by decide +kernel, by decide +kernel⟩
theorem witness_BiasOutputs_5 : ∃ s : State, Canon s :=
  ⟨(((wBia 2).set R.LIN_STATUS_LIVE 1 255).set R.BIA_PARK_LATCH_CODE 0xFFFFF 255), by unfold Canon RegsFit; decide +kernel⟩
theorem witness_BiasOutputs_6 : ∃ s : State, s.quiesce = true :=
  ⟨{ ((wBia 1).set R.BIA_STATUS_CAUSE 1 255).set R.LIN_STATUS_MUTE_CAUSE 127 255 with quiesce := true }, by decide +kernel⟩
theorem witness_BiasOutputs_7 : ∃ s : State, s.quiesce = false :=
  ⟨(wBia 1), by decide +kernel⟩
theorem witness_LoadGovernor_1 : ∃ (n : Fin 256) (s : State), ticking s = true ∧ s.now % 4000 = 0 ∧ mainPowered s = true :=
  ⟨255, { wGov { energy := 2 ^ 64 - 1, sub := List.replicate 100 1, ms := List.replicate 100 2 } with now := 40000000 }, by decide +kernel, by decide +kernel, by decide +kernel⟩
theorem witness_LoadGovernor_2 : ∃ (n : Fin 256) (s : State), Canon s ∧ (line s n).due = s.tick ∧ s.tick ≠ 0 ∧ s.get R.GOV_CTRL_ACTION n ≠ 0 ∧ (line s n).overs ≠ 0 ∧ s.get
      R.GOV_STATUS_TRIPPED n = 0 :=
  ⟨255, ((((wGov { due := 1000, overs := 7, live := true }).set R.GOV_CTRL_ACTION 1 255).set R.LIN_STATUS_LIVE 1 255).set R.BIA_STATUS_STATE 2 255), by unfold Canon RegsFit; decide +kernel, by decide +kernel, by decide +kernel, by decide +kernel, by decide +kernel, by decide +kernel⟩
theorem witness_LoadGovernor_3 : ∃ (n : Fin 256) (s : State), (line s n).due = s.tick ∧ s.tick ≠ 0 ∧ s.get R.GOV_CTRL_ACTION n ≠ 0 ∧ (line s n).overs = 0 :=
  ⟨255, ((wGov { due := 1000, under := true }).set R.GOV_CTRL_ACTION 1 255), by decide +kernel, by decide +kernel, by decide +kernel, by decide +kernel⟩
theorem witness_LoadGovernor_4 : ∃ (n : Fin 256) (s : State), Canon s ∧ (line s n).due = s.tick ∧ s.tick ≠ 0 ∧ s.get R.GOV_CTRL_ACTION n = 0 ∧ (line s n).fgTick ≠ s.tick + 1
      ∧ s.get R.GOV_TGT_TGT n ≤ 65536 :=
  ⟨255, (wGov { due := 1000, overs := 1 }), by unfold Canon RegsFit; decide +kernel, by decide +kernel, by decide +kernel, by decide +kernel, by decide +kernel, by decide +kernel⟩
theorem witness_LoadGovernor_5 : ∃ (n : Fin 256) (s : State), (line s n).due ≠ s.tick :=
  ⟨255, (wGov { due := 999 }), by decide +kernel⟩
theorem witness_LoadGovernor_6 : ∃ (m : Master) (n : Fin 256) (v : BitVec 32) (s : State), reaches s m (0x2000440 + n.val * 0x4000) true = true ∧ s.get R.PWR_STATE_STATE = 2
      ∧ s.get R.GOV_STATUS_TRIPPED n ≠ 0 :=
  ⟨.s0, 255, 0xFFFFFFFF, ((((wUp.set R.GOV_STATUS_TRIPPED 1 255).set R.BIA_STATUS_CAUSE 16 255).set R.BIA_STATUS_STATE 1 255).set R.LIN_STATUS_MUTE_CAUSE 5 255), by decide +kernel, by decide +kernel, by decide +kernel⟩

/-! Witnesses: 09 -/

def wWin : Win := { o := 22, len := 2, chisel := 127, pc := 32767, taint := taintOf tLATE 1 3, issued := 16, shot := 9, t0 := 5, opened := true }
def wDmd (w : Win) (tick : Nat) : State := { ((((wRun.set R.DMD_CFG_MODE 3 1023).set R.DMD_AX_VALUE 5 4092).set R.DMD_FREQ_LO_F_LO 77 1023) : State) with
  tick := tick, now := 4000, windows := sset [] [] 1023 [w], kmem := sset 0 [] (1023 * 4096) (2 ^ 19 + 5) }
def wCodes : List (BitVec 12) := (List.range 70).map fun k => BitVec.ofNat 12 (k * 31)
def wPub (st : Nat) : State := wDmd { wWin with result := some (st, taintOf tLATE 1 3) } 39
def wInp : State := { wRun with tick := 65600, now := 65536 }
theorem witness_WindowsAndPublications_1 : ∃ (n : Fin 64) (k : Fin 16) (s : State) (d : Nat), d = 16 * n.val + k.val ∧ (∃ w ∈ wins s d, w.o = s.tick) :=
  ⟨63, 15, (wDmd wWin 22), 1023, by decide +kernel, by decide +kernel⟩
theorem witness_WindowsAndPublications_2 : ∃ (n : Fin 64) (k : Fin 16) (codes : List (BitVec 12)) (s : State) (d : Nat) (w : Win) (x : Int → Int) (ds : List (Int × Int × Bool × Bool))
      (r : Int × Int × Bool) (st : Nat × Bool × Bool) (tt : Taint), d = 16 * n.val + k.val ∧ ((wins s d).find? (fun w => winEnd w + 8 == s.tick
      && w.result.isNone) = some w) ∧ (sget {} s.rq (16 + n / 8)).waiting.length < 2048 ∧ x = codesFrom (16 * (w.o - 14 : Nat) - 3) codes ∧ (ds =
      (List.range w.len).map (fun j => decimated s d x (w.o - 14 + 2 * j))) ∧ (r = integrate s d (ds.map fun p => (p.1, p.2.1))) ∧ st =
      discriminate s d r.1 r.2.1 ∧ tt = taintOr (taintOr w.taint (spanTaint s n (16 * (w.o - 14) - 3) (16 * (w.o - 14 + 2 * w.len) + 2) 4 d))
      (clockTaint s w.issued) :=
  ⟨63, 15, wCodes, (wDmd wWin 33), 1023, wWin, (codesFrom (16 * (22 - 14 : Nat) - 3) wCodes), ((List.range 2).map (fun j => decimated (wDmd wWin 33) 1023 (codesFrom (16 * (22 - 14 : Nat) - 3) wCodes) (22 - 14 + 2 * j))), (integrate (wDmd wWin 33) 1023 (((List.range 2).map (fun j => decimated (wDmd wWin 33) 1023 (codesFrom (16 * (22 - 14 : Nat) - 3) wCodes) (22 - 14 + 2 * j))).map fun p => (p.1, p.2.1))), (discriminate (wDmd wWin 33) 1023 (integrate (wDmd wWin 33) 1023 (((List.range 2).map (fun j => decimated (wDmd wWin 33) 1023 (codesFrom (16 * (22 - 14 : Nat) - 3) wCodes) (22 - 14 + 2 * j))).map fun p => (p.1, p.2.1))).1 (integrate (wDmd wWin 33) 1023 (((List.range 2).map (fun j => decimated (wDmd wWin 33) 1023 (codesFrom (16 * (22 - 14 : Nat) - 3) wCodes) (22 - 14 + 2 * j))).map fun p => (p.1, p.2.1))).2.1), (taintOr (taintOr wWin.taint (spanTaint (wDmd wWin 33) 63 (16 * (22 - 14) - 3) (16 * (22 - 14 + 2 * 2) + 2) 4 1023)) (clockTaint (wDmd wWin 33) 16)), rfl, by decide +kernel, by decide +kernel, rfl, rfl, rfl, rfl, rfl⟩
theorem witness_WindowsAndPublications_3 : ∃ (n : Fin 64) (k : Fin 16) (s : State) (d : Nat) (w : Win) (st : Nat) (tt : Taint), d = 16 * n.val + k.val ∧ ((wins s d).find? (fun w =>
      winEnd w + 14 == s.tick) = some w) ∧ w.result = some (st, tt) ∧ s.get R.DMD_CFG_PUB d = 0 ∧ alarmActive s = false :=
  ⟨63, 15, ((wPub 1).set R.DMD_CFG_PUB 0 1023), 1023, { wWin with result := some (1, taintOf tLATE 1 3) }, 1, (taintOf tLATE 1 3), by decide +kernel, by decide +kernel, by decide +kernel, by decide +kernel, by decide +kernel⟩
theorem witness_WindowsAndPublications_4 : ∃ (n : Fin 64) (k : Fin 16) (s : State) (d : Nat) (w : Win) (st : Nat) (tt : Taint), d = 16 * n.val + k.val ∧ ((wins s d).find? (fun w =>
      winEnd w + 14 == s.tick) = some w) ∧ w.result = some (st, tt) ∧ s.get R.DMD_CFG_PUB d = 1 :=
  ⟨63, 15, ((wPub 2).set R.DMD_CFG_PUB 1 1023), 1023, { wWin with result := some (2, taintOf tLATE 1 3) }, 2, (taintOf tLATE 1 3), by decide +kernel, by decide +kernel, by decide +kernel, by decide +kernel⟩
theorem witness_WindowsAndPublications_5 : ∃ (n : Fin 64) (k : Fin 16) (s : State) (w : Win) (st : Nat) (tt : Taint), ((wins s (16 * n.val + k.val)).find? (fun w => winEnd w + 14 ==
      s.tick) = some w) ∧ w.result = some (st, tt) ∧ 2 ≤ s.get R.DMD_CFG_PUB (16 * n.val + k.val) :=
  ⟨63, 15, (wPub 2), { wWin with result := some (2, taintOf tLATE 1 3) }, 2, (taintOf tLATE 1 3), by decide +kernel, by decide +kernel, by decide +kernel⟩
theorem witness_InputsAndPatina_1 : ∃ (n : Fin 64) (s : State), s.get R.INP_STATUS_SETTLE n ≠ 0 ∧ (patina s n).settleEnd ≤ s.tick :=
  ⟨63, { wInp.set R.INP_STATUS_SETTLE 1 63 with patinas := sset {} [] 63 { settleEnd := 65600 } }, by decide +kernel, by decide +kernel⟩
theorem witness_InputsAndPatina_2 : ∃ (n : Fin 64) (s : State), s.tick < (patina s n).settleEnd :=
  ⟨63, { wInp.set R.INP_STATUS_SETTLE 1 63 with patinas := sset {} [] 63 { settleEnd := 65601 } }, by decide +kernel⟩
theorem witness_InputsAndPatina_3 : ∃ (n : Fin 64) (mask : BitVec 16) (s : State) (c : Nat), mask ≠ 0 ∧ s.get R.INP_CFG_OFF n = 0 ∧ s.tick = c + 14 :=
  ⟨63, 0x8001, (wInp.set R.EVF_SRC_EN 1 764), 65586, by decide +kernel, by decide +kernel, by decide +kernel⟩
theorem witness_InputsAndPatina_4 : ∃ (n : Fin 64) (mask : BitVec 16) (s : State), (mask = 0 ∨ s.get R.INP_CFG_OFF n ≠ 0) :=
  ⟨63, 0, wInp, by decide +kernel⟩
theorem witness_InputsAndPatina_5 : ∃ (n : Fin 64) (hs : List (List (BitVec 12 × Nat))) (s : State) (count : Nat), mainPowered s = true ∧ s.get R.INP_CFG_OFF n = 0 ∧ s.get
      R.INP_CFG_PATINA_HOLD n = 0 ∧ s.now % 65536 = 0 ∧ count = (patina s n).count + 16 * (s.tick - (patina s n).lastAt) ∧ s.get
      R.INP_STATUS_CONV n = 0 ∧ count < 2 ^ 20 :=
  ⟨63, [], { wInp with patinas := sset {} [] 63 { count := 2 ^ 20 - 17, lastAt := 65599 } }, 1048575, by decide +kernel, by decide +kernel, by decide +kernel, by decide +kernel, by decide +kernel, by decide +kernel, by decide +kernel⟩
theorem witness_InputsAndPatina_6 : ∃ (n : Fin 64) (hs : List (List (BitVec 12 × Nat))) (s : State) (count : Nat), mainPowered s = true ∧ s.get R.INP_CFG_OFF n = 0 ∧ s.get
      R.INP_CFG_PATINA_HOLD n = 0 ∧ s.get R.INP_CFG_PATINA_LOG n = 0 ∧ s.now % 65536 = 0 ∧ count = (patina s n).count + 16 * (s.tick - (patina s
      n).lastAt) ∧ s.get R.INP_STATUS_CONV n = 0 ∧ 2 ^ 20 ≤ count :=
  ⟨63, [[(5, 9), (0xFFF, 3)]], { wInp with patinas := sset {} [] 63 { count := 2 ^ 20 - 16, lastAt := 65599 } }, 1048576, by decide +kernel, by decide +kernel, by decide +kernel, by decide +kernel, by decide +kernel, by decide +kernel, by decide +kernel, by decide +kernel⟩
theorem witness_InputsAndPatina_7 : ∃ (n : Fin 64) (hs : List (List (BitVec 12 × Nat))) (b : Bool) (s : State), (s.get R.INP_CFG_PATINA_HOLD n ≠ 0 ∨ s.now % 65536 ≠ 0) :=
  ⟨63, [], false, { wInp with now := 65537 }, by decide +kernel⟩
theorem witness_InputsAndPatina_8 : ∃ (m : Master) (n : Fin 64) (v : BitVec 64) (s : State) (a : Nat), reaches s m (0x2800028 + n.val * 0x10000) true = true ∧ rtHeld s m = false
      ∧ a = (16 * n.val + s.get R.INP_KMEM_CTRL_TONE n) * 4096 + s.get R.INP_KMEM_CTRL_ADDR n :=
  ⟨.s0, 63, 0xFFFFFFFFFFFFFFFF, (((wUp.set R.INP_KMEM_CTRL_TONE 15 63).set R.INP_KMEM_CTRL_ADDR 4095 63).set R.INP_KMEM_CTRL_AUTOINC 1 63), 4194303, by decide +kernel, by decide +kernel, by decide +kernel⟩
theorem witness_InputsAndPatina_9 : ∃ (m : Master) (n : Fin 64) (v : BitVec 64) (s : State) (a : Nat), reaches s m (0x2800028 + n.val * 0x10000) false = true ∧ a = (16 * n.val +
      s.get R.INP_KMEM_CTRL_TONE n) * 4096 + s.get R.INP_KMEM_CTRL_ADDR n :=
  ⟨.s0, 63, 0, { ((wUp.set R.INP_KMEM_CTRL_TONE 15 63).set R.INP_KMEM_CTRL_ADDR 4095 63).set R.INP_KMEM_CTRL_AUTOINC 1 63 with kmem := sset 0 [] 4194303 9 }, 4194303, by decide +kernel, by decide +kernel⟩

/-! Witnesses: 10 -/

def enc (l : List (Nat × Nat)) : BitVec 30 := BitVec.ofNat 30 (l.foldl (fun a p => a + p.1 * 2 ^ p.2) 0)
/-- Caliper 63 issues cycle 200 of tick 100. -/
def wC (m : Nat) (c : Clp) : State :=
  { ((wRun.set R.CLP_STATUS_STATE 2 63).set R.CLP_CTRL_MODE m 63) with tick := 100, now := 4000, shotStart := 60, calipers := sset {} [] 63 { c with next := 700, cyc := 200 } }
def wCx (m : Nat) (l : List (Nat × Nat)) : State := l.foldl (fun s p => s.set R.CLP_X_VALUE p.2 (16 * 63 + p.1)) (wC m {})
def wCm (m : Nat) (l : List (Nat × Nat)) (c : Clp := {}) : State :=
  { (((wC m c).set R.CLP_P_VALUE 65535 (8 * 63 + 7)).set R.CLP_P_VALUE 3 (8 * 63)).set R.CLP_M_VALUE 2 511 with clpMem := l.foldl (fun a p => sset 0 a (63 * 65536 + p.1) p.2) [] }
def wPc (p : CWrite) : Clp := { pend := [p] }
theorem witness_CaliperIssue_1 : ∃ (n : Fin 64) (w : BitVec 30) (s : State), ClpReady s n :=
  ⟨63, 0, (wC 1 {}), by decide +kernel⟩
theorem witness_CaliperIssue_2 : ∃ (n : Fin 64) (w : BitVec 30) (s : State), clpMayIssue s n = false :=
  ⟨63, 0, (wC 1 { cyc := 9 } |>.set R.CLP_STATUS_STATE 3 63), by decide +kernel⟩
theorem witness_CaliperIssue_3 : ∃ (n : Fin 64) (w : BitVec 30) (s : State), ClpReady s n ∧ (clp s n).next < 16384 ∧ (clp s n).delay = 0 ∧ (clp s n).rep ≤ 1 ∧ (clp s n).loops
      = [] ∧ (clp s n).pend = [] ∧ (clp s n).depQ = [] :=
  ⟨63, 0, (wC 1 {}), by decide +kernel, by decide +kernel, by decide +kernel, by decide +kernel, by decide +kernel, by decide +kernel, by decide +kernel⟩
theorem witness_CaliperIssue_4 : ∃ (n : Fin 64) (w : BitVec 30) (s : State), ClpReady s n ∧ (clp s n).next < 16384 ∧ 1 < (clp s n).rep ∧ (clp s n).pend = [] ∧ (clp s n).depQ
      = [] :=
  ⟨63, 0, (wC 1 { rep := 4096, repPc := true }), by decide +kernel, by decide +kernel, by decide +kernel, by decide +kernel, by decide +kernel⟩
theorem witness_CaliperIssue_5 : ∃ (n : Fin 64) (w : BitVec 30) (s : State) (to_ : Nat), ClpReady s n ∧ (clp s n).next < 16384 ∧ (clp s n).delay = 1 ∧ (clp s n).dTo = some
      to_ ∧ (clp s n).rep ≤ 1 ∧ (clp s n).loops = [] ∧ (clp s n).pend = [] ∧ (clp s n).depQ = [] :=
  ⟨63, 0, ((wC 1 { delay := 1, dTo := some 16383, dRet := true, susp := 2 }).set R.CLP_STATUS_HANDLER 1 63), 16383, by decide +kernel, by decide +kernel, by decide +kernel, by decide +kernel, by decide +kernel, by decide +kernel, by decide +kernel, by decide +kernel⟩
theorem witness_CaliperIssue_6 : ∃ (n : Fin 64) (w : BitVec 30) (s : State) (l : CLoop), ClpReady s n ∧ (clp s n).next < 16384 ∧ (clp s n).delay = 0 ∧ (clp s n).rep ≤ 1 ∧
      (clp s n).loops = [l] ∧ (clp s n).susp = 0 ∧ l.end_ = (clp s n).next ∧ (clp s n).pend = [] ∧ (clp s n).depQ = [] :=
  ⟨63, 0, (wC 1 { loops := [⟨5, 700, 2⟩] }), ⟨5, 700, 2⟩, by decide +kernel, by decide +kernel, by decide +kernel, by decide +kernel, by decide +kernel, by decide +kernel, by decide +kernel, by decide +kernel, by decide +kernel⟩
theorem witness_CaliperIssue_7 : ∃ (n : Fin 64) (w : BitVec 30) (s : State) (k : Fin 16) (at_ v : Nat), ClpReady s n ∧ (clp s n).pend = [⟨at_, .x k, v, false⟩] ∧ (clp s
      n).depQ = [] :=
  ⟨63, 0, (wC 1 (wPc ⟨200, .x 15, 2 ^ 36 + 5, false⟩)), 15, 200, (2 ^ 36 + 5), by decide +kernel, by decide +kernel, by decide +kernel⟩
theorem witness_CaliperIssue_8 : ∃ (n : Fin 64) (w : BitVec 30) (s : State) (a : Fin 65536) (at_ v : Nat), ClpReady s n ∧ (clp s n).pend = [⟨at_, .mem a, v, false⟩] ∧ (clp s
      n).depQ = [] ∧ at_ ≤ clpCyc s n :=
  ⟨63, 0, (wC 1 (wPc ⟨200, .mem 65535, 2 ^ 36 + 5, false⟩)), 65535, 200, (2 ^ 36 + 5), by decide +kernel, by decide +kernel, by decide +kernel, by decide +kernel⟩
theorem witness_CaliperControl_1 : ∃ (n : Fin 64) (w : BitVec 30) (s : State), ClpReady s n ∧ ClpFree s n :=
  ⟨63, 0, (wC 1 {}), by decide +kernel, by decide +kernel⟩
theorem witness_CaliperControl_2 : ∃ (n : Fin 64) (w : BitVec 30) (s u : State) (to_ : Option Nat), ClpReady s n ∧ ClpFree s n ∧ u = clpSeen s n ∧ bits w.toNat 29 26 ≤ 4 ∧ xReg
      u n (bits w.toNat 25 22) < 2 ^ 36 ∧ to_ = (if clpTaken (bits w.toNat 29 26) (xReg u n (bits w.toNat 25 22)) = true then some (bits w.toNat
      13 0) else none) :=
  ⟨63, (enc [(4, 26), (15, 22), (16383, 0)]), (wCx 1 [(15, 2 ^ 35 - 1)]), (clpSeen (wCx 1 [(15, 2 ^ 35 - 1)]) 63), (some 16383), by decide +kernel, by decide +kernel, by decide +kernel, by decide +kernel, by decide +kernel, by decide +kernel⟩
theorem witness_CaliperControl_3 : ∃ (n : Fin 64) (w : BitVec 30) (s u : State), ClpReady s n ∧ ClpFree s n ∧ u = clpSeen s n ∧ s.get R.CLP_STATUS_HANDLER n ≠ 0 :=
  ⟨63, 0, (((wC 1 {}).set R.CLP_STATUS_HANDLER 1 63).set R.CLP_ELR_ELR 16383 63), (clpSeen (((wC 1 {}).set R.CLP_STATUS_HANDLER 1 63).set R.CLP_ELR_ELR 16383 63) 63), by decide +kernel, by decide +kernel, by decide +kernel, by decide +kernel⟩
theorem witness_CaliperControl_4 : ∃ (n : Fin 64) (w : BitVec 30) (s u : State), ClpReady s n ∧ ClpFree s n ∧ u = clpSeen s n ∧ s.get R.CLP_STATUS_HANDLER n = 0 ∧ s.get
      R.CLP_CTRL_MODE n = 1 :=
  ⟨63, 0, (wC 1 {}), (clpSeen (wC 1 {}) 63), by decide +kernel, by decide +kernel, by decide +kernel, by decide +kernel, by decide +kernel⟩
theorem witness_CaliperControl_5 : ∃ (n : Fin 64) (w : BitVec 30) (s u : State), ClpReady s n ∧ (clp s n).delay ≠ 0 ∧ u = clpSeen s n ∧ s.get R.CLP_CTRL_MODE n = 1 :=
  ⟨63, 0, (wC 1 { delay := 2 }), (clpSeen (wC 1 { delay := 2 }) 63), by decide +kernel, by decide +kernel, by decide +kernel, by decide +kernel⟩
theorem witness_CaliperControl_6 : ∃ (n : Fin 64) (w : BitVec 30) (s u : State), ClpReady s n ∧ (clp s n).delay ≠ 0 ∧ u = clpSeen s n ∧ s.get R.CLP_CTRL_MODE n = 1 :=
  ⟨63, 0, (wC 1 { delay := 1 }), (clpSeen (wC 1 { delay := 1 }) 63), by decide +kernel, by decide +kernel, by decide +kernel, by decide +kernel⟩
def wRep : State := { wC 1 {} with clpProg := sset 0 [] (63 * 16384 + 701) (0x11 * 2 ^ 30) }
theorem witness_CaliperControl_7 : ∃ (n : Fin 64) (w : BitVec 30) (s u : State) (k : Nat), ClpReady s n ∧ ClpFree s n ∧ u = clpSeen s n ∧ notRepeatable (clpWord s n (min ((clp
      s n).next + 1) 16384) / 2 ^ 30) = false ∧ k = (if bit w.toNat 29 then xReg u n (bits w.toNat 28 25) % 2 ^ 12 else bits w.toNat 11 0) :=
  ⟨63, 0xFFF, wRep, (clpSeen wRep 63), 0xFFF, by decide +kernel, by decide +kernel, by decide +kernel, by decide +kernel, by decide +kernel⟩
theorem witness_CaliperControl_8 : ∃ (n : Fin 64) (w : BitVec 30) (s u : State), ClpReady s n ∧ ClpFree s n ∧ u = clpSeen s n ∧ s.get R.CLP_CTRL_MODE n = 1 ∧ notRepeatable
      (clpWord s n (min ((clp s n).next + 1) 16384) / 2 ^ 30) = true :=
  ⟨63, 0xFFF, (wC 1 {}), (clpSeen (wC 1 {}) 63), by decide +kernel, by decide +kernel, by decide +kernel, by decide +kernel, by decide +kernel⟩
theorem witness_CaliperControl_9 : ∃ (n : Fin 64) (w : BitVec 30) (s u : State) (k : Nat), ClpReady s n ∧ ClpFree s n ∧ u = clpSeen s n ∧ (clp s n).loops.length < 4 ∧ k = (if
      bit w.toNat 29 then xReg u n (bits w.toNat 17 14) % 2 ^ 15 else bits w.toNat 28 14) :=
  ⟨63, (enc [(32767, 14), (16383, 0)]), (wC 1 { loops := [⟨1, 2, 3⟩, ⟨1, 2, 3⟩, ⟨1, 2, 3⟩] }), (clpSeen (wC 1 { loops := [⟨1, 2, 3⟩, ⟨1, 2, 3⟩, ⟨1, 2, 3⟩] }) 63), 32767, by decide +kernel, by decide +kernel, by decide +kernel, by decide +kernel, by decide +kernel⟩
theorem witness_CaliperControl_10 : ∃ (n : Fin 64) (w : BitVec 30) (s u : State), ClpReady s n ∧ ClpFree s n ∧ u = clpSeen s n ∧ 4 ≤ (clp s n).loops.length ∧ s.get
      R.CLP_CTRL_MODE n = 1 :=
  ⟨63, 0, (wC 1 { loops := [⟨1, 2, 3⟩, ⟨1, 2, 3⟩, ⟨1, 2, 3⟩, ⟨1, 2, 3⟩] }), (clpSeen (wC 1 { loops := [⟨1, 2, 3⟩, ⟨1, 2, 3⟩, ⟨1, 2, 3⟩, ⟨1, 2, 3⟩] }) 63), by decide +kernel, by decide +kernel, by decide +kernel, by decide +kernel, by decide +kernel⟩
theorem witness_CaliperControl_11 : ∃ (n : Fin 64) (w : BitVec 30) (s u : State) (k to_ : Nat), ClpReady s n ∧ ClpFree s n ∧ u = clpSeen s n ∧ (clp s n).waitRem = none ∧ k = (if
      bit w.toNat 29 then xReg u n (bits w.toNat 28 25) % 2 ^ 32 else bits w.toNat 24 0) ∧ to_ = (if s.get R.CLP_CTRL_MODE n = 1 then max (clpCyc
      s n + 1) (2 * s.shotStart + k) else clpCyc s n + max k 1) :=
  ⟨63, 81, (wC 1 {}), (clpSeen (wC 1 {}) 63), 81, 201, by decide +kernel, by decide +kernel, by decide +kernel, by decide +kernel, by decide +kernel, by decide +kernel⟩
theorem witness_CaliperControl_12 : ∃ (n : Fin 64) (s : State), s.get R.CLP_STATUS_STATE n = 3 ∧ clpCyc s n / 2 = s.tick :=
  ⟨63, ((wC 1 {}).set R.CLP_STATUS_STATE 3 63), by decide +kernel, by decide +kernel⟩
theorem witness_CaliperControl_13 : ∃ (n : Fin 64) (w : BitVec 30) (s u : State), ClpReady s n ∧ u = clpSeen s n ∧ bits w.toNat 29 28 ≤ 2 :=
  ⟨63, 0x1000FFFF, ((wC 1 {}).set R.CLP_EVT_EMASK 3 63), (clpSeen ((wC 1 {}).set R.CLP_EVT_EMASK 3 63) 63), by decide +kernel, by decide +kernel, by decide +kernel⟩
def wv : Nat := (2 ^ 17) * 2 ^ 18 + 2 ^ 17 - 1
def wM : State := wCm 1 [(65535, wv), (3, 2 ^ 36 - 5)] { acc := [2 ^ 79 - 1, 1, 2, 2 ^ 79], accV := [2 ^ 79 - 1, 1, 2 ^ 79, 2 ^ 80 - 3] }
theorem witness_CaliperArithmetic_1 : ∃ (n : Fin 64) (w : BitVec 30) (s u : State) (x y : Int × Int) (re im : Int), ClpReady s n ∧ u = clpSeen s n ∧ clpHasMbx u n = false ∧ bit
      w.toNat 18 = false ∧ bit w.toNat 11 = false ∧ x = cplx (dmem u n (pReg u n (bits w.toNat 24 22))) ∧ y = cplx (dmem u n (pReg u n (bits
      w.toNat 17 15))) ∧ re = (if bit w.toNat 25 then x.1 * y.1 + x.2 * y.2 else x.1 * y.1 - x.2 * y.2) ∧ im = (if bit w.toNat 25 then x.2 * y.1
      - x.1 * y.2 else x.1 * y.2 + x.2 * y.1) :=
  ⟨63, (enc [(2, 28), (1, 26), (7, 22)]), wM, (clpSeen wM 63), (cplx wv), (cplx (2 ^ 36 - 5)), ((cplx wv).1 * (cplx (2 ^ 36 - 5)).1 - (cplx wv).2 * (cplx (2 ^ 36 - 5)).2), ((cplx wv).1 * (cplx (2 ^ 36 - 5)).2 + (cplx wv).2 * (cplx (2 ^ 36 - 5)).1), by decide +kernel, by decide +kernel, by decide +kernel, by decide +kernel, by decide +kernel, by decide +kernel, by decide +kernel, by decide +kernel, by decide +kernel⟩
theorem witness_CaliperArithmetic_2 : ∃ (n : Fin 64) (w : BitVec 30) (s u : State) (x y : Int × Int) (re im : Int), ClpReady s n ∧ u = clpSeen s n ∧ clpHasMbx u n = false ∧ bit
      w.toNat 18 = false ∧ x = cplx (dmem u n (pReg u n (bits w.toNat 24 22))) ∧ y = cplx (xReg u n (bits w.toNat 17 14)) ∧ re = (if bit w.toNat
      25 then x.1 * y.1 + x.2 * y.2 else x.1 * y.1 - x.2 * y.2) ∧ im = (if bit w.toNat 25 then x.2 * y.1 - x.1 * y.2 else x.1 * y.2 + x.2 * y.1) :=
  ⟨63, (enc [(3, 28), (7, 22), (15, 14)]), (wM.set R.CLP_X_VALUE (2 ^ 36 - 5) 1023), (clpSeen (wM.set R.CLP_X_VALUE (2 ^ 36 - 5) 1023) 63), (cplx wv), (cplx (2 ^ 36 - 5)), ((cplx wv).1 * (cplx (2 ^ 36 - 5)).1 - (cplx wv).2 * (cplx (2 ^ 36 - 5)).2), ((cplx wv).1 * (cplx (2 ^ 36 - 5)).2 + (cplx wv).2 * (cplx (2 ^ 36 - 5)).1), by decide +kernel, by decide +kernel, by decide +kernel, by decide +kernel, by decide +kernel, by decide +kernel, by decide +kernel, by decide +kernel⟩
theorem witness_CaliperArithmetic_3 : ∃ (n : Fin 64) (w : BitVec 30) (s u : State) (p v : Int), ClpReady s n ∧ u = clpSeen s n ∧ clpHasMbx u n = false ∧ bit w.toNat 18 = false ∧
      bit w.toNat 11 = false ∧ p = sgn 36 (dmem u n (pReg u n (bits w.toNat 24 22))) * sgn 36 (dmem u n (pReg u n (bits w.toNat 17 15))) ∧ v =
      (if bit w.toNat 27 then 0 else accReg u n (bits w.toNat 29 28)) + (if bit w.toNat 26 then -p else p) :=
  ⟨63, (enc [(3, 28), (7, 22)]), wM, (clpSeen wM 63), (sgn 36 wv * -5), (-2 ^ 79 + sgn 36 wv * -5), by decide +kernel, by decide +kernel, by decide +kernel, by decide +kernel, by decide +kernel, by decide +kernel, by decide +kernel⟩
theorem witness_CaliperArithmetic_4 : ∃ (n : Fin 64) (w : BitVec 30) (s u : State) (p v : Int), ClpReady s n ∧ u = clpSeen s n ∧ clpHasMbx u n = false ∧ bit w.toNat 18 = false ∧ p
      = sgn 36 (dmem u n (pReg u n (bits w.toNat 24 22))) * sgn 36 (xReg u n (bits w.toNat 17 14)) ∧ v = (if bit w.toNat 27 then 0 else accReg u
      n (bits w.toNat 29 28)) + (if bit w.toNat 26 then -p else p) :=
  ⟨63, (enc [(0, 28), (1, 27), (7, 22), (15, 14)]), (wM.set R.CLP_X_VALUE (2 ^ 36 - 5) 1023), (clpSeen (wM.set R.CLP_X_VALUE (2 ^ 36 - 5) 1023) 63), (sgn 36 wv * -5), (sgn 36 wv * -5), by decide +kernel, by decide +kernel, by decide +kernel, by decide +kernel, by decide +kernel, by decide +kernel⟩
theorem witness_CaliperArithmetic_5 : ∃ (n : Fin 64) (w : BitVec 30) (s u : State) (x : Nat), ClpReady s n ∧ u = clpSeen s n ∧ clpHasMbx u n = false ∧ bit w.toNat 27 = false ∧ x =
      dmem u n (pReg u n (bits w.toNat 20 18)) :=
  ⟨63, (enc [(3, 28), (63, 21), (7, 18), (7, 15), (1, 14)]), wM, (clpSeen wM 63), wv, by decide +kernel, by decide +kernel, by decide +kernel, by decide +kernel, by decide +kernel⟩
theorem witness_CaliperArithmetic_6 : ∃ (n : Fin 64) (w : BitVec 30) (s u : State) (x : Int × Int), ClpReady s n ∧ u = clpSeen s n ∧ clpHasMbx u n = false ∧ bit w.toNat 27 = true
      ∧ bit w.toNat 14 = false ∧ x = cplx (dmem u n (pReg u n (bits w.toNat 20 18))) :=
  ⟨63, (enc [(3, 28), (1, 27), (63, 21), (7, 18)]), wM, (clpSeen wM 63), (cplx wv), by decide +kernel, by decide +kernel, by decide +kernel, by decide +kernel, by decide +kernel, by decide +kernel⟩
theorem witness_CaliperArithmetic_7 : ∃ (n : Fin 64) (w : BitVec 30) (s u : State) (r : Int × Bool), ClpReady s n ∧ u = clpSeen s n ∧ bit w.toNat 27 = false ∧ bit w.toNat 20 =
      true ∧ r = narrow (accSta u n (bits w.toNat 29 28)) (bits w.toNat 26 21) 36 ∧ NoClash u n (bits w.toNat 19 16) (clpCyc s n + 3) :=
  ⟨63, (enc [(2, 28), (63, 21), (1, 20), (15, 16)]), wM, (clpSeen wM 63), (narrow (-2 ^ 79) 63 36), by decide +kernel, by decide +kernel, by decide +kernel, by decide +kernel, by decide +kernel, by decide +kernel⟩
theorem witness_CaliperArithmetic_8 : ∃ (n : Fin 64) (w : BitVec 30) (s u : State) (i q : Int × Bool) (a : Nat), ClpReady s n ∧ u = clpSeen s n ∧ bit w.toNat 27 = true ∧ bit
      w.toNat 20 = false ∧ bit w.toNat 13 = false ∧ clpHasMbx u n = false ∧ a = pReg u n (bits w.toNat 19 17) ∧ depClash u n (clpCyc s n) a =
      false ∧ i = narrow (accSta u n (bits w.toNat 29 28)) (bits w.toNat 26 21) 18 ∧ q = narrow (accSta u n (bits w.toNat 29 28 + 1)) (bits
      w.toNat 26 21) 18 :=
  ⟨63, (enc [(3, 28), (1, 27), (62, 21), (7, 17)]), wM, (clpSeen wM 63), (narrow (-3) 62 18), (narrow (2 ^ 79 - 1) 62 18), 65535, by decide +kernel, by decide +kernel, by decide +kernel, by decide +kernel, by decide +kernel, by decide +kernel, by decide +kernel, by decide +kernel, by decide +kernel, by decide +kernel⟩
theorem witness_CaliperArithmetic_9 : ∃ (n : Fin 64) (w : BitVec 30) (s u : State) (d a v : Int), ClpReady s n ∧ u = clpSeen s n ∧ d = accReg u n (bits w.toNat 29 28) ∧ a = accReg
      u n (bits w.toNat 27 26) ∧ (bits w.toNat 25 23 ≤ 3 ∨ bits w.toNat 25 23 = 6) ∧ v =
      (match bits w.toNat 25 23 with
        | 0 => d + a
        | 1 => d - a
        | 2 => a
        | 3 => -a
        | _ => 0) :=
  ⟨63, (enc [(3, 28), (0, 26), (1, 23)]), wM, (clpSeen wM 63), (-2 ^ 79), (2 ^ 79 - 1), (-2 ^ 80 + 1), by decide +kernel, by decide +kernel, by decide +kernel, by decide +kernel, by decide +kernel, by decide +kernel⟩
theorem witness_CaliperData_1 : ∃ (n : Fin 64) (w : BitVec 30) (s u : State) (a : Nat), ClpReady s n ∧ u = clpSeen s n ∧ bit w.toNat 25 = false ∧ bit w.toNat 17 = false ∧
      bit w.toNat 18 = false ∧ clpHasMbx u n = false ∧ a = pReg u n (bits w.toNat 24 22) ∧ NoClash u n (bits w.toNat 29 26) (clpCyc s n + 2) :=
  ⟨63, (enc [(15, 26), (7, 22)]), wM, (clpSeen wM 63), 65535, by decide +kernel, by decide +kernel, by decide +kernel, by decide +kernel, by decide +kernel, by decide +kernel, by decide +kernel, by decide +kernel⟩
theorem witness_CaliperData_2 : ∃ (n : Fin 64) (w : BitVec 30) (s u : State) (a : Nat), ClpReady s n ∧ u = clpSeen s n ∧ bit w.toNat 25 = true ∧ bit w.toNat 17 = false ∧ bit
      w.toNat 18 = false ∧ clpHasMbx u n = false ∧ a = pReg u n (bits w.toNat 24 22) ∧ depClash u n (clpCyc s n) a = false :=
  ⟨63, (enc [(15, 26), (1, 25), (7, 22)]), (wM.set R.CLP_X_VALUE (2 ^ 36 - 5) 1023), (clpSeen (wM.set R.CLP_X_VALUE (2 ^ 36 - 5) 1023) 63), 65535, by decide +kernel, by decide +kernel, by decide +kernel, by decide +kernel, by decide +kernel, by decide +kernel, by decide +kernel, by decide +kernel⟩
def wA : State := (wM.set R.CLP_X_VALUE (2 ^ 36 - 5) 1023).set R.CLP_X_VALUE 40 1022
theorem witness_CaliperData_3 : ∃ (n : Fin 64) (w : BitVec 30) (s u : State) (x y v : Nat), ClpReady s n ∧ u = clpSeen s n ∧ bits w.toNat 29 26 < 12 ∧ NoClash u n (bits
      w.toNat 25 22) (clpCyc s n + 1) ∧ x = xReg u n (bits w.toNat 21 18) ∧ y = (if bit w.toNat 17 then wrapI (sgn 13 (bits w.toNat 12 0)) 36
      else xReg u n (bits w.toNat 16 13)) ∧ v =
      (match bits w.toNat 29 26 with
        | 0 => (x + y) % 2 ^ 36
        | 1 => (x + 2 ^ 36 - y) % 2 ^ 36
        | 2 => x &&& y
        | 3 => x ||| y
        | 4 => x ^^^ y
        | 5 => if y % 64 < 36 then x * 2 ^ (y % 64) else 0
        | 6 => if y % 64 < 36 then x / 2 ^ (y % 64) else 0
        | 7 => wrapI (sgn 36 x / ((2 ^ min (y % 64) 35 : Nat) : Int)) 36
        | 8 => y
        | 9 => if sgn 36 y < sgn 36 x then y else x
        | 10 => if sgn 36 x < sgn 36 y then y else x
        | _ => if sgn 36 x < sgn 36 y then 0 else 1) :=
  ⟨63, (enc [(1, 26), (15, 22), (14, 18), (15, 13)]), wA, (clpSeen wA 63), 40, (2 ^ 36 - 5), 45, by decide +kernel, by decide +kernel, by decide +kernel, by decide +kernel, by decide +kernel, by decide +kernel, by decide +kernel⟩
theorem witness_CaliperData_4 : ∃ (n : Fin 64) (w : BitVec 30) (s u : State), ClpReady s n ∧ u = clpSeen s n ∧ NoClash u n (bits w.toNat 29 26) (clpCyc s n + 1) :=
  ⟨63, (enc [(15, 26), (0x3FFFF, 0)]), wA, (clpSeen wA 63), by decide +kernel, by decide +kernel, by decide +kernel⟩
theorem witness_CaliperData_5 : ∃ (n : Fin 64) (w : BitVec 30) (s u : State) (v : Nat), ClpReady s n ∧ u = clpSeen s n ∧ v = (if bit w.toNat 25 then xReg u n (bits w.toNat
      19 16) else bits w.toNat 15 0) :=
  ⟨63, (enc [(1, 29), (7, 26), (1, 25), (15, 16)]), wA, (clpSeen wA 63), (2 ^ 36 - 5), by decide +kernel, by decide +kernel, by decide +kernel⟩
theorem witness_CaliperData_6 : ∃ (n : Fin 64) (w : BitVec 30) (s u : State) (i j : Int) (a : Nat), ClpReady s n ∧ u = clpSeen s n ∧ clpHasMbx u n = false ∧ j = sgn 36 (xReg
      u n (bits w.toNat 26 23)) / ((2 ^ bits w.toNat 22 17 : Nat) : Int) + (if bit w.toNat 12 then ((2 ^ (bits w.toNat 16 13 - 1) : Nat) : Int)
      else 0) ∧ i = max 0 (min j (((2 ^ bits w.toNat 16 13 : Nat) : Int) - 1)) ∧ (a : Int) = (pReg u n (bits w.toNat 29 27) + i) % 65536 ∧ ((clp
      u n).pend.all (fun p => !(p.hinc && p.to_ == .mem a)) = true) ∧ depClash u n (clpCyc s n) a = false ∧ dmem u n a < 2 ^ 36 - 1 :=
  ⟨63, (enc [(7, 27), (14, 23), (5, 17), (4, 13), (1, 12)]), wA, (clpSeen wA 63), 9, 9, 8, by decide +kernel, by decide +kernel, by decide +kernel, by decide +kernel, by decide +kernel, by decide +kernel, by decide +kernel, by decide +kernel, by decide +kernel⟩
theorem witness_CaliperData_7 : ∃ (n : Fin 64) (w : BitVec 30) (s u : State) (v : Nat), ClpReady s n ∧ u = clpSeen s n ∧ bits w.toNat 25 21 ≤ 9 ∧ NoClash u n (bits w.toNat
      29 26) (clpCyc s n + 1) ∧ v =
      (match bits w.toNat 25 21 with
        | 0 => if s.get R.CLP_CTRL_MODE n = 1 then clpCyc s n - 2 * s.shotStart else clpCyc s n - (clp s n).wake
        | 1 => s.get R.CLK_SHOT_COUNT
        | 2 => s.now
        | 7 => u.get R.CLP_STATUS_AOVF n + 2 * u.get R.CLP_STATUS_SAT n + 4 * u.get R.CLP_STATUS_SVC_FAULT n + 8 * u.get R.CLP_STATUS_CUT n
        | 8 => u.get R.CLP_ELR_ELR n
        | 9 => u.get R.CLP_EVT_EPEND n
        | k => sget 0 s.depWPrev (4 * n + (k - 3))) :=
  ⟨63, (enc [(15, 26), (0, 21)]), wA, (clpSeen wA 63), 80, by decide +kernel, by decide +kernel, by decide +kernel, by decide +kernel, by decide +kernel⟩
def wHp : HPoint := ⟨191, 3, 0, 9, 2, 77, 0⟩
def wCh : State := { wC 1 {} with points := sset none [] 65535 (some wHp), nq := sset 0 [] 191 5, hNext := sset 0 [] 191 3, harvest := sset [] [] 191 [⟨2, 9, 0⟩, ⟨3, 2 ^ 36 - 1, 0⟩, ⟨4, 5, 9⟩] }
theorem witness_CaliperOutputs_1 : ∃ (n : Fin 64) (w : BitVec 30) (s u : State) (p : HPoint) (e : HEntry), ClpReady s n ∧ u = clpSeen s n ∧ s.get R.CLP_CTRL_MODE n = 1 ∧
      pointOn s (128 + n) (bits w.toNat 15 0) = some p ∧ sget 0 s.hLast (128 + n) ≤ p.pos ∧ p.kind = 0 ∧ ((sget [] s.harvest (128 + n)).find?
      (fun e => e.tag == harvestTag s (128 + n) p.pos) = some e) ∧ NoClash u n (bits w.toNat 29 26) (clpCyc s n + 1) :=
  ⟨63, (enc [(15, 26), (0xFFFF, 0)]), wCh, (clpSeen wCh 63), wHp, ⟨3, 2 ^ 36 - 1, 0⟩, by decide +kernel, by decide +kernel, by decide +kernel, by decide +kernel, by decide +kernel, by decide +kernel, by decide +kernel, by decide +kernel⟩
theorem witness_CaliperOutputs_2 : ∃ (n : Fin 64) (w : BitVec 30) (s u : State), ClpReady s n ∧ u = clpSeen s n ∧ s.get R.CLP_CTRL_MODE n = 1 ∧ pointOn s (128 + n) (bits
      w.toNat 15 0) = none :=
  ⟨63, (enc [(15, 26), (0xFFFE, 0)]), wCh, (clpSeen wCh 63), by decide +kernel, by decide +kernel, by decide +kernel, by decide +kernel⟩
def wPb : State := { (wC 1 {}).set R.CLP_X_VALUE 9 1023 with decDecl := sset 0 (sset 0 [] (1024 + 255) 43) (1024 + 252) 1000 }
theorem witness_CaliperOutputs_3 : ∃ (n : Fin 64) (w : BitVec 30) (s u : State) (tt : Taint), ClpReady s n ∧ u = clpSeen s n ∧ s.get R.CLP_CTRL_MODE n = 1 ∧ (∀ b < 4, bit
      w.toNat (26 + b) = true → ∃ d, sget 0 s.decDecl (1024 + 4 * n + b) = d + 1 ∧ s.tick + 2 ≤ d + s.shotStart) ∧ tt = taintOr (shotTaint u (128
      + n)) (clockTaint u u.shotStart) :=
  ⟨63, (enc [(9, 26), (15, 22)]), wPb, (clpSeen wPb 63), (taintOr (shotTaint (clpSeen wPb 63) 191) (clockTaint (clpSeen wPb 63) (clpSeen wPb 63).shotStart)), by decide +kernel, rfl, by decide +kernel, (by intro b hb h; match b, hb, h with | 0, _, _ => exact ⟨999, by decide +kernel, by decide⟩ | 1, _, h => exact absurd h (by decide) | 2, _, h => exact absurd h (by decide) | 3, _, _ => exact ⟨42, by decide +kernel, by decide⟩), rfl⟩
theorem witness_CaliperOutputs_4 : ∃ (n : Fin 64) (w : BitVec 30) (s u : State) (k : Nat) (tt : Taint), ClpReady s n ∧ u = clpSeen s n ∧ s.get R.CLP_CTRL_MODE n = 1 ∧ (sget {}
      u.rq (16 + n / 8)).waiting.length < 2048 ∧ k = bits w.toNat 29 26 ∧ tt = taintOr (shotTaint u (128 + n)) (clockTaint u u.shotStart) :=
  ⟨63, (enc [(15, 26), (16383, 0)]), wPb, (clpSeen wPb 63), 15, (taintOr (shotTaint (clpSeen wPb 63) 191) (clockTaint (clpSeen wPb 63) (clpSeen wPb 63).shotStart)), by decide +kernel, by decide +kernel, by decide +kernel, by decide +kernel, by decide +kernel, by decide +kernel⟩
theorem witness_CaliperOutputs_5 : ∃ (n : Fin 64) (w : BitVec 30) (s u : State), ClpReady s n ∧ u = clpSeen s n :=
  ⟨63, 0, ((wC 2 {}).set R.EVF_SRC_EN 1 894), (clpSeen ((wC 2 {}).set R.EVF_SRC_EN 1 894) 63), by decide +kernel, by decide +kernel⟩
theorem witness_CaliperOutputs_6 : ∃ (n : Fin 64) (w : BitVec 30) (s u : State), ClpReady s n ∧ u = clpSeen s n ∧ s.get R.CLP_CTRL_MODE n = 2 :=
  ⟨63, 0, (wC 2 {}), (clpSeen (wC 2 {}) 63), by decide +kernel, by decide +kernel, by decide +kernel⟩
def wPp (ps : List (Nat × Nat × Bool × Taint)) : State := { (wC 1 { pubs := ps }).set R.CLK_STATUS_PLL_LOCK 1 |>.set R.GLB_SCHED_STATUS_STATE 2 with decDecl := sset 0 [] 1279 41 }
theorem witness_CaliperOutputs_7 : ∃ (n : Fin 64) (b : Fin 4) (s : State) (x : Nat × Nat × Bool × Taint), running s = true ∧ s.get R.CLP_CTRL_MODE n = 1 ∧ sget 0 s.decDecl
      (1024 + 4 * n + b) ≠ 0 ∧ sget 0 s.decDecl (1024 + 4 * n + b) + s.shotStart = s.tick + 1 ∧ alarmActive s = false ∧ (((clp s n).pubs.filter
      fun p => p.1 == b.val && decide (p.2.1 + 2 ≤ s.tick)).getLast? = some x) :=
  ⟨63, 3, (wPp [(3, 90, false, []), (3, 98, true, taintOf tLATE 1 3), (3, 99, false, [])]), (3, 98, true, taintOf tLATE 1 3), by decide +kernel, by decide +kernel, by decide +kernel, by decide +kernel, by decide +kernel, by decide +kernel⟩
theorem witness_CaliperOutputs_8 : ∃ (n : Fin 64) (b : Fin 4) (s : State), running s = true ∧ s.get R.CLP_CTRL_MODE n = 1 ∧ sget 0 s.decDecl (1024 + 4 * n + b) ≠ 0 ∧ sget 0
      s.decDecl (1024 + 4 * n + b) + s.shotStart = s.tick + 1 ∧ alarmActive s = false ∧ (((clp s n).pubs.filter fun p => p.1 == b.val && decide
      (p.2.1 + 2 ≤ s.tick)) = []) :=
  ⟨63, 3, (wPp [(2, 90, false, []), (3, 99, false, [])]), by decide +kernel, by decide +kernel, by decide +kernel, by decide +kernel, by decide +kernel, by decide +kernel⟩
def wEv (st : Nat) (m : Nat) (h : Nat) : State := ((((((wC m { loops := [⟨5, 6, 7⟩] }).set R.CLP_STATUS_STATE st 63).set R.CLP_STATUS_HANDLER h 63).set R.CLP_EVT_EPEND 0x8000 63).set R.CLP_EVT_EMASK 0xFFFF 63).set R.CLP_EVEC_ADDR 16383 1023)
theorem witness_CaliperEvents_1 : ∃ (n : Fin 64) (s u : State) (k : Nat), lowBit (clpReady s n) = some k ∧ s.get R.CLP_STATUS_HANDLER n = 0 ∧ clpMayIssue s n = true ∧ (clp s
      n).delay = 0 ∧ (clp s n).rep = 0 ∧ (clp s n).repPc = false ∧ u = cSettle (depTo s n (clpCyc s n)) n (clpCyc s n) :=
  ⟨63, (wEv 2 1 0), (cSettle (depTo (wEv 2 1 0) 63 200) 63 200), 15, by decide +kernel, by decide +kernel, by decide +kernel, by decide +kernel, by decide +kernel, by decide +kernel, by decide +kernel⟩
theorem witness_CaliperEvents_2 : ∃ (n : Fin 64) (s : State), (clpReady s n = 0 ∨ s.get R.CLP_STATUS_HANDLER n ≠ 0) :=
  ⟨63, (wEv 2 1 1), by decide +kernel⟩
theorem witness_CaliperEvents_3 : ∃ (n : Fin 64) (s : State) (k : Nat), lowBit (clpReady s n) = some k ∧ s.get R.CLP_STATUS_STATE n = 5 ∧ s.get R.CLP_CTRL_MODE n = 2 ∧ s.get
      R.CLP_STATUS_HANDLER n = 0 :=
  ⟨63, (wEv 5 2 0), 15, by decide +kernel, by decide +kernel, by decide +kernel, by decide +kernel⟩
theorem witness_CaliperEvents_4 : ∃ (n : Fin 64) (s : State) (k : Nat), lowBit (clpReady s n) = some k ∧ s.get R.CLP_STATUS_STATE n = 5 ∧ s.get R.CLP_CTRL_MODE n = 2 ∧ s.get
      R.CLP_STATUS_HANDLER n ≠ 0 :=
  ⟨63, (wEv 5 2 1), 15, by decide +kernel, by decide +kernel, by decide +kernel, by decide +kernel⟩
def wDp : State := { (((((wRun.set R.CLP_CTRL_MODE 1 63).set R.CLP_DEP_KIND 1 255).set R.CLP_DEP_SRC 127 255).set R.DMD_CFG_MODE 3 1023).set R.DMD_FREQ_LO_F_LO 77 1023) with
  tick := 27, now := 4000, calipers := sset {} [] 63 { depQ := List.replicate 15 ⟨26, 0, 0, [], none, 0, false⟩ },
  windows := sset [] [] 1023 [{ o := 22, len := 5, chisel := 127, pc := 32767, taint := [], issued := 16, shot := 9, t0 := 5, opened := true }], kmem := sset 0 [] (1023 * 4096) (2 ^ 19 + 5) }
def wDc : List (BitVec 12) := (List.range 70).map fun k => BitVec.ofNat 12 (k * 31)
theorem witness_CaliperEvents_5 : ∃ (n : Fin 64) (c : Fin 4) (codes : List (BitVec 12)) (s : State) (d : Nat) (w : Win) (x : Int × Int × Bool × Bool) (tt : Taint), (s.get
      R.CLP_CTRL_MODE n = 1 ∨ s.get R.CLP_CTRL_MODE n = 2) ∧ s.get R.CLP_DEP_KIND (4 * n + c) = 1 ∧ d = 128 * (n.val / 8) + s.get R.CLP_DEP_SRC
      (4 * n + c) % 128 ∧ ((wins s d).find? (fun w => w.opened && decide (w.o < s.tick ∧ s.tick ≤ winEnd w) && (s.tick - w.o) % 2 == 1) = some w)
      ∧ x = decimated s d (codesFrom (((s.tick - 15 : Nat) : Int) * 16 - 3) codes) (s.tick - 15) ∧ (clp s n).depQ.length < 16 ∧ (∀ d ∈ (clp s
      n).depQ, d.at_ = s.tick → d.ch ≤ c) ∧ tt = taintOr w.taint (spanTaint s (d / 16) (16 * (s.tick - 15) - 3) (16 * (s.tick - 15) + 34) 4 d) :=
  ⟨63, 3, wDc, wDp, 1023, ({ o := 22, len := 5, chisel := 127, pc := 32767, taint := [], issued := 16, shot := 9, t0 := 5, opened := true } : Win), (decimated wDp 1023 (codesFrom (((27 - 15 : Nat) : Int) * 16 - 3) wDc) (27 - 15)), (taintOr [] (spanTaint wDp (1023 / 16) (16 * (27 - 15) - 3) (16 * (27 - 15) + 34) 4 1023)), by decide +kernel, by decide +kernel, by decide +kernel, by decide +kernel, by decide +kernel, by decide +kernel, by decide +kernel, by decide +kernel⟩
theorem witness_CaliperEvents_6 : ∃ (n : Fin 64) (s : State), (clp s n).restoring = true ∧ srising s.clpInit = true :=
  ⟨63, { wC 1 { restoring := true } with clpInit := sset 0 (sset 0 [] (63 * 65536) 8) 9 10, clpMem := sset 0 (sset 0 [] (63 * 65536 + 1) 8) 9 11 }, by decide +kernel, by decide +kernel⟩
def wPort : State := ((wUp.set R.CLP_MEM_CTRL_ADDR 65535 63).set R.CLP_MEM_CTRL_SEL 1 63).set R.CLP_MEM_CTRL_AUTOINC 1 63
theorem witness_CaliperEvents_7 : ∃ (m : Master) (n : Fin 64) (v : BitVec 64) (s : State) (a : Nat), reaches s m (0x3000088 + n.val * 0x40000) true = true ∧ rtHeld s m = false
      ∧ a = s.get R.CLP_MEM_CTRL_ADDR n ∧ s.get R.CLP_MEM_CTRL_SEL n = 1 ∧ a < 65536 ∧ s.get R.PWR_STATE_STATE ≠ 1 :=
  ⟨.s0, 63, 0xFFFFFFFFFFFFFFFF, wPort, 65535, by decide +kernel, by decide +kernel, by decide +kernel, by decide +kernel, by decide +kernel, by decide +kernel⟩
theorem witness_CaliperEvents_8 : ∃ (m : Master) (n : Fin 64) (v : BitVec 64) (s : State) (a : Nat), reaches s m (0x3000088 + n.val * 0x40000) true = true ∧ rtHeld s m = false
      ∧ a = s.get R.CLP_MEM_CTRL_ADDR n ∧ s.get R.CLP_MEM_CTRL_SEL n = 0 ∧ a < 16384 :=
  ⟨.s0, 63, 0xFFFFFFFFFFFFFFFF, ((wPort.set R.CLP_MEM_CTRL_ADDR 16383 63).set R.CLP_MEM_CTRL_SEL 0 63), 16383, by decide +kernel, by decide +kernel, by decide +kernel, by decide +kernel, by decide +kernel⟩
theorem witness_CaliperEvents_9 : ∃ (m : Master) (n : Fin 64) (v : BitVec 64) (s : State) (a : Nat), reaches s m (0x3000088 + n.val * 0x40000) false = true ∧ a = s.get
      R.CLP_MEM_CTRL_ADDR n ∧ s.get R.CLP_MEM_CTRL_SEL n ≤ 1 :=
  ⟨.s0, 63, 0, { wPort with clpMem := sset 0 [] (64 * 65536 - 1) 9 }, 65535, by decide +kernel, by decide +kernel, by decide +kernel⟩

/-! Witnesses: 11 -/

/-- Slot 15 evaluates checks 1022 and 1023 and neighbourhood 4 at E 20; bit 1 of Caliper decisions and a bit of word 0 are read. -/
def wPfuMem : SMap Nat :=
  let h (sel i v : Nat) (m : SMap Nat) : SMap Nat := sset 0 m (sel * 2 ^ 20 + i / 2) (sget 0 m (sel * 2 ^ 20 + i / 2) + v * 65536 ^ (i % 2))
  let w (sel i v : Nat) (m : SMap Nat) : SMap Nat := sset 0 m (sel * 2 ^ 20 + i) v
  [w 0 60 20, w 0 61 (2 * 65536 + 1022), w 0 62 (2 * 65536 + 4), h 1 (8 * 1022) (0x8000 + 5), h 1 (8 * 1022 + 7) (0x8000 + 1279), h 1 (8 * 1023) (0x8000 + 5),
    w 2 (16 * 4) 2, h 2 (32 * 4 + 4) 1022, h 2 (32 * 4 + 5) (0x8000 + 5), w 2 (16 * 4 + 1) 100, w 2 (16 * 4 + 8) (2 ^ 31 + 2 ^ 17 + 2 ^ 16 + 65535), w 2 (16 * 4 + 15) (2 ^ 31 + 2 ^ 16 + 65535),
    w 2 (16 * 5) 1, h 2 (32 * 5 + 4) 1023, w 2 (16 * 5 + 1) 200, w 2 (16 * 5 + 9) (2 ^ 31 + 7), w 3 0 (1022 * 2 ^ 16 + 511), w 3 1 (1023 * 2 ^ 16 + 0x1000), w 3 2 (7 * 2 ^ 27 + 4 * 2 ^ 16 + 0x2001), w 3 3 (5 * 2 ^ 16 + 0x3002),
    h 4 103 0x4081, h 4 201 0x8000].foldl (fun m f => f m) []
def wPfu : State := { wRun.set R.GLB_SCHED_STATUS_STATE 2 with
  tick := 80, now := 4000, shotStart := 60, pfuMem := wPfuMem, pfuCnt := [16, 0, 0, 4, 0], pfuNext := 2 ^ 32 - 1, decPub := sset false [] 5 true, decVal := sset false (sset false [] 5 true) 1279 true, decTaint := sset [] [] 0 (taintOf tLATE 1 3), pfuPrev := sset 0 [] 1022 2 }
def wRd : Round := { num := 70, e := 76, stamp := 9, shot := 8, vals := [true, true], bits_ := [[false, true], [false]], unpub := 1, taint := taintOf tCONTRACT 7 15 }
def wRds : State := { wPfu with rounds := sset none [] 15 (some wRd) }
def wRdf : Round := { wRd with e := 66, events := [false, true], first := true, idx := [3, 1], formed := true }
def wRdA : State := { wPfu with rounds := sset none [] 15 (some wRdf), pfuRec := sset 0 (sset 0 [] 65535 5) 3 2 }
theorem witness_ParityRounds_1 : ∃ (r : Fin 16) (s : State) (unpub : Nat) (tt : Taint), running s = true ∧ r.val < s.pfuCnt.headD 0 ∧ shotTick s = slotE s r ∧ (unpub =
      ((roundReads s r).filter fun b => !sget false s.decPub b).length) ∧ (tt = (roundReads s r).foldl (fun t b => taintOr t (sget [] s.decTaint
      (b / 64))) []) :=
  ⟨15, wPfu, 1, (taintOf tLATE 1 3), by decide +kernel, by decide +kernel, by decide +kernel, by decide +kernel, by decide +kernel⟩
theorem witness_ParityRounds_2 : ∃ (r : Fin 16) (s : State), (running s = false ∨ s.pfuCnt.headD 0 ≤ r.val ∨ shotTick s ≠ slotE s r) :=
  ⟨15, { wPfu with tick := 81 }, by decide +kernel⟩
theorem witness_ParityRounds_3 : ∃ (r : Fin 16) (s : State) (rd : Round) (ev : List Bool), round? s r = some rd ∧ s.tick = rd.e + 4 ∧ rd.formed = false ∧ PubsApart s ∧ (ev =
      ((slotChecks s r).zip rd.vals).map (fun p => p.2 != (sget 0 s.pfuPrev p.1 == 2))) :=
  ⟨15, wRds, wRd, [false, true], by decide +kernel, by decide +kernel, by decide +kernel, by decide +kernel, by decide +kernel⟩
theorem witness_ParityRounds_4 : ∃ (r : Fin 16) (s : State), (round? s r = none ∨ ∃ rd, round? s r = some rd ∧ s.tick ≠ rd.e + 4 ∧ s.tick ≠ rd.e + 14) :=
  ⟨15, wPfu, by decide +kernel⟩
theorem witness_ParityRounds_5 : ∃ (r : Fin 16) (s : State) (rd : Round) (tt : Taint) (acts esc : List (Nat × Nat × Nat)) (fl : Nat), round? s r = some rd ∧ s.tick = rd.e +
      14 ∧ rd.formed = true ∧ PubsApart s ∧ tt = taintOr rd.taint (clockTaint s rd.e) ∧ (acts = ((slotNbhds s r).zip rd.idx).map (fun p => (p.1,
      p.2, nbhdEntry s p.1 p.2))) ∧ (esc = acts.filter (fun a => bit a.2.2 15)) ∧ (fl = (acts.foldl (fun m a => nbhdActs s m a.1 a.2.2) []).foldl
      (fun k p => k + b2n (p.2.getD {}).x + b2n (p.2.getD {}).z) 0) ∧ (sget {} s.rq 24).waiting.length + esc.length < 2048 :=
  ⟨15, wRdA, wRdf, (taintOr wRdf.taint (clockTaint wRdA 66)), [(4, 3, 0x4081), (5, 1, 0x8000)], [(5, 1, 0x8000)], 1, by decide +kernel, by decide +kernel, by decide +kernel, by decide +kernel, by decide +kernel, by decide +kernel, by decide +kernel, by decide +kernel, by decide +kernel⟩
theorem witness_ParityRounds_6 : ∃ (m : Master) (s : State) (a : Nat), reaches s m 0xA00408 false = true ∧ a = s.get R.DEC_MEM_CTRL_ADDR ∧ s.get R.DEC_MEM_CTRL_SEL ≤ 1 :=
  ⟨.s0, (((wUp.set R.DEC_MEM_CTRL_SEL 1).set R.DEC_MEM_CTRL_ADDR 8191).set R.DEC_MEM_CTRL_AUTOINC 1), 8191, by decide +kernel, by decide +kernel, by decide +kernel⟩
theorem witness_ParityRounds_7 : ∃ (m : Master) (s : State) (a : Nat), reaches s m 0xA08024 false = true ∧ a = s.get R.PFU_MEM_CTRL_ADDR ∧ s.get R.PFU_MEM_CTRL_SEL < 5 :=
  ⟨.s0, { ((wUp.set R.PFU_MEM_CTRL_SEL 4).set R.PFU_MEM_CTRL_ADDR (2 ^ 20 - 1)).set R.PFU_MEM_CTRL_AUTOINC 1 with pfuMem := sset 0 [] (5 * 2 ^ 20 - 1) 0xFFFFFFFF }, (2 ^ 20 - 1), by decide +kernel, by decide +kernel, by decide +kernel⟩
theorem witness_ParityRounds_8 : ∃ (m : Master) (s : State) (a : Nat), reaches s m 0xA0801C false = true ∧ a = s.get R.PFU_REC_INDEX_INDEX :=
  ⟨.s0, { (wUp.set R.PFU_REC_INDEX_INDEX 65535).set R.PFU_REC_INDEX_AUTOINC 1 with pfuRec := sset 0 [] 65535 0xFF3F07 }, 65535, by decide +kernel, by decide +kernel⟩

/-! Witnesses: 12 -/

def wHt : CapTick := { tick := 500, now := 2 ^ 40 + 7, shot := 9, start := false, vals := [2 ^ 63 + 5], taint := taintOf tLATE 1 3, clk := true }
/-- Unit 15 records decision words; condition 7 is a firing of channel 511. -/
def wCap (st : Nat) (c : Cap) (h : CapTick := wHt) : State :=
  { (((((((((wRun.set R.ACQ_CTRL_ENABLE 1 15).set R.ACQ_CTRL_SRC 3 15).set R.ACQ_PRE_PRE 10 15).set R.ACQ_POST_POST_M1 4 15).set R.ACQ_SLOTS_NSLOT 4 15).set R.ACQ_COND_KIND 4 127).set R.ACQ_COND_SEL 511 127).set R.ACQ_STATUS_STATE st 15).set R.EVF_SRC_EN 1 957) with
  tick := 524, now := 2 ^ 40 + 31, fired := [{ ch := 511, tick := 500 }], caps := sset {} [] 15 { c with hist := [h] } }
def wBlkCap : Cap := { slot := some 3, kept := 10, ws := 3, blk := List.replicate 15 (4096, 7), out := [⟨false, List.replicate 4090 (4096, 7), 0⟩] }
theorem witness_Captures_1 : ∃ (u : Fin 16) (codes : List (BitVec 12)) (s : State) (h : CapTick) (mask k : Nat), CapEvaluates s u h ∧ mask = tickMask s u h.tick h.now 1 ∧
      mask ≠ 0 ∧ (capState s u = 2 ∨ capState s u = 1 ∧ capPre s u ≤ (cap s u).kept) ∧ (cap s u).slot = some k :=
  ⟨15, [], (wCap 2 wBlkCap), wHt, 128, 3, by decide +kernel, by decide +kernel, by decide +kernel, by decide +kernel, by decide +kernel⟩
theorem witness_Captures_2 : ∃ (u : Fin 16) (codes : List (BitVec 12)) (s : State) (h : CapTick) (why : Nat), CapEvaluates s u h ∧ tickMask s u h.tick h.now 1 ≠ 0 ∧
      ((capState s u = 1 ∧ (cap s u).kept < capPre s u ∧ why = 1) ∨ (capState s u = 3 ∧ why = 2) ∨ (capState s u = 4 ∧ why = 3)) :=
  ⟨15, [], (wCap 1 { slot := some 3, kept := 9, rej := 6 }), wHt, 1, by decide +kernel, by decide +kernel, by decide +kernel⟩
theorem witness_Captures_3 : ∃ (u : Fin 16) (codes : List (BitVec 12)) (s : State) (h : CapTick), CapEvaluates s u h ∧ h.start = true ∧ capState s u = 0 ∧ tickMask s u
      h.tick h.now 1 = 0 :=
  ⟨15, [], { wCap 0 { ws := 3 } { wHt with start := true } with fired := [] }, { wHt with start := true }, by decide +kernel, by decide +kernel, by decide +kernel, by decide +kernel⟩
theorem witness_Captures_4 : ∃ (u : Fin 16) (codes : List (BitVec 12)) (s : State), (cap s u).holdAt = 0 ∧ ((cap s u).hist.find? (fun h => h.tick + 24 == s.tick) = none) :=
  ⟨15, [], { wCap 2 {} with tick := 525 }, by decide +kernel, by decide +kernel⟩
def wRc (k : Option Nat) : CapRec := { slot := k, x := 2 ^ 40 + 7, shot := 9, mask := 128, h4 := 77, tinf := true, number := 2 ^ 32 + 4, dead := 6, rej := 3, qf := 5, ql := 20, wf := 10, wl := 41, t0 := 480, endT := 500, taint := taintOf tLATE 1 3 }
theorem witness_Captures_5 : ∃ (u : Fin 16) (codes : List (BitVec 12)) (s : State), (cap s u).holdAt ≠ 0 ∧ (cap s u).holdAt + 23 = s.tick :=
  ⟨15, [], (wCap 3 { rec_ := some (wRc (some 3)), holdAt := 501, slot := some 3, lastW := 12, blk := [(4096, 7)] }), by decide +kernel, by decide +kernel⟩
theorem witness_Captures_6 : ∃ (u : Fin 16) (s : State) (r : CapRec) (k : Nat), (cap s u).rec_ = some r ∧ r.endT + 24 = s.tick ∧ capState s u = 3 ∧ r.slot = some k ∧
      ((cap s u).out.filter (·.hdr)).length + (cap s u).sent.length < 16 :=
  ⟨15, (wCap 3 { rec_ := some (wRc (some 3)), ws := 2 ^ 32 - 1, lost := 5, out := List.replicate 15 ⟨true, [], 5⟩, blk := [(4096, 7)] }), (wRc (some 3)), 3, by decide +kernel, by decide +kernel, by decide +kernel, by decide +kernel, by decide +kernel⟩
theorem witness_Captures_7 : ∃ (u : Fin 16) (s : State) (r : CapRec), (cap s u).rec_ = some r ∧ r.endT + 24 = s.tick ∧ capState s u = 3 ∧ r.slot = none :=
  ⟨15, (wCap 3 { rec_ := some (wRc none), ws := 2 }), (wRc none), by decide +kernel, by decide +kernel, by decide +kernel, by decide +kernel⟩
theorem witness_Captures_8 : ∃ (u : Fin 16) (s : State) (e : Nat), capState s u = 4 ∧ (cap s u).prevEnd = some e ∧ 24 ≤ s.tick ∧ ((s.get R.ACQ_CTRL_REARM u = 0 ∧ s.tick =
      e + s.get R.ACQ_HOLDOFF_TICKS u + 24) ∨ (s.get R.ACQ_CTRL_REARM u = 1 ∧ e + s.get R.ACQ_HOLDOFF_TICKS u + 24 ≤ s.tick ∧ (cap s u).hist.any
      (fun h => h.tick + 24 == s.tick && h.start) = true) ∨ (s.get R.ACQ_CTRL_REARM u = 2 ∧ e + s.get R.ACQ_HOLDOFF_TICKS u + 24 ≤ s.tick ∧
      s.fired.any (fun f => f.tick + 24 == s.tick && f.ch == s.get R.ACQ_CTRL_ARM_CH u) = true)) :=
  ⟨15, ((wCap 4 { prevEnd := some 490, ws := 3, kept := 9 }).set R.ACQ_HOLDOFF_TICKS 10 15), 490, by decide +kernel, by decide +kernel, by decide +kernel, by decide +kernel⟩
theorem witness_Captures_9 : ∃ (u : Fin 16) (s : State), capState s u ≠ 4 :=
  ⟨15, (wCap 3 {}), by decide +kernel⟩
theorem witness_Captures_10 : ∃ (u : Fin 16) (s : State), s.xtalFail = true :=
  ⟨15, { wCap 3 {} with xtalFail := true }, by decide +kernel⟩
theorem witness_Captures_11 : ∃ (u : Fin 16) (s : State) (o : CapOut) (rest : List CapOut), s.xtalFail = false ∧ (cap s u).out = o :: rest ∧ o.hdr = true ∧ (cap s u).tail
      = none :=
  ⟨15, (wCap 3 { out := [⟨true, [(8, 9)], 5⟩, ⟨false, [], 0⟩], sent := [⟨true, [], 4⟩] }), ⟨true, [(8, 9)], 5⟩, [⟨false, [], 0⟩], by decide +kernel, by decide +kernel, by decide +kernel, by decide +kernel⟩
def wSec15 (c : Cap) : State := { (wCap 3 c).set R.SEC_WORLD_SECURE 1 527 with hbm := [(4090, 3), (4096, 4), (4112, 5)] }
theorem witness_Captures_12 : ∃ (u : Fin 16) (s : State) (o : CapOut) (rest : List CapOut), s.xtalFail = false ∧ (cap s u).out = o :: rest ∧ o.hdr = false ∧ (o.words.map
      (·.1 / 8)).Nodup ∧ (∀ p ∈ o.words, p.1 % 8 = 0) ∧ (∀ p ∈ o.words, Granted s (instSecure s (512 + u)) p.1 8) :=
  ⟨15, (wSec15 { out := [⟨false, [(47999999992, 2 ^ 63 + 9), (4096, 7), (4104, 7)], 5⟩] }), ⟨false, [(47999999992, 2 ^ 63 + 9), (4096, 7), (4104, 7)], 5⟩, [], by decide +kernel, by decide +kernel, by decide +kernel, by decide +kernel, by decide +kernel, by decide +kernel⟩
theorem witness_Captures_13 : ∃ (u : Fin 16) (s : State) (o : CapOut) (rest : List CapOut), s.xtalFail = false ∧ (cap s u).sent = o :: rest ∧ (o.words.map (·.1 / 8)).Nodup
      ∧ (∀ p ∈ o.words, p.1 % 8 = 0) ∧ (∀ p ∈ o.words, Granted s (instSecure s (512 + u)) p.1 8) :=
  ⟨15, (wSec15 { sent := [⟨true, [(47999999992, 2 ^ 63 + 9), (4096, 7), (4104, 7)], 2 ^ 32 + 5⟩] }), ⟨true, [(47999999992, 2 ^ 63 + 9), (4096, 7), (4104, 7)], 2 ^ 32 + 5⟩, [], by decide +kernel, by decide +kernel, by decide +kernel, by decide +kernel, by decide +kernel⟩
theorem witness_Captures_14 : ∃ (m : Master) (u : Fin 16) (v : BitVec 32) (s : State), reaches s m (0xB0001C + u.val * 0x100) true = true :=
  ⟨.s0, 15, 3, ((wUp.set R.ACQ_RD_INDEX 0xFFFFFFFF 15).set R.ACQ_WR_INDEX 3 15), by decide +kernel⟩
/-- Input 31, both slopes. -/
def wTin : State := { (((wRun.set R.TIN_CFG_SLOPE 3 31).set R.EVF_SRC_EN 1 1022).set R.EVF_SRC_CH 511 1022) with tick := 600, now := 2 ^ 40 - 1, tinFifo := sset [] [] 31 (List.replicate 1023 (1, 2)) }
theorem witness_TimingEdges_1 : ∃ (i : Fin 32) (b : Fin 512) (rising : Bool) (s : State) (e fine stamp : Nat), Stamped s i b rising e fine ∧ (sget [] s.tinFifo i).length <
      1024 ∧ stamp = (s.now + 2 ^ 64 + e - s.tick) % 2 ^ 40 :=
  ⟨31, 511, true, (wTin.set R.TIN_DELAY_FACTORY 513 31), 599, 511, (2 ^ 40 - 2), by decide +kernel, by decide +kernel, by decide +kernel⟩
theorem witness_TimingEdges_2 : ∃ (i : Fin 32) (b : Fin 512) (rising : Bool) (s : State) (e fine : Nat), Stamped s i b rising e fine ∧ clockTaintAt s e = [] ∧ (sget []
      s.tinFifo i).length < 1024 ∧ s.ivls = [] ∧ s.frqs = [] ∧ s.get R.EVF_SRC_EN (960 + 2 * i) ≠ 0 ∧ sget 0 s.chAny (s.get R.EVF_SRC_CH (960 + 2
      * i)) = 0 ∧ sget 0 s.chRt (s.get R.EVF_SRC_CH (960 + 2 * i)) = 0 :=
  ⟨31, 511, true, ((wTin.set R.TIN_DELAY_FACTORY 513 31).set R.CLK_STATUS_PLL_LOCK 1), 599, 511, by decide +kernel, by decide +kernel, by decide +kernel, by decide +kernel, by decide +kernel, by decide +kernel, by decide +kernel, by decide +kernel⟩
theorem witness_TimingEdges_3 : ∃ (i : Fin 32) (b : Fin 512) (rising : Bool) (s : State), (qualified s i rising = false ∨ calibrating s i = true) ∧ mainPowered s = true :=
  ⟨31, 511, false, (wTin.set R.TIN_CFG_SLOPE 1 31), by decide +kernel, by decide +kernel⟩
theorem witness_TimingEdges_4 : ∃ (i : Fin 32) (b : Fin 512) (rising : Bool) (s : State), mainPowered s = false :=
  ⟨31, 511, true, (wTin.set R.PWR_STATE_STATE 3), by decide +kernel⟩
theorem witness_TimingEdges_5 : ∃ (i : Fin 32) (b : Fin 512) (rising : Bool) (s : State) (e fine : Nat), mainPowered s = true ∧ qualified s i rising = true ∧ calibrating s i
      = false ∧ (512 * e + fine : Int) = 512 * (s.tick : Int) + tdcPosAt s i b - (s.get R.TIN_DELAY_FACTORY i + sgn 16 (s.get R.TIN_DELAY_USER
      i)) ∧ fine < 512 ∧ sget 0 s.tinLast i ≠ 0 ∧ e ≤ sget 0 s.tinLast i :=
  ⟨31, 0, true, { wTin with tinLast := sset 0 [] 31 600 }, 600, 0, by decide +kernel, by decide +kernel, by decide +kernel, by decide +kernel, by decide +kernel, by decide +kernel, by decide +kernel⟩
theorem witness_TimingEdges_6 : ∃ (m : Master) (i : Fin 32) (s : State) (w : Nat × Nat) (rest : List (Nat × Nat)), reaches s m (0xB10018 + i.val * 0x40) false = true ∧ sget
      [] s.tinFifo i = w :: rest ∧ rest.length < 1024 :=
  ⟨.s0, 31, { wUp with tinFifo := sset [] [] 31 ((2 ^ 36 - 1, 2 ^ 36 - 2) :: List.replicate 1023 (1, 2)) }, (2 ^ 36 - 1, 2 ^ 36 - 2), (List.replicate 1023 (1, 2)), by decide +kernel, by decide +kernel, by decide +kernel⟩
theorem witness_TimingEdges_7 : ∃ (m : Master) (v : BitVec 32) (s : State), reaches s m 0xB38000 true = true ∧ rtHeld s m = false ∧ s.get R.TDC_CAL_STATUS_BUSY = 0 ∧ bits
      v.toNat 5 0 ≤ 33 :=
  ⟨.s0, 33, wUp, by decide +kernel, by decide +kernel, by decide +kernel, by decide +kernel⟩
theorem witness_TimingEdges_8 : ∃ (hits : List Nat) (s : State) (i : Nat), s.tdcCal.1 = i + 1 ∧ hits.length = 512 ∧ (∀ h ∈ hits, 512 ≤ h ∧ h ≤ 8192) :=
  ⟨(List.replicate 511 512 ++ [8192]), { wRun with tdcCal := (33, true) }, 32, by decide +kernel, by decide +kernel, by decide +kernel⟩
theorem witness_TimingEdges_9 : ∃ (hits : List Nat) (s : State) (i : Nat), s.tdcCal.1 = i + 1 ∧ hits.length = 512 ∧ (∃ h ∈ hits, h < 512 ∨ 8192 < h) ∧ s.get
      R.TDC_CAL_STATUS_FAIL = 0 ∧ i < 33 :=
  ⟨(List.replicate 511 512 ++ [511]), { wRun with tdcCal := (33, true) }, 32, rfl, by decide +kernel, ⟨511, by decide +kernel, by decide⟩, by decide +kernel, by decide⟩
theorem witness_TimingEdges_10 : ∃ (hits : List Nat) (s : State), s.tdcCal.1 = 0 :=
  ⟨[], wRun, by decide +kernel⟩
theorem witness_TimingEdges_11 : ∃ (m : Master) (s : State) (i b : Nat), reaches s m 0xB3800C false = true ∧ i = s.get R.TDC_BIN_INDEX_SEL ∧ i ≤ 32 ∧ b = s.get
      R.TDC_BIN_INDEX_BIN :=
  ⟨.s0, ((((wUp.set R.TDC_BIN_INDEX_SEL 32).set R.TDC_BIN_INDEX_BIN 511)).set R.TDC_BIN_INDEX_AUTOINC 1), 32, 511, by decide +kernel, by decide +kernel, by decide +kernel, by decide +kernel⟩
theorem witness_IntervalsAndFrequencies_1 : ∃ (m : Master) (e : Fin 8) (v : BitVec 32) (s : State), reaches s m (0xB20000 + e.val * 0x100) true = true ∧ s.get R.TDC_MSTATUS_BUSY e = 0 ∧
      bits v.toNat 29 28 = 0 ∧ instSecure s (528 + bits v.toNat 12 8) = instSecure s (528 + e) ∧ instSecure s (528 + bits v.toNat 20 16) =
      instSecure s (528 + e) ∧ s.tinSeen = [] :=
  ⟨.s0, 7, 0x0F1F1F00, { wUp with tick := 77 }, by decide +kernel, by decide +kernel, by decide +kernel, by decide +kernel, by decide +kernel, by decide +kernel⟩
theorem witness_IntervalsAndFrequencies_2 : ∃ (m : Master) (e : Fin 8) (v : BitVec 32) (s : State), reaches s m (0xB20000 + e.val * 0x100) true = true ∧ s.get R.TDC_MSTATUS_BUSY e = 0 ∧
      bits v.toNat 29 28 = 0 ∧ instSecure s (528 + bits v.toNat 12 8) ≠ instSecure s (528 + e) :=
  ⟨.s0, 7, 0x0F1F1F00, (wUp.set R.SEC_WORLD_SECURE 0 559), by decide +kernel, by decide +kernel, by decide +kernel, by decide +kernel⟩
theorem witness_IntervalsAndFrequencies_3 : ∃ (m : Master) (e : Fin 8) (v : BitVec 32) (s : State), reaches s m (0xB20000 + e.val * 0x100) true = true ∧ s.get R.TDC_MSTATUS_BUSY e ≠ 0 :=
  ⟨.s0, 7, 0x2F1F1F00, (wUp.set R.TDC_MSTATUS_BUSY 1 7), by decide +kernel, by decide +kernel⟩
def wIv (n : Nat) (l : List Nat) : State := { (((wTin.set R.TDC_MTIMEOUT_TICKS 100 7).set R.TDC_MCTRL_STOP 31 7).set R.TDC_MCTRL_NSTOP n 7).set R.TDC_MSTATUS_BUSY 1 7 with ivls := sset {} [] 7 { st := 2, e0 := 500, pos0 := 256000, stamp := 2 ^ 40 + 5, ivs := l } }
theorem witness_IntervalsAndFrequencies_4 : ∃ (i : Fin 32) (b : Fin 512) (rising : Bool) (s : State) (e fine : Nat) (m : Fin 8) (d : Nat), Stamped s i b rising e fine ∧ (ivl s m).st = 2
      ∧ s.get R.TDC_MCTRL_STOP m = i ∧ e ≤ (ivl s m).e0 + max (s.get R.TDC_MTIMEOUT_TICKS m) 1 ∧ (ivl s m).pos0 < 512 * e + fine ∧ d = 512 * e +
      fine - (ivl s m).pos0 ∧ (ivl s m).ivs.length + 1 = max (s.get R.TDC_MCTRL_NSTOP m) 1 ∧ (ivl s m).ivs.length < 15 ∧ s.get R.TDC_MCTRL_ARM m
      ≠ 2 :=
  ⟨31, 0, true, (wIv 0 []), 600, 0, 7, 51200, by decide +kernel, by decide +kernel, by decide +kernel, by decide +kernel, by decide +kernel, by decide +kernel, by decide +kernel, by decide +kernel, by decide +kernel⟩
theorem witness_IntervalsAndFrequencies_5 : ∃ (m : Fin 8) (s : State), (ivl s m).st = 2 ∧ (ivl s m).e0 + max (s.get R.TDC_MTIMEOUT_TICKS m) 1 ≤ s.tick ∧ s.get R.TDC_MCTRL_ARM m ≠ 2 :=
  ⟨7, { (wIv 15 (List.replicate 14 (2 ^ 47 + 1))).set R.TDC_MTIMEOUT_TICKS 100 7 with now := 4000 }, by decide +kernel, by decide +kernel, by decide +kernel⟩
theorem witness_IntervalsAndFrequencies_6 : ∃ (m : Fin 8) (s : State), ((ivl s m).st ≠ 2 ∨ s.tick < (ivl s m).e0 + max (s.get R.TDC_MTIMEOUT_TICKS m) 1) :=
  ⟨7, { wIv 15 [] with tick := 599 }, by decide +kernel⟩
theorem witness_IntervalsAndFrequencies_7 : ∃ (m : Master) (f : Fin 4) (v : BitVec 32) (s : State), reaches s m (0xB30000 + f.val * 0x40) true = true ∧ s.get R.TDC_FSTATUS_BUSY f = 0 ∧
      bits v.toNat 29 28 = 0 ∧ instSecure s (528 + bits v.toNat 20 16) = instSecure s (536 + f) ∧ s.tinSeen = [] :=
  ⟨.s0, 3, 0x0F1F01FF, { wUp with tick := 77 }, by decide +kernel, by decide +kernel, by decide +kernel, by decide +kernel, by decide +kernel⟩
theorem witness_IntervalsAndFrequencies_8 : ∃ (f : Fin 4) (s : State), s.get R.TDC_FCTRL_ARM f = 2 ∧ s.now % (4000 * max (s.get R.CLK_SYNC_CTRL_PERIOD) 1) = 0 ∧ ticking s = true ∧ s.get
      R.TDC_FSTATUS_BUSY f = 0 ∧ instSecure s (528 + s.get R.TDC_FCTRL_TIN f) = instSecure s (536 + f) ∧ s.tinSeen = [] :=
  ⟨3, { (((wRun.set R.TDC_FCTRL_ARM 2 3).set R.TDC_FCTRL_TIN 31 3).set R.CLK_STATUS_PLL_LOCK 1) with tick := 77, now := 4000 * 400 }, by decide +kernel, by decide +kernel, by decide +kernel, by decide +kernel, by decide +kernel, by decide +kernel⟩
theorem witness_IntervalsAndFrequencies_9 : ∃ (f : Fin 4) (s : State), (s.get R.TDC_FCTRL_ARM f ≠ 2 ∨ s.now % (4000 * max (s.get R.CLK_SYNC_CTRL_PERIOD) 1) ≠ 0) :=
  ⟨3, wRun, by decide +kernel⟩
theorem witness_IntervalsAndFrequencies_10 : ∃ (f : Fin 4) (s : State), (frq s f).st = 1 ∧ (frq s f).g0 + (frq s f).g ≤ s.tick :=
  ⟨3, { wRun with tick := 500, frqs := sset {} [] 3 { st := 1, g0 := 100, g := 400 } }, by decide +kernel, by decide +kernel⟩
theorem witness_IntervalsAndFrequencies_11 : ∃ (f : Fin 4) (s : State) (d : Nat), (frq s f).st = 2 ∧ 3 ≤ (frq s f).used ∧ d = (frq s f).used * (frq s f).smm - (frq s f).sm * (frq s f).sm
      ∧ 0 < d :=
  ⟨3, { wRun with frqs := sset {} [] 3 { st := 2, used := 3, n := 3, sm := 3, smm := 5, st_ := 3000, smt := 5000, stt := 5000000, start := 2 ^ 40 + 7 } }, 6, by decide +kernel, by decide +kernel, by decide +kernel, by decide +kernel⟩
theorem witness_IntervalsAndFrequencies_12 : ∃ (f : Fin 4) (s : State), (frq s f).st = 2 ∧ (frq s f).used < 3 :=
  ⟨3, { wRun.set R.EVF_SRC_EN 1 1047 with frqs := sset {} [] 3 { st := 2, used := 2 } }, by decide +kernel, by decide +kernel⟩

/-! Witnesses: 13 -/

def wF : State := { wRun with tick := 100, now := 99, clock := 100 }
def wBd (src c : Nat) : State := ((wF.set R.EVF_SRC_EN 1 src).set R.EVF_SRC_CH c src).set R.EVF_TASK_DIRECT_EN 1 (c + 512)
theorem witness_EventFabric_1 : ∃ (src : Fin 1536) (s : State) (c : Nat), sourcePowered s src = true ∧ rtSource s src = true ∧ s.get R.EVF_SRC_EN src ≠ 0 ∧ c = s.get
      R.EVF_SRC_CH src ∧ sget 0 s.chRt c ≠ s.clock + 1 ∧ (sget 0 s.chRt c = 0 ∨ sget 0 s.chRt c + 3 < s.clock + 1) :=
  ⟨1483, (wBd 1483 255), 255, by decide +kernel, by decide +kernel, by decide +kernel, by decide +kernel, by decide +kernel, by decide +kernel⟩
theorem witness_EventFabric_2 : ∃ (src : Fin 1536) (s : State) (c : Nat), src.val < 1493 ∧ sourcePowered s src = true ∧ rtSource s src = false ∧ s.get R.EVF_SRC_EN src ≠ 0 ∧
      c = s.get R.EVF_SRC_CH src ∧ (sget 0 s.chAny c = 0 ∨ sget 0 s.chAny c + 5 ≤ s.clock + 1) :=
  ⟨1492, { wBd 1492 511 with chAny := sset 0 [] 511 96 }, 511, by decide +kernel, by decide +kernel, by decide +kernel, by decide +kernel, by decide +kernel, by decide +kernel⟩
theorem witness_EventFabric_3 : ∃ (src : Fin 1536) (s : State) (c : Nat), src.val < 1493 ∧ sourcePowered s src = true ∧ s.get R.EVF_SRC_EN src ≠ 0 ∧ c = s.get R.EVF_SRC_CH
      src ∧ ((rtSource s src = true ∧ s.cyc.refused.contains c = false ∧ sget 0 s.chRt c ≠ s.clock + 1 ∧ sget 0 s.chRt c ≠ 0 ∧ s.clock + 1 ≤ sget
      0 s.chRt c + 3) ∨ (rtSource s src = false ∧ sget 0 s.chAny c ≠ 0 ∧ s.clock + 1 ≤ sget 0 s.chAny c + 2)) ∧ s.get R.EVF_STATUS_REFUSED ≠ 0 :=
  ⟨1483, { (wBd 1483 511).set R.EVF_STATUS_REFUSED 1 with chRt := sset 0 [] 511 98 }, 511, by decide +kernel, by decide +kernel, by decide +kernel, by decide +kernel, by decide +kernel, by decide +kernel⟩
theorem witness_EventFabric_4 : ∃ (src : Fin 1536) (s : State) (c : Nat), sourcePowered s src = true ∧ s.get R.EVF_SRC_EN src ≠ 0 ∧ c = s.get R.EVF_SRC_CH src ∧ rtSource s
      src = true ∧ s.cyc.refused.contains c = false ∧ sget 0 s.chRt c ≠ s.clock + 1 ∧ sget 0 s.chRt c ≠ 0 ∧ s.clock + 1 ≤ sget 0 s.chRt c + 3 ∧
      s.get R.EVF_STATUS_REFUSED = 0 :=
  ⟨1483, { (wBd 1483 511).set R.EVF_SRC_EN 1 1485 with chRt := sset 0 [] 511 100 }, 511, by decide +kernel, by decide +kernel, by decide +kernel, by decide +kernel, by decide +kernel, by decide +kernel, by decide +kernel, by decide +kernel, by decide +kernel⟩
theorem witness_EventFabric_5 : ∃ (src : Fin 1536) (s : State), (sourcePowered s src = false ∨ s.get R.EVF_SRC_EN src = 0 ∨ 1493 ≤ src.val) :=
  ⟨1493, (wBd 1493 3), by decide +kernel⟩
theorem witness_EventFabric_6 : ∃ (m : Master) (c : Fin 512) (s : State), reaches s m 0x400010 true = true ∧ (masterSecure m = true ∨ s.get R.EVF_CH_SECURE c = 0) ∧ s.get
      R.EVF_CH_OWNER c = masterCode m ∧ sget 0 s.chAny c = 0 :=
  ⟨.s0, 511, (wUp.set R.EVF_CH_OWNER 1 511), by decide +kernel, by decide +kernel, by decide +kernel, by decide +kernel⟩
theorem witness_EventFabric_7 : ∃ (m : Master) (c : Fin 512) (s : State), reaches s m 0x400010 true = true ∧ (masterSecure m = true ∨ s.get R.EVF_CH_SECURE c = 0) ∧ s.get
      R.EVF_CH_OWNER c ≠ masterCode m :=
  ⟨.s0, 511, (wUp.set R.EVF_SRC_EN 1 1485), by decide +kernel, by decide +kernel, by decide +kernel⟩
theorem witness_EventFabric_8 : ∃ (m : Master) (c : Fin 512) (s : State), reaches s m 0x400010 true = true ∧ masterSecure m = false ∧ s.get R.EVF_CH_SECURE c ≠ 0 :=
  ⟨.host, 511, (wUp.set R.EVF_SRC_EN 1 1473), by decide +kernel, by decide +kernel, by decide +kernel⟩
theorem witness_EventFabric_9 : ∃ (c : Fin 512) (s : State) (x : Nat), s.deliver = [⟨c, x⟩] ∧ s.tick = x + 3 ∧ s.slots = [] ∧ s.get R.EVF_TASK_DIRECT_EN c ≠ 0 ∧ s.listed
      R.EVF_TASK_MUX_EN = [] ∧ s.get R.CLP_CTRL_MODE (c / 8) = 1 ∧ sget 0 s.taskLast c ≠ s.tick + 1 ∧ s.get R.EVF_TASKST_PENDING c = 0 ∧ (∀ m <
      8, s.get R.TDC_MCTRL_ARM m ≠ 1) ∧ (∀ f < 4, s.get R.TDC_FCTRL_ARM f ≠ 1) :=
  ⟨511, { (wF.set R.EVF_TASK_DIRECT_EN 1 511).set R.CLP_CTRL_MODE 1 63 with deliver := [⟨511, 97⟩] }, 97, by decide +kernel, by decide +kernel, by decide +kernel, by decide +kernel, by decide +kernel, by decide +kernel, by decide +kernel, by decide +kernel, by decide +kernel, by decide +kernel⟩
theorem witness_EventFabric_10 : ∃ (c : Fin 512) (s : State) (x : Nat) (m : Fin 8), s.deliver = [⟨c, x⟩] ∧ s.tick = x + 3 ∧ s.slots = [] ∧ s.get R.EVF_TASK_DIRECT_EN c = 0 ∧
      s.listed R.EVF_TASK_MUX_EN = [] ∧ s.get R.TDC_MCTRL_ARM m = 1 ∧ s.get R.TDC_MCH_CH m = c ∧ (∀ k < 8, k ≠ m → s.get R.TDC_MCTRL_ARM k ≠ 1) ∧
      (∀ f < 4, s.get R.TDC_FCTRL_ARM f ≠ 1) ∧ s.get R.TDC_MSTATUS_BUSY m = 0 ∧ ivlWorldOk s m = true ∧ s.tinSeen = [] :=
  ⟨511, { ((wF.set R.TDC_MCTRL_ARM 1 7).set R.TDC_MCH_CH 511 7) with deliver := [⟨511, 97⟩] }, 97, 7, by decide +kernel, by decide +kernel, by decide +kernel, by decide +kernel, by decide +kernel, by decide +kernel, by decide +kernel, by decide +kernel, by decide +kernel, by decide +kernel, by decide +kernel, by decide +kernel⟩
theorem witness_EventFabric_11 : ∃ (c : Fin 512) (s : State), ((s.deliver.all fun f => !(f.ch == c.val && decide (f.tick + 3 ≤ s.tick))) = true) :=
  ⟨511, { wF with deliver := [⟨511, 98⟩, ⟨510, 97⟩] }, by decide +kernel⟩
theorem witness_EventFabric_12 : ∃ (k : Fin 1024) (s : State) (a : Nat) (rest : List Nat), s.xtalFail = false ∧ sget [] s.arrivals k = a :: rest ∧ (904 ≤ k.val ∨
      consumerPowered s k = false) ∧ rest.head? ≠ some a :=
  ⟨1023, { wF with arrivals := sset [] [] 1023 [5, 6] }, 5, [6], by decide +kernel, by decide +kernel, by decide +kernel, by decide +kernel⟩
theorem witness_EventFabric_13 : ∃ (k : Fin 1024) (s : State) (a : Nat) (rest : List Nat), s.xtalFail = false ∧ sget [] s.arrivals k = a :: rest ∧ k.val < 904 ∧
      consumerPowered s k = true ∧ s.get R.EVF_TASKST_PENDING k = 0 ∧ consumerBusy s k = false :=
  ⟨511, { wF with arrivals := sset [] [] 511 [5, 5, 6] }, 5, [5, 6], by decide +kernel, by decide +kernel, by decide +kernel, by decide +kernel, by decide +kernel, by decide +kernel⟩
theorem witness_EventFabric_14 : ∃ (k : Fin 1024) (s : State) (a : Nat) (rest : List Nat), s.xtalFail = false ∧ sget [] s.arrivals k = a :: rest ∧ 512 ≤ k.val ∧ k.val < 904 ∧
      consumerPowered s k = true ∧ (s.get R.EVF_TASKST_PENDING k ≠ 0 ∨ consumerBusy s k = true) :=
  ⟨903, { (wF.set R.EVF_TASKST_PENDING 1 903).set R.EVF_SRC_EN 1 1485 with arrivals := sset [] [] 903 [5] }, 5, [], by decide +kernel, by decide +kernel, by decide +kernel, by decide +kernel, by decide +kernel, by decide +kernel⟩
theorem witness_EventFabric_15 : ∃ (k : Fin 1024) (s : State), (s.xtalFail = true ∨ sget [] s.arrivals k = []) :=
  ⟨903, wF, by decide +kernel⟩
theorem witness_EventFabric_16 : ∃ (p : BitVec 16) (s : State) (h : HPoint), s.xtalFail = false ∧ sget none s.points p.toNat = some h ∧ h.kind = 1 ∧ running s = true ∧
      shotTick s = h.cut :=
  ⟨0xFFFF, { (wF.set R.GLB_SCHED_STATUS_STATE 2).set R.CLK_SHOT_COUNT 0xFFFFFFFF with shotStart := 60, points := sset none [] 65535 (some ⟨191, 7, 1, 0, 4, 0, 40⟩), nq := sset 0 [] 191 9, evhLatch := sset false [] 65535 true }, ⟨191, 7, 1, 0, 4, 0, 40⟩, by decide +kernel, rfl, by decide +kernel, by decide +kernel⟩
theorem witness_EventFabric_17 : ∃ (p : BitVec 16) (s : State), (s.xtalFail = true ∨ sget none s.points p.toNat = none ∨ running s = false) :=
  ⟨0xFFFF, wF, by decide +kernel⟩
def wEnt : MbxEnt := ⟨2 ^ 36 - 1, 0x7F, 9⟩
def wMb (n : Nat) : State := { wUp with tick := 9, clock := 9, mbxQ := sset [] [] 62 (List.replicate n wEnt) }
theorem witness_MailboxesAndLocks_1 : ∃ (m : Master) (k : Fin 32) (b : Bool) (v : BitVec 64) (s : State) (e : Nat), reaches s m (0x500000 + k.val * 0x100 + b2n b * 0x40) true =
      true ∧ e = 2 * k.val + b2n b ∧ s.get R.MBX_CFG_CFG_ERR k = 0 ∧ (mbxIn s (partner e)).length < 8 :=
  ⟨.s0, 31, true, 0xFFFFFFFFFFFFFFFF, (wMb 7), 63, by decide +kernel, by decide +kernel, by decide +kernel, by decide +kernel⟩
theorem witness_MailboxesAndLocks_2 : ∃ (m : Master) (k : Fin 32) (b : Bool) (v : BitVec 64) (s : State) (e : Nat), reaches s m (0x500000 + k.val * 0x100 + b2n b * 0x40) true =
      true ∧ e = 2 * k.val + b2n b ∧ s.get R.MBX_CFG_CFG_ERR k = 0 ∧ (mbxIn s (partner e)).length = 8 :=
  ⟨.s0, 31, true, 0xFFFFFFFFFFFFFFFF, ((wMb 8).set R.EVF_SRC_EN 1 1215), 63, by decide +kernel, by decide +kernel, by decide +kernel, by decide +kernel⟩
theorem witness_MailboxesAndLocks_3 : ∃ (m : Master) (k : Fin 32) (b : Bool) (v : BitVec 64) (s : State), reaches s m (0x500000 + k.val * 0x100 + b2n b * 0x40) true = true ∧ s.get
      R.MBX_CFG_CFG_ERR k ≠ 0 :=
  ⟨.s0, 31, true, 0xFFFFFFFFFFFFFFFF, ((wMb 8).set R.MBX_CFG_CFG_ERR 1 31), by decide +kernel, by decide +kernel⟩
theorem witness_MailboxesAndLocks_4 : ∃ (m : Master) (k : Fin 32) (b : Bool) (s : State) (e : Nat) (x : MbxEnt) (rest : List MbxEnt), reaches s m (0x500008 + k.val * 0x100 + b2n b
      * 0x40) false = true ∧ e = 2 * k.val + b2n b ∧ mbxIn s e = x :: rest ∧ rest.length < 8 :=
  ⟨.s0, 31, false, { (wMb 8).set R.MBX_TXSTAT_DB_PEND 1 63 with mbxRing := sset 0 [] 63 4 }, 62, wEnt, (List.replicate 7 wEnt), by decide +kernel, by decide +kernel, by decide +kernel, by decide +kernel⟩
theorem witness_MailboxesAndLocks_5 : ∃ (m : Master) (k : Fin 32) (b : Bool) (s : State) (e : Nat), reaches s m (0x500008 + k.val * 0x100 + b2n b * 0x40) false = true ∧ e = 2 *
      k.val + b2n b ∧ mbxIn s e = [] :=
  ⟨.s0, 31, false, ((wMb 0).set R.MBX_TXSTAT_DB_PEND 1 63), 62, by decide +kernel, by decide +kernel, by decide +kernel⟩
theorem witness_MailboxesAndLocks_6 : ∃ (m : Master) (k : Fin 32) (b : Bool) (s : State) (e : Nat), reaches s m (0x500018 + k.val * 0x100 + b2n b * 0x40) false = true ∧ e = 2 *
      k.val + b2n b :=
  ⟨.s0, 31, false, ((((wMb 0).set R.MBX_TXSTAT_DB_PEND 1 63).set R.MBX_RXSTAT_DB 1 62).set R.MBX_RXSTAT_FILL 8 62), 62, by decide +kernel, by decide +kernel⟩
theorem witness_MailboxesAndLocks_7 : ∃ (m : Master) (k : Fin 32) (b : Bool) (s : State) (e : Nat), reaches s m (0x500010 + k.val * 0x100 + b2n b * 0x40) true = true ∧ e = 2 *
      k.val + b2n b ∧ s.get R.MBX_CFG_CFG_ERR k = 0 :=
  ⟨.s0, 31, true, (((wMb 0).set R.MBX_CFG_END_A 0x7F 31).set R.CLP_CTRL_MODE 2 63), 63, by decide +kernel, by decide +kernel, by decide +kernel⟩
theorem witness_MailboxesAndLocks_8 : ∃ (k : Fin 32) (b : Bool) (s : State) (e : Nat), s.xtalFail = false ∧ e = 2 * k.val + b2n b ∧ s.get R.MBX_TXSTAT_DB_PEND e ≠ 0 ∧ s.get
      R.MBX_TIMEOUT_MICROSECONDS k ≠ 0 ∧ sget 0 s.mbxRing e + 400 * (s.get R.MBX_TIMEOUT_MICROSECONDS k - 1) ≤ s.clock + 1 :=
  ⟨31, true, { ((wMb 0).set R.MBX_TXSTAT_DB_PEND 1 63).set R.MBX_TIMEOUT_MICROSECONDS 1 31 with mbxRing := sset 0 [] 63 10 }, 63, by decide +kernel, by decide +kernel, by decide +kernel, by decide +kernel, by decide +kernel⟩
theorem witness_MailboxesAndLocks_9 : ∃ (k : Fin 32) (b : Bool) (s : State), (s.xtalFail = true ∨ s.get R.MBX_TXSTAT_DB_PEND (2 * k.val + b2n b) = 0 ∨ s.get
      R.MBX_TIMEOUT_MICROSECONDS k = 0) :=
  ⟨31, true, (wMb 0), by decide +kernel⟩
theorem witness_MailboxesAndLocks_10 : ∃ (p : BitVec 8) (s : State), isParty p.toNat = true :=
  ⟨0x7F, { (((wMb 8).set R.MBX_CFG_END_A 0x7F 31).set R.MBX_CFG_END_B 0x7F 31).set R.MBX_EPOCH_EPOCH 0xFFFF 0x7F with mbxRing := sset 0 [] 62 9 }, by decide +kernel⟩
theorem witness_MailboxesAndLocks_11 : ∃ (p : BitVec 8) (s : State), isParty p.toNat = false :=
  ⟨0x16, (wMb 8), by decide +kernel⟩
theorem witness_MailboxesAndLocks_12 : ∃ (m : Master) (k : Fin 32) (v : BitVec 32) (s : State) (a b : Nat), reaches s m (0x500080 + k.val * 0x100) true = true ∧ k ≠ 0 ∧ a = bits
      v.toNat 7 0 ∧ b = bits v.toNat 15 8 :=
  ⟨.s0, 31, 0x207F, ((wMb 8).set R.MBX_CFG_END_B 0x7F 30), 0x7F, 0x20, by decide +kernel, by decide +kernel, by decide +kernel, by decide +kernel⟩
theorem witness_MailboxesAndLocks_13 : ∃ (m : Master) (v : BitVec 32) (s : State), reaches s m 0x500080 true = true :=
  ⟨.s0, 0x4040, (wMb 8), by decide +kernel⟩
theorem witness_MailboxesAndLocks_14 : ∃ (m : Master) (r : Fin 63) (k : Fin 64) (s : State), reaches s m (0x580100 + r.val * 0x100 + k.val * 4) false = true ∧ s.get
      R.LCK_STATE_HELD k = 0 :=
  ⟨.s0, 62, 63, wUp, by decide +kernel, by decide +kernel⟩
theorem witness_MailboxesAndLocks_15 : ∃ (m : Master) (r : Fin 63) (k : Fin 64) (s : State), reaches s m (0x580100 + r.val * 0x100 + k.val * 4) false = true ∧ s.get
      R.LCK_STATE_HELD k ≠ 0 :=
  ⟨.s0, 62, 63, ((wUp.set R.LCK_STATE_HELD 1 63).set R.LCK_STATE_OWNER 63 63), by decide +kernel, by decide +kernel⟩
theorem witness_MailboxesAndLocks_16 : ∃ (m : Master) (r : Fin 63) (k : Fin 64) (v : BitVec 32) (s : State), reaches s m (0x580100 + r.val * 0x100 + k.val * 4) true = true ∧ s.get
      R.LCK_STATE_HELD k ≠ 0 ∧ s.get R.LCK_STATE_OWNER k = r + 1 :=
  ⟨.s0, 62, 63, 7, ((wUp.set R.LCK_STATE_HELD 1 63).set R.LCK_STATE_OWNER 63 63), by decide +kernel, by decide +kernel, by decide +kernel⟩
theorem witness_MailboxesAndLocks_17 : ∃ (m : Master) (r : Fin 63) (k : Fin 64) (v : BitVec 32) (s : State), reaches s m (0x580100 + r.val * 0x100 + k.val * 4) true = true ∧ (s.get
      R.LCK_STATE_HELD k = 0 ∨ s.get R.LCK_STATE_OWNER k ≠ r + 1) :=
  ⟨.s0, 61, 63, 7, ((wUp.set R.LCK_STATE_HELD 1 63).set R.LCK_STATE_OWNER 63 63), by decide +kernel, by decide +kernel⟩
theorem witness_MailboxesAndLocks_18 : ∃ (m : Master) (k : Fin 64) (v : BitVec 32) (s : State), reaches s m (0x580000 + k.val * 4) true = true :=
  ⟨.s0, 63, 7, ((wUp.set R.LCK_STATE_HELD 1 63).set R.LCK_STATE_OWNER 63 63), by decide +kernel⟩

/-! Witnesses: 14 -/

def wArb (a : Arb) (b : Arb := {}) : State := { wUp with arbs := sset {} (sset {} [] 0 { b with on := true }) 1 { a with on := true } }
theorem witness_ArbiterDecisions_1 : ∃ (t : Fin 2) (q : BitVec 16) (res : List (Fin 3 × Fin 512)) (lock : BitVec 16) (keep : Bool) (s : State), ArbRuns s t :=
  ⟨1, 0x84, [], 0, false, (wArb { grant := some 6 } { lockOwner := some 7 }), by decide +kernel⟩
theorem witness_ArbiterDecisions_2 : ∃ (t : Fin 2) (q : BitVec 16) (res : List (Fin 3 × Fin 512)) (lock : BitVec 16) (keep : Bool) (s : State) (r : Nat), ArbRuns s t ∧ (arb s
      t).lockOwner = some r ∧ arbHolds s t lock keep = true :=
  ⟨1, 0xFFFF, [(2, 511)], 0, true, (((wArb { cycle := 254, lockOwner := some 7, lockBeats := 63, owed := [(1, 2)], backoff := [5, 0, 1] }).set R.GLB_PLN_HLOCK_OPEN 1 7).set R.SVA_ACT_ENTRY 0xA1FF 511), 7, by decide +kernel, by decide +kernel, by decide +kernel⟩
theorem witness_ArbiterDecisions_3 : ∃ (t : Fin 2) (q : BitVec 16) (res : List (Fin 3 × Fin 512)) (lock : BitVec 16) (keep : Bool) (s : State) (pre post : List (Nat × Nat)) (o :
      Nat × Nat), ArbRuns s t ∧ arbHolds s t lock keep = false ∧ arbOwed s t = pre ++ o :: post ∧ (∀ p ∈ pre, p ∉ arbOwners res) ∧ o ∈ arbOwners
      res :=
  ⟨1, 0xFFFF, [(2, 511), (0, 9)], 0, true, ((wArb { cycle := 254, owed := [(1, 2)], backoff := [5, 0, 1] }).set R.SVA_ACT_ENTRY 0xA1FF 511), [(1, 2)], [], (2, 511), by decide +kernel, by decide +kernel, by decide +kernel, by decide +kernel, by decide +kernel⟩
theorem witness_ArbiterDecisions_4 : ∃ (t : Fin 2) (q : BitVec 16) (res : List (Fin 3 × Fin 512)) (lock : BitVec 16) (keep : Bool) (s : State), ArbRuns s t ∧ arbHolds s t lock
      keep = false ∧ (∀ p ∈ arbOwed s t, p ∉ arbOwners res) ∧ arbEligible s t q lock = [] :=
  ⟨1, 0x8201, [(2, 511), (0, 9)], 0, false, (wArb { cycle := 255, lockOwner := some 10, owed := List.replicate 63 (0, 8), backoff := [5, 0, 1] }), by decide +kernel, by decide +kernel, by decide +kernel, by decide +kernel⟩
theorem witness_ArbiterDecisions_5 : ∃ (t : Fin 2) (q : BitVec 16) (res : List (Fin 3 × Fin 512)) (lock : BitVec 16) (keep : Bool) (s : State) (pre post : List Nat) (w : Nat),
      ArbRuns s t ∧ arbHolds s t lock keep = false ∧ (∀ p ∈ arbOwed s t, p ∉ arbOwners res) ∧ arbEligible s t q lock = pre ++ w :: post ∧ (∀ r ∈
      pre, arbAged s t q lock r < 4096) ∧ 4096 ≤ arbAged s t q lock w :=
  ⟨1, 0xFFFF, [], 0, false, (wArb { cycle := 255, age := [4094, 4095, 5, 4096], seed := some 9 }), [0], [2, 3, 4, 5, 6, 7, 8, 10, 11, 12, 13, 14], 1, by decide +kernel, by decide +kernel, by decide +kernel, by decide +kernel, by decide +kernel, by decide +kernel⟩
theorem witness_ArbiterDecisions_6 : ∃ (t : Fin 2) (q : BitVec 16) (res : List (Fin 3 × Fin 512)) (lock : BitVec 16) (keep : Bool) (s : State) (pre post : List Nat) (w x : Nat),
      ArbRuns s t ∧ arbHolds s t lock keep = false ∧ (∀ p ∈ arbOwed s t, p ∉ arbOwners res) ∧ arbEligible s t q lock = pre ++ w :: post ∧ (∀ r ∈
      pre ++ w :: post, arbAged s t q lock r < 4096) ∧ x = arbDraw s t * arbTickets s t (pre ++ w :: post) / 2 ^ 32 ∧ arbTickets s t pre ≤ x ∧ x
      < arbTickets s t (pre ++ [w]) :=
  ⟨1, 0x403, [], 0, false, (((wArb { lfsr := 0x80200003, backoff := [] }).set R.GLB_PLN_HLOCK_OPEN 1 0).set R.SVA_REQ_LOSSES 10 26), [], [1, 10], 0, 0, by decide +kernel, by decide +kernel, by decide +kernel, by decide +kernel, by decide +kernel, by decide +kernel, by decide +kernel, by decide +kernel⟩
theorem witness_ArbiterDecisions_7 : ∃ (t : Fin 2) (q : BitVec 16) (res : List (Fin 3 × Fin 512)) (lock : BitVec 16) (s : State) (r : Nat), ArbRuns s t ∧ (arb s t).lockOwner =
      some r ∧ 64 ≤ (arb s t).lockBeats ∧ arbSecond s t lock = false ∧ (r < 8 → s.get R.GLB_PLN_HLOCK_OPEN r ≠ 0) :=
  ⟨1, 0xFFFF, [], 0xFFFF, ((wArb { lockOwner := some 7, lockBeats := 64 }).set R.GLB_PLN_HLOCK_OPEN 1 7), 7, by decide +kernel, by decide +kernel, by decide +kernel, by decide +kernel, by decide +kernel⟩
theorem witness_ArbiterDecisions_8 : ∃ (t : Fin 2) (q : BitVec 16) (res : List (Fin 3 × Fin 512)) (lock : BitVec 16) (keep : Bool) (s : State) (r : Nat), ArbRuns s t ∧ (arb s
      t).lockOwner = some r ∧ (keep = false ∨ (r < 8 ∧ s.get R.GLB_PLN_HLOCK_OPEN r = 0)) :=
  ⟨1, 0xFFFF, [], 0xFFFF, true, (wArb { lockOwner := some 7, lockBeats := 63 }), 7, by decide +kernel, by decide +kernel, by decide +kernel⟩
theorem witness_ArbiterDecisions_9 : ∃ (t : Fin 2) (q : BitVec 16) (res : List (Fin 3 × Fin 512)) (lock : BitVec 16) (keep : Bool) (s : State), ((arb s t).on = false ∨ s.xtalFail
      = true) :=
  ⟨1, 0xFFFF, [], 0xFFFF, false, wUp, by decide +kernel⟩
theorem witness_ArbiterDecisions_10 : ∃ (m : Master) (k : Fin 8) (v : BitVec 32) (s : State), reaches s m (0x640 + k.val * 4) true = true ∧ bit v.toNat 0 = true ∧ (s.get
      R.GLB_PLN_HLOCK_OPEN k = 0 ∨ s.get R.GLB_PLN_HLOCK_ACTIVE k = 0) :=
  ⟨(.core 5), 7, 0xFFFFFFFF, (((wArb {}).set R.GLB_PLN_HLOCK_OPEN 1 7).put R.GLB_PLN_HLOCK_EXPIRED 1 7), by decide +kernel, by decide +kernel, by decide +kernel⟩
theorem witness_ArbiterDecisions_11 : ∃ (m : Master) (k : Fin 8) (v : BitVec 32) (s : State) (x : Nat), reaches s m (0x640 + k.val * 4) true = true ∧ bit v.toNat 0 = true ∧ s.get
      R.GLB_PLN_HLOCK_OPEN k ≠ 0 ∧ s.get R.GLB_PLN_HLOCK_ACTIVE k ≠ 0 ∧ x < 2 ∧ (arb s x).lockOwner = some k.val ∧ (x = 0 → (arb s 1).lockOwner ≠
      some k.val) :=
  ⟨(.core 5), 7, 0xFFFFFFFF, (((wArb { lockOwner := some 7 }).set R.GLB_PLN_HLOCK_OPEN 1 7).set R.GLB_PLN_HLOCK_ACTIVE 1 7), 1, by decide +kernel, by decide +kernel, by decide +kernel, by decide +kernel, by decide +kernel, by decide +kernel, by decide +kernel⟩
theorem witness_ArbiterDecisions_12 : ∃ (m : Master) (k : Fin 8) (v : BitVec 32) (s : State), reaches s m (0x640 + k.val * 4) true = true ∧ bit v.toNat 0 = false :=
  ⟨.s0, 0, 0xC0000000, (((wArb {} { lockOwner := some 0 }).set R.GLB_PLN_HLOCK_OPEN 1 0).set R.GLB_PLN_HLOCK_ACTIVE 1 0), by decide +kernel, by decide +kernel⟩
theorem witness_ArbiterDecisions_13 : ∃ (m : Master) (t : Fin 2) (s : State), reaches s m (0x600000 + t.val * 0x10000) true = true ∧ s.get R.SVA_CTRL_PENDING t = 0 :=
  ⟨.s0, 1, (wUp.set R.SVA_CTRL_CMT_REJECT 1 1), by decide +kernel, by decide +kernel⟩
theorem witness_ArbiterDecisions_14 : ∃ (m : Master) (t : Fin 2) (s : State), reaches s m (0x600000 + t.val * 0x10000) true = true ∧ s.get R.SVA_CTRL_PENDING t ≠ 0 :=
  ⟨.s0, 1, (wUp.set R.SVA_CTRL_PENDING 1 1), by decide +kernel, by decide +kernel⟩

/-! Witnesses: 15 -/

def wNs (s : State) : State := (s.set R.SEC_HBM_RGN_ENABLE 1 0).set R.SEC_HBM_LIM_LIMIT 0x7FFF 0
def wCo : State := { ((((wUp.set R.GLB_PLN_STATUS_STATE 3 7).set R.GLB_PLN_CTRL_HOLD 0x70).set R.GLB_PLN_CTRL_WDOG_EN 0x84).set R.MBX_CFG_END_B 0x15 31).set R.MBX_EPOCH_EPOCH 0xFFFF 0x15 with
  arbs := sset {} (sset {} [] 0 { lockOwner := some 6 }) 1 { lockOwner := some 7, lockBeats := 5 }, mbxQ := sset [] [] 63 [⟨1, 2, 3⟩], mbxRing := sset 0 [] 62 7, tick := 9 }
theorem witness_CoresAndHostWindows_1 : ∃ (m : Master) (k : Fin 8) (s : State), Canon s ∧ reaches s m 0x620 true = true ∧ k ≠ 0 ∧ s.get R.GLB_PLN_STATUS_STATE k ≠ 0 :=
  ⟨.s0, 7, wCo, by unfold Canon RegsFit; decide +kernel, by decide +kernel, by decide +kernel, by decide +kernel⟩
theorem witness_CoresAndHostWindows_2 : ∃ (m : Master) (k : Fin 8) (s : State), Canon s ∧ reaches s m 0x620 true = true ∧ (k = 0 ∨ s.get R.GLB_PLN_STATUS_STATE k = 0) :=
  ⟨.s0, 0, (wCo.set R.GLB_PLN_CTRL_HOLD 0xFF), by unfold Canon RegsFit; decide +kernel, by decide +kernel, by decide +kernel⟩
theorem witness_CoresAndHostWindows_3 : ∃ (k : Fin 8) (s : State), s.xtalFail = false ∧ k ≠ 0 ∧ s.get R.GLB_PLN_STATUS_WDOG_EN k ≠ 0 ∧ (s.get R.GLB_PLN_STATUS_STATE k = 2 ∨ s.get
      R.GLB_PLN_STATUS_STATE k = 3) :=
  ⟨7, (wCo.set R.GLB_PLN_STATUS_WDOG_EN 1 7), by decide +kernel, by decide +kernel, by decide +kernel, by decide +kernel⟩
theorem witness_CoresAndHostWindows_4 : ∃ (k : Fin 8) (s : State), (s.xtalFail = true ∨ s.get R.GLB_PLN_STATUS_WDOG_EN k = 0 ∨ k = 0 ∨ s.get R.GLB_PLN_STATUS_STATE k < 2 ∨ 3 < s.get
      R.GLB_PLN_STATUS_STATE k) :=
  ⟨7, wCo, by decide +kernel⟩
def wRr (e : Nat) : Rec := ⟨e, [1, 2 ^ 36 - 1, 3, 4, 5, 6]⟩
def wRq (z : RQueue) : State := { wRun with rq := sset {} [] 24 z, tick := 5, clock := 4000 }
def wCl (n : Nat) : List Block := List.replicate n ⟨[wRr 1, wRr 1], 5, 9⟩
theorem witness_CoresAndHostWindows_5 : ∃ (q : Fin 25) (s : State), s.xtalFail = false ∧ (resQueue s q).openBlk.length = 82 ∧ (resQueue s q).closed.length < 4 :=
  ⟨24, (wRq { openBlk := List.replicate 82 (wRr 3), waiting := [wRr 3, wRr 4], closed := wCl 2, dropped := 7 }), by decide +kernel, by decide +kernel, by decide +kernel⟩
theorem witness_CoresAndHostWindows_6 : ∃ (q : Fin 25) (s : State) (o r : Rec) (os rs : List Rec), s.xtalFail = false ∧ (resQueue s q).openBlk = o :: os ∧ os.length < 81 ∧ (resQueue
      s q).waiting = r :: rs ∧ r.epoch ≠ o.epoch ∧ (resQueue s q).closed.length < 4 :=
  ⟨24, (wRq { openBlk := List.replicate 81 (wRr 3), waiting := [wRr 4, wRr 3], closed := wCl 2, dropped := 7 }), (wRr 3), (wRr 4), (List.replicate 80 (wRr 3)), [wRr 3], by decide +kernel, by decide +kernel, by decide +kernel, by decide +kernel, by decide +kernel, by decide +kernel⟩
theorem witness_CoresAndHostWindows_7 : ∃ (q : Fin 25) (s : State), s.xtalFail = false ∧ (resQueue s q).openBlk ≠ [] ∧ (resQueue s q).openBlk.length < 82 ∧ (resQueue s q).waiting =
      [] ∧ (resQueue s q).closed.length < 4 ∧ s.get R.PWR_STATE_STATE ≠ 1 :=
  ⟨24, ((wRq { openBlk := List.replicate 81 (wRr 3), closed := wCl 3, dropped := 7 }).set R.PWR_STATE_STATE 2), by decide +kernel, by decide +kernel, by decide +kernel, by decide +kernel, by decide +kernel, by decide +kernel⟩
theorem witness_CoresAndHostWindows_8 : ∃ (q : Fin 25) (s : State), (s.xtalFail = true ∨ (resQueue s q).openBlk = [] ∨ 4 ≤ (resQueue s q).closed.length ∨ ((resQueue s
      q).openBlk.length < 82 ∧ (resQueue s q).waiting = [] ∧ s.get R.PWR_STATE_STATE = 1)) :=
  ⟨24, (wRq { openBlk := List.replicate 81 (wRr 3), closed := wCl 3, dropped := 7 }), by decide +kernel⟩
theorem witness_CoresAndHostWindows_9 : ∃ (q : Fin 25) (s : State), s.xtalFail = false ∧ (resQueue s q).openBlk ≠ [] ∧ (resQueue s q).closed.length < 4 ∧ (resQueue s q).openedAt +
      flushTicks s ≤ s.clock :=
  ⟨24, ((wRq { openBlk := [wRr 3], openedAt := 0, closed := wCl 3, dropped := 7 }).set R.HST_RES_FLUSH_MICROSECONDS 9), by decide +kernel, by decide +kernel, by decide +kernel, by decide +kernel⟩
theorem witness_CoresAndHostWindows_10 : ∃ (q : Fin 25) (s : State), (s.xtalFail = true ∨ (resQueue s q).openBlk = [] ∨ 4 ≤ (resQueue s q).closed.length ∨ s.clock < (resQueue s
      q).openedAt + flushTicks s) :=
  ⟨24, ((wRq { openBlk := [wRr 3], openedAt := 1, closed := wCl 3, dropped := 7 }).set R.HST_RES_FLUSH_MICROSECONDS 9), by decide +kernel⟩
def wRingAt (n j : Nat) : State := ((((wNs (wRq { openBlk := [wRr 3], waiting := [wRr 3], closed := wCl n, dropped := 7 })).set R.HST_RES_SIZE_ENABLE 1 24).set R.HST_RES_BASE_LO_ADDR 3 24).set R.HST_RES_WR_INDEX j 24).set R.HST_RES_RD_INDEX (j - 15) 24
theorem witness_CoresAndHostWindows_11 : ∃ (q : Fin 25) (s : State) (b : Block) (bs : List Block) (a : Nat), s.xtalFail = false ∧ (resQueue s q).closed = b :: bs ∧ bs.length < 4 ∧
      b.recs ≠ [] ∧ b.recs.length ≤ 82 ∧ ringFull s q = false ∧ a = resAddr s q (s.get R.HST_RES_WR_INDEX q) ∧ Granted s false a 4096 :=
  ⟨24, { wRingAt 2 0xFFFFFFFF with hbm := [(0x12FFF, 4), (0x13000, 5)] }, ⟨[wRr 1, wRr 1], 5, 9⟩, (wCl 1), (0x3000 + 15 * 4096), by decide +kernel, by decide +kernel, by decide +kernel, by decide +kernel, by decide +kernel, by decide +kernel, by decide +kernel, by decide +kernel⟩
theorem witness_CoresAndHostWindows_12 : ∃ (q : Fin 25) (s : State), (s.xtalFail = true ∨ (resQueue s q).closed = [] ∨ s.get R.HST_RES_SIZE_ENABLE q = 0 ∨ ringFull s q = true) :=
  ⟨24, ((wRingAt 2 15).set R.HST_RES_RD_INDEX 0xFFFFFFFF 24), by decide +kernel⟩
theorem witness_CoresAndHostWindows_13 : ∃ (m : Master) (q : Fin 25) (v : BitVec 32) (s : State) (old wr : Nat), reaches s m (0x701010 + q.val * 0x20) true = true ∧ old = s.get
      R.HST_RES_RD_INDEX q ∧ wr = s.get R.HST_RES_WR_INDEX q ∧ old < 2 ^ 32 ∧ wr < 2 ^ 32 :=
  ⟨.host, 24, 7, ((wRingAt 0 7).set R.HST_RES_RD_INDEX 0xFFFFFFF9 24), 0xFFFFFFF9, 7, by decide +kernel, by decide +kernel, by decide +kernel, by decide +kernel, by decide +kernel⟩
def wW2 : State := (((wNs wUp).set R.HST_W2_BASE_LO_ADDR 5).set R.EVF_SRC_EN 1 1473).set R.EVF_SRC_EN 1 1492
theorem witness_CoresAndHostWindows_14 : ∃ (off : BitVec 32) (n : BitVec 13) (data : List (BitVec 8)) (ecc : Fin 3) (s : State) (a : Nat), a = w2Addr s off.toNat ∧ hbmUp s = true ∧
      Granted s false a data.length :=
  ⟨0xFFFFFFF0, 0, [1, 0, 0xFF], 0, { wW2 with hbm := [(0x1009FFFF1, 7)] }, (0x100000000 + 0x9FFFF0), by decide +kernel, by decide +kernel, by decide +kernel⟩
theorem witness_CoresAndHostWindows_15 : ∃ (off : BitVec 32) (n : BitVec 13) (data : List (BitVec 8)) (ecc : Fin 3) (s : State) (a : Nat), a = w2Addr s off.toNat ∧ hbmUp s = true ∧
      Granted s false a (min n.toNat 4096) ∧ ecc ≠ 2 :=
  ⟨3, 0x1FFF, [], 1, { wW2 with hbm := [(0xA00003, 7), (0xA01002, 9)] }, 0xA00003, by decide +kernel, by decide +kernel, by decide +kernel, by decide +kernel⟩
theorem witness_CoresAndHostWindows_16 : ∃ (off : BitVec 32) (n : BitVec 13) (data : List (BitVec 8)) (s : State) (a : Nat), a = w2Addr s off.toNat ∧ hbmUp s = true ∧ Granted s false
      a (min n.toNat 4096) :=
  ⟨3, 0x2, [], { wW2 with hbm := [(0xA00003, 7), (0xA01002, 9)] }, 0xA00003, by decide +kernel, by decide +kernel, by decide +kernel⟩
theorem witness_CoresAndHostWindows_17 : ∃ (w : Bool) (off : BitVec 32) (n : BitVec 13) (data : List (BitVec 8)) (ecc : Fin 3) (s : State) (a len : Nat), a = w2Addr s off.toNat ∧
      hbmUp s = true ∧ len = (if w = true then data.length else min n.toNat 4096) ∧ a + len ≤ hbmSize ∧ (((hbmUnits a len).any fun u =>
      hbmUnitSecure s u) = true) :=
  ⟨true, 0, 0x2, [3], 0, ((wW2.set R.SEC_HBM_LIM_LIMIT 5 0).set R.HST_W2_BASE_HI_ADDR 10), 0xA00A00000, 1, by decide +kernel, by decide +kernel, by decide +kernel, by decide +kernel, by decide +kernel⟩
theorem witness_CoresAndHostWindows_18 : ∃ (w : Bool) (off : BitVec 32) (n : BitVec 13) (data : List (BitVec 8)) (ecc : Fin 3) (s : State) (a len : Nat), a = w2Addr s off.toNat ∧
      hbmUp s = true ∧ len = (if w = true then data.length else min n.toNat 4096) ∧ hbmSize < a + len :=
  ⟨false, 0, 0x1000, [3], 0, (wW2.set R.HST_W2_BASE_HI_ADDR 0xE), 0xE00A00000, 4096, by decide +kernel, by decide +kernel, by decide +kernel, by decide +kernel⟩
theorem witness_CoresAndHostWindows_19 : ∃ (w : Bool) (off : BitVec 32) (n : BitVec 13) (data : List (BitVec 8)) (ecc : Fin 3) (s : State), s.xtalFail = false ∧ railsGood s = false :=
  ⟨true, 0, 0x1000, [3], 0, (wW2.set R.PWR_STATUS_RAILS_GOOD 0), by decide +kernel, by decide +kernel⟩
def wAp : State := ((wNs wUp).set R.STM_WR_INDEX 0xFFFFFFFF 511).set R.STM_RING_LO_ADDR 7 511
theorem witness_CoresAndHostWindows_20 : ∃ (r : Fin 512) (o : Fin 16384) (data : List (BitVec 8)) (s : State), hbmUp s = true ∧ data.length ≤ 2 ^ (ringLog2 s r + 7) ∧ (∀ i <
      data.length, Granted s false (apertureAt s r (o + i)) 1) :=
  ⟨511, 126, [1, 2, 3, 4], { wAp with hbm := [(0x7000, 3), (28671, 4), (28670 + 8192, 8)] }, by decide +kernel, by decide +kernel, by decide +kernel⟩
theorem witness_CoresAndHostWindows_21 : ∃ (r : Fin 512) (o : Fin 16384) (data : List (BitVec 8)) (s : State) (i : Nat), hbmUp s = true ∧ i < data.length ∧ hbmUnitSecure s
      (apertureAt s r (o + i) / 0x200000) = true ∧ (∀ j < data.length, apertureAt s r (o + j) < hbmSize) :=
  ⟨511, 126, [1, 2, 3, 4], (wAp.set R.SEC_HBM_RGN_SECURE 1 0), 3, by decide +kernel, by decide +kernel, by decide +kernel, by decide +kernel⟩
theorem witness_CoresAndHostWindows_22 : ∃ (r : Fin 512) (o : Fin 16384) (data : List (BitVec 8)) (s : State) (i : Nat), hbmUp s = true ∧ i < data.length ∧ hbmSize ≤ apertureAt s r
      (o + i) :=
  ⟨511, 126, [1, 2, 3, 4], (wAp.set R.STM_RING_HI_ADDR 0xE 511), 3, by decide +kernel, by decide +kernel, by decide +kernel⟩
theorem witness_CoresAndHostWindows_23 : ∃ (r : Fin 512) (o : Fin 16384) (data : List (BitVec 8)) (s : State), (railsGood s = false ∨ s.xtalFail = true) :=
  ⟨511, 126, [1, 2, 3, 4], (wAp.set R.PWR_STATUS_RAILS_GOOD 0), by decide +kernel⟩
theorem witness_CoresAndHostWindows_24 : ∃ (w : Bool) (off : BitVec 32) (n : BitVec 13) (data : List (BitVec 8)) (ecc : Fin 3) (s : State), s.xtalFail = true :=
  ⟨true, 0, 0x1000, [3], 0, { wW2 with xtalFail := true, readPoison := true }, by decide +kernel⟩
theorem witness_CoresAndHostWindows_26 : ∃ (sp w : Fin 3) (s : State), s.get R.HST_LINK_UP = 0 :=
  ⟨2, 2, wW2, by decide +kernel⟩
theorem witness_CoresAndHostWindows_27 : ∃ (sp w : Fin 3) (s : State), s.get R.HST_LINK_UP ≠ 0 :=
  ⟨2, 2, (wW2.set R.HST_LINK_UP 1), by decide +kernel⟩
def wLd : State := { ((wW2.set R.HST_SESSION_OPEN 1).set R.HST_SESSION_MINOR 4) with mbxQ := sset [] [] 0 [⟨1, 2, 3⟩], mbxRing := sset 0 [] 1 7, hostA := some ⟨2, 3, []⟩, hostB := some ⟨0x15, 3, []⟩, hostBQ := [⟨0x15, 4, []⟩], msix := sset {} [] 5 { masked := false }, tick := 8 }

/-! Witnesses: 16 -/

def wSess (s : State := wUp) : State := (((s.set R.HST_SESSION_OPEN 1).set R.HST_SESSION_MAJOR 1).set R.HST_SESSION_MINOR 4).set R.EVF_SRC_EN 1 1152
def wPwrOn (f : PwrSt → PwrSt) (s : State) : State := { s with pwr := f s.pwr }
theorem witness_HostAnswers_1 : ∃ (i : Fin 12) (seq : BitVec 8) (args : List (BitVec 36)) (s : State), hostUp s = false :=
  ⟨6, 7, [], ((wSess).set R.BOOT_STATUS_STATE 0), by decide +kernel⟩
theorem witness_HostAnswers_2 : ∃ (i : Fin 12) (seq : BitVec 8) (args : List (BitVec 36)) (s : State), HostListens s 1 ∧ inRecovery s = true ∧ hostOpOf i ∉ recoverySubset :=
  ⟨8, 7, [], ((wSess).set R.BOOT_STATUS_STATE 8), by decide +kernel, by decide +kernel, by decide +kernel⟩
theorem witness_HostAnswers_3 : ∃ (i : Fin 12) (seq : BitVec 8) (args : List (BitVec 36)) (s : State), HostListens s 1 ∧ (inRecovery s = true → hostOpOf i ∈ recoverySubset)
      ∧ s.get R.HST_SESSION_OPEN = 0 ∧ hostOpOf i ∉ [0x01, 0x02, 0x13] :=
  ⟨8, 7, [], wUp, by decide +kernel, by decide +kernel, by decide +kernel, by decide +kernel⟩
theorem witness_HostAnswers_4 : ∃ (i : Fin 12) (seq : BitVec 8) (args : List (BitVec 36)) (s : State), HostListens s 1 ∧ (inRecovery s = true → hostOpOf i ∈ recoverySubset)
      ∧ s.get R.HST_SESSION_OPEN ≠ 0 ∧ hostSince (hostOpOf i) ≠ 0 ∧ s.get R.HST_SESSION_MINOR < hostSince (hostOpOf i) :=
  ⟨8, 7, [], ((wSess).set R.HST_SESSION_MINOR 1), by decide +kernel, by decide +kernel, by decide +kernel, by decide +kernel, by decide +kernel⟩
theorem witness_HostAnswers_5 : ∃ (i : Fin 12) (seq : BitVec 8) (args : List (BitVec 36)) (s : State), (hostOpOf i) ∈ classA ∧ HostListens s 2 ∧ HostServes s (hostOpOf i) ∧
      ¬ HostFree s :=
  ⟨3, 255, [], { wSess with hostA := some ⟨2, 3, []⟩ }, by decide +kernel, by decide +kernel, by decide +kernel, by decide +kernel⟩
theorem witness_HostAnswers_6 : ∃ (i : Fin 12) (seq : BitVec 8) (args : List (BitVec 36)) (s : State), HostListens s 1 ∧ HostServes s (hostOpOf i) ∧ ((hostOpOf i) ∈ classA →
      HostFree s) ∧ (args.length ≠ hostNarg (hostOpOf i) ∨ ((hostOpOf i) ∈ [0x03, 0x04] ∧ 1 < (args.getD 0 0).toNat) ∨ ((hostOpOf i) = 0x11 ∧ 2 ^
      28 ≤ (args.getD 1 0).toNat) ∨ ((hostOpOf i) = 0x15 ∧ (2 ^ 30 ≤ (args.getD 0 0).toNat ∨ pntArgsOk (args.getD 0 0).toNat (args.getD 1
      0).toNat = false ∨ 1000000 < (args.getD 1 0).toNat))) :=
  ⟨11, 255, [0], wSess, by decide +kernel, by decide +kernel, by decide +kernel, by decide +kernel⟩
theorem witness_HostAnswers_7 : ∃ (seq : BitVec 8) (a b : BitVec 36) (s : State), HostListens s 1 ∧ HostServes s 0x15 ∧ a.toNat < 2 ^ 30 ∧ pntArgsOk a.toNat b.toNat = true ∧
      b.toNat ≤ 1000000 ∧ pntSecure s a.toNat = true :=
  ⟨255, 0x1001003, 5, ((wSess).set R.SEC_WORLD_SECURE 1 131), by decide +kernel, by decide +kernel, by decide +kernel, by decide +kernel, by decide +kernel, by decide +kernel⟩
theorem witness_HostAnswers_8 : ∃ (seq : BitVec 8) (a : BitVec 36) (s : State) (major minor : Nat), HostListens s 2 ∧ HostFree s ∧ major = s.get R.GLB_IFVER_HOST_MAJOR ∧
      minor = s.get R.GLB_IFVER_HOST_MINOR ∧ bits a.toNat 11 8 ≤ major ∧ major ≤ bits a.toNat 7 4 :=
  ⟨255, 0x1A3, wUp, 1, 4, by decide +kernel, by decide +kernel, by decide +kernel, by decide +kernel, by decide +kernel, by decide +kernel⟩
theorem witness_HostAnswers_9 : ∃ (seq : BitVec 8) (a : BitVec 36) (s : State) (major minor : Nat), HostListens s 2 ∧ HostFree s ∧ major = s.get R.GLB_IFVER_HOST_MAJOR ∧
      minor = s.get R.GLB_IFVER_HOST_MINOR ∧ (major < bits a.toNat 11 8 ∨ bits a.toNat 7 4 < major) :=
  ⟨255, 0x2A3, wUp, 1, 4, by decide +kernel, by decide +kernel, by decide +kernel, by decide +kernel, by decide +kernel⟩
theorem witness_HostAnswers_10 : ∃ (seq : BitVec 8) (s : State), HostListens s 4 ∧ HostServes s 2 ∧ HostFree s :=
  ⟨255, { (wSess).set R.GLB_PLN_LOAD_AGE 7 with hostBQ := [⟨1, 2, []⟩], hostB := some ⟨4, 9, []⟩ }, by decide +kernel, by decide +kernel, by decide +kernel⟩
theorem witness_HostAnswers_11 : ∃ (seq : BitVec 8) (s : State), HostListens s 8 ∧ HostServes s 5 ∧ HostFree s :=
  ⟨255, wSess, by decide +kernel, by decide +kernel, by decide +kernel⟩
theorem witness_HostAnswers_12 : ∃ (i : Fin 12) (seq : BitVec 8) (args : List (BitVec 36)) (s : State), (hostOpOf i) ∉ classA ∧ HostListens s 1 ∧ HostServes s (hostOpOf i) ∧
      argsBad s (hostOpOf i) (args.map (·.toNat)) = none ∧ 16 ≤ s.hostBQ.length :=
  ⟨8, 255, [], { wSess with hostBQ := List.replicate 16 ⟨1, 2, []⟩ }, by decide +kernel, by decide +kernel, by decide +kernel, by decide +kernel, by decide +kernel⟩
theorem witness_HostAnswers_13 : ∃ (i : Fin 12) (seq : BitVec 8) (args : List (BitVec 36)) (s : State), (hostOpOf i) ∉ classA ∧ HostListens s 1 ∧ HostServes s (hostOpOf i) ∧
      argsBad s (hostOpOf i) (args.map (·.toNat)) = none ∧ s.hostBQ.length < 16 ∧ (¬ HostIdle s ∨ ((hostOpOf i) = 0x15 ∧ s.pnt.run ≠ none)) :=
  ⟨8, 255, [], { wSess with hostBQ := List.replicate 15 ⟨1, 2, []⟩ }, by decide +kernel, by decide +kernel, by decide +kernel, by decide +kernel, by decide +kernel, by decide +kernel⟩
theorem witness_HostAnswers_14 : ∃ s : State, (hostUp s = false ∨ s.get R.MBX_RXSTAT_DB 1 = 0) :=
  ⟨wSess, by decide +kernel⟩
def wFr (l : List Nat) : State := { (((wSess).set R.MBX_RXSTAT_DB 1 1).set R.MBX_TXSTAT_DB_PEND 1 0).set R.MBX_RXSTAT_FILL l.length 1 with mbxQ := sset [] [] 1 (l.map fun w => ⟨w, 0x20, 3⟩), mbxRing := sset 0 [] 0 5 }
theorem witness_HostAnswers_15 : ∃ s : State, HostListens s 1 ∧ s.get R.MBX_RXSTAT_DB 1 ≠ 0 ∧ (s.get R.MBX_RXSTAT_COLLIDE 1 ≠ 0 ∨ hostFrames 8 ((mbxIn s 1).map (·.word)) =
      none ∨ mbxIn s 1 = []) :=
  ⟨(wFr [0x0100020000]), by decide +kernel, by decide +kernel, by decide +kernel⟩
theorem witness_HostAnswers_16 : ∃ (seq : BitVec 8) (s : State), HostListens s 4 ∧ HostServes s 2 ∧ HostFree s ∧ s.get R.MBX_RXSTAT_DB 1 ≠ 0 ∧ s.get R.MBX_RXSTAT_COLLIDE 1 =
      0 ∧ (mbxIn s 1).map (·.word) = [hostWord 2 seq.toNat 0 0 0] :=
  ⟨9, (wFr [0x20900000]), by decide +kernel, by decide +kernel, by decide +kernel, by decide +kernel, by decide +kernel, by decide +kernel⟩
theorem witness_HostAnswers_17 : ∃ (age : BitVec 32) (fall : Bool) (s : State) (cur : Nat), hostUp s = true ∧ inRecovery s = false ∧ cur = s.get R.GLB_PLN_LOAD_LEVEL ∧ cur <
      4 :=
  ⟨600, true, wUp, 0, by decide +kernel, by decide +kernel, by decide +kernel, by decide +kernel⟩
theorem witness_HostAnswers_18 : ∃ (age : BitVec 32) (fall : Bool) (s : State), (hostUp s = false ∨ inRecovery s = true) :=
  ⟨600, true, (wUp.set R.BOOT_STATUS_STATE 8), by decide +kernel⟩
theorem witness_HostWork_1 : ∃ (seq : BitVec 8) (a : BitVec 36) (s : State), a.toNat < 2 ∧ HostListens s 1 ∧ HostServes s 3 ∧ HostFree s ∧ s.get R.PWR_STATE_BUSY = 0 ∧
      s.get R.BOOT_STATUS_STATE ≠ 0 ∧ s.get R.PWR_STATE_STATE = (if a = 0 then 2 else 1) :=
  ⟨9, 0, wSess, by decide +kernel, by decide +kernel, by decide +kernel, by decide +kernel, by decide +kernel, by decide +kernel, by decide +kernel⟩
theorem witness_HostWork_2 : ∃ (seq : BitVec 8) (a : BitVec 36) (s : State), a.toNat < 2 ∧ HostListens s 1 ∧ HostServes s 3 ∧ HostFree s ∧ s.get R.PWR_STATE_BUSY = 0 ∧
      s.get R.BOOT_STATUS_STATE ≠ 0 ∧ s.get R.PWR_STATE_STATE = (if a = 0 then 1 else 2) ∧ (a ≠ 0 → runRefused s = 0 ∧ s.pnt.run = none) :=
  ⟨9, 0, (wSess wRun), by decide +kernel, by decide +kernel, by decide +kernel, by decide +kernel, by decide +kernel, by decide +kernel, by decide +kernel, by decide +kernel⟩
theorem witness_HostWork_3 : ∃ (seq : BitVec 8) (a : BitVec 36) (s : State) (code : Nat), a.toNat < 2 ∧ HostListens s 2 ∧ HostServes s 3 ∧ HostFree s ∧ (code = (if s.get
      R.PWR_STATE_BUSY ≠ 0 then 0x42 else if s.get R.BOOT_STATUS_STATE = 0 then 0x40 else if a ≠ 0 ∧ s.get R.PWR_STATE_STATE = 2 then runRefused
      s else if s.get R.PWR_STATE_STATE = 1 ∨ s.get R.PWR_STATE_STATE = 2 then 0 else 0x40)) ∧ code ≠ 0 :=
  ⟨9, 1, wSess, 0x41, by decide +kernel, by decide +kernel, by decide +kernel, by decide +kernel, by decide +kernel, by decide +kernel⟩
theorem witness_HostWork_4 : ∃ (seq : BitVec 8) (s : State), HostListens s 1 ∧ HostServes s 4 ∧ HostIdle s ∧ s.get R.PWR_STATE_BUSY = 0 ∧ s.get R.BOOT_STATUS_STATE ≠ 0 ∧
      (s.get R.PWR_STATE_STATE = 1 ∨ s.get R.PWR_STATE_STATE = 2) ∧ s.get R.BOOT_STATUS_OP = 0 ∧ s.pnt.run = none :=
  ⟨9, wSess, by decide +kernel, by decide +kernel, by decide +kernel, by decide +kernel, by decide +kernel, by decide +kernel, by decide +kernel, by decide +kernel⟩
theorem witness_HostWork_5 : ∃ (seq : BitVec 8) (a : BitVec 36) (s : State) (code : Nat), a.toNat < 2 ∧ HostListens s 3 ∧ HostServes s 4 ∧ HostIdle s ∧ (code = (if s.get
      R.PWR_STATE_BUSY ≠ 0 then 0x42 else if s.get R.BOOT_STATUS_STATE = 0 then 0x40 else if s.get R.PWR_STATE_STATE = 3 then 0 else if a ≠ 0 ∨
      (s.get R.PWR_STATE_STATE ≠ 1 ∧ s.get R.PWR_STATE_STATE ≠ 2) then 0x40 else if s.get R.BOOT_STATUS_OP ≠ 0 ∨ s.pnt.run ≠ none then 0x42 else
      0)) ∧ code ≠ 0 :=
  ⟨9, 1, wSess, 0x40, by decide +kernel, by decide +kernel, by decide +kernel, by decide +kernel, by decide +kernel, by decide +kernel⟩
theorem witness_HostWork_6 : ∃ (seq : BitVec 8) (s : State), HostListens s 2 ∧ HostServes s 4 ∧ HostIdle s ∧ s.get R.PWR_STATE_BUSY = 0 ∧ s.get R.BOOT_STATUS_STATE ≠ 0 ∧
      s.get R.PWR_STATE_STATE = 3 :=
  ⟨9, (((wSess).set R.PWR_STATE_STATE 3).set R.BOOT_STATUS_STATE 10), by decide +kernel, by decide +kernel, by decide +kernel, by decide +kernel, by decide +kernel, by decide +kernel⟩
theorem witness_HostWork_7 : ∃ (seq : BitVec 8) (a n : BitVec 36) (s : State), HostListens s 1 ∧ HostServes s 0x10 ∧ HostIdle s ∧ s.get R.BOOT_STATUS_OP = 0 :=
  ⟨9, 0x1000, 1, wSess, by decide +kernel, by decide +kernel, by decide +kernel, by decide +kernel⟩
theorem witness_HostWork_8 : ∃ (seq : BitVec 8) (a b : BitVec 36) (s : State), HostListens s 1 ∧ HostServes s 0x11 ∧ HostIdle s ∧ s.get R.BOOT_STATUS_OP = 0 ∧ b.toNat < 2
      ^ 28 :=
  ⟨9, 0xFFFFFFFFF, 0xFFFFFFF, wSess, by decide +kernel, by decide +kernel, by decide +kernel, by decide +kernel, by decide +kernel⟩
theorem witness_HostWork_9 : ∃ (seq : BitVec 8) (a b : BitVec 36) (s : State), HostListens s 3 ∧ HostServes s 0x10 ∧ HostIdle s ∧ s.get R.BOOT_STATUS_OP ≠ 0 :=
  ⟨9, 0x1000, 1, ((wSess).set R.BOOT_STATUS_OP 2), by decide +kernel, by decide +kernel, by decide +kernel, by decide +kernel⟩
theorem witness_HostWork_10 : ∃ (seq : BitVec 8) (s : State) (code : Nat), HostListens s 3 ∧ HostServes s 0x14 ∧ HostIdle s ∧ code = (if s.get R.BOOT_STATUS_OP ≠ 0 then
      0x20 else writeRefused s 2) :=
  ⟨9, wSess, 0, by decide +kernel, by decide +kernel, by decide +kernel, by decide +kernel⟩
theorem witness_HostWork_11 : ∃ (seq : BitVec 8) (a b : BitVec 36) (s : State), HostListens s 1 ∧ HostServes s 0x15 ∧ HostIdle s ∧ s.pnt.run = none ∧ inHold s = true ∧
      a.toNat < 2 ^ 30 ∧ b.toNat ≤ 1000000 ∧ pntArgsOk a.toNat b.toNat = true ∧ pntSecure s a.toNat = false :=
  ⟨9, 0x21002003, 77, (((wSess).set R.SEC_WORLD_SECURE 0 131).set R.SEC_WORLD_SECURE 0 132), by decide +kernel, by decide +kernel, by decide +kernel, by decide +kernel, by decide +kernel, by decide +kernel, by decide +kernel, by decide +kernel, by decide +kernel⟩
theorem witness_HostWork_12 : ∃ (seq : BitVec 8) (a b : BitVec 36) (s : State) (n : Nat), HostListens s 3 ∧ HostServes s 0x16 ∧ HostIdle s ∧ s.get R.MBX_CFG_END_A 0 = 0x20
      ∧ s.get R.MBX_CFG_END_B 0 = 1 ∧ n = b.toNat * 4096 :=
  ⟨9, 0x1001, 1, wSess, 4096, by decide +kernel, by decide +kernel, by decide +kernel, by decide +kernel, by decide +kernel, by decide +kernel⟩
theorem witness_HostWork_13 : ∃ (seq : BitVec 8) (s : State), hostUp s = true ∧ HostFree s :=
  ⟨9, wSess, by decide +kernel, by decide +kernel⟩
theorem witness_HostWork_14 : ∃ (c : HostCmd) (l : List HostCmd) (s : State), hostUp s = true ∧ s.hostBQ = c :: l ∧ s.hostB = none ∧ (inRecovery s = true ∨ s.get
      R.GLB_PLN_LOAD_LEVEL < 2) ∧ c.op = 0x11 ∧ s.get R.BOOT_STATUS_OP = 0 :=
  ⟨⟨0x11, 9, [5, 6]⟩, [⟨0x14, 1, []⟩], { wSess with hostBQ := [⟨0x11, 9, [5, 6]⟩, ⟨0x14, 1, []⟩] }, by decide +kernel, by decide +kernel, by decide +kernel, by decide +kernel, by decide +kernel, by decide +kernel⟩
theorem witness_HostWork_15 : ∃ s : State, (hostUp s = false ∨ s.hostBQ = [] ∨ s.hostB ≠ none ∨ (inRecovery s = false ∧ 2 ≤ s.get R.GLB_PLN_LOAD_LEVEL)) :=
  ⟨wSess, by decide +kernel⟩

/-! Witnesses: 17 -/

def wLn (l : Nat) (x : Lan) (s : State := wUp) : State := { s with lans := sset {} [] l x }
def wLst (l st : Nat) (x : Lan := {}) (s : State := wUp) : State := wLn l x (((s.set R.LAN_STATUS_STATE st l).set R.LAN_CTRL_ENABLE 1 l).set R.EVF_SRC_EN 1 (1056 + 4 * l))
def wLine (ctrl : Bool) (p : Nat) : BitVec 68 := BitVec.ofNat 68 ((lineBits ctrl p).zipIdx.foldl (fun v q => v + b2n q.1 * 2 ^ q.2) 0)
def wTr (status i c : Nat) : Nat := 2 ^ 56 + status * 2 ^ 55 + i * 2 ^ 52 + c
theorem witness_LaneTraining_1 : ∃ (m : Master) (l : Fin 24) (s : State), LaneWritable s m l ∧ s.get R.LAN_CTRL_ENABLE l = 0 ∧ s.get R.LAN_CTRL_MODE l % 4 ≠ 1 ∧ s.get
      R.LAN_STATUS_STATE l = 0 :=
  ⟨.s0, 3, (wLn 3 { toks := [1], txSum := [(1, 2)], bulk := [⟨0, 1, 2, 3, [], 4, 5⟩] } { (wUp.set R.LAN_CTRL_MODE 2 3).set R.EVF_SRC_EN 1 1070 with tick := 9, clock := 11 }), by decide +kernel, by decide +kernel, by decide +kernel, by decide +kernel⟩
theorem witness_LaneTraining_2 : ∃ (m : Master) (l : Fin 24) (s : State), LaneWritable s m l ∧ s.get R.LAN_CTRL_ENABLE l = 0 ∧ s.get R.LAN_CTRL_MODE l % 4 = 1 ∧ s.get
      R.LAN_STATUS_STATE l = 0 :=
  ⟨.s0, 3, (wLn 3 { toks := [1] } { wUp.set R.LAN_CTRL_MODE 1 3 with tick := 9, clock := 11 }), by decide +kernel, by decide +kernel, by decide +kernel, by decide +kernel⟩
theorem witness_LaneTraining_3 : ∃ (m : Master) (l : Fin 24) (s : State), LaneWritable s m l ∧ s.get R.LAN_CTRL_ENABLE l ≠ 0 :=
  ⟨.s0, 3, ((wLst 3 4 { toks := [1], pfc := some 3, enAt := 7 }).set R.LAN_STATUS_RES_EN 1 3), by decide +kernel, by decide +kernel⟩
theorem witness_LaneTraining_4 : ∃ (m : Master) (l : Fin 24) (s : State) (on : Bool), LaneWritable s m l ∧ (s.get R.LAN_CTRL_ENABLE l ≠ 0 ↔ on = true) ∧ (on = true → (s.get
      R.LAN_CTRL_MODE l % 4 = 1 ↔ s.get R.LAN_STATUS_STATE l = 5)) :=
  ⟨.s0, 3, (wLst 3 4), true, by decide +kernel, by decide +kernel, by decide +kernel⟩
theorem witness_LaneTraining_5 : ∃ (m : Master) (l : Fin 24) (s : State), LaneWritable s m l ∧ s.get R.LAN_CTRL_ENABLE l = 1 ∧ s.get R.LAN_CTRL_MODE l % 4 ≠ 1 ∧ 1 ≤ s.get
      R.LAN_STATUS_STATE l ∧ s.get R.LAN_STATUS_STATE l ≤ 4 :=
  ⟨.s0, 3, ((wLst 3 4 { toks := [1], pfc := some 3, enAt := 5, txSum := [(1, 2)] }).set R.LAN_STATUS_RES_EN 1 3), by decide +kernel, by decide +kernel, by decide +kernel, by decide +kernel, by decide +kernel⟩
theorem witness_LaneTraining_6 : ∃ (m : Master) (l : Fin 24) (s : State), LaneWritable s m l ∧ s.get R.LAN_CTRL_ENABLE l = 0 :=
  ⟨.s0, 3, wUp, by decide +kernel, by decide +kernel⟩
theorem witness_LaneTraining_7 : ∃ (m : Master) (l : Fin 24) (s : State), LaneWritable s m l ∧ s.get R.LAN_CTRL_ENABLE l = 1 ∧ s.get R.LAN_STATUS_STATE l ≠ 5 :=
  ⟨.s0, 3, (wLst 3 4 { toks := [1], pfc := some 3, enAt := 5 }), by decide +kernel, by decide +kernel, by decide +kernel⟩
theorem witness_LaneTraining_25 : ∃ (l : Fin 24) (line : BitVec 68) (s : State) (p st c : Nat) (b key : List Nat), LaneSees s l line [2] (some (true, p)) ∧ TrainIs p st 7 c ∧
      b = (lan s l).cur ∧ b.length = 7 ∧ key = [b.getD 2 0, b.getD 3 0, b.getD 4 0] :=
  ⟨3, (wLine true (wTr 0 7 0)), (wLst 3 2 { cur := [0xFF13 * 2 ^ 32 + 9, 2 ^ 32 + 50, 0x1234, 7 + 48 * 2 ^ 16, 0x123 + 5 * 2 ^ 12, 1, 0], pfc := some 8, ack := true, ackSent := true }), (wTr 0 7 0), 0, 0, [0xFF13 * 2 ^ 32 + 9, 2 ^ 32 + 50, 0x1234, 7 + 48 * 2 ^ 16, 0x123 + 5 * 2 ^ 12, 1, 0], [0x1234, 7 + 48 * 2 ^ 16, 0x123 + 5 * 2 ^ 12], by decide +kernel, by decide +kernel, by decide +kernel, by decide +kernel, by decide +kernel⟩
theorem witness_LaneTraining_8 : ∃ (m : Master) (l : Fin 24) (mode : Fin 4) (s : State), LaneWritable s m l ∧ s.get R.LAN_CTRL_ENABLE l = 1 ∧ s.get R.LAN_STATUS_STATE l = 5 ∧
      mode ≠ 1 :=
  ⟨.s0, 3, 2, (wLst 3 5 { toks := [1], prbs := [true], enAt := 7 }), by decide +kernel, by decide +kernel, by decide +kernel, by decide +kernel⟩
theorem witness_LaneTraining_9 : ∃ (m : Master) (l : Fin 24) (mode : Fin 4) (s : State), LaneWritable s m l ∧ (s.get R.LAN_CTRL_ENABLE l = 0 ∨ (s.get R.LAN_CTRL_ENABLE l = 1
      ∧ (mode = 1 ↔ s.get R.LAN_STATUS_STATE l = 5))) :=
  ⟨.s0, 3, 2, (wLst 3 4), by decide +kernel, by decide +kernel⟩
theorem witness_LaneTraining_10 : ∃ (l : Fin 24) (s : State), s.get R.LAN_STATUS_STATE l = 1 :=
  ⟨3, (wLst 3 1), by decide +kernel⟩
theorem witness_LaneTraining_11 : ∃ (l : Fin 24) (s : State), s.get R.LAN_STATUS_STATE l ≠ 1 :=
  ⟨3, (wLst 3 2), by decide +kernel⟩
theorem witness_LaneTraining_12 : ∃ (l : Fin 24) (s : State), 1 ≤ s.get R.LAN_STATUS_STATE l ∧ s.get R.LAN_STATUS_STATE l ≤ 3 ∧ (lan s l).wasUp = false ∧ (lan s l).huntAt +
      40000000 ≤ s.clock :=
  ⟨3, { (wLst 3 3 { huntAt := 5 }) with clock := 40000005 }, by decide +kernel, by decide +kernel, by decide +kernel, by decide +kernel⟩
theorem witness_LaneTraining_13 : ∃ (l : Fin 24) (s : State), (s.get R.LAN_STATUS_STATE l = 0 ∨ 4 ≤ s.get R.LAN_STATUS_STATE l ∨ (lan s l).wasUp = true ∨ s.clock < (lan s
      l).huntAt + 40000000) :=
  ⟨3, { (wLst 3 3 { huntAt := 5 }) with clock := 40000004 }, by decide +kernel⟩
theorem witness_LaneTraining_14 : ∃ (l : Fin 24) (s : State), mainPowered s = false :=
  ⟨3, State.reset, by decide +kernel⟩
theorem witness_LaneTraining_15 : ∃ (l : Fin 24) (s : State), mainPowered s = true ∧ s.get R.LAN_STATUS_STATE l = 0 :=
  ⟨3, (wLn 3 { line := [true] }), by decide +kernel, by decide +kernel⟩
theorem witness_LaneTraining_16 : ∃ (l : Fin 24) (s : State), mainPowered s = true ∧ 1 ≤ s.get R.LAN_STATUS_STATE l ∧ s.get R.LAN_STATUS_STATE l ≤ 3 ∧ bits (trainFrame s l
      (lan s l).idx false) 63 56 = 1 :=
  ⟨3, { (wLst 3 2 { idx := 5, ack := true, enAt := 5 }) with tick := 77 }, by decide +kernel, by decide +kernel, by decide +kernel, by decide +kernel⟩
theorem witness_LaneTraining_17 : ∃ (l : Fin 24) (s : State) (prior : List Bool), mainPowered s = true ∧ s.get R.LAN_STATUS_STATE l = 5 ∧ prior = (if (lan s l).line = [] then
      List.replicate 31 false else (lan s l).line.reverse) :=
  ⟨3, (wLst 3 5), (List.replicate 31 false), by decide +kernel, by decide +kernel, by decide +kernel⟩
theorem witness_LaneTraining_19 : ∃ (l : Fin 24) (line : BitVec 68) (s : State), s.get R.LAN_CTRL_MODE l ≠ 2 ∧ s.get R.LAN_STATUS_STATE l ∈ [0, 1, 5] :=
  ⟨3, 5, (wLst 3 1), by decide +kernel, by decide +kernel⟩
theorem witness_LaneTraining_20 : ∃ (l : Fin 24) (line : BitVec 68) (s : State), s.get R.LAN_CTRL_MODE l ≠ 2 ∧ s.get R.LAN_STATUS_STATE l ∈ [2, 3, 4] ∧ s.get R.LAN_STATUS_LOCK
      l ≠ 0 ∧ 16 ≤ ((rxHeaders s l line).filter (!·)).length :=
  ⟨3, 0, ((wLst 3 4 { hdrs := List.replicate 15 false ++ List.replicate 49 true }).set R.LAN_STATUS_LOCK 1 3), by decide +kernel, by decide +kernel, by decide +kernel, by decide +kernel⟩
theorem witness_LaneTraining_21 : ∃ (l : Fin 24) (line : BitVec 68) (s : State), LaneSees s l line [2, 3, 4] none :=
  ⟨3, 0, ((wLst 3 4 { hdrs := List.replicate 14 false ++ List.replicate 49 true }).set R.LAN_STATUS_LOCK 1 3), by decide +kernel⟩
theorem witness_LaneTraining_22 : ∃ (l : Fin 24) (line : BitVec 68) (s : State) (p st c : Nat), LaneSees s l line [2, 3, 4] (some (true, p)) ∧ TrainIs p st 0 c :=
  ⟨3, (wLine true (wTr 0 0 (0xFF13 * 2 ^ 32 + 77))), (wLst 3 2), (wTr 0 0 (0xFF13 * 2 ^ 32 + 77)), 0, (0xFF13 * 2 ^ 32 + 77), by decide +kernel, by decide +kernel⟩
theorem witness_LaneTraining_23 : ∃ (l : Fin 24) (line : BitVec 68) (s : State) (p st i c : Nat), LaneSees s l line [2, 3, 4] (some (true, p)) ∧ TrainIs p st i c ∧ 0 < i ∧ i <
      7 ∧ (lan s l).cur.length = i ∧ (i = 1 → s.get R.LAN_STATUS_STATE l ≠ 3) :=
  ⟨3, (wLine true (wTr 0 1 77)), { (wLst 3 2 { cur := [5], pfc := some 8 }) with now := 100 }, (wTr 0 1 77), 0, 1, 77, by decide +kernel, by decide +kernel, by decide +kernel, by decide +kernel, by decide +kernel, by decide +kernel⟩
theorem witness_LaneTraining_24 : ∃ (l : Fin 24) (line : BitVec 68) (s : State) (p st i c : Nat), LaneSees s l line [2, 3, 4] (some (true, p)) ∧ TrainIs p st i c ∧ 0 < i ∧
      (lan s l).cur.length ≠ i :=
  ⟨3, (wLine true (wTr 0 2 77)), (wLst 3 2 { cur := [5], pfc := some 8 }), (wTr 0 2 77), 0, 2, 77, by decide +kernel, by decide +kernel, by decide +kernel, by decide +kernel⟩
def wBlk (f : Nat) : List Nat := [f * 2 ^ 32 + 9, 2 ^ 32 + 50, 0x1234, 7 + 48 * 2 ^ 16, 0x123 + 5 * 2 ^ 12, 1, 0]
def wMs (x : Lan) : State := { (((((wLst 3 3 x).set R.LAN_PARTNER_TAG_TAG 0x1234 3).set R.LAN_PARTNER_GEN_GEN 7 3).set R.LAN_PARTNER_GEN_L 48 3).set R.LAN_PARTNER_POS_TIME_VALID 1 3).set R.CLK_STATUS_TIME_VALID 1 with now := 100, systemTag := 0x1234, boot := { gen := 7 }, lanLen := sset 0 [] 3 48 }
theorem witness_LaneTraining_26 : ∃ (l : Fin 24) (line : BitVec 68) (s : State) (p st c : Nat), LaneSees s l line [3] (some (true, p)) ∧ TrainIs p st 1 c ∧ (lan s
      l).cur.length = 1 :=
  ⟨3, (wLine true (wTr 0 1 55)), (wMs { cur := [5], pfc := some 8, as_ := List.replicate 15 45 }), (wTr 0 1 55), 0, 55, by decide +kernel, by decide +kernel, by decide +kernel⟩
theorem witness_LaneTraining_28 : ∃ (l : Fin 24) (rx : List Bool) (s : State), s.get R.LAN_STATUS_STATE l ≠ 5 :=
  ⟨3, [true], wUp, by decide +kernel⟩
theorem witness_LaneTraining_29 : ∃ (l : Fin 24) (b : Bool) (rx : List Bool) (s : State), s.get R.LAN_STATUS_STATE l = 5 :=
  ⟨3, true, [true, false], (wLst 3 5 { prbs := List.replicate 30 true }), by decide +kernel⟩
theorem witness_LaneTraining_30 : ∃ (l : Fin 24) (b : Bool) (s : State), s.get R.LAN_STATUS_STATE l = 5 ∧ s.get R.LAN_STATUS_PRBS_SYNC l = 0 :=
  ⟨3, true, (wLst 3 5 { prbs := List.replicate 30 true }), by decide +kernel, by decide +kernel⟩
theorem witness_LaneTraining_31 : ∃ (l : Fin 24) (b err : Bool) (s : State) (w : List Bool), s.get R.LAN_STATUS_STATE l = 5 ∧ s.get R.LAN_STATUS_PRBS_SYNC l ≠ 0 ∧ err = (b !=
      prbsNext (lan s l).prbs) ∧ w = (err :: (lan s l).prbsErr).take 256 :=
  ⟨3, true, true, ((wLst 3 5 { prbs := List.replicate 27 true ++ [true, true, true, false] , prbsBits := 2 ^ 64 - 1 }).set R.LAN_STATUS_PRBS_SYNC 1 3), [true], by decide +kernel, by decide +kernel, by decide +kernel, by decide +kernel⟩

/-! Witnesses: 18 -/

def wTx (e : Nat) (x : Lan := {}) (s : State := wUp) : State := { (wLst 3 4 x s).set R.LAN_STATUS_RES_EN 1 3 with lanLen := sset 0 [] 3 48, now := 48 * 10 + 5, tick := 1000, lanTx := sset 0 [] (3 * 4096 + 5) (2 ^ 31 + e) }
theorem witness_LaneTraffic_2 : ∃ (l : Fin 24) (s : State) (e : Nat), mainPowered s = true ∧ s.get R.LAN_STATUS_STATE l = 4 ∧ lanTxEntry s l = some e ∧ ¬ TimeSettled s :=
  ⟨3, { wTx 0 with timeLoadedAt := 900 }, (2 ^ 31), by decide +kernel, by decide +kernel, by decide +kernel, by decide +kernel⟩
theorem witness_LaneTraffic_3 : ∃ (l : Fin 24) (s : State) (e n : Nat), LaneReserved s l e ∧ TimeSettled s ∧ bits e 30 28 = 0 ∧ (n = ((List.range 64).filter fun i => !sget
      false s.decPub (64 * bits e 4 0 + i) && (decDeclared s (64 * bits e 4 0 + i)).isSome).length) :=
  ⟨3, { wTx 2 with decVal := sset false [] 133 true, decPub := sset false (sset false [] 133 true) 131 true, decDecl := sset 0 (sset 0 (sset 0 [] 130 5) 133 5) 140 3 }, (2 ^ 31 + 2), 2, by decide +kernel, by decide +kernel, by decide +kernel, by decide +kernel⟩
theorem witness_LaneTraffic_4 : ∃ (l : Fin 24) (s : State) (e : Nat), LaneReserved s l e ∧ TimeSettled s ∧ bits e 30 28 = 1 :=
  ⟨3, ((wTx (2 ^ 28) {} ((wUp.set R.GLB_BAR_LOCAL 1 4).set R.GLB_BAR_LOCAL 1 0)).set R.LAN_STATUS_REV_MAJOR 2 3), (2 ^ 31 + 2 ^ 28), by decide +kernel, by decide +kernel, by decide +kernel⟩
theorem witness_LaneTraffic_5 : ∃ (l : Fin 24) (s : State) (e : Nat), LaneReserved s l e ∧ TimeSettled s ∧ 2 ≤ bits e 30 28 :=
  ⟨3, ((wTx (2 * 2 ^ 28) { fwd := some (1000, some 77) }).set R.LAN_STATUS_REV_MAJOR 2 3), (2 ^ 31 + 2 * 2 ^ 28), by decide +kernel, by decide +kernel, by decide +kernel⟩
theorem witness_LaneTraffic_6 : ∃ (l : Fin 24) (s : State) (g : Gap) (k : Nat), BulkPosition s l ∧ revAtLeast s l 2 1 = true ∧ inGap s 3 l = some k ∧ s.gaps[k]? = some g :=
  ⟨3, { (((wLst 3 4).set R.LAN_STATUS_REV_MAJOR 2 3).set R.LAN_STATUS_REV_MINOR 1 3).set R.GLB_SCHED_STATUS_STATE 2 with tick := 50, gaps := [⟨20, 100, 3, 0, 0, 24⟩], shotStart := 10 }, ⟨20, 100, 3, 0, 0, 24⟩, 0, by decide +kernel, by decide +kernel, by decide +kernel, by decide +kernel⟩
theorem witness_LaneTraffic_7 : ∃ (l : Fin 24) (s : State), LaneBulk s l ∧ s.tick < (lan s l).gapTo :=
  ⟨3, { wLst 3 4 { gapTo := 5, ctl := [(true, 3)] } with tick := 4 }, by decide +kernel, by decide +kernel⟩
theorem witness_LaneTraffic_8 : ∃ (l : Fin 24) (s : State) (b : Bool) (x : Nat) (rest : List (Bool × Nat)), LaneBulk s l ∧ (lan s l).gapTo ≤ s.tick ∧ (lan s l).ctl.filter
      (ctlInTime s l) = (b, x) :: rest :=
  ⟨3, { wLst 3 4 { gapTo := 4, ctl := [(false, 7 * 2 ^ 56 + 55 * 2 ^ 32), (true, 3), (true, 4)] } with tick := 4 }, true, 3, [(true, 4)], by decide +kernel, by decide +kernel, by decide +kernel⟩
theorem witness_LaneTraffic_9 : ∃ (l : Fin 24) (s : State), LaneBulk s l ∧ (lan s l).gapTo ≤ s.tick ∧ (lan s l).ctl.filter (ctlInTime s l) = [] :=
  ⟨3, (wLst 3 4), by decide +kernel, by decide +kernel, by decide +kernel⟩
theorem witness_LaneTraffic_10 : ∃ (l : Fin 24) (s : State), s.get R.LAN_STATUS_STATE l = 4 ∧ (lan s l).ctl.any (·.1) = false :=
  ⟨3, (wLst 3 4 { ctl := [(false, 5)] }), by decide +kernel, by decide +kernel⟩
theorem witness_LaneTraffic_11 : ∃ (l : Fin 24) (s : State), (s.get R.LAN_STATUS_STATE l ≠ 4 ∨ (lan s l).ctl.any (·.1) = true) :=
  ⟨3, (wLst 3 4 { ctl := [(true, 5)] }), by decide +kernel⟩
theorem witness_LaneTraffic_12 : ∃ (l : Fin 24) (s : State) (p : Nat × Nat), s.get R.LAN_STATUS_STATE l = 4 ∧ revAtLeast s l 2 1 = true ∧ (((lan s l).txSum.find? fun p => p.1
      + 1 == lanFc s l / 4096) = some p) :=
  ⟨3, { ((wLst 3 4 { txSum := [(7, 55), (8, 66)], enAt := 10 }).set R.LAN_STATUS_REV_MAJOR 2 3).set R.LAN_STATUS_REV_MINOR 1 3 with tick := 8 * 4096 + 10 }, (7, 55), by decide +kernel, by decide +kernel, by decide +kernel⟩
theorem witness_LaneTraffic_13 : ∃ (l : Fin 24) (s : State), (s.get R.LAN_STATUS_STATE l ≠ 4 ∨ revAtLeast s l 2 1 = false ∨ ((lan s l).txSum.find? fun p => p.1 + 1 == lanFc s
      l / 4096) = none) :=
  ⟨3, { (wLst 3 4 { txSum := [(7, 55)], enAt := 10 }).set R.LAN_STATUS_REV_MAJOR 2 3 with tick := 8 * 4096 + 10 }, by decide +kernel⟩
theorem witness_LaneTraffic_14 : ∃ (l : Fin 24) (s : State), s.get R.LAN_STATUS_STATE l = 4 ∧ (16 ≤ (lan s l).owe0 ∨ 16 ≤ (lan s l).owe1 ∨ (0 < (lan s l).owe0 + (lan s
      l).owe1 ∧ (lan s l).oweAt + 256 ≤ s.tick)) :=
  ⟨3, (wLst 3 4 { owe0 := 300, owe1 := 4 }), by decide +kernel, by decide +kernel⟩
theorem witness_LaneTraffic_15 : ∃ (l : Fin 24) (s : State), (s.get R.LAN_STATUS_STATE l ≠ 4 ∨ ((lan s l).owe0 < 16 ∧ (lan s l).owe1 < 16 ∧ ((lan s l).owe0 + (lan s l).owe1 =
      0 ∨ s.tick < (lan s l).oweAt + 256))) :=
  ⟨3, { wLst 3 4 { owe1 := 4, oweAt := 10 } with tick := 265 }, by decide +kernel⟩
def wSt (x : Lan) : State := { ((((wLst 3 4 x).set R.CLK_STATUS_TIME_VALID 1).set R.LAN_LATENCY_A 45 3).set R.LAN_STATUS_RES_EN 1 3) with now := 100, systemTag := 0x1234, boot := { gen := 7 }, lanLen := sset 0 [] 3 48 }
theorem witness_LaneTraffic_16 : ∃ (l : Fin 24) (line : BitVec 68) (s : State) (p c : Nat) (b : List Nat), LaneSees s l line [4] (some (true, p)) ∧ TrainIs p 1 7 c ∧ b = (lan
      s l).cur ∧ b.length = 7 :=
  ⟨3, (wLine true (wTr 1 7 0)), (wSt { cur := wBlk 0xFF13, pfc := some 8, aAt := 45 }), (wTr 1 7 0), 0, (wBlk 0xFF13), by decide +kernel, by decide +kernel, by decide +kernel, by decide +kernel⟩
def wRx (e : Nat) (x : Lan := {}) : State := { wSt x with now := 48 * 10 + 50, lanRx := sset 0 [] (3 * 4096 + 5) (2 ^ 31 + e) }
theorem witness_LaneTraffic_17 : ∃ (l : Fin 24) (line : BitVec 68) (s : State) (f : Bool × Nat) (c e x : Nat), LaneSees s l line [4] (some f) ∧ (f.1 = true → bits f.2 63 56 ≠
      1) ∧ (lan s l).pfc = some c ∧ x = lanX (lan s l) c ∧ lanExpect s l x = some e :=
  ⟨3, (wLine false 77), (wRx 2 { pfc := some 400, stOff := 85 }), (false, 77), 400, (2 ^ 31 + 2), 485, by decide +kernel, by decide +kernel, by decide +kernel, by decide +kernel, by decide +kernel⟩
theorem witness_LaneTraffic_18 : ∃ (l : Fin 24) (line : BitVec 68) (s : State) (p c : Nat), BulkSees s l line false p c :=
  ⟨3, (wLine false 77), (wLst 3 4 { pfc := some 400, rx := some (5, [6]) }), 77, 400, by decide +kernel⟩
def wSc (p : Nat) : Nat := scramble p 400
def wRv (s : State) : State := (s.set R.LAN_STATUS_REV_MAJOR 2 3).set R.LAN_STATUS_REV_MINOR 1 3
theorem witness_LaneTraffic_19 : ∃ (l : Fin 24) (line : BitVec 68) (s : State) (p c w : Nat), BulkSees s l line true p c ∧ w = scramble p c :=
  ⟨3, (wLine true (wSc (2 * 2 ^ 56 + 5))), (wLst 3 4 { pfc := some 400, rx := some (5, [6]) }), (wSc (2 * 2 ^ 56 + 5)), 400, (2 * 2 ^ 56 + 5), by decide +kernel, by decide +kernel⟩
def wRl (x : Lan) : State := { wSt x with now := 48 * 10 + 57, lanRx := sset 0 [] (3 * 4096 + 5) (2 ^ 31 + 2) }
theorem witness_LaneTraffic_20 : ∃ (l : Fin 24) (s : State) (x k : Nat), s.get R.LAN_STATUS_STATE l = 4 ∧ x = (s.now + 2 ^ 32 - 52) % 2 ^ 32 ∧ (lanExpect s l x).isSome = true
      ∧ (k = (if s.get R.LAN_STATUS_RES_EN l = 0 ∨ ((lan s l).rel.find? fun r => r.1 == x) = some (x, none) then 1 else if ((lan s l).rel.find?
      fun r => r.1 == x) = none then 2 else 0)) :=
  ⟨3, (wRl { rel := [(480, none), (485, some 77)] }), 485, 0, by decide +kernel, by decide +kernel, by decide +kernel, by decide +kernel⟩
theorem witness_LaneTraffic_21 : ∃ (l : Fin 24) (s : State), (s.get R.LAN_STATUS_STATE l ≠ 4 ∨ lanExpect s l ((s.now + 2 ^ 32 - 52) % 2 ^ 32) = none) :=
  ⟨3, (wRl { rel := [(480, none)] } |> fun s => { s with now := 540 }), by decide +kernel⟩
theorem witness_LaneTraffic_22 : ∃ (l : Fin 24) (s : State), (mainPowered s = false ∨ lanL s l = 0 ∨ lanRxEntry s l ((s.now + 2 ^ 64 - 56) % 2 ^ 64 % lanL s l) = none) :=
  ⟨3, (wSt {}), by decide +kernel⟩
def wPbLane (e : Nat) (x : Lan) : State := { (wSt x).set R.LAN_STATUS_REV_MAJOR 2 3 with now := 48 * 10 + 61, lanRx := sset 0 [] (3 * 4096 + 5) (2 ^ 31 + e), lanDef := sset 0 [] (3 * 4096 + 5) 0x123456789ABCDEF0 }
theorem witness_LaneTraffic_23 : ∃ (l : Fin 24) (s : State) (x e p : Nat), FrameDue s l x e ∧ s.get R.LAN_STATUS_STATE l = 4 ∧ bits e 30 28 = 0 ∧ (((lan s l).due.find? fun d
      => d.1 == x % 2 ^ 32) = some (x % 2 ^ 32, 0, p)) :=
  ⟨3, (wPbLane 2 { due := [(4, 1, 0), (485, 0, 0xF0F0F0F0F0F0F0F1)] }), 485, (2 ^ 31 + 2), 0xF0F0F0F0F0F0F0F1, by decide +kernel, by decide +kernel, by decide +kernel, by decide +kernel⟩
theorem witness_LaneTraffic_24 : ∃ (l : Fin 24) (s : State) (x e : Nat), FrameDue s l x e ∧ bits e 30 28 = 0 ∧ FrameLost s l x e :=
  ⟨3, (wPbLane 2 { due := [(4, 1, 0), (485, 1, 0)] }), 485, (2 ^ 31 + 2), by decide +kernel, by decide +kernel, by decide +kernel⟩
theorem witness_LaneTraffic_25 : ∃ (l : Fin 24) (s : State) (x e : Nat), FrameDue s l x e ∧ bits e 30 28 = 0 ∧ s.get R.LAN_STATUS_STATE l = 4 ∧ (((lan s l).due.find? fun d =>
      d.1 == x % 2 ^ 32) = some (x % 2 ^ 32, 2, 0)) :=
  ⟨3, (wPbLane 2 { due := [(4, 1, 0), (485, 2, 0)] }), 485, (2 ^ 31 + 2), by decide +kernel, by decide +kernel, by decide +kernel, by decide +kernel⟩
theorem witness_LaneTraffic_26 : ∃ (l : Fin 24) (s : State) (x e p : Nat), FrameDue s l x e ∧ s.get R.LAN_STATUS_STATE l = 4 ∧ 2 ≤ s.get R.LAN_STATUS_REV_MAJOR l ∧ bits e 30
      28 = 1 ∧ (((lan s l).due.find? fun d => d.1 == x % 2 ^ 32) = some (x % 2 ^ 32, 0, p)) :=
  ⟨3, ((wPbLane (2 ^ 28) { due := [(485, 0, 7)], toks := [1] }).set R.GLB_BAR_TOKENS 31 2), 485, (2 ^ 31 + 2 ^ 28), 7, by decide +kernel, by decide +kernel, by decide +kernel, by decide +kernel, by decide +kernel⟩
theorem witness_LaneTraffic_27 : ∃ (l : Fin 24) (s : State) (x e : Nat), FrameDue s l x e ∧ bits e 30 28 = 1 ∧ FrameLost s l x e :=
  ⟨3, { (((wPbLane (2 ^ 28) { due := [] }).set R.GLB_BAR_REMOTE 2 5).set R.CHS_STATUS_STATE 3 9) with chisels := sset {} [] 9 { wait := .bar 5 3 } }, 485, (2 ^ 31 + 2 ^ 28), by decide +kernel, by decide +kernel, by decide +kernel⟩
theorem witness_LaneTraffic_28 : ∃ (l : Fin 24) (s : State) (x e p : Nat), FrameDue s l x e ∧ s.get R.LAN_STATUS_STATE l = 4 ∧ 2 ≤ s.get R.LAN_STATUS_REV_MAJOR l ∧ bits e 30
      28 = 2 ∧ (((lan s l).due.find? fun d => d.1 == x % 2 ^ 32) = some (x % 2 ^ 32, 0, p)) :=
  ⟨3, (wPbLane (2 * 2 ^ 28 + 7 * 32) { due := [(485, 0, 7)] }), 485, (2 ^ 31 + 2 * 2 ^ 28 + 7 * 32), 7, by decide +kernel, by decide +kernel, by decide +kernel, by decide +kernel, by decide +kernel⟩
theorem witness_LaneTraffic_29 : ∃ (l : Fin 24) (s : State) (x e : Nat), FrameDue s l x e ∧ bits e 30 28 = 2 ∧ FrameLost s l x e :=
  ⟨3, (wPbLane (2 * 2 ^ 28 + 7 * 32) { due := [(485, 1, 0)] }), 485, (2 ^ 31 + 2 * 2 ^ 28 + 7 * 32), by decide +kernel, by decide +kernel, by decide +kernel⟩
theorem witness_LaneTraffic_30 : ∃ (l : Fin 24) (s : State) (x e : Nat), FrameDue s l x e ∧ s.get R.LAN_STATUS_STATE l = 4 ∧ s.get R.LAN_STATUS_REV_MAJOR l < 2 ∧ bits e 30 28
      ≠ 0 :=
  ⟨3, ((wPbLane (2 * 2 ^ 28 + 7 * 32) { due := [(485, 1, 0)] }).set R.LAN_STATUS_REV_MAJOR 1 3), 485, (2 ^ 31 + 2 * 2 ^ 28 + 7 * 32), by decide +kernel, by decide +kernel, by decide +kernel, by decide +kernel⟩
theorem witness_LaneTraffic_31 : ∃ (l : Fin 24) (s : State), (s.xtalFail = true ∨ (lan s l).pkts = []) :=
  ⟨3, wUp, by decide +kernel⟩
/-- The CRC register over `l`, with its value known after each payload. -/
def wCrc : List Nat → Nat → Nat
  | [], c => c
  | w :: l, 0 => wCrc l (crcWord 0 w)
  | w :: l, c + 1 => wCrc l (crcWord (c + 1) w)
theorem wCrc_eq (l : List Nat) (c : Nat) : wCrc l c = l.foldl crcWord c := by
  induction l generalizing c with
  | nil => rfl
  | cons w l ih => cases c <;> simp [wCrc, ih]
def wReadPkt (head : Nat) (data : List Nat) (tail : Nat) : Option Pkt :=
  if bits head 52 48 = pktLen (bits head 54 53) ∧ data.length = bits head 52 48 ∧ bits tail 31 0 = crcOut (wCrc (head :: data) crcInit) ∧
      bits head 35 0 % 128 = 0 then
    some ⟨bits head 55 55, bits head 54 53, bits head 47 36, bits head 35 0, data, bits tail 55 44, bits tail 43 32⟩
  else none
theorem wReadPkt_eq : readPkt = wReadPkt := by
  funext h d t
  simp only [wReadPkt, wCrc_eq]
  rfl
def wPk (p : Pkt) : Nat × List Nat × Nat :=
  (pktHead p, p.data, ctlFrame 3 (p.src % 2 ^ 12 * 2 ^ 44 + p.tag % 2 ^ 12 * 2 ^ 32 + crcOut (wCrc (pktHead p :: p.data) crcInit)))
def wTor (p : List (Nat × List Nat × Nat)) (l : Nat := 3) : State := ((((wLst l 4 { pkts := p }).set R.LAN_STATUS_STATE 4 5).set R.LAN_STATUS_STATE 4 0).set R.LAN_COORD_SX_M1 3).set R.LAN_COORD_POS 3
def wP0 : Pkt := ⟨0, 0, 3, 0x200080, (List.range 16).map (· * 3), 1, 0x123⟩
theorem witness_LaneTraffic_33 : ∃ (l : Fin 24) (s : State) (h tl : Nat) (d : List Nat), s.xtalFail = false ∧ (lan s l).pkts.head? = some (h, d, tl) ∧ readPkt h d tl = none :=
  ⟨3, (wTor [((wPk wP0).1, [5], 6)]), (wPk wP0).1, 6, [5], by decide +kernel, by decide +kernel, by decide +kernel⟩
theorem witness_LaneTraffic_34 : ∃ (l : Fin 24) (s : State) (p : Pkt) (rest : List (Nat × List Nat × Nat)) (dir o : Nat), s.xtalFail = false ∧ PacketIs s l p rest ∧ routeDir
      (s.get R.LAN_COORD_POS) p.dest (torus s) = some dir ∧ outLane s dir p.dest = some o :=
  ⟨3, (wTor [wPk { wP0 with dest := 1 }, (1, [], 2)]), { wP0 with dest := 1 }, [(1, [], 2)], 0, 3, by decide +kernel, ⟨by rw [wReadPkt_eq]; decide +kernel, by decide +kernel⟩, by decide +kernel, by decide +kernel⟩
theorem witness_LaneTraffic_35 : ∃ (l : Fin 24) (s : State) (p : Pkt) (rest : List (Nat × List Nat × Nat)) (dir o : Nat), s.xtalFail = false ∧ PacketIs s l p rest ∧ routeDir
      (s.get R.LAN_COORD_POS) p.dest (torus s) = none ∧ p.kind = 0 ∧ responses s < 256 ∧ Granted s (instSecure s (624 + l)) p.addr 128 ∧ routeDir
      (s.get R.LAN_COORD_POS) p.src (torus s) = some dir ∧ outLane s dir p.src = some o :=
  ⟨3, ((wTor [wPk wP0]).set R.SEC_WORLD_SECURE 1 627), wP0, [], 0, 3, by decide +kernel, ⟨by rw [wReadPkt_eq]; decide +kernel, by decide +kernel⟩, by decide +kernel, by decide +kernel, by decide +kernel, by decide +kernel, by decide +kernel, by decide +kernel⟩
theorem witness_LaneTraffic_36 : ∃ (l : Fin 24) (s : State) (p : Pkt) (rest : List (Nat × List Nat × Nat)) (dir o : Nat), s.xtalFail = false ∧ PacketIs s l p rest ∧ routeDir
      (s.get R.LAN_COORD_POS) p.dest (torus s) = none ∧ p.kind = 2 ∧ responses s < 256 ∧ Granted s (instSecure s (624 + l)) p.addr 128 ∧ routeDir
      (s.get R.LAN_COORD_POS) p.src (torus s) = some dir ∧ outLane s dir p.src = some o :=
  ⟨3, ((wTor [wPk { wP0 with kind := 2, data := [] }]).set R.SEC_WORLD_SECURE 1 627), { wP0 with kind := 2, data := [] }, [], 0, 3, by decide +kernel, ⟨by rw [wReadPkt_eq]; decide +kernel, by decide +kernel⟩, by decide +kernel, by decide +kernel, by decide +kernel, by decide +kernel, by decide +kernel, by decide +kernel⟩
theorem witness_LaneTraffic_37 : ∃ (l : Fin 24) (s : State) (p : Pkt) (rest : List (Nat × List Nat × Nat)), s.xtalFail = false ∧ PacketIs s l p rest ∧ routeDir (s.get
      R.LAN_COORD_POS) p.dest (torus s) = none ∧ (p.kind = 0 ∨ p.kind = 2) ∧ 256 ≤ responses s :=
  ⟨3, { wTor [wPk wP0] with lans := sset {} (wTor [wPk wP0]).lans 8 { bulk := List.replicate 256 ⟨0, 1, 0, 0, [], 3, 0⟩ } }, wP0, [], by decide +kernel, ⟨by rw [wReadPkt_eq]; decide +kernel, by decide +kernel⟩, by decide +kernel, by decide +kernel, by decide +kernel⟩
def wBq (c : BqCur) (s : State) : State := { (s.set R.LAN_BQ_RD_INDEX 1).set R.SEC_WORLD_SECURE 1 624 with bqCur := some c }
theorem witness_LaneTraffic_38 : ∃ (l : Fin 24) (s : State) (p : Pkt) (rest : List (Nat × List Nat × Nat)) (c : BqCur), s.xtalFail = false ∧ PacketIs s l p rest ∧ routeDir
      (s.get R.LAN_COORD_POS) p.dest (torus s) = none ∧ p.kind = 1 ∧ s.bqCur = some c ∧ p.tag / 256 % 8 = s.get R.LAN_BQ_RD_INDEX % 8 :=
  ⟨3, (wBq ⟨1, 1, 2, 0, 0, 0, 0⟩ (wTor [wPk { wP0 with kind := 1, data := [] }])), { wP0 with kind := 1, data := [] }, [], ⟨1, 1, 2, 0, 0, 0, 0⟩, by decide +kernel, ⟨by rw [wReadPkt_eq]; decide +kernel, by decide +kernel⟩, by decide +kernel, by decide +kernel, by decide +kernel, by decide +kernel⟩
theorem witness_LaneTraffic_39 : ∃ (l : Fin 24) (s : State) (p : Pkt) (rest : List (Nat × List Nat × Nat)) (c : BqCur), s.xtalFail = false ∧ PacketIs s l p rest ∧ routeDir
      (s.get R.LAN_COORD_POS) p.dest (torus s) = none ∧ p.kind = 3 ∧ s.bqCur = some c ∧ p.tag / 256 % 8 = s.get R.LAN_BQ_RD_INDEX % 8 ∧ bit p.tag
      11 = false ∧ Granted s (instSecure s 624) (c.local_ + (p.addr - c.remote)) 128 ∧ c.answered + 1 ≠ c.beats :=
  ⟨3, (wBq ⟨2, 1, 3, 0x1000, 0x200000, 0, 0⟩ (wTor [wPk { wP0 with kind := 3 }])), { wP0 with kind := 3 }, [], ⟨2, 1, 3, 0x1000, 0x200000, 0, 0⟩, by decide +kernel, ⟨by rw [wReadPkt_eq]; decide +kernel, by decide +kernel⟩, by decide +kernel, by decide +kernel, by decide +kernel, by decide +kernel, by decide +kernel, by decide +kernel, by decide +kernel⟩
theorem witness_LaneTraffic_40 : ∃ s : State, (s.xtalFail = true ∨ mainPowered s = false ∨ s.get R.LAN_BQ_SIZE_ENABLE = 0 ∨ s.get R.LAN_BQ_RD_INDEX = s.get R.LAN_BQ_WR_INDEX
      ∨ s.bqCur ≠ none) :=
  ⟨wUp, by decide +kernel⟩
def wDs (op dest beats loc rem : Nat) : State := hbmWrite ((((wTor []).set R.SEC_WORLD_SECURE 1 624).set R.LAN_BQ_SIZE_ENABLE 1).set R.LAN_BQ_WR_INDEX 1) 0 32 (op + dest * 2 ^ 16 + beats * 2 ^ 32 + loc * 2 ^ 64 + rem * 2 ^ 128)
def wDv (op dest beats loc rem : Nat) : Nat := op + dest * 2 ^ 16 + beats * 2 ^ 32 + loc * 2 ^ 64 + rem * 2 ^ 128
theorem witness_LaneTraffic_41 : ∃ (s : State) (v : Nat), Descriptor s v ∧ descriptorOk s v = false :=
  ⟨(wDs 3 1 2 128 256), (wDv 3 1 2 128 256), by decide +kernel, by decide +kernel⟩
theorem witness_LaneTraffic_42 : ∃ (s : State) (v : Nat), Descriptor s v ∧ descriptorOk s v = true ∧ hbmSize < bits v 127 64 + 128 * bits v 63 32 :=
  ⟨(wDs 1 1 2 47999999872 256), (wDv 1 1 2 47999999872 256), by decide +kernel, by decide +kernel, by decide +kernel⟩
theorem witness_LaneTraffic_43 : ∃ (s : State) (v : Nat), Descriptor s v ∧ descriptorOk s v = true ∧ bits v 127 64 ≤ hbmSize ∧ bits v 63 32 = 0 :=
  ⟨(wDs 2 1 0 128 256), (wDv 2 1 0 128 256), by decide +kernel, by decide +kernel, by decide +kernel, by decide +kernel⟩
theorem witness_LaneTraffic_44 : ∃ (s : State) (v dir o : Nat), Descriptor s v ∧ descriptorOk s v = true ∧ bits v 127 64 + 128 * bits v 63 32 ≤ hbmSize ∧ 0 < bits v 63 32 ∧
      (bits v 7 0 = 1 → Granted s (instSecure s 624) (bits v 127 64) (128 * bits v 63 32)) ∧ routeDir (s.get R.LAN_COORD_POS) (bits v 31 16)
      (torus s) = some dir ∧ outLane s dir (bits v 31 16) = some o :=
  ⟨(wDs 1 1 2 0 256), (wDv 1 1 2 0 256), 0, 3, by decide +kernel, by decide +kernel, by decide +kernel, by decide +kernel, by decide +kernel, by decide +kernel, by decide +kernel⟩
theorem witness_LaneTraffic_45 : ∃ (s : State) (c : BqCur), s.xtalFail = false ∧ s.bqCur = some c ∧ bqUnsent s = false ∧ c.sentAt + 400 * max (s.get
      R.LAN_BQ_TIMEOUT_MICROSECONDS) 10 ≤ s.clock :=
  ⟨(wBq ⟨1, 1, 1, 0, 0, 0, 5⟩ { wUp with clock := 400005 }), ⟨1, 1, 1, 0, 0, 0, 5⟩, by decide +kernel, by decide +kernel, by decide +kernel, by decide +kernel⟩
theorem witness_LaneTraffic_46 : ∃ s : State, (s.xtalFail = true ∨ s.bqCur = none ∨ bqUnsent s = true ∨ (∀ c ∈ s.bqCur, s.clock < c.sentAt + 400 * max (s.get
      R.LAN_BQ_TIMEOUT_MICROSECONDS) 10)) :=
  ⟨(wBq ⟨1, 1, 1, 0, 0, 0, 5⟩ { wUp with clock := 400004 }), by decide +kernel⟩
theorem witness_LaneTraffic_47 : ∃ (l : Fin 24) (line : BitVec 68) (s : State) (p c e : Nat), LaneSees s l line [4] (some (true, p)) ∧ (lan s l).pfc = some c ∧ lanExpect s l
      (lanX (lan s l) c) = some e ∧ s.get R.LAN_STATUS_RES_EN l ≠ 0 ∧ bits p 63 56 ≠ 1 ∧ bits (scramble p c) 63 56 ∈ [2, 3] :=
  ⟨3, (wLine true (scramble (2 * 2 ^ 56 + 5) 400)), (wRx 2 { pfc := some 400, stOff := 85, rx := some (5, [6]) }), (scramble (2 * 2 ^ 56 + 5) 400), 400, (2 ^ 31 + 2), by decide +kernel, by decide +kernel, by decide +kernel, by decide +kernel, by decide +kernel, by decide +kernel⟩
def wOff (s : State) : State := ((s.set R.LAN_STATUS_STATE 0 3).set R.LAN_STATUS_STATE 1 5).set R.LAN_STATUS_STATE 0 0
theorem witness_LaneTraffic_48 : ∃ (l : Fin 24) (s : State) (p : Pkt) (rest : List (Nat × List Nat × Nat)), PacketIs s l p rest ∧ laneWaits s p.dest = true :=
  ⟨3, (wOff (wTor [wPk { wP0 with dest := 1 }])), { wP0 with dest := 1 }, [], ⟨by rw [wReadPkt_eq]; decide +kernel, by decide +kernel⟩, by decide +kernel⟩
theorem witness_LaneTraffic_49 : ∃ (l : Fin 24) (s : State) (p : Pkt) (rest : List (Nat × List Nat × Nat)), PacketIs s l p rest ∧ routeDir (s.get R.LAN_COORD_POS) p.dest
      (torus s) = none ∧ (p.kind = 0 ∨ p.kind = 2) ∧ responses s < 256 ∧ laneWaits s p.src = true :=
  ⟨3, (wOff (wTor [wPk wP0])), wP0, [], ⟨by rw [wReadPkt_eq]; decide +kernel, by decide +kernel⟩, by decide +kernel, by decide +kernel, by decide +kernel, by decide +kernel⟩
theorem witness_LaneTraffic_50 : ∃ (s : State) (v : Nat), Descriptor s v ∧ descriptorOk s v = true ∧ bits v 127 64 + 128 * bits v 63 32 ≤ hbmSize ∧ 0 < bits v 63 32 ∧
      laneWaits s (bits v 31 16) = true :=
  ⟨(wOff (wDs 1 1 2 0 256)), (wDv 1 1 2 0 256), by decide +kernel, by decide +kernel, by decide +kernel, by decide +kernel, by decide +kernel⟩

/-! Witnesses: 19 -/

def wLit (s : State := wUp) : State := s.set R.LIN_STATUS_MUTE_CAUSE 0 3
def wPn (p : Pnt) (s : State := wLit) : State := { s with pnt := { s.pnt with run := some p }, clock := 1000000, tick := 500000 }
def wPnR (item : Nat) (l : List PInst) (mode : Nat := 0) : Pnt := ⟨mode, item, false, 9000000, true, false, none, l⟩
def wDone (s : State) : State := s.set R.EVF_SRC_EN 1 1489
theorem witness_PointingAndMonitor_1 : ∃ (m : Master) (v : BitVec 30) (s : State), reaches s m 0x900000 true = true ∧ (s.pnt.run ≠ none ∨ pntArgsOk v.toNat (s.get R.PNT_TIMEOUT_MS)
      = false) :=
  ⟨.s0, 0x12345678, wUp, by decide +kernel, by decide +kernel⟩
theorem witness_PointingAndMonitor_2 : ∃ (m : Master) (v : BitVec 30) (s : State), reaches s m 0x900000 true = true ∧ s.pnt.run = none ∧ pntArgsOk v.toNat (s.get R.PNT_TIMEOUT_MS)
      = true ∧ (inHold s = true ∨ (inRun s = true ∧ gapless s v.toNat = [])) :=
  ⟨.s0, 0x11002003, { wUp with clock := 88 }, by decide +kernel, by decide +kernel, by decide +kernel, by decide +kernel⟩
theorem witness_PointingAndMonitor_3 : ∃ (m : Master) (v : BitVec 30) (s : State), reaches s m 0x900000 true = true ∧ s.pnt.run = none ∧ pntArgsOk v.toNat (s.get R.PNT_TIMEOUT_MS)
      = true ∧ inHold s = false ∧ inRun s = true ∧ gapless s v.toNat ≠ [] :=
  ⟨.s0, 0x03002003, (wDone { wRun with gaps := [⟨20, 100, 1, 0, 0, 4⟩] }), by decide +kernel, by decide +kernel, by decide +kernel, by decide +kernel, by decide +kernel, by decide +kernel⟩
theorem witness_PointingAndMonitor_4 : ∃ (m : Master) (v : BitVec 30) (s : State), reaches s m 0x900000 true = true ∧ s.pnt.run = none ∧ pntArgsOk v.toNat (s.get R.PNT_TIMEOUT_MS)
      = true ∧ inHold s = false ∧ inRun s = false :=
  ⟨.s0, 0x03002003, (wDone ((wUp.set R.PWR_STATE_STATE 4))), by decide +kernel, by decide +kernel, by decide +kernel, by decide +kernel, by decide +kernel⟩
theorem witness_PointingAndMonitor_5 : ∃ (m : Master) (s : State), reaches s m 0x900000 true = true ∧ s.pnt.run = none :=
  ⟨.s0, (wUp.set R.PNT_CTRL_ITEM 4), by decide +kernel, by decide +kernel⟩
theorem witness_PointingAndMonitor_6 : ∃ (m : Master) (s : State) (p : Pnt), reaches s m 0x900000 true = true ∧ s.pnt.run = some p ∧ (∀ i ∈ p.insts, i.stage ≠ 1) :=
  ⟨.s0, (wDone (wPn (wPnR 1 [{ n := 3 }, { n := 4, stage := 5 }]))), (wPnR 1 [{ n := 3 }, { n := 4, stage := 5 }]), by decide +kernel, by decide +kernel, by decide +kernel⟩
theorem witness_PointingAndMonitor_7 : ∃ (m : Master) (s : State) (p : Pnt) (i : PInst), reaches s m 0x900000 true = true ∧ s.pnt.run = some p ∧ p.insts = [i] ∧ i.stage = 1 ∧ i.act
      = true ∧ p.item ≤ 2 :=
  ⟨.s0, (wDone (wPn (wPnR 1 [{ n := 3, stage := 1, act := true }]) { wLit with lines := sset {} [] 3 { live := false } })), (wPnR 1 [{ n := 3, stage := 1, act := true }]), { n := 3, stage := 1, act := true }, by decide +kernel, by decide +kernel, by decide +kernel, by decide +kernel, by decide +kernel, by decide +kernel⟩
theorem witness_PointingAndMonitor_9 : ∃ (k : Fin 256) (s : State), (s.xtalFail = true ∨ s.pnt.run = none ∨ pntInst s k = none) :=
  ⟨3, wUp, by decide +kernel⟩
theorem witness_PointingAndMonitor_10 : ∃ (k : Fin 256) (s : State) (p : Pnt) (i : PInst), PntActs s k p i ∧ (occLeft s p.item k = none ∨ p.endCode ≠ none ∨ p.refOk = false ∨ i.act
      = true ∨ i.barred = true ∨ pntIdle s p.item k = false ∨ (i.stage ≠ 0 ∧ i.stage ≠ 2) ∨ (i.stage = 0 ∧ (occLeft s p.item k).getD 0 <
      pntOverhead p.item + pntTicks p.item)) :=
  ⟨3, (wPn (wPnR 1 [{ n := 3, stage := 4 }])), (wPnR 1 [{ n := 3, stage := 4 }]), { n := 3, stage := 4 }, by decide +kernel, by decide +kernel⟩
def wIdle (s : State) : State := { s with pwr := { s.pwr with req := 0 } }
theorem witness_PointingAndMonitor_11 : ∃ (k : Fin 256) (s : State) (p : Pnt) (i : PInst) (l : Nat), PntReady s k p i l ∧ i.stage = 0 ∧ pntOverhead p.item + pntTicks p.item ≤ l :=
  ⟨3, (wPn (wPnR 1 [{ n := 3 }]) (wUp.set R.LIN_STATUS_LIVE 1 3)), (wPnR 1 [{ n := 3 }]), { n := 3 }, (2 ^ 64), by decide +kernel, by decide +kernel, by decide +kernel⟩
theorem witness_PointingAndMonitor_12 : ∃ (k : Fin 256) (s : State) (p : Pnt) (i : PInst) (l : Nat), PntReady s k p i l ∧ i.stage = 2 ∧ pntCommitTicks s p.item k i.d ≤ l ∧
      PntInRange s p.item k i.d :=
  ⟨3, (wPn (wPnR 1 [{ n := 3, stage := 2, d := [5] }])), (wPnR 1 [{ n := 3, stage := 2, d := [5] }]), { n := 3, stage := 2, d := [5] }, (2 ^ 64), by decide +kernel, by decide +kernel, by decide +kernel, by decide +kernel⟩
theorem witness_PointingAndMonitor_13 : ∃ (k : Fin 256) (s : State) (p : Pnt) (i : PInst) (l : Nat), PntReady s k p i l ∧ i.stage = 2 ∧ l < pntCommitTicks s p.item k i.d ∧ ((pntGaps
      s p.item k).all (fun g => decide (g.length < pntCommitTicks s p.item k i.d)) = true) :=
  ⟨3, (wPn (wPnR 1 [{ n := 3, stage := 2, d := [50] }]) { wRun.set R.GLB_SCHED_STATUS_STATE 2 with gaps := [⟨500000, 924, 0, 0, 0, 24⟩] }), (wPnR 1 [{ n := 3, stage := 2, d := [50] }]), { n := 3, stage := 2, d := [50] }, 924, by decide +kernel, by decide +kernel, by decide +kernel, by decide +kernel⟩
theorem witness_PointingAndMonitor_15 : ∃ (k : Fin 256) (ms : List (BitVec 16)) (s : State), (s.xtalFail = true ∨ s.pnt.run = none ∨ pntInst s k = none) :=
  ⟨3, [], wUp, by decide +kernel⟩
theorem witness_PointingAndMonitor_16 : ∃ (k : Fin 256) (ms : List (BitVec 16)) (s : State) (p : Pnt) (i : PInst), PntActs s k p i ∧ (i.stage ≠ 1 ∨ pntMeasured s p.item i = false) :=
  ⟨3, [], (wPn (wPnR 5 [{ n := 3, stage := 1, t0 := 999000 }])), (wPnR 5 [{ n := 3, stage := 1, t0 := 999000 }]), { n := 3, stage := 1, t0 := 999000 }, by decide +kernel, by decide +kernel⟩
theorem witness_PointingAndMonitor_17 : ∃ (k : Fin 256) (ms : List (BitVec 16)) (s : State) (p : Pnt) (i : PInst), PntActs s k p i ∧ i.stage = 1 ∧ pntMeasured s p.item i = true ∧
      pntInterrupted s p.item i = true :=
  ⟨3, [5], (wPn (wPnR 1 [{ n := 3, stage := 1, t0 := 999000, act := true }]) (wUp.set R.LIN_STATUS_MUTE_CAUSE 2 3)), (wPnR 1 [{ n := 3, stage := 1, t0 := 999000, act := true }]), { n := 3, stage := 1, t0 := 999000, act := true }, by decide +kernel, by decide +kernel, by decide +kernel, by decide +kernel⟩
theorem witness_PointingAndMonitor_18 : ∃ (k : Fin 256) (ms : List (BitVec 16)) (s : State) (p : Pnt) (i : PInst), PntMeasured s k p i ∧ i.m1 = none :=
  ⟨3, [5], (wPn (wPnR 1 [{ n := 3, stage := 1, t0 := 999000, act := true }])), (wPnR 1 [{ n := 3, stage := 1, t0 := 999000, act := true }]), { n := 3, stage := 1, t0 := 999000, act := true }, by decide +kernel, by decide +kernel⟩
def wI2 : PInst := { n := 3, stage := 1, t0 := 999000, act := true, m1 := some [3] }
theorem witness_PointingAndMonitor_19 : ∃ (k : Fin 256) (ms : List (BitVec 16)) (s : State) (p : Pnt) (i : PInst) (m1 m2 : List Int), PntMeasured s k p i ∧ i.m1 = some m1 ∧ m2 =
      ms.map (·.toInt) ∧ pntAgree p.item m1 m2 = false ∧ i.try_ < 4 :=
  ⟨3, [20], (wPn (wPnR 1 [wI2])), (wPnR 1 [wI2]), wI2, [3], [20], by decide +kernel, by decide +kernel, by decide +kernel, by decide +kernel, by decide +kernel⟩
theorem witness_PointingAndMonitor_20 : ∃ (k : Fin 256) (ms : List (BitVec 16)) (s : State) (p : Pnt) (i : PInst) (m1 m2 : List Int), PntMeasured s k p i ∧ i.m1 = some m1 ∧ m2 =
      ms.map (·.toInt) :=
  ⟨3, [19], (wPn (wPnR 1 [wI2])), (wPnR 1 [wI2]), wI2, [3], [19], by decide +kernel, by decide +kernel, by decide +kernel⟩
theorem witness_PointingAndMonitor_21 : ∃ (k : Fin 256) (s : State), (s.xtalFail = true ∨ s.pnt.run = none ∨ pntInst s k = none ∨ (pntInst s k).any (fun i => i.stage != 3 || decide
      (s.clock < i.step)) = true) :=
  ⟨3, (wPn (wPnR 1 [{ wI2 with stage := 3, step := 1000001 }])), by decide +kernel⟩
theorem witness_PointingAndMonitor_22 : ∃ (k : Fin 256) (s : State) (p : Pnt) (i : PInst), PntActs s k p i ∧ i.stage = 3 ∧ i.step ≤ s.clock ∧ pntMove s p.item k i.d ≠ 0 ∧ PntInRange
      s p.item k i.d :=
  ⟨3, (wPn (wPnR 1 [{ wI2 with stage := 3, step := 1000000, d := [-3] }]) (wUp.set R.LIN_FSC_CODE 500 3)), (wPnR 1 [{ wI2 with stage := 3, step := 1000000, d := [-3] }]), { wI2 with stage := 3, step := 1000000, d := [-3] }, by decide +kernel, by decide +kernel, by decide +kernel, by decide +kernel, by decide +kernel⟩
theorem witness_PointingAndMonitor_23 : ∃ (k : Fin 256) (s : State) (p : Pnt) (i : PInst), PntActs s k p i ∧ i.stage = 3 ∧ i.step ≤ s.clock ∧ pntMove s p.item k i.d = 0 :=
  ⟨3, (wDone (wPn (wPnR 1 [{ wI2 with stage := 3, step := 1000000, d := [0] }]))), (wPnR 1 [{ wI2 with stage := 3, step := 1000000, d := [0] }]), { wI2 with stage := 3, step := 1000000, d := [0] }, by decide +kernel, by decide +kernel, by decide +kernel, by decide +kernel⟩
theorem witness_PointingAndMonitor_24 : ∃ s : State, (s.xtalFail = true ∨ s.pnt.run = none ∨ s.pnt.run.any (fun p => decide (s.clock < p.deadline) || p.endCode.isSome) = true) :=
  ⟨(wPn (wPnR 1 [wI2])), by decide +kernel⟩
theorem witness_PointingAndMonitor_25 : ∃ (s : State) (p : Pnt), s.xtalFail = false ∧ s.pnt.run = some p ∧ p.deadline ≤ s.clock ∧ p.endCode = none :=
  ⟨(wDone (wPn { wPnR 1 [{ n := 3 }, { n := 4, stage := 2 }] with deadline := 1000000 })), { wPnR 1 [{ n := 3 }, { n := 4, stage := 2 }] with deadline := 1000000 }, by decide +kernel, by decide +kernel, by decide +kernel, by decide +kernel⟩
theorem witness_PointingAndMonitor_26 : ∃ (m : Master) (v : BitVec 32) (s : State), reaches s m 0x900030 true = true :=
  ⟨.s0, 5, ((wUp.set R.PNT_LOG_FILL_NEXT 5).set R.PNT_LOG_FILL_ENTRIES 64), by decide +kernel⟩
theorem witness_PointingAndMonitor_27 : ∃ (m : Master) (s : State) (item sub n zone d f : Nat), reaches s m 0x900024 false = true ∧ item = s.get R.PNT_TRIM_INDEX_ITEM ∧ sub = s.get
      R.PNT_TRIM_INDEX_SUB ∧ n = s.get R.PNT_TRIM_INDEX_INSTANCE ∧ (zone = (if item = 5 ∨ item = 6 then s.get R.PNT_TRIM_INDEX_ZONE else 0)) ∧ (d
      = (if 1 ≤ item ∧ item ≤ 8 ∧ sub < pntSubs item ∧ n < pntInstances item then wrapI (pntDelta s item zone sub n) 16 else 0)) ∧ (f = (if 1 ≤
      item ∧ item ≤ 8 ∧ sub < pntSubs item ∧ n < pntInstances item then wrapI (pntFactory s item sub n) 16 else 0)) :=
  ⟨.s0, (setPntDelta (((((wUp.set R.PNT_TRIM_INDEX_ITEM 6).set R.PNT_TRIM_INDEX_SUB 9).set R.PNT_TRIM_INDEX_INSTANCE 3).set R.PNT_TRIM_INDEX_ZONE 2).set R.PNT_TRIM_INDEX_AUTOINC 1) 6 2 9 3 (-2)), 6, 9, 3, 2, 0xFFFE, (fldReset R.INP_SLC_GAIN_BASE 25), by decide +kernel, by decide +kernel, by decide +kernel, by decide +kernel, by decide +kernel, by decide +kernel, by decide +kernel⟩
theorem witness_PointingAndMonitor_28 : ∃ (m : Master) (v : BitVec 32) (s : State), reaches s m 0x901000 true = true :=
  ⟨.s0, 0x45000010, { wUp.set R.MON_ENT_CHANNEL 7 0 with clock := 50 }, by decide +kernel⟩
theorem witness_PointingAndMonitor_29 : ∃ s : State, (s.xtalFail = true ∨ s.mon.nextPass = 0 ∨ s.clock + 1 < s.mon.nextPass) :=
  ⟨{ wUp with clock := 50, mon := { nextPass := 52 } }, by decide +kernel⟩
theorem witness_PointingAndMonitor_30 : ∃ s : State, s.xtalFail = false ∧ s.mon.nextPass ≠ 0 ∧ s.mon.nextPass ≤ s.clock + 1 :=
  ⟨{ wUp with clock := 50, mon := { nextPass := 51 } }, by decide +kernel, by decide +kernel, by decide +kernel⟩
theorem witness_PointingAndMonitor_31 : ∃ (j : Fin 8) (s : State), s.xtalFail = false ∧ (s.mon.inj.any (fun x => x.idx == j.val) = false) ∧ ((s.get R.MON_INJ_CTRL_SRC j = 1 ∧ s.get
      R.EVF_TASKST_PENDING (896 + j) ≠ 0) ∨ (s.get R.MON_INJ_CTRL_SRC j = 2 ∧ monPlayDue s j = true)) :=
  ⟨3, { ((wUp.set R.MON_INJ_CTRL_SRC 1 3).set R.EVF_TASKST_PENDING 1 899).set R.MON_INJ_CTRL_CHANNEL 9 3 with clock := 50 }, by decide +kernel, by decide +kernel, by decide +kernel⟩
theorem witness_PointingAndMonitor_32 : ∃ (j : Fin 8) (s : State), s.xtalFail = false ∧ (s.mon.inj.any (fun x => x.idx == j.val) = true) ∧ s.get R.MON_INJ_CTRL_SRC j = 2 ∧
      monPlayDue s j = true :=
  ⟨3, { ((wUp.set R.MON_INJ_CTRL_SRC 2 3).set R.MON_INJ_PULSE_CHISEL 5 3).set R.MON_INJ_DELAY_DELAY 7 3 with tick := 50, playSeen := [(5, 0, 43)], mon := { inj := [⟨3, 1, 0, 0⟩] } }, by decide +kernel, by decide +kernel, by decide +kernel, by decide +kernel⟩
theorem witness_PointingAndMonitor_33 : ∃ (j : Fin 8) (s : State), (s.xtalFail = true ∨ (s.get R.MON_INJ_CTRL_SRC j ≠ 1 ∧ s.get R.MON_INJ_CTRL_SRC j ≠ 2) ∨ (s.get R.MON_INJ_CTRL_SRC
      j = 1 ∧ (s.get R.EVF_TASKST_PENDING (896 + j) = 0 ∨ s.mon.inj.any (fun x => x.idx == j.val) = true)) ∨ (s.get R.MON_INJ_CTRL_SRC j = 2 ∧
      monPlayDue s j = false)) :=
  ⟨3, ((wUp.set R.MON_INJ_CTRL_SRC 1 3)), by decide +kernel⟩
theorem witness_PointingAndMonitor_34 : ∃ (v : BitVec 16) (s : State), (s.xtalFail = true ∨ s.mon.cur = none ∨ s.mon.cur.any (fun c => decide (s.clock < c.due)) = true) :=
  ⟨5, wUp, by decide +kernel⟩
def wMon (c : MonConv) (m : Mon) (s : State := wUp) : State := { s with clock := 500, mon := { m with cur := some c } }
theorem witness_PointingAndMonitor_35 : ∃ (v : BitVec 16) (s : State) (c : MonConv) (x : MonJob), MonDue s c 1 ∧ s.mon.seq = some x ∧ x.n + 1 < 2 ^ min (s.get R.MON_ENT_AVG_LOG2
      x.idx) 8 :=
  ⟨5, (wMon ⟨1, 0, 9, 500⟩ { seq := some ⟨0, 4, 254, 6⟩ } (wUp.set R.MON_ENT_AVG_LOG2 12 0)), ⟨1, 0, 9, 500⟩, ⟨0, 4, 254, 6⟩, by decide +kernel, by decide +kernel, by decide +kernel⟩
theorem witness_PointingAndMonitor_36 : ∃ (v : BitVec 16) (s : State) (c : MonConv) (x : MonJob) (y : Int), MonDue s c 1 ∧ s.mon.seq = some x ∧ 2 ^ min (s.get R.MON_ENT_AVG_LOG2
      x.idx) 8 ≤ x.n + 1 ∧ y = (narrow (x.sum + monValue c.chan v) (min (s.get R.MON_ENT_AVG_LOG2 x.idx) 8) 16).1 :=
  ⟨0xFFF0, (wMon ⟨1, 0, 9, 500⟩ { seq := some ⟨0, 4, 255, 6⟩ } (((wUp.set R.MON_ENT_AVG_LOG2 12 0).set R.MON_ENT_LIMIT_EN 1 0).set R.MON_LIM_LO 5 0)), ⟨1, 0, 9, 500⟩, ⟨0, 4, 255, 6⟩, 0, by decide +kernel, by decide +kernel, by decide +kernel, by decide +kernel⟩
theorem witness_PointingAndMonitor_37 : ∃ (v : BitVec 16) (s : State) (c : MonConv) (x : MonJob), MonDue s c 2 ∧ ((s.mon.inj.find? fun x => x.idx == c.idx) = some x) ∧ x.n + 1 < 2 ^
      min (s.get R.MON_INJ_CTRL_AVG_LOG2 c.idx) 8 :=
  ⟨5, (wMon ⟨2, 3, 9, 500⟩ { inj := [⟨1, 4, 0, 6⟩, ⟨3, 4, 0, 6⟩] } (wUp.set R.MON_INJ_CTRL_AVG_LOG2 1 3)), ⟨2, 3, 9, 500⟩, ⟨3, 4, 0, 6⟩, by decide +kernel, by decide +kernel, by decide +kernel⟩
theorem witness_PointingAndMonitor_38 : ∃ (v : BitVec 16) (s : State) (c : MonConv) (x : MonJob), MonDue s c 2 ∧ ((s.mon.inj.find? fun x => x.idx == c.idx) = some x) ∧ 2 ^ min
      (s.get R.MON_INJ_CTRL_AVG_LOG2 c.idx) 8 ≤ x.n + 1 :=
  ⟨5, (wMon ⟨2, 3, 6, 500⟩ { inj := [⟨1, 4, 0, 6⟩, ⟨3, 4, 1, 6⟩] } (wUp.set R.MON_INJ_CTRL_AVG_LOG2 1 3)), ⟨2, 3, 6, 500⟩, ⟨3, 4, 1, 6⟩, by decide +kernel, by decide +kernel, by decide +kernel⟩
theorem witness_PointingAndMonitor_39 : ∃ (v : BitVec 16) (s : State) (c : MonConv) (p : Pnt), MonDue s c 3 ∧ s.pnt.run = some p ∧ p.refOk = false :=
  ⟨32000, (wMon ⟨3, 0, 37, 500⟩ {} (wPn { wPnR 1 [{ n := 3 }] with refOk := false })), ⟨3, 0, 37, 500⟩, { wPnR 1 [{ n := 3 }] with refOk := false }, by decide +kernel, by decide +kernel, by decide +kernel⟩
theorem witness_PointingAndMonitor_40 : ∃ (v : BitVec 16) (s : State) (c : MonConv) (p : Pnt) (i : PInst), MonDue s c 3 ∧ s.pnt.run = some p ∧ p.refOk = true ∧ p.endCode = none ∧
      pntInst s c.idx = some i ∧ i.stage < 4 :=
  ⟨32000, (wMon ⟨3, 3, 38, 500⟩ {} (wPn (wPnR 1 [{ n := 3, stage := 1, conv := 4 }]))), ⟨3, 3, 38, 500⟩, (wPnR 1 [{ n := 3, stage := 1, conv := 4 }]), { n := 3, stage := 1, conv := 4 }, by decide +kernel, by decide +kernel, by decide +kernel, by decide +kernel, by decide +kernel, by decide +kernel⟩

/-! Witnesses: 20 -/

def wPw (s : State) (f : PwrSt → PwrSt) : State := { s with tick := 50, clock := 100, pwr := f s.pwr }
def wEvBind (g : Nat) (s : State) : State := s.set R.EVF_SRC_EN 1 (1472 + g)
/-- HOLD with the PLL locked and the supply within its range. -/
def wRdy : State := wPw (wUp.set R.CLK_STATUS_PLL_LOCK 1) fun p => { p with mv48 := 48000 }
def wSby : State := (wUp.set R.PWR_STATE_STATE 3).set R.BOOT_STATUS_STATE 10
theorem witness_PowerAndThermal_1 : ∃ (m : Master) (s : State) (code : Nat), reaches s m 0x903004 true = true ∧ code = (if s.get R.PWR_STATE_BUSY ≠ 0 then 0x42 else 0x40) ∧
      (s.get R.PWR_STATE_BUSY ≠ 0 ∨ s.get R.BOOT_STATUS_STATE = 0) :=
  ⟨.s0, (wRun.set R.PWR_STATE_BUSY 1), 0x42, by decide +kernel, by decide +kernel, by decide +kernel⟩
theorem witness_PowerAndThermal_2 : ∃ (m : Master) (s : State), reaches s m 0x903004 true = true ∧ s.get R.PWR_STATE_BUSY = 0 ∧ s.get R.BOOT_STATUS_STATE ≠ 0 :=
  ⟨.s0, wUp, by decide +kernel, by decide +kernel, by decide +kernel⟩
theorem witness_PowerAndThermal_3 : ∃ (m : Master) (s : State), reaches s m 0x903004 true = true ∧ s.get R.PWR_STATE_BUSY = 0 ∧ s.get R.BOOT_STATUS_STATE ≠ 0 ∧ s.get
      R.PWR_STATE_STATE = 1 :=
  ⟨.s0, wRun, by decide +kernel, by decide +kernel, by decide +kernel, by decide +kernel⟩
theorem witness_PowerAndThermal_4 : ∃ (m : Master) (s : State), reaches s m 0x903004 true = true ∧ s.get R.PWR_STATE_BUSY = 0 ∧ s.get R.BOOT_STATUS_STATE ≠ 0 ∧ s.get
      R.PWR_STATE_STATE = 2 ∧ runRefused s ≠ 0 :=
  ⟨.s0, wUp, by decide +kernel, by decide +kernel, by decide +kernel, by decide +kernel, by decide +kernel⟩
theorem witness_PowerAndThermal_5 : ∃ (m : Master) (s : State), reaches s m 0x903004 true = true ∧ s.get R.PWR_STATE_BUSY = 0 ∧ s.get R.BOOT_STATUS_STATE ≠ 0 ∧ s.get
      R.PWR_STATE_STATE = 2 ∧ runRefused s = 0 :=
  ⟨.s0, wRdy, by decide +kernel, by decide +kernel, by decide +kernel, by decide +kernel, by decide +kernel⟩
theorem witness_PowerAndThermal_6 : ∃ (m : Master) (s : State), reaches s m 0x903004 true = true ∧ s.get R.PWR_STATE_BUSY = 0 ∧ s.get R.BOOT_STATUS_STATE ≠ 0 ∧ (s.get
      R.PWR_STATE_STATE = 1 ∨ s.get R.PWR_STATE_STATE = 2) ∧ (s.get R.BOOT_STATUS_OP ≠ 0 ∨ s.pnt.run ≠ none) :=
  ⟨.s0, (wRun.set R.BOOT_STATUS_OP 2), by decide +kernel, by decide +kernel, by decide +kernel, by decide +kernel, by decide +kernel⟩
theorem witness_PowerAndThermal_7 : ∃ (m : Master) (s : State), reaches s m 0x903004 true = true ∧ s.get R.PWR_STATE_BUSY = 0 ∧ s.get R.BOOT_STATUS_STATE ≠ 0 ∧ (s.get
      R.PWR_STATE_STATE = 1 ∨ s.get R.PWR_STATE_STATE = 2) ∧ s.get R.BOOT_STATUS_OP = 0 ∧ s.pnt.run = none :=
  ⟨.s0, wUp, by decide +kernel, by decide +kernel, by decide +kernel, by decide +kernel, by decide +kernel, by decide +kernel⟩
theorem witness_PowerAndThermal_8 : ∃ (m : Master) (s : State), reaches s m 0x903004 true = true ∧ s.get R.PWR_STATE_BUSY = 0 ∧ s.get R.BOOT_STATUS_STATE ≠ 0 ∧ s.get
      R.PWR_STATE_STATE = 3 :=
  ⟨.s0, (wEvBind 16 wSby), by decide +kernel, by decide +kernel, by decide +kernel, by decide +kernel⟩
theorem witness_PowerAndThermal_9 : ∃ s : State, inRun s = true ∧ (s.pwr.req = 1 ∨ s.pwr.req = 3) ∧ s.pwr.reqAt ≤ s.tick ∧ s.get R.BOOT_STATUS_STATE ≠ 0 :=
  ⟨(wEvBind 16 ((wPw wRun fun p => { p with req := 1, reqAt := 50, host := 1 }).set R.BIA_PARK_LATCH_CODE 77 5)), by decide +kernel, by decide +kernel, by decide +kernel, by decide +kernel⟩
theorem witness_PowerAndThermal_10 : ∃ s : State, inHold s = true ∧ s.pwr.req = 1 ∧ s.get R.BOOT_STATUS_STATE ≠ 0 :=
  ⟨(wPw (wUp.set R.PWR_STATE_BUSY 1) fun p => { p with req := 1, reqAt := 60 }), by decide +kernel, by decide +kernel, by decide +kernel⟩
theorem witness_PowerAndThermal_11 : ∃ s : State, (s.get R.BOOT_STATUS_STATE = 0 ∨ (inRun s = true ∧ s.tick < s.pwr.reqAt) ∨ (s.pwr.req ≠ 1 ∧ s.pwr.req ≠ 3)) :=
  ⟨(wPw wRun fun p => { p with req := 1, reqAt := 51 }), by decide +kernel⟩
theorem witness_PowerAndThermal_12 : ∃ s : State, inHold s = true ∧ s.pwr.req = 2 ∧ s.pwr.reqAt ≤ s.tick ∧ ((s.pnt.run.any fun p => p.insts.any (·.act)) = false) ∧
      ((s.calipers.any fun p => p.2.restoring) = false) ∧ s.get R.BOOT_STATUS_STATE ≠ 0 ∧ runRefused s ≠ 0 :=
  ⟨(wPw wUp fun p => { p with req := 2, reqAt := 50 }), by decide +kernel, by decide +kernel, by decide +kernel, by decide +kernel, by decide +kernel, by decide +kernel, by decide +kernel⟩
theorem witness_PowerAndThermal_13 : ∃ s : State, inHold s = true ∧ s.pwr.req = 2 ∧ s.pwr.reqAt ≤ s.tick ∧ ((s.pnt.run.any fun p => p.insts.any (·.act)) = false) ∧
      ((s.calipers.any fun p => p.2.restoring) = false) ∧ s.get R.BOOT_STATUS_STATE ≠ 0 ∧ runRefused s = 0 :=
  ⟨(wEvBind 16 (wPw (wRdy.set R.CHS_CTRL_ENABLE 1 3) fun p => { p with req := 2, reqAt := 50, host := 0 })), by decide +kernel, by decide +kernel, by decide +kernel, by decide +kernel, by decide +kernel, by decide +kernel, by decide +kernel⟩
theorem witness_PowerAndThermal_14 : ∃ s : State, (inHold s = false ∨ s.pwr.req ≠ 2 ∨ s.tick < s.pwr.reqAt ∨ (s.pnt.run.any fun p => p.insts.any (·.act)) = true ∨ (s.calipers.any
      fun p => p.2.restoring) = true ∨ s.get R.BOOT_STATUS_STATE = 0) :=
  ⟨(wPw wRdy fun p => { p with req := 2, reqAt := 51 }), by decide +kernel⟩
theorem witness_PowerAndThermal_15 : ∃ s : State, inHold s = true ∧ s.pwr.req = 3 ∧ s.get R.BOOT_STATUS_STATE ≠ 0 ∧ (∀ n < 256, s.get R.BIA_STATUS_GLIDING n = 0) :=
  ⟨(wEvBind 16 ((wPw wUp fun p => { p with req := 3, reqAt := 50 }).set R.GOV_TGT_TGT 40000 3)), by decide +kernel, by decide +kernel, by decide +kernel, by decide +kernel⟩
theorem witness_PowerAndThermal_16 : ∃ s : State, (inHold s = false ∨ s.pwr.req ≠ 3 ∨ s.get R.BOOT_STATUS_STATE = 0 ∨ ∃ n < 256, s.get R.BIA_STATUS_GLIDING n ≠ 0) :=
  ⟨((wPw wUp fun p => { p with req := 3, reqAt := 50 }).set R.BIA_STATUS_GLIDING 1 3), by decide +kernel⟩
theorem witness_PowerAndThermal_17 : ∃ (temps : List (BitVec 16)) (s : State), s.xtalFail = true :=
  ⟨[], { wUp with xtalFail := true }, by decide +kernel⟩
theorem witness_PowerAndThermal_18 : ∃ (temps : List (BitVec 16)) (s : State), s.xtalFail = false :=
  ⟨[0, 0x3000#16], (wEvBind 14 wUp), by decide +kernel⟩
theorem witness_PowerAndThermal_19 : ∃ (dies : BitVec 29) (i : Fin 29) (s : State), s.get R.PWR_STATE_STATE ≠ 0 ∧ s.get R.THM_STATUS_SHUTDOWN = 0 ∧ dies.getLsbD i = true ∧
      diePowered s i = true ∧ (∀ j < i.val, dies.getLsbD j = true → diePowered s j = false) :=
  ⟨0x14, 2, wRun, by decide +kernel, by decide +kernel, by decide +kernel, by decide +kernel, by decide +kernel⟩
theorem witness_PowerAndThermal_20 : ∃ (dies : BitVec 29) (s : State), (s.get R.PWR_STATE_STATE = 0 ∨ s.get R.THM_STATUS_SHUTDOWN ≠ 0 ∨ ∀ j < 29, dies.getLsbD j = true →
      diePowered s j = false) :=
  ⟨0x4, (wUp.set R.PWR_STATUS_RAILS_GOOD 0), by decide +kernel⟩
theorem witness_PowerAndThermal_21 : ∃ s : State, s.pwr.dropAt ≠ 0 ∧ s.pwr.dropAt ≤ s.clock + 1 ∧ hubHeld s = false :=
  ⟨(wEvBind 16 (wPw (wUp.set R.THM_WARN_DIE_DIES 7) fun p => { p with req := 3, openAt := 4, dropAt := 90 })), by decide +kernel, by decide +kernel, by decide +kernel⟩
theorem witness_PowerAndThermal_22 : ∃ s : State, s.pwr.dropAt ≠ 0 ∧ s.pwr.dropAt ≤ s.clock + 1 ∧ hubHeld s = true :=
  ⟨(wPw (wUp.set R.THM_STATUS_SHUTDOWN 1) fun p => { p with req := 3, openAt := 4, dropAt := 90 }), by decide +kernel, by decide +kernel, by decide +kernel⟩
theorem witness_PowerAndThermal_23 : ∃ s : State, (s.pwr.dropAt = 0 ∨ s.clock + 1 < s.pwr.dropAt) :=
  ⟨(wPw wUp fun p => { p with dropAt := 102 }), by decide +kernel⟩
theorem witness_PowerAndThermal_24 : ∃ (mv : BitVec 16) (s : State), 38000 ≤ mv.toNat ∧ mv.toNat ≤ 58000 :=
  ⟨38000, wUp, by decide +kernel, by decide +kernel⟩
theorem witness_PowerAndThermal_25 : ∃ (mv : BitVec 16) (out : Bool) (s : State), (out = true ∨ mv.toNat < 38000 ∨ 58000 < mv.toNat) ∧ s.get R.PWR_STATE_STATE = 0 :=
  ⟨19999, false, ((wPw (wUp.set R.PWR_STATE_STATE 0) fun p => { p with railHeld := true })), by decide +kernel, by decide +kernel⟩
theorem witness_PowerAndThermal_26 : ∃ (mv : BitVec 16) (out : Bool) (s : State), (out = true ∨ mv.toNat < 38000 ∨ 58000 < mv.toNat) ∧ s.get R.PWR_STATE_STATE ≠ 0 :=
  ⟨48000, true, wRun, by decide +kernel, by decide +kernel⟩
theorem witness_PowerAndThermal_27 : ∃ (mv : BitVec 16) (s : State), (mv.toNat < 40000 ∨ 56000 < mv.toNat) :=
  ⟨39999, wUp, by decide +kernel⟩
theorem witness_PowerAndThermal_28 : ∃ (mv : BitVec 16) (s : State), 40000 ≤ mv.toNat ∧ mv.toNat ≤ 56000 ∧ (s.get R.PWR_STATE_STATE ≠ 0 ∨ s.get R.THM_STATUS_SHUTDOWN ≠ 0 ∨
      s.pwr.dropAt ≠ 0 ∨ s.pwr.railHeld = true) :=
  ⟨48000, wUp, by decide +kernel, by decide +kernel, by decide +kernel⟩
theorem witness_PowerAndThermal_29 : ∃ (mv : BitVec 16) (s : State), 40000 ≤ mv.toNat ∧ mv.toNat ≤ 56000 ∧ s.get R.PWR_STATE_STATE = 0 ∧ s.get R.THM_STATUS_SHUTDOWN = 0 ∧
      s.pwr.dropAt = 0 ∧ s.pwr.railHeld = false :=
  ⟨48000, (wEvBind 16 (wPw ((wUp.set R.PWR_STATE_STATE 0).set R.BOOT_STATUS_STATE 0) fun p => { p with fault := true })), by decide +kernel, by decide +kernel, by decide +kernel, by decide +kernel, by decide +kernel, by decide +kernel⟩
theorem witness_PowerAndThermal_30 : ∃ (mv48 mv33 : BitVec 16) (s : State), mv48.toNat < 20000 ∧ mv33.toNat < 1000 :=
  ⟨19999, 999, (wUp.set R.THM_STATUS_SHUTDOWN 1), by decide +kernel, by decide +kernel⟩
theorem witness_PowerAndThermal_31 : ∃ (mv48 mv33 : BitVec 16) (s : State), (20000 ≤ mv48.toNat ∨ 1000 ≤ mv33.toNat) :=
  ⟨20000, 0, wUp, by decide +kernel⟩
theorem witness_PowerAndThermal_33 : ∃ (s : State) (p : Nat), p = s.i2c.ptr :=
  ⟨{ wRdy with i2c := { wRdy.i2c with ptr := 13 } }, 13, by decide +kernel⟩


end Sys2Proof.Tests
end

section
/-! PROOF of `Obligations.DataSlotWidths` (R7). A data slot shares no offset with any other register, so an access to any byte of it finds the
slot itself, with the checks of an access in its own width already passed. -/

namespace Sys2Proof.Machine

/-! ### No other register holds an offset of a data slot -/

/-- The bytes of a register. -/
def regSize (r : Reg) : Nat := if r.wide then 8 else 4

/-- How far the dimensions reach past a base modulo `M`: a stride that `M` divides adds nothing. With `M = 0` it is the whole reach. -/
def dimsReach (M : Nat) : List (Nat × Nat) → Nat
  | [] => 0
  | (c, st) :: ds => (if M ∣ st then 0 else st * (c - 1)) + dimsReach M ds

/-- An interval `[a, a + n)` that does not pass a multiple of `M` (every interval, for `M = 0`). -/
def unwrapped (M a n : Nat) : Bool := M == 0 || decide (a % M + n ≤ M)

/-- Modulo `M` the offsets of two headings lie in two intervals that do not meet. -/
def apartMod (M : Nat) (r r' : Reg) : Bool :=
  let n := dimsReach M r.dims + regSize r
  let n' := dimsReach M r'.dims + regSize r'
  unwrapped M r.base n && unwrapped M r'.base n' && decide (r.base % M + n ≤ r'.base % M ∨ r'.base % M + n' ≤ r.base % M)

/-- What the dimensions leave over lies within the offset, and modulo `M` the offset lies within the reach of the dimensions. -/
theorem dimIndex_reach (M : Nat) : ∀ {ds : List (Nat × Nat)} {x : Nat} {is : List Nat} {b : Nat}, dimIndex ds x = some (is, b) →
    b ≤ x ∧ ∃ d ≤ dimsReach M ds + b, x ≡ d [MOD M]
  | [], x, is, b, h => by
    cases h
    exact ⟨le_rfl, x, Nat.le_add_left _ _, rfl⟩
  | (c, st) :: ds, x, _, _, h => by
    unfold dimIndex at h
    split at h
    case isFalse => cases h
    case isTrue hc =>
      obtain ⟨⟨is', b⟩, hd, e⟩ := Option.map_eq_some_iff.1 h
      cases e
      obtain ⟨hb, d, hle, hd⟩ := dimIndex_reach M hd
      have hx : st * (x / st) + x % st = x := Nat.div_add_mod x st
      refine ⟨hb.trans (Nat.mod_le x st), ?_⟩
      unfold dimsReach
      by_cases hM : M ∣ st
      · refine ⟨d, by simpa [hM] using hle, ?_⟩
        calc x = st * (x / st) + x % st := hx.symm
          _ ≡ 0 + d [MOD M] := ((Nat.modEq_zero_iff_dvd.2 (hM.mul_right _)).add hd)
          _ = d := Nat.zero_add d
      · refine ⟨st * (x / st) + d, ?_, ?_⟩
        · have : st * (x / st) ≤ st * (c - 1) := Nat.mul_le_mul_left _ (Nat.le_sub_one_of_lt hc)
          rw [if_neg hM]
          omega
        · calc x = st * (x / st) + x % st := hx.symm
            _ ≡ st * (x / st) + d [MOD M] := hd.add_left _

/-- Taking off what the dimensions leave over leaves the same indexes. -/
theorem dimIndex_sub_rest : ∀ {ds : List (Nat × Nat)} {x : Nat} {is : List Nat} {b : Nat}, dimIndex ds x = some (is, b) →
    dimIndex ds (x - b) = some (is, 0)
  | [], x, is, b, h => by
    cases h
    simp [dimIndex]
  | (c, st) :: ds, x, _, _, h => by
    unfold dimIndex at h
    split at h
    case isFalse => cases h
    case isTrue hc =>
      obtain ⟨⟨is', b⟩, hd, e⟩ := Option.map_eq_some_iff.1 h
      cases e
      have hb : b ≤ x % st := (dimIndex_reach 0 hd).1
      have hx : x - b = x % st - b + st * (x / st) := by
        have := Nat.div_add_mod x st
        omega
      have hmod : (x - b) % st = x % st - b := by
        rcases Nat.eq_zero_or_pos st with h0 | h0
        · simp [h0]
        · rw [hx, Nat.add_mul_mod_self_left, Nat.mod_eq_of_lt (lt_of_le_of_lt (Nat.sub_le _ _) (Nat.mod_lt x h0))]
      have hdiv : (x - b) / st = x / st := by
        rcases Nat.eq_zero_or_pos st with h0 | h0
        · simp [h0]
        · rw [hx, Nat.add_mul_div_left _ _ h0, Nat.div_eq_of_lt (lt_of_le_of_lt (Nat.sub_le _ _) (Nat.mod_lt x h0)), Nat.zero_add]
      simp [dimIndex, hdiv, hmod, hc, dimIndex_sub_rest hd]

theorem regHolds_eq_some {r : Reg} {off : Nat} {is : List Nat} {b : Nat} :
    regHolds r off = some (is, b) ↔ r.base ≤ off ∧ dimIndex r.dims (off - r.base) = some (is, b) ∧ b < regSize r := by
  unfold regHolds regSize
  by_cases hb : off < r.base
  · simp [hb, Nat.not_le.2 hb]
  · rcases hd : dimIndex r.dims (off - r.base) with _ | ⟨is', b'⟩
    · simp [hb]
    · by_cases hs : b' < if r.wide then 8 else 4
      · simp only [if_neg hb, if_pos hs, Nat.not_lt.1 hb, true_and, Option.some.injEq, Prod.mk.injEq]
        constructor
        · rintro ⟨rfl, rfl⟩
          exact ⟨⟨rfl, rfl⟩, hs⟩
        · exact fun h => h.1
      · simp only [if_neg hb, if_neg hs, Option.some.injEq, Prod.mk.injEq, reduceCtorEq, false_iff]
        rintro ⟨-, ⟨-, rfl⟩, h⟩
        exact hs h

/-- A register that holds an offset holds its own first byte, under the same indexes. -/
theorem regHolds_sub_byte {r : Reg} {off : Nat} {is : List Nat} {b : Nat} (h : regHolds r off = some (is, b)) :
    regHolds r (off - b) = some (is, 0) := by
  obtain ⟨hbase, hdim, hsize⟩ := regHolds_eq_some.1 h
  have hb : b ≤ off - r.base := (dimIndex_reach 0 hdim).1
  have hcomm : off - b - r.base = off - r.base - b := Nat.sub_right_comm ..
  exact regHolds_eq_some.2 ⟨by omega, hcomm ▸ dimIndex_sub_rest hdim, by omega⟩

/-- Modulo `M` an offset of a register lies in the interval of its heading. -/
theorem regHolds_mod {M : Nat} {r : Reg} {off : Nat} {p : List Nat × Nat} (h : regHolds r off = some p)
    (hu : unwrapped M r.base (dimsReach M r.dims + regSize r) = true) :
    r.base % M ≤ off % M ∧ off % M < r.base % M + (dimsReach M r.dims + regSize r) := by
  obtain ⟨hbase, hdim, hsize⟩ := regHolds_eq_some.1 h
  obtain ⟨-, d, hle, hd⟩ := dimIndex_reach M hdim
  have hoff : off % M = (r.base % M + d) % M := by
    calc off % M = (r.base + (off - r.base)) % M := by rw [Nat.add_sub_cancel' hbase]
      _ = (r.base % M + d) % M := ((Nat.mod_modEq r.base M).symm.add hd)
  have hmod : (r.base % M + d) % M = r.base % M + d := by
    simp only [unwrapped, Bool.or_eq_true, beq_iff_eq, decide_eq_true_eq] at hu
    rcases hu with h0 | hM
    · simp [h0]
    · exact Nat.mod_eq_of_lt (by omega)
  omega

/-- Headings that lie apart modulo some `M` hold no offset in common. -/
theorem regHolds_eq_none_of_apartMod {M : Nat} {r r' : Reg} {off : Nat} {p : List Nat × Nat} (ha : apartMod M r r' = true)
    (h : regHolds r off = some p) : regHolds r' off = none := by
  simp only [apartMod, Bool.and_eq_true, decide_eq_true_eq] at ha
  obtain ⟨⟨hu, hu'⟩, hapart⟩ := ha
  by_contra hne
  obtain ⟨p', h'⟩ := Option.ne_none_iff_exists'.1 hne
  have := regHolds_mod h hu
  have := regHolds_mod h' hu'
  omega

/-- The headings of W0 that are data slots lie apart from every other heading, as a whole or modulo one of their own strides. -/
theorem allRegs_wide_apart {r r' : Reg} (hr : r ∈ allRegs) (hw : r.wide = true) (hr' : r' ∈ allRegs) (hne : r' ≠ r) :
    ∃ M, apartMod M r r' = true := by
  have h : (allRegs.filter (·.wide)).all (fun r => allRegs.all fun r' =>
      decide (r' = r) || (0 :: r.dims.map (·.2)).any fun M => apartMod M r r') = true := by decide +kernel
  have h1 := List.all_eq_true.1 (List.all_eq_true.1 h r (List.mem_filter.2 ⟨hr, hw⟩)) r' hr'
  rw [Bool.or_eq_true, decide_eq_true_eq] at h1
  obtain ⟨M, -, hM⟩ := List.any_eq_true.1 (h1.resolve_left hne)
  exact ⟨M, hM⟩

theorem regAt_regHolds {off : Nat} {r : Reg} {is : List Nat} {b : Nat} : ∀ {l : List Reg}, regAt off l = some (r, is, b) →
    regHolds r off = some (is, b)
  | [], h => by cases h
  | a :: l, h => by
    unfold regAt at h
    split at h
    case h_1 e => cases h; exact e
    case h_2 => exact regAt_regHolds h

/-- An offset that one register alone holds is found there. -/
theorem regAt_of_unique {off : Nat} {r : Reg} {is : List Nat} {b : Nat} (h : regHolds r off = some (is, b)) :
    ∀ {l : List Reg}, r ∈ l → (∀ r' ∈ l, r' ≠ r → regHolds r' off = none) → regAt off l = some (r, is, b)
  | a :: l, hm, hu => by
    unfold regAt
    by_cases ha : a = r
    · rw [ha, h]
    · rw [hu a List.mem_cons_self ha]
      exact regAt_of_unique h ((List.mem_cons.1 hm).resolve_left (Ne.symm ha)) fun r' hr' => hu r' (List.mem_cons_of_mem _ hr')

/-- An access to a byte of a data slot and one to its first byte find the same slot. -/
theorem regAt_slot_start {off : Nat} {r : Reg} {is : List Nat} {b : Nat} (h : regAt off allRegs = some (r, is, b)) (hw : r.wide = true) :
    regAt (off - b) allRegs = some (r, is, 0) := by
  have hstart := regHolds_sub_byte (regAt_regHolds h)
  refine regAt_of_unique hstart (regAt_mem h) fun r' hr' hne => ?_
  obtain ⟨M, hM⟩ := allRegs_wide_apart (regAt_mem h) hw hr' hne
  exact regHolds_eq_none_of_apartMod hM hstart

/-! ### The checks of an access to a data slot -/

theorem reaches_slot {s : State} {m : Master} {off : Nat} {write : Bool} {r : Reg} {is : List Nat} {b : Nat}
    (hat : regAt off allRegs = some (r, is, b)) (hw : r.wide = true) (h : reaches s m off write = true) :
    s.xtalFail = false ∧ regLive s r = true ∧ accessCheck s m r is b 64 off write = .pass := by
  simp only [reaches, hat, hw, if_true, Bool.and_eq_true, Bool.not_eq_true'] at h
  obtain ⟨⟨hx, hl⟩, hc⟩ := h
  refine ⟨hx, hl, ?_⟩
  split at hc
  · assumption
  · cases hc

/-- Where the world checks let one access to a data slot pass, width and alignment alone decide on every other (R7). -/
theorem accessCheck_slot {s : State} {m : Master} {r : Reg} {is : List Nat} {b width off : Nat} {write : Bool} (hw : r.wide = true)
    (h : accessCheck s m r is b width off write = .pass) (b' width' off' : Nat) :
    accessCheck s m r is b' width' off' write =
      if b' = 0 ∧ width' = 64 then .pass
      else if !write ∧ width' = 32 ∧ b' % 4 = 0 then .pass
      else .deny (accessError s m write 2 off') := by
  unfold accessCheck at h ⊢
  rcases ite_eq_iff.1 h with ⟨-, e⟩ | ⟨hworld, h⟩
  · cases e
  rcases ite_eq_iff.1 h with ⟨-, e⟩ | ⟨hpriv, -⟩
  · cases e
  rw [if_neg hworld, if_neg hpriv, if_pos hw]

theorem wideAt_of_regAt {off : Nat} {r : Reg} {is : List Nat} {b : Nat} (hat : regAt off allRegs = some (r, is, b)) (hw : r.wide = true) :
    wideAt off = true := by
  unfold wideAt
  rw [hat]
  exact hw

/-! ### Writes and reads of a data slot -/

/-- A write that reaches no whole data slot, where a write of the slot would pass, is an access error and nothing else (R7). -/
theorem regW_slot_dropped {s : State} {m : Master} {off width : Nat} {r : Reg} {is : List Nat} {b : Nat}
    (hat : regAt off allRegs = some (r, is, b)) (hw : r.wide = true) (hr : reaches s m (off - b) true = true) (hbad : ¬(b = 0 ∧ width = 64))
    (v : Nat) : regW s m off width v = accessError s m true 2 off := by
  obtain ⟨hx, hlive, hpass⟩ := reaches_slot (regAt_slot_start hat hw) hw hr
  have hcheck : accessCheck s m r is b width off true = .deny (accessError s m true 2 off) := by
    rw [accessCheck_slot hw hpass, if_neg hbad, if_neg (by simp)]
  simp [regW, regWriteWith, regWrite1, hx, wideAt_of_regAt hat hw, hat, hlive, hcheck]

/-- A read of a data slot or of one aligned half of it, where a read of the slot would pass: the low half and the slot with what a read does,
the high half without (R7). -/
theorem regRead1_slot {s : State} {m : Master} {off width : Nat} {r : Reg} {is : List Nat} {b : Nat} (hat : regAt off allRegs = some (r, is, b))
    (hw : r.wide = true) (hr : reaches s m (off - b) false = true) (hok : (b = 0 ∧ width = 64) ∨ (width = 32 ∧ b % 4 = 0)) :
    regRead1 s m off width =
      let i := flatIndex r.dims is 0
      if b = 0 then
        let p := readValue r i (readLatch r.base i s)
        (readPart p.1 b width, p.2)
      else (readPart (readValue r i s).1 b width, s) := by
  obtain ⟨-, hlive, hpass⟩ := reaches_slot (regAt_slot_start hat hw) hw hr
  have hcheck : accessCheck s m r is b width off false = .pass := by
    rw [accessCheck_slot hw hpass]
    rcases hok with h | h
    · rw [if_pos h]
    · rw [if_pos (c := _ ∧ _ ∧ _) ⟨by simp, h⟩, ite_self]
  simp [regRead1, hat, hlive, hcheck, readEffects, hw]

/-- A read that finds a data slot is one read access. -/
theorem regRead_slot {s : State} {m : Master} {off : Nat} {r : Reg} {is : List Nat} {b : Nat} (hat : regAt off allRegs = some (r, is, b))
    (hw : r.wide = true) (hx : s.xtalFail = false) (width : Nat) :
    regRead s m off width = { (regRead1 s m off width).2 with readData := (regRead1 s m off width).1, readPoison := false } := by
  unfold regRead
  rw [if_neg (by simp [hx]), if_neg (by simp [wideAt_of_regAt hat hw])]

/-! ### The access-error log -/

theorem accessError_count (s : State) (m : Master) (write : Bool) (kind addr : Nat) :
    (accessError s m write kind addr).get R.HST_AERR_CNT_COUNT = min (s.get R.HST_AERR_CNT_COUNT + 1) 0xFFFFFFFF := by
  have hinc : (s.inc R.HST_AERR_CNT_COUNT).get R.HST_AERR_CNT_COUNT = min (s.get R.HST_AERR_CNT_COUNT + 1) 0xFFFFFFFF := s.get_inc_self ..
  unfold accessError State.when
  split
  · simpa (disch := decide) only [State.get_set_ne] using hinc
  · exact hinc

theorem masterCode_lt (m : Master) : masterCode m < 2 ^ 8 := by
  cases m with
  | core k => simp only [masterCode]; omega
  | _ => decide

/-- With no capture standing, an access error is captured (R385). -/
theorem accessError_captured {s : State} (h : s.get R.HST_AERR_SRC_VALID = 0) (m : Master) (write : Bool) {kind addr : Nat} (hk : kind < 8)
    (ha : addr < 2 ^ 32) :
    let t := accessError s m write kind addr
    t.get R.HST_AERR_SRC_VALID = 1 ∧ t.get R.HST_AERR_SRC_WRITE = b2n write ∧ t.get R.HST_AERR_SRC_KIND = kind ∧
      t.get R.HST_AERR_SRC_MASTER = masterCode m ∧ t.get R.HST_AERR_ADDR_ADDR = addr := by
  have hfree : (!s.flag R.HST_AERR_SRC_VALID) = true := by simp [State.flag, h]
  have hwrite : b2n write < 2 := by cases write <;> decide
  have hm := masterCode_lt m
  unfold accessError State.when
  rw [if_pos hfree]
  simp (disch := decide) only [State.get_set_ne, State.get_set_self]
  exact ⟨rfl, Nat.mod_eq_of_lt hwrite, Nat.mod_eq_of_lt hk, Nat.mod_eq_of_lt hm, Nat.mod_eq_of_lt ha⟩

theorem accessError_frame (s : State) (m : Master) (write : Bool) (kind addr : Nat) :
    Frame errorPlaces [] s (accessError s m write kind addr) :=
  (Frame.refl _ _ s).step (accessError_within ..) (by decide +kernel) (by decide +kernel)

theorem readData_frame (s : State) (x : Nat) (poison : Bool) :
    Frame [] [.readData, .readPoison] s { s with readData := x, readPoison := poison } :=
  (Frame.refl _ _ s).step (upd_readData_readPoison_within s x poison) (by decide +kernel) (by decide +kernel)

/-! ### The statement -/

theorem exec_registerWrite_W0 (m : Master) (off : BitVec 26) (size : Fin 4) (v : BitVec 64) (s : State) :
    exec (.registerWrite m false off size v) s = .next (regW s m off.toNat (accessBits size) (v.toNat % 2 ^ accessBits size)) := rfl

theorem exec_latchedPairRead_W0 (m : Master) (off : BitVec 26) (size : Fin 4) (s : State) :
    exec (.latchedPairRead m false off size) s = .next (regRead s m off.toNat (accessBits size)) := rfl

theorem accessBits_eq_64 (size : Fin 4) : accessBits size = 64 ↔ size = 3 := by
  revert size
  decide

/-- Settles O12: an access to any byte of a data slot finds the slot itself, since no other register holds any of its offsets; a write that is
not of the whole slot then fails the width check alone, and a read of either half passes it. -/
theorem dataSlotWidths : Obligations.DataSlotWidths := by
  unfold Obligations.DataSlotWidths
  refine ⟨fun m off size v s r is b hat hw hr hbad => ?_, fun m off s r is hat hw hr => ?_, fun m off s r is hat hw hr => ?_⟩
  · have hwidth : ¬(b = 0 ∧ accessBits size = 64) := by
      rw [accessBits_eq_64]
      exact not_and_or.2 hbad
    have hdrop := regW_slot_dropped hat hw hr hwidth (v.toNat % 2 ^ accessBits size)
    have haddr : off.toNat < 2 ^ 32 := by omega
    exact ⟨_, (exec_registerWrite_W0 ..).trans (congrArg _ hdrop),
      ⟨accessError_count .., fun hfree => accessError_captured hfree m true (by decide) haddr⟩, accessError_frame ..⟩
  · obtain ⟨hx, -⟩ := reaches_slot hat hw hr
    refine ⟨_, _, exec_latchedPairRead_W0 .., exec_latchedPairRead_W0 .., ?_⟩
    rw [regRead_slot hat hw hx, regRead_slot hat hw hx]
    change (regRead1 s m off.toNat 32).1 = (regRead1 s m off.toNat 64).1 % 2 ^ 32
    rw [regRead1_slot hat hw hr (.inr ⟨rfl, rfl⟩), regRead1_slot hat hw hr (.inl ⟨rfl, rfl⟩)]
    simp [readPart]
  · obtain ⟨hx, -⟩ := reaches_slot (regAt_slot_start hat hw) hw hr
    have hread := regRead_slot (m := m) hat hw hx 32
    rw [regRead1_slot hat hw hr (.inr ⟨rfl, rfl⟩)] at hread
    exact ⟨_, (exec_latchedPairRead_W0 ..).trans (congrArg _ hread), rfl, readData_frame ..⟩

end Sys2Proof.Machine
end

section
/-! PROOF SUPPORT. One issue of a Chisel instruction (R120, R122, R149): the state its effect starts from when no check fails, what each small
operation on a Chisel makes of its sequencing state, and the operands of Table CHS-6. -/

namespace Sys2Proof.Machine

/-! ### The sequencing state under the operations on a Chisel -/

@[simp] theorem chs_setChs_self (s : State) (n : Nat) (c : Chs) : chs (setChs s n c) n = c := sget_sset_self ..

/-- An operation whose footprint leaves the Chisels out leaves every sequencing state alone. -/
theorem Within.chs_eq {K : Nat} {s t : State} (w : Within K s t) (hk : K.testBit Part.chisels.bit = false) (n : Nat) : chs t n = chs s n :=
  congrArg (fun m => sget ({} : Chs) m n) (w.parts .chisels hk)

theorem Frame.setChs {rs : List Place} {ps : List Part} {s t : State} (h : Frame rs ps s t) (hm : .chisels ∈ ps) (n : Nat) (c : Chs) :
    Frame rs ps s (setChs t n c) :=
  h.trans ⟨fun _ _ _ _ => rfl, fun p hp => (chisels_within t _).parts p (Nat.testBit_two_pow_of_ne fun e =>
    hp (Part.bit_injective e ▸ hm))⟩

theorem named_only_self (f : Fld) (i : Nat) (rs : List Place) : named (only f i :: rs) f i = true := by
  simp [named, only]

theorem named_cons {rs : List Place} {f : Fld} {i : Nat} (h : named rs f i = true) (r : Place) : named (r :: rs) f i = true := by
  unfold named at h ⊢
  rw [List.any_cons, h, Bool.or_true]

/-! ### The state an effect starts from -/

/-- Chisel `n` after an issue on this tick that no check stops, before its own effect: PC names the instruction, and the next instruction has
the minimum Δt `m`. -/
def chsStart (s : State) (n m : Nat) : State := setChs (s.set R.CHS_STATUS_PC (chs s n).next n) n (chsNext s n m)

theorem advance_eq_chsStart {s : State} {n : Nat} (h : (chs s n).next < 32768) (op : Nat) : advance s n op = chsStart s n (chsMinDt op) := by
  simp [advance, chsStart, chsNext, h]

/-- An issue that is ready and has no failing code of its own takes its effect. -/
theorem issue_ready {s : State} {n : Fin 128} {dt : BitVec 12} {op : Nat} {a : BitVec 19} {b : Word36} (h : ChsReady s n dt op a b)
    (act : State → State) : issue s n.val dt.toNat op a.toNat b.toNat [] act = act (chsStart s n.val (chsMinDt op)) := by
  obtain ⟨hstate, htick, hmin, hnext, hform⟩ := h
  have hi : issues s n.val dt.toNat = true := by simp [issues, hstate, htick]
  simp [issue, hi, Nat.not_lt.2 hmin, hform, advance_eq_chsStart hnext]

/-- What a ready issue does is what its effect does. -/
theorem runs_issue {c : Instr} {s : State} {rs : List Place} {ps : List Part} {P : State → Prop} {n : Fin 128} {dt : BitVec 12} {op : Nat}
    {a : BitVec 19} {b : Word36} {act : State → State} (h : ChsReady s n dt op a b)
    (he : exec c s = .next (issue s n.val dt.toNat op a.toNat b.toNat [] act)) (hP : P (act (chsStart s n.val (chsMinDt op))))
    (hf : Frame rs ps s (act (chsStart s n.val (chsMinDt op)))) : Runs c s rs ps P :=
  ⟨_, he.trans (congrArg _ (issue_ready h act)), hP, hf⟩

section
variable (s : State) (n m : Nat)

@[simp] theorem chs_chsStart : chs (chsStart s n m) n = chsNext s n m := chs_setChs_self ..

@[simp] theorem chsStart_tick : (chsStart s n m).tick = s.tick := rfl

@[simp] theorem chsStart_shotStart : (chsStart s n m).shotStart = s.shotStart := rfl

@[simp] theorem gReg_chsStart (k : Nat) : gReg (chsStart s n m) n k = gReg s n k := s.get_set_ne _ _ _ (by decide)

@[simp] theorem kReg_chsStart (k : Nat) : kReg (chsStart s n m) n k = kReg s n k := s.get_set_ne _ _ _ (by decide)

@[simp] theorem srcOperand_chsStart (src : Bool) (reg imm w : Nat) :
    srcOperand (chsStart s n m) n src reg imm w = srcOperand s n src reg imm w := by
  simp [srcOperand]

theorem chsStart_frame (rs : List Place) : Frame (only R.CHS_STATUS_PC n :: rs) [.chisels] s (chsStart s n m) :=
  ((Frame.refl _ _ s).set _ (named_only_self ..)).setChs List.mem_cons_self n _

end

/-! ### Issued Chisels -/

theorem chsStart_issued {s : State} {n : Nat} (h : (chs s n).next < 32768) (m : Nat) : ChsIssued s (chsStart s n m) n (chsNext s n m) := by
  refine ⟨?_, chs_chsStart .., fun j hj => sget_sset_ne {} {} s.chisels (chsNext s n m) hj⟩
  exact (State.get_set_self ..).trans (Nat.mod_eq_of_lt h)

namespace ChsIssued
variable {s t : State} {n : Nat} {c : Chs} (h : ChsIssued s t n c)
include h

theorem setChs (c' : Chs) : ChsIssued s (setChs t n c') n c' := by
  obtain ⟨hpc, -, hrest⟩ := h
  exact ⟨hpc, chs_setChs_self .., fun j hj => (sget_sset_ne _ _ _ _ hj).trans (hrest j hj)⟩

theorem set {f : Fld} (hf : f.id ≠ R.CHS_STATUS_PC.id) (v i : Nat) : ChsIssued s (t.set f v i) n c := by
  obtain ⟨hpc, hc, hrest⟩ := h
  exact ⟨(t.get_set_ne _ _ _ hf.symm).trans hpc, hc, hrest⟩

theorem startWait (w : ChsWait) : ChsIssued s (startWait t n w) n { c with wait := w } := by
  obtain ⟨-, rfl, -⟩ := id h
  exact (h.setChs _).set (by decide) ..

theorem jumpTo (target : Nat) : ChsIssued s (jumpTo t n target) n { c with next := target } := by
  obtain ⟨-, rfl, -⟩ := id h
  exact h.setChs _

theorem setK (k v : Nat) : ChsIssued s (setK t n k v) n c := h.set (by decide) ..

end ChsIssued

theorem startWait_state (s : State) (n : Nat) (w : ChsWait) : (startWait s n w).get R.CHS_STATUS_STATE n = 3 := State.get_set_self ..

theorem startWait_frame {rs : List Place} {s t : State} {n : Nat} (h : Frame rs [.chisels] s t) (hm : named rs R.CHS_STATUS_STATE n = true)
    (w : ChsWait) : Frame rs [.chisels] s (startWait t n w) :=
  (h.setChs List.mem_cons_self n _).set _ hm

theorem jumpTo_frame {rs : List Place} {s t : State} (h : Frame rs [.chisels] s t) (n target : Nat) :
    Frame rs [.chisels] s (jumpTo t n target) :=
  h.setChs List.mem_cons_self n _

/-! ### Operands -/

theorem bits_lt (x hi lo : Nat) : bits x hi lo < 2 ^ (hi + 1 - lo) := Nat.mod_lt _ (Nat.two_pow_pos _)

/-- A field that may use its low `w` bits only holds a number of `w` bits. -/
theorem lt_of_onlyBits {x w : Nat} (h : onlyBits x (2 ^ w - 1) = true) : x < 2 ^ w := by
  have hx : x % 2 ^ w = x := (Nat.and_two_pow_sub_one_eq_mod x w).symm.trans (eq_of_beq h)
  exact hx ▸ Nat.mod_lt x (Nat.two_pow_pos w)

/-- An immediate of the operand's width is taken as it stands. -/
theorem srcOperand_of_lt {imm w : Nat} (h : imm < 2 ^ w) (s : State) (n : Nat) (src : Bool) (reg : Nat) :
    srcOperand s n src reg imm w = if src then gReg s n reg % 2 ^ w else imm := by
  rw [srcOperand, Nat.mod_eq_of_lt h]

theorem srcOperand_lt (s : State) (n : Nat) (src : Bool) (reg imm w : Nat) : srcOperand s n src reg imm w < 2 ^ w := by
  unfold srcOperand
  split <;> exact Nat.mod_lt _ (Nat.two_pow_pos w)

end Sys2Proof.Machine
end

section
/-! PROOF of `Obligations.ChiselWaits` (R132). -/

namespace Sys2Proof.Machine

/-- The immediate of WAIT has 30 bits, that of WAITA 32 (Table CHS-6). -/
theorem imm_lt_of_chsFormOk_wait {a b : Nat} (h : chsFormOk 2 a b = true) : b < 2 ^ 30 :=
  lt_of_onlyBits (w := 30) (Bool.and_eq_true_iff.1 h).2

theorem imm_lt_of_chsFormOk_waita {a b : Nat} (h : chsFormOk 3 a b = true) : b < 2 ^ 32 :=
  lt_of_onlyBits (w := 32) (Bool.and_eq_true_iff.1 h).2

/-- A ready instruction whose effect is a wait puts its Chisel into it, and changes nothing else. -/
theorem runs_startWait {c : Instr} {s : State} {n : Fin 128} {dt : BitVec 12} {op : Nat} {a : BitVec 19} {b : Word36} {w : State → ChsWait}
    (h : ChsReady s n dt op a b) (he : exec c s = .next (issue s n.val dt.toNat op a.toNat b.toNat [] fun u => startWait u n.val (w u))) :
    Runs c s [only R.CHS_STATUS_PC n, only R.CHS_STATUS_STATE n] [.chisels] fun t =>
      t.get R.CHS_STATUS_STATE n = 3 ∧
      ChsIssued s t n { chsNext s n (chsMinDt op) with wait := w (chsStart s n.val (chsMinDt op)) } := by
  obtain ⟨-, -, -, hnext, -⟩ := id h
  exact runs_issue h he ⟨startWait_state .., (chsStart_issued hnext _).startWait _⟩
    (startWait_frame (chsStart_frame ..) (named_cons (named_only_self ..) _) _)

theorem endWait_frame (s : State) (n : Nat) : Frame [only R.CHS_STATUS_STATE n] [.chisels] s (endWait s n) :=
  ((Frame.refl _ _ s).setChs List.mem_cons_self n _).set _ (named_only_self ..)

/-- Settles O24: a ready WAIT or WAITA enters its wait, whose end tick takes the immediate as it stands, since the form check holds it to the
operand's width; WAIT_END acts on that tick alone. -/
theorem chiselWaits : Obligations.ChiselWaits := by
  unfold Obligations.ChiselWaits
  refine ⟨fun n dt a b s h => ?_, fun n dt a b s h => ?_, fun n s hstate hwait => ?_, fun n r s hwait hr => ?_⟩
  · obtain ⟨-, -, -, -, hform⟩ := id h
    rw [← srcOperand_of_lt (imm_lt_of_chsFormOk_wait hform)]
    exact srcOperand_chsStart s n (chsMinDt 2) .. ▸ runs_startWait (c := .wait n dt a b) h rfl
  · obtain ⟨-, -, -, -, hform⟩ := id h
    rw [← srcOperand_of_lt (imm_lt_of_chsFormOk_waita hform)]
    exact srcOperand_chsStart s n (chsMinDt 3) .. ▸ runs_startWait (c := .waita n dt a b) h rfl
  · have he : execWaitEnd n s = .next (endWait s n) := by simp [execWaitEnd, hwait, hstate]
    exact ⟨_, he, ⟨State.get_set_self .., chs_setChs_self .., fun _ hj => sget_sset_ne _ _ _ _ hj⟩, endWait_frame ..⟩
  · change execWaitEnd n s = .next s
    simp [execWaitEnd, hwait, hr]

end Sys2Proof.Machine
end

section
/-! PROOF of `Obligations.ChiselBranches` (R136). -/

namespace Sys2Proof.Machine

/-! ### Conditions of BRG on signed values -/

theorem sgn_of_lt {w x : Nat} (h : x < 2 ^ w) : sgn w x = if x < 2 ^ (w - 1) then (x : Int) else (x : Int) - (2 ^ w : Nat) := by
  simp only [sgn, Nat.mod_eq_of_lt h]

theorem sgn_inj {w x y : Nat} (hx : x < 2 ^ w) (hy : y < 2 ^ w) : sgn w x = sgn w y ↔ x = y := by
  refine ⟨fun h => ?_, congrArg _⟩
  rw [sgn_of_lt hx, sgn_of_lt hy] at h
  split at h <;> split at h <;> omega

theorem sgn_eq_zero {w x : Nat} (hx : x < 2 ^ w) : sgn w x = 0 ↔ x = 0 := by
  have h0 : sgn w 0 = 0 := by simp [sgn]
  rw [← sgn_inj hx (Nat.two_pow_pos w), h0]

/-- On 36-bit registers the conditions of the model are those of Table CHS-9 on their signed values. -/
theorem chsCond_iff_brgTaken {x y : Nat} (hx : x < 2 ^ 36) (hy : y < 2 ^ 36) :
    ∀ cond, chsCond cond x y = true ↔ brgTaken cond (sgn 36 x) (sgn 36 y)
  | 0 => beq_iff_eq.trans (sgn_eq_zero hx).symm
  | 1 => bne_iff_ne.trans (sgn_eq_zero hx).not.symm
  | 2 | 3 | 6 | _ + 7 => decide_eq_true_iff
  | 4 => beq_iff_eq.trans (sgn_inj hx hy).symm
  | 5 => bne_iff_ne.trans (sgn_inj hx hy).not.symm

theorem gReg_lt {s : State} (hs : Canon s) (n k : Nat) : gReg s n k < 2 ^ 36 :=
  get_lt hs (f := R.CHS_G_VALUE) (by decide +kernel) _

/-! ### The K counters -/

/-- The immediate of SETK has 24 bits (Table CHS-6). -/
theorem imm_lt_of_chsFormOk_setk {a b : Nat} (h : chsFormOk 10 a b = true) : b < 2 ^ 24 :=
  lt_of_onlyBits (w := 24) (Bool.and_eq_true_iff.1 h).2

theorem kReg_setK_self (s : State) (n k v : Nat) : kReg (setK s n k v) n k = v % 2 ^ 24 := State.get_set_self ..

theorem setK_frame {rs : List Place} {ps : List Part} {s t : State} {n k : Nat} (h : Frame rs ps s t) (hk : k < 4)
    (hm : named rs R.CHS_K_VALUE (4 * n + k) = true) (v : Nat) : Frame rs ps s (setK t n k v) :=
  h.set _ (by rwa [Nat.mod_eq_of_lt hk])

/-! ### The statement -/

/-- Settles O25: JMP takes its target and LOOP does while its counter is not zero, SETK writes the counter, whose immediate the form check
holds to 24 bits, and BRG decides by the condition of its registers, which a canonical state holds to 36 bits. -/
theorem chiselBranches : Obligations.ChiselBranches := by
  unfold Obligations.ChiselBranches
  refine ⟨fun n dt a b s h => ?jmp, fun n dt a b s h hk => ?loopTaken, fun n dt a b s h hk => ?loopDone, fun n dt a b s h => ?setk,
    fun n dt a b s hs h => ?brg⟩ <;> obtain ⟨-, -, -, hnext, hform⟩ := id h
  case jmp => exact runs_issue h rfl ((chsStart_issued hnext _).jumpTo _) (jumpTo_frame (chsStart_frame ..) ..)
  case loopTaken =>
    refine runs_issue (act := fun u => jumpTo (setK u n (bits a.toNat 18 17) (kReg s n (bits a.toNat 18 17) - 1)) n (chsTarget b.toNat)) h ?_
      ⟨kReg_setK_self .., ((chsStart_issued hnext _).setK ..).jumpTo _⟩
      (jumpTo_frame (setK_frame (chsStart_frame ..) (bits_lt ..) (named_cons (named_only_self ..) _) _) ..)
    change execLoop n dt a b s = _
    simp only [execLoop, issue_ready h, kReg_chsStart, if_neg hk]
  case loopDone =>
    refine runs_issue (act := id) h ?_ (chsStart_issued hnext _) (chsStart_frame ..)
    change execLoop n dt a b s = _
    simp only [execLoop, issue_ready h, kReg_chsStart, if_pos hk, id]
  case setk =>
    refine runs_issue h rfl ⟨?_, (chsStart_issued hnext _).setK ..⟩
      (setK_frame (chsStart_frame ..) (bits_lt ..) (named_cons (named_only_self ..) _) _)
    rw [kReg_setK_self, srcOperand_chsStart, Nat.mod_eq_of_lt (srcOperand_lt ..), srcOperand_of_lt (imm_lt_of_chsFormOk_setk hform)]
  case brg =>
    have hcond := chsCond_iff_brgTaken (gReg_lt hs n (bits a.toNat 18 15)) (gReg_lt hs n (bits a.toNat 14 11)) (bits a.toNat 10 8)
    rw [← hcond]
    refine runs_issue h rfl ?result ?frame <;> simp only [gReg_chsStart] <;> split
    case result.isTrue htaken => exact ⟨fun _ => (chsStart_issued hnext _).jumpTo _, fun hn => absurd htaken hn⟩
    case result.isFalse hnot => exact ⟨fun ht => absurd ht hnot, fun _ => chsStart_issued hnext _⟩
    case frame.isTrue => exact jumpTo_frame (chsStart_frame ..) ..
    case frame.isFalse => exact chsStart_frame ..

end Sys2Proof.Machine
end

section
/-! PROOF of `Obligations.ChiselIssueTicks` (R149). Every issue first moves the program counter on, which makes this tick the reference; what
follows, the effect or the violation, keeps it. -/

namespace Sys2Proof.Machine

theorem advance_ref (s : State) (n op : Nat) : (chs (advance s n op) n).ref = s.tick := by
  by_cases h : (chs s n).next < 32768 <;> simp [advance, h]

theorem chs_chiselViolation (s : State) (n : Nat) (codes : List Nat) (pc m : Nat) : chs (chiselViolation s n codes pc) m = chs s m :=
  (chiselViolation_within ..).chs_eq (by decide +kernel) m

/-- An issue on its tick leaves this tick as the reference, whichever checks fail, when its effect keeps the reference. -/
theorem issue_ref {s : State} {n dt : Nat} (hi : issues s n dt = true) {op a b : Nat} {codes : List Nat} {act : State → State}
    (hact : ∀ u, (chs (act u) n).ref = (chs u n).ref) : (chs (issue s n dt op a b codes act) n).ref = s.tick := by
  unfold issue
  rw [if_pos hi]
  extract_lets pc short bad all s1
  have h1 : (chs s1 n).ref = s.tick := advance_ref ..
  by_cases h : all = []
  · rw [if_pos h, hact, h1]
  · rw [if_neg h, chs_chiselViolation, h1]

theorem setChs_ref {s : State} {n : Nat} {c : Chs} (h : c.ref = (chs s n).ref) : (chs (setChs s n c) n).ref = (chs s n).ref :=
  (congrArg Chs.ref (chs_setChs_self ..)).trans h

theorem startWait_ref (s : State) (n : Nat) (w : ChsWait) : (chs (startWait s n w) n).ref = (chs s n).ref := setChs_ref rfl

theorem jumpTo_ref (s : State) (n target : Nat) : (chs (jumpTo s n target) n).ref = (chs s n).ref := setChs_ref rfl

theorem chs_setG (s : State) (n k v m : Nat) : chs (setG s n k v) m = chs s m := rfl

theorem chs_fire (s : State) (src m : Nat) : chs (fire s src) m = chs s m := (fire_within ..).chs_eq (by decide +kernel) m

theorem chs_tagRecord (s : State) (n pc g tag m : Nat) : chs (tagRecord s n pc g tag) m = chs s m :=
  (tagRecord_within ..).chs_eq (by decide +kernel) m

theorem chs_harvestTake (s : State) (p : HPoint) (m : Nat) : chs (harvestTake s p).2 m = chs s m :=
  (harvestTake_within ..).chs_eq (by decide +kernel) m

theorem chs_biasOrder (s : State) (l code m : Nat) : chs (biasOrder s l code) m = chs s m := (biasOrder_within ..).chs_eq (by decide +kernel) m

theorem chs_orderWindow (s : State) (n d len pc m : Nat) : chs (orderWindow s n d len pc) m = chs s m :=
  (orderWindow_within ..).chs_eq (by decide +kernel) m

/-- Command `c` at `s` answers a next state in which this tick is the reference of Chisel `n`. -/
def MarksIssueTick (c : Instr) (s : State) (n : Nat) : Prop := ∃ t, exec c s = .next t ∧ (chs t n).ref = s.tick

section
variable {s : State} {n : Fin 128} {dt : BitVec 12} (hi : issues s n.val dt.toNat = true) (a : BitVec 19) (b : Word36)
include hi

theorem marksIssueTick_issue {c : Instr} {op : Nat} {codes : List Nat} {act : State → State}
    (he : exec c s = .next (issue s n.val dt.toNat op a.toNat b.toNat codes act))
    (hact : ∀ u, (chs (act u) n.val).ref = (chs u n.val).ref) : MarksIssueTick c s n.val :=
  ⟨_, he, issue_ref hi hact⟩

theorem marksIssueTick_of_chs_eq {c : Instr} {op : Nat} {codes : List Nat} {act : State → State}
    (he : exec c s = .next (issue s n.val dt.toNat op a.toNat b.toNat codes act)) (hact : ∀ u, chs (act u) n.val = chs u n.val) :
    MarksIssueTick c s n.val :=
  marksIssueTick_issue hi a b he fun u => congrArg Chs.ref (hact u)

theorem marksIssueTick_of_startWait {c : Instr} {op : Nat} {w : State → ChsWait}
    (he : exec c s = .next (issue s n.val dt.toNat op a.toNat b.toNat [] fun u => startWait u n.val (w u))) : MarksIssueTick c s n.val :=
  marksIssueTick_issue hi a b he fun _ => startWait_ref ..

theorem end_marksIssueTick : MarksIssueTick (.end_ n dt a b) s n.val := by
  refine ⟨_, rfl, ?_⟩
  rw [if_pos hi]
  split
  · exact advance_ref ..
  · rw [chs_chiselViolation, advance_ref]

theorem lbar_marksIssueTick : MarksIssueTick (.lbar n dt a b) s n.val := by
  refine marksIssueTick_issue hi a b rfl fun u => ?_
  extract_lets k part tmo arrived
  split
  · exact startWait_ref ..
  · rw [startWait_ref]
    unfold arrived
    split <;> rfl

theorem brg_marksIssueTick : MarksIssueTick (.brg n dt a b) s n.val := by
  refine marksIssueTick_issue hi a b rfl fun u => ?_
  split
  · exact jumpTo_ref ..
  · rfl

theorem loop_marksIssueTick : MarksIssueTick (.loop_ n dt a b) s n.val := by
  refine marksIssueTick_issue hi a b rfl fun u => ?_
  dsimp only
  split
  · rfl
  · exact jumpTo_ref ..

/-- HARVEST writes its register once more when it is out of order; that is no sequencing state. -/
theorem harvest_marksIssueTick : MarksIssueTick (.harvest n dt a b) s n.val := by
  refine ⟨_, rfl, ?_⟩
  cases hp : pointOn s n.val (bits b.toNat 15 0) with
  | none => exact issue_ref hi fun _ => rfl
  | some p =>
    dsimp only
    split <;> exact issue_ref hi fun u => congrArg Chs.ref ((chs_setG ..).trans (chs_harvestTake ..))

theorem emit_marksIssueTick : MarksIssueTick (.emit n dt a b) s n.val := by
  refine marksIssueTick_of_chs_eq hi a b rfl fun u => ?_
  extract_lets v
  have hv : chs v n = chs u n := by
    unfold v
    split
    · exact chs_fire ..
    · rfl
  split
  · exact (chs_tagRecord ..).trans hv
  · exact hv

theorem table_marksIssueTick : MarksIssueTick (.table_ n dt a b) s n.val := by
  refine marksIssueTick_of_chs_eq hi a b rfl fun u => ?_
  dsimp only
  split <;> rfl

/-- The instructions of Table CHS-5, one by one. -/
theorem chsIssues_markIssueTick : ∀ i ∈ chsIssues, MarksIssueTick (i.2 n dt a b) s n.val := by
  simp only [chsIssues, List.forall_mem_cons]
  exact ⟨end_marksIssueTick hi a b,
    marksIssueTick_of_chs_eq (c := .nop n dt a b) hi a b rfl fun _ => rfl,
    marksIssueTick_of_startWait (c := .wait n dt a b) hi a b rfl,
    marksIssueTick_of_startWait (c := .waita n dt a b) hi a b rfl,
    marksIssueTick_of_startWait (c := .waitt n dt a b) hi a b rfl,
    lbar_marksIssueTick hi a b,
    marksIssueTick_issue (c := .jmp n dt a b) hi a b rfl fun _ => jumpTo_ref ..,
    marksIssueTick_issue (c := .brd n dt a b) hi a b rfl fun _ => setChs_ref rfl,
    brg_marksIssueTick hi a b,
    loop_marksIssueTick hi a b,
    marksIssueTick_of_chs_eq (c := .setk n dt a b) hi a b rfl fun _ => rfl,
    marksIssueTick_of_chs_eq (c := .alu n dt a b) hi a b rfl fun _ => rfl,
    harvest_marksIssueTick hi a b,
    emit_marksIssueTick hi a b,
    marksIssueTick_of_chs_eq (c := .play n dt a b) hi a b rfl fun _ => rfl,
    table_marksIssueTick hi a b,
    marksIssueTick_of_chs_eq (c := .bias n dt a b) hi a b rfl fun _ => chs_biasOrder ..,
    marksIssueTick_of_chs_eq (c := .mark n dt a b) hi a b rfl fun _ => rfl,
    marksIssueTick_of_chs_eq (c := .window n dt a b) hi a b rfl fun _ => chs_orderWindow ..,
    marksIssueTick_of_chs_eq (c := .shift n dt a b) hi a b rfl fun _ => rfl,
    marksIssueTick_of_chs_eq (c := .setf n dt a b) hi a b rfl fun _ => rfl,
    marksIssueTick_of_chs_eq (c := .setfr n dt a b) hi a b rfl fun _ => rfl,
    marksIssueTick_of_chs_eq (c := .freset n dt a b) hi a b rfl fun _ => rfl,
    fun _ h => absurd h List.not_mem_nil⟩

end

/-- Settles O27: the command of every instruction of Table CHS-5 is an issue, or END, and each leaves its tick as the reference. -/
theorem chiselIssueTicks : Obligations.ChiselIssueTicks := by
  unfold Obligations.ChiselIssueTicks
  intro k n dt a b s hstate htick
  have hi : issues s n dt.toNat = true := by simp [issues, hstate, htick]
  exact chsIssues_markIssueTick hi a b _ (List.get_mem chsIssues k)

end Sys2Proof.Machine
end
